-- ==== Sys2Proof/Word.lean ====
section
/-! DEFINITION. The values the block exchanges: bytes and words, the two's-complement and rounding
arithmetic of the host formats (R4–R6), status codes (R31), record kinds (R490) and the operand types
that several commands carry.  Register fields, counters and indices are natural numbers kept below
`2 ^ width`; physical quantities are integers in the host units of R4. -/

namespace Sys2Proof

/-- A 32-bit set-up register word or ring index, as a natural number below `2 ^ 32`. -/
abbrev Word := Nat

/-- One byte. -/
abbrev Byte := Nat

def two32 : Nat := 4294967296

/-- The two's-complement reading of a `w`-bit field. -/
def toSigned (w n : Nat) : Int := if n < 2 ^ (w - 1) then n else (n : Int) - 2 ^ w

/-- The `w`-bit two's-complement pattern of an integer. -/
def ofSigned (w : Nat) (i : Int) : Nat := (i % (2 ^ w : Int)).toNat

def clampI (lo hi x : Int) : Int := max lo (min hi x)

def clampN (lo hi x : Nat) : Nat := max lo (min hi x)

/-- Division rounded to the nearest integer, ties away from zero (R5). -/
def roundDiv (a : Int) (b : Nat) : Int :=
  if 0 ≤ a then (2 * a + b) / (2 * b) else - ((2 * (-a) + b) / (2 * b))

/-- Saturation to an unsigned `w`-bit host format, one step short of the marker (R5, R6). -/
def satU (w : Nat) (x : Int) : Nat := (clampI 0 (2 ^ w - 2) x).toNat

/-- Saturation to a signed `w`-bit host format, one step short of the marker (R5, R6). -/
def satS (w : Nat) (x : Int) : Nat := ofSigned w (clampI (1 - 2 ^ (w - 1)) (2 ^ (w - 1) - 1) x)

/-- A value in int32, saturated; −2³¹ is the marker (R5, R6). -/
def int32Of (x : Int) : Nat := if x = -2147483648 then 2147483648 else satS 32 x

/-- The marker of an unsigned format: its largest value (R6). -/
def markU (w : Nat) : Nat := 2 ^ w - 1

/-- The marker of a signed format: its most negative value (R6). -/
def markS (w : Nat) : Nat := 2 ^ (w - 1)

/-- Little-endian bytes of a number, `n` of them. -/
def leBytes : Nat → Nat → List Byte
  | 0, _ => []
  | n + 1, v => v % 256 :: leBytes n (v / 256)

/-- The number that little-endian bytes spell. -/
def ofLe : List Byte → Nat
  | [] => 0
  | b :: bs => b % 256 + 256 * ofLe bs

def isqrtGo : Nat → Nat → Nat → Nat
  | 0, _, r => r
  | k + 1, n, r => let t := r + 2 ^ k; isqrtGo k n (if t * t ≤ n then t else r)

/-- Floor of the square root of a number below `2 ^ 256`. -/
def isqrt (n : Nat) : Nat := isqrtGo 128 n 0

/-- Status codes (R31, R32). -/
inductive Status where
  | ok | accepted | state | role | param | range | busy | aborted | timeout | noAck | arbLost
  | noResource | integrity | auth | version | migration | safety | internal
  deriving DecidableEq, Repr

/-- The 8-bit code of a status (R31). -/
def Status.code : Status → Nat
  | .ok => 0x00 | .accepted => 0x01 | .state => 0x10 | .role => 0x11 | .param => 0x12 | .range => 0x13
  | .busy => 0x14 | .aborted => 0x20 | .timeout => 0x21 | .noAck => 0x22 | .arbLost => 0x23
  | .noResource => 0x30 | .integrity => 0x40 | .auth => 0x41 | .version => 0x42 | .migration => 0x43
  | .safety => 0x50 | .internal => 0xFF

/-- Record kinds (R488, R490). -/
inductive RecKind where
  | command | flag | mode | session | safety | sparing | detail
  deriving DecidableEq, Repr

def RecKind.code : RecKind → Nat
  | .command => 1 | .flag => 2 | .mode => 3 | .session => 4 | .safety => 5 | .sparing => 6 | .detail => 7

/-- What a host command carries beside its arguments: its TAG and the port it came by
(0 ETH-A, 1 ETH-B, 2 service port, 3 internal; R382, R490). -/
structure Hdr where
  tag : Nat
  port : Nat
  deriving DecidableEq, Repr

/-- A CAN frame that was sent and acknowledged (R407, R408): its start-of-frame on corrected time in ns, and the buffers that became pending
only after it. -/
structure CanSent where
  sof : Nat
  late : List Nat
  deriving DecidableEq, Repr

/-- How a frame arrives at a host port (R368–R371): its VLAN tag, its source address, whether its ICV is good, its length in bytes before
MACsec, and the VERSION of its HRT header. -/
structure FrameIn where
  vlan : Option Nat
  source : Nat
  icvOk : Bool
  length : Nat
  version : Nat
  /-- Packet number of its MACsec tag (R456). -/
  pn : Nat := 1
  deriving DecidableEq, Repr

/-- A command entry of ring 0 (R382); the arguments travel with the command's own row. -/
structure CmdEntry where
  opcode : Nat
  fence : Bool
  reserved : Bool := false
  tag : Nat
  bulkLen : Nat
  bulkIndex : Nat
  deriving DecidableEq, Repr

/-- One copy of a LATH frame on its way to the ring master (R94): it does not arrive, or it arrives with the listed bytes changed,
each by its position in the two codewords (0–71) and the bits changed in it. -/
inductive Copy where
  | absent
  | hit (errs : List (Nat × Nat))
  deriving DecidableEq, Repr

/-- What the converters of a card give at an instant, before calibration (R66, R86): C1–C16 and the spare in µV, SUM in 16 µV, the
ratio code of the NTC input in turn, the die temperature in °C, and whether a self-test of the card finds a fault. -/
structure CardRead where
  cells : List Int
  sum : Int
  spare : Int
  ntc : Nat
  die : Int
  fault : Bool := false
  deriving DecidableEq, Repr

/-- The factory data of a segment card: resistance of its 16 paths in mΩ (R131), its reference's calibrated value in µV (R82), the
turnaround of an echo in ns (R72), and for each of its 18 converters the gains in 10⁻⁶ above 1 and the offsets in the converter's
unit at −20, +25 and +70 °C (R86). -/
structure CardFac where
  rpath : List Nat := []
  ref : Int := 2500000
  turn : Nat := 0
  gain : List (List Int) := []
  off : List (List Int) := []
  deriving DecidableEq, Repr

/-- The codes that a card echoes (R113, R118): OV code, UV code, and the wire whose pair its comparators span, 31 none. -/
structure CmpEcho where
  ov : Nat
  uv : Nat
  wire : Nat := 31
  deriving DecidableEq, Repr

/-- The data of a sample frame (R92); cells in µV, SUM in 16 µV, SPARE in µV, NTC as ratio code. -/
structure SampleFrame where
  seq : Nat
  aligned : Bool
  provisional : Bool
  spareSubst : Bool
  timingB : Bool
  ovAny : Bool
  uvAny : Bool
  selftest : Bool
  cells : List Int
  sum : Int
  spare : Int
  ntc : Nat
  sparePos : Nat
  die : Int
  balMap : Nat
  deriving DecidableEq, Repr

/-- The int24 code of a result that is missing (R67). -/
def missing24 : Int := -8388608

/-- What the motion controller has of one axis at a planner tick (R331, R338): position, velocity and acceleration; of phases a and b the
voltage in mV, the current in mA and its rate in A/s; the motor supply in 10 mV. -/
structure AxisRead where
  pos : Int
  vel : Int
  acc : Int
  ua : Int
  ub : Int
  ca : Int
  cb : Int
  da : Int
  db : Int
  vm : Nat
  deriving DecidableEq, Repr

/-- What a PTP message brings (R352–R357): an Announce with its grandmaster identity and the members of its data set in the order of the
data set comparison, lower better; a Sync, complete with its Follow_Up, with the base-2 logarithm of its interval in seconds, its origin
time on TAI and its ingress at the MAC/PHY boundary on corrected time, in ns; a completed delay exchange of one of the two mechanisms with
its differences out and back in ns; anything else. -/
inductive PtpMsg where
  | announce (gmLo gmHi : Nat) (rank : List Nat)
  | sync (log2 : Int) (origin ingress : Nat)
  | delay (p2p : Bool) (out back : Int)
  | other
  deriving DecidableEq, Repr

/-- Is a data set better than another, member by member (R355)? -/
def rankBetter : List Nat → List Nat → Bool
  | a :: l, b :: m => decide (a < b) || (a == b && rankBetter l m)
  | _, _ => false

/-- A certificate as the TLS exchange presents it (R451, R452): its serial, the serials of its chain with its own, the slot
of the anchor it chains to, the roles it carries as bits, the earliest notAfter and the latest notBefore of the chain. -/
structure Cert where
  serial : Nat
  chain : List Nat
  anchor : Option Nat
  roles : Nat
  notAfter : Nat
  notBefore : Nat
  deriving DecidableEq, Repr

/-- An EAPOL message of the EAP-TLS exchange (R370): one more of the exchange, its end with the host's certificate, a
failure. -/
inductive EapMsg where
  | step
  | certificate (c : Cert)
  | failure
  deriving DecidableEq, Repr

/-- A frame on a CAN bus (R401, R404): identifier, extended, remote, FD, BRS and ESI marks, DLC, data and the corrected time
of its start-of-frame in ns (R407). -/
structure CanFrame where
  id : Nat
  ide : Bool
  rtr : Bool
  fdf : Bool
  brs : Bool
  esi : Bool
  dlc : Nat
  data : List Byte
  time : Nat
  deriving DecidableEq, Repr

/-- How the sample of a sensor bus and its clear end (R429, R430). -/
inductive BusClear where
  /-- Both lines high in the sample. -/
  | free
  /-- SDA released within the nine pulses. -/
  | released
  /-- The branches of a bit map are culprits and stay open; `scl`: SCL was low throughout, else SDA. -/
  | isolated (mask : Nat) (scl : Bool)
  /-- A line stays low with all four branches open. -/
  | fault
  deriving DecidableEq, Repr

/-- A direction of the bank ring on which a marker arrives (R354): arrival in corrected time and measured delay from the master, both in
ns, and hops from the master. -/
structure MarkerPath where
  arrival : Nat
  delay : Nat
  hops : Nat
  deriving DecidableEq, Repr

/-- A bank message (R259).  A string's state carries its mean current in mA with its index and unaligned mark, voltage in mV,
published limits (currents in mA, powers in W), and the SOC, σ, capacity and energies that the bank frames of R247 need. -/
inductive BankMsg where
  | heartbeat (mode : Nat) (closed : Bool) (fw : Nat) (aligned dup : Bool)
  | stringState (mean : Option Int) (idx : Nat) (unaligned : Bool) (volt : Option Int) (soc sigma cap : Nat) (eLow eHigh : Int)
      (limits : List Int)
  | bankLimits (limits : List Int) (chg dis : List (Nat × Rat))
  | parallelReq (volt : Int)
  | grant (pos reason : Nat)
  | closed
  | isoResult (rp rpos rneg cap : Nat)
  | corrStart (start : Nat) (bins : List (Nat × Nat)) (tInt imin : Nat)
  /-- The master's PLUMB marker: its PLUMB index, TAI_VALID and ALIGNED of the master, and the paths on which a receiver hears it. -/
  | marker (idx : Nat) (tai aligned : Bool) (paths : List MarkerPath)
  | openAll
  deriving DecidableEq, Repr

/-- What holds the lines of a sensor bus low while it is sampled and cleared (R429, R430): the branches that hold SDA and SCL, as bit maps,
whether the module's side of the switches does, and the clock pulse at which what holds SDA lets go, if any. -/
structure BusSense where
  sda : Nat := 0
  scl : Nat := 0
  sdaOwn : Bool := false
  sclOwn : Bool := false
  release : Option Nat := none
  deriving DecidableEq, Repr

/-- What has run out on a sensor bus, with its length in µs (R428): SCL or SDA held low without a break; the stretching of a transfer in
total; the block's own low phases within one byte. -/
inductive Stretch where
  | held (us : Nat)
  | total (us : Nat)
  | byte (us : Nat)
  deriving DecidableEq, Repr

/-- One operation of a SETUP_REQ or of the service port (R375, R376).  Where it cancels a CAN frame, `won` says that the frame has
already won arbitration; where it requests one, that hardware clears REQ in the same cycle; where it switches a sensor bus on, `clear` is what the sample of the bus finds. -/
structure SetupOp where
  addr : Nat
  value : Nat
  write : Bool
  won : Bool := false
  clear : BusSense := {}
  deriving DecidableEq, Repr

/-- A piece of protected memory that the scrubber or an access reads (R23, R25–R27): safety memory by its four places
(0 STF-P memory, 1 STF-H parameter store, 2 parameter block copies in MRAM, 3 charge counter storage), SRAM, DRAM, an
instance record, the coefficients or a table of the state engine, MRAM at a byte offset (its 1 KiB row wears), a block of a flash
device, the caches of a core.  In DRAM, the TAG of the bulk-out transfer whose data the codeword holds, if any. -/
inductive MemRegion where
  | safety (place : Nat)
  | sram (addr : Nat)
  | dram (addr : Nat) (tag : Option Nat := none)
  | seInst (slot inst : Nat)
  | seCoef (slot : Nat)
  | seTable (table : Nat)
  | mram (addr : Nat)
  | flash (device block : Nat)
  | cache (core : Nat)
  deriving DecidableEq, Repr

/-- What steps 6–8 of a join find (R100): the self-test of step 6 passes; the spare's reading of the reference in µV; over the 64
instants of step 8 the means of Σ C1–C16 and SUM in µV and the SFC's shadow monitor in mV; the echoed comparator codes. -/
structure JoinCheck where
  self : Bool := true
  ref : Int := 2500000
  cells : Int := 0
  sum : Int := 0
  shadow : Int := 0
  echo : CmpEcho
  deriving DecidableEq, Repr

/-- What is read at the moment when the second part of the two-part reset arrives: by cause code, the conditions that must have held
for a time (R296), and by slot the comparators de-asserted for 100 ms, OV in bits 0–15 and UV in bits 16–31 (R120). -/
structure ResetRead where
  held : Nat
  rel : List (Nat × Nat)
  deriving DecidableEq, Repr

/-- How the join of one segment card goes at a start (R100): round trips of its echo in ns in both directions, the checks, latches
the card shows (OV, UV). -/
structure JoinRes where
  slot : Nat
  rtA : Nat
  rtB : Nat
  check : JoinCheck
  ov : Nat
  uv : Nat
  deriving DecidableEq, Repr

/-- What a start of the module, or of its controller card, finds (R56–R60, R65, R447, R458, R479): the controller card stands in
its slot; `banks` bit b, the image in
CTL bank b verifies; PUF helper data good; a core that fails its self-test; a new image's settings migration works; the
retained code region agrees with its digest; the reed sensor's latch is set and the lid open; self-tests of both channels and
the charge counter; contacts of SI1–SI8 closed (channel a in bits 0–7, b in 8–15); coil supply, PSU-A and PSU-B good; bank
strap; serial numbers of the cards by key; joins of the segment cards and the comparators released for 100 ms by slot; what
the bus samples of SB0 and SB1 find; the slots that hold no card at all and the factory data of the segment cards, by slot; the
temperature in °C that STF-C's die has read last in PRIMER (R529). -/
structure Boot where
  ctl : Bool := true
  banks : Nat := 3
  puf : Bool := true
  core : Option Nat := none
  migrates : Bool := true
  retained : Bool := true
  latch : Bool := false
  lid : Bool := false
  selfTest : Bool := true
  contacts : Nat := 0
  coil : Bool := true
  psuA : Bool := true
  psuB : Bool := true
  strap : Nat := 0
  serials : List (Nat × Nat) := []
  joins : List JoinRes := []
  rel : List (Nat × Nat) := []
  sb0 : BusSense := {}
  sb1 : BusSense := {}
  empty : List Nat := []
  facs : List (Nat × CardFac) := []
  die : Int := 25
  deriving DecidableEq, Repr

end Sys2Proof
end

