-- ==== Sys2Proof/Syntax.lean ====
section
/-! DEFINITION. The commands and events of the block, one constructor per row of spec/opcode_table.json.
A host command carries its header (`Hdr`) and its arguments; an event carries what happens outside the block
or is measured at that moment.  The table gives no bits, so the operands follow the rule each row cites. -/

namespace Sys2Proof

/-- One constructor per row of the operation and event table. -/
inductive Instr where
  /-- Aux rises above 18.0 V on an unpowered module and the start-up sequence runs through PRIMER, image selection and segment joins to STANDBY or LOCKOUT (R56). -/
  | powerOn (b : Boot)
  /-- A power domain fails to report its supply in tolerance within 5 ms; a record is written and start-up continues without it (R55). -/
  | domainPowerTimeout (dom : Nat)
  /-- Aux falls below the loss threshold, starting the 10 ms dip timer; an 11th dip within 1 s counts as aux loss (R61). -/
  | auxBelowLoss (mv : Nat)
  /-- Aux returns above the return threshold within 10 ms, so AUX_DIP is set and a traffic record written (R61). -/
  | auxDip (mv : Nat)
  /-- Aux stays below the loss threshold for 10 ms and the irreversible aux-loss sequence runs: zero limits, contactors off, saves, domains off (R61). -/
  | auxLoss (mv : Nat)
  /-- Aux has stayed above the return threshold for 100 ms after aux loss and the module starts with a power-on reset (R62). -/
  | auxReturnStable (b : Boot)
  /-- HOLDUP_OK returns to 1 and a deferred learned-state write starts (R237). -/
  | holdupOkReturn
  /-- The idle module enters the deepest power state allowed by the mode and PWR_LAT_TOL (R50). -/
  | powerStateEntry
  /-- A host or internal request finding the module idle brings it back to P0 within the exit latency (R51). -/
  | powerStateExit
  /-- The AON front end sees a START with the wake address in SHELF, wakes the module and sets SB_EVENT.WAKE (R433). -/
  | sbWakeMatch (c branch addr : Nat) (b : Boot)
  /-- A matching classical base-format frame on a CAN bus in SHELF wakes the module (R415). -/
  | canWakeFrame (c id : Nat) (data : List Byte) (b : Boot)
  /-- Link energy on a host port after at least 1 s of silence wakes the module from SHELF (R397). -/
  | ethWake (port : Nat) (b : Boot)
  /-- A SHELF fault-tone burst does not arrive, which is loss of the tone and a wake event (R126). -/
  | shelfBurstMissing (b : Boot)
  /-- The STF-C watchdog expires or PRIMER faults, causing a controller reset (kind 4) (R58). -/
  | stfCWatchdog (detail : Nat) (b : Boot)
  /-- STF-P sees no PROXY heartbeat for 50 ms or the bridge is down and treats STF-C as absent, holding the mode (R445). -/
  | stfCHeartbeatLoss
  /-- The controller card stays absent beyond the CTL absence time and the module performs an orderly open and holds the string open (R64). -/
  | ctlAbsenceTimeout
  /-- A returning controller card starts with a controller reset, adopts the mode and charge counter, and takes over under R506 if new (R65). -/
  | ctlInserted (serial : Nat) (b : Boot)
  /-- A new safety card starts as at power-on, resumes the charge counter and the module leaves SERVICE for STANDBY with the MRAM block pending (R505). -/
  | sfcInserted (serial : Nat) (b : Boot)
  /-- PSU-A output leaves tolerance or the card is withdrawn; the other card carries the load and PSU-B takes over injection after listening (R168). -/
  | psuOutOfTolerance (b : Bool)
  /-- The READY hold time expires and the module returns to STANDBY (R39). -/
  | readyHoldExpiry
  /-- A READY_BLOCK bit becomes 1 while in READY and the module returns to STANDBY (R46). -/
  | readyConditionLost
  /-- During an orderly open |I| falls below 1 % of the continuous rating or 5 s pass, and KP and KN are opened (R39). -/
  | orderlyOpenComplete
  /-- The module takes the next command from ring 0 when ring 1 has room, advances MOD_IDX and checks mode legality (R383). -/
  | commandTake (entry : List Byte)
  /-- A command's bulk data are not all posted 10 ms after it was taken; it completes with PARAM and its entries are skipped (R383). -/
  | bulkDataTimeout (op tag : Nat)
  /-- Requests a mode transition; completes ACCEPTED and then OK when it takes effect or with the failed condition's status (R39). -/
  | modeRequest (h : Hdr) (target : Nat)
  /-- Writes PWR_LAT_TOL (R50). -/
  | setLatencyTolerance (h : Hdr) (tol : Nat)
  /-- Performs a module restart of CTL, MOT and segment cards (R58). -/
  | restart (h : Hdr) (b : Boot)
  /-- Returns SYS_MODE, PWR_STATE, PWR_AUX_STATUS and PWR_RESET_CAUSE (R45). -/
  | readStatus (h : Hdr)
  /-- Returns the HRT registers and ring-state words (R400). -/
  | hrtStatus (h : Hdr)
  /-- Moves the rings to the named keyed port at a frame boundary (R396). -/
  | hrtPortSwitch (h : Hdr) (port : Nat)
  /-- Sets the telemetry kind and range of an assignable ring from the next frame boundary (R400). -/
  | hrtTlmSet (h : Hdr) (ring kind slot div first count : Nat)
  /-- Writes the summary telemetry rate (R400). -/
  | hrtSummaryRate (h : Hdr) (hz : Nat)
  /-- Sets the averaging window N, the current window completing under the old N (R77). -/
  | setAveraging (h : Hdr) (n : Nat)
  /-- Starts the raw stream of selected segments into a telemetry ring (R104). -/
  | rawStreamStart (h : Hdr) (ring mask : Nat)
  /-- Stops the raw stream at the next instant and returns the ring to kind 0 (R103). -/
  | rawStreamStop (h : Hdr)
  /-- Runs one spare rotation at 0.25 s dwell and returns the 17 mean differences (R103). -/
  | calCheck (h : Hdr) (k : Nat)
  /-- Returns SEG_STATE_s, LATH_DELAY_s and LATH_STATUS (R103). -/
  | segStatus (h : Hdr) (k : Nat)
  /-- Runs a 1 s shadow dwell of the spare on a position and substitutes it if it agrees (R103). -/
  | spareAssign (h : Hdr) (k j : Nat)
  /-- Resets a segment card, which then rejoins from step 2 of R100 (R530). -/
  | segReset (h : Hdr) (k : Nat)
  /-- Returns wire and comparator latch state and the last block's amplitudes (R130). -/
  | wireStatus (h : Hdr) (k : Nat)
  /-- Clears a segment's latched wire faults if the last DETECT_BLOCKS blocks carried no verdict (R116). -/
  | wireFaultClear (h : Hdr) (k : Nat)
  /-- Returns current, charge, string voltage and insulation registers (R172). -/
  | cimStatus (h : Hdr)
  /-- Abandons the insulation cycle in progress and starts a new one (R172). -/
  | isoMeasureNow (h : Hdr)
  /-- Writes the insulation warning and alarm thresholds (R172). -/
  | isoSetThresh (h : Hdr) (warn alarm : Nat)
  /-- Selects interleaved or compensated balancing from the next period (R139). -/
  | balSetMode (h : Hdr) (m : Nat)
  /-- Starts a balancing campaign of the given kind, target, deadband and time limit (R148). -/
  | balCampaignStart (h : Hdr) (kind target deadband limit : Nat)
  /-- Sets duties to 0 from the next period and ends the running campaign with ABORTED (R149). -/
  | balCampaignStop (h : Hdr)
  /-- Sets one cell's duty in a manual campaign (R149). -/
  | balSetDuty (h : Hdr) (cell duty : Nat)
  /-- Returns balancing status, duty and path registers (R149). -/
  | balStatus (h : Hdr) (k : Nat)
  /-- Marks a segment's wires unlearned and relearns them; OK when all are learned (R147). -/
  | balLearnRw (h : Hdr) (k : Nat)
  /-- Returns the 17 learned wire resistances of a segment (R149). -/
  | balRwRead (h : Hdr) (k : Nat)
  /-- Returns the string estimation quantities, EST_STATUS and the advised calibration band (R243). -/
  | estStatus (h : Hdr)
  /-- Returns per-cell estimation quantities (R243). -/
  | estCellRead (h : Hdr) (first count : Nat)
  /-- Checks and loads an OCV table, taking effect at the slot-0 reload (R223). -/
  | estOcvLoad (h : Hdr) (table : List Byte)
  /-- Writes the reserve parameters BASE, K and r_high (R226). -/
  | estSetReserve (h : Hdr) (base k rHigh : Nat)
  /-- Writes the observer rate and reloads slot 0 (R218). -/
  | estSetRate (h : Hdr) (rate : Nat)
  /-- Writes the EST voltage, current and temperature limits within the safety windows (R241). -/
  | estSetLimits (h : Hdr) (vLo vHi peak cont : Nat) (tMax tMinChg : Int)
  /-- Resets a replaced cell's learned state and takes s from the OCV table (R243). -/
  | estCellReset (h : Hdr) (cell : Nat)
  /-- Triggers a learned-state write, completing at WRITE_DONE (R236). -/
  | estLearnWrite (h : Hdr)
  /-- Checks and loads a chemistry block, taking effect at the slot-0 reload (R224). -/
  | estChemLoad (h : Hdr) (block : List Byte)
  /-- Returns the published limits, schedule status and entry in force (R265). -/
  | dspStatus (h : Hdr)
  /-- Loads a schedule into the buffer not running (R249). -/
  | dspScheduleLoad (h : Hdr) (data : List Byte)
  /-- Runs the loaded schedule, skipping entries within LEAD_MS (R250). -/
  | dspScheduleStart (h : Hdr)
  /-- Stops the running schedule with ABORTED and applies END_ACTION (R265). -/
  | dspScheduleStop (h : Hdr)
  /-- Sends one setpoint tagged at least LEAD_MS ahead (R253). -/
  | dspSetpoint (h : Hdr) (kind : Nat) (value : Int) (ramp : Nat)
  /-- Requests a sine perturbation from the PCS with a coherent generator and correlation (R255). -/
  | dspPerturb (h : Hdr) (k amp dur start : Nat)
  /-- Writes BANK_DSP_CFG, BANK_CAN_ID and BANK_PERTURB_MAX (R265). -/
  | dspSetCfg (h : Hdr) (cfg canId maxMa : Nat)
  /-- Returns the THM registers and the shutdown record (R325). -/
  | thmStatus (h : Hdr)
  /-- Sets the coolant loop parameters and rebuilds slot 2 at the next step (R314). -/
  | thmSetLoop (h : Hdr) (setpoint : Int) (sel : Nat) (kc : Int) (ti f : Nat) (ff : Int) (vMin vMax deadband : Nat)
  /-- Writes axis owner bits and host valve and damper positions (R315). -/
  | thmValveSet (h : Hdr) (vo dow : Bool) (valve damper : Nat)
  /-- Loads the 512-entry NTC map into settings and the SE (R311). -/
  | thmNtcMapLoad (h : Hdr) (map : List Nat)
  /-- Starts a valve step test with generator and capture to identify the loop plant (R317). -/
  | thmTune (h : Hdr) (step : Int) (dur : Nat)
  /-- Applies the proposed PI settings from the last tuning (R317). -/
  | thmTuneApply (h : Hdr)
  /-- Ends a running step test with ABORTED (R317). -/
  | thmTuneStop (h : Hdr)
  /-- Writes ACK = 1 into the shutdown record and clears the READY hold (R324). -/
  | thmShutdownAck (h : Hdr)
  /-- Writes die thresholds, cool time and T_START (R325). -/
  | thmDieSet (h : Hdr) (seC shutC restartC hotC : Int) (cool : Nat) (tStart : Int)
  /-- Returns the MOT registers (R346). -/
  | motStatus (h : Hdr)
  /-- Moves an axis to an absolute or relative target under the planner limits (R331). -/
  | motMove (h : Hdr) (x : Nat) (rel : Bool) (p : Int)
  /-- Brings an axis to rest at DMAX or DEMERG (R337). -/
  | motStop (h : Hdr) (x : Nat) (emergency : Bool)
  /-- Homes an axis to its reference edge (R340). -/
  | motHome (h : Hdr) (x : Nat)
  /-- Writes an axis's configuration registers while at rest (R346). -/
  | motSetCfg (h : Hdr) (x : Nat) (w : List Nat)
  /-- Writes an axis's motion limits, applied at the next tick or deferred (R333). -/
  | motSetLimits (h : Hdr) (x vmax amax dmax jmax demerg : Nat)
  /-- Replaces an axis's microstep table while at rest (R330). -/
  | motTableLoad (h : Hdr) (x : Nat) (data : List Byte)
  /-- Clears FAULT once its cause has been absent for 1 s (R327). -/
  | motAxisReset (h : Hdr) (x : Nat)
  /-- Returns the TIME registers (R367). -/
  | timeStatus (h : Hdr)
  /-- Writes TIME configuration, PTP, servo, holdover and asymmetry settings (R367). -/
  | timeSetCfg (h : Hdr) (cfg ptp servo hold asymA asymB : Nat)
  /-- Steps corrected time to a given TAI while FREE, leaving TAI_VALID 0 (R367). -/
  | timeSet (h : Hdr) (tai : Nat)
  /-- Configures and arms a timed output (R364). -/
  | timeToArm (h : Hdr) (n mode timeline start period frac width : Nat)
  /-- Disarms a timed output at once (R364). -/
  | timeToDisarm (h : Hdr) (n : Nat)
  /-- Returns and removes capture-input timestamp entries (R366). -/
  | timeTiRead (h : Hdr) (n count : Nat)
  /-- Returns a CAN controller's status, events, counters and FIFO levels (R417). -/
  | canStatus (h : Hdr) (c : Nat)
  /-- Writes CAN configuration and bit timing, disabling and re-integrating the controller (R413). -/
  | canSetCfg (h : Hdr) (c cfg nbt dbt wake : Nat)
  /-- Writes a host acceptance filter (R404). -/
  | canFilterSet (h : Hdr) (c k id mask : Nat) (ide : Bool) (target : Nat) (en : Bool)
  /-- Configures a host message buffer (R417). -/
  | canMbSet (h : Hdr) (c n dir id fmt : Nat) (retry : Option Nat)
  /-- Makes a transmit buffer pending, optionally timed (R407). -/
  | canTx (h : Hdr) (c n : Nat) (timed : Option Nat) (data : List Byte)
  /-- Cancels a pending transmit buffer (R409). -/
  | canCancel (h : Hdr) (c n : Nat) (won : Bool)
  /-- Returns received frames from a buffer or FIFO 1, releasing each (R405). -/
  | canRxRead (h : Hdr) (c src count : Nat)
  /-- Starts bus-off recovery (R411). -/
  | canRecover (h : Hdr) (c : Nat)
  /-- Returns the SB registers (R435). -/
  | sbStatus (h : Hdr) (c : Nat)
  /-- Writes sensor-bus, target and wake configuration once the bus is free (R435). -/
  | sbSetCfg (h : Hdr) (c cfg tgt wake : Nat) (r : BusSense)
  /-- Queues a controller transfer on a sensor bus (R421). -/
  | sbXfer (h : Hdr) (c addr : Nat) (tenBit : Bool) (data : List Byte) (rd : Nat) (pec noRstart : Bool)
  /-- Replaces the target image, taking effect when not addressed (R432). -/
  | sbTgtWrite (h : Hdr) (c : Nat) (image : List Byte)
  /-- Returns and removes bytes from the target receive FIFO (R432). -/
  | sbTgtRead (h : Hdr) (c count : Nat)
  /-- Closes isolated branches and checks them by a bus sample (R430). -/
  | sbBranchRestore (h : Hdr) (c mask : Nat) (r : BusSense)
  /-- Self-resets the bus engine, clears BUS_FAULT and samples the bus (R428). -/
  | sbBusReset (h : Hdr) (c : Nat) (r : BusSense)
  /-- Returns the REC and UNDERCOAT registers (R507). -/
  | recStatus (h : Hdr)
  /-- Delivers recorder records from a position on the bulk-out ring without moving the cursor (R507). -/
  | recRead (h : Hdr) (area pos count : Nat)
  /-- Writes a traffic-class DETAIL record carrying host text (R507). -/
  | recNote (h : Hdr) (text : List Byte)
  /-- Performs a manual converter or core substitution (R504). -/
  | ucSubstitute (h : Hdr) (pool a j : Nat)
  /-- Prepares a CTL, PSU or MOT card for withdrawal (R507). -/
  | cardPrepare (h : Hdr) (kind : Nat)
  /-- Returns the UPD registers and the switch record in force (R487). -/
  | updStatus (h : Hdr)
  /-- Checks a SKIM header and starts or resumes a download session (R467). -/
  | updBegin (h : Hdr) (header : List Byte) (ecdsa mldsa : Bool)
  /-- Checks and stores one package chunk and sets its bitmap bit (R469). -/
  | updChunk (h : Hdr) (c crc : Nat) (data : List Byte)
  /-- Starts verification of the downloaded package into the inactive bank (R471). -/
  | updVerify (h : Hdr)
  /-- Activates a verified image by shadow run and handover, restart, SAFE transfer or SEG campaign (R473). -/
  | updActivate (h : Hdr) (mig : Bool) (b : Boot)
  /-- Ends TRIAL, burns the epoch and revocations and releases the old image (R480). -/
  | updConfirm (h : Hdr) (target : Nat)
  /-- Hands back from a TRIAL image to the old image (R478). -/
  | updHandback (h : Hdr) (target : Nat) (b : Boot)
  /-- Discards the download session, bitmap and staged data (R470). -/
  | updAbort (h : Hdr)
  /-- Returns the SEC registers (R462). -/
  | secStatus (h : Hdr)
  /-- Returns a signed attestation quote over a nonce (R457). -/
  | secQuote (h : Hdr) (nonce : List Byte)
  /-- Returns the device certificate and its CA chain (R447). -/
  | secCertRead (h : Hdr)
  /-- Stores or replaces a trust anchor, claiming the module when unclaimed (R450). -/
  | secAnchorSet (h : Hdr) (slot : Nat) (cert code : List Byte)
  /-- Deletes a trust anchor (R462). -/
  | secAnchorDelete (h : Hdr) (slot : Nat)
  /-- Adds a serial to an anchor's deny list and ends matching sessions (R462). -/
  | secDenyAdd (h : Hdr) (slot serial : Nat)
  /-- Resets the tamper latch with the lid closed (R458). -/
  | secTamperClear (h : Hdr)
  /-- Writes SEC_CFG (R462). -/
  | secSetCfg (h : Hdr) (w : Nat)
  /-- Checks a safety parameter block in both channels, holds it pending and returns the echo (R302). -/
  | safeParamLoad (h : Hdr) (block : List Byte) (sigOk : Bool)
  /-- Confirms the pending block by generation and echo CRC, bringing it into force (R302). -/
  | safeParamConfirm (h : Hdr) (generation echoCrc : Nat) (echoes : List (Nat × CmpEcho))
  /-- Returns the block in force and any pending block with its echo (R307). -/
  | safeParamRead (h : Hdr)
  /-- Returns the SAFE registers (R307). -/
  | safeStatus (h : Hdr)
  /-- Supplies the command part of the two-part reset (R298). -/
  | safeReset (h : Hdr) (m : ResetRead)
  /-- Channel A raises HOST_STOP, all outputs off, LOCKOUT (R307). -/
  | safeStop (h : Hdr)
  /-- Announces a segment card withdrawal, closing the bypass and protecting by the shadow sum (R294). -/
  | withdrawAnnounce (h : Hdr) (slot : Nat)
  /-- Ends the active withdrawal (R294). -/
  | withdrawCancel (h : Hdr)
  /-- Loads a kernel's shadow descriptor, coefficients and instances (R200). -/
  | seKernelLoad (h : Hdr) (slot : Nat) (data : List Byte)
  /-- Commits the shadow descriptor at its first due step (R200). -/
  | seKernelCommit (h : Hdr) (slot : Nat)
  /-- Disables a slot from the next step (R202). -/
  | seKernelDisable (h : Hdr) (slot : Nat)
  /-- Loads a gain table into the unused copy, in force from the next step (R193). -/
  | seTableLoad (h : Hdr) (table list : Nat) (idx : List Nat) (bp1 bp2 grid : List Int)
  /-- Returns committed instance records (R190). -/
  | seInstanceRead (h : Hdr) (slot first count : Nat)
  /-- Writes an instance's states or parameters between steps (R201). -/
  | seInstanceWrite (h : Hdr) (slot inst : Nat) (states params : Option (List Int))
  /-- Configures and starts the test-signal generator (R205). -/
  | seInjectStart (h : Hdr) (wave : Nat) (amp : Int) (k k2 len chip start : Nat) (ramp : Bool)
  /-- Stops the generator (R206). -/
  | seInjectStop (h : Hdr)
  /-- Arms a capture with selectors, pacing slot, trigger and pre-trigger rows (R208). -/
  | seCaptureArm (h : Hdr) (sel : List Nat) (pace trig trigIdx pre : Nat)
  /-- Delivers the capture buffer on the bulk-out ring (R209). -/
  | seCaptureRead (h : Hdr)
  /-- Starts a correlation integration over the enabled bins (R210). -/
  | seCorrStart (h : Hdr) (mask : Nat) (ks : List Nat) (tInt imin start : Nat)
  /-- Returns impedance results and qualities of a bin (R211). -/
  | seCorrRead (h : Hdr) (bin first count : Nat)
  /-- Returns SE status, budget, commit and slot statistics (R212). -/
  | seStatus (h : Hdr)
  /-- Returns bank status, shares and bank limits (R265). -/
  | bankStatus (h : Hdr)
  /-- Writes BANK_CFG (R265). -/
  | bankSetCfg (h : Hdr) (size vmatch derate : Nat)
  /-- Master makes every closed module perform an orderly open (R265). -/
  | bankOpenAll (h : Hdr)
  /-- A write to a register without behaviour of its own, checked and applied to all touched fields or none (R512). -/
  | registerWrite (agent port : Nat) (o : SetupOp)
  /-- Software writes 1 to a W1C flag, clearing it unless hardware sets it in the same cycle (R34). -/
  | w1cFlagClear (addr bit : Nat) (hw : Bool)
  /-- A read of a low word latches its paired high word per agent (R513). -/
  | pairedLowWordRead (agent addr : Nat)
  /-- A read of TIME_TI_n_TS_LO latches TS_HI and INFO and removes the entry (R366). -/
  | tiTimestampRead (n : Nat)
  /-- Writing ARM copies the timed-output shadow atomically or refuses a late START (R364). -/
  | toArm (n : Nat) (disarm : Bool)
  /-- Writing DISARM stops a timed output after any pulse in progress (R364). -/
  | toDisarm (n : Nat)
  /-- Setting RINGS_ON checks the ring configuration and starts every enabled ring (R377). -/
  | setRingsOn
  /-- Clearing RINGS_ON stops every ring at once, discarding later completions (R377). -/
  | clearRingsOn
  /-- A read of a receive buffer's ID with NEW set locks the buffer (R405). -/
  | canMbIdRead (c n : Nat)
  /-- A read of a receive buffer's last word releases the lock and clears NEW (R405). -/
  | canMbLastWordRead (c n : Nat)
  /-- A read of the last word of a FIFO head window removes the head frame (R406). -/
  | canFifoHeadRead (c f : Nat)
  /-- Writing REQ makes a transmit buffer pending (R407). -/
  | req (c n : Nat) (meet : Bool)
  /-- Writing CANCEL cancels a transmit buffer where it is not in a frame on the bus (R409). -/
  | cancel (c n : Nat) (won : Bool)
  /-- Writing CAN_CTRL.RECOVER starts bus-off recovery (R411). -/
  | recover (c : Nat)
  /-- A read of SB_TGT_RX removes the oldest receive FIFO byte (R431). -/
  | sbTgtRxRead (c : Nat)
  /-- The sender writes a mailbox word, moving EMPTY to FULL, or is refused (R439). -/
  | mbxDataWrite (agent n word : Nat)
  /-- The receiver reads a FULL mailbox, moving it to TAKEN (R439). -/
  | mbxDataRead (agent n : Nat)
  /-- The receiver writes an acknowledge code, moving the mailbox to ACKED (R439). -/
  | mbxAckWrite (agent n : Nat) (code : Status)
  /-- The sender writes RELEASE, returning an ACKED or ABORTED mailbox to EMPTY (R439). -/
  | release (agent n : Nat)
  /-- An agent rings doorbell bits of another agent (R443). -/
  | mbxDoorbellSet (agent target bits : Nat)
  /-- Writing MBX_LOCK.LOCK fixes the ownership table and PROXY until controller reset (R438). -/
  | lock (proxy : Nat)
  /-- Writing REC_CTRL.READ loads the recorder window from the cursor (R495). -/
  | read
  /-- A mailbox receiver is reset, aborting its FULL or TAKEN mailboxes (R441). -/
  | mbxReceiverReset (agent : Nat) (held : Bool) (ack : Option (Nat × Status))
  /-- A mailbox sender is reset, marking its open mailboxes ORPHAN (R441). -/
  | mbxSenderReset (agent : Nat)
  /-- A bridge codeword fails to decode after 3 resends and the link counts as down (R444). -/
  | bridgeDown (word : List Byte) (copies : List Copy)
  /-- PROXY rings STF-P doorbell bit 0 every 10 ms (R445). -/
  | proxyHeartbeat
  /-- The bridge returns and STF-P posts its waiting records oldest first (R494). -/
  | bridgeReturn
  /-- A host port's link comes up and the module sends EAPOL-Start (R370). -/
  | linkUp (port : Nat) (gig eee : Bool)
  /-- An EAPOL message of the EAP-TLS exchange arrives and is answered within 50 ms (R370). -/
  | eapolReceive (port : Nat) (m : EapMsg)
  /-- EAP succeeds; CAK and CKN are derived and the MKA participant starts (R370). -/
  | eapSuccess (port : Nat)
  /-- After an EAP failure the port waits 30 s (60 s after repeated failures) and restarts keying (R370). -/
  | eapRetryTimeout (port seconds : Nat)
  /-- The key server distributes a SAK; the module installs it and opens the controlled port (R370). -/
  | mkaSakReceived (port : Nat) (xpn : Bool) (server : Nat)
  /-- The MKA live peer list stays empty for the Life Time, KEYED clears and the port rekeys (R370). -/
  | mkaLifetimeExpiry (port : Nat)
  /-- A host port loses link; the session ends and rings fail over if it was active (R395). -/
  | linkDown (port : Nat)
  /-- A DOORBELL frame updates the host index of a ring under the acceptance rules (R381). -/
  | doorbell (port : Nat) (f : FrameIn) (ring index seq : Nat)
  /-- The host answers a READ_REQ with data or a region fault (R371). -/
  | readResp (port : Nat) (f : FrameIn) (tag status : Nat)
  /-- The host acknowledges WRITE and NOTIFY frames up to a SEQ (R372). -/
  | ack (port : Nat) (f : FrameIn) (seq : Nat)
  /-- A set-up frame carries register operations that are performed in order and answered by SETUP_RESP (R375). -/
  | setupReq (port : Nat) (f : FrameIn) (seq : Nat) (ops : List SetupOp)
  /-- Set-up operations arrive over the USB service port after authentication (R376). -/
  | serviceSetupOp (o : SetupOp)
  /-- An HRT frame or read request is unanswered after RETX_US and is resent, or the port is declared failed (R372). -/
  | retxTimeout (read : Option Nat)
  /-- Every POLL_MS the module reads the HOST_IDX words and applies them (R381). -/
  | hostIdxPoll (idx : List (Nat × Nat))
  /-- COAL_US passes since the first unannounced entry and a NOTIFY is sent (R387). -/
  | notifyCoalTimeout (ring : Nat)
  /-- A telemetry frame is due and written to its ring, dropping oldest frames if needed (R391). -/
  | telemetryFrame (ring : Nat)
  /-- A summary frame is written to ring 3 at its rate (R394). -/
  | summaryFrame
  /-- An event is written to ring 2, or held in the recorder when ring 2 has no room (R386). -/
  | eventPost
  /-- Room returns in ring 2 and held events are written oldest first (R390). -/
  | eventRingRoom
  /-- A service-port session ends after SVC_IDLE_MIN minutes without an operation (R453). -/
  | serviceIdleTimeout (minutes : Nat)
  /-- The claiming lockout after wrong claim codes expires (R450). -/
  | claimLockoutExpiry (minutes : Nat)
  /-- The latest TAI is stored in MRAM as the time floor, at most hourly (R451). -/
  | timeFloorSave
  /-- The tamper latch is found newly set; the module records it, discards pending blocks and may end sessions (R458). -/
  | tamper (lid : Bool)
  /-- At each PLUMB instant every converter samples and the ring master emits the marker and heartbeat (R14). -/
  | plumbInstant (shunt flux : Int) (tShunt : Option Int)
  /-- A card's sample frame arrives at the ring master, is decoded and presented to both channels and STF-C (R94). -/
  | frameReceived (k : Nat) (a b : Copy) (r : CardRead)
  /-- STF-C takes the frames of an instant, converts NTC codes and applies balancing correction for the SE (R145). -/
  | frameIntake
  /-- No copy of a card's frame arrives for 4 instants and the card is declared LOST (R95). -/
  | cardLost (k : Nat)
  /-- A card hears no marker for 4 periods, enters ISOLATED and stops frames and balancing (R96). -/
  | cardIsolated (k : Nat)
  /-- A marker fails to return on a direction; the break is located and cards retime (R97). -/
  | ringBreak (hop : Nat) (aLost bLost : Bool)
  /-- The ring is whole again; delays are re-measured and cards return to direction A (R97). -/
  | ringWhole (trips : List (Nat × (Nat × Nat)))
  /-- A direction exceeds its error threshold and timing moves to the other direction (R98). -/
  | lathDirectionDegraded (b : Bool)
  /-- Every 1 s the ring master re-measures card delays and updates marker compensation (R72). -/
  | echoMeasure (trips : List (Nat × (Nat × Nat)))
  /-- Card-present is asserted in a slot and the card enters ISOLATED to begin its join (R100). -/
  | cardPresent (k serial ov uv : Nat) (blank : Bool) (fac : CardFac)
  /-- Card-present is stable for 100 ms; the island is powered and the join proceeds (R100). -/
  | cardPresentStable (k : Nat) (trips : List (Nat × (Nat × Nat)))
  /-- A joining card completes its self-test and sum checks and sends its first frame as PROVISIONAL (R100). -/
  | joinCheckDone (k : Nat) (c : JoinCheck) (rel : List (Nat × Nat))
  /-- 2 s after its first frame a card becomes IN_SERVICE (R100). -/
  | provisionalExpiry (k : Nat)
  /-- 60 s after reaching PROVISIONAL a card's balancing is re-enabled (R136). -/
  | balancingHoldExpiry (k : Nat)
  /-- A card fault causes a segment reset and rejoin (R58). -/
  | segCardFault (k : Nat)
  /-- An averaging window ends and averaged values with quality and class are formed (R78). -/
  | averagingWindowEnd
  /-- A spare dwell ends; drift or spare failure is judged and the crosspoint moves (R82). -/
  | spareDwellEnd (k fail : Nat)
  /-- A 1016-instant wire-test block ends and the card sends amplitudes and d (R109). -/
  | wireBlockEnd (k : Nat) (echo : CmpEcho)
  /-- A cell comparator output asserts and its deglitch count starts (R119). -/
  | comparatorAssert (k j : Nat) (uv : Bool) (us gap : Nat)
  /-- The deglitch count completes, the latch is set and the card gates the tone off (R120). -/
  | cmpTrip (k j : Nat) (uv : Bool) (us : Nat)
  /-- Each second the card tests one position's comparators; failure sets SELFTEST_FAULT (R122). -/
  | comparatorTest (k : Nat) (ov uv : Nat × Nat)
  /-- The segment voltage falls below 16 V on keep-alive and the card stops passing the tone (R129). -/
  | keepaliveLow (k : Nat)
  /-- The fault-loop receiver has counted valid cycles for 1 ms and arms (R124). -/
  | toneArmed
  /-- 300 µs pass without a valid cycle while armed; channel B demands and raises TONE (R124). -/
  | toneLost
  /-- The arming deadline passes and an unarmed receiver declares the tone lost (R124). -/
  | toneArmingDeadline (rel : List (Nat × Nat))
  /-- A 1 ms balancing slot begins; paths switch and readbacks are checked (R133). -/
  | balSlot (rb : List (Nat × Nat))
  /-- A 64 ms period boundary lays out runs, applies new duties, throttles and stops (R134). -/
  | balPeriod
  /-- A card receives its 16 duties in a LATH command codeword (R135). -/
  | balDutiesReceived (k : Nat)
  /-- A card receives no duties for 10 s and sets every duty to 0 (R135). -/
  | leaseExpired (k : Nat)
  /-- Both guard conditions have been false for 1 s and the path is released (R137). -/
  | balGuardRelease (k j : Nat)
  /-- Once per second the firmware recomputes campaign duties and ends campaigns (R148). -/
  | balDutyRecompute
  /-- Hourly in compensated mode each card runs interleaved for 4.096 s so learning continues (R147). -/
  | balLearnWindow (k : Nat) (begins : Bool)
  /-- STF-P saves the charge counter every 60 s and at each mode transition (R157). -/
  | chargeCounterSave
  /-- A Hall fault condition holds for 1 ms; channel B demands (R161). -/
  | hallFault (mv : Int) (supPos supNeg span move : Nat)
  /-- Every 1 ms channel A compares the 100 ms shunt and Hall means (R162). -/
  | xcheckCompare (hallSum code : Int)
  /-- The disagreement persists XCHECK_S seconds and channel A raises cause XCHECK (R291). -/
  | xcheckCause
  /-- Each PSU updates the string voltage every 10 ms (R163). -/
  | vstringUpdate (a b : Option Int)
  /-- An injection or listening half period ends and an insulation result or discard follows (R164). -/
  | isoHalfPeriodEnd (dv : Int) (rp ce : Nat) (vp vn : Int) (foreign : Bool)
  /-- A result becomes older than 120 s and is replaced by the marker (R165). -/
  | isoResultAge
  /-- A closed follower receives no bank insulation result for 120 s and becomes candidate (R169). -/
  | bankIsoTimeout
  /-- The SE domain powers up and runs the lane self-test (R175). -/
  | sePowerUp (lanesOk : Bool)
  /-- At a PLUMB instant the sequencer runs the due kernels in slot order and commits them (R194). -/
  | seStep
  /-- A step still runs 240 µs after it began and the sequencer stops it (R197). -/
  | seStepOverrun (done : Nat)
  /-- The generator start index is reached and the waveform begins (R205). -/
  | injectStartIndex
  /-- A chirp completes its D instants and the generator stops (R205). -/
  | chirpEnd
  /-- The capture trigger occurs and post-trigger rows are taken (R208). -/
  | captureTrigger
  /-- The capture buffer fills and the capture stops (R208). -/
  | capDone
  /-- A correlation integration ends and impedances are computed (R210). -/
  | corrDone
  /-- EST refreshes slot-0 instances in a window, applying counter, hysteresis, thermal and reference updates (R216). -/
  | estRefresh (cells : List Nat)
  /-- Each hour EST regresses drift drop on current to update ΔRser (R233). -/
  | estResistanceRegression
  /-- Every 100 ms EST forms string quantities and slews the reported SOC (R227). -/
  | estSocUpdate
  /-- Every 100 ms EST computes current and power limits for each direction and horizon (R240). -/
  | estLimits
  /-- At rest with the string open EST disables slot 0 and carries states in firmware (R220). -/
  | estSlot0Park
  /-- An hourly or change trigger starts a learned-state write (R236). -/
  | learnWriteHourly
  /-- A learned-state write completes its read-back and marks the slot valid, or fails (R237). -/
  | writeDone (ok : Bool)
  /-- Every 100 ms the module forms published limits and sends limit frames and bank messages (R244). -/
  | dspPublish
  /-- A published limit narrows and its frames are sent at the next PLUMB instant (R245). -/
  | limitNarrowing
  /-- At tag − LEAD_MS the entry is clamped and its SETPOINT frame queued (R251). -/
  | scheduleEntryDue
  /-- A setpoint frame not sent by tag + 100 ms is cancelled (R252). -/
  | setpointLateCancel (won : Bool)
  /-- The PCS acknowledges a perturbation request (R255). -/
  | perturbAck (start k : Nat)
  /-- No matching acknowledgement arrives in 500 ms; PERTURB_REFUSED is set (R255). -/
  | perturbAckTimeout
  /-- A bank ring message (heartbeat, string state, limits, ISO result, CORR_START, marker) arrives (R259). -/
  | bankMessageReceived (pos : Nat) (m : BankMsg)
  /-- The master receives a paralleling request and grants it or queues it (R260). -/
  | parallelReq (pos : Nat) (volt : Int)
  /-- A module receives its grant and precharges and closes (R260). -/
  | grant (reason : Nat)
  /-- The master receives CLOSED, releasing the grant (R260). -/
  | closed (pos : Nat)
  /-- A grant not released within 5 s lapses (R260). -/
  | grantLapse
  /-- A paralleling wait exceeds 10 s and the MODE_REQUEST completes with STATE (R260). -/
  | grantWaitExpiry
  /-- A module is not heard for 50 ms; master loss may make an acting master (R259). -/
  | bankModuleLost (pos : Nat)
  /-- One direction of the bank ring breaks (R257). -/
  | bankRingBreak (broken : Bool)
  /-- Every 10 ms a module sends its bank heartbeat (R259). -/
  | bankHeartbeatSend
  /-- Each second the master updates current shares and checks imbalance (R261). -/
  | bankShareUpdate
  /-- A safety input channel changes state after its filter and the input state machine acts (R271). -/
  | safetyInputChange (si ch : Nat) (demand : Bool)
  /-- The second channel is not seen within t_disc and DISCREPANCY latches (R273). -/
  | discrepancy (si : Nat)
  /-- SSD_DELAY ends after an SSD demand and both channels disconnect into LOCKOUT (R268). -/
  | ssdDelayExpiry
  /-- A TP1 or TP2 off-pulse tests class 2 inputs; two failures raise PULSE (R272). -/
  | inputTestPulse (source lowA lowB heldA heldB : Nat)
  /-- A feedback channel fails to follow its contactor within 100 ms and raises FEEDBACK (R274). -/
  | feedbackTimeout (si : Nat)
  /-- A valid RST pulse falls, supplying the pulse part of the two-part reset (R275). -/
  | rstPulse (closeSkew openSkew width : Nat) (m : ResetRead)
  /-- 10 s pass without the second part; SAFE_RESET completes TIMEOUT (R298). -/
  | resetWindowExpiry
  /-- The 100 ms test close of KPC ends and WELD_KN is judged (R298). -/
  | weldTestCloseEnd (rel : List (Nat × Nat))
  /-- Every 10 ms each channel reads back its switches and coil current, raising OUTPUT or COIL (R277). -/
  | outputReadback (rb coilLow : Nat) (supply supplyLow beats : Bool)
  /-- A 200 µs test pulse on a switch that is on must read back off within 50 µs (R278). -/
  | outputTestPulse (o : Nat) (inTime : Bool)
  /-- A channel receives a demand from the other channel and switches its own switches off (R267). -/
  | xlinkDemand (ch : Nat)
  /-- The cross-link heartbeat is missing for 3 ms; cause XLINK (R304). -/
  | xlinkLost
  /-- STF-H finds the safety oscillator outside ±2 % (R269). -/
  | clock (ppm : Int)
  /-- The precharge current has stayed below PC_I_DONE for 100 ms and KP closes (R281). -/
  | prechargeDone
  /-- 100 ms after KP closes feedback confirms, KPC opens and the mode becomes RUN (R281). -/
  | closeConfirm
  /-- Precharge does not end within PC_T_MAX and closing ends early (R282). -/
  | prechargeTimeout
  /-- A cell stays outside the SVW window for SVW_FILT and channel A raises SVW_HIGH or SVW_LOW (R284). -/
  | svwCountExpiry (k j : Nat) (high : Bool) (shadow : Int)
  /-- Channel B's frame check finds a cell outside the window for DEGLITCH_MS × 4 instants (R285). -/
  | svwFrame (k j : Nat) (high : Bool)
  /-- Current exceeds the peak level in either channel (R288). -/
  | slcPeak (ch least : Nat)
  /-- Current exceeds the time-limited level for its time (R288). -/
  | slcTime (ch least : Nat)
  /-- Current flows in an inhibited direction beyond tolerance for SDI_T_MS (R290). -/
  | sdiTrip (chg : Bool) (ch least : Nat)
  /-- An NTC stays outside the STW window for STW_FILT_MS (R292). -/
  | stwTrip (kind ch : Nat)
  /-- An NTC is open, shorted or implausible for STW_FILT_MS (R293). -/
  | stwSensor
  /-- 300 s pass without confirmation and the pending block is discarded (R302). -/
  | paramPendingExpiry
  /-- Every 1 s each channel compares parameter CRCs and rewrites a bad MRAM copy (R303). -/
  | paramCrcCompare
  /-- WITHDRAW_S elapses; the bypass opens and WITHDRAW is raised (R294). -/
  | withdrawTimeout
  /-- Once per second THM reports every NTC's mean temperature (R310). -/
  | thmNtcReport
  /-- Every 1 ms die sensors are read and SE throttle is adjusted (R318). -/
  | dieSample (c p hh mot : Option Int)
  /-- Once per second THM sets balancing pause slots from the hottest NTC (R320). -/
  | thmBalPauseUpdate
  /-- A segment die reads at or above SEG_HOT_C for 10 s (R321). -/
  | segHot (k : Nat)
  /-- The STF-C die reads at or above SHUTDOWN_C for 1 s and the shutdown sequence runs (R322). -/
  | thermalShutdown
  /-- COOL_S passes; STF-P releases the domains and a controller reset follows (R322). -/
  | thermalCoolExpiry (b : Boot)
  /-- A step test's duration ends and THM fits the model and proposes PI settings (R317). -/
  | tuneDone
  /-- An axis reaches its target with v = 0 and a = 0 (R331). -/
  | moveComplete (x : Nat)
  /-- After HOLD_DELAY at rest the phase current falls to the hold current (R328). -/
  | holdDelayExpiry (x : Nat)
  /-- Supply out of range, overcurrent or die overheat puts an axis into FAULT (R327). -/
  | motorFault (x kind tick : Nat)
  /-- A raw transition on a limit or home input captures the position (R334). -/
  | limitInputEdge (x k : Nat) (isOpen : Bool) (p : Int) (tick : Nat)
  /-- A limit in the direction of motion is confirmed tripped and the axis stops at DEMERG (R335). -/
  | limitTrip (x : Nat) (positive : Bool) (tick : Nat)
  /-- The load angle exceeds the stall angle for TICKS ticks and the axis stops unhomed (R339). -/
  | stall (x : Nat) (p : Int) (tick : Nat)
  /-- A confirmed home edge during homing advances the homing sequence or sets HOMED (R340). -/
  | homeEdge (x : Nat)
  /-- No home edge within 1.25 × TRAVEL aborts homing (R341). -/
  | homeSearchTimeout (x tick : Nat)
  /-- A motion link message from STF-C takes effect at the next planner tick (R343). -/
  | motLinkMessage (tick : Nat) (r0 r1 : AxisRead)
  /-- No motion link heartbeat for 1 s; each axis holds or moves to LINKLOSS.POS (R343). -/
  | motLinkLoss
  /-- The MOT domain powers up and restores positions, HOMED and auto-homing (R344). -/
  | motPowerUp
  /-- A motion card is inserted, takes settings and starts axes unhomed (R345). -/
  | motCardInserted (serial : Nat)
  /-- A PTP message is timestamped and an offset measurement steps or slews corrected time (R353). -/
  | ptpMessage (port : Nat) (vlan : Option Nat) (secured udp : Bool) (domain : Nat) (m : PtpMsg)
  /-- No Announce is accepted for the receipt timeout; port switch, HOLDOVER or FREE (R352). -/
  | announceTimeout (port : Nat)
  /-- The holdover error estimate exceeds DEGRADE_NS and ALIGN_DEGRADED is set (R359). -/
  | degraded
  /-- A timed output pulse falls due and is emitted or skipped (R363). -/
  | toPulse (n : Nat)
  /-- A filtered edge on TI0 or TI1 is timestamped into the FIFO or dropped (R366). -/
  | tiEdge (n : Nat) (rising : Bool) (ns held : Nat)
  /-- A received frame is placed by the filters into a buffer or FIFO, or dropped (R404). -/
  | canFrameReceived (c : Nat) (f : CanFrame)
  /-- Corrected time reaches a timed buffer's release time and it becomes pending (R407). -/
  | canTimedRelease (c n : Nat)
  /-- A transmit buffer completes with its final status after attempts or cancel (R408). -/
  | canTxComplete (c n : Nat) (sent : Option CanSent)
  /-- TEC exceeds 255; pending buffers abort and the controller stops (R411). -/
  | busOff (c : Nat)
  /-- RECOVER_MS after bus-off the firmware starts recovery (R411). -/
  | canAutoRecover (c : Nat)
  /-- 128 sequences of 11 recessive bits complete and the controller is error-active (R411). -/
  | canRecoveryDone (c : Nat)
  /-- After a configuration change the controller integrates and is re-enabled (R413). -/
  | canIntegrated (c : Nat)
  /-- The controller does not integrate within 1 s and CAN_SET_CFG completes TIMEOUT (R413). -/
  | canIntegrateTimeout (c : Nat)
  /-- The bus is free and the next queued transfer starts (R421). -/
  | sbXferStart (c : Nat) (stop : Bool) (ns : Nat)
  /-- A controller transfer ends with OK, NO_ACK or INTEGRITY (R422). -/
  | sbXferDone (c : Nat) (nack : Option Nat) (pec : Byte) (data : List Byte)
  /-- The block loses arbitration and retries or completes ARB_LOST (R424). -/
  | arbLost (c byte bit : Nat) (cond : Bool)
  /-- A transfer cannot start within 1 s and completes with TIMEOUT (R421). -/
  | sbStartTimeout (c : Nat)
  /-- A stretch or stuck-SDA timeout is reached and the block self-resets (R428). -/
  | stretchTo (c : Nat) (k : Stretch) (r : BusSense)
  /-- The block is addressed as target and serves the image or fills the FIFO (R431). -/
  | sbTargetAddressed (c addr : Nat) (bytes : List Byte) (rd : Nat)
  /-- The shadow run passes SHADOW_S and the switch record is written (R474). -/
  | shadowRunEnd
  /-- A shadow value breaches tolerance or the new image's heartbeat stops; activation ends INTERNAL (R474). -/
  | shadowBreach (quantity : Nat) (value : Int)
  /-- At the next PLUMB instant the new image takes over rings, operations and cores (R476). -/
  | updHandover
  /-- A TRIAL image fails its settings check, watchdog or internal check and hands back (R478). -/
  | handbackCause (cause : Nat) (b : Boot)
  /-- Verification completes with VERIFIED or INTEGRITY (R471). -/
  | updVerifyDone
  /-- STF-P receives and checks a SAFE image and restarts into TRIAL (R483). -/
  | safeImageTransfer (image : List Byte) (ecdsa mldsa selfOk paramOk : Bool) (contacts : Nat)
  /-- A card of a SEG campaign rejoins after its update and the next card begins (R484). -/
  | segUpdateCardDone (ok : Bool)
  /-- The service port accepts a full CTL package when no image verifies and starts it (R485). -/
  | imageRecovery (header body : List Byte) (ecdsa mldsa : Bool) (b : Boot)
  /-- A record is written to LAST and copied to FIRST when it qualifies (R493). -/
  | recordPost
  /-- The system counters are written once per minute (R499). -/
  | sysCounterSave
  /-- The scrubber reads and corrects codewords on its hourly pass (R27). -/
  | scrub (m : MemRegion) (words : List (List (Nat × Nat))) (fail : Bool) (erases : Nat)
  /-- A row or block relocation completes and the map is rewritten (R502). -/
  | relocated
  /-- Core 3's 2 s shadow ends and it takes the work or the watchdog path follows (R503). -/
  | coreShadowEnd (agree : Bool) (b : Boot)
  /-- A segment card is withdrawn from its slot, opening the fault loop unless bypassed, and the slot reads ABSENT after an announced withdrawal (R505). -/
  | segCardWithdrawn (k : Nat)
  /-- The safety card is withdrawn, every contactor coil loses its switches at once and the string opens (R505). -/
  | sfcWithdrawn
  /-- The motion card is withdrawn, leaving the motors unpowered where they stand and the valve unavailable to THM (R345). -/
  | motCardWithdrawn
  /-- A power card's output returns to tolerance or the card is reinserted, and UNDERCOAT records the resource restored (action 5) (R501). -/
  | psuInTolerance (b : Bool) (serial : Nat)
  /-- A bus error is detected in transmission or reception, updating TEC or REC, LEC, WARN and error-passive entry, and scheduling a retransmission (R411). -/
  | canBusError (c lec : Nat) (tx : Option Nat) (dom arb inFlag : Bool)
  /-- An axis comes to rest after a stop, emergency stop or homing deceleration, completing MOT_STOP or the homing stage (R337). -/
  | axisAtRest (x : Nat) (p : Int)
  /-- The weld check of closing step 3 ends at 110 ms and KN closes at 120 ms to begin precharge (R281). -/
  | weldCheckEnd
  /-- Both RST channels have been open for 1 s and SAFE_RST.RST_STUCK clears (R275). -/
  | rstStuckClear
  /-- A client opens a TLS 1.3 session on the USB service port, which is checked and given its role set or refused (R451). -/
  | serviceSessionOpen (c : Option Cert)
  deriving DecidableEq, Repr

end Sys2Proof
end

