-- ==== Sys2Proof/Decode.lean ====
section
/-! DEFINITION. The command that a word of the opcode table spells.  No row of the table gives its command any bits, so no word spells
a command: a command arrives as its row with its operands. -/

namespace Sys2Proof

/-- The command spelled by the low `nbits` bits of `w`: none for every row. -/
def decodeTableWord (_nbits _w : Nat) : Option Instr := none

end Sys2Proof
end

