-- ==== Sys2Proof/Machine/Rs.lean ====
section
/-! DEFINITION. The code of the LATH codewords and of the module's memories (R23, R91): RS(36,32) over GF(2⁸), and the bytes of the
codewords of R92 and R93. -/

namespace Sys2Proof.Machine

/-! ### The field (R91) -/

/-- Times x modulo x⁸ + x⁴ + x³ + x² + 1. -/
def gfTwice (a : Nat) : Nat := if a < 128 then 2 * a else (2 * a) ^^^ 0x11D

/-- `n` steps of the product of `a` and `b`, lowest bit of `b` first. -/
def gfMulGo : Nat → Nat → Nat → Nat
  | 0, _, _ => 0
  | n + 1, a, b => (if b % 2 = 1 then a else 0) ^^^ gfMulGo n (gfTwice a) (b / 2)

/-- The product in GF(2⁸). -/
def gfMul (a b : Nat) : Nat := gfMulGo 8 a b

def gfPow (a : Nat) : Nat → Nat
  | 0 => 1
  | n + 1 => gfMul a (gfPow a n)

/-- The inverse of a non-zero element: its 254th power, by 254 = 2 · 127. -/
def gfInv (a : Nat) : Nat :=
  let sq (x : Nat) : Nat := gfMul x x
  let step (x : Nat) : Nat := gfMul (sq x) a
  sq (step (step (step (step (step (step a))))))

/-- α = 0x02 to the power `n`. -/
def alpha (n : Nat) : Nat := gfPow 2 n

/-! ### The code (R23, R91) -/

/-- Multiply a polynomial, highest degree first, by (x − r). -/
def polyTimesRoot (r : Nat) (p : List Nat) : List Nat := (p ++ [0]).zipWith (· ^^^ ·) (0 :: p.map (gfMul r))

/-- The generator (x − α⁰)(x − α¹)(x − α²)(x − α³), highest degree first. -/
def rsGen : List Nat := [0, 1, 2, 3].foldl (fun p i => polyTimesRoot (alpha i) p) [1]

/-- One step of the division of the data times x⁴ by the generator: the remainder so far and the next data byte. -/
def rsStep (r : List Nat) (d : Nat) : List Nat :=
  let f := d ^^^ r.headD 0
  (r.drop 1 ++ [0]).zipWith (· ^^^ ·) ((rsGen.drop 1).map (gfMul f))

/-- The four check bytes of 32 data bytes. -/
def rsCheck (data : List Byte) : List Byte := data.foldl rsStep [0, 0, 0, 0]

/-- A codeword: the data bytes, byte 0 of highest degree, then the check bytes. -/
def rsEncode (data : List Byte) : List Byte := data ++ rsCheck data

/-- The word as a polynomial, at `x`. -/
def polyAt (x : Nat) (w : List Byte) : Nat := w.foldl (fun acc b => gfMul acc x ^^^ b) 0

/-- The degree at which a polynomial of two terms, or of one, has its errors: those among the 36 of the codeword at which the
locator is zero. -/
def rsRoots (loc : Nat → Nat) : List Nat := (List.range 36).filter fun p => loc (alpha p) == 0

/-- Change the byte of degree `p`. -/
def flipAt (w : List Byte) (p v : Nat) : List Byte := w.set (35 - p) (w.getD (35 - p) 0 ^^^ v)

/-- Decode a received word: its data bytes with the number of symbols corrected, none where it is uncorrectable (R23, R24). -/
def rsDecode (w : List Byte) : Option (List Byte × Nat) :=
  let s0 := polyAt (alpha 0) w
  let s1 := polyAt (alpha 1) w
  let s2 := polyAt (alpha 2) w
  let s3 := polyAt (alpha 3) w
  if s0 = 0 ∧ s1 = 0 ∧ s2 = 0 ∧ s3 = 0 then some (w.take 32, 0)
  else
    let det := gfMul s0 s2 ^^^ gfMul s1 s1
    if det = 0 then
      if s0 = 0 ∨ s1 = 0 ∨ gfMul s1 s3 ≠ gfMul s2 s2 ∨ gfMul s0 s3 ≠ gfMul s1 s2 then none
      else match rsRoots (fun x => gfMul s0 x ^^^ s1) with
        | [p] => some ((flipAt w p s0).take 32, 1)
        | _ => none
    else
      let d := gfInv det
      let l1 := gfMul (gfMul s0 s3 ^^^ gfMul s1 s2) d
      let l2 := gfMul (gfMul s1 s3 ^^^ gfMul s2 s2) d
      match rsRoots (fun x => gfMul x (x ^^^ l1) ^^^ l2) with
      | [p, q] =>
        let y := gfMul (s1 ^^^ gfMul s0 (alpha q)) (gfInv (alpha p ^^^ alpha q))
        if y = 0 ∨ y = s0 then none else some ((flipAt (flipAt w p y) q (s0 ^^^ y)).take 32, 2)
      | _ => none

/-! ### Sample frames (R92) -/

def bitOf (b : Bool) (n : Nat) : Nat := if b then 2 ^ n else 0

/-- The 64 data bytes of slot `k`'s sample frame. -/
def SampleFrame.bytes (f : SampleFrame) (k : Nat) : List Byte :=
  [32 + k % 32] ++ leBytes 2 f.seq ++
  [bitOf f.aligned 0 + bitOf f.provisional 1 + bitOf f.spareSubst 2 + bitOf f.timingB 4 + bitOf f.ovAny 5 + bitOf f.uvAny 6 +
    bitOf f.selftest 7] ++
  (List.range 16).flatMap (fun i => leBytes 3 (ofSigned 24 (f.cells.getD i missing24))) ++ leBytes 3 (ofSigned 24 f.sum) ++
  leBytes 3 (ofSigned 24 f.spare) ++ leBytes 2 f.ntc ++ [f.sparePos % 32, ofSigned 8 f.die] ++ leBytes 2 f.balMap

/-- What a receiver reads of the data bytes of a sample frame. -/
def readFrame (b : List Byte) : SampleFrame :=
  let num (i n : Nat) : Nat := ofLe ((b.drop i).take n)
  let fl (n : Nat) : Bool := num 3 1 / 2 ^ n % 2 == 1
  { seq := num 1 2, aligned := fl 0, provisional := fl 1, spareSubst := fl 2, timingB := fl 4, ovAny := fl 5, uvAny := fl 6
    selftest := fl 7, cells := (List.range 16).map fun i => toSigned 24 (num (4 + 3 * i) 3), sum := toSigned 24 (num 52 3)
    spare := toSigned 24 (num 55 3), ntc := num 58 2, sparePos := num 60 1 % 32, die := toSigned 8 (num 61 1), balMap := num 62 2 }

/-- The two codewords of a frame, 72 bytes (R91). -/
def frameCode (data : List Byte) : List Byte := rsEncode (data.take 32) ++ rsEncode (data.drop 32)

/-- How a copy of a frame reads at the ring master (R94): nothing, the data with the symbols corrected, or no decoding. -/
inductive CopyRes where
  | absent
  | good (data : List Byte) (corrected : Nat)
  | bad
  deriving DecidableEq, Repr

/-- A copy of the 72 bytes, decoded. -/
def Copy.read (c : Copy) (words : List Byte) : CopyRes :=
  match c with
  | .absent => .absent
  | .hit errs =>
    let w := errs.foldl (fun w e => w.set e.1 (w.getD e.1 0 ^^^ e.2 % 256)) words
    match rsDecode (w.take 36), rsDecode (w.drop 36) with
    | some x, some y => .good (x.1 ++ y.1) (x.2 + y.2)
    | _, _ => .bad

/-- One codeword of 32 data bytes, as a copy of it arrives, decodes (R444). -/
def copySingle (c : Copy) (data : List Byte) : Bool :=
  match c with
  | .absent => false
  | .hit errs => (rsDecode (errs.foldl (fun w e => w.set e.1 (w.getD e.1 0 ^^^ e.2 % 256)) (rsEncode data))).isSome

/-- What decoding says of the codewords of a memory, each by the symbols changed in it (position, bits): symbols corrected, whether some
codeword had two, whether some codeword is uncorrectable (R23, R26).  The code is linear, so the errors alone decide. -/
def scrubbed : List (List (Nat × Nat)) → Nat × (Bool × Bool)
  | [] => (0, (false, false))
  | e :: l =>
    let r := scrubbed l
    match rsDecode (e.foldl (fun w p => w.set p.1 (w.getD p.1 0 ^^^ p.2 % 256)) (List.replicate 36 0)) with
    | some x => (x.2 + r.1, (x.2 == 2 || r.2.1, r.2.2))
    | none => (r.1, (r.2.1, true))

/-! ### The other codewords (R93) -/

/-- A codeword of 32 data bytes, the given ones first and zeros after them. -/
def lathWord (bs : List Byte) : List Byte := rsEncode (bs ++ List.replicate (32 - bs.length) 0)

/-- The heartbeat codeword: the PLUMB index that its marker defines, ALIGNED and RELABEL. -/
def heartbeat (idx : Nat) (aligned relabel : Bool) : List Byte :=
  lathWord ([0] ++ leBytes 8 idx ++ [bitOf aligned 0 + bitOf relabel 1])

/-- Echo request to a card, with its reply direction (0 A, 1 B), and its reply. -/
def echoRequest (k dir : Nat) : List Byte := lathWord [4 * 32 + k % 32, dir]
def echoReply (k : Nat) : List Byte := lathWord [5 * 32 + k % 32]

/-! ### The test current (R107) -/

/-- The PRBS7 register after a chip, from x⁷ + x⁶ + 1. -/
def prbs7 (r : Nat) : Nat := r * 2 % 128 + (r / 64 + r / 32) % 2

def prbs7After : Nat → Nat
  | 0 => 127
  | n + 1 => prbs7 (prbs7After n)

/-- The chip at a PLUMB index: all ones at every multiple of 1016, a new chip every 8 instants; the value is the register's oldest
bit. -/
def chipAt (idx : Nat) : Bool := prbs7After (idx % 1016 / 8) / 64 % 2 == 1

end Sys2Proof.Machine
end

