-- ==== Sys2Proof/Config.lean ====
section
/-! DEFINITION. What an implementation fixes and the spec does not: the free values.  Each is an opaque
constant, so no proof sees a value of it (the assumption log names each). -/

namespace Sys2Proof.Config

/-- Resistance in µΩ that the correction of R142 takes for wire `w` of `slot` while it is not learned: the spec states none
(class U, R141; assumption log 60). -/
opaque rwOpen : Nat → Nat → Rat

/-- The core that runs EST (R214), as a number of which the remainder by 4 counts (assumption log 8). -/
opaque estCore : Nat

/-- COEF_BASE and STATE_BASE of a firmware kernel slot: the firmware's own layout (R181; assumption log 8). -/
opaque fwBase : Nat → Nat × Nat

/-- What the firmware chooses for slot 0 beyond the model of R213: the gaps between the breakpoints of table 0 (R215), by the OCV table;
the gains of output 0 in L, by coefficient index, with their shifts; the SOC gain at a grid point (R214; assumption log 8). -/
opaque estGap1 : List Byte → Nat → Nat
opaque estGap2 : List Byte → Nat → Nat
opaque estGain : List Byte → List Byte → Nat → Nat → Int × Int
opaque estSocGain : List Byte → List Byte → Nat → Nat → Nat → Int

/-- Coefficient `i` of the segment thermal observer, and what the coolant loop's filters and feedforward take, from Kc, Ti, f and
the feedforward gain (R313, R314; assumption log 8). -/
opaque segCoef : Nat → Int × Int
opaque loopCoef : Int → Nat → Nat → Int → Nat → Int × Int

/-- State word `j` with which the firmware starts instance `i` of a thermal kernel (assumption log 8). -/
opaque fwInit : Nat → Nat → Nat → Int

/-- The first-order model with dead time that THM fits to the mean surface temperatures (0.01 °C) of a step test, from the
step and the duration: K in °C per %, τ and θ in s (R317; assumption log 8). -/
opaque tuneFit : List Rat → Int → Nat → Rat × Rat × Rat

/-- Bytes 34–59 of a SPARING record, from its pool, the resource and the counters that R501 keeps of it: the spec gives them no
layout (R490; assumption log 161). -/
opaque sparingCounters : Nat → Nat → List Nat → List Nat

/-- Free values by number: the n-th value that the spec leaves open (assumption log 4). -/
opaque free : Nat → Int

/-- Gains of the time servo (R353), in units of RATE per ns: proportional and integral (assumption log 62). -/
opaque servoKp : Rat
opaque servoKi : Rat

/-- A grid value beyond the ends of its axes, by the bytes of the table, the offset of the grid, SOC and temperature:
the spec states none (R222, R224; assumption log 9). -/
opaque beyondGrid : List Byte → Nat → Rat → Rat → Rat

/-- The slope of the OCV table beyond the ends of its axes, the SOC of a voltage that the table does not give or gives more than once,
and the integral at a temperature beyond the axis (R230, R242; assumption log 9). -/
opaque beyondSlope : List Byte → Rat → Rat → Rat
opaque ocvInverse : List Byte → Rat → Rat → Rat
opaque ocvIntegral : List Byte → Rat → Rat → Rat → Rat

/-- The image that a delta body rebuilds from a base image: the spec gives no format of its instructions (R465, R471; assumption
log 10). -/
opaque applyDelta : List Byte → List Byte → List Byte

/-- Hardware revision of a card kind, 2 the safety card, 3 the segment cards (R467; assumption log 11). -/
opaque cardRev : Nat → Nat

/-- A certificate is a CA certificate (R449, R462); the device certificate with its chain, the identity key's signature over a
message, PRIMER's version and the claim code on the label (R447, R450, R457; assumption log 12). -/
opaque isCaCert : List Byte → Bool
opaque deviceCert : List Byte
opaque quoteSign : List Byte → List Byte
opaque primerVersion : Nat
opaque claimCode : List Byte

end Sys2Proof.Config
end

