-- ==== Sys2Proof/Machine/State.lean ====
section
/-! DEFINITION. The state of the block as plain data: the set-up registers, every piece of state the spec
gives the module beside its registers, and the queue of waiting commands. -/

namespace Sys2Proof.Machine

/-! ### Records, recorder and non-volatile memory -/

/-- A record (R488): kind, class, marks, status, mode, writer, stamp, TAI and DATA bytes 24–59. -/
structure Rec where
  kind : RecKind
  system : Bool := false
  milestone : Bool := false
  fromStfP : Bool := false
  status : Status := .ok
  mode : Nat := 0
  source : Nat := 1
  /-- Traffic: the sequence number (R489). -/
  seq : Nat := 0
  /-- System: operating time in minutes and power-cycle count. -/
  opMin : Nat := 0
  cycles : Nat := 0
  tai : Nat := 0
  data : List Byte := []
  /-- The event this record belongs to, by EVENT_SEQ (R386). -/
  ev : Option Nat := none
  deriving DecidableEq, Repr

/-- A slot of LAST: the absolute position written, the record, and whether VALID stands (R492, R493). -/
structure LastSlot where
  pos : Nat
  record : Rec
  valid : Bool
  deriving DecidableEq, Repr

/-- An event waiting for ring 2 or held in MRAM (R386, R390, R497). -/
structure Ev where
  addr : Nat
  bit : Nat
  status : Status
  mode : Nat
  system : Bool
  seq : Nat
  time : Nat
  data : List Byte := []
  /-- Position of the event's record in LAST, once written. -/
  pos : Option Nat := none
  /-- Happenings merged into a held event (R497). -/
  merged : Nat := 0
  deriving DecidableEq, Repr

/-- A relocation or substitution in progress (R502, R503). -/
structure Reloc where
  pool : Nat
  device : Nat
  resource : Nat
  spare : Nat
  deriving DecidableEq, Repr

/-- One retired resource of the UNDERCOAT map (R502): pool, device, resource and the spare that serves it. -/
structure MapRow where
  pool : Nat
  device : Nat
  resource : Nat
  spare : Nat
  deriving DecidableEq, Repr

/-- The system counters kept in MRAM (R499). -/
structure SysCounters where
  opMin : Nat := 0
  cycles : Nat := 0
  head : Nat := 0
  seq : Nat := 0
  firstGen : Nat := 0
  firstMile : Nat := 0
  floor : Nat := 0
  lockouts : Nat := 0
  thermal : Nat := 0
  gen : Nat := 0
  valid : Bool := false
  deriving DecidableEq, Repr

/-- Recorder, hold queue, UNDERCOAT map and the mirror on the safety card (R488–R506). -/
structure RecState where
  /-- Records posted and not yet written, oldest first (R494). -/
  queue : List Rec := []
  /-- Records that wait in STF-P memory while the bridge is down (R494). -/
  stfpQ : List Rec := []
  omitted : Nat := 0
  /-- Indices of FIRST whose record was found uncorrectable (R26). -/
  firstBad : List Nat := []
  /-- LAST by slot number. -/
  last : List (Nat × LastSlot) := []
  first : List Rec := []
  /-- Events raised and not yet posted. -/
  evq : List Ev := []
  evSeq : Nat := 0
  /-- The event hold queue in MRAM, oldest first (R497). -/
  hold : List Ev := []
  counters0 : SysCounters := {}
  counters1 : SysCounters := {}
  map : List MapRow := []
  reloc : Option Reloc := none
  /-- Substitutions of the controller card found due while another one runs: pool, device, resource (R29, R501). -/
  relocWait : List (Nat × Nat × Nat) := []
  /-- Exhausted spares already reported: pool and resource (R29, R30). -/
  spent : List (Nat × Nat) := []
  /-- Core 3 shadows this core, and has agreed with it: it takes the work at the next PLUMB instant that is a multiple of 4000
  (R503). -/
  coreShadow : Option Nat := none
  coreAgreed : Bool := false
  /-- Uncorrectable cache errors of cores 0–2 in the last 24 h (R501). -/
  coreErr : List (Nat × Nat) := []
  /-- Corrected cache errors of each core (R501). -/
  cacheCorr : List (Nat × Nat) := []
  /-- Symbols corrected so far in the module's protected memories, and uncorrectable codewords (R26). -/
  corrected : Nat := 0
  uncorrectable : Nat := 0
  /-- Corrected symbols of MRAM rows since entry into service, and erase counts of flash blocks (R501). -/
  rowLife : List (Nat × Nat) := []
  eraseCnt : List (Nat × Nat) := []
  /-- The mirror in STF-P flash: system counters and the owned settings (R506); kept as it is until an image that
  migrates it is confirmed. -/
  mirror : SysCounters := {}
  mirrorSettings : List (Nat × Nat) := []
  mirrorHeld : Bool := false
  /-- Serial numbers of the cards by kind and slot (R505): key 0 CTL, 1 SFC, 2 PSU-A, 3 PSU-B, 4 MOT, 100 + slot SEG. -/
  serials : List (Nat × Nat) := []
  /-- The controller card is one that replaced another and is not yet claimed (R491, R506). -/
  replaced : Bool := false
  /-- The controller card's LED shows steady blue (CARD_PREPARE, R507). -/
  prepared : List Nat := []
  deriving DecidableEq, Repr

/-! ### Host transport and commands -/

/-- A command taken from ring 0 whose final completion is not yet written (R383). -/
structure Taken where
  opcode : Nat
  tag : Nat
  index : Nat
  mode : Nat
  roles : Nat
  port : Nat
  bulkLen : Nat := 0
  bulkIndex : Nat := 0
  deriving DecidableEq, Repr

/-- An operation that completed ACCEPTED and still runs (R44); `key` tells operations of one opcode apart. -/
structure Op where
  opcode : Nat
  tag : Nat
  index : Nat
  port : Nat
  key : Nat := 0
  deriving DecidableEq, Repr

/-- A completion entry of ring 1 (R384). -/
structure Completion where
  opcode : Nat
  status : Status
  mode : Nat
  tag : Nat
  index : Nat
  /-- 0 only completion, 1 ACCEPTED, 2 final after ACCEPTED. -/
  kind : Nat
  time : Nat
  bulkIndex : Nat := 0
  bulkLen : Nat := 0
  result : List Int := []
  deriving DecidableEq, Repr

/-- A bulk-out transfer (R385): the completion follows its last entry. -/
structure Transfer where
  opcode : Nat
  tag : Nat
  /-- Length in bytes. -/
  len : Nat
  data : List Int
  /-- Entries of ring 5 written so far, the header entry included. -/
  written : Nat := 0
  completion : Completion
  deriving DecidableEq, Repr

/-- What a WRITE or NOTIFY frame to the host carries (R371, R372). -/
inductive FrameBody where
  /-- Entries `[first, first + n)` of a ring. -/
  | entries (ring first n : Nat)
  /-- The module's index of a ring. -/
  | modIdx (ring idx : Nat)
  /-- TAIL, and the LOST field of the header at the new TAIL (R389). -/
  | tail (ring idx : Nat)
  | lost (ring idx count : Nat)
  /-- FLAGS of a ring (R378). -/
  | flags (ring value : Nat)
  | notify (items : List (Nat × Nat))
  deriving DecidableEq, Repr

/-- A frame that the host has not acknowledged (R372). -/
structure Frame where
  seq : Nat
  body : FrameBody
  retries : Nat := 0
  deriving DecidableEq, Repr

/-- An outstanding READ_REQ (R371): request TAG, ring read (16 for the ring-state block), times resent. -/
structure ReadReq where
  tag : Nat
  ring : Nat
  retries : Nat := 0
  deriving DecidableEq, Repr

/-- A telemetry frame standing in its ring (R389, R391). -/
structure TlmFrame where
  first : Nat
  entries : Nat
  seq : Nat
  index : Nat
  time : Nat
  lost : Nat := 0
  flags : Nat := 0
  count : Nat := 0
  kind : Nat := 0
  /-- Payload in 32-bit words. -/
  payload : List Int := []
  deriving DecidableEq, Repr

/-- What the module holds of one ring beside its registers (R378, R387, R389). -/
structure Ring where
  tail : Nat := 0
  flags : Nat := 0
  dropped : Nat := 0
  /-- Entries published since the last NOTIFY. -/
  unannounced : Nat := 0
  frameSeq : Nat := 0
  /-- Frames due and not sent because of DIV. -/
  skipped : Nat := 0
  /-- Index of the data of the last frame due (R392). -/
  last : Option Nat := none
  frames : List TlmFrame := []
  /-- The ring met a region fault and is stopped (R374). -/
  stopped : Bool := false
  deriving DecidableEq, Repr

/-- Keying of one host port (R370). -/
inductive KeyStage where
  | down | waitEap | eapRunning | eapDone | mka | keyed | retryWait
  deriving DecidableEq, Repr

/-- A session (R451–R453): the certificate's serial, its role set and the anchor it chains to. -/
structure Session where
  cert : Nat
  roles : Nat
  anchor : Nat
  /-- Serials of the certificate's chain, its own with it. -/
  chain : List Nat := []
  deriving DecidableEq, Repr

structure HostPort where
  stage : KeyStage := .down
  session : Option Session := none
  /-- Timebase counts of the failed handshakes of the last 60 s (R451). -/
  eapFails : List Nat := []
  /-- Lowest MACsec packet number that the replay check accepts (R456). -/
  pn : Nat := 1
  /-- MAC address of the MKA key server, which every HRT frame comes from and goes to (R369). -/
  server : Nat := 0
  deriving DecidableEq, Repr

structure HrtState where
  portA : HostPort := {}
  portB : HostPort := {}
  taken : List Taken := []
  ops : List Op := []
  /-- Completions written to ring 1, oldest first, and those that wait for room in it. -/
  completions : List Completion := []
  compWait : List Completion := []
  /-- Bulk-out transfers being written to ring 5, and those written whole. -/
  transfers : List Transfer := []
  transferred : List Transfer := []
  /-- Event entries written to ring 2. -/
  events : List Ev := []
  rings : List (Nat × Ring) := []
  /-- Unacknowledged frames in SEQ order, the next SEQ and the last DOORBELL SEQ (R372, R381). -/
  frames : List Frame := []
  seq : Nat := 0
  dbSeq : Option Nat := none
  reads : List ReadReq := []
  readTag : Nat := 0
  /-- SEQ of the last SETUP_REQ and its response: value and status per operation (R375). -/
  setupSeq : Option Nat := none
  setupResp : List (Nat × Status) := []
  /-- Responses to service-port operations (R376). -/
  serviceResp : List (Nat × Status) := []
  /-- Next unconsumed bulk-in index is MOD_IDX of ring 4; entries still to be skipped as they are posted (R383). -/
  bulkSkip : Nat := 0
  /-- Rings move to the named port at the next opportunity (R395, R396), with the command that asked. -/
  switching : Option Nat := none
  /-- The rings have moved, and the module is to read every HOST_IDX at once (R395). -/
  reread : Bool := false
  /-- Timebase counts of the commands taken in the last 10 s, newest first, and the count at the last COMMAND_BACKLOG
  (R388). -/
  takes : List Nat := []
  backlogAt : Option Nat := none
  deriving DecidableEq, Repr

/-! ### Power, start-up and modes -/

/-- Where the module stands between no power and service (R56–R62). -/
inductive Phase where
  /-- Reset done, start-up not yet run. -/
  | cold
  /-- Started: a mode has been entered. -/
  | up
  /-- No image verifies: the service port offers image recovery (R57). -/
  | recovery
  /-- Start-up waits in PRIMER for the die to warm up (R529). -/
  | primer
  /-- Start-up stopped after step 4 for want of STF-C (R65). -/
  | noCtl
  /-- The aux-loss sequence has run to its end; no power (R61). -/
  | unpowered
  deriving DecidableEq, Repr

/-- A requested mode transition in progress (R40). -/
structure Trans where
  target : Nat
  tag : Nat
  index : Nat
  port : Nat
  deriving DecidableEq, Repr

/-- An orderly open in progress: the mode it leads to and the cause byte of its MODE record (R39, R490). -/
structure OrderlyOpen where
  dest : Nat
  cause : Nat
  deriving DecidableEq, Repr

structure PwrState where
  phase : Phase := .cold
  /-- A requested transition in progress. -/
  trans : Option Trans := none
  orderly : Option OrderlyOpen := none
  /-- The READY hold time runs (R39). -/
  holdRun : Bool := false
  /-- STF-C is present and its heartbeat heard (R63). -/
  ctl : Bool := true
  /-- The string was opened for want of the controller card (R64). -/
  ctlOpened : Bool := false
  /-- Aux is below the loss threshold; timebase counts of the dips within the last second (R61). -/
  auxLow : Bool := false
  dips : List Nat := []
  /-- The module is idle (R50). -/
  idle : Bool := false
  /-- Domains that did not come up (R55), bits as PWR_DOM_ON. -/
  domFault : Nat := 0
  /-- Domains that STF-P holds off after a thermal shutdown (R322), bits as PWR_DOM_ON. -/
  held : Nat := 0
  /-- Wake events recorded since the last entry into SHELF (R59). -/
  wakes : Nat := 0
  /-- MODE_REQUEST(SHELF) has completed and the links wait for the acknowledgement (R397). -/
  dropping : Bool := false
  deriving DecidableEq, Repr

/-! ### Time base -/

/-- The active copy of a timed output (R363, R364). -/
structure TimedOut where
  mode : Nat := 0
  timeline : Nat := 0
  polarity : Nat := 0
  start : Nat := 0
  /-- Period in 2⁻³² ns. -/
  period : Nat := 0
  width : Nat := 0
  /-- Next pulse number. -/
  next : Nat := 0
  running : Bool := false
  /-- Timeline value in ns at which the pulse in progress ends; the output is at its active level before it. -/
  pulseEnd : Nat := 0
  deriving DecidableEq, Repr

/-- A timestamped edge of a capture input (R366). -/
structure Edge where
  time : Nat
  rising : Bool
  deriving DecidableEq, Repr

/-- A timeTransmitter as its Announce gives it (R355, R356). -/
structure Ann where
  gmLo : Nat
  gmHi : Nat
  rank : List Nat
  deriving DecidableEq, Repr

structure TimeState where
  /-- Timebase counter, 4 ns a count (R347). -/
  count : Nat := 0
  /-- OFFSET of R348 in 2⁻³² ns; RATE is TIME_RATE. -/
  offset : Int := 0
  /-- Integral part of the servo, in RATE units (R353). -/
  integral : Int := 0
  /-- Consecutive offset measurements within 100 ns, and beyond 1 µs while LOCKED (R352). -/
  good : Nat := 0
  bad : Nat := 0
  /-- LOCKED entered since TIME last started (R352, R361). -/
  lockHeld : Bool := false
  /-- Counter value at the last offset accepted while LOCKED (R359). -/
  lastLock : Nat := 0
  /-- RATE values of the present lock with the counter at which each came into force (R359). -/
  rates : List (Nat × Int) := []
  /-- The Announce accepted on a port, while it is valid (R356). -/
  annA : Option Ann := none
  annB : Option Ann := none
  /-- Mean path delay of a port in ns as last measured (R355, R356). -/
  delayA : Int := 0
  delayB : Int := 0
  /-- Factory latency of a port from the connector to the MAC/PHY boundary in ns (R357). -/
  latA : Int := 0
  latB : Int := 0
  /-- The last bank marker carried ALIGNED (R351). -/
  bankAligned : Bool := false
  outs : List (Nat × TimedOut) := []
  tis : List (Nat × List Edge) := []
  dropped : List (Nat × Nat) := []
  deriving DecidableEq, Repr

/-! ### Segment cards, the LATH ring and the fault loop -/

/-- What an averaging window gathers for one cell, SUM or SPARE, and what the last finished one left (R78, R79, R141);
values in µV. -/
structure Avg where
  raw : Rat := 0
  n : Nat := 0
  /-- Clean instants and compensated results of the window (R141, R142). -/
  clean : Rat := 0
  cleanN : Nat := 0
  comp : Rat := 0
  compN : Nat := 0
  /-- A path next to the cell conducted; a result was corrected in compensated mode; a wire needed is unlearned. -/
  affected : Bool := false
  corrected : Bool := false
  unlearned : Bool := false
  worst : Nat := 0
  unaligned : Bool := false
  /-- The last finished window: mean, quality, accuracy class (0 A, 1 B, 2 U), unaligned mark. -/
  mean : Option Rat := none
  quality : Nat := 4
  cls : Nat := 0
  markU : Bool := true
  /-- The latest averaged value of class A or B (R148). -/
  volt : Option Rat := none
  deriving DecidableEq, Repr

/-- A verdict of R110. -/
inductive Verdict where
  | none
  /-- Wires w0–w16. -/
  | wire (k : Nat)
  | s0
  | s16
  | loss
  deriving DecidableEq, Repr

/-- What a card sums of the block in progress (R109): instants, the results of C1–C16 and SUM as they stand and times the chip, the sum
of the chips; an instant was missing or a relabel fell within it. -/
structure Blk where
  n : Nat := 0
  vs : List Int := []
  cvs : List Int := []
  s : Int := 0
  cs : Int := 0
  chips : Int := 0
  spoilt : Bool := false
  deriving DecidableEq, Repr

/-- One segment slot and the card in it. -/
structure Seg where
  /-- Card-present is asserted. -/
  present : Bool := true
  /-- The card is a blank one (R1). -/
  blank : Bool := false
  /-- Its factory data (R82, R86, R131). -/
  fac : CardFac := {}
  /-- The delay in ns from which the modulator phase was set at the join (R72). -/
  phase : Option Nat := none
  /-- The LED: 0 dark, 1 blinking amber, 2 steady green (R100). -/
  led : Nat := 0
  /-- The spare has measured the reference since the join (R86). -/
  refSeen : Bool := false
  /-- Step of R100 that the card has reached; 0 while no join runs. -/
  join : Nat := 0
  /-- The 60 s balancing hold of R136 runs. -/
  hold : Bool := true
  /-- Frame of the latest instant, and whether it has arrived for the instant in progress. -/
  frame : Option SampleFrame := none
  got : Bool := false
  /-- Consecutive instants of which no frame arrived (R95). -/
  missed : Nat := 0
  /-- NTC input codes 1–8 as last sent (R85). -/
  ntc : List (Nat × Nat) := []
  /-- SELFTEST_FAULT of the card and a segment below 16 V on keep-alive (R122, R129). -/
  selftest : Bool := false
  keepLow : Bool := false
  /-- Rotation: consecutive visits with drift by position (R82). -/
  drift : List (Nat × Nat) := []
  /-- Position the spare replaces, the second failed position; 0 none (R83, R84). -/
  subst : Nat := 0
  derived : Nat := 0
  /-- The spare failed its reference check (R82). -/
  spareFailed : Bool := false
  /-- A 1 s shadow dwell runs on this position: for SPARE_ASSIGN or for a self-test failure. -/
  shadow : Option (Nat × Bool) := none
  /-- CAL_CHECK: mean differences collected so far (R103). -/
  cal : Option (List Int) := none
  /-- Verdict of the last block that counted, and how many blocks running have given it (R111). -/
  verdict : Verdict := .none
  vcount : Nat := 0
  /-- Undiscarded blocks without a verdict since the last join, running (R116). -/
  clean : Nat := 0
  /-- Amplitudes a[1]–a[16], as and d of the last block, in µV (R109). -/
  amps : List Int := []
  /-- Positions marked INDETERMINATE as a bit map, and SUM (R112). -/
  ind : Nat := 0
  indSum : Bool := false
  /-- Comparators whose deglitch count runs, by bit (OV 0–15, UV 16–31): where it started on the card's own oscillator, in µs
  (R119). -/
  counts : List (Nat × Nat) := []
  /-- Consecutive instants for which positions 1–16 have been above and below the window (R284, R285). -/
  beyond : List (Nat × Nat) := []
  /-- The position whose comparators are tested next (R122). -/
  testPos : Nat := 1
  /-- Timebase count since which the die has read at or above SEG_HOT_C (R321). -/
  hotAt : Option Nat := none
  /-- The card hears no marker and is isolated by itself (R96). -/
  cut : Bool := false
  /-- Position the rotation dwells on, and a substitution that waits for UC_SUBSTITUTE; 0 none (R82, R504). -/
  rot : Nat := 0
  needed : Nat := 0
  /-- Where the spare stood before, and the PLUMB index at the switch (R82). -/
  rotPrev : Nat := 0
  rotAt : Nat := 0
  /-- Sums of the dwell in progress in µV: the spare less the reference or Cj, and the spare less what SUM leaves for the cell, with
  their numbers (R82, R83). -/
  dwSum : Int := 0
  dwN : Nat := 0
  shSum : Int := 0
  shN : Nat := 0
  /-- The wire-test block in progress and the last one that is whole (R109). -/
  blk : Blk := {}
  blkDone : Option Blk := none
  /-- Paths that conducted in the instant of `frame` under the compensated rules, and in a learning pulse (R142, R146). -/
  free : Nat := 0
  pulse : Nat := 0
  /-- Results of the latest instant as taken in, in µV with quality, corrected for balancing (R145). -/
  taken : List (Rat × Nat) := []
  /-- By 1–16 cells, 17 SUM, 18 SPARE. -/
  avg : List (Nat × Avg) := []
  deriving DecidableEq, Repr

structure SegState where
  segs : List (Nat × Seg) := []
  /-- The heartbeat codeword of the latest marker, and the command and echo codewords of the period in progress (R90, R93). -/
  beat : List Byte := []
  words : List (List Byte) := []
  /-- ALIGNED of the latest instants, newest first (R75, R93). -/
  aligns : List Bool := []
  /-- Timebase count of the next PLUMB instant in 2⁻³² counts, and the phase term in 0.0001 ppm (R73). -/
  nextAt : Option Nat := none
  phase : Int := 0
  /-- Numbers of ring breaks; a mask of the hops where the ring is broken (R97). -/
  hops : Nat := 0
  /-- The receiver is armed, and the arming deadline has passed (R124). -/
  armed : Bool := false
  deadline : Bool := false
  /-- The tone was lost although every card passes it (R124). -/
  loopOpen : Bool := false
  /-- The latch check of R297 is still to be made. -/
  latchCheck : Bool := false
  /-- Windows: first index of the window in progress, its length, a partial window, and the new length asked for. -/
  winStart : Nat := 0
  winLen : Nat := 16
  partialWin : Bool := true
  /-- A window is in progress. -/
  winOn : Bool := false
  /-- Window results ready: first index, length and the PARTIAL mark of the last finished window. -/
  lastStart : Nat := 0
  lastLen : Nat := 0
  lastPartial : Bool := false
  /-- Instants of the window that intake was due to take (R78). -/
  due : Nat := 0
  /-- Raw stream: ring (0 none) and segment mask (R104). -/
  rawRing : Nat := 0
  rawMask : Nat := 0
  deriving DecidableEq, Repr


/-! ### Balancing -/

/-- A running campaign (R148). -/
structure Campaign where
  kind : Nat
  target : Nat
  deadband : Nat
  /-- Time limit in s, 0 none; seconds run; seconds without a cell above the target. -/
  limit : Nat
  age : Nat := 0
  quiet : Nat := 0
  deriving DecidableEq, Repr

/-- One instant of a card kept for the learning steps (R146): results in µV, conduction map, shunt current. -/
structure Step where
  idx : Nat
  cells : List Int
  map : Nat
  current : Option Int
  deriving DecidableEq, Repr

/-- Learned resistance of one wire in µΩ (R147): the last accepted estimates, newest first, their number since
the card joined or BAL_LEARN_RW, and the value held in settings. -/
structure RwLearn where
  est : List Rat := []
  count : Nat := 0
  kept : Option Rat := none
  deriving DecidableEq, Repr

/-- One card's balancing (R133–R138). -/
structure BalCard where
  /-- Duties received and not yet in force, and duties in force, by position 1–16. -/
  received : Option (List Nat) := none
  duties : List Nat := []
  /-- Layout of the period: paths scheduled in each of its 64 slots, as bit maps. -/
  layout : List Nat := []
  /-- Paths that conduct in the slot in progress; of these, those under the compensated rules, and the one of a learning pulse. -/
  on : Nat := 0
  free : Nat := 0
  pls : Nat := 0
  /-- What conducted since the latest instant, and between the instants before it, newest first (R92). -/
  part : Nat × Nat × Nat := (0, 0, 0)
  ivs : List (Nat × Nat × Nat) := []
  /-- Paths that conducted in the period in progress. -/
  seen : Nat := 0
  /-- Paths whose last readback disagreed; switch faults; guard; thermal stop. -/
  mis : Nat := 0
  fault : Nat := 0
  guard : Nat := 0
  therm : Bool := false
  /-- Duties arrive within the lease of R135. -/
  leased : Bool := false
  saturated : Bool := false
  pause : Nat := 0
  /-- The card runs interleaved for its hourly learning window (R147). -/
  window : Bool := false
  /-- The path of the next learning pulse (R146). -/
  pulse : Nat := 0
  /-- The period in progress holds the pulse. -/
  pulsing : Bool := false
  hist : List Step := []
  deriving DecidableEq, Repr

structure BalState where
  campaign : Option Campaign := none
  /-- Duty the firmware wants of each cell. -/
  want : List (Nat × Nat) := []
  cards : List (Nat × BalCard) := []
  /-- Mode in force since the last period boundary (R144). -/
  mode : Nat := 0
  /-- Learned wires, by 32 · slot + wire. -/
  rw : List (Nat × RwLearn) := []
  /-- The card whose hourly learning window came last (R147). -/
  turn : Nat := 0
  /-- A campaign was running when the controller was reset or withdrawn (R150). -/
  lost : Bool := false
  deriving DecidableEq, Repr


/-! ### Current and insulation -/

/-- A saved copy of the charge counter (R157): value in 2⁻³² µC, generation, valid mark. -/
structure ChargeSave where
  value : Int := 0
  gen : Nat := 0
  valid : Bool := false
  deriving DecidableEq, Repr

structure CimState where
  /-- The charge counter in 2⁻³² µC (R155). -/
  charge : Int := 0
  sfc : ChargeSave := {}
  mram : ChargeSave := {}
  /-- Direction of a shunt input beyond ±80 mV: `some true` charge (R152). -/
  overRange : Option Bool := none
  /-- The shunt results of the latest instants, newest first: mA, none beyond range, with the direction (charge). -/
  recent : List (Option Int × Bool) := []
  /-- No frame of the present intake has arrived yet: channel A has still to judge the instant's current. -/
  fresh : Bool := false
  /-- Consecutive instants with |I| within the SERVICE limit (R39), and with |I| below SLC_I_MAX after SLC_WARN (R289). -/
  svcQuiet : Nat := 0
  /-- Consecutive instants above SLC_I_PEAK and above the time-limited level (R288), and with a current beyond tolerance in an inhibited
  direction (R290). -/
  slcPk : Nat := 0
  slcTm : Nat := 0
  sdiChg : Nat := 0
  sdiDis : Nat := 0
  /-- The shunt currents of the last 100 ms, newest first (R162). -/
  last100 : List (Option Int) := []
  warnQuiet : Nat := 0
  /-- Consecutive comparisons of R162 beyond and within the limit. -/
  xBad : Nat := 0
  xGood : Nat := 0
  /-- Comparisons since XCHECK was set (R291). -/
  xFor : Nat := 0
  /-- String voltage of PSU-A and PSU-B in mV (R163). -/
  vA : Option Int := none
  vB : Option Int := none
  /-- Insulation monitor: sign of the half period in progress, response of the one before in µV, half period in ms,
  consecutive discards, results in a row below and above the thresholds. -/
  positive : Bool := true
  firstHalf : Option Int := none
  half : Nat := 20000
  discards : Nat := 0
  belowWarn : Nat := 0
  aboveWarn : Nat := 0
  belowAlarm : Nat := 0
  aboveAlarm : Nat := 0
  /-- The monitor listens for a half period before it may inject (R168, R170). -/
  listening : Bool := false
  /-- The bank result received last: timebase count, and Rp, Rf+, Rf−, Ce (R169). -/
  bankRes : Option (Nat × List Nat) := none
  candidate : Bool := false
  /-- A foreign injector was heard. -/
  foreign : Bool := false
  deriving DecidableEq, Repr


/-! ### State engine (R173–R211) -/

/-- One instance record of a bank (R187, R188): states, outputs, parameter words, status, index of the last instant
consumed, and the inputs of the previous step (R185). -/
structure SeInst where
  x : List Int := []
  y : List Int := []
  par : List Int := []
  frozen : Bool := false
  termSat : Bool := false
  accSat : Bool := false
  outSat : Bool := false
  clamp : Bool := false
  held : Bool := false
  gated : Bool := false
  corrupt : Bool := false
  schedClamp : Bool := false
  gatedRun : Nat := 0
  stepIdx : Nat := 0
  lastIn : List Int := []
  /-- Worst quality among the inputs of the step (R183, source 6). -/
  qual : Nat := 0
  deriving DecidableEq, Repr

/-- An input map entry (R183). -/
structure SeInput where
  source : Nat := 0
  stride : Nat := 0
  base : Nat := 0
  deriving DecidableEq, Repr

/-- A kernel descriptor (R181). -/
structure SeDesc where
  form : Nat := 0
  n : Nat := 0
  m : Nat := 0
  p : Nat := 0
  instances : Nat := 0
  rateDiv : Nat := 1
  phase : Nat := 0
  satFreeze : Bool := false
  tableEn : Bool := false
  zgate : Bool := false
  notifies : Bool := false
  table : Nat := 0
  coefBase : Nat := 0
  stateBase : Nat := 0
  inputs : List SeInput := []
  /-- Scheduling variables: from the inputs?, index. -/
  sch1 : Bool × Nat := (false, 0)
  sch2 : Bool × Nat := (false, 0)
  schedList : Nat := 0
  agent : Nat := 0
  zsel : List Nat := []
  deriving DecidableEq, Repr

/-- A descriptor with its coefficients: value and shift (R176). -/
structure SeKernel where
  desc : SeDesc := {}
  coef : List (Int × Int) := []
  deriving DecidableEq, Repr

/-- One kernel slot: the committed kernel, its two banks, the shadow with its records, a commit asked for, a disable
that takes effect at the next step, and the renumberings seen before its last commit (R200–R203). -/
structure SeSlot where
  kern : Option SeKernel := none
  bank0 : List SeInst := []
  bank1 : List SeInst := []
  shadow : Option (SeKernel × List SeInst) := none
  committing : Bool := false
  disabling : Bool := false
  slip : Int := 0
  /-- The index has been renumbered since the last commit (R203). -/
  stale : Bool := false
  deriving DecidableEq, Repr

/-- A gain table (R191): breakpoints, values for each grid point, stored as [i2][i1][j]. -/
structure SeTable where
  bp1 : List Int := []
  bp2 : List Int := []
  s : Nat := 0
  grid : List Int := []
  deriving DecidableEq, Repr

/-- The copy in use and a loaded one that waits for the next step (R193). -/
structure SeTab where
  cur : Option SeTable := none
  next : Option SeTable := none
  /-- The schedule list that comes into force with it. -/
  nextList : Nat × List Nat := (0, [])
  deriving DecidableEq, Repr

/-- What frame intake made of one instant (R145): values with their quality codes, an absent value where none. -/
structure Intake where
  idx : Nat
  cells : List (Option Int × Nat)
  sums : List (Option Int × Nat)
  current : Option Int
  ntc : List (Option Int × Nat)
  vstring : Option Int
  deriving DecidableEq, Repr

/-- The test-signal generator (R205): running, instants since the start, phase, phase increment in 32.32, PRBS register,
output, and a stop that waits for a zero crossing (R206). -/
structure SeGen where
  running : Bool := false
  i : Nat := 0
  phi : Nat := 0
  k : Int := 0
  lfsr : Nat := 32767
  out : Int := 0
  stopping : Bool := false
  deriving DecidableEq, Repr

/-- The capture buffer (R207, R208): channel selectors, pacing slot, trigger (0 immediate, 1 index, 2 generator), PRE,
rows with the index of their step. -/
structure SeCap where
  sel : List Nat := []
  pace : Nat := 0
  trig : Nat := 0
  trigIdx : Nat := 0
  pre : Nat := 0
  rows : List (Nat × List Int) := []
  byFirmware : Bool := false
  deriving DecidableEq, Repr

/-- A cell in one bin: sums at Q30, results, instants without one, and what spoils its quality (R210, R211). -/
structure CorrCell where
  c : Int := 0
  s : Int := 0
  n : Nat := 0
  spoilt : Bool := false
  deriving DecidableEq, Repr

/-- One enabled bin: phase increment, instants to integrate and instants done, the sums of the current, and the cells. -/
structure CorrBin where
  k : Nat
  total : Nat
  done : Nat := 0
  ic : Int := 0
  is : Int := 0
  cells : List CorrCell := []
  deriving DecidableEq, Repr

/-- The result of one bin: current amplitude in mA, and per cell Z_RE, Z_IM in nΩ with quality (R210, R211). -/
structure CorrOut where
  amp : Nat
  z : List (Int × Int × Nat)
  deriving DecidableEq, Repr

structure SeState where
  slots : List (Nat × SeSlot) := []
  tables : List (Nat × SeTab) := []
  /-- Schedule lists 0–7 (R191). -/
  lists : List (Nat × List Nat) := []
  /-- The NTC map in the SE (R311). -/
  ntcMap : List Nat := []
  /-- The latest 4096 instants taken in, newest first (R184). -/
  hist : List Intake := []
  /-- Periods by which the PLUMB index has been renumbered in all (R203). -/
  slip : Int := 0
  gen : SeGen := {}
  cap : SeCap := {}
  corr : List (Nat × CorrBin) := []
  corrStart : Nat := 0
  /-- BAL_MAP of each card at the last instant integrated. -/
  corrMaps : List (Nat × Nat) := []
  corrOut : List (Nat × CorrOut) := []
  /-- The correlation unit works for the firmware (R212). -/
  corrByFirmware : Bool := false
  deriving DecidableEq, Repr


/-! ### State and health estimation (R213–R242) -/

/-- The last reference event of a cell (R230, R232): its SOC and σ_ref, the counter and bleed then, and the seconds
since with those gated. -/
structure RefPoint where
  soc : Rat
  sig : Rat
  counter : Int
  bleed : Rat
  secs : Nat := 0
  gated : Nat := 0
  deriving DecidableEq, Repr

/-- A step of 0.5 % SOC in progress for the knee event (R230): SOC and voltage in µV at its start, the least and the greatest |I| in mA
since. -/
structure KneeStep where
  soc : Rat
  volt : Rat
  lo : Nat
  hi : Nat
  deriving DecidableEq, Repr

/-- What a reload of slot 0 carries (R218): the tables and the rate, and which of the waiting requests it serves. -/
structure EstLoad where
  ocv : List Byte
  chem : List Byte
  rate : Nat
  ocvNew : Bool
  chemNew : Bool
  rateNew : Bool
  deriving DecidableEq, Repr

/-- What EST keeps of one cell beside its slot-0 record. -/
structure EstCell where
  /-- ΔRser in nΩ (R233). -/
  dR : Rat := 0
  /-- σ_ref in %, throughput in Ah and time in h since the last reference event (R229). -/
  sigRef : Rat := 10
  thr : Rat := 0
  t : Rat := 0
  /-- Charge counter at the previous refresh, in 2⁻³² µC, and charge bled since, in Ah (R217). -/
  counter : Int := 0
  bled : Rat := 0
  /-- All charge bled so far, in Ah. -/
  bledAll : Rat := 0
  /-- Seconds running gated and ungated; reported OPEN_LOOP; DEFAULT until the first reference event (R221, R242). -/
  gatedS : Nat := 0
  freeS : Nat := 0
  openLoop : Bool := false
  fresh : Bool := true
  /-- s is to be taken from the OCV table at the next averaged value (R238, R243). -/
  needOcv : Bool := true
  ref : Option RefPoint := none
  /-- Σ(u·I), Σ(I²) and seconds of the hour (R233). -/
  uI : Rat := 0
  ii : Rat := 0
  secs : Nat := 0
  /-- Σ I·(V − ŷ1) of the second in mA·µV, and its steps (R239). -/
  pSum : Int := 0
  pN : Nat := 0
  /-- Tc and Ts in °C beyond the words of the record (R239; assumption log 83). -/
  tcRest : Rat := 0
  tsRest : Rat := 0
  /-- Seconds in a row of the conditions of full charge and of quasi-rest, the knee's step in progress, and the latest two dV/dQ of its
  steps with the SOC in their middle, newest first (R230). -/
  cvS : Nat := 0
  fullDone : Bool := false
  restS : Nat := 0
  knee : Option KneeStep := none
  peaks : List (Rat × Rat) := []
  deriving DecidableEq, Repr

/-- A learned-state record (R235); per cell s, κ, ΔRser, σ and h in its units. -/
structure LearnRec where
  magic : Nat := 0x45534C31
  gen : Nat := 0
  schema : Nat := 1
  count : Nat := 0
  counter : Int := 0
  tai : Nat := 0
  opMin : Nat := 0
  cycles : Nat := 0
  qRated : Nat := 0
  sigma : Nat := 0
  campaign : Bool := false
  ocvCrc : Nat := 0
  cells : List (Int × Int × Int × Nat × Int) := []
  /-- CRC-32C of the bytes before it. -/
  crc : Nat := 0
  valid : Bool := false
  deriving DecidableEq, Repr

structure EstState where
  /-- OCV table and chemistry block in force, and those that wait for the reload of R218. -/
  ocv : List Byte := []
  chem : List Byte := []
  ocvNext : List Byte := []
  chemNext : List Byte := []
  cells : List (Nat × EstCell) := []
  /-- Slot 0 is parked, and the records EST carries meanwhile (R220). -/
  parked : Bool := false
  carried : List SeInst := []
  /-- Counter at which the records of a reload were read, until its commit (R218). -/
  readAt : Option Int := none
  /-- What the reload under way carries. -/
  load : Option EstLoad := none
  /-- Charge in Ah to be added at the first refresh after a reload. -/
  addQ : List (Nat × Rat) := []
  /-- Reported SOC in %, and the target of R226. -/
  rep : Option Rat := none
  target : Option Rat := none
  /-- Counter at the last 100 ms, and current of the instants since. -/
  prev : Int := 0
  iSum : Int := 0
  iN : Nat := 0
  /-- A full-charge event sets the reported SOC to 100 % (R228). -/
  full : Bool := false
  /-- Usable capacity Q_str in Ah (R225). -/
  qStr : Rat := 0
  /-- SOC_raw and r_low before the rounding of their registers, as fractions (R225, R226). -/
  raw : Rat := 0
  rLow : Rat := 0
  /-- The two learned-state slots (R235), a write in progress with its target, one held pending. -/
  slotA : LearnRec := {}
  slotB : LearnRec := {}
  /-- The mirror of the newest valid record on the safety card (R506). -/
  mirror : LearnRec := {}
  writing : Option (Nat × LearnRec) := none
  pending : Bool := false
  /-- Counter value of the timebase at the last write. -/
  lastWrite : Nat := 0
  deriving DecidableEq, Repr


/-! ### Dispatch and bank (R244–R264) -/

/-- An entry of a schedule (R249); a schedule without an END entry is held with an implied one (R250). -/
structure SchedEntry where
  tag : Nat
  value : Int
  kind : Nat
  notify : Bool := false
  ramp : Nat := 0
  implied : Bool := false
  /-- Not of a schedule: DSP_SETPOINT's own (R253). -/
  single : Bool := false
  deriving DecidableEq, Repr

/-- A perturbation requested of the PCS (R255, R256): amplitude in mA, duration in PLUMB periods. -/
structure Perturb where
  k : Nat
  amp : Nat
  dur : Nat
  start : Nat
  acked : Bool := false
  deriving DecidableEq, Repr

structure DspState where
  /-- The two schedule buffers (R250), the one loaded last, the one running, and a started one that waits for its first
  entry, with that entry's index. -/
  bufs : List (Nat × List SchedEntry) := []
  loaded : Option Nat := none
  running : Option Nat := none
  starting : Option (Nat × Nat) := none
  /-- SETPOINT frames queued on CAN0, oldest first; the first lies in its buffer (R251, R252). -/
  out : List SchedEntry := []
  /-- The string's published limits: currents of charge and discharge in mA, powers in W, four horizons each (R244). -/
  pub : List Int := []
  /-- SEQ of the dispatch frames and rolling count of the SC240 frames, by identifier (R247, R416). -/
  seqs : List (Nat × Nat) := []
  perturb : Option Perturb := none
  deriving DecidableEq, Repr

/-- What this module knows of the module at one bank position, its own included (R259). -/
structure BankString where
  closed : Bool := false
  mode : Nat := 0
  fw : Nat := 0
  aligned : Bool := false
  dup : Bool := false
  /-- Mean current of the last second in mA, its index and its unaligned mark. -/
  mean : Option Int := none
  meanIdx : Nat := 0
  unaligned : Bool := false
  /-- String voltage in mV, SOC and σ in 0.01 %, capacity in mAh, energies of R247 in Wh. -/
  volt : Option Int := none
  soc : Nat := 65535
  sigma : Nat := 65535
  cap : Nat := 0
  eLow : Int := 0
  eHigh : Int := 0
  limits : List Int := []
  deriving DecidableEq, Repr

structure BankState where
  strings : List (Nat × BankString) := []
  /-- Bank limits as last published by this module, and those of the latest BANK_LIMITS received, in the order of DspState.pub (R245, R262). -/
  pub : List Int := []
  heard : List Int := []
  /-- Measured shares by position: charge and discharge, with the set of closed strings they were measured for (R261). -/
  chg : List (Nat × Rat) := []
  dis : List (Nat × Rat) := []
  chgSet : Nat := 0
  disSet : Nat := 0
  /-- Shares in use and whether they carry the margin of an unaligned mean. -/
  useChg : List (Nat × Rat) := []
  useDis : List (Nat × Rat) := []
  margin : Bool := false
  /-- Seconds for which a share departs beyond the threshold, by 2 · position + direction (R262). -/
  imbal : List (Nat × Nat) := []
  /-- This second's current: sum in mA and instants (R259). -/
  sum : Int := 0
  n : Nat := 0
  skewed : Bool := false
  /-- Latest voltage reported by a closed string (R260). -/
  vBus : Option Int := none
  /-- The master's outstanding grant and the requests that wait, by position with their voltages (R260). -/
  granted : Option Nat := none
  waiting : List (Nat × Int) := []
  /-- This module has asked for a grant and waits for the answer. -/
  asking : Bool := false
  /-- BANK_OPEN_ALL has been sent and strings are still closed (R265). -/
  openAll : Bool := false
  /-- The latest message sent of each kind (R259). -/
  sent : List (Nat × BankMsg) := []
  deriving DecidableEq, Repr


/-! ### CAN controllers (R401–R417) -/

/-- What one controller holds beside its registers: exact error counters (R411), consecutive ACK errors (R412), the
FIFOs with the head first (R406), attempts and last error of each pending buffer (R408), a configuration change that waits
for integration (R413). -/
structure CanBus where
  tec : Nat := 0
  rcv : Nat := 0
  acks : Nat := 0
  fifo0 : List CanFrame := []
  fifo1 : List CanFrame := []
  tries : List (Nat × Nat) := []
  /-- Buffers whose REQ was written in the cycle in which the last request completes (R37). -/
  again : List Nat := []
  errs : List (Nat × Nat) := []
  integrating : Bool := false
  deriving DecidableEq, Repr
/-! ### Sensor buses (R418–R435) -/

/-- A controller transfer (R421). -/
structure Xfer where
  key : Nat
  addr : Nat
  tenBit : Bool
  pec : Bool
  noRstart : Bool
  wr : List Byte
  rd : Nat
  attempts : Nat := 0
  deriving DecidableEq, Repr

/-- One bus beside its registers: transfers queued with the one in progress first, the receive FIFO as SB_TGT_RX words, the
image pointer, a configuration that waits for the bus to be free with what its sample will find (R435), the number of the next
transfer, the bytes last sent as target. -/
structure SbBus where
  queue : List Xfer := []
  fifo : List Nat := []
  ptr : Nat := 0
  cfg : Option (List Nat × BusSense) := none
  next : Nat := 0
  served : List Byte := []
  /-- Bytes driven in the transfer in progress or the last one: addresses, data and PEC (R421, R422). -/
  drove : List Byte := []
  /-- The wake address was acknowledged in SHELF (R433). -/
  acked : Bool := false
  deriving DecidableEq, Repr

/-! ### Safety -/

/-- State of an input's machine (R273). -/
inductive InSt where
  | healthy | demand | back
  deriving DecidableEq, Repr

/-- One safety input SI1–SI8 (R270–R274). -/
structure SafeInput where
  st : InSt := .demand
  both : Bool := true
  disc : Bool := false
  /-- Channels in demand after the filter. -/
  a : Bool := true
  b : Bool := true
  /-- Start-up test: both channels seen open, both seen closed, since STF-P started (R47). -/
  seenOpen : Bool := false
  seenClosed : Bool := false
  /-- Consecutive failed pulses of channel a and of channel b, on their own source and on the other one, and the
  pulses passed running (R272, R296). -/
  ownA : Nat := 0
  otherA : Nat := 0
  ownB : Nat := 0
  otherB : Nat := 0
  passed : Nat := 0
  deriving DecidableEq, Repr

/-- Steps of a closing (R281). -/
inductive Closing where
  | idle
  /-- KPC closed, weld check of step 3 running. -/
  | weldCheck
  /-- KN closed, precharge of step 5 running. -/
  | precharge
  /-- KP closed, step 7 awaited. -/
  | confirm
  deriving DecidableEq, Repr

/-- A contactor's failing feedback and switches read on although commanded off are counted here. -/
structure OutState where
  /-- Consecutive readings that find a high-side or low-side switch on though commanded off (R277). -/
  stuckHs : Nat := 0
  stuckLs : Nat := 0
  deriving DecidableEq, Repr

/-- One slot's withdrawal history (R294, R296). -/
structure WithdrawState where
  /-- Slots whose withdrawal raised WITHDRAW, slots for which CARD_LOST was raised, and slots whose card raised SENSE_LOSS, since the
  last reset. -/
  raised : List Nat := []
  lost : List Nat := []
  sense : List Nat := []
  deriving DecidableEq, Repr

structure SafeState where
  /-- Safety memory: latched causes as a bit map (bit c for cause code c), first cause, its channel, last cause. -/
  causes : Nat := 0
  first : Nat := 0
  firstCh : Nat := 0
  last : Nat := 0
  /-- Parameter block in force in channel A and in channel B, 512 bytes each; empty before the first is confirmed. -/
  blockA : List Byte := []
  blockB : List Byte := []
  /-- The two copies in MRAM (R303). -/
  copy0 : List Byte := []
  copy1 : List Byte := []
  /-- Pending block with the certificate that loaded it (R302, R455). -/
  pendingBlock : List Byte := []
  pendingCert : Nat := 0
  inputs : List (Nat × SafeInput) := []
  outs : List (Nat × OutState) := []
  closing : Closing := .idle
  /-- Count at which feedback confirmed a closing that waits for the commit of slot 0 (R220). -/
  confirmAt : Option Nat := none
  /-- Where the closing began: READY or SERVICE (R282). -/
  closingFrom : Nat := 2
  /-- Precharge energy of the closing in progress, in mA² · instants (R281). -/
  energy : Nat := 0
  instants : Nat := 0
  /-- The largest |I| in mA since KPC alone was closed (R281, R298), and consecutive instants of step 5 with |I| at most PC_I_DONE. -/
  peak : Nat := 0
  low : Nat := 0
  /-- Timebase count at which a contactor last closed (R278). -/
  closedAt : Nat := 0
  /-- Closing refused for 60 s after an early end, until this counter value (R282). -/
  coolUntil : Nat := 0
  /-- An SSD demand runs its SSD_DELAY (R268). -/
  ssdDelay : Bool := false
  /-- The test close of KPC for WELD_KN is in progress (R298). -/
  weldTest : Bool := false
  withdraw : WithdrawState := {}
  /-- Internal inhibits of SLC_WARN (R289): charge and discharge. -/
  inhChg : Bool := false
  inhDis : Bool := false
  /-- STW holds charge inhibited (R292). -/
  stwInhibit : Bool := false
  /-- STF-H applies SVC_I_MAX (R288). -/
  svcSignal : Bool := false
  /-- Timebase counts at which the reset window opened, the withdrawal was announced, and a channel decided on a disconnect whose switches
  have not yet all read off (R298, R294, R308). -/
  windowAt : Nat := 0
  wdAt : Nat := 0
  reactAt : Option Nat := none
  /-- Self-tests of both channels and the charge counter passed (R46). -/
  selfTest : Bool := false
  /-- A mode has been entered since the last power-on (R280). -/
  modeEntered : Bool := false
  /-- Causes latched since the last power-on, as a bit map: two of them clear only at a later one (R296). -/
  sinceBoot : Nat := 0
  /-- An NTC outside the start window was held for STW_FILT_MS (R292). -/
  startOut : Bool := false
  /-- An NTC below STW_TMIN was held for STW_FILT_MS while the string was open (R292). -/
  lowOpen : Bool := false
  /-- The safety card is in its slot. -/
  present : Bool := true
  deriving DecidableEq, Repr

/-! ### Mailboxes -/

structure MbxState where
  /-- Agents held in reset, as a bit map over agent IDs (R441). -/
  inReset : Nat := 0
  /-- The bridge between STF-C and STF-P counts as down (R444). -/
  bridgeDown : Bool := false
  deriving DecidableEq, Repr

/-! ### Thermal management (R309–R324) -/

/-- Settings of the coolant loop (R314): Kc in 0.01 % per °C, Ti in s, operating point f in 0.01 %, feedforward gain. -/
structure Loop where
  kc : Int := 0
  ti : Nat := 1
  f : Nat := 0
  ff : Int := 0
  deriving DecidableEq, Repr

/-- The shutdown record in MRAM (R323). -/
structure ShutRec where
  magic : Nat := 0x54485344
  valid : Bool := false
  peak : Int := 0
  mode : Nat := 0
  ack : Bool := false
  tai : Nat := 0
  opMin : Nat := 0
  cycles : Nat := 0
  count : Nat := 0
  /-- Low 24 bits of the CRC-32C of bytes 0–59. -/
  crc : Nat := 0
  deriving DecidableEq, Repr

/-- A step test (R317): step, duration and the start index of the generator. -/
structure Tune where
  step : Int
  dur : Nat
  start : Nat := 0
  deriving DecidableEq, Repr

/-- The result of a step test: K, τ, θ and the proposed Kc, Ti, in the units of THM_SET_LOOP. -/
structure TuneRes where
  gain : Int
  tau : Int
  theta : Int
  kc : Int
  ti : Nat
  deriving DecidableEq, Repr

/-- Conversions of one NTC in the present second: sum, number, worst quality (R310). -/
structure NtcSum where
  sum : Int := 0
  n : Nat := 0
  qual : Nat := 0
  deriving DecidableEq, Repr

structure ThmState where
  loop : Loop := {}
  /-- Latest conversion of each module NTC with its quality, and the present second's (R310). -/
  ntc : List (Nat × (Option Int × Nat)) := []
  sums : List (Nat × NtcSum) := []
  /-- Quality of each NTC as last reported (R310). -/
  repQ : List (Nat × Nat) := []
  /-- The NTC map in settings (R311); the default where empty. -/
  map : List Nat := []
  tune : Option Tune := none
  tuneRes : Option TuneRes := none
  /-- Host positions (R315). -/
  hostValve : Nat := 0
  hostDamper : Nat := 0
  /-- A target has been sent to the valve since it last needed one. -/
  sent : Bool := false
  /-- A target has been sent to the damper. -/
  sentD : Bool := false
  shut : ShutRec := {}
  /-- A shutdown is decided and its domains are held off (R322). -/
  shutting : Bool := false
  heldOff : Bool := false
  /-- Held off until a power-on reset; the timebase count at the last restart (R324). -/
  stuck : Bool := false
  restartAt : Option Nat := none
  /-- Highest STF-C reading since the die last reached SHUTDOWN_C, and the mode and time at step 2 of R322 (R323). -/
  peak : Int := -128
  shutMode : Nat := 0
  shutTai : Nat := 0
  /-- Milliseconds for which the die has been at or above SHUTDOWN_C (R322). -/
  hotMs : Nat := 0
  /-- Milliseconds for which the die has stayed 2 °C below the present step (R319). -/
  coolMs : Nat := 0
  deriving DecidableEq, Repr



/-! ### Motion (R326–R346) -/

/-- What STF-C sends to the motion card over the motion link (R343); `x` is the axis. -/
inductive MotMsg where
  /-- A target in microsteps, from THM or from the host (MOT_MOVE). -/
  | target (x : Nat) (t : Int) (host : Bool)
  /-- A stop, with its END_CAUSE (R337). -/
  | stop (x : Nat) (emergency : Bool) (cause : Nat)
  /-- New limits stand in the registers; the ones before: VMAX, AMAX, DMAX, JMAX (R333). -/
  | limits (x : Nat) (old : List Nat)
  | home (x : Nat)
  deriving DecidableEq, Repr

/-- Stages of homing by the steps of R340. -/
inductive HomeStage where
  | none
  /-- Step 1: away from the tripped switch. -/
  | away
  /-- Step 2: the search. -/
  | search
  /-- Step 3: deceleration after the edge, then the return to the back-off point; step 1's back-off also runs as `back`. -/
  | slow
  | back
  /-- Step 4: the slow approach. -/
  | approach
  /-- Step 5: deceleration after the latching edge. -/
  | latched
  deriving DecidableEq, Repr

/-- One input of an axis as its debouncing sees it (R334): raw level, counter at the last raw transition, position at the
first raw transition of the change in progress. -/
structure MotIn where
  raw : Bool := false
  changed : Option Nat := none
  first : Int := 0
  deriving DecidableEq, Repr

structure MotAxis where
  /-- Acceleration in microsteps/s². -/
  acc : Int := 0
  /-- The limits kept by LIMIT_DEFERRED for the rest of the move: VMAX, AMAX, DMAX, JMAX. -/
  old : Option (List Nat) := none
  stage : HomeStage := .none
  /-- Position of the latest confirmed edge of the home switch. -/
  edge : Int := 0
  /-- Raw transitions of the home switch in the approach window, and the counter value at which the window closes. -/
  edges : Nat := 0
  windowEnd : Option Nat := none
  /-- The move in force carries out a link loss (R343). -/
  linkLoss : Bool := false
  /-- END_CAUSE of the stop in progress, and whether it is an emergency stop. -/
  stopCause : Nat := 0
  emergency : Bool := false
  /-- Counter value at which a fault's cause was last present; the fault came from the die (R327). -/
  causeAt : Nat := 0
  causeDie : Bool := false
  /-- Counter value since which |v| stands at or above the floor (R338). -/
  fast : Option Nat := none
  /-- Phase currents in units of the table, 4095 full scale, and the rms current for which they stand in 10 mA (R328, R329). -/
  ia : Int := 0
  ib : Int := 4095
  amps : Nat := 0
  /-- Counter values at the latest readings, and since which the axis stands at rest (R328, R331). -/
  readAt : Nat := 0
  restAt : Nat := 0
  /-- Counter value since which the motor supply has been out of tolerance (R327). -/
  vmBad : Option Nat := none
  /-- Consecutive ticks with the load angle beyond the stall angle (R339). -/
  overTicks : Nat := 0
  /-- Where step 2 of homing began (R341). -/
  searchFrom : Int := 0
  /-- The planner tick and the rank of what governed the axis in it: 1 fault, 2 limit or homing abort, 3 stall; 0 none yet (R336). -/
  gov : Nat × Nat := (0, 0)
  inputs : List (Nat × MotIn) := []
  deriving DecidableEq, Repr

structure MotState where
  axes : List (Nat × MotAxis) := []
  /-- Microstep tables in settings (R330); the default where none is listed. -/
  tables : List (Nat × List Nat) := []
  /-- Messages on the motion link, oldest first. -/
  link : List MotMsg := []
  /-- Position and HOMED of each axis as passed to STF-C (R344). -/
  saved : List (Nat × (Int × Bool)) := []
  /-- Milliseconds for which the motion controller's die has read 125 °C or more (R327). -/
  dieMs : Nat := 0
  /-- CARD_PREPARE of the motion card waits for both axes to stand (R507). -/
  preparing : Bool := false
  deriving DecidableEq, Repr


/-! ### Security -/

/-- A trust anchor with its deny list (R449). -/
structure Anchor where
  ca : List Byte
  deny : List Nat := []
  deriving DecidableEq, Repr

structure SecState where
  /-- The session of the service port, where one is open (R453), and one that authenticates the module only (R450). -/
  service : Option Session := none
  claiming : Bool := false
  anchors : List (Nat × Anchor) := []
  /-- Wrong claim codes so far, and the service port closed to claiming (R450). -/
  wrong : Nat := 0
  shut : Bool := false
  /-- The reed sensor's latch, and the AON note on which the module has not acted (R458). -/
  latch : Bool := false
  note : Option Nat := none
  /-- Sequence number of the newest audit record (R457, R459). -/
  auditSeq : Nat := 0
  deriving DecidableEq, Repr

/-! ### Firmware update (R463–R487) -/

/-- The fields of a SKIM header (R465); digests as numbers. -/
structure Skim where
  target : Nat := 0
  kind : Nat := 0
  len : Nat := 0
  imgLen : Nat := 0
  version : Nat := 0
  epoch : Nat := 0
  hwMin : Nat := 0
  schema : Nat := 0
  minSchema : Nat := 0
  keyId : Nat := 0
  restartOnly : Bool := false
  revoke : Bool := false
  revokeMask : Nat := 0
  base : Nat := 0
  image : Nat := 0
  body : Nat := 0
  deriving DecidableEq, Repr

/-- A download session (R468–R470): header, header bytes, and for each chunk held its CRC and its bytes. -/
structure Package where
  head : Skim := {}
  raw : List Byte := []
  chunks : List (Nat × (Nat × List Byte)) := []
  deriving DecidableEq, Repr

/-- What an image bank holds (R463, R464): the image whole, with its version, schema and digest, or nothing. -/
structure ImgBank where
  valid : Bool := false
  version : Nat := 0
  schema : Nat := 0
  minSchema : Nat := 0
  digest : Nat := 0
  data : List Byte := []
  deriving DecidableEq, Repr

/-- A switch record (R475): STATE 0 confirmed, 1 TRIAL, 2 handed back. -/
structure SwitchRec where
  gen : Nat := 0
  bank : Nat := 0
  state : Nat := 0
  left : Nat := 0
  copy : Nat := 0
  version : Nat := 0
  schema : Nat := 1
  fbVersion : Nat := 0
  fbSchema : Nat := 0
  digest : Nat := 0
  fbDigest : Nat := 0
  valid : Bool := false
  deriving DecidableEq, Repr

/-- A settings copy that the running image does not own (R472): its schema, register fields and tables. -/
structure SetCopy where
  valid : Bool := false
  schema : Nat := 0
  fields : List (Nat × Nat) := []
  ocv : List Byte := []
  chem : List Byte := []
  loop : Loop := {}
  map : List Nat := []
  tables : List (Nat × List Nat) := []
  deriving DecidableEq, Repr

structure UpdState where
  pkg : Option Package := none
  /-- Switch record slots of STF-C in MRAM, and of STF-P on the safety card (R475, R483). -/
  sw0 : SwitchRec := { valid := true }
  sw1 : SwitchRec := {}
  safeSw : SwitchRec := { valid := true }
  ctl0 : ImgBank := { valid := true, schema := 1 }
  ctl1 : ImgBank := {}
  safe0 : ImgBank := { valid := true }
  safe1 : ImgBank := {}
  /-- The image verified and held for transfer to STF-P or the segment cards (R471). -/
  staged : List Byte := []
  /-- Digest of the microcode that each card runs, by slot, and its bytes (R463, R484). -/
  seg : List (Nat × Nat) := []
  segData : List Byte := []
  /-- The card that an aborted campaign left in progress, with the digest it is loaded with (R470, R484). -/
  card : Option (Nat × Nat) := none
  /-- Last step of R473 that an activation has done; 0 while none runs. -/
  step : Nat := 0
  /-- Timebase count at which the shadow run began (R473, R474). -/
  shadowFrom : Nat := 0
  /-- The settings copy that the running image does not own. -/
  other : SetCopy := {}
  /-- The old image, with its memory, stays resident (R476), and the operations it had in progress. -/
  resident : Bool := false
  oldOps : List Op := []
  deriving DecidableEq, Repr

/-- Why a command stops for good.  No command of this hardware does: the spec gives every row an effect. -/
inductive Fault where
  /-- Raised by nothing: the type must name a reason, and no row of the table has one (safe). -/
  | unraised
  deriving DecidableEq, Repr

/-- Why the model refuses a command.  `notModelled` is raised by no arm while every row has its meaning (safe). -/
inductive Refusal where
  /-- The row of the table has no meaning yet; raised by `exec`'s refused arms only (safe). -/
  | notModelled (mnemonic : String)
  deriving DecidableEq, Repr

/-- The whole block. -/
structure State where
  /-- Set-up registers by field, `byte address * 32 + lowest bit` to value, rising keys; a field that is not
  listed holds its reset value (R516). -/
  regs : List (Nat × Nat) := []
  /-- Settings kept in MRAM, by field as `regs` (R516, R472). -/
  settings : List (Nat × Nat) := []
  /-- High words latched by paired reads, by agent and register address (R513, R514). -/
  latches : List (Nat × Nat) := []
  /-- The model's own counter of free values drawn (assumption log 4). -/
  free : Nat := 0
  /-- The word that the last register read returned to its reader. -/
  lastRead : Nat := 0
  recorder : RecState := {}
  hrt : HrtState := {}
  pwr : PwrState := {}
  time : TimeState := {}
  seg : SegState := {}
  bal : BalState := {}
  cim : CimState := {}
  se : SeState := {}
  est : EstState := {}
  dsp : DspState := {}
  bank : BankState := {}
  can : List (Nat × CanBus) := []
  sb : List (Nat × SbBus) := []
  safe : SafeState := {}
  mbx : MbxState := {}
  thm : ThmState := {}
  mot : MotState := {}
  sec : SecState := {}
  upd : UpdState := {}
  /-- Commands that wait, first in, first out. -/
  pending : List Instr := []
  deriving DecidableEq, Repr

/-- The module right after reset: every register at its Reset value, nothing started (R516, R56). -/
def State.reset : State := {}

end Sys2Proof.Machine
end

