-- ==== Sys2Proof/Machine/RegMap.lean ====
section
/-! DEFINITION. The register map (R508–R517): every field of every set-up register as a named `Field`
(byte address, lowest bit, width, reset value), every W1C flag with its event counter (R35), and the table
`regTable` of register words with access types, stated ranges and "reads as" values (R510–R512).
Written from the register tables of the chapters.  A reset value the spec gives as "—" is 0 here
(DESIGN CHOICE, assumption log 2); "per variant" is the MSC416-A26 (assumption log 3). -/

namespace Sys2Proof.Machine

/-- One field of a set-up register: the byte address of its word, its lowest bit, its width and its reset value. -/
structure Field where
  addr : Nat
  lo : Nat
  width : Nat
  reset : Nat
  deriving DecidableEq, Repr

/-- A W1C flag with its 16-bit event counter (R35). -/
structure Flag where
  bit : Field
  cnt : Field
  deriving DecidableEq, Repr

/-- Access types of R510 (no register has a WO field). -/
inductive Access where
  | ro | rw | w1c | w1s | rwl
  deriving DecidableEq, Repr

/-- What the register table says of one field: place, access, reset, stated range and "reads as" values (R512). -/
structure FieldSpec where
  lo : Nat
  width : Nat
  acc : Access
  reset : Nat
  min : Nat := 0
  max : Nat := 2 ^ width - 1
  /-- `(a, b, v)`: a written value from `a` to `b` is accepted and reads as `v`. -/
  readsAs : List (Nat × Nat × Nat) := []
  /-- The field is kept in settings (R516). -/
  kept : Bool := false
  deriving DecidableEq, Repr

/-- One row of the register table: base address, index dimensions (stride and count, widest stride first), fields. -/
structure RegRow where
  base : Nat
  dims : List (Nat × Nat)
  fields : List FieldSpec
  deriving DecidableEq, Repr

def FieldSpec.at (sp : FieldSpec) (addr : Nat) : Field := ⟨addr, sp.lo, sp.width, sp.reset⟩

/-! ### SYS — spec/21_register_map.md -/
def F.SYS_ID_SEG_FITTED : Field := ⟨0x0, 0, 8, 26⟩
def F.SYS_ID_CTL_REV : Field := ⟨0x0, 8, 8, 0⟩
def F.SYS_ID_BP_REV : Field := ⟨0x0, 16, 8, 0⟩
def F.SYS_ID_MAP_VERSION : Field := ⟨0x0, 24, 8, 1⟩
def F.SYS_MODE_MODE : Field := ⟨0x10, 0, 3, 1⟩
def F.SYS_MODE_TRANSITION : Field := ⟨0x10, 3, 1, 0⟩
def F.SYS_MODE_TARGET : Field := ⟨0x10, 4, 3, 1⟩
def F.SYS_MODE_LOCKOUT_LATCHED : Field := ⟨0x10, 7, 1, 0⟩
def F.SYS_MODE_READY_BLOCK : Field := ⟨0x10, 16, 8, 255⟩
def F.SYS_CFG_READY_HOLD_S : Field := ⟨0x14, 0, 12, 900⟩
/-! ### PWR — spec/02_modes_power_and_startup.md -/
def F.PWR_STATE_STATE : Field := ⟨0x10000, 0, 3, 0⟩
def F.PWR_STATE_FLOOR : Field := ⟨0x10000, 4, 3, 0⟩
def F.PWR_LAT_TOL_TOL_US : Field := ⟨0x10004, 0, 32, 0⟩
def F.PWR_DOM_ON_DOM : Field := ⟨0x10010, 0, 13, 8191⟩
def F.PWR_SEG_ON_ISLAND : Field := ⟨0x10014, 0, 26, 0x3FFFFFF⟩
def F.PWR_AUX_STATUS_AUX_MV : Field := ⟨0x10020, 0, 16, 0⟩
def F.PWR_AUX_STATUS_AUX_DIP : Field := ⟨0x10020, 16, 1, 0⟩
def F.PWR_AUX_STATUS_AUX_LOSS : Field := ⟨0x10020, 17, 1, 0⟩
def F.PWR_AUX_STATUS_HOLDUP_OK : Field := ⟨0x10020, 18, 1, 0⟩
def F.PWR_AUX_STATUS_PSU_A_OK : Field := ⟨0x10020, 19, 1, 0⟩
def F.PWR_AUX_STATUS_PSU_B_OK : Field := ⟨0x10020, 20, 1, 0⟩
def F.PWR_AUX_DIP_CNT_COUNT : Field := ⟨0x10024, 0, 16, 0⟩
def F.PWR_RESET_CAUSE_KIND : Field := ⟨0x10030, 0, 3, 1⟩
def F.PWR_RESET_CAUSE_DETAIL : Field := ⟨0x10030, 8, 8, 0⟩
def F.PWR_RESET_CAUSE_POWER_CYCLES : Field := ⟨0x10030, 16, 16, 0⟩
/-! ### TIME — spec/13_time_and_plumb.md -/
def F.TIME_CFG_PTP_EN : Field := ⟨0x20000, 0, 1, 1⟩
def F.TIME_CFG_BANK_EN : Field := ⟨0x20000, 1, 1, 1⟩
def F.TIME_PTP_CFG_PROFILE : Field := ⟨0x20004, 0, 1, 0⟩
def F.TIME_PTP_CFG_TRANSPORT : Field := ⟨0x20004, 1, 1, 0⟩
def F.TIME_PTP_CFG_DELAY_P2P : Field := ⟨0x20004, 2, 1, 0⟩
def F.TIME_PTP_CFG_UNPROTECTED : Field := ⟨0x20004, 3, 1, 0⟩
def F.TIME_PTP_CFG_ANN_TIMEOUT : Field := ⟨0x20004, 4, 4, 3⟩
def F.TIME_PTP_CFG_DOMAIN : Field := ⟨0x20004, 8, 8, 0⟩
def F.TIME_SERVO_STEP_NS : Field := ⟨0x20008, 0, 17, 1000⟩
def F.TIME_HOLD_DEGRADE_NS : Field := ⟨0x2000c, 0, 17, 100⟩
def F.TIME_HOLD_HOLD_FREQ : Field := ⟨0x2000c, 17, 7, 5⟩
def F.TIME_HOLD_HOLD_DRIFT : Field := ⟨0x2000c, 24, 8, 10⟩
def F.TIME_STATUS_STATE : Field := ⟨0x20010, 0, 3, 0⟩
def F.TIME_STATUS_TAI_VALID : Field := ⟨0x20010, 3, 1, 0⟩
def F.TIME_STATUS_ALIGN_DEGRADED : Field := ⟨0x20010, 4, 1, 0⟩
def F.TIME_STATUS_ACTIVE_PORT : Field := ⟨0x20010, 5, 1, 0⟩
def F.TIME_STATUS_BANK_HOPS : Field := ⟨0x20010, 6, 3, 0⟩
def F.TIME_OFFSET_VALUE : Field := ⟨0x20014, 0, 32, 0⟩
def F.TIME_RATE_VALUE : Field := ⟨0x20018, 0, 32, 0⟩
def F.TIME_HOLD_ERR_VALUE : Field := ⟨0x2001c, 0, 32, 0⟩
def F.TIME_NOW_LO_VALUE : Field := ⟨0x20020, 0, 32, 0⟩
def F.TIME_NOW_HI_VALUE : Field := ⟨0x20024, 0, 32, 0⟩
def F.TIME_NOW_FRAC_VALUE : Field := ⟨0x20028, 0, 32, 0⟩
def F.TIME_PLUMB_DIFF_VALUE : Field := ⟨0x2002c, 0, 32, 0⟩
def F.TIME_COUNT_LO_VALUE : Field := ⟨0x20030, 0, 32, 0⟩
def F.TIME_COUNT_HI_VALUE : Field := ⟨0x20034, 0, 32, 0⟩
def F.TIME_GM_ID_LO_ID : Field := ⟨0x20040, 0, 32, 0⟩
def F.TIME_GM_ID_HI_ID : Field := ⟨0x20044, 0, 32, 0⟩
def F.TIME_ASYM_NS (p : Nat) : Field := ⟨0x20050 + 4 * p, 0, 16, 0⟩
def F.TIME_EVENT_LOCKED : Field := ⟨0x20060, 0, 1, 0⟩
def F.TIME_EVENT_LOCK_LOST : Field := ⟨0x20060, 1, 1, 0⟩
def F.TIME_EVENT_DEGRADED : Field := ⟨0x20060, 2, 1, 0⟩
def F.TIME_EVENT_STEPPED : Field := ⟨0x20060, 3, 1, 0⟩
def F.TIME_EVENT_PORT_SWITCH : Field := ⟨0x20060, 4, 1, 0⟩
def F.TIME_EVENT_TO_LATE : Field := ⟨0x20060, 5, 1, 0⟩
def F.TIME_EVENT_TI_OVF : Field := ⟨0x20060, 6, 1, 0⟩
def F.TIME_EVT_CNT0_COUNT_LO : Field := ⟨0x20064, 0, 16, 0⟩
def F.TIME_EVT_CNT0_COUNT_HI : Field := ⟨0x20064, 16, 16, 0⟩
def F.TIME_EVT_CNT1_COUNT_LO : Field := ⟨0x20068, 0, 16, 0⟩
def F.TIME_EVT_CNT1_COUNT_HI : Field := ⟨0x20068, 16, 16, 0⟩
def F.TIME_EVT_CNT2_COUNT_LO : Field := ⟨0x2006c, 0, 16, 0⟩
def F.TIME_EVT_CNT2_COUNT_HI : Field := ⟨0x2006c, 16, 16, 0⟩
def F.TIME_EVT_CNT3_COUNT_LO : Field := ⟨0x20070, 0, 16, 0⟩
def F.TIME_EVT_CNT3_COUNT_HI : Field := ⟨0x20070, 16, 16, 0⟩
def F.TIME_TO_CFG_MODE (n : Nat) : Field := ⟨0x20100 + 32 * n, 0, 2, 0⟩
def F.TIME_TO_CFG_TIMELINE (n : Nat) : Field := ⟨0x20100 + 32 * n, 2, 1, 0⟩
def F.TIME_TO_CFG_POLARITY (n : Nat) : Field := ⟨0x20100 + 32 * n, 3, 1, 0⟩
def F.TIME_TO_CFG_ARM (n : Nat) : Field := ⟨0x20100 + 32 * n, 4, 1, 0⟩
def F.TIME_TO_CFG_DISARM (n : Nat) : Field := ⟨0x20100 + 32 * n, 5, 1, 0⟩
def F.TIME_TO_CFG_ARMED (n : Nat) : Field := ⟨0x20100 + 32 * n, 6, 1, 0⟩
def F.TIME_TO_START_LO_VALUE (n : Nat) : Field := ⟨0x20104 + 32 * n, 0, 32, 0⟩
def F.TIME_TO_START_HI_VALUE (n : Nat) : Field := ⟨0x20108 + 32 * n, 0, 32, 0⟩
def F.TIME_TO_PERIOD_VALUE (n : Nat) : Field := ⟨0x2010c + 32 * n, 0, 32, 0⟩
def F.TIME_TO_PERIOD_FRAC_VALUE (n : Nat) : Field := ⟨0x20110 + 32 * n, 0, 32, 0⟩
def F.TIME_TO_WIDTH_VALUE (n : Nat) : Field := ⟨0x20114 + 32 * n, 0, 32, 0⟩
def F.TIME_TO_COUNT_PULSES (n : Nat) : Field := ⟨0x20118 + 32 * n, 0, 16, 0⟩
def F.TIME_TO_COUNT_SKIPPED (n : Nat) : Field := ⟨0x20118 + 32 * n, 16, 16, 0⟩
def F.TIME_TI_CFG_ENABLE (n : Nat) : Field := ⟨0x20200 + 32 * n, 0, 1, 0⟩
def F.TIME_TI_CFG_EDGE (n : Nat) : Field := ⟨0x20200 + 32 * n, 1, 2, 1⟩
def F.TIME_TI_CFG_FILTER (n : Nat) : Field := ⟨0x20200 + 32 * n, 8, 8, 0⟩
def F.TIME_TI_CFG_LEVEL (n : Nat) : Field := ⟨0x20200 + 32 * n, 16, 5, 0⟩
def F.TIME_TI_TS_LO_VALUE (n : Nat) : Field := ⟨0x20204 + 32 * n, 0, 32, 0⟩
def F.TIME_TI_TS_HI_VALUE (n : Nat) : Field := ⟨0x20208 + 32 * n, 0, 32, 0⟩
def F.TIME_TI_INFO_EDGE (n : Nat) : Field := ⟨0x2020c + 32 * n, 0, 1, 0⟩
def F.TIME_TI_INFO_DROPPED (n : Nat) : Field := ⟨0x2020c + 32 * n, 16, 16, 0⟩
/-! ### HRT — spec/14_host_transport.md -/
def F.HRT_CFG_RINGS_ON : Field := ⟨0x30000, 0, 1, 0⟩
def F.HRT_CFG_PREF_PORT : Field := ⟨0x30000, 1, 1, 0⟩
def F.HRT_CFG_AUTO_FAILOVER : Field := ⟨0x30000, 2, 1, 1⟩
def F.HRT_CFG_POLL_MS : Field := ⟨0x30000, 8, 8, 10⟩
def F.HRT_STATUS_ACTIVE_PORT : Field := ⟨0x30004, 0, 1, 0⟩
def F.HRT_STATUS_RINGS_RUNNING : Field := ⟨0x30004, 1, 1, 0⟩
def F.HRT_STATUS_EVENTS_PENDING : Field := ⟨0x30004, 2, 1, 0⟩
def F.HRT_STATUS_BACKLOG : Field := ⟨0x30004, 3, 1, 0⟩
def F.HRT_STATUS_CFG_ERR : Field := ⟨0x30004, 4, 4, 0⟩
def F.HRT_STATUS_HELD : Field := ⟨0x30004, 16, 16, 0⟩
def F.HRT_PORT_CFG_VLAN_ID : Field := ⟨0x30008, 0, 12, 0⟩
def F.HRT_PORT_CFG_VLAN_EN : Field := ⟨0x30008, 12, 1, 0⟩
def F.HRT_PORT_CFG_ALLOW_100 : Field := ⟨0x30008, 13, 1, 1⟩
def F.HRT_PORT_CFG_EEE : Field := ⟨0x30008, 14, 1, 1⟩
def F.HRT_RETX_RETX_US : Field := ⟨0x3000c, 0, 16, 500⟩
def F.HRT_RETX_RETX_MAX : Field := ⟨0x3000c, 16, 4, 8⟩
def F.HRT_RETX_WINDOW : Field := ⟨0x3000c, 24, 8, 64⟩
def F.HRT_PORT_STATUS_LINK (p : Nat) : Field := ⟨0x30010 + 4 * p, 0, 1, 0⟩
def F.HRT_PORT_STATUS_SPEED_1000 (p : Nat) : Field := ⟨0x30010 + 4 * p, 1, 1, 0⟩
def F.HRT_PORT_STATUS_EEE_ACTIVE (p : Nat) : Field := ⟨0x30010 + 4 * p, 2, 1, 0⟩
def F.HRT_PORT_STATUS_EAP_DONE (p : Nat) : Field := ⟨0x30010 + 4 * p, 3, 1, 0⟩
def F.HRT_PORT_STATUS_MKA_LIVE (p : Nat) : Field := ⟨0x30010 + 4 * p, 4, 1, 0⟩
def F.HRT_PORT_STATUS_KEYED (p : Nat) : Field := ⟨0x30010 + 4 * p, 5, 1, 0⟩
def F.HRT_PORT_STATUS_ACTIVE (p : Nat) : Field := ⟨0x30010 + 4 * p, 6, 1, 0⟩
def F.HRT_PORT_STATUS_FAILED (p : Nat) : Field := ⟨0x30010 + 4 * p, 7, 1, 0⟩
def F.HRT_PORT_STATUS_ROLES (p : Nat) : Field := ⟨0x30010 + 4 * p, 8, 5, 0⟩
def F.HRT_PORT_STATUS_ICV_ERR (p : Nat) : Field := ⟨0x30010 + 4 * p, 16, 16, 0⟩
def F.HRT_STATE_CFG_REGION : Field := ⟨0x30018, 0, 4, 0⟩
def F.HRT_STATE_OFF_LO_VALUE : Field := ⟨0x3001c, 0, 32, 0⟩
def F.HRT_STATE_OFF_HI_VALUE : Field := ⟨0x30020, 0, 32, 0⟩
def F.HRT_SUMMARY_RATE_HZ : Field := ⟨0x30024, 0, 7, 10⟩
def F.HRT_BACKLOG_PENDING : Field := ⟨0x30028, 0, 16, 0⟩
def F.HRT_BACKLOG_EST_MS : Field := ⟨0x30028, 16, 16, 0⟩
def F.HRT_EVENT_COMMAND_BACKLOG : Field := ⟨0x30030, 0, 1, 0⟩
def F.HRT_EVENT_FAILOVER : Field := ⟨0x30030, 1, 1, 0⟩
def F.HRT_EVENT_PORT_DOWN : Field := ⟨0x30030, 2, 1, 0⟩
def F.HRT_EVENT_PORT_KEYED : Field := ⟨0x30030, 3, 1, 0⟩
def F.HRT_EVENT_TLM_DROP : Field := ⟨0x30030, 4, 1, 0⟩
def F.HRT_EVENT_DOORBELL_BAD : Field := ⟨0x30030, 5, 1, 0⟩
def F.HRT_EVENT_RING_FAULT : Field := ⟨0x30030, 6, 1, 0⟩
def F.HRT_EVENT_EVENTS_HELD : Field := ⟨0x30030, 7, 1, 0⟩
def F.HRT_EVT_CNT0_COUNT_LO : Field := ⟨0x30034, 0, 16, 0⟩
def F.HRT_EVT_CNT0_COUNT_HI : Field := ⟨0x30034, 16, 16, 0⟩
def F.HRT_EVT_CNT1_COUNT_LO : Field := ⟨0x30038, 0, 16, 0⟩
def F.HRT_EVT_CNT1_COUNT_HI : Field := ⟨0x30038, 16, 16, 0⟩
def F.HRT_EVT_CNT2_COUNT_LO : Field := ⟨0x3003c, 0, 16, 0⟩
def F.HRT_EVT_CNT2_COUNT_HI : Field := ⟨0x3003c, 16, 16, 0⟩
def F.HRT_EVT_CNT3_COUNT_LO : Field := ⟨0x30040, 0, 16, 0⟩
def F.HRT_EVT_CNT3_COUNT_HI : Field := ⟨0x30040, 16, 16, 0⟩
def F.HRT_REGION_LEN_VALUE (r : Nat) : Field := ⟨0x30100 + 8 * r, 0, 32, 0⟩
def F.HRT_REGION_CFG_READ (r : Nat) : Field := ⟨0x30104 + 8 * r, 0, 1, 0⟩
def F.HRT_REGION_CFG_WRITE (r : Nat) : Field := ⟨0x30104 + 8 * r, 1, 1, 0⟩
def F.HRT_RING_CFG_ENABLE (k : Nat) : Field := ⟨0x30200 + 32 * k, 0, 1, 0⟩
def F.HRT_RING_CFG_REGION (k : Nat) : Field := ⟨0x30200 + 32 * k, 4, 4, 0⟩
def F.HRT_RING_CFG_SIZE_LOG2 (k : Nat) : Field := ⟨0x30200 + 32 * k, 8, 5, 4⟩
def F.HRT_RING_CFG_COAL_CNT (k : Nat) : Field := ⟨0x30200 + 32 * k, 16, 8, 0⟩
def F.HRT_RING_BASE_LO_VALUE (k : Nat) : Field := ⟨0x30204 + 32 * k, 0, 32, 0⟩
def F.HRT_RING_BASE_HI_VALUE (k : Nat) : Field := ⟨0x30208 + 32 * k, 0, 32, 0⟩
def F.HRT_RING_COAL_US_US (k : Nat) : Field := ⟨0x3020c + 32 * k, 0, 16, 0⟩
def F.HRT_RING_TLM_KIND (k : Nat) : Field := ⟨0x30210 + 32 * k, 0, 4, 0⟩
def F.HRT_RING_TLM_SLOT (k : Nat) : Field := ⟨0x30210 + 32 * k, 4, 4, 0⟩
def F.HRT_RING_TLM_DIV (k : Nat) : Field := ⟨0x30210 + 32 * k, 8, 8, 1⟩
def F.HRT_RING_TLM_FIRST (k : Nat) : Field := ⟨0x30210 + 32 * k, 16, 9, 0⟩
def F.HRT_RING_COUNT_N (k : Nat) : Field := ⟨0x30214 + 32 * k, 0, 10, 0⟩
def F.HRT_RING_MOD_IDX_INDEX (k : Nat) : Field := ⟨0x30218 + 32 * k, 0, 32, 0⟩
def F.HRT_RING_HOST_IDX_INDEX (k : Nat) : Field := ⟨0x3021c + 32 * k, 0, 32, 0⟩
/-! ### SEG/LATH — spec/03_cell_measurement.md -/
def F.SEG_AVG_CFG_N_M1 : Field := ⟨0x40000, 0, 12, 15⟩
def F.SEG_FILT_CFG_FILTER : Field := ⟨0x40004, 0, 1, 0⟩
def F.SEG_FILT_CFG_FILTER_ACTIVE : Field := ⟨0x40004, 1, 1, 0⟩
def F.SEG_SPARE_CFG_DWELL : Field := ⟨0x40008, 0, 8, 4⟩
def F.SEG_SPARE_CFG_DRIFT_LIMIT : Field := ⟨0x40008, 8, 8, 30⟩
def F.SEG_EVENT_CARD_LOST : Field := ⟨0x40010, 0, 1, 0⟩
def F.SEG_EVENT_CARD_JOINED : Field := ⟨0x40010, 1, 1, 0⟩
def F.SEG_EVENT_JOIN_FAIL : Field := ⟨0x40010, 2, 1, 0⟩
def F.SEG_EVENT_RING_BREAK : Field := ⟨0x40010, 3, 1, 0⟩
def F.SEG_EVENT_RING_WHOLE : Field := ⟨0x40010, 4, 1, 0⟩
def F.SEG_EVENT_SPARE_SUBST : Field := ⟨0x40010, 5, 1, 0⟩
def F.SEG_EVENT_RELABEL : Field := ⟨0x40010, 6, 1, 0⟩
def F.SEG_EVENT_ALIGN_LOST : Field := ⟨0x40010, 7, 1, 0⟩
def F.SEG_EVT_CNT0_COUNT_LO : Field := ⟨0x40014, 0, 16, 0⟩
def F.SEG_EVT_CNT0_COUNT_HI : Field := ⟨0x40014, 16, 16, 0⟩
def F.SEG_EVT_CNT1_COUNT_LO : Field := ⟨0x40018, 0, 16, 0⟩
def F.SEG_EVT_CNT1_COUNT_HI : Field := ⟨0x40018, 16, 16, 0⟩
def F.SEG_EVT_CNT2_COUNT_LO : Field := ⟨0x4001c, 0, 16, 0⟩
def F.SEG_EVT_CNT2_COUNT_HI : Field := ⟨0x4001c, 16, 16, 0⟩
def F.SEG_EVT_CNT3_COUNT_LO : Field := ⟨0x40020, 0, 16, 0⟩
def F.SEG_EVT_CNT3_COUNT_HI : Field := ⟨0x40020, 16, 16, 0⟩
def F.SEG_ALIGN_ALIGNED : Field := ⟨0x40024, 0, 1, 0⟩
def F.SEG_ALIGN_SLEWING : Field := ⟨0x40024, 1, 1, 0⟩
def F.SEG_ALIGN_PHASE_TERM : Field := ⟨0x40024, 16, 16, 0⟩
def F.SEG_PLUMB_IDX_LO_IDX_LO : Field := ⟨0x40028, 0, 32, 0⟩
def F.SEG_PLUMB_IDX_HI_IDX_HI : Field := ⟨0x4002c, 0, 32, 0⟩
def F.LATH_STATUS_A_WHOLE : Field := ⟨0x40030, 0, 1, 0⟩
def F.LATH_STATUS_B_WHOLE : Field := ⟨0x40030, 1, 1, 0⟩
def F.LATH_STATUS_A_DEGRADED : Field := ⟨0x40030, 2, 1, 0⟩
def F.LATH_STATUS_B_DEGRADED : Field := ⟨0x40030, 3, 1, 0⟩
def F.LATH_STATUS_BREAK_HOP : Field := ⟨0x40030, 8, 6, 63⟩
def F.LATH_STATUS_UTIL : Field := ⟨0x40030, 16, 8, 0⟩
def F.LATH_ERR_CNT_A_CORRECTED : Field := ⟨0x40034, 0, 16, 0⟩
def F.LATH_ERR_CNT_A_UNCORR_COPIES : Field := ⟨0x40034, 16, 16, 0⟩
def F.LATH_ERR_CNT_B_CORRECTED : Field := ⟨0x40038, 0, 16, 0⟩
def F.LATH_ERR_CNT_B_UNCORR_COPIES : Field := ⟨0x40038, 16, 16, 0⟩
def F.SEG_CMP_PARAM_OV_CODE : Field := ⟨0x40040, 0, 8, 255⟩
def F.SEG_CMP_PARAM_UV_CODE : Field := ⟨0x40040, 8, 8, 0⟩
def F.SEG_CMP_PARAM_DEGLITCH_MS : Field := ⟨0x40040, 16, 5, 8⟩
def F.SEG_CMP_PARAM_PAIR_MARGIN : Field := ⟨0x40040, 24, 8, 5⟩
def F.SEG_WIRE_PARAM_DETECT_BLOCKS : Field := ⟨0x40044, 0, 3, 3⟩
def F.SEG_WIRE_PARAM_AMP_THRESH : Field := ⟨0x40044, 8, 8, 20⟩
def F.SEG_WIRE_PARAM_SUM_MISMATCH : Field := ⟨0x40044, 16, 8, 25⟩
def F.SEG_SENSE_EVENT_WIRE_FAULT : Field := ⟨0x40050, 0, 1, 0⟩
def F.SEG_SENSE_EVENT_SUM_WIRE_FAULT : Field := ⟨0x40050, 1, 1, 0⟩
def F.SEG_SENSE_EVENT_SENSE_LOSS : Field := ⟨0x40050, 2, 1, 0⟩
def F.SEG_SENSE_EVENT_CMP_TRIP : Field := ⟨0x40050, 3, 1, 0⟩
def F.SEG_SENSE_EVENT_CMP_TEST_FAIL : Field := ⟨0x40050, 4, 1, 0⟩
def F.SEG_SENSE_EVENT_TONE_LOST : Field := ⟨0x40050, 5, 1, 0⟩
def F.SEG_SENSE_EVENT_WIRE_INTERMITTENT : Field := ⟨0x40050, 6, 1, 0⟩
def F.SEG_SENSE_EVENT_KEEPALIVE_LOW : Field := ⟨0x40050, 7, 1, 0⟩
def F.SEG_SENSE_CNT0_COUNT_LO : Field := ⟨0x40054, 0, 16, 0⟩
def F.SEG_SENSE_CNT0_COUNT_HI : Field := ⟨0x40054, 16, 16, 0⟩
def F.SEG_SENSE_CNT1_COUNT_LO : Field := ⟨0x40058, 0, 16, 0⟩
def F.SEG_SENSE_CNT1_COUNT_HI : Field := ⟨0x40058, 16, 16, 0⟩
def F.SEG_SENSE_CNT2_COUNT_LO : Field := ⟨0x4005c, 0, 16, 0⟩
def F.SEG_SENSE_CNT2_COUNT_HI : Field := ⟨0x4005c, 16, 16, 0⟩
def F.SEG_SENSE_CNT3_COUNT_LO : Field := ⟨0x40060, 0, 16, 0⟩
def F.SEG_SENSE_CNT3_COUNT_HI : Field := ⟨0x40060, 16, 16, 0⟩
def F.SEG_TONE_TONE_PRESENT : Field := ⟨0x40064, 0, 1, 0⟩
def F.SEG_TONE_SHELF_BURST : Field := ⟨0x40064, 1, 1, 0⟩
def F.SEG_TONE_BYPASS : Field := ⟨0x40064, 6, 26, 0⟩
def F.SEG_STATE_STATE (s : Nat) : Field := ⟨0x40100 + 4 * (s - 1), 0, 3, 0⟩
def F.SEG_STATE_TIMING_DIR (s : Nat) : Field := ⟨0x40100 + 4 * (s - 1), 3, 1, 0⟩
def F.SEG_STATE_SPARE_POS (s : Nat) : Field := ⟨0x40100 + 4 * (s - 1), 4, 5, 0⟩
def F.SEG_STATE_SPARE_SUBST (s : Nat) : Field := ⟨0x40100 + 4 * (s - 1), 9, 1, 0⟩
def F.SEG_STATE_SPARE_FAILED (s : Nat) : Field := ⟨0x40100 + 4 * (s - 1), 10, 1, 0⟩
def F.SEG_STATE_DIE (s : Nat) : Field := ⟨0x40100 + 4 * (s - 1), 16, 8, 0⟩
def F.LATH_DELAY_DELAY_A (s : Nat) : Field := ⟨0x40200 + 4 * (s - 1), 0, 16, 0⟩
def F.LATH_DELAY_DELAY_B (s : Nat) : Field := ⟨0x40200 + 4 * (s - 1), 16, 16, 0⟩
def F.SEG_WIRE_WIRE_MAP (s : Nat) : Field := ⟨0x40300 + 4 * (s - 1), 0, 17, 0⟩
def F.SEG_WIRE_S0 (s : Nat) : Field := ⟨0x40300 + 4 * (s - 1), 17, 1, 0⟩
def F.SEG_WIRE_S16 (s : Nat) : Field := ⟨0x40300 + 4 * (s - 1), 18, 1, 0⟩
def F.SEG_WIRE_PAIR_MODE (s : Nat) : Field := ⟨0x40300 + 4 * (s - 1), 19, 1, 0⟩
def F.SEG_WIRE_SENSE_LOSS (s : Nat) : Field := ⟨0x40300 + 4 * (s - 1), 20, 1, 0⟩
def F.SEG_WIRE_INTERMITTENT (s : Nat) : Field := ⟨0x40300 + 4 * (s - 1), 21, 1, 0⟩
def F.SEG_CMP_OV_LATCH (s : Nat) : Field := ⟨0x40400 + 4 * (s - 1), 0, 16, 0⟩
def F.SEG_CMP_UV_LATCH (s : Nat) : Field := ⟨0x40400 + 4 * (s - 1), 16, 16, 0⟩
/-! ### BAL — spec/05_balancing.md -/
def F.BAL_CFG_MODE : Field := ⟨0x50000, 0, 1, 0⟩
def F.BAL_CFG_MAX_PATHS : Field := ⟨0x50000, 1, 4, 6⟩
def F.BAL_CFG_AUTO : Field := ⟨0x50000, 5, 1, 0⟩
def F.BAL_CFG_RW_LIMIT : Field := ⟨0x50000, 8, 8, 50⟩
def F.BAL_STATUS_CAMPAIGN_ACTIVE : Field := ⟨0x50004, 0, 1, 0⟩
def F.BAL_STATUS_KIND : Field := ⟨0x50004, 1, 2, 0⟩
def F.BAL_STATUS_SATURATED : Field := ⟨0x50004, 3, 1, 0⟩
def F.BAL_STATUS_THROTTLED : Field := ⟨0x50004, 4, 1, 0⟩
def F.BAL_STATUS_LEARNING : Field := ⟨0x50004, 5, 1, 0⟩
def F.BAL_STATUS_PAUSE_MAX : Field := ⟨0x50004, 8, 7, 0⟩
def F.BAL_EVENT_SWITCH_FAULT : Field := ⟨0x50010, 0, 1, 0⟩
def F.BAL_EVENT_CUTOFF : Field := ⟨0x50010, 1, 1, 0⟩
def F.BAL_EVENT_THERM_STOP : Field := ⟨0x50010, 2, 1, 0⟩
def F.BAL_EVENT_LEASE_EXPIRED : Field := ⟨0x50010, 3, 1, 0⟩
def F.BAL_EVENT_RW_LIMIT : Field := ⟨0x50010, 4, 1, 0⟩
def F.BAL_EVENT_CAMPAIGN_END : Field := ⟨0x50010, 5, 1, 0⟩
def F.BAL_EVT_CNT0_COUNT_LO : Field := ⟨0x50014, 0, 16, 0⟩
def F.BAL_EVT_CNT0_COUNT_HI : Field := ⟨0x50014, 16, 16, 0⟩
def F.BAL_EVT_CNT1_COUNT_LO : Field := ⟨0x50018, 0, 16, 0⟩
def F.BAL_EVT_CNT1_COUNT_HI : Field := ⟨0x50018, 16, 16, 0⟩
def F.BAL_EVT_CNT2_COUNT_LO : Field := ⟨0x5001c, 0, 16, 0⟩
def F.BAL_EVT_CNT2_COUNT_HI : Field := ⟨0x5001c, 16, 16, 0⟩
def F.BAL_THROTTLE_PAUSE_SLOTS : Field := ⟨0x50020, 0, 7, 0⟩
def F.BAL_THROTTLE_THROTTLE_C : Field := ⟨0x50020, 8, 8, 80⟩
def F.BAL_THROTTLE_STOP_C : Field := ⟨0x50020, 16, 8, 90⟩
def F.BAL_DUTY_DUTY0 (s : Nat) (q : Nat) : Field := ⟨0x50100 + 16 * (s - 1) + 4 * q, 0, 7, 0⟩
def F.BAL_DUTY_DUTY1 (s : Nat) (q : Nat) : Field := ⟨0x50100 + 16 * (s - 1) + 4 * q, 8, 7, 0⟩
def F.BAL_DUTY_DUTY2 (s : Nat) (q : Nat) : Field := ⟨0x50100 + 16 * (s - 1) + 4 * q, 16, 7, 0⟩
def F.BAL_DUTY_DUTY3 (s : Nat) (q : Nat) : Field := ⟨0x50100 + 16 * (s - 1) + 4 * q, 24, 7, 0⟩
def F.BAL_RW_RW_LO (s : Nat) (m : Nat) : Field := ⟨0x50400 + 36 * (s - 1) + 4 * m, 0, 16, 65535⟩
def F.BAL_RW_RW_HI (s : Nat) (m : Nat) : Field := ⟨0x50400 + 36 * (s - 1) + 4 * m, 16, 16, 65535⟩
def F.BAL_PATH_HELD (s : Nat) : Field := ⟨0x50800 + 4 * (s - 1), 0, 16, 65535⟩
def F.BAL_PATH_CONDUCTED (s : Nat) : Field := ⟨0x50800 + 4 * (s - 1), 16, 16, 0⟩
/-! ### CIM — spec/06_current_and_insulation.md -/
def F.CIM_SHUNT_PARAM_R_SHUNT : Field := ⟨0x60000, 0, 16, 250⟩
def F.CIM_SHUNT_PARAM_INVERT : Field := ⟨0x60000, 16, 1, 0⟩
def F.CIM_SHUNT_PARAM_TC_ENABLE : Field := ⟨0x60000, 17, 1, 0⟩
def F.CIM_SHUNT_PARAM_TC_PPM : Field := ⟨0x60000, 24, 8, 0⟩
def F.CIM_HALL_PARAM_FS_A : Field := ⟨0x60004, 0, 16, 2000⟩
def F.CIM_HALL_PARAM_INVERT : Field := ⟨0x60004, 16, 1, 0⟩
def F.CIM_STATUS_SHUNT_NTC_BAD : Field := ⟨0x60008, 0, 1, 0⟩
def F.CIM_STATUS_HALL_FAULT : Field := ⟨0x60008, 1, 1, 0⟩
def F.CIM_CURRENT_MA : Field := ⟨0x60010, 0, 32, 2147483648⟩
def F.CIM_HALL_CURRENT_MA : Field := ⟨0x60014, 0, 32, 2147483648⟩
def F.CIM_CHARGE_LO_UC : Field := ⟨0x60018, 0, 32, 0⟩
def F.CIM_CHARGE_HI_UC : Field := ⟨0x6001c, 0, 32, 0⟩
def F.CIM_VSTRING_MV : Field := ⟨0x60020, 0, 32, 2147483648⟩
def F.CIM_ISO_CFG_WARN_KOHM : Field := ⟨0x60030, 0, 16, 500⟩
def F.CIM_ISO_CFG_ALARM_KOHM : Field := ⟨0x60030, 16, 16, 100⟩
def F.CIM_ISO_CTRL_ENABLE : Field := ⟨0x60034, 0, 1, 1⟩
def F.CIM_ISO_CTRL_OPEN_ON_ALARM : Field := ⟨0x60034, 1, 1, 0⟩
def F.CIM_ISO_CTRL_BANK_COORD : Field := ⟨0x60034, 2, 1, 1⟩
def F.CIM_ISO_CTRL_MAX_HALF_S : Field := ⟨0x60034, 8, 5, 20⟩
def F.CIM_ISO_RP_VALUE : Field := ⟨0x60040, 0, 32, 4294967295⟩
def F.CIM_ISO_RPOS_VALUE : Field := ⟨0x60044, 0, 32, 4294967295⟩
def F.CIM_ISO_RNEG_VALUE : Field := ⟨0x60048, 0, 32, 4294967295⟩
def F.CIM_ISO_CAP_VALUE : Field := ⟨0x6004c, 0, 32, 4294967295⟩
def F.CIM_ISO_STATUS_ROLE : Field := ⟨0x60050, 0, 2, 0⟩
def F.CIM_ISO_STATUS_SOURCE_PSU_B : Field := ⟨0x60050, 2, 1, 0⟩
def F.CIM_ISO_STATUS_STALE : Field := ⟨0x60050, 3, 1, 0⟩
def F.CIM_ISO_STATUS_BELOW_RANGE : Field := ⟨0x60050, 4, 1, 0⟩
def F.CIM_ISO_STATUS_ABOVE_RANGE : Field := ⟨0x60050, 5, 1, 0⟩
def F.CIM_ISO_STATUS_WARN : Field := ⟨0x60050, 6, 1, 0⟩
def F.CIM_ISO_STATUS_ALARM : Field := ⟨0x60050, 7, 1, 0⟩
def F.CIM_ISO_STATUS_AGE_S : Field := ⟨0x60050, 16, 16, 65535⟩
def F.CIM_EVENT_ISO_WARN : Field := ⟨0x60060, 0, 1, 0⟩
def F.CIM_EVENT_ISO_ALARM : Field := ⟨0x60060, 1, 1, 0⟩
def F.CIM_EVENT_HALL_FAULT : Field := ⟨0x60060, 2, 1, 0⟩
def F.CIM_EVENT_XCHECK : Field := ⟨0x60060, 3, 1, 0⟩
def F.CIM_EVENT_FOREIGN_INJ : Field := ⟨0x60060, 4, 1, 0⟩
def F.CIM_EVENT_COUNTER_RESTART : Field := ⟨0x60060, 5, 1, 0⟩
def F.CIM_EVT_CNT0_COUNT_LO : Field := ⟨0x60064, 0, 16, 0⟩
def F.CIM_EVT_CNT0_COUNT_HI : Field := ⟨0x60064, 16, 16, 0⟩
def F.CIM_EVT_CNT1_COUNT_LO : Field := ⟨0x60068, 0, 16, 0⟩
def F.CIM_EVT_CNT1_COUNT_HI : Field := ⟨0x60068, 16, 16, 0⟩
def F.CIM_EVT_CNT2_COUNT_LO : Field := ⟨0x6006c, 0, 16, 0⟩
def F.CIM_EVT_CNT2_COUNT_HI : Field := ⟨0x6006c, 16, 16, 0⟩
/-! ### SE — spec/07_state_engine.md -/
def F.SE_STATUS_POWERED : Field := ⟨0x70000, 0, 1, 0⟩
def F.SE_STATUS_LANE_FAULT : Field := ⟨0x70000, 1, 1, 0⟩
def F.SE_STATUS_PHASE_SLIP : Field := ⟨0x70000, 2, 1, 0⟩
def F.SE_STATUS_INJ_RUNNING : Field := ⟨0x70000, 3, 1, 0⟩
def F.SE_STATUS_CAP_ARMED : Field := ⟨0x70000, 4, 1, 0⟩
def F.SE_STATUS_CORR_RUNNING : Field := ⟨0x70000, 5, 1, 0⟩
def F.SE_STATUS_INJ_OWNER : Field := ⟨0x70000, 6, 2, 0⟩
def F.SE_STATUS_ENABLED : Field := ⟨0x70000, 16, 16, 0⟩
def F.SE_BUDGET_WORST_NOW : Field := ⟨0x70004, 0, 16, 0⟩
def F.SE_BUDGET_WORST_P7 : Field := ⟨0x70004, 16, 16, 0⟩
def F.SE_COMMIT_BANK : Field := ⟨0x70008, 0, 16, 0⟩
def F.SE_STEP_IDX_LO_IDX : Field := ⟨0x7000c, 0, 32, 0⟩
def F.SE_STEP_IDX_HI_IDX : Field := ⟨0x70010, 0, 32, 0⟩
def F.SE_THROTTLE_PAUSE : Field := ⟨0x70014, 0, 3, 0⟩
def F.SE_EVENT_TERM_SAT : Field := ⟨0x70020, 0, 1, 0⟩
def F.SE_EVENT_ACC_SAT : Field := ⟨0x70020, 1, 1, 0⟩
def F.SE_EVENT_OUT_SAT : Field := ⟨0x70020, 2, 1, 0⟩
def F.SE_EVENT_CLAMP : Field := ⟨0x70020, 3, 1, 0⟩
def F.SE_EVENT_OVERRUN : Field := ⟨0x70020, 4, 1, 0⟩
def F.SE_EVENT_INTEGRITY : Field := ⟨0x70020, 5, 1, 0⟩
def F.SE_EVENT_CAP_DONE : Field := ⟨0x70020, 6, 1, 0⟩
def F.SE_EVENT_CORR_DONE : Field := ⟨0x70020, 7, 1, 0⟩
def F.SE_EVT_CNT0_COUNT_LO : Field := ⟨0x70024, 0, 16, 0⟩
def F.SE_EVT_CNT0_COUNT_HI : Field := ⟨0x70024, 16, 16, 0⟩
def F.SE_EVT_CNT1_COUNT_LO : Field := ⟨0x70028, 0, 16, 0⟩
def F.SE_EVT_CNT1_COUNT_HI : Field := ⟨0x70028, 16, 16, 0⟩
def F.SE_EVT_CNT2_COUNT_LO : Field := ⟨0x7002c, 0, 16, 0⟩
def F.SE_EVT_CNT2_COUNT_HI : Field := ⟨0x7002c, 16, 16, 0⟩
def F.SE_EVT_CNT3_COUNT_LO : Field := ⟨0x70030, 0, 16, 0⟩
def F.SE_EVT_CNT3_COUNT_HI : Field := ⟨0x70030, 16, 16, 0⟩
def F.SE_INJ_CFG_WAVE : Field := ⟨0x70040, 0, 3, 0⟩
def F.SE_INJ_CFG_RAMP : Field := ⟨0x70040, 3, 1, 0⟩
def F.SE_INJ_CFG_CHIP : Field := ⟨0x70040, 4, 8, 0⟩
def F.SE_INJ_FREQ_VALUE : Field := ⟨0x70044, 0, 32, 0⟩
def F.SE_INJ_FREQ2_VALUE : Field := ⟨0x70048, 0, 32, 0⟩
def F.SE_INJ_AMP_VALUE : Field := ⟨0x7004c, 0, 32, 0⟩
def F.SE_INJ_LEN_VALUE : Field := ⟨0x70050, 0, 32, 0⟩
def F.SE_INJ_START_LO_IDX : Field := ⟨0x70054, 0, 32, 0⟩
def F.SE_INJ_START_HI_IDX : Field := ⟨0x70058, 0, 32, 0⟩
def F.SE_CAP_STATUS_CHANNELS : Field := ⟨0x70060, 0, 4, 0⟩
def F.SE_CAP_STATUS_TRIGGERED : Field := ⟨0x70060, 4, 1, 0⟩
def F.SE_CAP_STATUS_GAP : Field := ⟨0x70060, 5, 1, 0⟩
def F.SE_CAP_STATUS_ROWS : Field := ⟨0x70060, 16, 16, 0⟩
def F.SE_CAP_FIRST_LO_IDX : Field := ⟨0x70064, 0, 32, 0⟩
def F.SE_CAP_FIRST_HI_IDX : Field := ⟨0x70068, 0, 32, 0⟩
def F.SE_CORR_CFG_BIN_EN : Field := ⟨0x70080, 0, 8, 0⟩
def F.SE_CORR_CFG_T_INT : Field := ⟨0x70080, 8, 12, 0⟩
def F.SE_CORR_CFG_IMIN : Field := ⟨0x70080, 20, 12, 500⟩
def F.SE_CORR_FREQ_K (b : Nat) : Field := ⟨0x700a0 + 4 * b, 0, 32, 0⟩
def F.SE_KSTAT_FORM (k : Nat) : Field := ⟨0x70100 + 4 * k, 0, 2, 0⟩
def F.SE_KSTAT_SHADOW (k : Nat) : Field := ⟨0x70100 + 4 * k, 2, 1, 0⟩
def F.SE_KSTAT_CYCLES (k : Nat) : Field := ⟨0x70100 + 4 * k, 16, 16, 0⟩
def F.SE_HOST_IN_VALUE (w : Nat) : Field := ⟨0x70200 + 4 * w, 0, 32, 0⟩
/-! ### EST — spec/08_estimation.md -/
def F.EST_CFG_RATE : Field := ⟨0x80000, 0, 1, 0⟩
def F.EST_CFG_RATE_ACTIVE : Field := ⟨0x80000, 1, 1, 0⟩
def F.EST_CFG_Q_RATED : Field := ⟨0x80000, 16, 16, 6249⟩
def F.EST_RESERVE_BASE : Field := ⟨0x80004, 0, 10, 200⟩
def F.EST_RESERVE_R_HIGH : Field := ⟨0x80004, 10, 10, 200⟩
def F.EST_RESERVE_K : Field := ⟨0x80004, 20, 8, 10⟩
def F.EST_SIGMA_KA : Field := ⟨0x80008, 0, 8, 30⟩
def F.EST_SIGMA_KT : Field := ⟨0x80008, 8, 8, 10⟩
def F.EST_SIGMA_THRESH : Field := ⟨0x80008, 16, 8, 30⟩
def F.EST_SIGMA_CLEAR : Field := ⟨0x80008, 24, 8, 25⟩
def F.EST_SLEW_REST : Field := ⟨0x8000c, 0, 8, 10⟩
def F.EST_SLEW_ACTIVE : Field := ⟨0x8000c, 8, 8, 50⟩
def F.EST_STATUS_RUNNING : Field := ⟨0x80010, 0, 1, 0⟩
def F.EST_STATUS_SOC_UNCERTAIN : Field := ⟨0x80010, 1, 1, 0⟩
def F.EST_STATUS_CAL_REST_ADVISED : Field := ⟨0x80010, 2, 1, 0⟩
def F.EST_STATUS_RESERVE_CAPPED : Field := ⟨0x80010, 3, 1, 0⟩
def F.EST_STATUS_WRITE_DEFERRED : Field := ⟨0x80010, 4, 1, 0⟩
def F.EST_STATUS_LEARN_DEFAULT : Field := ⟨0x80010, 5, 1, 0⟩
def F.EST_STATUS_SLOT : Field := ⟨0x80010, 6, 1, 0⟩
def F.EST_STATUS_GATED : Field := ⟨0x80010, 16, 9, 0⟩
def F.EST_EVENT_SOC_UNCERTAIN : Field := ⟨0x80020, 0, 1, 0⟩
def F.EST_EVENT_REFERENCE : Field := ⟨0x80020, 1, 1, 0⟩
def F.EST_EVENT_CAP_UPDATE : Field := ⟨0x80020, 2, 1, 0⟩
def F.EST_EVENT_CAP_OUTLIER : Field := ⟨0x80020, 3, 1, 0⟩
def F.EST_EVENT_WRITE_DONE : Field := ⟨0x80020, 4, 1, 0⟩
def F.EST_EVENT_WRITE_FAIL : Field := ⟨0x80020, 5, 1, 0⟩
def F.EST_EVENT_LEARN_DEFAULT : Field := ⟨0x80020, 6, 1, 0⟩
def F.EST_EVENT_SOC_JUMP : Field := ⟨0x80020, 7, 1, 0⟩
def F.EST_EVT_CNT0_COUNT_LO : Field := ⟨0x80024, 0, 16, 0⟩
def F.EST_EVT_CNT0_COUNT_HI : Field := ⟨0x80024, 16, 16, 0⟩
def F.EST_EVT_CNT1_COUNT_LO : Field := ⟨0x80028, 0, 16, 0⟩
def F.EST_EVT_CNT1_COUNT_HI : Field := ⟨0x80028, 16, 16, 0⟩
def F.EST_EVT_CNT2_COUNT_LO : Field := ⟨0x8002c, 0, 16, 0⟩
def F.EST_EVT_CNT2_COUNT_HI : Field := ⟨0x8002c, 16, 16, 0⟩
def F.EST_EVT_CNT3_COUNT_LO : Field := ⟨0x80030, 0, 16, 0⟩
def F.EST_EVT_CNT3_COUNT_HI : Field := ⟨0x80030, 16, 16, 0⟩
def F.EST_SOC_REPORTED : Field := ⟨0x80040, 0, 16, 65535⟩
def F.EST_SOC_RAW : Field := ⟨0x80040, 16, 16, 65535⟩
def F.EST_SIGMA_NOW_SIGMA : Field := ⟨0x80044, 0, 16, 65535⟩
def F.EST_SIGMA_NOW_R_LOW : Field := ⟨0x80044, 16, 16, 65535⟩
def F.EST_SOH_SOH : Field := ⟨0x80048, 0, 16, 65535⟩
def F.EST_SOH_RG : Field := ⟨0x80048, 16, 16, 65535⟩
def F.EST_VLIM_V_LO : Field := ⟨0x80050, 0, 16, 25000⟩
def F.EST_VLIM_V_HI : Field := ⟨0x80050, 16, 16, 36500⟩
def F.EST_ILIM_PEAK_A : Field := ⟨0x80054, 0, 16, 625⟩
def F.EST_ILIM_CONT_A : Field := ⟨0x80054, 16, 16, 312⟩
def F.EST_TLIM_TMAX : Field := ⟨0x80058, 0, 8, 55⟩
def F.EST_TLIM_TMIN_CHG : Field := ⟨0x80058, 8, 8, 0⟩
def F.EST_ICHG_MA (h : Nat) : Field := ⟨0x80060 + 4 * h, 0, 32, 0⟩
def F.EST_IDIS_MA (h : Nat) : Field := ⟨0x80070 + 4 * h, 0, 32, 0⟩
def F.EST_PCHG_W (h : Nat) : Field := ⟨0x80080 + 4 * h, 0, 32, 0⟩
def F.EST_PDIS_W (h : Nat) : Field := ⟨0x80090 + 4 * h, 0, 32, 0⟩
def F.EST_LIMIT_WHY_CHG : Field := ⟨0x800a0, 0, 16, 34952⟩
def F.EST_LIMIT_WHY_DIS : Field := ⟨0x800a0, 16, 16, 34952⟩
def F.EST_LIMIT_CELL_DIS_CELL : Field := ⟨0x800a4, 0, 9, 0⟩
def F.EST_LIMIT_CELL_CHG_CELL : Field := ⟨0x800a4, 16, 9, 0⟩
def F.EST_LEARN_GEN_GENERATION : Field := ⟨0x800b0, 0, 32, 0⟩
/-! ### SAFE — spec/10_safety.md -/
def F.SAFE_STATUS_CH_A_OK : Field := ⟨0x90000, 0, 1, 0⟩
def F.SAFE_STATUS_CH_B_OK : Field := ⟨0x90000, 1, 1, 0⟩
def F.SAFE_STATUS_XLINK_OK : Field := ⟨0x90000, 2, 1, 0⟩
def F.SAFE_STATUS_PARAM_VALID : Field := ⟨0x90000, 3, 1, 0⟩
def F.SAFE_STATUS_LOCKOUT : Field := ⟨0x90000, 4, 1, 0⟩
def F.SAFE_STATUS_STRING_CLOSED : Field := ⟨0x90000, 5, 1, 0⟩
def F.SAFE_STATUS_CLOSING : Field := ⟨0x90000, 6, 1, 0⟩
def F.SAFE_STATUS_SERVICE_LIMIT : Field := ⟨0x90000, 7, 1, 0⟩
def F.SAFE_STATUS_SSD_DEMAND : Field := ⟨0x90000, 8, 1, 0⟩
def F.SAFE_STATUS_SLC_WARN : Field := ⟨0x90000, 9, 1, 0⟩
def F.SAFE_STATUS_SDI_CHG : Field := ⟨0x90000, 10, 1, 0⟩
def F.SAFE_STATUS_SDI_DIS : Field := ⟨0x90000, 11, 1, 0⟩
def F.SAFE_STATUS_SVW_DEMAND : Field := ⟨0x90000, 12, 1, 0⟩
def F.SAFE_STATUS_STW_DEMAND : Field := ⟨0x90000, 13, 1, 0⟩
def F.SAFE_STATUS_XCHECK_ACTIVE : Field := ⟨0x90000, 14, 1, 0⟩
def F.SAFE_STATUS_WITHDRAW_ACTIVE : Field := ⟨0x90000, 15, 1, 0⟩
def F.SAFE_STATUS_RESET_WINDOW : Field := ⟨0x90000, 16, 1, 0⟩
def F.SAFE_STATUS_SS_A : Field := ⟨0x90000, 17, 1, 0⟩
def F.SAFE_STATUS_SS_B : Field := ⟨0x90000, 18, 1, 0⟩
def F.SAFE_STATUS_FAULT_CLOSED : Field := ⟨0x90000, 19, 1, 0⟩
def F.SAFE_CAUSE_FIRST : Field := ⟨0x90004, 0, 8, 0⟩
def F.SAFE_CAUSE_LAST : Field := ⟨0x90004, 8, 8, 0⟩
def F.SAFE_CAUSE_FIRST_CH : Field := ⟨0x90004, 16, 2, 0⟩
def F.SAFE_CAUSE_COUNT : Field := ⟨0x90004, 24, 8, 0⟩
def F.SAFE_CAUSE_MAP0_MAP : Field := ⟨0x90008, 0, 32, 0⟩
def F.SAFE_CAUSE_MAP1_MAP : Field := ⟨0x9000c, 0, 32, 0⟩
def F.SAFE_IN_CH_A : Field := ⟨0x90010, 0, 8, 0⟩
def F.SAFE_IN_CH_B : Field := ⟨0x90010, 8, 8, 0⟩
def F.SAFE_IN_DEMAND : Field := ⟨0x90010, 16, 8, 0⟩
def F.SAFE_IN_DISCREPANCY : Field := ⟨0x90010, 24, 8, 0⟩
def F.SAFE_IN_FAULT_PULSE_FAULT : Field := ⟨0x90014, 0, 8, 0⟩
def F.SAFE_IN_FAULT_FEEDBACK_FAULT : Field := ⟨0x90014, 8, 8, 0⟩
def F.SAFE_IN_FAULT_STARTUP_SEEN : Field := ⟨0x90014, 16, 8, 0⟩
def F.SAFE_IN_FAULT_TP1_OK : Field := ⟨0x90014, 24, 1, 0⟩
def F.SAFE_IN_FAULT_TP2_OK : Field := ⟨0x90014, 25, 1, 0⟩
def F.SAFE_OUT_SWITCH : Field := ⟨0x90018, 0, 12, 0⟩
def F.SAFE_OUT_COIL_OK : Field := ⟨0x90018, 12, 3, 0⟩
def F.SAFE_OUT_COIL_SUPPLY : Field := ⟨0x90018, 15, 1, 0⟩
def F.SAFE_OUT_TEST_FAIL : Field := ⟨0x90018, 16, 3, 0⟩
def F.SAFE_RST_PULSE_SEEN : Field := ⟨0x9001c, 0, 1, 0⟩
def F.SAFE_RST_CMD_SEEN : Field := ⟨0x9001c, 1, 1, 0⟩
def F.SAFE_RST_RST_STUCK : Field := ⟨0x9001c, 2, 1, 0⟩
def F.SAFE_RST_RST_DISC : Field := ⟨0x9001c, 3, 1, 0⟩
def F.SAFE_RST_RST_A : Field := ⟨0x9001c, 4, 1, 0⟩
def F.SAFE_RST_RST_B : Field := ⟨0x9001c, 5, 1, 0⟩
def F.SAFE_RST_WINDOW_MS : Field := ⟨0x9001c, 16, 16, 0⟩
def F.SAFE_PARAM_GEN_VALUE : Field := ⟨0x90020, 0, 32, 0⟩
def F.SAFE_PARAM_CRC_VALUE : Field := ⟨0x90024, 0, 32, 0⟩
def F.SAFE_PRECHARGE_RESULT : Field := ⟨0x90028, 0, 4, 0⟩
def F.SAFE_PRECHARGE_DURATION : Field := ⟨0x90028, 16, 16, 0⟩
def F.SAFE_PC_ENERGY_J : Field := ⟨0x9002c, 0, 32, 0⟩
def F.SAFE_REACT_LAST : Field := ⟨0x90030, 0, 16, 0⟩
def F.SAFE_REACT_MAX : Field := ⟨0x90030, 16, 16, 0⟩
def F.SAFE_COUNT_LOCKOUTS : Field := ⟨0x90034, 0, 16, 0⟩
def F.SAFE_COUNT_DEMANDS : Field := ⟨0x90034, 16, 16, 0⟩
def F.SAFE_WITHDRAW_SLOT : Field := ⟨0x90038, 0, 5, 0⟩
def F.SAFE_WITHDRAW_REMAIN_S : Field := ⟨0x90038, 16, 16, 0⟩
/-! ### THM — spec/11_thermal.md -/
def F.THM_CFG_LOOP_EN : Field := ⟨0xa0000, 0, 1, 1⟩
def F.THM_CFG_VALVE_OWNER : Field := ⟨0xa0000, 1, 1, 0⟩
def F.THM_CFG_DAMPER_OWNER : Field := ⟨0xa0000, 2, 1, 0⟩
def F.THM_CFG_CTRL_SEL : Field := ⟨0xa0000, 3, 1, 0⟩
def F.THM_SETPOINT_SETPOINT : Field := ⟨0xa0004, 0, 16, 2600⟩
def F.THM_SETPOINT_DEADBAND : Field := ⟨0xa0004, 16, 8, 50⟩
def F.THM_VALVE_LIM_LO : Field := ⟨0xa0008, 0, 14, 0⟩
def F.THM_VALVE_LIM_HI : Field := ⟨0xa0008, 16, 14, 10000⟩
def F.THM_VALVE_POS_LO : Field := ⟨0xa000c, 0, 14, 10000⟩
def F.THM_VALVE_POS_HI : Field := ⟨0xa000c, 16, 14, 2000⟩
def F.THM_CMD_VALVE : Field := ⟨0xa0010, 0, 14, 0⟩
def F.THM_CMD_DAMPER : Field := ⟨0xa0010, 16, 14, 0⟩
def F.THM_BAL_T_START : Field := ⟨0xa0014, 0, 16, 4500⟩
def F.THM_DIE_CFG_SE_THROTTLE_C : Field := ⟨0xa0018, 0, 8, 95⟩
def F.THM_DIE_CFG_SHUTDOWN_C : Field := ⟨0xa0018, 8, 8, 115⟩
def F.THM_DIE_CFG_RESTART_C : Field := ⟨0xa0018, 16, 8, 90⟩
def F.THM_DIE_CFG_SEG_HOT_C : Field := ⟨0xa0018, 24, 8, 105⟩
def F.THM_COOL_TIME_COOL_S : Field := ⟨0xa001c, 0, 16, 300⟩
def F.THM_STATUS_LOOP_RUNNING : Field := ⟨0xa0020, 0, 1, 0⟩
def F.THM_STATUS_MANUAL : Field := ⟨0xa0020, 1, 1, 0⟩
def F.THM_STATUS_FORCED : Field := ⟨0xa0020, 2, 1, 0⟩
def F.THM_STATUS_VALVE_UNAVAIL : Field := ⟨0xa0020, 3, 1, 0⟩
def F.THM_STATUS_COOL_EST : Field := ⟨0xa0020, 4, 1, 0⟩
def F.THM_STATUS_TUNING : Field := ⟨0xa0020, 5, 1, 0⟩
def F.THM_STATUS_ACK_PENDING : Field := ⟨0xa0020, 6, 1, 0⟩
def F.THM_STATUS_HOT_NTC : Field := ⟨0xa0020, 8, 8, 0⟩
def F.THM_STATUS_T_HOT : Field := ⟨0xa0020, 16, 16, 32768⟩
def F.THM_DIE_CTL_STF_C : Field := ⟨0xa0024, 0, 8, 128⟩
def F.THM_DIE_CTL_STF_P : Field := ⟨0xa0024, 8, 8, 128⟩
def F.THM_DIE_CTL_STF_H : Field := ⟨0xa0024, 16, 8, 128⟩
def F.THM_DIE_CTL_MOT : Field := ⟨0xa0024, 24, 8, 128⟩
def F.THM_EVENT_SHUTDOWN : Field := ⟨0xa0030, 0, 1, 0⟩
def F.THM_EVENT_SEG_HOT : Field := ⟨0xa0030, 1, 1, 0⟩
def F.THM_EVENT_COOL_FAULT : Field := ⟨0xa0030, 2, 1, 0⟩
def F.THM_EVENT_TUNE_DONE : Field := ⟨0xa0030, 3, 1, 0⟩
def F.THM_EVT_CNT0_COUNT_LO : Field := ⟨0xa0034, 0, 16, 0⟩
def F.THM_EVT_CNT0_COUNT_HI : Field := ⟨0xa0034, 16, 16, 0⟩
def F.THM_EVT_CNT1_COUNT_LO : Field := ⟨0xa0038, 0, 16, 0⟩
def F.THM_EVT_CNT1_COUNT_HI : Field := ⟨0xa0038, 16, 16, 0⟩
def F.THM_NTC_T_LO (q : Nat) : Field := ⟨0xa0100 + 4 * q, 0, 16, 32768⟩
def F.THM_NTC_T_HI (q : Nat) : Field := ⟨0xa0100 + 4 * q, 16, 16, 32768⟩
/-! ### MOT — spec/12_motion.md -/
def F.MOT_GLOBAL_CARD_PRESENT : Field := ⟨0xb0000, 0, 1, 0⟩
def F.MOT_GLOBAL_LINK_OK : Field := ⟨0xb0000, 1, 1, 0⟩
def F.MOT_GLOBAL_SUPPLY0_OK : Field := ⟨0xb0000, 2, 1, 0⟩
def F.MOT_GLOBAL_SUPPLY1_OK : Field := ⟨0xb0000, 3, 1, 0⟩
def F.MOT_SUPPLY_VM0 : Field := ⟨0xb0004, 0, 16, 0⟩
def F.MOT_SUPPLY_VM1 : Field := ⟨0xb0004, 16, 16, 0⟩
def F.MOT_EVENT_STALL0 : Field := ⟨0xb0010, 0, 1, 0⟩
def F.MOT_EVENT_STALL1 : Field := ⟨0xb0010, 8, 1, 0⟩
def F.MOT_EVENT_LIMIT0 : Field := ⟨0xb0010, 1, 1, 0⟩
def F.MOT_EVENT_LIMIT1 : Field := ⟨0xb0010, 9, 1, 0⟩
def F.MOT_EVENT_CHATTER0 : Field := ⟨0xb0010, 2, 1, 0⟩
def F.MOT_EVENT_CHATTER1 : Field := ⟨0xb0010, 10, 1, 0⟩
def F.MOT_EVENT_DEFERRED0 : Field := ⟨0xb0010, 3, 1, 0⟩
def F.MOT_EVENT_DEFERRED1 : Field := ⟨0xb0010, 11, 1, 0⟩
def F.MOT_EVENT_FAULT0 : Field := ⟨0xb0010, 4, 1, 0⟩
def F.MOT_EVENT_FAULT1 : Field := ⟨0xb0010, 12, 1, 0⟩
def F.MOT_EVENT_HOMED0 : Field := ⟨0xb0010, 5, 1, 0⟩
def F.MOT_EVENT_HOMED1 : Field := ⟨0xb0010, 13, 1, 0⟩
def F.MOT_EVT_CNT0_AXIS0 : Field := ⟨0xb0014, 0, 16, 0⟩
def F.MOT_EVT_CNT0_AXIS1 : Field := ⟨0xb0014, 16, 16, 0⟩
def F.MOT_EVT_CNT1_AXIS0 : Field := ⟨0xb0018, 0, 16, 0⟩
def F.MOT_EVT_CNT1_AXIS1 : Field := ⟨0xb0018, 16, 16, 0⟩
def F.MOT_EVT_CNT2_AXIS0 : Field := ⟨0xb001c, 0, 16, 0⟩
def F.MOT_EVT_CNT2_AXIS1 : Field := ⟨0xb001c, 16, 16, 0⟩
def F.MOT_EVT_CNT3_AXIS0 : Field := ⟨0xb0020, 0, 16, 0⟩
def F.MOT_EVT_CNT3_AXIS1 : Field := ⟨0xb0020, 16, 16, 0⟩
def F.MOT_EVT_CNT4_AXIS0 : Field := ⟨0xb0024, 0, 16, 0⟩
def F.MOT_EVT_CNT4_AXIS1 : Field := ⟨0xb0024, 16, 16, 0⟩
def F.MOT_EVT_CNT5_AXIS0 : Field := ⟨0xb0028, 0, 16, 0⟩
def F.MOT_EVT_CNT5_AXIS1 : Field := ⟨0xb0028, 16, 16, 0⟩
def F.MOT_CFG_ENABLE (x : Nat) : Field := ⟨0xb0100 + 256 * x, 0, 1, 0⟩
def F.MOT_CFG_DIR_INVERT (x : Nat) : Field := ⟨0xb0100 + 256 * x, 1, 1, 0⟩
def F.MOT_CFG_HOME_DIR (x : Nat) : Field := ⟨0xb0100 + 256 * x, 2, 1, 0⟩
def F.MOT_CFG_HOME_SRC (x : Nat) : Field := ⟨0xb0100 + 256 * x, 3, 1, 0⟩
def F.MOT_CFG_AUTO_HOME (x : Nat) : Field := ⟨0xb0100 + 256 * x, 4, 1, 0⟩
def F.MOT_CFG_SELF_LOCKING (x : Nat) : Field := ⟨0xb0100 + 256 * x, 5, 1, 0⟩
def F.MOT_CFG_STALL_EN (x : Nat) : Field := ⟨0xb0100 + 256 * x, 6, 1, 1⟩
def F.MOT_CFG_LIM_NC (x : Nat) : Field := ⟨0xb0100 + 256 * x, 7, 1, 1⟩
def F.MOT_CFG_DEBOUNCE (x : Nat) : Field := ⟨0xb0100 + 256 * x, 8, 8, 20⟩
def F.MOT_TRAVEL_USTEPS (x : Nat) : Field := ⟨0xb0104 + 256 * x, 0, 32, 0⟩
def F.MOT_CURRENT_RUN (x : Nat) : Field := ⟨0xb0108 + 256 * x, 0, 8, 50⟩
def F.MOT_CURRENT_HOLD (x : Nat) : Field := ⟨0xb0108 + 256 * x, 8, 8, 25⟩
def F.MOT_CURRENT_HOLD_DELAY (x : Nat) : Field := ⟨0xb0108 + 256 * x, 16, 8, 50⟩
def F.MOT_MOTOR_RES_PHASE (x : Nat) : Field := ⟨0xb010c + 256 * x, 0, 16, 1000⟩
def F.MOT_MOTOR_IND_PHASE (x : Nat) : Field := ⟨0xb010c + 256 * x, 16, 16, 3000⟩
def F.MOT_VMAX_VALUE (x : Nat) : Field := ⟨0xb0110 + 256 * x, 0, 32, 51200⟩
def F.MOT_AMAX_VALUE (x : Nat) : Field := ⟨0xb0114 + 256 * x, 0, 32, 512000⟩
def F.MOT_DMAX_VALUE (x : Nat) : Field := ⟨0xb0118 + 256 * x, 0, 32, 512000⟩
def F.MOT_JMAX_VALUE (x : Nat) : Field := ⟨0xb011c + 256 * x, 0, 32, 10240000⟩
def F.MOT_DEMERG_VALUE (x : Nat) : Field := ⟨0xb0120 + 256 * x, 0, 32, 2048000⟩
def F.MOT_HOME_V_FAST (x : Nat) : Field := ⟨0xb0124 + 256 * x, 0, 16, 200⟩
def F.MOT_HOME_V_SLOW (x : Nat) : Field := ⟨0xb0124 + 256 * x, 16, 16, 10⟩
def F.MOT_HOME_CFG_BACKOFF (x : Nat) : Field := ⟨0xb0128 + 256 * x, 0, 16, 50⟩
def F.MOT_HOME_CFG_EDGES_MAX (x : Nat) : Field := ⟨0xb0128 + 256 * x, 16, 4, 3⟩
def F.MOT_HOME_DEC_VALUE (x : Nat) : Field := ⟨0xb012c + 256 * x, 0, 32, 512000⟩
def F.MOT_HOME_OFFSET_USTEPS (x : Nat) : Field := ⟨0xb0130 + 256 * x, 0, 32, 0⟩
def F.MOT_STALL_ANGLE (x : Nat) : Field := ⟨0xb0134 + 256 * x, 0, 8, 80⟩
def F.MOT_STALL_TICKS (x : Nat) : Field := ⟨0xb0134 + 256 * x, 8, 8, 5⟩
def F.MOT_STALL_FLOOR (x : Nat) : Field := ⟨0xb0134 + 256 * x, 16, 16, 40⟩
def F.MOT_LINKLOSS_POS (x : Nat) : Field := ⟨0xb0138 + 256 * x, 0, 14, 10000⟩
def F.MOT_LINKLOSS_ACTION (x : Nat) : Field := ⟨0xb0138 + 256 * x, 14, 2, 1⟩
def F.MOT_POS_VALUE (x : Nat) : Field := ⟨0xb0140 + 256 * x, 0, 32, 0⟩
def F.MOT_VEL_VALUE (x : Nat) : Field := ⟨0xb0144 + 256 * x, 0, 32, 0⟩
def F.MOT_TARGET_VALUE (x : Nat) : Field := ⟨0xb0148 + 256 * x, 0, 32, 0⟩
def F.MOT_STATE_STATE (x : Nat) : Field := ⟨0xb014c + 256 * x, 0, 4, 0⟩
def F.MOT_STATE_HOMED (x : Nat) : Field := ⟨0xb014c + 256 * x, 4, 1, 0⟩
def F.MOT_STATE_LIMIT_DEFERRED (x : Nat) : Field := ⟨0xb014c + 256 * x, 5, 1, 0⟩
def F.MOT_STATE_LIM_NEG (x : Nat) : Field := ⟨0xb014c + 256 * x, 6, 1, 0⟩
def F.MOT_STATE_LIM_POS (x : Nat) : Field := ⟨0xb014c + 256 * x, 7, 1, 0⟩
def F.MOT_STATE_HOME_IN (x : Nat) : Field := ⟨0xb014c + 256 * x, 8, 1, 0⟩
def F.MOT_STATE_BRIDGE_ON (x : Nat) : Field := ⟨0xb014c + 256 * x, 9, 1, 0⟩
def F.MOT_STATE_STALL_ACTIVE (x : Nat) : Field := ⟨0xb014c + 256 * x, 10, 1, 0⟩
def F.MOT_STATE_END_CAUSE (x : Nat) : Field := ⟨0xb014c + 256 * x, 12, 4, 0⟩
def F.MOT_STATE_LOAD_ANGLE (x : Nat) : Field := ⟨0xb014c + 256 * x, 16, 8, 255⟩
def F.MOT_STATE_OWNER (x : Nat) : Field := ⟨0xb014c + 256 * x, 24, 2, 0⟩
def F.MOT_LATCH_VALUE (x : Nat) : Field := ⟨0xb0150 + 256 * x, 0, 32, 0⟩
def F.MOT_TABLE_CRC_CRC (x : Nat) : Field := ⟨0xb0154 + 256 * x, 0, 32, 0⟩
/-! ### CAN0/CAN1 — spec/15_can.md -/
def F.CAN_CFG_ENABLE (c : Nat) : Field := ⟨0xc0000 + 32768 * c, 0, 1, 0⟩
def F.CAN_CFG_FD_EN (c : Nat) : Field := ⟨0xc0000 + 32768 * c, 1, 1, 1⟩
def F.CAN_CFG_LISTEN_ONLY (c : Nat) : Field := ⟨0xc0000 + 32768 * c, 2, 1, 0⟩
def F.CAN_CFG_PXE (c : Nat) : Field := ⟨0xc0000 + 32768 * c, 3, 1, 1⟩
def F.CAN_CFG_PROFILE (c : Nat) : Field := ⟨0xc0000 + 32768 * c, 4, 2, (if c = 0 then 2 else 0)⟩
def F.CAN_CFG_DEFAULT_TGT (c : Nat) : Field := ⟨0xc0000 + 32768 * c, 6, 2, 3⟩
def F.CAN_CFG_RETRY_DEF (c : Nat) : Field := ⟨0xc0000 + 32768 * c, 8, 8, 16⟩
def F.CAN_CFG_RECOVER_MS (c : Nat) : Field := ⟨0xc0000 + 32768 * c, 16, 16, 1000⟩
def F.CAN_NBT_BRP_M1 (c : Nat) : Field := ⟨0xc0004 + 32768 * c, 0, 5, 1⟩
def F.CAN_NBT_TSEG1_M1 (c : Nat) : Field := ⟨0xc0004 + 32768 * c, 5, 8, 62⟩
def F.CAN_NBT_TSEG2_M1 (c : Nat) : Field := ⟨0xc0004 + 32768 * c, 13, 7, 15⟩
def F.CAN_NBT_SJW_M1 (c : Nat) : Field := ⟨0xc0004 + 32768 * c, 20, 7, 15⟩
def F.CAN_DBT_BRP_M1 (c : Nat) : Field := ⟨0xc0008 + 32768 * c, 0, 5, 1⟩
def F.CAN_DBT_TSEG1_M1 (c : Nat) : Field := ⟨0xc0008 + 32768 * c, 5, 5, 13⟩
def F.CAN_DBT_TSEG2_M1 (c : Nat) : Field := ⟨0xc0008 + 32768 * c, 10, 4, 4⟩
def F.CAN_DBT_SJW_M1 (c : Nat) : Field := ⟨0xc0008 + 32768 * c, 14, 4, 4⟩
def F.CAN_DBT_TDC_EN (c : Nat) : Field := ⟨0xc0008 + 32768 * c, 18, 1, 1⟩
def F.CAN_DBT_TDCO (c : Nat) : Field := ⟨0xc0008 + 32768 * c, 19, 7, 30⟩
def F.CAN_CTRL_RECOVER (c : Nat) : Field := ⟨0xc000c + 32768 * c, 0, 1, 0⟩
def F.CAN_STATUS_STATE (c : Nat) : Field := ⟨0xc0010 + 32768 * c, 0, 2, 0⟩
def F.CAN_STATUS_WARN (c : Nat) : Field := ⟨0xc0010 + 32768 * c, 2, 1, 0⟩
def F.CAN_STATUS_NO_PARTNER (c : Nat) : Field := ⟨0xc0010 + 32768 * c, 3, 1, 0⟩
def F.CAN_STATUS_INTEGRATED (c : Nat) : Field := ⟨0xc0010 + 32768 * c, 4, 1, 0⟩
def F.CAN_STATUS_LEC (c : Nat) : Field := ⟨0xc0010 + 32768 * c, 5, 3, 0⟩
def F.CAN_STATUS_TEC (c : Nat) : Field := ⟨0xc0010 + 32768 * c, 8, 8, 0⟩
def F.CAN_STATUS_REC (c : Nat) : Field := ⟨0xc0010 + 32768 * c, 16, 8, 0⟩
def F.CAN_EVENT_BUS_OFF (c : Nat) : Field := ⟨0xc0020 + 32768 * c, 0, 1, 0⟩
def F.CAN_EVENT_ERR_PASSIVE (c : Nat) : Field := ⟨0xc0020 + 32768 * c, 1, 1, 0⟩
def F.CAN_EVENT_NO_PARTNER (c : Nat) : Field := ⟨0xc0020 + 32768 * c, 2, 1, 0⟩
def F.CAN_EVENT_RX_LOST (c : Nat) : Field := ⟨0xc0020 + 32768 * c, 3, 1, 0⟩
def F.CAN_EVENT_RX_OVR0 (c : Nat) : Field := ⟨0xc0020 + 32768 * c, 4, 1, 0⟩
def F.CAN_EVENT_RX_OVR1 (c : Nat) : Field := ⟨0xc0020 + 32768 * c, 5, 1, 0⟩
def F.CAN_EVENT_PROT_EXC (c : Nat) : Field := ⟨0xc0020 + 32768 * c, 6, 1, 0⟩
def F.CAN_EVT_CNT0_COUNT_LO (c : Nat) : Field := ⟨0xc0024 + 32768 * c, 0, 16, 0⟩
def F.CAN_EVT_CNT0_COUNT_HI (c : Nat) : Field := ⟨0xc0024 + 32768 * c, 16, 16, 0⟩
def F.CAN_EVT_CNT1_COUNT_LO (c : Nat) : Field := ⟨0xc0028 + 32768 * c, 0, 16, 0⟩
def F.CAN_EVT_CNT1_COUNT_HI (c : Nat) : Field := ⟨0xc0028 + 32768 * c, 16, 16, 0⟩
def F.CAN_EVT_CNT2_COUNT_LO (c : Nat) : Field := ⟨0xc002c + 32768 * c, 0, 16, 0⟩
def F.CAN_EVT_CNT2_COUNT_HI (c : Nat) : Field := ⟨0xc002c + 32768 * c, 16, 16, 0⟩
def F.CAN_EVT_CNT3_COUNT_LO (c : Nat) : Field := ⟨0xc0030 + 32768 * c, 0, 16, 0⟩
def F.CAN_EVT_CNT3_COUNT_HI (c : Nat) : Field := ⟨0xc0030 + 32768 * c, 16, 16, 0⟩
def F.CAN_FIFO_LEVEL_FIFO0 (c : Nat) : Field := ⟨0xc0040 + 32768 * c, 0, 6, 0⟩
def F.CAN_FIFO_LEVEL_FIFO1 (c : Nat) : Field := ⟨0xc0040 + 32768 * c, 16, 6, 0⟩
def F.CAN_PEND_LO_VALUE (c : Nat) : Field := ⟨0xc0044 + 32768 * c, 0, 32, 0⟩
def F.CAN_PEND_HI_VALUE (c : Nat) : Field := ⟨0xc0048 + 32768 * c, 0, 32, 0⟩
def F.CAN_WAKE_ID (c : Nat) : Field := ⟨0xc0050 + 32768 * c, 0, 11, 0⟩
def F.CAN_WAKE_EN (c : Nat) : Field := ⟨0xc0050 + 32768 * c, 11, 1, 0⟩
def F.CAN_WAKE_MASK (c : Nat) : Field := ⟨0xc0050 + 32768 * c, 12, 11, 2047⟩
def F.CAN_WAKE_DATA0 (c : Nat) : Field := ⟨0xc0050 + 32768 * c, 23, 8, 0⟩
def F.CAN_SC240_BASE_BASE (c : Nat) : Field := ⟨0xc0054 + 32768 * c, 0, 11, 768⟩
def F.CAN_FLT_ID_ID (c : Nat) (k : Nat) : Field := ⟨0xc0400 + 32768 * c + 8 * k, 0, 29, 0⟩
def F.CAN_FLT_ID_IDE (c : Nat) (k : Nat) : Field := ⟨0xc0400 + 32768 * c + 8 * k, 29, 1, 0⟩
def F.CAN_FLT_ID_EN (c : Nat) (k : Nat) : Field := ⟨0xc0400 + 32768 * c + 8 * k, 30, 1, 0⟩
def F.CAN_FLT_MASK_MASK (c : Nat) (k : Nat) : Field := ⟨0xc0404 + 32768 * c + 8 * k, 0, 29, 0⟩
def F.CAN_FLT_TGT_TARGET (c : Nat) (k : Nat) : Field := ⟨0xc0500 + 32768 * c + 4 * k, 0, 7, 66⟩
def F.CAN_MB_CTRL_DIR (c : Nat) (n : Nat) : Field := ⟨0xc1000 + 32768 * c + 128 * n, 0, 2, 0⟩
def F.CAN_MB_CTRL_TIMED (c : Nat) (n : Nat) : Field := ⟨0xc1000 + 32768 * c + 128 * n, 2, 1, 0⟩
def F.CAN_MB_CTRL_REQ (c : Nat) (n : Nat) : Field := ⟨0xc1000 + 32768 * c + 128 * n, 3, 1, 0⟩
def F.CAN_MB_CTRL_CANCEL (c : Nat) (n : Nat) : Field := ⟨0xc1000 + 32768 * c + 128 * n, 4, 1, 0⟩
def F.CAN_MB_CTRL_PENDING (c : Nat) (n : Nat) : Field := ⟨0xc1000 + 32768 * c + 128 * n, 5, 1, 0⟩
def F.CAN_MB_CTRL_NEW (c : Nat) (n : Nat) : Field := ⟨0xc1000 + 32768 * c + 128 * n, 6, 1, 0⟩
def F.CAN_MB_CTRL_LOCKED (c : Nat) (n : Nat) : Field := ⟨0xc1000 + 32768 * c + 128 * n, 7, 1, 0⟩
def F.CAN_MB_CTRL_OVERWRITE (c : Nat) (n : Nat) : Field := ⟨0xc1000 + 32768 * c + 128 * n, 8, 1, 0⟩
def F.CAN_MB_CTRL_CANCEL_LATE (c : Nat) (n : Nat) : Field := ⟨0xc1000 + 32768 * c + 128 * n, 9, 1, 0⟩
def F.CAN_MB_CTRL_STATUS (c : Nat) (n : Nat) : Field := ⟨0xc1000 + 32768 * c + 128 * n, 16, 8, 0⟩
def F.CAN_MB_CTRL_ATTEMPTS (c : Nat) (n : Nat) : Field := ⟨0xc1000 + 32768 * c + 128 * n, 24, 8, 0⟩
def F.CAN_MB_ID_ID (c : Nat) (n : Nat) : Field := ⟨0xc1004 + 32768 * c + 128 * n, 0, 29, 0⟩
def F.CAN_MB_ID_IDE (c : Nat) (n : Nat) : Field := ⟨0xc1004 + 32768 * c + 128 * n, 29, 1, 0⟩
def F.CAN_MB_ID_RTR (c : Nat) (n : Nat) : Field := ⟨0xc1004 + 32768 * c + 128 * n, 30, 1, 0⟩
def F.CAN_MB_FMT_DLC (c : Nat) (n : Nat) : Field := ⟨0xc1008 + 32768 * c + 128 * n, 0, 4, 0⟩
def F.CAN_MB_FMT_FDF (c : Nat) (n : Nat) : Field := ⟨0xc1008 + 32768 * c + 128 * n, 4, 1, 0⟩
def F.CAN_MB_FMT_BRS (c : Nat) (n : Nat) : Field := ⟨0xc1008 + 32768 * c + 128 * n, 5, 1, 0⟩
def F.CAN_MB_FMT_ESI (c : Nat) (n : Nat) : Field := ⟨0xc1008 + 32768 * c + 128 * n, 6, 1, 0⟩
def F.CAN_MB_FMT_RETRY (c : Nat) (n : Nat) : Field := ⟨0xc1008 + 32768 * c + 128 * n, 8, 8, 0⟩
def F.CAN_MB_TS_LO_VALUE (c : Nat) (n : Nat) : Field := ⟨0xc100c + 32768 * c + 128 * n, 0, 32, 0⟩
def F.CAN_MB_TS_HI_VALUE (c : Nat) (n : Nat) : Field := ⟨0xc1010 + 32768 * c + 128 * n, 0, 32, 0⟩
def F.CAN_MB_DATA_VALUE (c : Nat) (n : Nat) (w : Nat) : Field := ⟨0xc1014 + 32768 * c + 128 * n + 4 * w, 0, 32, 0⟩
def F.CAN_FIFO_CTRL_DIR (c : Nat) (f : Nat) : Field := ⟨0xc3000 + 32768 * c + 128 * f, 0, 2, 0⟩
def F.CAN_FIFO_CTRL_TIMED (c : Nat) (f : Nat) : Field := ⟨0xc3000 + 32768 * c + 128 * f, 2, 1, 0⟩
def F.CAN_FIFO_CTRL_REQ (c : Nat) (f : Nat) : Field := ⟨0xc3000 + 32768 * c + 128 * f, 3, 1, 0⟩
def F.CAN_FIFO_CTRL_CANCEL (c : Nat) (f : Nat) : Field := ⟨0xc3000 + 32768 * c + 128 * f, 4, 1, 0⟩
def F.CAN_FIFO_CTRL_PENDING (c : Nat) (f : Nat) : Field := ⟨0xc3000 + 32768 * c + 128 * f, 5, 1, 0⟩
def F.CAN_FIFO_CTRL_NEW (c : Nat) (f : Nat) : Field := ⟨0xc3000 + 32768 * c + 128 * f, 6, 1, 0⟩
def F.CAN_FIFO_CTRL_LOCKED (c : Nat) (f : Nat) : Field := ⟨0xc3000 + 32768 * c + 128 * f, 7, 1, 0⟩
def F.CAN_FIFO_CTRL_OVERWRITE (c : Nat) (f : Nat) : Field := ⟨0xc3000 + 32768 * c + 128 * f, 8, 1, 0⟩
def F.CAN_FIFO_CTRL_CANCEL_LATE (c : Nat) (f : Nat) : Field := ⟨0xc3000 + 32768 * c + 128 * f, 9, 1, 0⟩
def F.CAN_FIFO_CTRL_STATUS (c : Nat) (f : Nat) : Field := ⟨0xc3000 + 32768 * c + 128 * f, 16, 8, 0⟩
def F.CAN_FIFO_CTRL_ATTEMPTS (c : Nat) (f : Nat) : Field := ⟨0xc3000 + 32768 * c + 128 * f, 24, 8, 0⟩
def F.CAN_FIFO_ID_ID (c : Nat) (f : Nat) : Field := ⟨0xc3004 + 32768 * c + 128 * f, 0, 29, 0⟩
def F.CAN_FIFO_ID_IDE (c : Nat) (f : Nat) : Field := ⟨0xc3004 + 32768 * c + 128 * f, 29, 1, 0⟩
def F.CAN_FIFO_ID_RTR (c : Nat) (f : Nat) : Field := ⟨0xc3004 + 32768 * c + 128 * f, 30, 1, 0⟩
def F.CAN_FIFO_FMT_DLC (c : Nat) (f : Nat) : Field := ⟨0xc3008 + 32768 * c + 128 * f, 0, 4, 0⟩
def F.CAN_FIFO_FMT_FDF (c : Nat) (f : Nat) : Field := ⟨0xc3008 + 32768 * c + 128 * f, 4, 1, 0⟩
def F.CAN_FIFO_FMT_BRS (c : Nat) (f : Nat) : Field := ⟨0xc3008 + 32768 * c + 128 * f, 5, 1, 0⟩
def F.CAN_FIFO_FMT_ESI (c : Nat) (f : Nat) : Field := ⟨0xc3008 + 32768 * c + 128 * f, 6, 1, 0⟩
def F.CAN_FIFO_FMT_RETRY (c : Nat) (f : Nat) : Field := ⟨0xc3008 + 32768 * c + 128 * f, 8, 8, 0⟩
def F.CAN_FIFO_TS_LO_VALUE (c : Nat) (f : Nat) : Field := ⟨0xc300c + 32768 * c + 128 * f, 0, 32, 0⟩
def F.CAN_FIFO_TS_HI_VALUE (c : Nat) (f : Nat) : Field := ⟨0xc3010 + 32768 * c + 128 * f, 0, 32, 0⟩
def F.CAN_FIFO_DATA_VALUE (c : Nat) (f : Nat) (w : Nat) : Field := ⟨0xc3014 + 32768 * c + 128 * f + 4 * w, 0, 32, 0⟩
/-! ### SB0/SB1 — spec/16_sensor_bus.md -/
def F.SB_CFG_ENABLE (c : Nat) : Field := ⟨0xd0000 + 32768 * c, 0, 1, 0⟩
def F.SB_CFG_SPEED (c : Nat) : Field := ⟨0xd0000 + 32768 * c, 1, 2, 1⟩
def F.SB_CFG_SMBUS (c : Nat) : Field := ⟨0xd0000 + 32768 * c, 3, 1, 0⟩
def F.SB_CFG_ARB_COND (c : Nat) : Field := ⟨0xd0000 + 32768 * c, 4, 1, 0⟩
def F.SB_CFG_TGT_EN (c : Nat) : Field := ⟨0xd0000 + 32768 * c, 5, 1, 0⟩
def F.SB_CFG_GCALL_EN (c : Nat) : Field := ⟨0xd0000 + 32768 * c, 6, 1, 0⟩
def F.SB_CFG_RETRY (c : Nat) : Field := ⟨0xd0000 + 32768 * c, 8, 4, 3⟩
def F.SB_CFG_STRETCH_MS (c : Nat) : Field := ⟨0xd0000 + 32768 * c, 16, 8, 25⟩
def F.SB_STATUS_BUS_BUSY (c : Nat) : Field := ⟨0xd0004 + 32768 * c, 0, 1, 0⟩
def F.SB_STATUS_XFER_ACTIVE (c : Nat) : Field := ⟨0xd0004 + 32768 * c, 1, 1, 0⟩
def F.SB_STATUS_TGT_ACTIVE (c : Nat) : Field := ⟨0xd0004 + 32768 * c, 2, 1, 0⟩
def F.SB_STATUS_CLEARING (c : Nat) : Field := ⟨0xd0004 + 32768 * c, 3, 1, 0⟩
def F.SB_STATUS_BUS_FAULT (c : Nat) : Field := ⟨0xd0004 + 32768 * c, 4, 1, 0⟩
def F.SB_STATUS_SCL_IN (c : Nat) : Field := ⟨0xd0004 + 32768 * c, 5, 1, 0⟩
def F.SB_STATUS_SDA_IN (c : Nat) : Field := ⟨0xd0004 + 32768 * c, 6, 1, 0⟩
def F.SB_STATUS_QUEUED (c : Nat) : Field := ⟨0xd0004 + 32768 * c, 8, 5, 0⟩
def F.SB_TGT_ADDR (c : Nat) : Field := ⟨0xd0008 + 32768 * c, 0, 7, 0⟩
def F.SB_TGT_ADDR2 (c : Nat) : Field := ⟨0xd0008 + 32768 * c, 8, 7, 0⟩
def F.SB_TGT_RX_LEVEL (c : Nat) : Field := ⟨0xd0008 + 32768 * c, 16, 7, 0⟩
def F.SB_WAKE_ADDR (c : Nat) : Field := ⟨0xd000c + 32768 * c, 0, 7, 0⟩
def F.SB_WAKE_EN (c : Nat) : Field := ⟨0xd000c + 32768 * c, 7, 1, 0⟩
def F.SB_WAKE_ACK (c : Nat) : Field := ⟨0xd000c + 32768 * c, 8, 1, 0⟩
def F.SB_BRANCH_ISOLATED (c : Nat) : Field := ⟨0xd0010 + 32768 * c, 0, 4, 0⟩
def F.SB_BRANCH_OPEN (c : Nat) : Field := ⟨0xd0010 + 32768 * c, 4, 4, 0⟩
def F.SB_ARB_BYTE (c : Nat) : Field := ⟨0xd0014 + 32768 * c, 0, 8, 0⟩
def F.SB_ARB_BIT (c : Nat) : Field := ⟨0xd0014 + 32768 * c, 8, 4, 0⟩
def F.SB_ARB_CONDITION (c : Nat) : Field := ⟨0xd0014 + 32768 * c, 12, 1, 0⟩
def F.SB_EVENT_ARB_LOST (c : Nat) : Field := ⟨0xd0020 + 32768 * c, 0, 1, 0⟩
def F.SB_EVENT_ARB_LOST_CONDITION (c : Nat) : Field := ⟨0xd0020 + 32768 * c, 1, 1, 0⟩
def F.SB_EVENT_STRETCH_TO (c : Nat) : Field := ⟨0xd0020 + 32768 * c, 2, 1, 0⟩
def F.SB_EVENT_STUCK_SDA (c : Nat) : Field := ⟨0xd0020 + 32768 * c, 3, 1, 0⟩
def F.SB_EVENT_STUCK_SCL (c : Nat) : Field := ⟨0xd0020 + 32768 * c, 4, 1, 0⟩
def F.SB_EVENT_BUS_FAULT (c : Nat) : Field := ⟨0xd0020 + 32768 * c, 5, 1, 0⟩
def F.SB_EVENT_TGT_OVR (c : Nat) : Field := ⟨0xd0020 + 32768 * c, 6, 1, 0⟩
def F.SB_EVENT_WAKE (c : Nat) : Field := ⟨0xd0020 + 32768 * c, 7, 1, 0⟩
def F.SB_EVT_CNT0_COUNT_LO (c : Nat) : Field := ⟨0xd0024 + 32768 * c, 0, 16, 0⟩
def F.SB_EVT_CNT0_COUNT_HI (c : Nat) : Field := ⟨0xd0024 + 32768 * c, 16, 16, 0⟩
def F.SB_EVT_CNT1_COUNT_LO (c : Nat) : Field := ⟨0xd0028 + 32768 * c, 0, 16, 0⟩
def F.SB_EVT_CNT1_COUNT_HI (c : Nat) : Field := ⟨0xd0028 + 32768 * c, 16, 16, 0⟩
def F.SB_EVT_CNT2_COUNT_LO (c : Nat) : Field := ⟨0xd002c + 32768 * c, 0, 16, 0⟩
def F.SB_EVT_CNT2_COUNT_HI (c : Nat) : Field := ⟨0xd002c + 32768 * c, 16, 16, 0⟩
def F.SB_EVT_CNT3_COUNT_LO (c : Nat) : Field := ⟨0xd0030 + 32768 * c, 0, 16, 0⟩
def F.SB_EVT_CNT3_COUNT_HI (c : Nat) : Field := ⟨0xd0030 + 32768 * c, 16, 16, 0⟩
def F.SB_TGT_RX_DATA (c : Nat) : Field := ⟨0xd0080 + 32768 * c, 0, 8, 0⟩
def F.SB_TGT_RX_VALID (c : Nat) : Field := ⟨0xd0080 + 32768 * c, 8, 1, 0⟩
def F.SB_TGT_RX_FIRST (c : Nat) : Field := ⟨0xd0080 + 32768 * c, 9, 1, 0⟩
def F.SB_TGT_RX_GCALL (c : Nat) : Field := ⟨0xd0080 + 32768 * c, 10, 1, 0⟩
def F.SB_TGT_IMAGE_BYTES (c : Nat) (w : Nat) : Field := ⟨0xd0100 + 32768 * c + 4 * w, 0, 32, 0⟩
/-! ### MBX — spec/17_mailboxes.md -/
def F.MBX_DATA_WORD (n : Nat) : Field := ⟨0xe0000 + 16 * n, 0, 32, 0⟩
def F.MBX_CTRL_STATE (n : Nat) : Field := ⟨0xe0004 + 16 * n, 0, 3, 0⟩
def F.MBX_CTRL_FULL (n : Nat) : Field := ⟨0xe0004 + 16 * n, 3, 1, 0⟩
def F.MBX_CTRL_SENDER (n : Nat) : Field := ⟨0xe0004 + 16 * n, 4, 4, 0⟩
def F.MBX_CTRL_ORPHAN (n : Nat) : Field := ⟨0xe0004 + 16 * n, 8, 1, 0⟩
def F.MBX_CTRL_RELEASE (n : Nat) : Field := ⟨0xe0004 + 16 * n, 9, 1, 0⟩
def F.MBX_ACK_CODE (n : Nat) : Field := ⟨0xe0008 + 16 * n, 0, 8, 0⟩
def F.MBX_ACK_DONE (n : Nat) : Field := ⟨0xe0008 + 16 * n, 8, 1, 0⟩
def F.MBX_OWN_SENDER (n : Nat) : Field := ⟨0xe000c + 16 * n, 0, 4, 0⟩
def F.MBX_OWN_RECEIVER (n : Nat) : Field := ⟨0xe000c + 16 * n, 4, 4, 0⟩
def F.MBX_OWN_ENABLE (n : Nat) : Field := ⟨0xe000c + 16 * n, 8, 1, 0⟩
def F.MBX_LOCK_LOCK : Field := ⟨0xe0400, 0, 1, 0⟩
def F.MBX_LOCK_PROXY : Field := ⟨0xe0400, 4, 4, 1⟩
def F.MBX_EVENT_REFUSED : Field := ⟨0xe0410, 0, 1, 0⟩
def F.MBX_EVENT_ABORT : Field := ⟨0xe0410, 1, 1, 0⟩
def F.MBX_EVENT_BRIDGE_DOWN : Field := ⟨0xe0410, 2, 1, 0⟩
def F.MBX_EVT_CNT0_COUNT_LO : Field := ⟨0xe0414, 0, 16, 0⟩
def F.MBX_EVT_CNT0_COUNT_HI : Field := ⟨0xe0414, 16, 16, 0⟩
def F.MBX_EVT_CNT1_COUNT_LO : Field := ⟨0xe0418, 0, 16, 0⟩
def F.MBX_EVT_CNT1_COUNT_HI : Field := ⟨0xe0418, 16, 16, 0⟩
def F.MBX_ERR_INFO_AGENT : Field := ⟨0xe041c, 0, 4, 0⟩
def F.MBX_ERR_INFO_MAILBOX : Field := ⟨0xe041c, 4, 5, 0⟩
def F.MBX_ERR_INFO_REG : Field := ⟨0xe041c, 9, 2, 0⟩
def F.MBX_RX_PEND_BITS (a : Nat) : Field := ⟨0xe1100 + 256 * (a - 1), 0, 32, 0⟩
def F.MBX_DB_SET_BITS (a : Nat) : Field := ⟨0xe1104 + 256 * (a - 1), 0, 32, 0⟩
def F.MBX_DB_PEND_BITS (a : Nat) : Field := ⟨0xe1108 + 256 * (a - 1), 0, 32, 0⟩
def F.MBX_DB_CNT_COUNT_LO (a : Nat) (m : Nat) : Field := ⟨0xe1140 + 256 * (a - 1) + 4 * m, 0, 16, 0⟩
def F.MBX_DB_CNT_COUNT_HI (a : Nat) (m : Nat) : Field := ⟨0xe1140 + 256 * (a - 1) + 4 * m, 16, 16, 0⟩
/-! ### REC — spec/20_recorder_memory_and_sparing.md -/
def F.REC_CTRL_READ : Field := ⟨0xf0000, 0, 1, 0⟩
def F.REC_CURSOR_AREA : Field := ⟨0xf0004, 0, 1, 0⟩
def F.REC_CURSOR_POS_VALUE : Field := ⟨0xf0008, 0, 32, 0⟩
def F.REC_HEAD_VALUE : Field := ⟨0xf000c, 0, 32, 0⟩
def F.REC_WIN_POS_VALUE : Field := ⟨0xf0010, 0, 32, 0⟩
def F.REC_WIN_GEN_VALUE : Field := ⟨0xf0014, 0, 32, 0⟩
def F.REC_SKIPPED_VALUE : Field := ⟨0xf0018, 0, 32, 0⟩
def F.REC_STATUS_RESULT : Field := ⟨0xf001c, 0, 2, 0⟩
def F.REC_STATUS_OVERTAKEN : Field := ⟨0xf001c, 2, 1, 0⟩
def F.REC_STATUS_FIRST_FULL : Field := ⟨0xf001c, 3, 1, 0⟩
def F.REC_STATUS_HOLD_MERGED : Field := ⟨0xf001c, 4, 1, 0⟩
def F.REC_STATUS_FIRST_COUNT : Field := ⟨0xf001c, 16, 11, 0⟩
def F.REC_EVT_CNT0_COUNT_LO : Field := ⟨0xf0020, 0, 16, 0⟩
def F.REC_EVT_CNT0_COUNT_HI : Field := ⟨0xf0020, 16, 16, 0⟩
def F.REC_SEQ_LO_VALUE : Field := ⟨0xf0024, 0, 32, 0⟩
def F.REC_SEQ_HI_VALUE : Field := ⟨0xf0028, 0, 32, 0⟩
def F.REC_OPTIME_VALUE : Field := ⟨0xf002c, 0, 32, 0⟩
def F.REC_POWER_CYCLES_VALUE : Field := ⟨0xf0030, 0, 32, 0⟩
def F.REC_HELD_VALUE : Field := ⟨0xf0034, 0, 32, 0⟩
def F.REC_WIN_BYTES (w : Nat) : Field := ⟨0xf0040 + 4 * w, 0, 32, 0⟩
/-! ### UPD — spec/19_update.md -/
def F.UPD_STATUS_STATE : Field := ⟨0x100000, 0, 4, 0⟩
def F.UPD_STATUS_TARGET : Field := ⟨0x100000, 4, 2, 0⟩
def F.UPD_STATUS_IMAGE_STATE : Field := ⟨0x100000, 6, 2, 0⟩
def F.UPD_STATUS_TRIAL_LEFT : Field := ⟨0x100000, 8, 2, 0⟩
def F.UPD_STATUS_ACTIVE_BANK : Field := ⟨0x100000, 10, 1, 0⟩
def F.UPD_STATUS_SETTINGS_COPY : Field := ⟨0x100000, 11, 1, 0⟩
def F.UPD_STATUS_SAFE_STATE : Field := ⟨0x100000, 12, 2, 0⟩
def F.UPD_STATUS_CHUNKS_HELD : Field := ⟨0x100000, 16, 11, 0⟩
def F.UPD_PROGRESS_PERMILLE : Field := ⟨0x100004, 0, 10, 0⟩
def F.UPD_PROGRESS_SEG_DONE : Field := ⟨0x100004, 16, 5, 0⟩
def F.UPD_PROGRESS_SEG_SLOT : Field := ⟨0x100004, 21, 5, 0⟩
def F.UPD_VERSION_RUN_VERSION : Field := ⟨0x100008, 0, 32, 0⟩
def F.UPD_VERSION_FALLBACK_VERSION : Field := ⟨0x10000c, 0, 32, 0⟩
def F.UPD_VERSION_PKG_VERSION : Field := ⟨0x100010, 0, 32, 0⟩
def F.UPD_SCHEMA_RUNNING : Field := ⟨0x100014, 0, 16, 0⟩
def F.UPD_SCHEMA_PACKAGE : Field := ⟨0x100014, 16, 16, 0⟩
def F.UPD_EPOCH_EPOCH : Field := ⟨0x100018, 0, 16, 0⟩
def F.UPD_EPOCH_REVOKED : Field := ⟨0x100018, 16, 4, 0⟩
def F.UPD_CFG_SHADOW_S : Field := ⟨0x10001c, 0, 12, 60⟩
def F.UPD_CFG_LIMIT_TOL : Field := ⟨0x10001c, 16, 8, 5⟩
def F.UPD_EVENT_HEADER_REFUSED : Field := ⟨0x100020, 0, 1, 0⟩
def F.UPD_EVENT_CHUNK_BAD : Field := ⟨0x100020, 1, 1, 0⟩
def F.UPD_EVENT_VERIFY_FAIL : Field := ⟨0x100020, 2, 1, 0⟩
def F.UPD_EVENT_ACTIVATED : Field := ⟨0x100020, 3, 1, 0⟩
def F.UPD_EVENT_HANDBACK : Field := ⟨0x100020, 4, 1, 0⟩
def F.UPD_EVENT_FALLBACK : Field := ⟨0x100020, 5, 1, 0⟩
def F.UPD_EVENT_CONFIRMED : Field := ⟨0x100020, 6, 1, 0⟩
def F.UPD_EVENT_SEG_FAIL : Field := ⟨0x100020, 7, 1, 0⟩
def F.UPD_EVT_CNT0_COUNT_LO : Field := ⟨0x100024, 0, 16, 0⟩
def F.UPD_EVT_CNT0_COUNT_HI : Field := ⟨0x100024, 16, 16, 0⟩
def F.UPD_EVT_CNT1_COUNT_LO : Field := ⟨0x100028, 0, 16, 0⟩
def F.UPD_EVT_CNT1_COUNT_HI : Field := ⟨0x100028, 16, 16, 0⟩
def F.UPD_EVT_CNT2_COUNT_LO : Field := ⟨0x10002c, 0, 16, 0⟩
def F.UPD_EVT_CNT2_COUNT_HI : Field := ⟨0x10002c, 16, 16, 0⟩
def F.UPD_EVT_CNT3_COUNT_LO : Field := ⟨0x100030, 0, 16, 0⟩
def F.UPD_EVT_CNT3_COUNT_HI : Field := ⟨0x100030, 16, 16, 0⟩
def F.UPD_LAST_ERR_STATUS : Field := ⟨0x100040, 0, 8, 0⟩
def F.UPD_LAST_ERR_STAGE : Field := ⟨0x100040, 8, 8, 0⟩
def F.UPD_BITMAP_BITS (w : Nat) : Field := ⟨0x100100 + 4 * w, 0, 32, 0⟩
/-! ### SEC — spec/18_security.md -/
def F.SEC_STATUS_ID_OK : Field := ⟨0x110000, 0, 1, 0⟩
def F.SEC_STATUS_ID_FAULT : Field := ⟨0x110000, 1, 1, 0⟩
def F.SEC_STATUS_CLAIMED : Field := ⟨0x110000, 2, 1, 0⟩
def F.SEC_STATUS_TAMPER_LATCHED : Field := ⟨0x110000, 3, 1, 0⟩
def F.SEC_STATUS_LID_OPEN : Field := ⟨0x110000, 4, 1, 0⟩
def F.SEC_STATUS_TAMPER_UNPOWERED : Field := ⟨0x110000, 5, 1, 0⟩
def F.SEC_STATUS_ANCHORS : Field := ⟨0x110000, 8, 4, 0⟩
def F.SEC_CFG_TAMPER_ACTION : Field := ⟨0x110004, 0, 1, 0⟩
def F.SEC_CFG_SVC_IDLE_MIN : Field := ⟨0x110004, 8, 8, 15⟩
def F.SEC_EVENT_TAMPER : Field := ⟨0x110010, 0, 1, 0⟩
def F.SEC_EVENT_AUTH_FAIL : Field := ⟨0x110010, 1, 1, 0⟩
def F.SEC_EVENT_ROLE_DENIED : Field := ⟨0x110010, 2, 1, 0⟩
def F.SEC_EVENT_ANCHOR_CHANGE : Field := ⟨0x110010, 3, 1, 0⟩
def F.SEC_EVT_CNT0_COUNT_LO : Field := ⟨0x110014, 0, 16, 0⟩
def F.SEC_EVT_CNT0_COUNT_HI : Field := ⟨0x110014, 16, 16, 0⟩
def F.SEC_EVT_CNT1_COUNT_LO : Field := ⟨0x110018, 0, 16, 0⟩
def F.SEC_EVT_CNT1_COUNT_HI : Field := ⟨0x110018, 16, 16, 0⟩
def F.SEC_TIME_FLOOR_LO_NS : Field := ⟨0x110020, 0, 32, 0⟩
def F.SEC_TIME_FLOOR_HI_NS : Field := ⟨0x110024, 0, 32, 0⟩
def F.SEC_SERIAL_CHARS (w : Nat) : Field := ⟨0x110040 + 4 * w, 0, 32, 0⟩
/-! ### UNDERCOAT — spec/20_recorder_memory_and_sparing.md -/
def F.UC_STATUS_EXHAUSTED : Field := ⟨0x120000, 0, 7, 0⟩
def F.UC_STATUS_RELOCATING : Field := ⟨0x120000, 7, 1, 0⟩
def F.UC_STATUS_CORE_REPLACED : Field := ⟨0x120000, 8, 2, 0⟩
def F.UC_STATUS_CONV_USED : Field := ⟨0x120000, 16, 16, 0⟩
def F.UC_CFG_AUTO_CONV : Field := ⟨0x120004, 0, 1, 1⟩
def F.UC_CFG_AUTO_CORE : Field := ⟨0x120004, 1, 1, 1⟩
def F.UC_CFG_MRAM_PASS : Field := ⟨0x120004, 8, 8, 8⟩
def F.UC_CFG_MRAM_LIFE : Field := ⟨0x120004, 16, 8, 32⟩
def F.UC_CFG_FLASH_PASS : Field := ⟨0x120004, 24, 8, 64⟩
def F.UC_SPARES_MRAM_ROWS : Field := ⟨0x120008, 0, 9, 256⟩
def F.UC_SPARES_FLASH0 : Field := ⟨0x120008, 16, 6, 32⟩
def F.UC_SPARES_FLASH1 : Field := ⟨0x120008, 24, 6, 32⟩
def F.UC_EVENT_SUBSTITUTED : Field := ⟨0x120010, 0, 1, 0⟩
def F.UC_EVENT_EXHAUSTED : Field := ⟨0x120010, 1, 1, 0⟩
def F.UC_EVENT_RELOCATED : Field := ⟨0x120010, 2, 1, 0⟩
def F.UC_EVENT_NEEDED : Field := ⟨0x120010, 3, 1, 0⟩
def F.UC_EVT_CNT0_COUNT_LO : Field := ⟨0x120014, 0, 16, 0⟩
def F.UC_EVT_CNT0_COUNT_HI : Field := ⟨0x120014, 16, 16, 0⟩
def F.UC_EVT_CNT1_COUNT_LO : Field := ⟨0x120018, 0, 16, 0⟩
def F.UC_EVT_CNT1_COUNT_HI : Field := ⟨0x120018, 16, 16, 0⟩
def F.UC_CONV_POSITION (s : Nat) : Field := ⟨0x120100 + 4 * (s - 1), 0, 5, 0⟩
def F.UC_CONV_FAILED (s : Nat) : Field := ⟨0x120100 + 4 * (s - 1), 5, 1, 0⟩
def F.UC_CONV_DRIFT_VISITS (s : Nat) : Field := ⟨0x120100 + 4 * (s - 1), 16, 16, 0⟩
def F.UC_FLASH_ERASE_MAX (d : Nat) : Field := ⟨0x120200 + 4 * d, 0, 16, 0⟩
def F.UC_FLASH_ERASE_RETIRED (d : Nat) : Field := ⟨0x120200 + 4 * d, 16, 16, 0⟩
/-! ### BANK — spec/09_dispatch_and_bank.md -/
def F.BANK_CFG_POSITION : Field := ⟨0x130000, 0, 3, 0⟩
def F.BANK_CFG_MASTER : Field := ⟨0x130000, 3, 1, 1⟩
def F.BANK_CFG_SIZE_M1 : Field := ⟨0x130000, 4, 3, 0⟩
def F.BANK_CFG_VMATCH : Field := ⟨0x130000, 8, 8, 40⟩
def F.BANK_CFG_DERATE : Field := ⟨0x130000, 16, 8, 80⟩
def F.BANK_DSP_CFG_END_ACTION : Field := ⟨0x130004, 0, 2, 1⟩
def F.BANK_DSP_CFG_LEAD_MS : Field := ⟨0x130004, 8, 8, 20⟩
def F.BANK_DSP_CFG_IMBAL_PCT : Field := ⟨0x130004, 16, 8, 20⟩
def F.BANK_STATUS_HEARD : Field := ⟨0x130008, 0, 8, 0⟩
def F.BANK_STATUS_CLOSED : Field := ⟨0x130008, 8, 8, 0⟩
def F.BANK_STATUS_ACTING_MASTER : Field := ⟨0x130008, 16, 1, 0⟩
def F.BANK_STATUS_MASTER_LOST : Field := ⟨0x130008, 17, 1, 0⟩
def F.BANK_STATUS_DUP_POSITION : Field := ⟨0x130008, 18, 1, 0⟩
def F.BANK_STATUS_RING_BREAK : Field := ⟨0x130008, 19, 1, 0⟩
def F.BANK_STATUS_PLUMB_MISMATCH : Field := ⟨0x130008, 20, 1, 0⟩
def F.BANK_STATUS_GRANT_HELD : Field := ⟨0x130008, 21, 1, 0⟩
def F.BANK_STATUS_LAST_REFUSAL : Field := ⟨0x130008, 24, 3, 0⟩
def F.BANK_SCHED_STATUS_STATE : Field := ⟨0x13000c, 0, 2, 0⟩
def F.BANK_SCHED_STATUS_RUNNING_BUF : Field := ⟨0x13000c, 2, 1, 0⟩
def F.BANK_SCHED_STATUS_KIND : Field := ⟨0x13000c, 3, 2, 0⟩
def F.BANK_SCHED_STATUS_NEXT : Field := ⟨0x13000c, 16, 11, 0⟩
def F.BANK_SETPOINT_VALUE : Field := ⟨0x130010, 0, 32, 0⟩
def F.BANK_CAN_ID_BASE : Field := ⟨0x130014, 12, 17, 50592⟩
def F.BANK_PERTURB_MAX_MA : Field := ⟨0x130018, 0, 16, 5000⟩
def F.BANK_EVENT_CLAMPED : Field := ⟨0x130020, 0, 1, 0⟩
def F.BANK_EVENT_LATE : Field := ⟨0x130020, 1, 1, 0⟩
def F.BANK_EVENT_MISSED : Field := ⟨0x130020, 2, 1, 0⟩
def F.BANK_EVENT_GRANT_REFUSED : Field := ⟨0x130020, 3, 1, 0⟩
def F.BANK_EVENT_MASTER_LOST : Field := ⟨0x130020, 4, 1, 0⟩
def F.BANK_EVENT_IMBALANCE : Field := ⟨0x130020, 5, 1, 0⟩
def F.BANK_EVENT_PERTURB_REFUSED : Field := ⟨0x130020, 6, 1, 0⟩
def F.BANK_EVENT_RING_BREAK : Field := ⟨0x130020, 7, 1, 0⟩
def F.BANK_EVT_CNT0_COUNT_LO : Field := ⟨0x130024, 0, 16, 0⟩
def F.BANK_EVT_CNT0_COUNT_HI : Field := ⟨0x130024, 16, 16, 0⟩
def F.BANK_EVT_CNT1_COUNT_LO : Field := ⟨0x130028, 0, 16, 0⟩
def F.BANK_EVT_CNT1_COUNT_HI : Field := ⟨0x130028, 16, 16, 0⟩
def F.BANK_EVT_CNT2_COUNT_LO : Field := ⟨0x13002c, 0, 16, 0⟩
def F.BANK_EVT_CNT2_COUNT_HI : Field := ⟨0x13002c, 16, 16, 0⟩
def F.BANK_EVT_CNT3_COUNT_LO : Field := ⟨0x130030, 0, 16, 0⟩
def F.BANK_EVT_CNT3_COUNT_HI : Field := ⟨0x130030, 16, 16, 0⟩
def F.BANK_PUB_ICHG_MA (h : Nat) : Field := ⟨0x130060 + 4 * h, 0, 32, 0⟩
def F.BANK_PUB_IDIS_MA (h : Nat) : Field := ⟨0x130070 + 4 * h, 0, 32, 0⟩
def F.BANK_PUB_PCHG_W (h : Nat) : Field := ⟨0x130080 + 4 * h, 0, 32, 0⟩
def F.BANK_PUB_PDIS_W (h : Nat) : Field := ⟨0x130090 + 4 * h, 0, 32, 0⟩
def F.BANK_SHARE_CHG (p : Nat) : Field := ⟨0x130100 + 4 * p, 0, 16, 65535⟩
def F.BANK_SHARE_DIS (p : Nat) : Field := ⟨0x130100 + 4 * p, 16, 16, 65535⟩
/-! ### W1C flags and their event counters (R35) -/
def Fl.PWR_AUX_STATUS_AUX_DIP : Flag := ⟨F.PWR_AUX_STATUS_AUX_DIP, F.PWR_AUX_DIP_CNT_COUNT⟩
def Fl.TIME_EVENT_LOCKED : Flag := ⟨F.TIME_EVENT_LOCKED, F.TIME_EVT_CNT0_COUNT_LO⟩
def Fl.TIME_EVENT_LOCK_LOST : Flag := ⟨F.TIME_EVENT_LOCK_LOST, F.TIME_EVT_CNT0_COUNT_HI⟩
def Fl.TIME_EVENT_DEGRADED : Flag := ⟨F.TIME_EVENT_DEGRADED, F.TIME_EVT_CNT1_COUNT_LO⟩
def Fl.TIME_EVENT_STEPPED : Flag := ⟨F.TIME_EVENT_STEPPED, F.TIME_EVT_CNT1_COUNT_HI⟩
def Fl.TIME_EVENT_PORT_SWITCH : Flag := ⟨F.TIME_EVENT_PORT_SWITCH, F.TIME_EVT_CNT2_COUNT_LO⟩
def Fl.TIME_EVENT_TO_LATE : Flag := ⟨F.TIME_EVENT_TO_LATE, F.TIME_EVT_CNT2_COUNT_HI⟩
def Fl.TIME_EVENT_TI_OVF : Flag := ⟨F.TIME_EVENT_TI_OVF, F.TIME_EVT_CNT3_COUNT_LO⟩
def Fl.HRT_EVENT_COMMAND_BACKLOG : Flag := ⟨F.HRT_EVENT_COMMAND_BACKLOG, F.HRT_EVT_CNT0_COUNT_LO⟩
def Fl.HRT_EVENT_FAILOVER : Flag := ⟨F.HRT_EVENT_FAILOVER, F.HRT_EVT_CNT0_COUNT_HI⟩
def Fl.HRT_EVENT_PORT_DOWN : Flag := ⟨F.HRT_EVENT_PORT_DOWN, F.HRT_EVT_CNT1_COUNT_LO⟩
def Fl.HRT_EVENT_PORT_KEYED : Flag := ⟨F.HRT_EVENT_PORT_KEYED, F.HRT_EVT_CNT1_COUNT_HI⟩
def Fl.HRT_EVENT_TLM_DROP : Flag := ⟨F.HRT_EVENT_TLM_DROP, F.HRT_EVT_CNT2_COUNT_LO⟩
def Fl.HRT_EVENT_DOORBELL_BAD : Flag := ⟨F.HRT_EVENT_DOORBELL_BAD, F.HRT_EVT_CNT2_COUNT_HI⟩
def Fl.HRT_EVENT_RING_FAULT : Flag := ⟨F.HRT_EVENT_RING_FAULT, F.HRT_EVT_CNT3_COUNT_LO⟩
def Fl.HRT_EVENT_EVENTS_HELD : Flag := ⟨F.HRT_EVENT_EVENTS_HELD, F.HRT_EVT_CNT3_COUNT_HI⟩
def Fl.SEG_EVENT_CARD_LOST : Flag := ⟨F.SEG_EVENT_CARD_LOST, F.SEG_EVT_CNT0_COUNT_LO⟩
def Fl.SEG_EVENT_CARD_JOINED : Flag := ⟨F.SEG_EVENT_CARD_JOINED, F.SEG_EVT_CNT0_COUNT_HI⟩
def Fl.SEG_EVENT_JOIN_FAIL : Flag := ⟨F.SEG_EVENT_JOIN_FAIL, F.SEG_EVT_CNT1_COUNT_LO⟩
def Fl.SEG_EVENT_RING_BREAK : Flag := ⟨F.SEG_EVENT_RING_BREAK, F.SEG_EVT_CNT1_COUNT_HI⟩
def Fl.SEG_EVENT_RING_WHOLE : Flag := ⟨F.SEG_EVENT_RING_WHOLE, F.SEG_EVT_CNT2_COUNT_LO⟩
def Fl.SEG_EVENT_SPARE_SUBST : Flag := ⟨F.SEG_EVENT_SPARE_SUBST, F.SEG_EVT_CNT2_COUNT_HI⟩
def Fl.SEG_EVENT_RELABEL : Flag := ⟨F.SEG_EVENT_RELABEL, F.SEG_EVT_CNT3_COUNT_LO⟩
def Fl.SEG_EVENT_ALIGN_LOST : Flag := ⟨F.SEG_EVENT_ALIGN_LOST, F.SEG_EVT_CNT3_COUNT_HI⟩
def Fl.SEG_SENSE_EVENT_WIRE_FAULT : Flag := ⟨F.SEG_SENSE_EVENT_WIRE_FAULT, F.SEG_SENSE_CNT0_COUNT_LO⟩
def Fl.SEG_SENSE_EVENT_SUM_WIRE_FAULT : Flag := ⟨F.SEG_SENSE_EVENT_SUM_WIRE_FAULT, F.SEG_SENSE_CNT0_COUNT_HI⟩
def Fl.SEG_SENSE_EVENT_SENSE_LOSS : Flag := ⟨F.SEG_SENSE_EVENT_SENSE_LOSS, F.SEG_SENSE_CNT1_COUNT_LO⟩
def Fl.SEG_SENSE_EVENT_CMP_TRIP : Flag := ⟨F.SEG_SENSE_EVENT_CMP_TRIP, F.SEG_SENSE_CNT1_COUNT_HI⟩
def Fl.SEG_SENSE_EVENT_CMP_TEST_FAIL : Flag := ⟨F.SEG_SENSE_EVENT_CMP_TEST_FAIL, F.SEG_SENSE_CNT2_COUNT_LO⟩
def Fl.SEG_SENSE_EVENT_TONE_LOST : Flag := ⟨F.SEG_SENSE_EVENT_TONE_LOST, F.SEG_SENSE_CNT2_COUNT_HI⟩
def Fl.SEG_SENSE_EVENT_WIRE_INTERMITTENT : Flag := ⟨F.SEG_SENSE_EVENT_WIRE_INTERMITTENT, F.SEG_SENSE_CNT3_COUNT_LO⟩
def Fl.SEG_SENSE_EVENT_KEEPALIVE_LOW : Flag := ⟨F.SEG_SENSE_EVENT_KEEPALIVE_LOW, F.SEG_SENSE_CNT3_COUNT_HI⟩
def Fl.BAL_EVENT_SWITCH_FAULT : Flag := ⟨F.BAL_EVENT_SWITCH_FAULT, F.BAL_EVT_CNT0_COUNT_LO⟩
def Fl.BAL_EVENT_CUTOFF : Flag := ⟨F.BAL_EVENT_CUTOFF, F.BAL_EVT_CNT0_COUNT_HI⟩
def Fl.BAL_EVENT_THERM_STOP : Flag := ⟨F.BAL_EVENT_THERM_STOP, F.BAL_EVT_CNT1_COUNT_LO⟩
def Fl.BAL_EVENT_LEASE_EXPIRED : Flag := ⟨F.BAL_EVENT_LEASE_EXPIRED, F.BAL_EVT_CNT1_COUNT_HI⟩
def Fl.BAL_EVENT_RW_LIMIT : Flag := ⟨F.BAL_EVENT_RW_LIMIT, F.BAL_EVT_CNT2_COUNT_LO⟩
def Fl.BAL_EVENT_CAMPAIGN_END : Flag := ⟨F.BAL_EVENT_CAMPAIGN_END, F.BAL_EVT_CNT2_COUNT_HI⟩
def Fl.CIM_EVENT_ISO_WARN : Flag := ⟨F.CIM_EVENT_ISO_WARN, F.CIM_EVT_CNT0_COUNT_LO⟩
def Fl.CIM_EVENT_ISO_ALARM : Flag := ⟨F.CIM_EVENT_ISO_ALARM, F.CIM_EVT_CNT0_COUNT_HI⟩
def Fl.CIM_EVENT_HALL_FAULT : Flag := ⟨F.CIM_EVENT_HALL_FAULT, F.CIM_EVT_CNT1_COUNT_LO⟩
def Fl.CIM_EVENT_XCHECK : Flag := ⟨F.CIM_EVENT_XCHECK, F.CIM_EVT_CNT1_COUNT_HI⟩
def Fl.CIM_EVENT_FOREIGN_INJ : Flag := ⟨F.CIM_EVENT_FOREIGN_INJ, F.CIM_EVT_CNT2_COUNT_LO⟩
def Fl.CIM_EVENT_COUNTER_RESTART : Flag := ⟨F.CIM_EVENT_COUNTER_RESTART, F.CIM_EVT_CNT2_COUNT_HI⟩
def Fl.SE_EVENT_TERM_SAT : Flag := ⟨F.SE_EVENT_TERM_SAT, F.SE_EVT_CNT0_COUNT_LO⟩
def Fl.SE_EVENT_ACC_SAT : Flag := ⟨F.SE_EVENT_ACC_SAT, F.SE_EVT_CNT0_COUNT_HI⟩
def Fl.SE_EVENT_OUT_SAT : Flag := ⟨F.SE_EVENT_OUT_SAT, F.SE_EVT_CNT1_COUNT_LO⟩
def Fl.SE_EVENT_CLAMP : Flag := ⟨F.SE_EVENT_CLAMP, F.SE_EVT_CNT1_COUNT_HI⟩
def Fl.SE_EVENT_OVERRUN : Flag := ⟨F.SE_EVENT_OVERRUN, F.SE_EVT_CNT2_COUNT_LO⟩
def Fl.SE_EVENT_INTEGRITY : Flag := ⟨F.SE_EVENT_INTEGRITY, F.SE_EVT_CNT2_COUNT_HI⟩
def Fl.SE_EVENT_CAP_DONE : Flag := ⟨F.SE_EVENT_CAP_DONE, F.SE_EVT_CNT3_COUNT_LO⟩
def Fl.SE_EVENT_CORR_DONE : Flag := ⟨F.SE_EVENT_CORR_DONE, F.SE_EVT_CNT3_COUNT_HI⟩
def Fl.EST_EVENT_SOC_UNCERTAIN : Flag := ⟨F.EST_EVENT_SOC_UNCERTAIN, F.EST_EVT_CNT0_COUNT_LO⟩
def Fl.EST_EVENT_REFERENCE : Flag := ⟨F.EST_EVENT_REFERENCE, F.EST_EVT_CNT0_COUNT_HI⟩
def Fl.EST_EVENT_CAP_UPDATE : Flag := ⟨F.EST_EVENT_CAP_UPDATE, F.EST_EVT_CNT1_COUNT_LO⟩
def Fl.EST_EVENT_CAP_OUTLIER : Flag := ⟨F.EST_EVENT_CAP_OUTLIER, F.EST_EVT_CNT1_COUNT_HI⟩
def Fl.EST_EVENT_WRITE_DONE : Flag := ⟨F.EST_EVENT_WRITE_DONE, F.EST_EVT_CNT2_COUNT_LO⟩
def Fl.EST_EVENT_WRITE_FAIL : Flag := ⟨F.EST_EVENT_WRITE_FAIL, F.EST_EVT_CNT2_COUNT_HI⟩
def Fl.EST_EVENT_LEARN_DEFAULT : Flag := ⟨F.EST_EVENT_LEARN_DEFAULT, F.EST_EVT_CNT3_COUNT_LO⟩
def Fl.EST_EVENT_SOC_JUMP : Flag := ⟨F.EST_EVENT_SOC_JUMP, F.EST_EVT_CNT3_COUNT_HI⟩
def Fl.THM_EVENT_SHUTDOWN : Flag := ⟨F.THM_EVENT_SHUTDOWN, F.THM_EVT_CNT0_COUNT_LO⟩
def Fl.THM_EVENT_SEG_HOT : Flag := ⟨F.THM_EVENT_SEG_HOT, F.THM_EVT_CNT0_COUNT_HI⟩
def Fl.THM_EVENT_COOL_FAULT : Flag := ⟨F.THM_EVENT_COOL_FAULT, F.THM_EVT_CNT1_COUNT_LO⟩
def Fl.THM_EVENT_TUNE_DONE : Flag := ⟨F.THM_EVENT_TUNE_DONE, F.THM_EVT_CNT1_COUNT_HI⟩
def Fl.MOT_EVENT_STALL0 : Flag := ⟨F.MOT_EVENT_STALL0, F.MOT_EVT_CNT0_AXIS0⟩
def Fl.MOT_EVENT_STALL1 : Flag := ⟨F.MOT_EVENT_STALL1, F.MOT_EVT_CNT0_AXIS1⟩
def Fl.MOT_EVENT_LIMIT0 : Flag := ⟨F.MOT_EVENT_LIMIT0, F.MOT_EVT_CNT1_AXIS0⟩
def Fl.MOT_EVENT_LIMIT1 : Flag := ⟨F.MOT_EVENT_LIMIT1, F.MOT_EVT_CNT1_AXIS1⟩
def Fl.MOT_EVENT_CHATTER0 : Flag := ⟨F.MOT_EVENT_CHATTER0, F.MOT_EVT_CNT2_AXIS0⟩
def Fl.MOT_EVENT_CHATTER1 : Flag := ⟨F.MOT_EVENT_CHATTER1, F.MOT_EVT_CNT2_AXIS1⟩
def Fl.MOT_EVENT_DEFERRED0 : Flag := ⟨F.MOT_EVENT_DEFERRED0, F.MOT_EVT_CNT3_AXIS0⟩
def Fl.MOT_EVENT_DEFERRED1 : Flag := ⟨F.MOT_EVENT_DEFERRED1, F.MOT_EVT_CNT3_AXIS1⟩
def Fl.MOT_EVENT_FAULT0 : Flag := ⟨F.MOT_EVENT_FAULT0, F.MOT_EVT_CNT4_AXIS0⟩
def Fl.MOT_EVENT_FAULT1 : Flag := ⟨F.MOT_EVENT_FAULT1, F.MOT_EVT_CNT4_AXIS1⟩
def Fl.MOT_EVENT_HOMED0 : Flag := ⟨F.MOT_EVENT_HOMED0, F.MOT_EVT_CNT5_AXIS0⟩
def Fl.MOT_EVENT_HOMED1 : Flag := ⟨F.MOT_EVENT_HOMED1, F.MOT_EVT_CNT5_AXIS1⟩
def Fl.CAN_EVENT_BUS_OFF (c : Nat) : Flag := ⟨(F.CAN_EVENT_BUS_OFF c), (F.CAN_EVT_CNT0_COUNT_LO c)⟩
def Fl.CAN_EVENT_ERR_PASSIVE (c : Nat) : Flag := ⟨(F.CAN_EVENT_ERR_PASSIVE c), (F.CAN_EVT_CNT0_COUNT_HI c)⟩
def Fl.CAN_EVENT_NO_PARTNER (c : Nat) : Flag := ⟨(F.CAN_EVENT_NO_PARTNER c), (F.CAN_EVT_CNT1_COUNT_LO c)⟩
def Fl.CAN_EVENT_RX_LOST (c : Nat) : Flag := ⟨(F.CAN_EVENT_RX_LOST c), (F.CAN_EVT_CNT1_COUNT_HI c)⟩
def Fl.CAN_EVENT_RX_OVR0 (c : Nat) : Flag := ⟨(F.CAN_EVENT_RX_OVR0 c), (F.CAN_EVT_CNT2_COUNT_LO c)⟩
def Fl.CAN_EVENT_RX_OVR1 (c : Nat) : Flag := ⟨(F.CAN_EVENT_RX_OVR1 c), (F.CAN_EVT_CNT2_COUNT_HI c)⟩
def Fl.CAN_EVENT_PROT_EXC (c : Nat) : Flag := ⟨(F.CAN_EVENT_PROT_EXC c), (F.CAN_EVT_CNT3_COUNT_LO c)⟩
def Fl.SB_EVENT_ARB_LOST (c : Nat) : Flag := ⟨(F.SB_EVENT_ARB_LOST c), (F.SB_EVT_CNT0_COUNT_LO c)⟩
def Fl.SB_EVENT_ARB_LOST_CONDITION (c : Nat) : Flag := ⟨(F.SB_EVENT_ARB_LOST_CONDITION c), (F.SB_EVT_CNT0_COUNT_HI c)⟩
def Fl.SB_EVENT_STRETCH_TO (c : Nat) : Flag := ⟨(F.SB_EVENT_STRETCH_TO c), (F.SB_EVT_CNT1_COUNT_LO c)⟩
def Fl.SB_EVENT_STUCK_SDA (c : Nat) : Flag := ⟨(F.SB_EVENT_STUCK_SDA c), (F.SB_EVT_CNT1_COUNT_HI c)⟩
def Fl.SB_EVENT_STUCK_SCL (c : Nat) : Flag := ⟨(F.SB_EVENT_STUCK_SCL c), (F.SB_EVT_CNT2_COUNT_LO c)⟩
def Fl.SB_EVENT_BUS_FAULT (c : Nat) : Flag := ⟨(F.SB_EVENT_BUS_FAULT c), (F.SB_EVT_CNT2_COUNT_HI c)⟩
def Fl.SB_EVENT_TGT_OVR (c : Nat) : Flag := ⟨(F.SB_EVENT_TGT_OVR c), (F.SB_EVT_CNT3_COUNT_LO c)⟩
def Fl.SB_EVENT_WAKE (c : Nat) : Flag := ⟨(F.SB_EVENT_WAKE c), (F.SB_EVT_CNT3_COUNT_HI c)⟩
def Fl.MBX_EVENT_REFUSED : Flag := ⟨F.MBX_EVENT_REFUSED, F.MBX_EVT_CNT0_COUNT_LO⟩
def Fl.MBX_EVENT_ABORT : Flag := ⟨F.MBX_EVENT_ABORT, F.MBX_EVT_CNT0_COUNT_HI⟩
def Fl.MBX_EVENT_BRIDGE_DOWN : Flag := ⟨F.MBX_EVENT_BRIDGE_DOWN, F.MBX_EVT_CNT1_COUNT_LO⟩
def Fl.REC_STATUS_OVERTAKEN : Flag := ⟨F.REC_STATUS_OVERTAKEN, F.REC_EVT_CNT0_COUNT_LO⟩
def Fl.REC_STATUS_HOLD_MERGED : Flag := ⟨F.REC_STATUS_HOLD_MERGED, F.REC_EVT_CNT0_COUNT_HI⟩
def Fl.UPD_EVENT_HEADER_REFUSED : Flag := ⟨F.UPD_EVENT_HEADER_REFUSED, F.UPD_EVT_CNT0_COUNT_LO⟩
def Fl.UPD_EVENT_CHUNK_BAD : Flag := ⟨F.UPD_EVENT_CHUNK_BAD, F.UPD_EVT_CNT0_COUNT_HI⟩
def Fl.UPD_EVENT_VERIFY_FAIL : Flag := ⟨F.UPD_EVENT_VERIFY_FAIL, F.UPD_EVT_CNT1_COUNT_LO⟩
def Fl.UPD_EVENT_ACTIVATED : Flag := ⟨F.UPD_EVENT_ACTIVATED, F.UPD_EVT_CNT1_COUNT_HI⟩
def Fl.UPD_EVENT_HANDBACK : Flag := ⟨F.UPD_EVENT_HANDBACK, F.UPD_EVT_CNT2_COUNT_LO⟩
def Fl.UPD_EVENT_FALLBACK : Flag := ⟨F.UPD_EVENT_FALLBACK, F.UPD_EVT_CNT2_COUNT_HI⟩
def Fl.UPD_EVENT_CONFIRMED : Flag := ⟨F.UPD_EVENT_CONFIRMED, F.UPD_EVT_CNT3_COUNT_LO⟩
def Fl.UPD_EVENT_SEG_FAIL : Flag := ⟨F.UPD_EVENT_SEG_FAIL, F.UPD_EVT_CNT3_COUNT_HI⟩
def Fl.SEC_EVENT_TAMPER : Flag := ⟨F.SEC_EVENT_TAMPER, F.SEC_EVT_CNT0_COUNT_LO⟩
def Fl.SEC_EVENT_AUTH_FAIL : Flag := ⟨F.SEC_EVENT_AUTH_FAIL, F.SEC_EVT_CNT0_COUNT_HI⟩
def Fl.SEC_EVENT_ROLE_DENIED : Flag := ⟨F.SEC_EVENT_ROLE_DENIED, F.SEC_EVT_CNT1_COUNT_LO⟩
def Fl.SEC_EVENT_ANCHOR_CHANGE : Flag := ⟨F.SEC_EVENT_ANCHOR_CHANGE, F.SEC_EVT_CNT1_COUNT_HI⟩
def Fl.UC_EVENT_SUBSTITUTED : Flag := ⟨F.UC_EVENT_SUBSTITUTED, F.UC_EVT_CNT0_COUNT_LO⟩
def Fl.UC_EVENT_EXHAUSTED : Flag := ⟨F.UC_EVENT_EXHAUSTED, F.UC_EVT_CNT0_COUNT_HI⟩
def Fl.UC_EVENT_RELOCATED : Flag := ⟨F.UC_EVENT_RELOCATED, F.UC_EVT_CNT1_COUNT_LO⟩
def Fl.UC_EVENT_NEEDED : Flag := ⟨F.UC_EVENT_NEEDED, F.UC_EVT_CNT1_COUNT_HI⟩
def Fl.BANK_EVENT_CLAMPED : Flag := ⟨F.BANK_EVENT_CLAMPED, F.BANK_EVT_CNT0_COUNT_LO⟩
def Fl.BANK_EVENT_LATE : Flag := ⟨F.BANK_EVENT_LATE, F.BANK_EVT_CNT0_COUNT_HI⟩
def Fl.BANK_EVENT_MISSED : Flag := ⟨F.BANK_EVENT_MISSED, F.BANK_EVT_CNT1_COUNT_LO⟩
def Fl.BANK_EVENT_GRANT_REFUSED : Flag := ⟨F.BANK_EVENT_GRANT_REFUSED, F.BANK_EVT_CNT1_COUNT_HI⟩
def Fl.BANK_EVENT_MASTER_LOST : Flag := ⟨F.BANK_EVENT_MASTER_LOST, F.BANK_EVT_CNT2_COUNT_LO⟩
def Fl.BANK_EVENT_IMBALANCE : Flag := ⟨F.BANK_EVENT_IMBALANCE, F.BANK_EVT_CNT2_COUNT_HI⟩
def Fl.BANK_EVENT_PERTURB_REFUSED : Flag := ⟨F.BANK_EVENT_PERTURB_REFUSED, F.BANK_EVT_CNT3_COUNT_LO⟩
def Fl.BANK_EVENT_RING_BREAK : Flag := ⟨F.BANK_EVENT_RING_BREAK, F.BANK_EVT_CNT3_COUNT_HI⟩
/-- Every W1C flag that has a counter in its block (R34, R35); the flags of CAN and SB for both of their instances. -/
def flagTable : List Flag :=
  [Fl.PWR_AUX_STATUS_AUX_DIP] ++
  [Fl.TIME_EVENT_LOCKED, Fl.TIME_EVENT_LOCK_LOST, Fl.TIME_EVENT_DEGRADED, Fl.TIME_EVENT_STEPPED, Fl.TIME_EVENT_PORT_SWITCH, Fl.TIME_EVENT_TO_LATE, Fl.TIME_EVENT_TI_OVF] ++
  [Fl.HRT_EVENT_COMMAND_BACKLOG, Fl.HRT_EVENT_FAILOVER, Fl.HRT_EVENT_PORT_DOWN, Fl.HRT_EVENT_PORT_KEYED, Fl.HRT_EVENT_TLM_DROP, Fl.HRT_EVENT_DOORBELL_BAD, Fl.HRT_EVENT_RING_FAULT, Fl.HRT_EVENT_EVENTS_HELD] ++
  [Fl.SEG_EVENT_CARD_LOST, Fl.SEG_EVENT_CARD_JOINED, Fl.SEG_EVENT_JOIN_FAIL, Fl.SEG_EVENT_RING_BREAK, Fl.SEG_EVENT_RING_WHOLE, Fl.SEG_EVENT_SPARE_SUBST, Fl.SEG_EVENT_RELABEL, Fl.SEG_EVENT_ALIGN_LOST, Fl.SEG_SENSE_EVENT_WIRE_FAULT, Fl.SEG_SENSE_EVENT_SUM_WIRE_FAULT, Fl.SEG_SENSE_EVENT_SENSE_LOSS, Fl.SEG_SENSE_EVENT_CMP_TRIP, Fl.SEG_SENSE_EVENT_CMP_TEST_FAIL, Fl.SEG_SENSE_EVENT_TONE_LOST, Fl.SEG_SENSE_EVENT_WIRE_INTERMITTENT, Fl.SEG_SENSE_EVENT_KEEPALIVE_LOW] ++
  [Fl.BAL_EVENT_SWITCH_FAULT, Fl.BAL_EVENT_CUTOFF, Fl.BAL_EVENT_THERM_STOP, Fl.BAL_EVENT_LEASE_EXPIRED, Fl.BAL_EVENT_RW_LIMIT, Fl.BAL_EVENT_CAMPAIGN_END] ++
  [Fl.CIM_EVENT_ISO_WARN, Fl.CIM_EVENT_ISO_ALARM, Fl.CIM_EVENT_HALL_FAULT, Fl.CIM_EVENT_XCHECK, Fl.CIM_EVENT_FOREIGN_INJ, Fl.CIM_EVENT_COUNTER_RESTART] ++
  [Fl.SE_EVENT_TERM_SAT, Fl.SE_EVENT_ACC_SAT, Fl.SE_EVENT_OUT_SAT, Fl.SE_EVENT_CLAMP, Fl.SE_EVENT_OVERRUN, Fl.SE_EVENT_INTEGRITY, Fl.SE_EVENT_CAP_DONE, Fl.SE_EVENT_CORR_DONE] ++
  [Fl.EST_EVENT_SOC_UNCERTAIN, Fl.EST_EVENT_REFERENCE, Fl.EST_EVENT_CAP_UPDATE, Fl.EST_EVENT_CAP_OUTLIER, Fl.EST_EVENT_WRITE_DONE, Fl.EST_EVENT_WRITE_FAIL, Fl.EST_EVENT_LEARN_DEFAULT, Fl.EST_EVENT_SOC_JUMP] ++
  [Fl.THM_EVENT_SHUTDOWN, Fl.THM_EVENT_SEG_HOT, Fl.THM_EVENT_COOL_FAULT, Fl.THM_EVENT_TUNE_DONE] ++
  [Fl.MOT_EVENT_STALL0, Fl.MOT_EVENT_STALL1, Fl.MOT_EVENT_LIMIT0, Fl.MOT_EVENT_LIMIT1, Fl.MOT_EVENT_CHATTER0, Fl.MOT_EVENT_CHATTER1, Fl.MOT_EVENT_DEFERRED0, Fl.MOT_EVENT_DEFERRED1, Fl.MOT_EVENT_FAULT0, Fl.MOT_EVENT_FAULT1, Fl.MOT_EVENT_HOMED0, Fl.MOT_EVENT_HOMED1] ++
  [Fl.CAN_EVENT_BUS_OFF 0, Fl.CAN_EVENT_ERR_PASSIVE 0, Fl.CAN_EVENT_NO_PARTNER 0, Fl.CAN_EVENT_RX_LOST 0, Fl.CAN_EVENT_RX_OVR0 0, Fl.CAN_EVENT_RX_OVR1 0, Fl.CAN_EVENT_PROT_EXC 0] ++
  [Fl.CAN_EVENT_BUS_OFF 1, Fl.CAN_EVENT_ERR_PASSIVE 1, Fl.CAN_EVENT_NO_PARTNER 1, Fl.CAN_EVENT_RX_LOST 1, Fl.CAN_EVENT_RX_OVR0 1, Fl.CAN_EVENT_RX_OVR1 1, Fl.CAN_EVENT_PROT_EXC 1] ++
  [Fl.SB_EVENT_ARB_LOST 0, Fl.SB_EVENT_ARB_LOST_CONDITION 0, Fl.SB_EVENT_STRETCH_TO 0, Fl.SB_EVENT_STUCK_SDA 0, Fl.SB_EVENT_STUCK_SCL 0, Fl.SB_EVENT_BUS_FAULT 0, Fl.SB_EVENT_TGT_OVR 0, Fl.SB_EVENT_WAKE 0] ++
  [Fl.SB_EVENT_ARB_LOST 1, Fl.SB_EVENT_ARB_LOST_CONDITION 1, Fl.SB_EVENT_STRETCH_TO 1, Fl.SB_EVENT_STUCK_SDA 1, Fl.SB_EVENT_STUCK_SCL 1, Fl.SB_EVENT_BUS_FAULT 1, Fl.SB_EVENT_TGT_OVR 1, Fl.SB_EVENT_WAKE 1] ++
  [Fl.MBX_EVENT_REFUSED, Fl.MBX_EVENT_ABORT, Fl.MBX_EVENT_BRIDGE_DOWN] ++
  [Fl.REC_STATUS_OVERTAKEN, Fl.REC_STATUS_HOLD_MERGED] ++
  [Fl.UPD_EVENT_HEADER_REFUSED, Fl.UPD_EVENT_CHUNK_BAD, Fl.UPD_EVENT_VERIFY_FAIL, Fl.UPD_EVENT_ACTIVATED, Fl.UPD_EVENT_HANDBACK, Fl.UPD_EVENT_FALLBACK, Fl.UPD_EVENT_CONFIRMED, Fl.UPD_EVENT_SEG_FAIL] ++
  [Fl.SEC_EVENT_TAMPER, Fl.SEC_EVENT_AUTH_FAIL, Fl.SEC_EVENT_ROLE_DENIED, Fl.SEC_EVENT_ANCHOR_CHANGE] ++
  [Fl.UC_EVENT_SUBSTITUTED, Fl.UC_EVENT_EXHAUSTED, Fl.UC_EVENT_RELOCATED, Fl.UC_EVENT_NEEDED] ++
  [Fl.BANK_EVENT_CLAMPED, Fl.BANK_EVENT_LATE, Fl.BANK_EVENT_MISSED, Fl.BANK_EVENT_GRANT_REFUSED, Fl.BANK_EVENT_MASTER_LOST, Fl.BANK_EVENT_IMBALANCE, Fl.BANK_EVENT_PERTURB_REFUSED, Fl.BANK_EVENT_RING_BREAK]
/-! ### The register table (R510–R512, R517) -/
def regRows_sys : List RegRow := [
  { base := 0x0, dims := [],
    fields := [{ lo := 0, width := 8, acc := .ro, reset := 26 },
      { lo := 8, width := 8, acc := .ro, reset := 0 },
      { lo := 16, width := 8, acc := .ro, reset := 0 },
      { lo := 24, width := 8, acc := .ro, reset := 1 }] },
  { base := 0x10, dims := [],
    fields := [{ lo := 0, width := 3, acc := .ro, reset := 1 },
      { lo := 3, width := 1, acc := .ro, reset := 0 },
      { lo := 4, width := 3, acc := .ro, reset := 1 },
      { lo := 7, width := 1, acc := .ro, reset := 0 },
      { lo := 16, width := 8, acc := .ro, reset := 255 }] },
  { base := 0x14, dims := [],
    fields := [{ lo := 0, width := 12, acc := .rw, reset := 900, min := 60, max := 3600, kept := true }] }]
def regRows_pwr : List RegRow := [
  { base := 0x10000, dims := [],
    fields := [{ lo := 0, width := 3, acc := .ro, reset := 0 },
      { lo := 4, width := 3, acc := .ro, reset := 0 }] },
  { base := 0x10004, dims := [],
    fields := [{ lo := 0, width := 32, acc := .rw, reset := 0 }] },
  { base := 0x10010, dims := [],
    fields := [{ lo := 0, width := 13, acc := .ro, reset := 8191 }] },
  { base := 0x10014, dims := [],
    fields := [{ lo := 0, width := 26, acc := .ro, reset := 0x3FFFFFF }] },
  { base := 0x10020, dims := [],
    fields := [{ lo := 0, width := 16, acc := .ro, reset := 0 },
      { lo := 16, width := 1, acc := .w1c, reset := 0 },
      { lo := 17, width := 1, acc := .ro, reset := 0 },
      { lo := 18, width := 1, acc := .ro, reset := 0 },
      { lo := 19, width := 1, acc := .ro, reset := 0 },
      { lo := 20, width := 1, acc := .ro, reset := 0 }] },
  { base := 0x10024, dims := [],
    fields := [{ lo := 0, width := 16, acc := .ro, reset := 0 }] },
  { base := 0x10030, dims := [],
    fields := [{ lo := 0, width := 3, acc := .ro, reset := 1 },
      { lo := 8, width := 8, acc := .ro, reset := 0 },
      { lo := 16, width := 16, acc := .ro, reset := 0 }] }]
def regRows_time_0 : List RegRow := [
  { base := 0x20000, dims := [],
    fields := [{ lo := 0, width := 1, acc := .rw, reset := 1, kept := true },
      { lo := 1, width := 1, acc := .rw, reset := 1, kept := true }] },
  { base := 0x20004, dims := [],
    fields := [{ lo := 0, width := 1, acc := .rw, reset := 0, kept := true },
      { lo := 1, width := 1, acc := .rw, reset := 0, kept := true },
      { lo := 2, width := 1, acc := .rw, reset := 0, kept := true },
      { lo := 3, width := 1, acc := .rw, reset := 0, kept := true },
      { lo := 4, width := 4, acc := .rw, reset := 3, min := 2, max := 10, kept := true },
      { lo := 8, width := 8, acc := .rw, reset := 0, kept := true }] },
  { base := 0x20008, dims := [],
    fields := [{ lo := 0, width := 17, acc := .rw, reset := 1000, min := 100, max := 100000, kept := true }] },
  { base := 0x2000c, dims := [],
    fields := [{ lo := 0, width := 17, acc := .rw, reset := 100, min := 50, max := 100000, kept := true },
      { lo := 17, width := 7, acc := .rw, reset := 5, min := 1, max := 100, kept := true },
      { lo := 24, width := 8, acc := .rw, reset := 10, min := 1, kept := true }] },
  { base := 0x20010, dims := [],
    fields := [{ lo := 0, width := 3, acc := .ro, reset := 0 },
      { lo := 3, width := 1, acc := .ro, reset := 0 },
      { lo := 4, width := 1, acc := .ro, reset := 0 },
      { lo := 5, width := 1, acc := .ro, reset := 0 },
      { lo := 6, width := 3, acc := .ro, reset := 0 }] },
  { base := 0x20014, dims := [],
    fields := [{ lo := 0, width := 32, acc := .ro, reset := 0 }] },
  { base := 0x20018, dims := [],
    fields := [{ lo := 0, width := 32, acc := .ro, reset := 0 }] },
  { base := 0x2001c, dims := [],
    fields := [{ lo := 0, width := 32, acc := .ro, reset := 0 }] },
  { base := 0x20020, dims := [],
    fields := [{ lo := 0, width := 32, acc := .ro, reset := 0 }] },
  { base := 0x20024, dims := [],
    fields := [{ lo := 0, width := 32, acc := .ro, reset := 0 }] },
  { base := 0x20028, dims := [],
    fields := [{ lo := 0, width := 32, acc := .ro, reset := 0 }] },
  { base := 0x2002c, dims := [],
    fields := [{ lo := 0, width := 32, acc := .ro, reset := 0 }] },
  { base := 0x20030, dims := [],
    fields := [{ lo := 0, width := 32, acc := .ro, reset := 0 }] },
  { base := 0x20034, dims := [],
    fields := [{ lo := 0, width := 32, acc := .ro, reset := 0 }] },
  { base := 0x20040, dims := [],
    fields := [{ lo := 0, width := 32, acc := .ro, reset := 0 }] },
  { base := 0x20044, dims := [],
    fields := [{ lo := 0, width := 32, acc := .ro, reset := 0 }] },
  { base := 0x20050, dims := [(4, 2)],
    fields := [{ lo := 0, width := 16, acc := .rw, reset := 0, kept := true }] },
  { base := 0x20060, dims := [],
    fields := [{ lo := 0, width := 1, acc := .w1c, reset := 0 },
      { lo := 1, width := 1, acc := .w1c, reset := 0 },
      { lo := 2, width := 1, acc := .w1c, reset := 0 },
      { lo := 3, width := 1, acc := .w1c, reset := 0 },
      { lo := 4, width := 1, acc := .w1c, reset := 0 },
      { lo := 5, width := 1, acc := .w1c, reset := 0 },
      { lo := 6, width := 1, acc := .w1c, reset := 0 }] },
  { base := 0x20064, dims := [],
    fields := [{ lo := 0, width := 16, acc := .ro, reset := 0 },
      { lo := 16, width := 16, acc := .ro, reset := 0 }] },
  { base := 0x20068, dims := [],
    fields := [{ lo := 0, width := 16, acc := .ro, reset := 0 },
      { lo := 16, width := 16, acc := .ro, reset := 0 }] },
  { base := 0x2006c, dims := [],
    fields := [{ lo := 0, width := 16, acc := .ro, reset := 0 },
      { lo := 16, width := 16, acc := .ro, reset := 0 }] },
  { base := 0x20070, dims := [],
    fields := [{ lo := 0, width := 16, acc := .ro, reset := 0 },
      { lo := 16, width := 16, acc := .ro, reset := 0 }] },
  { base := 0x20100, dims := [(32, 4)],
    fields := [{ lo := 0, width := 2, acc := .rw, reset := 0, readsAs := [(3, 3, 0)] },
      { lo := 2, width := 1, acc := .rw, reset := 0 },
      { lo := 3, width := 1, acc := .rw, reset := 0 },
      { lo := 4, width := 1, acc := .w1s, reset := 0 },
      { lo := 5, width := 1, acc := .w1s, reset := 0 },
      { lo := 6, width := 1, acc := .ro, reset := 0 }] },
  { base := 0x20104, dims := [(32, 4)],
    fields := [{ lo := 0, width := 32, acc := .rw, reset := 0 }] },
  { base := 0x20108, dims := [(32, 4)],
    fields := [{ lo := 0, width := 32, acc := .rw, reset := 0 }] }]
def regRows_time_1 : List RegRow := [
  { base := 0x2010c, dims := [(32, 4)],
    fields := [{ lo := 0, width := 32, acc := .rw, reset := 0 }] },
  { base := 0x20110, dims := [(32, 4)],
    fields := [{ lo := 0, width := 32, acc := .rw, reset := 0 }] },
  { base := 0x20114, dims := [(32, 4)],
    fields := [{ lo := 0, width := 32, acc := .rw, reset := 0, min := 8, max := 1000000000 }] },
  { base := 0x20118, dims := [(32, 4)],
    fields := [{ lo := 0, width := 16, acc := .ro, reset := 0 },
      { lo := 16, width := 16, acc := .ro, reset := 0 }] },
  { base := 0x20200, dims := [(32, 2)],
    fields := [{ lo := 0, width := 1, acc := .rw, reset := 0 },
      { lo := 1, width := 2, acc := .rw, reset := 1, readsAs := [(0, 0, 1)] },
      { lo := 8, width := 8, acc := .rw, reset := 0 },
      { lo := 16, width := 5, acc := .ro, reset := 0 }] },
  { base := 0x20204, dims := [(32, 2)],
    fields := [{ lo := 0, width := 32, acc := .ro, reset := 0 }] },
  { base := 0x20208, dims := [(32, 2)],
    fields := [{ lo := 0, width := 32, acc := .ro, reset := 0 }] },
  { base := 0x2020c, dims := [(32, 2)],
    fields := [{ lo := 0, width := 1, acc := .ro, reset := 0 },
      { lo := 16, width := 16, acc := .ro, reset := 0 }] }]
def regRows_hrt : List RegRow := [
  { base := 0x30000, dims := [],
    fields := [{ lo := 0, width := 1, acc := .rw, reset := 0 },
      { lo := 1, width := 1, acc := .rw, reset := 0, kept := true },
      { lo := 2, width := 1, acc := .rw, reset := 1, kept := true },
      { lo := 8, width := 8, acc := .rw, reset := 10, max := 100, kept := true }] },
  { base := 0x30004, dims := [],
    fields := [{ lo := 0, width := 1, acc := .ro, reset := 0 },
      { lo := 1, width := 1, acc := .ro, reset := 0 },
      { lo := 2, width := 1, acc := .ro, reset := 0 },
      { lo := 3, width := 1, acc := .ro, reset := 0 },
      { lo := 4, width := 4, acc := .ro, reset := 0 },
      { lo := 16, width := 16, acc := .ro, reset := 0 }] },
  { base := 0x30008, dims := [],
    fields := [{ lo := 0, width := 12, acc := .rw, reset := 0, max := 4094, kept := true },
      { lo := 12, width := 1, acc := .rw, reset := 0, kept := true },
      { lo := 13, width := 1, acc := .rw, reset := 1, kept := true },
      { lo := 14, width := 1, acc := .rw, reset := 1, kept := true }] },
  { base := 0x3000c, dims := [],
    fields := [{ lo := 0, width := 16, acc := .rw, reset := 500, min := 100, max := 10000, kept := true },
      { lo := 16, width := 4, acc := .rw, reset := 8, min := 1, kept := true },
      { lo := 24, width := 8, acc := .rw, reset := 64, min := 8, kept := true }] },
  { base := 0x30010, dims := [(4, 2)],
    fields := [{ lo := 0, width := 1, acc := .ro, reset := 0 },
      { lo := 1, width := 1, acc := .ro, reset := 0 },
      { lo := 2, width := 1, acc := .ro, reset := 0 },
      { lo := 3, width := 1, acc := .ro, reset := 0 },
      { lo := 4, width := 1, acc := .ro, reset := 0 },
      { lo := 5, width := 1, acc := .ro, reset := 0 },
      { lo := 6, width := 1, acc := .ro, reset := 0 },
      { lo := 7, width := 1, acc := .ro, reset := 0 },
      { lo := 8, width := 5, acc := .ro, reset := 0 },
      { lo := 16, width := 16, acc := .ro, reset := 0 }] },
  { base := 0x30018, dims := [],
    fields := [{ lo := 0, width := 4, acc := .rw, reset := 0 }] },
  { base := 0x3001c, dims := [],
    fields := [{ lo := 0, width := 32, acc := .rw, reset := 0 }] },
  { base := 0x30020, dims := [],
    fields := [{ lo := 0, width := 32, acc := .rw, reset := 0 }] },
  { base := 0x30024, dims := [],
    fields := [{ lo := 0, width := 7, acc := .rw, reset := 10, max := 100, readsAs := [(0, 0, 1)], kept := true }] },
  { base := 0x30028, dims := [],
    fields := [{ lo := 0, width := 16, acc := .ro, reset := 0 },
      { lo := 16, width := 16, acc := .ro, reset := 0 }] },
  { base := 0x30030, dims := [],
    fields := [{ lo := 0, width := 1, acc := .w1c, reset := 0 },
      { lo := 1, width := 1, acc := .w1c, reset := 0 },
      { lo := 2, width := 1, acc := .w1c, reset := 0 },
      { lo := 3, width := 1, acc := .w1c, reset := 0 },
      { lo := 4, width := 1, acc := .w1c, reset := 0 },
      { lo := 5, width := 1, acc := .w1c, reset := 0 },
      { lo := 6, width := 1, acc := .w1c, reset := 0 },
      { lo := 7, width := 1, acc := .w1c, reset := 0 }] },
  { base := 0x30034, dims := [],
    fields := [{ lo := 0, width := 16, acc := .ro, reset := 0 },
      { lo := 16, width := 16, acc := .ro, reset := 0 }] },
  { base := 0x30038, dims := [],
    fields := [{ lo := 0, width := 16, acc := .ro, reset := 0 },
      { lo := 16, width := 16, acc := .ro, reset := 0 }] },
  { base := 0x3003c, dims := [],
    fields := [{ lo := 0, width := 16, acc := .ro, reset := 0 },
      { lo := 16, width := 16, acc := .ro, reset := 0 }] },
  { base := 0x30040, dims := [],
    fields := [{ lo := 0, width := 16, acc := .ro, reset := 0 },
      { lo := 16, width := 16, acc := .ro, reset := 0 }] },
  { base := 0x30100, dims := [(8, 16)],
    fields := [{ lo := 0, width := 32, acc := .rw, reset := 0 }] },
  { base := 0x30104, dims := [(8, 16)],
    fields := [{ lo := 0, width := 1, acc := .rw, reset := 0 },
      { lo := 1, width := 1, acc := .rw, reset := 0 }] },
  { base := 0x30200, dims := [(32, 16)],
    fields := [{ lo := 0, width := 1, acc := .rw, reset := 0 },
      { lo := 4, width := 4, acc := .rw, reset := 0 },
      { lo := 8, width := 5, acc := .rw, reset := 4, min := 4, max := 16 },
      { lo := 16, width := 8, acc := .rw, reset := 0 }] },
  { base := 0x30204, dims := [(32, 16)],
    fields := [{ lo := 0, width := 32, acc := .rw, reset := 0 }] },
  { base := 0x30208, dims := [(32, 16)],
    fields := [{ lo := 0, width := 32, acc := .rw, reset := 0 }] },
  { base := 0x3020c, dims := [(32, 16)],
    fields := [{ lo := 0, width := 16, acc := .rw, reset := 0 }] },
  { base := 0x30210, dims := [(32, 16)],
    fields := [{ lo := 0, width := 4, acc := .rw, reset := 0 },
      { lo := 4, width := 4, acc := .rw, reset := 0 },
      { lo := 8, width := 8, acc := .rw, reset := 1, readsAs := [(0, 0, 1)] },
      { lo := 16, width := 9, acc := .rw, reset := 0 }] },
  { base := 0x30214, dims := [(32, 16)],
    fields := [{ lo := 0, width := 10, acc := .rw, reset := 0 }] },
  { base := 0x30218, dims := [(32, 16)],
    fields := [{ lo := 0, width := 32, acc := .ro, reset := 0 }] },
  { base := 0x3021c, dims := [(32, 16)],
    fields := [{ lo := 0, width := 32, acc := .ro, reset := 0 }] }]
def regRows_seg_0 : List RegRow := [
  { base := 0x40000, dims := [],
    fields := [{ lo := 0, width := 12, acc := .rw, reset := 15 }] },
  { base := 0x40004, dims := [],
    fields := [{ lo := 0, width := 1, acc := .rw, reset := 0, kept := true },
      { lo := 1, width := 1, acc := .ro, reset := 0 }] },
  { base := 0x40008, dims := [],
    fields := [{ lo := 0, width := 8, acc := .rw, reset := 4, readsAs := [(0, 0, 1)] },
      { lo := 8, width := 8, acc := .rw, reset := 30 }] },
  { base := 0x40010, dims := [],
    fields := [{ lo := 0, width := 1, acc := .w1c, reset := 0 },
      { lo := 1, width := 1, acc := .w1c, reset := 0 },
      { lo := 2, width := 1, acc := .w1c, reset := 0 },
      { lo := 3, width := 1, acc := .w1c, reset := 0 },
      { lo := 4, width := 1, acc := .w1c, reset := 0 },
      { lo := 5, width := 1, acc := .w1c, reset := 0 },
      { lo := 6, width := 1, acc := .w1c, reset := 0 },
      { lo := 7, width := 1, acc := .w1c, reset := 0 }] },
  { base := 0x40014, dims := [],
    fields := [{ lo := 0, width := 16, acc := .ro, reset := 0 },
      { lo := 16, width := 16, acc := .ro, reset := 0 }] },
  { base := 0x40018, dims := [],
    fields := [{ lo := 0, width := 16, acc := .ro, reset := 0 },
      { lo := 16, width := 16, acc := .ro, reset := 0 }] },
  { base := 0x4001c, dims := [],
    fields := [{ lo := 0, width := 16, acc := .ro, reset := 0 },
      { lo := 16, width := 16, acc := .ro, reset := 0 }] },
  { base := 0x40020, dims := [],
    fields := [{ lo := 0, width := 16, acc := .ro, reset := 0 },
      { lo := 16, width := 16, acc := .ro, reset := 0 }] },
  { base := 0x40024, dims := [],
    fields := [{ lo := 0, width := 1, acc := .ro, reset := 0 },
      { lo := 1, width := 1, acc := .ro, reset := 0 },
      { lo := 16, width := 16, acc := .ro, reset := 0 }] },
  { base := 0x40028, dims := [],
    fields := [{ lo := 0, width := 32, acc := .ro, reset := 0 }] },
  { base := 0x4002c, dims := [],
    fields := [{ lo := 0, width := 32, acc := .ro, reset := 0 }] },
  { base := 0x40030, dims := [],
    fields := [{ lo := 0, width := 1, acc := .ro, reset := 0 },
      { lo := 1, width := 1, acc := .ro, reset := 0 },
      { lo := 2, width := 1, acc := .ro, reset := 0 },
      { lo := 3, width := 1, acc := .ro, reset := 0 },
      { lo := 8, width := 6, acc := .ro, reset := 63 },
      { lo := 16, width := 8, acc := .ro, reset := 0 }] },
  { base := 0x40034, dims := [],
    fields := [{ lo := 0, width := 16, acc := .ro, reset := 0 },
      { lo := 16, width := 16, acc := .ro, reset := 0 }] },
  { base := 0x40038, dims := [],
    fields := [{ lo := 0, width := 16, acc := .ro, reset := 0 },
      { lo := 16, width := 16, acc := .ro, reset := 0 }] },
  { base := 0x40040, dims := [],
    fields := [{ lo := 0, width := 8, acc := .ro, reset := 255 },
      { lo := 8, width := 8, acc := .ro, reset := 0 },
      { lo := 16, width := 5, acc := .ro, reset := 8 },
      { lo := 24, width := 8, acc := .ro, reset := 5 }] },
  { base := 0x40044, dims := [],
    fields := [{ lo := 0, width := 3, acc := .ro, reset := 3 },
      { lo := 8, width := 8, acc := .ro, reset := 20 },
      { lo := 16, width := 8, acc := .ro, reset := 25 }] },
  { base := 0x40050, dims := [],
    fields := [{ lo := 0, width := 1, acc := .w1c, reset := 0 },
      { lo := 1, width := 1, acc := .w1c, reset := 0 },
      { lo := 2, width := 1, acc := .w1c, reset := 0 },
      { lo := 3, width := 1, acc := .w1c, reset := 0 },
      { lo := 4, width := 1, acc := .w1c, reset := 0 },
      { lo := 5, width := 1, acc := .w1c, reset := 0 },
      { lo := 6, width := 1, acc := .w1c, reset := 0 },
      { lo := 7, width := 1, acc := .w1c, reset := 0 }] },
  { base := 0x40054, dims := [],
    fields := [{ lo := 0, width := 16, acc := .ro, reset := 0 },
      { lo := 16, width := 16, acc := .ro, reset := 0 }] },
  { base := 0x40058, dims := [],
    fields := [{ lo := 0, width := 16, acc := .ro, reset := 0 },
      { lo := 16, width := 16, acc := .ro, reset := 0 }] },
  { base := 0x4005c, dims := [],
    fields := [{ lo := 0, width := 16, acc := .ro, reset := 0 },
      { lo := 16, width := 16, acc := .ro, reset := 0 }] },
  { base := 0x40060, dims := [],
    fields := [{ lo := 0, width := 16, acc := .ro, reset := 0 },
      { lo := 16, width := 16, acc := .ro, reset := 0 }] },
  { base := 0x40064, dims := [],
    fields := [{ lo := 0, width := 1, acc := .ro, reset := 0 },
      { lo := 1, width := 1, acc := .ro, reset := 0 },
      { lo := 6, width := 26, acc := .ro, reset := 0 }] },
  { base := 0x40100, dims := [(4, 26)],
    fields := [{ lo := 0, width := 3, acc := .ro, reset := 0 },
      { lo := 3, width := 1, acc := .ro, reset := 0 },
      { lo := 4, width := 5, acc := .ro, reset := 0 },
      { lo := 9, width := 1, acc := .ro, reset := 0 },
      { lo := 10, width := 1, acc := .ro, reset := 0 },
      { lo := 16, width := 8, acc := .ro, reset := 0 }] },
  { base := 0x40200, dims := [(4, 26)],
    fields := [{ lo := 0, width := 16, acc := .ro, reset := 0 },
      { lo := 16, width := 16, acc := .ro, reset := 0 }] },
  { base := 0x40300, dims := [(4, 26)],
    fields := [{ lo := 0, width := 17, acc := .ro, reset := 0 },
      { lo := 17, width := 1, acc := .ro, reset := 0 },
      { lo := 18, width := 1, acc := .ro, reset := 0 },
      { lo := 19, width := 1, acc := .ro, reset := 0 },
      { lo := 20, width := 1, acc := .ro, reset := 0 },
      { lo := 21, width := 1, acc := .ro, reset := 0 }] }]
def regRows_seg_1 : List RegRow := [
  { base := 0x40400, dims := [(4, 26)],
    fields := [{ lo := 0, width := 16, acc := .ro, reset := 0 },
      { lo := 16, width := 16, acc := .ro, reset := 0 }] }]
def regRows_bal : List RegRow := [
  { base := 0x50000, dims := [],
    fields := [{ lo := 0, width := 1, acc := .rw, reset := 0, kept := true },
      { lo := 1, width := 4, acc := .rw, reset := 6, readsAs := [(0, 0, 6), (9, 15, 6)] },
      { lo := 5, width := 1, acc := .rw, reset := 0 },
      { lo := 8, width := 8, acc := .rw, reset := 50, min := 10, max := 100 }] },
  { base := 0x50004, dims := [],
    fields := [{ lo := 0, width := 1, acc := .ro, reset := 0 },
      { lo := 1, width := 2, acc := .ro, reset := 0 },
      { lo := 3, width := 1, acc := .ro, reset := 0 },
      { lo := 4, width := 1, acc := .ro, reset := 0 },
      { lo := 5, width := 1, acc := .ro, reset := 0 },
      { lo := 8, width := 7, acc := .ro, reset := 0 }] },
  { base := 0x50010, dims := [],
    fields := [{ lo := 0, width := 1, acc := .w1c, reset := 0 },
      { lo := 1, width := 1, acc := .w1c, reset := 0 },
      { lo := 2, width := 1, acc := .w1c, reset := 0 },
      { lo := 3, width := 1, acc := .w1c, reset := 0 },
      { lo := 4, width := 1, acc := .w1c, reset := 0 },
      { lo := 5, width := 1, acc := .w1c, reset := 0 }] },
  { base := 0x50014, dims := [],
    fields := [{ lo := 0, width := 16, acc := .ro, reset := 0 },
      { lo := 16, width := 16, acc := .ro, reset := 0 }] },
  { base := 0x50018, dims := [],
    fields := [{ lo := 0, width := 16, acc := .ro, reset := 0 },
      { lo := 16, width := 16, acc := .ro, reset := 0 }] },
  { base := 0x5001c, dims := [],
    fields := [{ lo := 0, width := 16, acc := .ro, reset := 0 },
      { lo := 16, width := 16, acc := .ro, reset := 0 }] },
  { base := 0x50020, dims := [],
    fields := [{ lo := 0, width := 7, acc := .rw, reset := 0, readsAs := [(65, 127, 64)] },
      { lo := 8, width := 8, acc := .rw, reset := 80, min := 60, max := 100 },
      { lo := 16, width := 8, acc := .rw, reset := 90 }] },
  { base := 0x50100, dims := [(16, 26), (4, 4)],
    fields := [{ lo := 0, width := 7, acc := .ro, reset := 0 },
      { lo := 8, width := 7, acc := .ro, reset := 0 },
      { lo := 16, width := 7, acc := .ro, reset := 0 },
      { lo := 24, width := 7, acc := .ro, reset := 0 }] },
  { base := 0x50400, dims := [(36, 26), (4, 8)],
    fields := [{ lo := 0, width := 16, acc := .ro, reset := 65535 },
      { lo := 16, width := 16, acc := .ro, reset := 65535 }] },
  { base := 0x50420, dims := [(36, 26)],
    fields := [{ lo := 0, width := 16, acc := .ro, reset := 65535 }] },
  { base := 0x50800, dims := [(4, 26)],
    fields := [{ lo := 0, width := 16, acc := .ro, reset := 65535 },
      { lo := 16, width := 16, acc := .ro, reset := 0 }] }]
def regRows_cim : List RegRow := [
  { base := 0x60000, dims := [],
    fields := [{ lo := 0, width := 16, acc := .ro, reset := 250 },
      { lo := 16, width := 1, acc := .ro, reset := 0 },
      { lo := 17, width := 1, acc := .ro, reset := 0 },
      { lo := 24, width := 8, acc := .ro, reset := 0 }] },
  { base := 0x60004, dims := [],
    fields := [{ lo := 0, width := 16, acc := .ro, reset := 2000 },
      { lo := 16, width := 1, acc := .ro, reset := 0 }] },
  { base := 0x60008, dims := [],
    fields := [{ lo := 0, width := 1, acc := .ro, reset := 0 },
      { lo := 1, width := 1, acc := .ro, reset := 0 }] },
  { base := 0x60010, dims := [],
    fields := [{ lo := 0, width := 32, acc := .ro, reset := 2147483648 }] },
  { base := 0x60014, dims := [],
    fields := [{ lo := 0, width := 32, acc := .ro, reset := 2147483648 }] },
  { base := 0x60018, dims := [],
    fields := [{ lo := 0, width := 32, acc := .ro, reset := 0 }] },
  { base := 0x6001c, dims := [],
    fields := [{ lo := 0, width := 32, acc := .ro, reset := 0 }] },
  { base := 0x60020, dims := [],
    fields := [{ lo := 0, width := 32, acc := .ro, reset := 2147483648 }] },
  { base := 0x60030, dims := [],
    fields := [{ lo := 0, width := 16, acc := .rw, reset := 500, min := 10, max := 50000, kept := true },
      { lo := 16, width := 16, acc := .rw, reset := 100, min := 10, max := 50000, kept := true }] },
  { base := 0x60034, dims := [],
    fields := [{ lo := 0, width := 1, acc := .rw, reset := 1 },
      { lo := 1, width := 1, acc := .rw, reset := 0 },
      { lo := 2, width := 1, acc := .rw, reset := 1 },
      { lo := 8, width := 5, acc := .rw, reset := 20, max := 20, readsAs := [(0, 0, 1)] }] },
  { base := 0x60040, dims := [],
    fields := [{ lo := 0, width := 32, acc := .ro, reset := 4294967295 }] },
  { base := 0x60044, dims := [],
    fields := [{ lo := 0, width := 32, acc := .ro, reset := 4294967295 }] },
  { base := 0x60048, dims := [],
    fields := [{ lo := 0, width := 32, acc := .ro, reset := 4294967295 }] },
  { base := 0x6004c, dims := [],
    fields := [{ lo := 0, width := 32, acc := .ro, reset := 4294967295 }] },
  { base := 0x60050, dims := [],
    fields := [{ lo := 0, width := 2, acc := .ro, reset := 0 },
      { lo := 2, width := 1, acc := .ro, reset := 0 },
      { lo := 3, width := 1, acc := .ro, reset := 0 },
      { lo := 4, width := 1, acc := .ro, reset := 0 },
      { lo := 5, width := 1, acc := .ro, reset := 0 },
      { lo := 6, width := 1, acc := .ro, reset := 0 },
      { lo := 7, width := 1, acc := .ro, reset := 0 },
      { lo := 16, width := 16, acc := .ro, reset := 65535 }] },
  { base := 0x60060, dims := [],
    fields := [{ lo := 0, width := 1, acc := .w1c, reset := 0 },
      { lo := 1, width := 1, acc := .w1c, reset := 0 },
      { lo := 2, width := 1, acc := .w1c, reset := 0 },
      { lo := 3, width := 1, acc := .w1c, reset := 0 },
      { lo := 4, width := 1, acc := .w1c, reset := 0 },
      { lo := 5, width := 1, acc := .w1c, reset := 0 }] },
  { base := 0x60064, dims := [],
    fields := [{ lo := 0, width := 16, acc := .ro, reset := 0 },
      { lo := 16, width := 16, acc := .ro, reset := 0 }] },
  { base := 0x60068, dims := [],
    fields := [{ lo := 0, width := 16, acc := .ro, reset := 0 },
      { lo := 16, width := 16, acc := .ro, reset := 0 }] },
  { base := 0x6006c, dims := [],
    fields := [{ lo := 0, width := 16, acc := .ro, reset := 0 },
      { lo := 16, width := 16, acc := .ro, reset := 0 }] }]
def regRows_se : List RegRow := [
  { base := 0x70000, dims := [],
    fields := [{ lo := 0, width := 1, acc := .ro, reset := 0 },
      { lo := 1, width := 1, acc := .ro, reset := 0 },
      { lo := 2, width := 1, acc := .ro, reset := 0 },
      { lo := 3, width := 1, acc := .ro, reset := 0 },
      { lo := 4, width := 1, acc := .ro, reset := 0 },
      { lo := 5, width := 1, acc := .ro, reset := 0 },
      { lo := 6, width := 2, acc := .ro, reset := 0 },
      { lo := 16, width := 16, acc := .ro, reset := 0 }] },
  { base := 0x70004, dims := [],
    fields := [{ lo := 0, width := 16, acc := .ro, reset := 0 },
      { lo := 16, width := 16, acc := .ro, reset := 0 }] },
  { base := 0x70008, dims := [],
    fields := [{ lo := 0, width := 16, acc := .ro, reset := 0 }] },
  { base := 0x7000c, dims := [],
    fields := [{ lo := 0, width := 32, acc := .ro, reset := 0 }] },
  { base := 0x70010, dims := [],
    fields := [{ lo := 0, width := 32, acc := .ro, reset := 0 }] },
  { base := 0x70014, dims := [],
    fields := [{ lo := 0, width := 3, acc := .rw, reset := 0 }] },
  { base := 0x70020, dims := [],
    fields := [{ lo := 0, width := 1, acc := .w1c, reset := 0 },
      { lo := 1, width := 1, acc := .w1c, reset := 0 },
      { lo := 2, width := 1, acc := .w1c, reset := 0 },
      { lo := 3, width := 1, acc := .w1c, reset := 0 },
      { lo := 4, width := 1, acc := .w1c, reset := 0 },
      { lo := 5, width := 1, acc := .w1c, reset := 0 },
      { lo := 6, width := 1, acc := .w1c, reset := 0 },
      { lo := 7, width := 1, acc := .w1c, reset := 0 }] },
  { base := 0x70024, dims := [],
    fields := [{ lo := 0, width := 16, acc := .ro, reset := 0 },
      { lo := 16, width := 16, acc := .ro, reset := 0 }] },
  { base := 0x70028, dims := [],
    fields := [{ lo := 0, width := 16, acc := .ro, reset := 0 },
      { lo := 16, width := 16, acc := .ro, reset := 0 }] },
  { base := 0x7002c, dims := [],
    fields := [{ lo := 0, width := 16, acc := .ro, reset := 0 },
      { lo := 16, width := 16, acc := .ro, reset := 0 }] },
  { base := 0x70030, dims := [],
    fields := [{ lo := 0, width := 16, acc := .ro, reset := 0 },
      { lo := 16, width := 16, acc := .ro, reset := 0 }] },
  { base := 0x70040, dims := [],
    fields := [{ lo := 0, width := 3, acc := .ro, reset := 0 },
      { lo := 3, width := 1, acc := .ro, reset := 0 },
      { lo := 4, width := 8, acc := .ro, reset := 0 }] },
  { base := 0x70044, dims := [],
    fields := [{ lo := 0, width := 32, acc := .ro, reset := 0 }] },
  { base := 0x70048, dims := [],
    fields := [{ lo := 0, width := 32, acc := .ro, reset := 0 }] },
  { base := 0x7004c, dims := [],
    fields := [{ lo := 0, width := 32, acc := .ro, reset := 0 }] },
  { base := 0x70050, dims := [],
    fields := [{ lo := 0, width := 32, acc := .ro, reset := 0 }] },
  { base := 0x70054, dims := [],
    fields := [{ lo := 0, width := 32, acc := .ro, reset := 0 }] },
  { base := 0x70058, dims := [],
    fields := [{ lo := 0, width := 32, acc := .ro, reset := 0 }] },
  { base := 0x70060, dims := [],
    fields := [{ lo := 0, width := 4, acc := .ro, reset := 0 },
      { lo := 4, width := 1, acc := .ro, reset := 0 },
      { lo := 5, width := 1, acc := .ro, reset := 0 },
      { lo := 16, width := 16, acc := .ro, reset := 0 }] },
  { base := 0x70064, dims := [],
    fields := [{ lo := 0, width := 32, acc := .ro, reset := 0 }] },
  { base := 0x70068, dims := [],
    fields := [{ lo := 0, width := 32, acc := .ro, reset := 0 }] },
  { base := 0x70080, dims := [],
    fields := [{ lo := 0, width := 8, acc := .ro, reset := 0 },
      { lo := 8, width := 12, acc := .ro, reset := 0 },
      { lo := 20, width := 12, acc := .ro, reset := 500 }] },
  { base := 0x700a0, dims := [(4, 8)],
    fields := [{ lo := 0, width := 32, acc := .ro, reset := 0 }] },
  { base := 0x70100, dims := [(4, 16)],
    fields := [{ lo := 0, width := 2, acc := .ro, reset := 0 },
      { lo := 2, width := 1, acc := .ro, reset := 0 },
      { lo := 16, width := 16, acc := .ro, reset := 0 }] },
  { base := 0x70200, dims := [(4, 16)],
    fields := [{ lo := 0, width := 32, acc := .rw, reset := 0 }] }]
def regRows_est : List RegRow := [
  { base := 0x80000, dims := [],
    fields := [{ lo := 0, width := 1, acc := .rw, reset := 0, kept := true },
      { lo := 1, width := 1, acc := .ro, reset := 0 },
      { lo := 16, width := 16, acc := .rw, reset := 6249, min := 1, kept := true }] },
  { base := 0x80004, dims := [],
    fields := [{ lo := 0, width := 10, acc := .rw, reset := 200, max := 1000 },
      { lo := 10, width := 10, acc := .rw, reset := 200, max := 1000 },
      { lo := 20, width := 8, acc := .rw, reset := 10 }] },
  { base := 0x80008, dims := [],
    fields := [{ lo := 0, width := 8, acc := .rw, reset := 30 },
      { lo := 8, width := 8, acc := .rw, reset := 10 },
      { lo := 16, width := 8, acc := .rw, reset := 30 },
      { lo := 24, width := 8, acc := .rw, reset := 25 }] },
  { base := 0x8000c, dims := [],
    fields := [{ lo := 0, width := 8, acc := .rw, reset := 10, min := 1, max := 10 },
      { lo := 8, width := 8, acc := .rw, reset := 50, min := 1, max := 200 }] },
  { base := 0x80010, dims := [],
    fields := [{ lo := 0, width := 1, acc := .ro, reset := 0 },
      { lo := 1, width := 1, acc := .ro, reset := 0 },
      { lo := 2, width := 1, acc := .ro, reset := 0 },
      { lo := 3, width := 1, acc := .ro, reset := 0 },
      { lo := 4, width := 1, acc := .ro, reset := 0 },
      { lo := 5, width := 1, acc := .ro, reset := 0 },
      { lo := 6, width := 1, acc := .ro, reset := 0 },
      { lo := 16, width := 9, acc := .ro, reset := 0 }] },
  { base := 0x80020, dims := [],
    fields := [{ lo := 0, width := 1, acc := .w1c, reset := 0 },
      { lo := 1, width := 1, acc := .w1c, reset := 0 },
      { lo := 2, width := 1, acc := .w1c, reset := 0 },
      { lo := 3, width := 1, acc := .w1c, reset := 0 },
      { lo := 4, width := 1, acc := .w1c, reset := 0 },
      { lo := 5, width := 1, acc := .w1c, reset := 0 },
      { lo := 6, width := 1, acc := .w1c, reset := 0 },
      { lo := 7, width := 1, acc := .w1c, reset := 0 }] },
  { base := 0x80024, dims := [],
    fields := [{ lo := 0, width := 16, acc := .ro, reset := 0 },
      { lo := 16, width := 16, acc := .ro, reset := 0 }] },
  { base := 0x80028, dims := [],
    fields := [{ lo := 0, width := 16, acc := .ro, reset := 0 },
      { lo := 16, width := 16, acc := .ro, reset := 0 }] },
  { base := 0x8002c, dims := [],
    fields := [{ lo := 0, width := 16, acc := .ro, reset := 0 },
      { lo := 16, width := 16, acc := .ro, reset := 0 }] },
  { base := 0x80030, dims := [],
    fields := [{ lo := 0, width := 16, acc := .ro, reset := 0 },
      { lo := 16, width := 16, acc := .ro, reset := 0 }] },
  { base := 0x80040, dims := [],
    fields := [{ lo := 0, width := 16, acc := .ro, reset := 65535 },
      { lo := 16, width := 16, acc := .ro, reset := 65535 }] },
  { base := 0x80044, dims := [],
    fields := [{ lo := 0, width := 16, acc := .ro, reset := 65535 },
      { lo := 16, width := 16, acc := .ro, reset := 65535 }] },
  { base := 0x80048, dims := [],
    fields := [{ lo := 0, width := 16, acc := .ro, reset := 65535 },
      { lo := 16, width := 16, acc := .ro, reset := 65535 }] },
  { base := 0x80050, dims := [],
    fields := [{ lo := 0, width := 16, acc := .rw, reset := 25000, kept := true },
      { lo := 16, width := 16, acc := .rw, reset := 36500, kept := true }] },
  { base := 0x80054, dims := [],
    fields := [{ lo := 0, width := 16, acc := .rw, reset := 625, kept := true },
      { lo := 16, width := 16, acc := .rw, reset := 312, kept := true }] },
  { base := 0x80058, dims := [],
    fields := [{ lo := 0, width := 8, acc := .rw, reset := 55, kept := true },
      { lo := 8, width := 8, acc := .rw, reset := 0, kept := true }] },
  { base := 0x80060, dims := [(4, 4)],
    fields := [{ lo := 0, width := 32, acc := .ro, reset := 0 }] },
  { base := 0x80070, dims := [(4, 4)],
    fields := [{ lo := 0, width := 32, acc := .ro, reset := 0 }] },
  { base := 0x80080, dims := [(4, 4)],
    fields := [{ lo := 0, width := 32, acc := .ro, reset := 0 }] },
  { base := 0x80090, dims := [(4, 4)],
    fields := [{ lo := 0, width := 32, acc := .ro, reset := 0 }] },
  { base := 0x800a0, dims := [],
    fields := [{ lo := 0, width := 16, acc := .ro, reset := 34952 },
      { lo := 16, width := 16, acc := .ro, reset := 34952 }] },
  { base := 0x800a4, dims := [],
    fields := [{ lo := 0, width := 9, acc := .ro, reset := 0 },
      { lo := 16, width := 9, acc := .ro, reset := 0 }] },
  { base := 0x800b0, dims := [],
    fields := [{ lo := 0, width := 32, acc := .ro, reset := 0 }] }]
def regRows_safe : List RegRow := [
  { base := 0x90000, dims := [],
    fields := [{ lo := 0, width := 1, acc := .ro, reset := 0 },
      { lo := 1, width := 1, acc := .ro, reset := 0 },
      { lo := 2, width := 1, acc := .ro, reset := 0 },
      { lo := 3, width := 1, acc := .ro, reset := 0 },
      { lo := 4, width := 1, acc := .ro, reset := 0 },
      { lo := 5, width := 1, acc := .ro, reset := 0 },
      { lo := 6, width := 1, acc := .ro, reset := 0 },
      { lo := 7, width := 1, acc := .ro, reset := 0 },
      { lo := 8, width := 1, acc := .ro, reset := 0 },
      { lo := 9, width := 1, acc := .ro, reset := 0 },
      { lo := 10, width := 1, acc := .ro, reset := 0 },
      { lo := 11, width := 1, acc := .ro, reset := 0 },
      { lo := 12, width := 1, acc := .ro, reset := 0 },
      { lo := 13, width := 1, acc := .ro, reset := 0 },
      { lo := 14, width := 1, acc := .ro, reset := 0 },
      { lo := 15, width := 1, acc := .ro, reset := 0 },
      { lo := 16, width := 1, acc := .ro, reset := 0 },
      { lo := 17, width := 1, acc := .ro, reset := 0 },
      { lo := 18, width := 1, acc := .ro, reset := 0 },
      { lo := 19, width := 1, acc := .ro, reset := 0 }] },
  { base := 0x90004, dims := [],
    fields := [{ lo := 0, width := 8, acc := .ro, reset := 0 },
      { lo := 8, width := 8, acc := .ro, reset := 0 },
      { lo := 16, width := 2, acc := .ro, reset := 0 },
      { lo := 24, width := 8, acc := .ro, reset := 0 }] },
  { base := 0x90008, dims := [],
    fields := [{ lo := 0, width := 32, acc := .ro, reset := 0 }] },
  { base := 0x9000c, dims := [],
    fields := [{ lo := 0, width := 32, acc := .ro, reset := 0 }] },
  { base := 0x90010, dims := [],
    fields := [{ lo := 0, width := 8, acc := .ro, reset := 0 },
      { lo := 8, width := 8, acc := .ro, reset := 0 },
      { lo := 16, width := 8, acc := .ro, reset := 0 },
      { lo := 24, width := 8, acc := .ro, reset := 0 }] },
  { base := 0x90014, dims := [],
    fields := [{ lo := 0, width := 8, acc := .ro, reset := 0 },
      { lo := 8, width := 8, acc := .ro, reset := 0 },
      { lo := 16, width := 8, acc := .ro, reset := 0 },
      { lo := 24, width := 1, acc := .ro, reset := 0 },
      { lo := 25, width := 1, acc := .ro, reset := 0 }] },
  { base := 0x90018, dims := [],
    fields := [{ lo := 0, width := 12, acc := .ro, reset := 0 },
      { lo := 12, width := 3, acc := .ro, reset := 0 },
      { lo := 15, width := 1, acc := .ro, reset := 0 },
      { lo := 16, width := 3, acc := .ro, reset := 0 }] },
  { base := 0x9001c, dims := [],
    fields := [{ lo := 0, width := 1, acc := .ro, reset := 0 },
      { lo := 1, width := 1, acc := .ro, reset := 0 },
      { lo := 2, width := 1, acc := .ro, reset := 0 },
      { lo := 3, width := 1, acc := .ro, reset := 0 },
      { lo := 4, width := 1, acc := .ro, reset := 0 },
      { lo := 5, width := 1, acc := .ro, reset := 0 },
      { lo := 16, width := 16, acc := .ro, reset := 0 }] },
  { base := 0x90020, dims := [],
    fields := [{ lo := 0, width := 32, acc := .ro, reset := 0 }] },
  { base := 0x90024, dims := [],
    fields := [{ lo := 0, width := 32, acc := .ro, reset := 0 }] },
  { base := 0x90028, dims := [],
    fields := [{ lo := 0, width := 4, acc := .ro, reset := 0 },
      { lo := 16, width := 16, acc := .ro, reset := 0 }] },
  { base := 0x9002c, dims := [],
    fields := [{ lo := 0, width := 32, acc := .ro, reset := 0 }] },
  { base := 0x90030, dims := [],
    fields := [{ lo := 0, width := 16, acc := .ro, reset := 0 },
      { lo := 16, width := 16, acc := .ro, reset := 0 }] },
  { base := 0x90034, dims := [],
    fields := [{ lo := 0, width := 16, acc := .ro, reset := 0 },
      { lo := 16, width := 16, acc := .ro, reset := 0 }] },
  { base := 0x90038, dims := [],
    fields := [{ lo := 0, width := 5, acc := .ro, reset := 0 },
      { lo := 16, width := 16, acc := .ro, reset := 0 }] }]
def regRows_thm : List RegRow := [
  { base := 0xa0000, dims := [],
    fields := [{ lo := 0, width := 1, acc := .rw, reset := 1, kept := true },
      { lo := 1, width := 1, acc := .rw, reset := 0 },
      { lo := 2, width := 1, acc := .rw, reset := 0 },
      { lo := 3, width := 1, acc := .rw, reset := 0, kept := true }] },
  { base := 0xa0004, dims := [],
    fields := [{ lo := 0, width := 16, acc := .rw, reset := 2600, kept := true },
      { lo := 16, width := 8, acc := .rw, reset := 50, kept := true }] },
  { base := 0xa0008, dims := [],
    fields := [{ lo := 0, width := 14, acc := .rw, reset := 0, max := 10000, kept := true },
      { lo := 16, width := 14, acc := .rw, reset := 10000, max := 10000, kept := true }] },
  { base := 0xa000c, dims := [],
    fields := [{ lo := 0, width := 14, acc := .rw, reset := 10000, max := 10000, kept := true },
      { lo := 16, width := 14, acc := .rw, reset := 2000, max := 10000, kept := true }] },
  { base := 0xa0010, dims := [],
    fields := [{ lo := 0, width := 14, acc := .ro, reset := 0 },
      { lo := 16, width := 14, acc := .ro, reset := 0 }] },
  { base := 0xa0014, dims := [],
    fields := [{ lo := 0, width := 16, acc := .rw, reset := 4500, kept := true }] },
  { base := 0xa0018, dims := [],
    fields := [{ lo := 0, width := 8, acc := .rw, reset := 95 },
      { lo := 8, width := 8, acc := .rw, reset := 115 },
      { lo := 16, width := 8, acc := .rw, reset := 90 },
      { lo := 24, width := 8, acc := .rw, reset := 105 }] },
  { base := 0xa001c, dims := [],
    fields := [{ lo := 0, width := 16, acc := .rw, reset := 300, min := 60, max := 3600, kept := true }] },
  { base := 0xa0020, dims := [],
    fields := [{ lo := 0, width := 1, acc := .ro, reset := 0 },
      { lo := 1, width := 1, acc := .ro, reset := 0 },
      { lo := 2, width := 1, acc := .ro, reset := 0 },
      { lo := 3, width := 1, acc := .ro, reset := 0 },
      { lo := 4, width := 1, acc := .ro, reset := 0 },
      { lo := 5, width := 1, acc := .ro, reset := 0 },
      { lo := 6, width := 1, acc := .ro, reset := 0 },
      { lo := 8, width := 8, acc := .ro, reset := 0 },
      { lo := 16, width := 16, acc := .ro, reset := 32768 }] },
  { base := 0xa0024, dims := [],
    fields := [{ lo := 0, width := 8, acc := .ro, reset := 128 },
      { lo := 8, width := 8, acc := .ro, reset := 128 },
      { lo := 16, width := 8, acc := .ro, reset := 128 },
      { lo := 24, width := 8, acc := .ro, reset := 128 }] },
  { base := 0xa0030, dims := [],
    fields := [{ lo := 0, width := 1, acc := .w1c, reset := 0 },
      { lo := 1, width := 1, acc := .w1c, reset := 0 },
      { lo := 2, width := 1, acc := .w1c, reset := 0 },
      { lo := 3, width := 1, acc := .w1c, reset := 0 }] },
  { base := 0xa0034, dims := [],
    fields := [{ lo := 0, width := 16, acc := .ro, reset := 0 },
      { lo := 16, width := 16, acc := .ro, reset := 0 }] },
  { base := 0xa0038, dims := [],
    fields := [{ lo := 0, width := 16, acc := .ro, reset := 0 },
      { lo := 16, width := 16, acc := .ro, reset := 0 }] },
  { base := 0xa0100, dims := [(4, 104)],
    fields := [{ lo := 0, width := 16, acc := .ro, reset := 32768 },
      { lo := 16, width := 16, acc := .ro, reset := 32768 }] }]
def regRows_mot_0 : List RegRow := [
  { base := 0xb0000, dims := [],
    fields := [{ lo := 0, width := 1, acc := .ro, reset := 0 },
      { lo := 1, width := 1, acc := .ro, reset := 0 },
      { lo := 2, width := 1, acc := .ro, reset := 0 },
      { lo := 3, width := 1, acc := .ro, reset := 0 }] },
  { base := 0xb0004, dims := [],
    fields := [{ lo := 0, width := 16, acc := .ro, reset := 0 },
      { lo := 16, width := 16, acc := .ro, reset := 0 }] },
  { base := 0xb0010, dims := [],
    fields := [{ lo := 0, width := 1, acc := .w1c, reset := 0 },
      { lo := 1, width := 1, acc := .w1c, reset := 0 },
      { lo := 2, width := 1, acc := .w1c, reset := 0 },
      { lo := 3, width := 1, acc := .w1c, reset := 0 },
      { lo := 4, width := 1, acc := .w1c, reset := 0 },
      { lo := 5, width := 1, acc := .w1c, reset := 0 },
      { lo := 8, width := 1, acc := .w1c, reset := 0 },
      { lo := 9, width := 1, acc := .w1c, reset := 0 },
      { lo := 10, width := 1, acc := .w1c, reset := 0 },
      { lo := 11, width := 1, acc := .w1c, reset := 0 },
      { lo := 12, width := 1, acc := .w1c, reset := 0 },
      { lo := 13, width := 1, acc := .w1c, reset := 0 }] },
  { base := 0xb0014, dims := [],
    fields := [{ lo := 0, width := 16, acc := .ro, reset := 0 },
      { lo := 16, width := 16, acc := .ro, reset := 0 }] },
  { base := 0xb0018, dims := [],
    fields := [{ lo := 0, width := 16, acc := .ro, reset := 0 },
      { lo := 16, width := 16, acc := .ro, reset := 0 }] },
  { base := 0xb001c, dims := [],
    fields := [{ lo := 0, width := 16, acc := .ro, reset := 0 },
      { lo := 16, width := 16, acc := .ro, reset := 0 }] },
  { base := 0xb0020, dims := [],
    fields := [{ lo := 0, width := 16, acc := .ro, reset := 0 },
      { lo := 16, width := 16, acc := .ro, reset := 0 }] },
  { base := 0xb0024, dims := [],
    fields := [{ lo := 0, width := 16, acc := .ro, reset := 0 },
      { lo := 16, width := 16, acc := .ro, reset := 0 }] },
  { base := 0xb0028, dims := [],
    fields := [{ lo := 0, width := 16, acc := .ro, reset := 0 },
      { lo := 16, width := 16, acc := .ro, reset := 0 }] },
  { base := 0xb0100, dims := [(256, 2)],
    fields := [{ lo := 0, width := 1, acc := .rw, reset := 0, kept := true },
      { lo := 1, width := 1, acc := .rw, reset := 0, kept := true },
      { lo := 2, width := 1, acc := .rw, reset := 0, kept := true },
      { lo := 3, width := 1, acc := .rw, reset := 0, kept := true },
      { lo := 4, width := 1, acc := .rw, reset := 0, kept := true },
      { lo := 5, width := 1, acc := .rw, reset := 0, kept := true },
      { lo := 6, width := 1, acc := .rw, reset := 1, kept := true },
      { lo := 7, width := 1, acc := .rw, reset := 1, kept := true },
      { lo := 8, width := 8, acc := .rw, reset := 20, min := 1, max := 200, kept := true }] },
  { base := 0xb0104, dims := [(256, 2)],
    fields := [{ lo := 0, width := 32, acc := .rw, reset := 0, max := 2000000000, kept := true }] },
  { base := 0xb0108, dims := [(256, 2)],
    fields := [{ lo := 0, width := 8, acc := .rw, reset := 50, min := 1, max := 200, kept := true },
      { lo := 8, width := 8, acc := .rw, reset := 25, max := 200, kept := true },
      { lo := 16, width := 8, acc := .rw, reset := 50, kept := true }] },
  { base := 0xb010c, dims := [(256, 2)],
    fields := [{ lo := 0, width := 16, acc := .rw, reset := 1000, kept := true },
      { lo := 16, width := 16, acc := .rw, reset := 3000, kept := true }] },
  { base := 0xb0110, dims := [(256, 2)],
    fields := [{ lo := 0, width := 32, acc := .rw, reset := 51200, min := 256, max := 500000, kept := true }] },
  { base := 0xb0114, dims := [(256, 2)],
    fields := [{ lo := 0, width := 32, acc := .rw, reset := 512000, min := 2560, max := 10240000, kept := true }] },
  { base := 0xb0118, dims := [(256, 2)],
    fields := [{ lo := 0, width := 32, acc := .rw, reset := 512000, min := 2560, max := 10240000, kept := true }] },
  { base := 0xb011c, dims := [(256, 2)],
    fields := [{ lo := 0, width := 32, acc := .rw, reset := 10240000, min := 25600, max := 1024000000, kept := true }] },
  { base := 0xb0120, dims := [(256, 2)],
    fields := [{ lo := 0, width := 32, acc := .rw, reset := 2048000, kept := true }] },
  { base := 0xb0124, dims := [(256, 2)],
    fields := [{ lo := 0, width := 16, acc := .rw, reset := 200, min := 1, kept := true },
      { lo := 16, width := 16, acc := .rw, reset := 10, min := 1, kept := true }] },
  { base := 0xb0128, dims := [(256, 2)],
    fields := [{ lo := 0, width := 16, acc := .rw, reset := 50, min := 1, max := 10000, kept := true },
      { lo := 16, width := 4, acc := .rw, reset := 3, min := 1, kept := true }] },
  { base := 0xb012c, dims := [(256, 2)],
    fields := [{ lo := 0, width := 32, acc := .rw, reset := 512000, min := 2560, max := 10240000, kept := true }] },
  { base := 0xb0130, dims := [(256, 2)],
    fields := [{ lo := 0, width := 32, acc := .rw, reset := 0, kept := true }] },
  { base := 0xb0134, dims := [(256, 2)],
    fields := [{ lo := 0, width := 8, acc := .rw, reset := 80, min := 30, max := 120, kept := true },
      { lo := 8, width := 8, acc := .rw, reset := 5, min := 1, max := 100, kept := true },
      { lo := 16, width := 16, acc := .rw, reset := 40, min := 20, max := 2000, kept := true }] },
  { base := 0xb0138, dims := [(256, 2)],
    fields := [{ lo := 0, width := 14, acc := .rw, reset := 10000 },
      { lo := 14, width := 2, acc := .rw, reset := 1, readsAs := [(2, 3, 1)] }] },
  { base := 0xb0140, dims := [(256, 2)],
    fields := [{ lo := 0, width := 32, acc := .ro, reset := 0 }] }]
def regRows_mot_1 : List RegRow := [
  { base := 0xb0144, dims := [(256, 2)],
    fields := [{ lo := 0, width := 32, acc := .ro, reset := 0 }] },
  { base := 0xb0148, dims := [(256, 2)],
    fields := [{ lo := 0, width := 32, acc := .ro, reset := 0 }] },
  { base := 0xb014c, dims := [(256, 2)],
    fields := [{ lo := 0, width := 4, acc := .ro, reset := 0 },
      { lo := 4, width := 1, acc := .ro, reset := 0 },
      { lo := 5, width := 1, acc := .ro, reset := 0 },
      { lo := 6, width := 1, acc := .ro, reset := 0 },
      { lo := 7, width := 1, acc := .ro, reset := 0 },
      { lo := 8, width := 1, acc := .ro, reset := 0 },
      { lo := 9, width := 1, acc := .ro, reset := 0 },
      { lo := 10, width := 1, acc := .ro, reset := 0 },
      { lo := 12, width := 4, acc := .ro, reset := 0 },
      { lo := 16, width := 8, acc := .ro, reset := 255 },
      { lo := 24, width := 2, acc := .ro, reset := 0 }] },
  { base := 0xb0150, dims := [(256, 2)],
    fields := [{ lo := 0, width := 32, acc := .ro, reset := 0 }] },
  { base := 0xb0154, dims := [(256, 2)],
    fields := [{ lo := 0, width := 32, acc := .ro, reset := 0 }] }]
def regRows_can_0 : List RegRow := [
  { base := 0xc0000, dims := [],
    fields := [{ lo := 0, width := 1, acc := .rw, reset := 0, kept := true },
      { lo := 1, width := 1, acc := .rw, reset := 1, kept := true },
      { lo := 2, width := 1, acc := .rw, reset := 0 },
      { lo := 3, width := 1, acc := .rw, reset := 1, kept := true },
      { lo := 4, width := 2, acc := .rw, reset := 2, readsAs := [(3, 3, 0)], kept := true },
      { lo := 6, width := 2, acc := .rw, reset := 3, readsAs := [(0, 0, 3)] },
      { lo := 8, width := 8, acc := .rw, reset := 16 },
      { lo := 16, width := 16, acc := .rw, reset := 1000, kept := true }] },
  { base := 0xc8000, dims := [],
    fields := [{ lo := 0, width := 1, acc := .rw, reset := 0, kept := true },
      { lo := 1, width := 1, acc := .rw, reset := 1, kept := true },
      { lo := 2, width := 1, acc := .rw, reset := 0 },
      { lo := 3, width := 1, acc := .rw, reset := 1, kept := true },
      { lo := 4, width := 2, acc := .rw, reset := 0, readsAs := [(3, 3, 0)], kept := true },
      { lo := 6, width := 2, acc := .rw, reset := 3, readsAs := [(0, 0, 3)] },
      { lo := 8, width := 8, acc := .rw, reset := 16 },
      { lo := 16, width := 16, acc := .rw, reset := 1000, kept := true }] },
  { base := 0xc0004, dims := [(32768, 2)],
    fields := [{ lo := 0, width := 5, acc := .rw, reset := 1, kept := true },
      { lo := 5, width := 8, acc := .rw, reset := 62, min := 1, kept := true },
      { lo := 13, width := 7, acc := .rw, reset := 15, min := 1, kept := true },
      { lo := 20, width := 7, acc := .rw, reset := 15, kept := true }] },
  { base := 0xc0008, dims := [(32768, 2)],
    fields := [{ lo := 0, width := 5, acc := .rw, reset := 1, kept := true },
      { lo := 5, width := 5, acc := .rw, reset := 13, kept := true },
      { lo := 10, width := 4, acc := .rw, reset := 4, kept := true },
      { lo := 14, width := 4, acc := .rw, reset := 4, kept := true },
      { lo := 18, width := 1, acc := .rw, reset := 1, kept := true },
      { lo := 19, width := 7, acc := .rw, reset := 30, kept := true }] },
  { base := 0xc000c, dims := [(32768, 2)],
    fields := [{ lo := 0, width := 1, acc := .w1s, reset := 0 }] },
  { base := 0xc0010, dims := [(32768, 2)],
    fields := [{ lo := 0, width := 2, acc := .ro, reset := 0 },
      { lo := 2, width := 1, acc := .ro, reset := 0 },
      { lo := 3, width := 1, acc := .ro, reset := 0 },
      { lo := 4, width := 1, acc := .ro, reset := 0 },
      { lo := 5, width := 3, acc := .ro, reset := 0 },
      { lo := 8, width := 8, acc := .ro, reset := 0 },
      { lo := 16, width := 8, acc := .ro, reset := 0 }] },
  { base := 0xc0020, dims := [(32768, 2)],
    fields := [{ lo := 0, width := 1, acc := .w1c, reset := 0 },
      { lo := 1, width := 1, acc := .w1c, reset := 0 },
      { lo := 2, width := 1, acc := .w1c, reset := 0 },
      { lo := 3, width := 1, acc := .w1c, reset := 0 },
      { lo := 4, width := 1, acc := .w1c, reset := 0 },
      { lo := 5, width := 1, acc := .w1c, reset := 0 },
      { lo := 6, width := 1, acc := .w1c, reset := 0 }] },
  { base := 0xc0024, dims := [(32768, 2)],
    fields := [{ lo := 0, width := 16, acc := .ro, reset := 0 },
      { lo := 16, width := 16, acc := .ro, reset := 0 }] },
  { base := 0xc0028, dims := [(32768, 2)],
    fields := [{ lo := 0, width := 16, acc := .ro, reset := 0 },
      { lo := 16, width := 16, acc := .ro, reset := 0 }] },
  { base := 0xc002c, dims := [(32768, 2)],
    fields := [{ lo := 0, width := 16, acc := .ro, reset := 0 },
      { lo := 16, width := 16, acc := .ro, reset := 0 }] },
  { base := 0xc0030, dims := [(32768, 2)],
    fields := [{ lo := 0, width := 16, acc := .ro, reset := 0 },
      { lo := 16, width := 16, acc := .ro, reset := 0 }] },
  { base := 0xc0040, dims := [(32768, 2)],
    fields := [{ lo := 0, width := 6, acc := .ro, reset := 0 },
      { lo := 16, width := 6, acc := .ro, reset := 0 }] },
  { base := 0xc0044, dims := [(32768, 2)],
    fields := [{ lo := 0, width := 32, acc := .ro, reset := 0 }] },
  { base := 0xc0048, dims := [(32768, 2)],
    fields := [{ lo := 0, width := 32, acc := .ro, reset := 0 }] },
  { base := 0xc0050, dims := [(32768, 2)],
    fields := [{ lo := 0, width := 11, acc := .rw, reset := 0, kept := true },
      { lo := 11, width := 1, acc := .rw, reset := 0, kept := true },
      { lo := 12, width := 11, acc := .rw, reset := 2047, kept := true },
      { lo := 23, width := 8, acc := .rw, reset := 0, kept := true }] },
  { base := 0xc0054, dims := [(32768, 2)],
    fields := [{ lo := 0, width := 11, acc := .rw, reset := 768, kept := true }] },
  { base := 0xc0400, dims := [(32768, 2), (8, 32)],
    fields := [{ lo := 0, width := 29, acc := .rw, reset := 0 },
      { lo := 29, width := 1, acc := .rw, reset := 0 },
      { lo := 30, width := 1, acc := .rw, reset := 0 }] },
  { base := 0xc0404, dims := [(32768, 2), (8, 32)],
    fields := [{ lo := 0, width := 29, acc := .rw, reset := 0 }] },
  { base := 0xc0500, dims := [(32768, 2), (4, 32)],
    fields := [{ lo := 0, width := 7, acc := .rw, reset := 66, max := 66 }] },
  { base := 0xc1000, dims := [(32768, 2), (128, 64)],
    fields := [{ lo := 0, width := 2, acc := .rw, reset := 0, readsAs := [(3, 3, 0)] },
      { lo := 2, width := 1, acc := .rw, reset := 0 },
      { lo := 3, width := 1, acc := .w1s, reset := 0 },
      { lo := 4, width := 1, acc := .w1s, reset := 0 },
      { lo := 5, width := 1, acc := .ro, reset := 0 },
      { lo := 6, width := 1, acc := .ro, reset := 0 },
      { lo := 7, width := 1, acc := .ro, reset := 0 },
      { lo := 8, width := 1, acc := .ro, reset := 0 },
      { lo := 9, width := 1, acc := .ro, reset := 0 },
      { lo := 16, width := 8, acc := .ro, reset := 0 },
      { lo := 24, width := 8, acc := .ro, reset := 0 }] },
  { base := 0xc1004, dims := [(32768, 2), (128, 64)],
    fields := [{ lo := 0, width := 29, acc := .rw, reset := 0 },
      { lo := 29, width := 1, acc := .rw, reset := 0 },
      { lo := 30, width := 1, acc := .rw, reset := 0 }] },
  { base := 0xc1008, dims := [(32768, 2), (128, 64)],
    fields := [{ lo := 0, width := 4, acc := .rw, reset := 0 },
      { lo := 4, width := 1, acc := .rw, reset := 0 },
      { lo := 5, width := 1, acc := .rw, reset := 0 },
      { lo := 6, width := 1, acc := .rw, reset := 0 },
      { lo := 8, width := 8, acc := .rw, reset := 0 }] },
  { base := 0xc100c, dims := [(32768, 2), (128, 64)],
    fields := [{ lo := 0, width := 32, acc := .rw, reset := 0 }] },
  { base := 0xc1010, dims := [(32768, 2), (128, 64)],
    fields := [{ lo := 0, width := 32, acc := .rw, reset := 0 }] },
  { base := 0xc1014, dims := [(32768, 2), (128, 64), (4, 16)],
    fields := [{ lo := 0, width := 32, acc := .rw, reset := 0 }] }]
def regRows_can_1 : List RegRow := [
  { base := 0xc3000, dims := [(32768, 2), (128, 2)],
    fields := [{ lo := 0, width := 2, acc := .ro, reset := 0, readsAs := [(3, 3, 0)] },
      { lo := 2, width := 1, acc := .ro, reset := 0 },
      { lo := 3, width := 1, acc := .ro, reset := 0 },
      { lo := 4, width := 1, acc := .ro, reset := 0 },
      { lo := 5, width := 1, acc := .ro, reset := 0 },
      { lo := 6, width := 1, acc := .ro, reset := 0 },
      { lo := 7, width := 1, acc := .ro, reset := 0 },
      { lo := 8, width := 1, acc := .ro, reset := 0 },
      { lo := 9, width := 1, acc := .ro, reset := 0 },
      { lo := 16, width := 8, acc := .ro, reset := 0 },
      { lo := 24, width := 8, acc := .ro, reset := 0 }] },
  { base := 0xc3004, dims := [(32768, 2), (128, 2)],
    fields := [{ lo := 0, width := 29, acc := .ro, reset := 0 },
      { lo := 29, width := 1, acc := .ro, reset := 0 },
      { lo := 30, width := 1, acc := .ro, reset := 0 }] },
  { base := 0xc3008, dims := [(32768, 2), (128, 2)],
    fields := [{ lo := 0, width := 4, acc := .ro, reset := 0 },
      { lo := 4, width := 1, acc := .ro, reset := 0 },
      { lo := 5, width := 1, acc := .ro, reset := 0 },
      { lo := 6, width := 1, acc := .ro, reset := 0 },
      { lo := 8, width := 8, acc := .ro, reset := 0 }] },
  { base := 0xc300c, dims := [(32768, 2), (128, 2)],
    fields := [{ lo := 0, width := 32, acc := .ro, reset := 0 }] },
  { base := 0xc3010, dims := [(32768, 2), (128, 2)],
    fields := [{ lo := 0, width := 32, acc := .ro, reset := 0 }] },
  { base := 0xc3014, dims := [(32768, 2), (128, 2), (4, 16)],
    fields := [{ lo := 0, width := 32, acc := .ro, reset := 0 }] }]
def regRows_sb : List RegRow := [
  { base := 0xd0000, dims := [(32768, 2)],
    fields := [{ lo := 0, width := 1, acc := .rw, reset := 0, kept := true },
      { lo := 1, width := 2, acc := .rw, reset := 1, readsAs := [(3, 3, 1)], kept := true },
      { lo := 3, width := 1, acc := .rw, reset := 0, kept := true },
      { lo := 4, width := 1, acc := .rw, reset := 0, kept := true },
      { lo := 5, width := 1, acc := .rw, reset := 0, kept := true },
      { lo := 6, width := 1, acc := .rw, reset := 0, kept := true },
      { lo := 8, width := 4, acc := .rw, reset := 3, kept := true },
      { lo := 16, width := 8, acc := .rw, reset := 25, readsAs := [(0, 0, 1)], kept := true }] },
  { base := 0xd0004, dims := [(32768, 2)],
    fields := [{ lo := 0, width := 1, acc := .ro, reset := 0 },
      { lo := 1, width := 1, acc := .ro, reset := 0 },
      { lo := 2, width := 1, acc := .ro, reset := 0 },
      { lo := 3, width := 1, acc := .ro, reset := 0 },
      { lo := 4, width := 1, acc := .ro, reset := 0 },
      { lo := 5, width := 1, acc := .ro, reset := 0 },
      { lo := 6, width := 1, acc := .ro, reset := 0 },
      { lo := 8, width := 5, acc := .ro, reset := 0 }] },
  { base := 0xd0008, dims := [(32768, 2)],
    fields := [{ lo := 0, width := 7, acc := .rw, reset := 0, kept := true },
      { lo := 8, width := 7, acc := .rw, reset := 0, kept := true },
      { lo := 16, width := 7, acc := .ro, reset := 0 }] },
  { base := 0xd000c, dims := [(32768, 2)],
    fields := [{ lo := 0, width := 7, acc := .rw, reset := 0, kept := true },
      { lo := 7, width := 1, acc := .rw, reset := 0, kept := true },
      { lo := 8, width := 1, acc := .rw, reset := 0, kept := true }] },
  { base := 0xd0010, dims := [(32768, 2)],
    fields := [{ lo := 0, width := 4, acc := .ro, reset := 0 },
      { lo := 4, width := 4, acc := .ro, reset := 0 }] },
  { base := 0xd0014, dims := [(32768, 2)],
    fields := [{ lo := 0, width := 8, acc := .ro, reset := 0 },
      { lo := 8, width := 4, acc := .ro, reset := 0 },
      { lo := 12, width := 1, acc := .ro, reset := 0 }] },
  { base := 0xd0020, dims := [(32768, 2)],
    fields := [{ lo := 0, width := 1, acc := .w1c, reset := 0 },
      { lo := 1, width := 1, acc := .w1c, reset := 0 },
      { lo := 2, width := 1, acc := .w1c, reset := 0 },
      { lo := 3, width := 1, acc := .w1c, reset := 0 },
      { lo := 4, width := 1, acc := .w1c, reset := 0 },
      { lo := 5, width := 1, acc := .w1c, reset := 0 },
      { lo := 6, width := 1, acc := .w1c, reset := 0 },
      { lo := 7, width := 1, acc := .w1c, reset := 0 }] },
  { base := 0xd0024, dims := [(32768, 2)],
    fields := [{ lo := 0, width := 16, acc := .ro, reset := 0 },
      { lo := 16, width := 16, acc := .ro, reset := 0 }] },
  { base := 0xd0028, dims := [(32768, 2)],
    fields := [{ lo := 0, width := 16, acc := .ro, reset := 0 },
      { lo := 16, width := 16, acc := .ro, reset := 0 }] },
  { base := 0xd002c, dims := [(32768, 2)],
    fields := [{ lo := 0, width := 16, acc := .ro, reset := 0 },
      { lo := 16, width := 16, acc := .ro, reset := 0 }] },
  { base := 0xd0030, dims := [(32768, 2)],
    fields := [{ lo := 0, width := 16, acc := .ro, reset := 0 },
      { lo := 16, width := 16, acc := .ro, reset := 0 }] },
  { base := 0xd0080, dims := [(32768, 2)],
    fields := [{ lo := 0, width := 8, acc := .ro, reset := 0 },
      { lo := 8, width := 1, acc := .ro, reset := 0 },
      { lo := 9, width := 1, acc := .ro, reset := 0 },
      { lo := 10, width := 1, acc := .ro, reset := 0 }] },
  { base := 0xd0100, dims := [(32768, 2), (4, 64)],
    fields := [{ lo := 0, width := 32, acc := .ro, reset := 0 }] }]
def regRows_mbx : List RegRow := [
  { base := 0xe0000, dims := [(16, 32)],
    fields := [{ lo := 0, width := 32, acc := .rw, reset := 0 }] },
  { base := 0xe0004, dims := [(16, 32)],
    fields := [{ lo := 0, width := 3, acc := .ro, reset := 0 },
      { lo := 3, width := 1, acc := .ro, reset := 0 },
      { lo := 4, width := 4, acc := .ro, reset := 0 },
      { lo := 8, width := 1, acc := .ro, reset := 0 },
      { lo := 9, width := 1, acc := .w1s, reset := 0 }] },
  { base := 0xe0008, dims := [(16, 32)],
    fields := [{ lo := 0, width := 8, acc := .rw, reset := 0 },
      { lo := 8, width := 1, acc := .ro, reset := 0 }] },
  { base := 0xe000c, dims := [(16, 32)],
    fields := [{ lo := 0, width := 4, acc := .rwl, reset := 0 },
      { lo := 4, width := 4, acc := .rwl, reset := 0 },
      { lo := 8, width := 1, acc := .rwl, reset := 0 }] },
  { base := 0xe0400, dims := [],
    fields := [{ lo := 0, width := 1, acc := .rwl, reset := 0 },
      { lo := 4, width := 4, acc := .rwl, reset := 1 }] },
  { base := 0xe0410, dims := [],
    fields := [{ lo := 0, width := 1, acc := .w1c, reset := 0 },
      { lo := 1, width := 1, acc := .w1c, reset := 0 },
      { lo := 2, width := 1, acc := .w1c, reset := 0 }] },
  { base := 0xe0414, dims := [],
    fields := [{ lo := 0, width := 16, acc := .ro, reset := 0 },
      { lo := 16, width := 16, acc := .ro, reset := 0 }] },
  { base := 0xe0418, dims := [],
    fields := [{ lo := 0, width := 16, acc := .ro, reset := 0 },
      { lo := 16, width := 16, acc := .ro, reset := 0 }] },
  { base := 0xe041c, dims := [],
    fields := [{ lo := 0, width := 4, acc := .ro, reset := 0 },
      { lo := 4, width := 5, acc := .ro, reset := 0 },
      { lo := 9, width := 2, acc := .ro, reset := 0 }] },
  { base := 0xe1100, dims := [(256, 13)],
    fields := [{ lo := 0, width := 32, acc := .ro, reset := 0 }] },
  { base := 0xe1104, dims := [(256, 13)],
    fields := [{ lo := 0, width := 32, acc := .w1s, reset := 0 }] },
  { base := 0xe1108, dims := [(256, 13)],
    fields := [{ lo := 0, width := 32, acc := .w1c, reset := 0 }] },
  { base := 0xe1140, dims := [(256, 13), (4, 16)],
    fields := [{ lo := 0, width := 16, acc := .ro, reset := 0 },
      { lo := 16, width := 16, acc := .ro, reset := 0 }] }]
def regRows_rec : List RegRow := [
  { base := 0xf0000, dims := [],
    fields := [{ lo := 0, width := 1, acc := .w1s, reset := 0 }] },
  { base := 0xf0004, dims := [],
    fields := [{ lo := 0, width := 1, acc := .rw, reset := 0 }] },
  { base := 0xf0008, dims := [],
    fields := [{ lo := 0, width := 32, acc := .rw, reset := 0 }] },
  { base := 0xf000c, dims := [],
    fields := [{ lo := 0, width := 32, acc := .ro, reset := 0 }] },
  { base := 0xf0010, dims := [],
    fields := [{ lo := 0, width := 32, acc := .ro, reset := 0 }] },
  { base := 0xf0014, dims := [],
    fields := [{ lo := 0, width := 32, acc := .ro, reset := 0 }] },
  { base := 0xf0018, dims := [],
    fields := [{ lo := 0, width := 32, acc := .ro, reset := 0 }] },
  { base := 0xf001c, dims := [],
    fields := [{ lo := 0, width := 2, acc := .ro, reset := 0 },
      { lo := 2, width := 1, acc := .w1c, reset := 0 },
      { lo := 3, width := 1, acc := .ro, reset := 0 },
      { lo := 4, width := 1, acc := .w1c, reset := 0 },
      { lo := 16, width := 11, acc := .ro, reset := 0 }] },
  { base := 0xf0020, dims := [],
    fields := [{ lo := 0, width := 16, acc := .ro, reset := 0 },
      { lo := 16, width := 16, acc := .ro, reset := 0 }] },
  { base := 0xf0024, dims := [],
    fields := [{ lo := 0, width := 32, acc := .ro, reset := 0 }] },
  { base := 0xf0028, dims := [],
    fields := [{ lo := 0, width := 32, acc := .ro, reset := 0 }] },
  { base := 0xf002c, dims := [],
    fields := [{ lo := 0, width := 32, acc := .ro, reset := 0 }] },
  { base := 0xf0030, dims := [],
    fields := [{ lo := 0, width := 32, acc := .ro, reset := 0 }] },
  { base := 0xf0034, dims := [],
    fields := [{ lo := 0, width := 32, acc := .ro, reset := 0 }] },
  { base := 0xf0040, dims := [(4, 16)],
    fields := [{ lo := 0, width := 32, acc := .ro, reset := 0 }] }]
def regRows_upd : List RegRow := [
  { base := 0x100000, dims := [],
    fields := [{ lo := 0, width := 4, acc := .ro, reset := 0 },
      { lo := 4, width := 2, acc := .ro, reset := 0 },
      { lo := 6, width := 2, acc := .ro, reset := 0 },
      { lo := 8, width := 2, acc := .ro, reset := 0 },
      { lo := 10, width := 1, acc := .ro, reset := 0 },
      { lo := 11, width := 1, acc := .ro, reset := 0 },
      { lo := 12, width := 2, acc := .ro, reset := 0 },
      { lo := 16, width := 11, acc := .ro, reset := 0 }] },
  { base := 0x100004, dims := [],
    fields := [{ lo := 0, width := 10, acc := .ro, reset := 0 },
      { lo := 16, width := 5, acc := .ro, reset := 0 },
      { lo := 21, width := 5, acc := .ro, reset := 0 }] },
  { base := 0x100008, dims := [],
    fields := [{ lo := 0, width := 32, acc := .ro, reset := 0 }] },
  { base := 0x10000c, dims := [],
    fields := [{ lo := 0, width := 32, acc := .ro, reset := 0 }] },
  { base := 0x100010, dims := [],
    fields := [{ lo := 0, width := 32, acc := .ro, reset := 0 }] },
  { base := 0x100014, dims := [],
    fields := [{ lo := 0, width := 16, acc := .ro, reset := 0 },
      { lo := 16, width := 16, acc := .ro, reset := 0 }] },
  { base := 0x100018, dims := [],
    fields := [{ lo := 0, width := 16, acc := .ro, reset := 0 },
      { lo := 16, width := 4, acc := .ro, reset := 0 }] },
  { base := 0x10001c, dims := [],
    fields := [{ lo := 0, width := 12, acc := .rw, reset := 60, max := 3600, kept := true },
      { lo := 16, width := 8, acc := .rw, reset := 5, min := 1, max := 50, kept := true }] },
  { base := 0x100020, dims := [],
    fields := [{ lo := 0, width := 1, acc := .w1c, reset := 0 },
      { lo := 1, width := 1, acc := .w1c, reset := 0 },
      { lo := 2, width := 1, acc := .w1c, reset := 0 },
      { lo := 3, width := 1, acc := .w1c, reset := 0 },
      { lo := 4, width := 1, acc := .w1c, reset := 0 },
      { lo := 5, width := 1, acc := .w1c, reset := 0 },
      { lo := 6, width := 1, acc := .w1c, reset := 0 },
      { lo := 7, width := 1, acc := .w1c, reset := 0 }] },
  { base := 0x100024, dims := [],
    fields := [{ lo := 0, width := 16, acc := .ro, reset := 0 },
      { lo := 16, width := 16, acc := .ro, reset := 0 }] },
  { base := 0x100028, dims := [],
    fields := [{ lo := 0, width := 16, acc := .ro, reset := 0 },
      { lo := 16, width := 16, acc := .ro, reset := 0 }] },
  { base := 0x10002c, dims := [],
    fields := [{ lo := 0, width := 16, acc := .ro, reset := 0 },
      { lo := 16, width := 16, acc := .ro, reset := 0 }] },
  { base := 0x100030, dims := [],
    fields := [{ lo := 0, width := 16, acc := .ro, reset := 0 },
      { lo := 16, width := 16, acc := .ro, reset := 0 }] },
  { base := 0x100040, dims := [],
    fields := [{ lo := 0, width := 8, acc := .ro, reset := 0 },
      { lo := 8, width := 8, acc := .ro, reset := 0 }] },
  { base := 0x100100, dims := [(4, 33)],
    fields := [{ lo := 0, width := 32, acc := .ro, reset := 0 }] }]
def regRows_sec : List RegRow := [
  { base := 0x110000, dims := [],
    fields := [{ lo := 0, width := 1, acc := .ro, reset := 0 },
      { lo := 1, width := 1, acc := .ro, reset := 0 },
      { lo := 2, width := 1, acc := .ro, reset := 0 },
      { lo := 3, width := 1, acc := .ro, reset := 0 },
      { lo := 4, width := 1, acc := .ro, reset := 0 },
      { lo := 5, width := 1, acc := .ro, reset := 0 },
      { lo := 8, width := 4, acc := .ro, reset := 0 }] },
  { base := 0x110004, dims := [],
    fields := [{ lo := 0, width := 1, acc := .rw, reset := 0, kept := true },
      { lo := 8, width := 8, acc := .rw, reset := 15, min := 1, max := 240, kept := true }] },
  { base := 0x110010, dims := [],
    fields := [{ lo := 0, width := 1, acc := .w1c, reset := 0 },
      { lo := 1, width := 1, acc := .w1c, reset := 0 },
      { lo := 2, width := 1, acc := .w1c, reset := 0 },
      { lo := 3, width := 1, acc := .w1c, reset := 0 }] },
  { base := 0x110014, dims := [],
    fields := [{ lo := 0, width := 16, acc := .ro, reset := 0 },
      { lo := 16, width := 16, acc := .ro, reset := 0 }] },
  { base := 0x110018, dims := [],
    fields := [{ lo := 0, width := 16, acc := .ro, reset := 0 },
      { lo := 16, width := 16, acc := .ro, reset := 0 }] },
  { base := 0x110020, dims := [],
    fields := [{ lo := 0, width := 32, acc := .ro, reset := 0 }] },
  { base := 0x110024, dims := [],
    fields := [{ lo := 0, width := 32, acc := .ro, reset := 0 }] },
  { base := 0x110040, dims := [(4, 4)],
    fields := [{ lo := 0, width := 32, acc := .ro, reset := 0 }] }]
def regRows_uc : List RegRow := [
  { base := 0x120000, dims := [],
    fields := [{ lo := 0, width := 7, acc := .ro, reset := 0 },
      { lo := 7, width := 1, acc := .ro, reset := 0 },
      { lo := 8, width := 2, acc := .ro, reset := 0 },
      { lo := 16, width := 16, acc := .ro, reset := 0 }] },
  { base := 0x120004, dims := [],
    fields := [{ lo := 0, width := 1, acc := .rw, reset := 1, kept := true },
      { lo := 1, width := 1, acc := .rw, reset := 1, kept := true },
      { lo := 8, width := 8, acc := .rw, reset := 8, min := 1, max := 32, kept := true },
      { lo := 16, width := 8, acc := .rw, reset := 32, min := 8, kept := true },
      { lo := 24, width := 8, acc := .rw, reset := 64, min := 8, kept := true }] },
  { base := 0x120008, dims := [],
    fields := [{ lo := 0, width := 9, acc := .ro, reset := 256 },
      { lo := 16, width := 6, acc := .ro, reset := 32 },
      { lo := 24, width := 6, acc := .ro, reset := 32 }] },
  { base := 0x120010, dims := [],
    fields := [{ lo := 0, width := 1, acc := .w1c, reset := 0 },
      { lo := 1, width := 1, acc := .w1c, reset := 0 },
      { lo := 2, width := 1, acc := .w1c, reset := 0 },
      { lo := 3, width := 1, acc := .w1c, reset := 0 }] },
  { base := 0x120014, dims := [],
    fields := [{ lo := 0, width := 16, acc := .ro, reset := 0 },
      { lo := 16, width := 16, acc := .ro, reset := 0 }] },
  { base := 0x120018, dims := [],
    fields := [{ lo := 0, width := 16, acc := .ro, reset := 0 },
      { lo := 16, width := 16, acc := .ro, reset := 0 }] },
  { base := 0x120100, dims := [(4, 26)],
    fields := [{ lo := 0, width := 5, acc := .ro, reset := 0 },
      { lo := 5, width := 1, acc := .ro, reset := 0 },
      { lo := 16, width := 16, acc := .ro, reset := 0 }] },
  { base := 0x120200, dims := [(4, 2)],
    fields := [{ lo := 0, width := 16, acc := .ro, reset := 0 },
      { lo := 16, width := 16, acc := .ro, reset := 0 }] }]
def regRows_bank : List RegRow := [
  { base := 0x130000, dims := [],
    fields := [{ lo := 0, width := 3, acc := .ro, reset := 0 },
      { lo := 3, width := 1, acc := .ro, reset := 1 },
      { lo := 4, width := 3, acc := .rw, reset := 0, kept := true },
      { lo := 8, width := 8, acc := .rw, reset := 40, min := 5, max := 200, kept := true },
      { lo := 16, width := 8, acc := .rw, reset := 80, min := 10, max := 100, kept := true }] },
  { base := 0x130004, dims := [],
    fields := [{ lo := 0, width := 2, acc := .rw, reset := 1, readsAs := [(2, 3, 1)] },
      { lo := 8, width := 8, acc := .rw, reset := 20, min := 5, max := 200 },
      { lo := 16, width := 8, acc := .rw, reset := 20, min := 5, max := 100 }] },
  { base := 0x130008, dims := [],
    fields := [{ lo := 0, width := 8, acc := .ro, reset := 0 },
      { lo := 8, width := 8, acc := .ro, reset := 0 },
      { lo := 16, width := 1, acc := .ro, reset := 0 },
      { lo := 17, width := 1, acc := .ro, reset := 0 },
      { lo := 18, width := 1, acc := .ro, reset := 0 },
      { lo := 19, width := 1, acc := .ro, reset := 0 },
      { lo := 20, width := 1, acc := .ro, reset := 0 },
      { lo := 21, width := 1, acc := .ro, reset := 0 },
      { lo := 24, width := 3, acc := .ro, reset := 0 }] },
  { base := 0x13000c, dims := [],
    fields := [{ lo := 0, width := 2, acc := .ro, reset := 0 },
      { lo := 2, width := 1, acc := .ro, reset := 0 },
      { lo := 3, width := 2, acc := .ro, reset := 0 },
      { lo := 16, width := 11, acc := .ro, reset := 0 }] },
  { base := 0x130010, dims := [],
    fields := [{ lo := 0, width := 32, acc := .ro, reset := 0 }] },
  { base := 0x130014, dims := [],
    fields := [{ lo := 12, width := 17, acc := .rw, reset := 50592, kept := true }] },
  { base := 0x130018, dims := [],
    fields := [{ lo := 0, width := 16, acc := .rw, reset := 5000 }] },
  { base := 0x130020, dims := [],
    fields := [{ lo := 0, width := 1, acc := .w1c, reset := 0 },
      { lo := 1, width := 1, acc := .w1c, reset := 0 },
      { lo := 2, width := 1, acc := .w1c, reset := 0 },
      { lo := 3, width := 1, acc := .w1c, reset := 0 },
      { lo := 4, width := 1, acc := .w1c, reset := 0 },
      { lo := 5, width := 1, acc := .w1c, reset := 0 },
      { lo := 6, width := 1, acc := .w1c, reset := 0 },
      { lo := 7, width := 1, acc := .w1c, reset := 0 }] },
  { base := 0x130024, dims := [],
    fields := [{ lo := 0, width := 16, acc := .ro, reset := 0 },
      { lo := 16, width := 16, acc := .ro, reset := 0 }] },
  { base := 0x130028, dims := [],
    fields := [{ lo := 0, width := 16, acc := .ro, reset := 0 },
      { lo := 16, width := 16, acc := .ro, reset := 0 }] },
  { base := 0x13002c, dims := [],
    fields := [{ lo := 0, width := 16, acc := .ro, reset := 0 },
      { lo := 16, width := 16, acc := .ro, reset := 0 }] },
  { base := 0x130030, dims := [],
    fields := [{ lo := 0, width := 16, acc := .ro, reset := 0 },
      { lo := 16, width := 16, acc := .ro, reset := 0 }] },
  { base := 0x130060, dims := [(4, 4)],
    fields := [{ lo := 0, width := 32, acc := .ro, reset := 0 }] },
  { base := 0x130070, dims := [(4, 4)],
    fields := [{ lo := 0, width := 32, acc := .ro, reset := 0 }] },
  { base := 0x130080, dims := [(4, 4)],
    fields := [{ lo := 0, width := 32, acc := .ro, reset := 0 }] },
  { base := 0x130090, dims := [(4, 4)],
    fields := [{ lo := 0, width := 32, acc := .ro, reset := 0 }] },
  { base := 0x130100, dims := [(4, 8)],
    fields := [{ lo := 0, width := 16, acc := .ro, reset := 65535 },
      { lo := 16, width := 16, acc := .ro, reset := 65535 }] }]
/-- Every register of the index (R517). -/
def regTable : List RegRow :=
  regRows_sys ++
  regRows_pwr ++
  regRows_time_0 ++
  regRows_time_1 ++
  regRows_hrt ++
  regRows_seg_0 ++
  regRows_seg_1 ++
  regRows_bal ++
  regRows_cim ++
  regRows_se ++
  regRows_est ++
  regRows_safe ++
  regRows_thm ++
  regRows_mot_0 ++
  regRows_mot_1 ++
  regRows_can_0 ++
  regRows_can_1 ++
  regRows_sb ++
  regRows_mbx ++
  regRows_rec ++
  regRows_upd ++
  regRows_sec ++
  regRows_uc ++
  regRows_bank

end Sys2Proof.Machine
end

