-- ==== Sys2Proof/Machine/Ops.lean ====
section
/-! DEFINITION. The named operations over the state: tables, register fields, corrected time, records,
events, flags posted with their record, completions and open operations. -/

namespace Sys2Proof.Machine

abbrev Out := Host.Outcome State Fault Refusal

/-! ### Tables: lists of key and value with rising keys -/

/-- The value under a key, `d` where the key is not listed. -/
def Tbl.get {α : Type} (d : α) : List (Nat × α) → Nat → α
  | [], _ => d
  | (k, v) :: t, q => if k = q then v else Tbl.get d t q

/-- Set the value under a key, keeping the keys rising. -/
def Tbl.put {α : Type} : List (Nat × α) → Nat → α → List (Nat × α)
  | [], q, x => [(q, x)]
  | (k, v) :: t, q, x =>
    if q < k then (q, x) :: (k, v) :: t
    else if q = k then (q, x) :: t
    else (k, v) :: Tbl.put t q x

/-- Remove a key. -/
def Tbl.del {α : Type} : List (Nat × α) → Nat → List (Nat × α)
  | [], _ => []
  | (k, v) :: t, q => if k = q then t else (k, v) :: Tbl.del t q

/-- Is the key listed? -/
def Tbl.has {α : Type} : List (Nat × α) → Nat → Bool
  | [], _ => false
  | (k, _) :: t, q => (k == q) || Tbl.has t q

def Tbl.mod {α : Type} (d : α) (m : List (Nat × α)) (k : Nat) (f : α → α) : List (Nat × α) :=
  Tbl.put m k (f (Tbl.get d m k))

/-- Keys rise strictly. -/
def Tbl.sorted {α : Type} : List (Nat × α) → Bool
  | [] => true
  | (_, _) :: [] => true
  | (k, _) :: (k', v') :: t => decide (k < k') && Tbl.sorted ((k', v') :: t)

/-! ### Register fields (R508–R516) -/

/-- The key of a field in the register file. -/
def Field.key (f : Field) : Nat := f.addr * 32 + f.lo

/-- The value a field holds. -/
def State.rd (s : State) (f : Field) : Nat := Tbl.get f.reset s.regs f.key

/-- Store a value in a field, modulo its width. -/
def State.wr (s : State) (f : Field) (v : Nat) : State :=
  { s with regs := Tbl.put s.regs f.key (v % 2 ^ f.width) }

def State.isOn (s : State) (f : Field) : Bool := s.rd f == 1

/-- The two's-complement reading of a field. -/
def State.rdI (s : State) (f : Field) : Int := toSigned f.width (s.rd f)

/-- Store an integer in two's complement. -/
def State.wrI (s : State) (f : Field) (i : Int) : State := s.wr f (ofSigned f.width i)

def State.wrB (s : State) (f : Field) (b : Bool) : State := s.wr f (if b then 1 else 0)

/-- Store several fields, first to last. -/
def State.wrs (s : State) : List (Field × Nat) → State
  | [] => s
  | (f, v) :: t => (s.wr f v).wrs t

/-- A 64-bit value held in two word fields. -/
def State.rd64 (s : State) (lo hi : Field) : Nat := s.rd lo + two32 * s.rd hi

def State.wr64 (s : State) (lo hi : Field) (v : Nat) : State := (s.wr lo v).wr hi (v / two32)

/-- Keep a field in settings: its value survives every reset (R516). -/
def State.keep (s : State) (f : Field) : State :=
  { s with settings := Tbl.put s.settings f.key (s.rd f) }

/-- Write a field and keep the value in settings. -/
def State.wrKeep (s : State) (f : Field) (v : Nat) : State := (s.wr f v).keep f

/-- A key lies in the address window `[lo, hi)`. -/
def inWindow (lo hi k : Nat) : Bool := decide (lo * 32 ≤ k) && decide (k < hi * 32)

def Tbl.putAll : List (Nat × Nat) → List (Nat × Nat) → List (Nat × Nat)
  | m, [] => m
  | m, (k, v) :: t => Tbl.putAll (Tbl.put m k v) t

/-- Reset the registers of addresses `[lo, hi)` to their Reset values, then apply the settings held there (R516). -/
def State.resetRegs (s : State) (lo hi : Nat) : State :=
  { s with regs := Tbl.putAll (s.regs.filter fun p => !inWindow lo hi p.1) (s.settings.filter fun p => inWindow lo hi p.1) }

/-! ### W1C flags (R34–R37) -/

/-- Hardware sets a W1C flag: the flag reads 1 and its 16-bit counter increments and wraps (R34, R35). -/
def State.raise (s : State) (fl : Flag) : State :=
  let s1 := s.wr fl.bit 1
  s1.wr fl.cnt (s1.rd fl.cnt + 1)

/-- Software writes 1 to a W1C flag; `hw` says that hardware sets it in the same cycle, and the set wins (R34). -/
def State.clearFlag (s : State) (fl : Flag) (hw : Bool) : State :=
  if hw then s.raise fl else s.wr fl.bit 0

/-! ### Modes read from SYS_MODE (R38) -/

abbrev mSHELF : Nat := 0
abbrev mSTANDBY : Nat := 1
abbrev mREADY : Nat := 2
abbrev mRUN : Nat := 3
abbrev mSERVICE : Nat := 4
abbrev mLOCKOUT : Nat := 5

def State.mode (s : State) : Nat := s.rd F.SYS_MODE_MODE

/-! ### Corrected time (R348, R350) -/

/-- Corrected time in 2⁻³² ns for a counter value `c`. -/
def State.timeAt (s : State) (c : Nat) : Int :=
  s.time.offset + (c : Int) * 4 * 4294967296 + (c : Int) * 4 * s.rdI F.TIME_RATE_VALUE / 256

/-- Corrected time in ns. -/
def State.now (s : State) : Nat := (s.timeAt s.time.count / 4294967296).toNat

def State.taiValid (s : State) : Bool := s.isOn F.TIME_STATUS_TAI_VALID

/-- The TAI that a record carries: 0 while TAI_VALID is 0 (R350, R488). -/
def State.recTai (s : State) : Nat := if s.taiValid then s.now else 0

/-! ### Records and events (R386, R488–R494) -/

/-- The bridge between STF-P and STF-C carries records (R63, R494). -/
def State.bridgeUp (s : State) : Bool := s.pwr.ctl && !s.mbx.bridgeDown

/-- Post a record (R494).  It takes its stamp, mode and TAI now.  A record of the safety card waits in
STF-P while the bridge is down, beyond 1024 keeping the oldest 512 and the newest 512; a function of STF-C
writes nothing while the controller card is absent. -/
def State.post (s : State) (r : Rec) : State :=
  if r.fromStfP = false ∧ s.pwr.ctl = false then s
  else
    let seq := s.rd64 F.REC_SEQ_LO_VALUE F.REC_SEQ_HI_VALUE + (if r.system then 0 else 1)
    let r1 := { r with
      mode := s.mode, tai := s.recTai
      seq := if r.system then 0 else seq
      opMin := if r.system then s.rd F.REC_OPTIME_VALUE else 0
      cycles := if r.system then s.rd F.REC_POWER_CYCLES_VALUE else 0
      source := if r.fromStfP then 8 else r.source }
    let s1 := s.wr64 F.REC_SEQ_LO_VALUE F.REC_SEQ_HI_VALUE seq
    if r.fromStfP ∧ s.bridgeUp = false then
      if s1.recorder.stfpQ.length < 1024 then
        { s1 with recorder.stfpQ := s1.recorder.stfpQ ++ [r1] }
      else
        { s1 with recorder.stfpQ := s1.recorder.stfpQ.take 512 ++ s1.recorder.stfpQ.drop 513 ++ [r1]
                  recorder.omitted := s1.recorder.omitted + 1 }
    else { s1 with recorder.queue := s1.recorder.queue ++ [r1] }

/-- How a happening is recorded: class, status, index byte and detail bytes of a FLAG record (R490). -/
structure Note where
  system : Bool := false
  status : Status := .ok
  idx : Nat := 255
  stfP : Bool := false
  milestone : Bool := false
  detail : List Byte := []
  deriving DecidableEq, Repr

/-- Hardware sets a W1C flag, and the module posts the flag's record and raises its event (R34, R386, R490). -/
def State.flag (s : State) (fl : Flag) (n : Note := {}) : State :=
  let s1 := s.raise fl
  let sq := s1.recorder.evSeq
  let e : Ev := { addr := fl.bit.addr, bit := fl.bit.lo, status := n.status, mode := s1.mode, system := n.system,
                  seq := sq, time := s1.now, data := n.detail }
  let s2 := s1.post { kind := .flag, system := n.system, milestone := n.milestone, fromStfP := n.stfP, status := n.status
                      data := leBytes 4 fl.bit.addr ++ [fl.bit.lo, n.idx] ++ n.detail, ev := some sq }
  { s2 with recorder.evq := s2.recorder.evq ++ [e], recorder.evSeq := (sq + 1) % two32 }

/-- A flag that hardware sets `n` times in one step: one record, and a count for each (R34, R35). -/
def State.flagN (s : State) (fl : Flag) (n : Nat) : State :=
  if n = 0 then s
  else
    let s1 := s.flag fl {}
    s1.wr fl.cnt (s1.rd fl.cnt + (n - 1))

/-- Post a record of KIND DETAIL. -/
def State.detail (s : State) (system : Bool) (data : List Byte) (status : Status := .ok) (stfP : Bool := false)
    (milestone : Bool := false) : State :=
  s.post { kind := .detail, system := system, data := data, status := status, fromStfP := stfP, milestone := milestone }

/-- The counters that UNDERCOAT keeps of a resource (R501). -/
def State.ucCounters (s : State) (pool r : Nat) : List Nat :=
  match pool with
  | 0 => [s.rd (F.UC_CONV_DRIFT_VISITS (r % 256))]
  | 1 => [Tbl.get 0 s.recorder.cacheCorr r, (s.recorder.coreErr.filter fun p => p.1 == r).length]
  | 2 => [Tbl.get 0 s.recorder.rowLife r]
  | 3 => [Tbl.get 0 s.recorder.eraseCnt (1024 * (r / 65536) + r % 65536)]
  | _ => []

/-- Post a SPARING record (R490, R501): pool, action, resource replaced and resource taken. -/
def State.sparing (s : State) (pool action replaced taken : Nat) (milestone : Bool := false) : State :=
  s.post { kind := .sparing, system := true, milestone := milestone
           data := [pool, action] ++ leBytes 4 replaced ++ leBytes 4 taken ++ Config.sparingCounters pool replaced (s.ucCounters pool replaced) }

/-- Post a SESSION record (R490): port, 0 started 1 ended 2 refused, role set, reason, certificate serial. -/
def State.sessionRec (s : State) (port what roles reason cert : Nat) : State :=
  s.post { kind := .session, data := [port, what, roles, reason] ++ leBytes 16 cert }

/-! ### Host ports, sessions and roles (R452, R454) -/

def State.port (s : State) (p : Nat) : HostPort := if p = 0 then s.hrt.portA else s.hrt.portB

def State.setPort (s : State) (p : Nat) (h : HostPort) : State :=
  if p = 0 then { s with hrt.portA := h } else { s with hrt.portB := h }

abbrev rObserver : Nat := 1
abbrev rOperator : Nat := 2
abbrev rMaintainer : Nat := 4
abbrev rSafety : Nat := 8
abbrev rUpdate : Nat := 16

/-- The session of a port: host ports A and B, the service port (R454). -/
def State.session (s : State) (p : Nat) : Option Session :=
  if p = 2 then s.sec.service else (s.port p).session

/-- The role set of the sender on a port; internal commands carry every role (R490, port 3). -/
def State.portRoles (s : State) (p : Nat) : Nat :=
  if p = 3 then 31 else match s.session p with
    | some x => x.roles
    | none => 0

def State.portCert (s : State) (p : Nat) : Nat := match s.session p with
  | some x => x.cert
  | none => 0

/-! ### Rings: frames towards the host (R372, R379) -/

def used (p c : Nat) : Nat := (p + two32 - c % two32) % two32

def State.ring (s : State) (k : Nat) : Ring := Tbl.get {} s.hrt.rings k

def State.setRing (s : State) (k : Nat) (r : Ring) : State := { s with hrt.rings := Tbl.put s.hrt.rings k r }

def State.ringSize (s : State) (k : Nat) : Nat := 2 ^ s.rd (F.HRT_RING_CFG_SIZE_LOG2 k)

/-- A ring runs: rings on, this one enabled and not stopped by a region fault (R374, R377). -/
def State.ringOn (s : State) (k : Nat) : Bool :=
  s.isOn F.HRT_STATUS_RINGS_RUNNING && s.isOn (F.HRT_RING_CFG_ENABLE k) && !(s.ring k).stopped

/-- Free entries of a module-produced ring (R379). -/
def State.ringFree (s : State) (k : Nat) : Nat :=
  s.ringSize k - used (s.rd (F.HRT_RING_MOD_IDX_INDEX k)) (s.rd (F.HRT_RING_HOST_IDX_INDEX k))

/-- Queue a WRITE or NOTIFY frame under the next SEQ (R372). -/
def State.sendFrame (s : State) (b : FrameBody) : State :=
  { s with hrt.frames := s.hrt.frames ++ [{ seq := s.hrt.seq, body := b }], hrt.seq := (s.hrt.seq + 1) % two32 }

/-- Several frames in order. -/
def State.sendFrames (s : State) (bs : List FrameBody) : State :=
  { s with hrt.frames := s.hrt.frames ++ bs.zipIdx.map (fun p => { seq := (s.hrt.seq + p.2) % two32, body := p.1 })
           hrt.seq := (s.hrt.seq + bs.length) % two32 }

/-- Entries `[i, i + n)` of a ring of `size` entries in runs that one WRITE frame each carries: 1024 bytes, 16 entries, none across the
end of the ring (R371, R379). -/
def entryRuns (size : Nat) : Nat → Nat → Nat → List (Nat × Nat)
  | 0, _, _ => []
  | fuel + 1, i, n =>
    if n = 0 then []
    else
      let m := max 1 (min n (min 16 (size - i % size)))
      (i % two32, m) :: entryRuns size fuel (i + m) (n - m)

/-- The VLAN rule of a port (R368): untagged, or the one VLAN ID where VLAN_EN is 1. -/
def State.vlanOk (s : State) (vlan : Option Nat) : Bool :=
  match vlan with
  | none => true
  | some v => s.isOn F.HRT_PORT_CFG_VLAN_EN && v == s.rd F.HRT_PORT_CFG_VLAN_ID

/-- An HRT frame that a port takes (R368, R369, R371, R456): on its controlled port past the ICV and replay checks, of the key server, in a
known VERSION. -/
def State.frameOk (s : State) (p : Nat) (f : FrameIn) : Bool :=
  decide (p ≤ 1) && (s.port p).stage == .keyed && f.icvOk && decide ((s.port p).pn ≤ f.pn) && s.vlanOk f.vlan && f.source == (s.port p).server &&
  decide (f.length ≤ 1522) && f.version == 1

/-- The replay check moves on past an accepted frame, with a window of 0 (R456). -/
def State.frameTook (s : State) (p : Nat) (f : FrameIn) : State := s.setPort p { s.port p with pn := f.pn + 1 }

/-- A frame that the port does not take; an ICV failure counts. -/
def State.frameDrop (s : State) (p : Nat) (f : FrameIn) : State :=
  if p ≤ 1 ∧ (s.port p).stage = .keyed ∧ f.icvOk = false then s.wr (F.HRT_PORT_STATUS_ICV_ERR p) (s.rd (F.HRT_PORT_STATUS_ICV_ERR p) + 1) else s

/-- Announce a ring: NOTIFY with its MOD_IDX; the count of unannounced entries restarts (R387). -/
def State.notify (s : State) (k : Nat) : State :=
  let s1 := s.setRing k { s.ring k with unannounced := 0 }
  s1.sendFrame (.notify [(k, s.rd (F.HRT_RING_MOD_IDX_INDEX k))])

/-- Publish `n` entries of a module-produced ring: the entries, then the index, then the NOTIFY once
COAL_CNT entries are unannounced (R373, R387). -/
def State.publish (s : State) (k n : Nat) : State :=
  let i := s.rd (F.HRT_RING_MOD_IDX_INDEX k)
  let j := (i + n) % two32
  let s1 := ((s.sendFrames ((entryRuns (s.ringSize k) n i n).map fun r => .entries k r.1 r.2)).wr (F.HRT_RING_MOD_IDX_INDEX k) j).sendFrame
    (.modIdx k j)
  let u := (s1.ring k).unannounced + n
  let s2 := s1.setRing k { s1.ring k with unannounced := u }
  let c := s2.rd (F.HRT_RING_CFG_COAL_CNT k)
  if 0 < c ∧ c ≤ u then s2.notify k else s2

/-! ### Completions (R383–R385) -/

/-- Write the completions that wait while ring 1 has room. -/
def State.flushCompletions (s : State) : Nat → State
  | 0 => s
  | fuel + 1 =>
    match s.hrt.compWait with
    | [] => s
    | c :: t =>
      if 0 < s.ringFree 1 then
        State.flushCompletions
          (({ s with hrt.compWait := t, hrt.completions := s.hrt.completions ++ [c] } : State).publish 1 1) fuel
      else s

/-- A completion: written to ring 1 as it has room; while the rings are off it is discarded with a
traffic-class record (R377). -/
def State.emit (s : State) (c : Completion) : State :=
  if s.isOn F.HRT_STATUS_RINGS_RUNNING then
    let s1 : State := { s with hrt.compWait := s.hrt.compWait ++ [c] }
    s1.flushCompletions s1.hrt.compWait.length
  else s.post { kind := .command, status := c.status
                data := leBytes 2 c.opcode ++ [3, 0] ++ leBytes 4 c.tag ++ leBytes 16 0 ++ leBytes 4 c.index }

/-- The entries a transfer takes: its header and its data, 64 bytes each (R385). -/
def Transfer.entries (t : Transfer) : Nat := 1 + (t.len + 63) / 64

/-- Write bulk-out entries as ring 5 frees; a transfer's completion follows its last entry (R385). -/
def State.pumpBulk (s : State) : Nat → State
  | 0 => s
  | fuel + 1 =>
    match s.hrt.transfers with
    | [] => s
    | t :: ts =>
      let n := min (s.ringFree 5) (t.entries - t.written)
      let c := if t.written = 0 then { t.completion with bulkIndex := s.rd (F.HRT_RING_MOD_IDX_INDEX 5) } else t.completion
      let t1 := { t with written := t.written + n, completion := c }
      let s1 := if n = 0 then s else s.publish 5 n
      if t1.written = t.entries then
        State.pumpBulk (({ s1 with hrt.transfers := ts, hrt.transferred := s1.hrt.transferred ++ [t1] } : State).emit c) fuel
      else { s1 with hrt.transfers := t1 :: ts }

/-- The record of a command taken and not yet completed. -/
def State.takenOf (s : State) (op tag : Nat) : Option Taken :=
  s.hrt.taken.find? fun t => t.opcode == op && t.tag == tag

def State.cmdIndex (s : State) (op tag : Nat) : Nat := match s.takenOf op tag with
  | some t => t.index
  | none => 0

/-- Consume bulk-in entries; those not yet posted are skipped as the host posts them (R383). -/
def State.bulkConsume (s : State) (n : Nat) : State :=
  let m := s.rd (F.HRT_RING_MOD_IDX_INDEX 4)
  let k := min n (used (s.rd (F.HRT_RING_HOST_IDX_INDEX 4)) m)
  let s1 : State := { s with hrt.bulkSkip := n - k }
  if k = 0 then s1
  else (s1.wr (F.HRT_RING_MOD_IDX_INDEX 4) ((m + k) % two32)).sendFrame (.modIdx 4 ((m + k) % two32))

/-- Forget a taken command; its bulk data are consumed from the bulk-in ring (R383). -/
def State.untake (s : State) (op tag : Nat) : State :=
  match s.takenOf op tag with
  | none => s
  | some t =>
    let n := (t.bulkLen + 63) / 64
    let s1 : State := { s with hrt.taken := s.hrt.taken.erase t }
    if n = 0 then s1 else s1.bulkConsume (s1.hrt.bulkSkip + n)

/-- The completion of a command that waited without an ACCEPTED (R396): its only one. -/
def State.waitDone (s : State) (op : Nat) (st : Status) : State :=
  match s.hrt.taken.find? fun t => t.opcode == op with
  | some t =>
    ({ s with hrt.taken := s.hrt.taken.erase t } : State).emit
      { opcode := op, status := st, mode := s.mode, tag := t.tag, index := t.index, kind := 0, time := s.now }
  | none => s

/-- Complete a command with its only or final completion and result fields. -/
def State.complete (s : State) (op tag : Nat) (kind : Nat) (st : Status) (res : List Int := []) (idx : Nat := 0) : State :=
  s.emit { opcode := op, status := st, mode := s.mode, tag := tag, index := idx, kind := kind, time := s.now, result := res }

/-- Complete with a bulk-out transfer of `len` bytes in front (R385). -/
def State.completeBulk (s : State) (op tag : Nat) (kind : Nat) (res : List Int) (idx len : Nat) (data : List Int)
    (st : Status := .ok) : State :=
  let c : Completion := { opcode := op, status := st, mode := s.mode, tag := tag, index := idx, kind := kind, time := s.now
                          bulkLen := len, result := res }
  if s.isOn F.HRT_STATUS_RINGS_RUNNING then
    let s1 : State := { s with hrt.transfers := s.hrt.transfers ++ [{ opcode := op, tag := tag, len := len, data := data, completion := c }] }
    s1.pumpBulk s1.hrt.transfers.length
  else s.emit c

/-- Open operations of an opcode and key (R44). -/
def State.opOf (s : State) (op key : Nat) : Option Op :=
  s.hrt.ops.find? fun o => o.opcode == op && o.key == key

def State.hasOp (s : State) (op : Nat) : Bool := s.hrt.ops.any fun o => o.opcode == op

/-- End the open operation of an opcode and key with its final completion; nothing where none is open. -/
def State.finish (s : State) (op key : Nat) (st : Status) (res : List Int := []) : State :=
  match s.opOf op key with
  | none => s
  | some o => ({ s with hrt.ops := s.hrt.ops.erase o } : State).complete o.opcode o.tag 2 st res o.index

/-- As `finish`, with a bulk-out transfer before the final completion. -/
def State.finishBulk (s : State) (op key : Nat) (res : List Int) (len : Nat) (data : List Int) (st : Status := .ok) : State :=
  match s.opOf op key with
  | none => s
  | some o => ({ s with hrt.ops := s.hrt.ops.erase o } : State).completeBulk o.opcode o.tag 2 res o.index len data st

/-- End every open operation of an opcode. -/
def State.finishAll (s : State) (op : Nat) (st : Status) : State :=
  (s.hrt.ops.filter fun o => o.opcode == op).foldl (fun s o => s.finish op o.key st) s

end Sys2Proof.Machine
end

