-- ==== Sys2Proof/Machine/Operands.lean ====
section
/-! DEFINITION. The operand forms: who may send a command, in which modes it is legal, the order of the
checks (R33, R42–R45, R454, R459), and reads and writes of register words through the register table
(R508–R516). -/

namespace Sys2Proof.Machine

/-! ### Legality and roles of the opcodes -/

abbrev allModes : List Nat := [mSTANDBY, mREADY, mRUN, mSERVICE, mLOCKOUT]
abbrev notLockout : List Nat := [mSTANDBY, mREADY, mRUN, mSERVICE]

/-- Opcodes of the ranges that R42 marks P in LOCKOUT and that are legal there. -/
def lockoutLegal : List Nat :=
  [0x0203, 0x0204, 0x0205, 0x0207, 0x0208, 0x0209, 0x020A, 0x020B, 0x0401, 0x0402, 0x0408,
   0x0601, 0x0603, 0x0608, 0x0701, 0x0703, 0x0704, 0x0708, 0x0F03, 0x0F05, 0x0F08, 0x0F0A, 0x0F0C, 0x0F0D]

/-- The modes in which an opcode is legal (R42 and the tables of the chapters). -/
def legalModes (op : Nat) : List Nat :=
  match op / 256 with
  | 0x01 => if op = 0x0101 then notLockout else if op = 0x0103 then [mSTANDBY, mSERVICE, mLOCKOUT] else allModes
  | 0x02 | 0x04 | 0x06 | 0x0F => if lockoutLegal.contains op then allModes else notLockout
  | 0x03 => notLockout
  | 0x05 =>
    if op = 0x0503 ∨ op = 0x0504 ∨ op = 0x0506 then [mRUN]
    else if op = 0x0505 then [mRUN, mSERVICE] else notLockout
  | 0x07 =>
    if op = 0x0702 then [mSERVICE]
    else if op = 0x0704 then [mSTANDBY, mSERVICE, mLOCKOUT]
    else if op = 0x0705 ∨ op = 0x0707 then [mSTANDBY, mSERVICE]
    else if op = 0x0706 then notLockout else allModes
  | 0x08 | 0x09 | 0x0A | 0x0B | 0x0D => allModes
  | 0x0C => if op = 0x0C05 then notLockout else allModes
  | 0x0E =>
    if op = 0x0E01 ∨ op = 0x0E02 then [mSTANDBY]
    else if op = 0x0E05 then [mSTANDBY, mLOCKOUT]
    else if op = 0x0E06 then notLockout
    else if op = 0x0E07 then [mSTANDBY, mSERVICE]
    else if op = 0x0E08 then [mSTANDBY, mSERVICE, mLOCKOUT] else allModes
  | 0x10 =>
    if op = 0x1002 then [mSTANDBY, mSERVICE] else if op = 0x1003 then notLockout else allModes
  | _ => []

/-- The string is closed (R268). -/
def State.closed (s : State) : Bool := s.isOn F.SAFE_STATUS_STRING_CLOSED

/-- Legality of an opcode in a mode, with the string's state where a chapter names it (R45, R265). -/
def legal (op mode : Nat) (closed : Bool) : Bool :=
  (legalModes op).contains mode &&
  !(mode == mSERVICE && ((op == 0x0103 && closed) || (op == 0x1002 && closed) || (op == 0x0505 && !closed)))

/-- The last command number of each area (R399). -/
def lastOpcode (area : Nat) : Nat :=
  match area with
  | 0x01 => 8 | 0x02 => 12 | 0x03 => 7 | 0x04 => 9 | 0x05 => 7 | 0x06 => 9 | 0x07 => 8 | 0x08 => 6 | 0x09 => 8
  | 0x0A => 7 | 0x0B => 5 | 0x0C => 8 | 0x0D => 8 | 0x0E => 8 | 0x0F => 13 | 0x10 => 3 | _ => 0

/-- Some chapter defines the opcode (R399). -/
def opcodeKnown (op : Nat) : Bool := decide (1 ≤ op % 256) && decide (op % 256 ≤ lastOpcode (op / 256))

/-- The role an opcode needs, by the chapters' tables; where an argument raises it, the command says so. -/
def roleOf (op : Nat) : Nat :=
  if [0x0104, 0x0105, 0x0205, 0x0208, 0x020A, 0x0305, 0x0307, 0x0401, 0x0402, 0x0501, 0x0601, 0x0701, 0x0801, 0x0806,
      0x0901, 0x0907, 0x0A01, 0x0A05, 0x0B01, 0x0B02, 0x0C01, 0x0D01, 0x0D02, 0x0D03, 0x0E03, 0x0E04, 0x0F05, 0x0F0A,
      0x0F0C, 0x0F0D, 0x1001].contains op then rObserver
  else if [0x0101, 0x0102, 0x0106, 0x0107, 0x0108, 0x0201, 0x020C, 0x0301, 0x0302, 0x0303, 0x0404, 0x0502, 0x0503, 0x0504,
      0x0505, 0x0603, 0x0703, 0x0804, 0x0805, 0x0903, 0x0904, 0x0905, 0x0906, 0x0908, 0x0A03, 0x0A04, 0x0B03, 0x0E06,
      0x1003].contains op then rOperator
  else if op / 256 = 0x0C then rUpdate
  else if op = 0x0E01 ∨ op = 0x0E02 ∨ op = 0x0E05 then rSafety
  else rMaintainer

def hasRole (roles role : Nat) : Bool := roles / role % 2 == 1

/-! ### Running a host command -/

/-- What a command's own part answers once the checks of R33 up to the mode have passed. -/
inductive CmdRes where
  /-- Refused: no side effect but the completion and the record (R33). -/
  | refuse (st : Status)
  /-- Ended at once with a status other than OK after it has had an effect. -/
  | fail (s : State) (st : Status)
  /-- Done at once. -/
  | done (s : State) (res : List Int)
  /-- Done at once, with a bulk-out transfer of `len` bytes. -/
  | bulk (s : State) (res : List Int) (len : Nat) (data : List Int)
  /-- Under way: ACCEPTED now, the final completion later (R44). -/
  | accept (s : State) (key : Nat) (res : List Int)
  /-- Not yet done, without an ACCEPTED: its only completion comes later, and no command is taken before it. -/
  | wait (s : State)

/-- The mode, the role set and the ring index a command is judged by: those of its taking (R44, R395). -/
def State.cmdMode (s : State) (op : Nat) (h : Hdr) : Nat := match s.takenOf op h.tag with
  | some t => t.mode
  | none => s.mode

def State.cmdRoles (s : State) (op : Nat) (h : Hdr) : Nat := match s.takenOf op h.tag with
  | some t => t.roles
  | none => s.portRoles h.port

/-- A COMMAND record (R490). -/
def State.cmdRec (s : State) (op : Nat) (h : Hdr) (st : Status) (system : Bool := false) (detail : List Byte := [])
    (milestone : Bool := false) : State :=
  s.post { kind := .command, system := system, status := st, milestone := milestone
           data := leBytes 2 op ++ [h.port, s.cmdRoles op h] ++ leBytes 4 h.tag ++ leBytes 16 (s.portCert h.port)
             ++ leBytes 4 (s.cmdIndex op h.tag) ++ detail }

/-- The first refusal of a list of conditions in the order of R33. -/
def firstRefusal : List (Bool × Status) → Option Status
  | [] => none
  | (b, st) :: t => if b then some st else firstRefusal t

/-- AUTH, ROLE, the command's own PARAM and RANGE checks, then the mode (R33, R42, R454). -/
def State.refusal (s : State) (op role : Nat) (h : Hdr) (pre : List (Bool × Status)) : Option Status :=
  firstRefusal <|
    [(s.isOn F.SEC_STATUS_TAMPER_LATCHED && (role == rSafety || role == rUpdate), .auth),
     (!hasRole (s.cmdRoles op h) role, .role)]
    ++ pre.filter (fun p => p.2 == .auth) ++ pre.filter (fun p => p.2 == .param) ++ pre.filter (fun p => p.2 == .range)
    ++ [(!legal op (s.cmdMode op h) s.closed, .state)]

/-- Commands that are not reads and need Maintainer, Safety Officer or Update Authority are audited (R459). -/
def audited (role : Nat) : Bool := role == rMaintainer || role == rSafety || role == rUpdate

/-- Refuse a command: its completion, the security flag for AUTH and ROLE (R454), and the traffic-class
record that R43, R454 or R459 asks for. -/
def State.refuseCmd (s : State) (op role : Nat) (h : Hdr) (st : Status) : State :=
  let i := s.cmdIndex op h.tag
  let s1 := if st = .auth then s.raise Fl.SEC_EVENT_AUTH_FAIL
            else if st = .role then s.raise Fl.SEC_EVENT_ROLE_DENIED else s
  let s2 := if st = .auth ∨ st = .role ∨ st = .state ∨ audited role then s1.cmdRec op h st else s1
  (s2.untake op h.tag).complete op h.tag 0 st [] i

/-- Write a command's completion (R383–R385) after its own part has answered. -/
def State.answer (s : State) (op role : Nat) (h : Hdr) : CmdRes → State
  | .refuse st => s.refuseCmd op role h st
  | .fail s1 st =>
    let i := s.cmdIndex op h.tag
    let s2 := if audited role then s1.cmdRec op h st else s1
    (s2.untake op h.tag).complete op h.tag 0 st [] i
  | .done s1 res =>
    let i := s.cmdIndex op h.tag
    let s2 := if audited role then s1.cmdRec op h .ok else s1
    (s2.untake op h.tag).complete op h.tag 0 .ok res i
  | .bulk s1 res len data =>
    let i := s.cmdIndex op h.tag
    let s2 := if audited role then s1.cmdRec op h .ok else s1
    (s2.untake op h.tag).completeBulk op h.tag 0 res i len data
  | .accept s1 key res =>
    let i := s.cmdIndex op h.tag
    let s2 := if audited role then s1.cmdRec op h .accepted else s1
    let s3 : State := { s2.untake op h.tag with
      hrt.ops := (s2.untake op h.tag).hrt.ops ++ [{ opcode := op, tag := h.tag, index := i, port := h.port, key := key }] }
    s3.complete op h.tag 1 .accepted res i
  | .wait s1 =>
    match s1.takenOf op h.tag with
    | some _ => s1
    | none => { s1 with hrt.taken := s1.hrt.taken ++
                  [{ opcode := op, tag := h.tag, index := 0, mode := s.mode, roles := s.portRoles h.port, port := h.port }] }

/-- Run a host command: the checks of R33 in order, then its own part. -/
def State.command (s : State) (op role : Nat) (h : Hdr) (pre : List (Bool × Status)) (body : State → CmdRes) : State :=
  match s.refusal op role h pre with
  | some st => s.refuseCmd op role h st
  | none => s.answer op role h (body s)

/-- Answer with words of 4 bytes: up to eight in the completion's result, more as a bulk-out transfer (R384, R385). -/
def ret (s : State) (ws : List Int) : CmdRes := if ws.length ≤ 8 then .done s ws else .bulk s [] (4 * ws.length) ws

/-! ### Fitted cells, segments and NTCs (R2, R7–R9) -/

/-- Fitted segments, slots 1 to 26. -/
def State.segs (s : State) : Nat := min 26 (s.rd F.SYS_ID_SEG_FITTED)

def State.segOk (s : State) (k : Nat) : Bool := decide (1 ≤ k) && decide (k ≤ s.segs)

def State.cellOk (s : State) (c : Nat) : Bool := decide (1 ≤ c) && decide (c ≤ 16 * s.segs)

def segOfCell (c : Nat) : Nat := (c - 1) / 16 + 1

def posOfCell (c : Nat) : Nat := (c - 1) % 16 + 1

def cellOf (k j : Nat) : Nat := (k - 1) * 16 + j

/-- The numbers from `a` on, `n` of them. -/
def numbersFrom : Nat → Nat → List Nat
  | _, 0 => []
  | a, n + 1 => a :: numbersFrom (a + 1) n

def State.segList (s : State) : List Nat := numbersFrom 1 s.segs

/-! ### Reading and writing register words (R508–R513) -/

/-- The indices of an address within a row's dimensions, where the address is one of the row's words. -/
def rowIndex : List (Nat × Nat) → Nat → Option (List Nat)
  | [], off => if off = 0 then some [] else none
  | (st, n) :: ds, off =>
    if off / st < n then (rowIndex ds (off % st)).map fun is => off / st :: is else none

/-- The row of the register table that an address belongs to. -/
def findRow (addr : Nat) : List RegRow → Option RegRow
  | [] => none
  | r :: rs =>
    if r.base ≤ addr ∧ (rowIndex r.dims (addr - r.base)).isSome then some r else findRow addr rs

/-- The word a row's fields make at an address. -/
def State.packWord (s : State) (addr : Nat) : List FieldSpec → Nat
  | [] => 0
  | f :: fs => s.rd (f.at addr) * 2 ^ f.lo + s.packWord addr fs

/-- The value of a register word, and RANGE for an unassigned address (R509, R513). -/
def State.readWord (s : State) (addr : Nat) : Nat × Status :=
  if addr % 4 ≠ 0 then (0, .param)
  else match findRow addr regTable with
    | none => (0, .range)
    | some r => (s.packWord addr r.fields, .ok)

def fieldBits (f : FieldSpec) (w : Nat) : Nat := w / 2 ^ f.lo % 2 ^ f.width

/-- MBX is the only block with lockable fields (R510); its lock bit. -/
def State.locked (s : State) : Bool := s.isOn F.MBX_LOCK_LOCK

/-- A written word touches a field that may not be written: RO, locked RWL or reserved (R511). -/
def State.touchesRo (s : State) (addr w : Nat) (fs : List FieldSpec) : Bool :=
  fs.any (fun f => (f.acc == .ro || (f.acc == .rwl && s.locked)) && fieldBits f w != s.rd (f.at addr)) ||
  (w != (fs.map fun f => fieldBits f w * 2 ^ f.lo).sum)

/-- The value a written field takes: the "reads as" value where one is named (R512). -/
def stored (f : FieldSpec) (v : Nat) : Nat :=
  match f.readsAs.find? fun p => decide (p.1 ≤ v) && decide (v ≤ p.2.1) with
  | some p => p.2.2
  | none => v

/-- A written field lies outside its stated range and no "reads as" value is named (R512). -/
def outOfRange (f : FieldSpec) (v : Nat) : Bool :=
  (f.acc == .rw || f.acc == .rwl) && !(decide (f.min ≤ v) && decide (v ≤ f.max)) &&
  !(f.readsAs.any fun p => decide (p.1 ≤ v) && decide (v ≤ p.2.1))

/-- Store the RW fields of a written word and set its W1S bits; W1C bits are cleared (R510, R34). -/
def State.storeWord (s : State) (addr w : Nat) : List FieldSpec → State
  | [] => s
  | f :: fs =>
    let v := fieldBits f w
    let s1 := match f.acc with
      | .rw => if f.kept then s.wrKeep (f.at addr) (stored f v) else s.wr (f.at addr) (stored f v)
      | .rwl => if s.locked then s else s.wr (f.at addr) (stored f v)
      | .w1s => if v = 0 then s else s.wr (f.at addr) (v ||| s.rd (f.at addr))
      | .w1c => s.wr (f.at addr) (s.rd (f.at addr) &&& (2 ^ f.width - 1 - v))
      | .ro => s
    s1.storeWord addr w fs

/-- The block windows whose registers are read-only to the host: SAFE (R308) and MBX (R446). -/
def hostReadOnly (addr : Nat) : Bool :=
  (decide (0x90000 ≤ addr) && decide (addr < 0xA0000)) || (decide (0xE0000 ≤ addr) && decide (addr < 0xF0000))

/-- The segment slot that an indexed instance of a register belongs to, 0 for none (R517). -/
def slotOfAddr (addr : Nat) : Nat :=
  let d (lo st : Nat) : Nat := if lo ≤ addr ∧ addr < lo + 26 * st then (addr - lo) / st + 1 else 0
  d 0x40100 4 + d 0x40200 4 + d 0x40300 4 + d 0x40400 4 + d 0x50100 16 + d 0x50400 36 + d 0x50800 4 + d 0x120100 4

/-- What the register table says against a write, in the order of R33 (R509, R511, R512, R517). -/
def State.tableCheck (s : State) (addr w : Nat) : Option Status :=
  if addr % 4 ≠ 0 then some .param
  else match findRow addr regTable with
    | none => some .range
    | some r =>
      if s.touchesRo addr w r.fields then some .param
      else if s.segs < slotOfAddr addr then some .range
      else if r.fields.any fun f => outOfRange f (fieldBits f w) then some .range
      else none

/-- The same for a host, to whom whole blocks are read-only (R308, R446, R509). -/
def State.writeCheck (s : State) (addr w : Nat) : Option Status :=
  if hostReadOnly addr then some .param else s.tableCheck addr w

/-- Store a checked word. -/
def State.writeStore (s : State) (addr w : Nat) : State :=
  match findRow addr regTable with
  | none => s
  | some r => s.storeWord addr w r.fields

/-- The words of a list of addresses, as result fields. -/
def State.words (s : State) (as : List Nat) : List Int := as.map fun a => ((s.readWord a).1 : Int)

/-- `n` consecutive words from an address. -/
def State.wordsFrom (s : State) (a n : Nat) : List Int := (numbersFrom 0 n).map fun i => ((s.readWord (a + 4 * i)).1 : Int)

/-! ### CRC-32C (reflected polynomial 0x82F63B78) -/

def crcBit (c : Nat) : Nat := if c % 2 = 1 then (c / 2) ^^^ 0x82F63B78 else c / 2

def crcByte (c b : Nat) : Nat :=
  crcBit (crcBit (crcBit (crcBit (crcBit (crcBit (crcBit (crcBit (c ^^^ (b % 256)))))))))

def crcFold : Nat → List Byte → Nat
  | c, [] => c
  | c, b :: bs => crcFold (crcByte c b) bs

def crc32c (bs : List Byte) : Nat := crcFold 0xFFFFFFFF bs ^^^ 0xFFFFFFFF

/-- The words of a byte list, little-endian. -/
def wordsOf : Nat → List Byte → List Int
  | 0, _ => []
  | n + 1, b => (ofLe (b.take 4) : Int) :: wordsOf n (b.drop 4)

/-! ### Fields of a byte block -/

def u8 (b : List Byte) (i : Nat) : Nat := b.getD i 0 % 256

def u16 (b : List Byte) (i : Nat) : Nat := u8 b i + 256 * u8 b (i + 1)

def u32 (b : List Byte) (i : Nat) : Nat := u16 b i + 65536 * u16 b (i + 2)

def i16 (b : List Byte) (i : Nat) : Int := toSigned 16 (u16 b i)

def i8 (b : List Byte) (i : Nat) : Int := toSigned 8 (u8 b i)

/-- Bytes `[i, i + n)` of a block. -/
def slice (b : List Byte) (i n : Nat) : List Byte := (b.drop i).take n

/-- The parameters of R300 by byte offset. -/
def pGeneration (b : List Byte) : Nat := u32 b 8
def pSvwMax (b : List Byte) : Nat := u16 b 32
def pSvwMin (b : List Byte) : Nat := u16 b 34
def pSvwHyst (b : List Byte) : Nat := u8 b 37
def pPairMargin (b : List Byte) : Nat := u8 b 41
def pSlcMax (b : List Byte) : Nat := u16 b 46
def pSlcPeak (b : List Byte) : Nat := u16 b 50
def pHallMax (b : List Byte) : Nat := u16 b 52
def pHallPeak (b : List Byte) : Nat := u16 b 56
def pSdiTol (b : List Byte) : Nat := u16 b 58
def pSvcMax (b : List Byte) : Nat := u16 b 62
def pStwMax (b : List Byte) : Int := i16 b 64
def pStwMin (b : List Byte) : Int := i16 b 66
def pStwMinChg (b : List Byte) : Int := i16 b 68
def pStartMax (b : List Byte) : Int := i16 b 70
def pStartMin (b : List Byte) : Int := i16 b 72
def pNtcBeta (b : List Byte) : Nat := u16 b 78
def pNtcRnom (b : List Byte) : Nat := u16 b 80
def pRShunt (b : List Byte) : Nat := u16 b 82
def pHallFs (b : List Byte) : Nat := u16 b 86
def pWithdrawS (b : List Byte) : Nat := u16 b 92
def pNtcMask (b : List Byte) (n : Nat) : Bool := u8 b (96 + (n - 1) / 8) / 2 ^ ((n - 1) % 8) % 2 == 1
def pRPc (b : List Byte) : Nat := u16 b 122
def pPcDone (b : List Byte) : Nat := u16 b 126
def pPcWeld (b : List Byte) : Nat := u16 b 128
def pPcEmax (b : List Byte) : Nat := u16 b 130
def pInClass (b : List Byte) (i : Nat) : Nat := u8 b (136 + 5 * (i - 1))
def pInFn (b : List Byte) (i : Nat) : Nat := u8 b (137 + 5 * (i - 1))
def pInT (b : List Byte) (i : Nat) : Nat := u8 b (138 + 5 * (i - 1))
def pInDisc (b : List Byte) (i : Nat) : Nat := u16 b (139 + 5 * (i - 1))

def popcount : Nat → Nat → Nat
  | 0, _ => 0
  | k + 1, n => n % 2 + popcount k (n / 2)

end Sys2Proof.Machine
end

