-- ==== Sys2Proof/Machine/Power.lean ====
section
/-! DEFINITION. The power states that a mode allows and FLOOR (R49–R52, R150, R175, R344). -/

namespace Sys2Proof.Machine

/-! ### Power states (R49–R52) -/

/-- Exit latency of P1–P3 in µs (R49). -/
def exitLatency : Nat → Nat
  | 1 => 50 | 2 => 2000 | 3 => 40000 | _ => 0

/-- Is a power state allowed in a mode (R49)? -/
def pstateAllowed (p mode : Nat) : Bool :=
  match p with
  | 0 | 1 => mode != mSHELF
  | 2 => mode == mSTANDBY || mode == mREADY || mode == mLOCKOUT
  | 3 => mode == mSTANDBY || mode == mREADY
  | 4 => mode == mSHELF
  | _ => false

/-- The deepest power state that the tolerance and the mode allow (R50); P4 only in SHELF. -/
def powerFloor (mode tol : Nat) : Nat :=
  if mode = mSHELF then 4
  else
    let fits (p : Nat) : Bool := pstateAllowed p mode && decide (exitLatency p ≤ tol)
    if fits 3 then 3 else if fits 2 then 2 else if fits 1 then 1 else 0

/-- Domains on in a power state, of those that came up (R49, R53); MOT goes off in P2 and P3 only with both
axes at rest without holding current. -/
def domainsOn (p : Nat) (motIdle : Bool) : Nat :=
  match p with
  | 2 | 3 => if motIdle then 0x17DF else 0x1FDF
  | 4 => 0x0441
  | _ => 0x1FFF

/-- Both axes stand at rest with zero holding current (R49). -/
def State.motIdle (s : State) : Bool :=
  [0, 1].all fun x =>
    let st := s.rd (F.MOT_STATE_STATE x)
    st == 0 || st == 5 || (st == 1 && s.rd (F.MOT_CURRENT_HOLD x) == 0)

/-- The islands of the variant (R2, R53). -/
def State.islands (s : State) : Nat := 2 ^ s.segs - 1

/-- The motion card passes its positions to STF-C before the MOT domain goes off (R344). -/
def State.motSave (s : State) : State :=
  [0, 1].foldl (fun s x => { s with mot.saved := Tbl.put s.mot.saved x (s.rdI (F.MOT_POS_VALUE x), s.isOn (F.MOT_STATE_HOMED x)) }) s

/-- Bit of the MOT domain in PWR_DOM_ON. -/
abbrev domMOT : Nat := 11

/-! ### The role of the insulation monitor (R168–R170) -/

/-- The monitor may inject by R169: on its own string, as bank master, or as candidate; not in P4. -/
def State.isoMay (s : State) : Bool :=
  s.isOn F.CIM_ISO_CTRL_ENABLE && s.rd F.PWR_STATE_STATE != 4 &&
  (!s.closed || !s.isOn F.CIM_ISO_CTRL_BANK_COORD || s.rd F.BANK_CFG_SIZE_M1 == 0 || s.rd F.BANK_CFG_POSITION == 0 || s.cim.candidate)

/-- It injects once it has listened and hears no other injector (R170). -/
def State.isoInjects (s : State) : Bool := s.isoMay && !s.cim.listening && !s.cim.foreign

/-- A bank result has been received within 120 s (R169). -/
def State.bankFresh (s : State) : Bool := match s.cim.bankRes with | some r => decide (s.time.count < r.1 + 30000000000) | none => false

/-- ROLE as R169 and the register describe it; a monitor that comes to inject listens for a half period first (R170). -/
def State.isoRole (s : State) : State :=
  let s1 : State :=
    if !s.isoMay then { s with cim.listening := false, cim.foreign := false }
    else if s.rd F.CIM_ISO_STATUS_ROLE = 1 ∨ s.cim.foreign = true then s
    else { s with cim.listening := true, cim.positive := true, cim.firstHalf := none }
  let r :=
    if !s.isOn F.CIM_ISO_CTRL_ENABLE || s.rd F.PWR_STATE_STATE == 4 then 0
    else if s1.isoInjects then 1
    else if !s.isoMay && s.bankFresh then 3 else 2
  s1.wr F.CIM_ISO_STATUS_ROLE r

/-- No result: the markers of R6. -/
def State.isoMarker (s : State) : State :=
  s.wrs [(F.CIM_ISO_RP_VALUE, 0xFFFFFFFF), (F.CIM_ISO_RPOS_VALUE, 0xFFFFFFFF), (F.CIM_ISO_RNEG_VALUE, 0xFFFFFFFF),
    (F.CIM_ISO_CAP_VALUE, 0xFFFFFFFF)]

/-- The module is a closed string of a bank whose monitors are coordinated (R169). -/
def State.isoBank (s : State) : Bool := s.closed && s.isOn F.CIM_ISO_CTRL_BANK_COORD && s.rd F.BANK_CFG_SIZE_M1 != 0

/-- What a passive follower reports: the master's bank result of the last 120 s, else the marker (R169). -/
def State.isoReport (s : State) : State :=
  match s.cim.bankRes with
  | some r =>
    if s.bankFresh then
      s.wrs [(F.CIM_ISO_RP_VALUE, r.2.getD 0 0), (F.CIM_ISO_RPOS_VALUE, r.2.getD 1 0), (F.CIM_ISO_RNEG_VALUE, r.2.getD 2 0),
        (F.CIM_ISO_CAP_VALUE, r.2.getD 3 0), (F.CIM_ISO_STATUS_STALE, 0), (F.CIM_ISO_STATUS_AGE_S, 0)]
    else s.isoMarker
  | none => s.isoMarker

/-- The string has closed or opened: the roles of R169; who closes into a bank listens before it injects there (R170). -/
def State.isoString (s : State) : State :=
  let s1 : State := { s with cim.candidate := false }
  if !s.isoBank then s1.isoRole
  else
    let s2 := s1.wr F.CIM_ISO_STATUS_ROLE 2
    (if s.rd F.BANK_CFG_POSITION = 0 then s2 else s2.isoReport).isoRole

/-- Enter a power state: PWR_STATE and the domain registers follow (R49, R53); domains that did not come up (R55) or that
STF-P holds off (R322) stay off; a domain that goes off in P4 has its next start before it. -/
def State.enterPower (s : State) (p : Nat) : State :=
  let on := domainsOn p s.motIdle
  let off := s.pwr.domFault ||| s.pwr.held
  let s0 := if s.rd F.PWR_DOM_ON_DOM / 2 ^ domMOT % 2 = 1 ∧ on / 2 ^ domMOT % 2 = 0 then s.motSave else s
  let s1 := (s0.wr F.PWR_STATE_STATE p).wr F.PWR_DOM_ON_DOM (on - (on &&& off))
  (if p = 4 then ({ s1 with pwr.domFault := s.pwr.domFault &&& 0x441 } : State).wr F.PWR_SEG_ON_ISLAND 0 else s1).isoRole

/-- The deepest state that balancing leaves open (R150): P1 under a campaign of kind 2, P2 with a duty in force. -/
def State.balFloor (s : State) : Nat :=
  match s.bal.campaign with
  | some c => if c.kind = 2 then 1 else if s.bal.cards.any fun p => p.2.duties.any (· != 0) then 2 else 4
  | none => if s.bal.cards.any fun p => p.2.duties.any (· != 0) then 2 else 4

/-- An axis moves, or holds with a non-zero current (R344). -/
def State.motBusy (s : State) : Bool :=
  [0, 1].any fun x =>
    let st := s.rd (F.MOT_STATE_STATE x)
    st == 2 || st == 3 || st == 4 || (st == 1 && s.rd (F.MOT_CURRENT_HOLD x) != 0)

/-- Recompute FLOOR (R50): P1 at most while a kernel is enabled (R175) or an axis moves or holds (R344). -/
def State.setFloor (s : State) : State :=
  let p1 := if s.rd F.SE_STATUS_ENABLED != 0 || s.motBusy then 1 else 4
  s.wr F.PWR_STATE_FLOOR (min p1 (min s.balFloor (powerFloor s.mode (s.rd F.PWR_LAT_TOL_TOL_US))))

end Sys2Proof.Machine
end

