-- ==== Sys2Proof/Machine/Campaign.lean ====
section
/-! DEFINITION. The balancing paths of a card and the campaigns (R136, R148–R150), which a mode transition ends or starts. -/

namespace Sys2Proof.Machine

def State.segOf (s : State) (k : Nat) : Seg := Tbl.get {} s.seg.segs k

def State.setSeg (s : State) (k : Nat) (x : Seg) : State := { s with seg.segs := Tbl.put s.seg.segs k x }

def State.modSeg (s : State) (k : Nat) (f : Seg → Seg) : State := s.setSeg k (f (s.segOf k))

def State.balCard (s : State) (k : Nat) : BalCard := Tbl.get {} s.bal.cards k

def State.setBal (s : State) (k : Nat) (b : BalCard) : State := { s with bal.cards := Tbl.put s.bal.cards k b }

/-- Every path of a card off at once. -/
def State.pathsOff (s : State) (k : Nat) : State := s.setBal k { s.balCard k with on := 0, free := 0, pls := 0 }

/-- Every path of every card off (R136, LOCKOUT). -/
def State.allPathsOff (s : State) : State := s.segList.foldl (fun s k => s.pathsOff k) s

/-! ### Campaigns (R148–R150) -/

/-- The firmware wants every duty 0, from the next period on. -/
def State.zeroDuties (s : State) : State :=
  s.segList.foldl (fun s k => s.setBal k { s.balCard k with received := some (List.replicate 16 0) })
    { s with bal.want := [] }

/-- The running campaign ends for any reason (R148, R150). -/
def State.endCampaign (s : State) (st : Status) : State :=
  match s.bal.campaign with
  | none => s
  | some _ =>
    let s1 := ({ s.zeroDuties with bal.campaign := none } : State).wrs [(F.BAL_STATUS_CAMPAIGN_ACTIVE, 0), (F.BAL_STATUS_KIND, 0)]
    ((s1.flag Fl.BAL_EVENT_CAMPAIGN_END { status := st }).finish 0x0302 0 st).setFloor

/-- A campaign begins (R148). -/
def State.startCampaign (s : State) (c : Campaign) : State :=
  (({ s with bal.campaign := some c, bal.want := [] } : State).wrs [(F.BAL_STATUS_CAMPAIGN_ACTIVE, 1), (F.BAL_STATUS_KIND, c.kind)]).setFloor

/-- The automatic campaign of kind 2 on entry into RUN (R148, R150). -/
def State.autoCampaign (s : State) : State :=
  if s.isOn F.BAL_CFG_AUTO && s.bal.campaign.isNone && s.mode == mRUN then
    s.startCampaign { kind := 2, target := 0, deadband := 50, limit := 0 }
  else s

end Sys2Proof.Machine
end

