-- ==== Sys2Proof/Machine/CanOps.lean ====
section
/-! DEFINITION. Shared operations of the CAN controllers (R401–R413): message buffers, requests, the end of a transmission. -/

namespace Sys2Proof.Machine

/-- The module stands in a bank (R258). -/
def State.inBank (s : State) : Bool := s.rd F.BANK_CFG_SIZE_M1 != 0

def State.bankPos (s : State) : Nat := s.rd F.BANK_CFG_POSITION

def State.canBus (s : State) (c : Nat) : CanBus := Tbl.get {} s.can c

def State.setCan (s : State) (c : Nat) (b : CanBus) : State := { s with can := Tbl.put s.can c b }

abbrev canACTIVE : Nat := 0
abbrev canPASSIVE : Nat := 1
abbrev canOFF : Nat := 2
abbrev canRECOVER : Nat := 3

/-- Data bytes that a DLC codes (ISO 11898-1; classical frames carry at most 8). -/
def dlcLen (fdf : Bool) (dlc : Nat) : Nat :=
  if fdf then [0, 1, 2, 3, 4, 5, 6, 7, 8, 12, 16, 20, 24, 32, 48, 64].getD dlc 64 else min 8 dlc

/-- The controller is on, integrated and not bus-off (R411, R413). -/
def State.canOn (s : State) (c : Nat) : Bool :=
  s.isOn (F.CAN_STATUS_INTEGRATED c) && decide (s.rd (F.CAN_STATUS_STATE c) < 2) && s.pwr.ctl

/-- The PENDING bit of a buffer, in its CTRL and in CAN_PEND. -/
def State.setPend (s : State) (c n : Nat) (on : Bool) : State :=
  let f := if n < 32 then F.CAN_PEND_LO_VALUE c else F.CAN_PEND_HI_VALUE c
  let b := 2 ^ (n % 32)
  let v := s.rd f
  (s.wrB (F.CAN_MB_CTRL_PENDING c n) on).wr f (if on then v ||| b else v - (v &&& b))

def State.canPend (s : State) (c n : Nat) : Bool := s.isOn (F.CAN_MB_CTRL_PENDING c n)

/-- A transmit buffer completes (R408): STATUS, ATTEMPTS, no request left; a CAN_TX that waits for it completes. -/
def State.canTxEnd (s : State) (c n : Nat) (st : Status) : State :=
  let b := s.canBus c
  let s1 := (s.setPend c n false).wrs [(F.CAN_MB_CTRL_STATUS c n, st.code), (F.CAN_MB_CTRL_REQ c n, 0), (F.CAN_MB_CTRL_CANCEL c n, 0),
    (F.CAN_MB_CTRL_ATTEMPTS c n, min 255 (Tbl.get 0 b.tries n))]
  let s2 := s1.setCan c { b with tries := Tbl.del b.tries n, errs := Tbl.del b.errs n }
  s2.finish 0x0905 (64 * c + n) st
    [(s2.rd (F.CAN_MB_CTRL_CANCEL_LATE c n) : Int), s2.rd (F.CAN_MB_CTRL_ATTEMPTS c n), s2.rd (F.CAN_MB_TS_LO_VALUE c n),
     s2.rd (F.CAN_MB_TS_HI_VALUE c n)]

/-- The buffer becomes pending, or completes ABORTED at once where the controller is off (R407, R408). -/
def State.canRelease (s : State) (c n : Nat) : State :=
  if s.canOn c then s.setPend c n true else s.canTxEnd c n .aborted

/-- 1 is written to REQ of a transmit buffer (R407, R410). -/
def State.canRequest (s : State) (c n : Nat) : State :=
  if s.rd (F.CAN_MB_CTRL_DIR c n) ≠ 2 ∨ s.isOn (F.CAN_MB_CTRL_REQ c n) = true then s
  else if s.isOn (F.CAN_CFG_LISTEN_ONLY c) || (s.isOn (F.CAN_MB_FMT_FDF c n) && !s.isOn (F.CAN_CFG_FD_EN c)) then
    s.wr (F.CAN_MB_CTRL_STATUS c n) Status.param.code
  else
    let s1 := s.wrs [(F.CAN_MB_CTRL_REQ c n, 1), (F.CAN_MB_CTRL_CANCEL_LATE c n, 0)]
    if s1.isOn (F.CAN_MB_CTRL_TIMED c n) && decide (s1.now < s1.rd64 (F.CAN_MB_TS_LO_VALUE c n) (F.CAN_MB_TS_HI_VALUE c n)) then s1
    else s1.canRelease c n

/-- REQ is written, `meet` in the cycle in which hardware clears it on completing the request before: the new one is kept (R37). -/
def State.canRequestAt (s : State) (c n : Nat) (meet : Bool) : State :=
  let b := s.canBus c
  if meet && s.isOn (F.CAN_MB_CTRL_REQ c n) then (if b.again.contains n then s else s.setCan c { b with again := b.again ++ [n] })
  else s.canRequest c n

/-- A transmit buffer completes, and takes a request that met its completion (R37, R408). -/
def State.canEnd (s : State) (c n : Nat) (st : Status) : State :=
  let s1 := s.canTxEnd c n st
  let b := s1.canBus c
  if b.again.contains n then (s1.setCan c { b with again := b.again.filter (· != n) }).canRequest c n else s1

/-- Data bytes into the data words of a buffer. -/
def State.canData (s : State) (c n : Nat) (bs : List Byte) : State :=
  (numbersFrom 0 16).foldl (fun s w => s.wr (F.CAN_MB_DATA_VALUE c n w) (ofLe (slice bs (4 * w) 4))) s

/-- The firmware sends a frame from one of its buffers; a frame of that buffer not yet sent is replaced (R403). -/
def State.canSend (s : State) (n id : Nat) (ide fdf : Bool) (bs : List Byte) : State :=
  if fdf && !s.isOn (F.CAN_CFG_FD_EN 0) then s
  else
    let s1 := (s.wrs [(F.CAN_MB_CTRL_DIR 0 n, 2), (F.CAN_MB_CTRL_TIMED 0 n, 0), (F.CAN_MB_ID_ID 0 n, id), (F.CAN_MB_ID_IDE 0 n, if ide then 1 else 0),
      (F.CAN_MB_ID_RTR 0 n, 0), (F.CAN_MB_FMT_DLC 0 n, if fdf then 15 else 8), (F.CAN_MB_FMT_FDF 0 n, if fdf then 1 else 0),
      (F.CAN_MB_FMT_BRS 0 n, if fdf then 1 else 0), (F.CAN_MB_FMT_RETRY 0 n, s.rd (F.CAN_CFG_RETRY_DEF 0))]).canData 0 n bs
    s1.canRequest 0 n

end Sys2Proof.Machine
end

