-- ==== Sys2Proof/Machine/Ntc.lean ====
section
/-! DEFINITION. The NTC formula of R309 between ratio codes and temperatures, evaluated with logarithm and exponential to
2⁻⁵⁶ before the rounding of R5 (assumption log 5). -/

namespace Sys2Proof.Machine

/-- 2⁶⁴, the scale of the fixed-point numbers below. -/
def q64 : Int := 18446744073709551616

def q64ln2 : Int := 12786308645202655660

/-- Σ y^(2i+1) / (2i + 1) from the term `t` of exponent `n` on, `y2` the square of y. -/
def atanhGo : Nat → Int → Int → Nat → Int
  | 0, _, _, _ => 0
  | k + 1, y2, t, n => t / n + atanhGo k y2 (t * y2 / q64) (n + 2)

/-- Natural logarithm of a number in [1, 2), scaled. -/
def lnUnit (x : Rat) : Int :=
  let y : Int := ((x - 1) / (x + 1) * q64).floor
  2 * atanhGo 22 (y * y / q64) y 1

/-- Natural logarithm of a positive number, scaled. -/
def lnScaled : Nat → Rat → Int
  | 0, x => lnUnit x
  | k + 1, x => if x < 1 then lnScaled k (2 * x) - q64ln2 else if 2 ≤ x then lnScaled k (x / 2) + q64ln2 else lnUnit x

/-- Σ x^i / i! from the term `t` of index `i` on, `x` scaled. -/
def expGo : Nat → Int → Int → Nat → Int
  | 0, _, _, _ => 0
  | k + 1, x, t, i => t + expGo k x (t * x / q64 / (i + 1)) (i + 1)

/-- Exponential, scaled: the 64th part of the argument, then six squarings. -/
def expScaled (x : Rat) : Int :=
  let e := expGo 18 (x / 64 * q64).floor q64 0
  let sq (a : Int) : Int := a * a / q64
  sq (sq (sq (sq (sq (sq e)))))

/-- e^(-x) for x from 0 on (R217, R240); below 2⁻⁵⁶ it is 0. -/
def expNeg (x : Rat) : Rat := if 40 ≤ x then 0 else (expScaled (-x) : Rat) / q64

/-- The nearest integer, ties away from zero (R5). -/
def ratRound (q : Rat) : Int := roundDiv q.num q.den

/-- Temperature in 0.01 °C of a ratio code, from NTC_BETA in K and NTC_RNOM in 10 Ω (R309). -/
def ntcTemp (beta rnom code : Nat) : Int :=
  let r : Rat := (10000 * code : Nat) / ((65535 - code : Nat) : Rat)
  let l : Rat := (lnScaled 40 (r / (10 * rnom : Nat)) : Rat) / q64
  ratRound (100 * (1 / (1 / (29815 / 100 : Rat) + l / beta) - 27315 / 100))

/-- The ratio code of a temperature in 0.01 °C (R292): the inverse formula, rounded. -/
def ntcCode (beta rnom : Nat) (t : Int) : Nat :=
  let tk : Rat := (t + 27315 : Int) / 100
  if tk ≤ 0 then 65535
  else
    let r : Rat := (10 * rnom : Nat) * ((expScaled (beta * (1 / tk - 1 / (29815 / 100 : Rat))) : Rat) / q64)
    (ratRound (65535 * r / (r + 10000))).toNat

end Sys2Proof.Machine
end

