-- ==== Sys2Proof/Machine/Ocv.lean ====
section
/-! DEFINITION. The OCV table and the chemistry block (R222, R224): their grids, the OCV curve at a temperature with its slope, inverse,
integral and advised band (R230, R231, R242), and the two-node thermal model (R239, R240). -/

namespace Sys2Proof.Machine

/-! ### Grids -/

/-- The interval of a value on rising points. -/
def seekIdx (f : Nat → Rat) (x : Rat) : Nat → Nat
  | 0 => 0
  | n + 1 => if f (n + 1) ≤ x then n + 1 else seekIdx f x n

def ocvSoc (b : List Byte) (k : Nat) : Rat := (u16 b (8 + 2 * k) : Rat) / 10000
def ocvTemp (b : List Byte) (t : Nat) : Rat := i16 b (136 + 2 * t)

/-- A temperature in 0.01 °C lies on the temperature axis of the OCV table. -/
def tempOn (ocv : List Byte) (tmp : Rat) : Bool := decide (ocvTemp ocv 0 ≤ tmp) && decide (tmp ≤ ocvTemp ocv 7)

/-- Column `k` of a 64 × 8 grid stored as [t][k] at an offset of `g`, interpolated over temperature. -/
def gridCol (ocv g : List Byte) (off k : Nat) (tmp : Rat) : Rat :=
  let t := seekIdx (ocvTemp ocv) tmp 6
  let v (t : Nat) : Rat := u16 g (off + 2 * (64 * t + k))
  let c := (tmp - ocvTemp ocv t) / (ocvTemp ocv (t + 1) - ocvTemp ocv t)
  v t * (1 - c) + v (t + 1) * c

/-- A grid interpolated bilinearly on the axes of the OCV table (R224); SOC as a fraction, temperature in 0.01 °C.  Beyond the axes the
spec states no value (assumption log 9). -/
def gridAt (ocv g : List Byte) (off : Nat) (soc tmp : Rat) : Rat :=
  if soc < ocvSoc ocv 0 || ocvSoc ocv 63 < soc || !tempOn ocv tmp then Config.beyondGrid g off soc tmp
  else
    let k := seekIdx (ocvSoc ocv) soc 62
    let a := (soc - ocvSoc ocv k) / (ocvSoc ocv (k + 1) - ocvSoc ocv k)
    gridCol ocv g off k tmp * (1 - a) + gridCol ocv g off (k + 1) tmp * a

/-! ### The OCV curve at one temperature: 100 µV over SOC as a fraction -/

def ocvCol (b : List Byte) (tmp : Rat) (k : Nat) : Rat := gridCol b b 152 k tmp

/-- The slope of interval `k` per unit of SOC. -/
def ocvRise (b : List Byte) (tmp : Rat) (k : Nat) : Rat := (ocvCol b tmp (k + 1) - ocvCol b tmp k) / (ocvSoc b (k + 1) - ocvSoc b k)

/-- dOCV/dSOC at a point, of the interval above it where two meet, in 100 µV per unit of SOC; free beyond the axes (assumption log 9). -/
def ocvSlope (b : List Byte) (soc tmp : Rat) : Rat :=
  if soc < ocvSoc b 0 || ocvSoc b 63 < soc || !tempOn b tmp then Config.beyondSlope b soc tmp
  else ocvRise b tmp (seekIdx (ocvSoc b) soc 62)

/-- The SOC at which a curve that never falls gives `v`; none below its start, above its end, or where a flat part gives several. -/
def curveInverse (f p : Nat → Rat) (v : Rat) : Nat → Option Rat
  | 0 => if v = f 63 ∧ f 62 < f 63 then some (p 63) else none
  | n + 1 =>
    let k := 62 - n
    if f k ≤ v ∧ v < f (k + 1) then
      if v = f k ∧ 0 < k ∧ f (k - 1) = v then none else some (p k + (v - f k) / (f (k + 1) - f k) * (p (k + 1) - p k))
    else curveInverse f p v n

/-- The inverse of the OCV table (R230): the SOC of a voltage in 100 µV; where the table gives none or several, a free value
(assumption log 9). -/
def ocvInverse (b : List Byte) (v tmp : Rat) : Rat :=
  if tempOn b tmp then (curveInverse (ocvCol b tmp) (ocvSoc b) v 63).getD (Config.ocvInverse b v tmp) else Config.ocvInverse b v tmp

/-- The integral of the curve from 0 to `x`, in 100 µV. -/
def ocvArea (b : List Byte) (tmp x : Rat) : Rat :=
  ((numbersFrom 0 63).map fun k =>
    let w := max 0 (min x (ocvSoc b (k + 1)) - ocvSoc b k)
    w * (ocvCol b tmp k + ocvRise b tmp k * w / 2)).sum

/-- ∫ OCV dx in V between two SOCs (R242). -/
def ocvIntegral (b : List Byte) (tmp x y : Rat) : Rat :=
  if tempOn b tmp then (ocvArea b tmp y - ocvArea b tmp x) / 10000 else Config.ocvIntegral b tmp x y

/-- Runs of intervals that meet a condition, as pairs of the first and the end, in rising order. -/
def runsOf (p : Nat → Bool) : List Nat → Option Nat → List (Nat × Nat)
  | [], some a => [(a, 63)]
  | [], none => []
  | k :: t, some a => if p k then runsOf p t (some a) else (a, k) :: runsOf p t none
  | k :: t, none => runsOf p t (if p k then some k else none)

/-- The SOC band in 0.01 % in which the slope is at least 4.0 mV per % (R231): the widest, the lowest of equal ones; the markers where
there is none. -/
def calBand (b : List Byte) (tmp : Rat) : Nat × Nat :=
  if !tempOn b tmp then (0xFFFF, 0xFFFF)
  else
    let l := (runsOf (fun k => decide (4000 ≤ ocvRise b tmp k)) (numbersFrom 0 63) none).map fun r => (u16 b (8 + 2 * r.1), u16 b (8 + 2 * r.2))
    l.foldl (fun a r => if a.1 = 0xFFFF ∨ a.2 - a.1 < r.2 - r.1 then r else a) (0xFFFF, 0xFFFF)

/-- The knees of the table (R222): SOC as a fraction and the minimum peak height in µV per 0.1 % SOC, up to 0xFFFF. -/
def ocvKnees (b : List Byte) : List (Rat × Nat) :=
  let l := (numbersFrom 0 4).map fun e => (u16 b (2204 + 4 * e), u16 b (2206 + 4 * e))
  (l.takeWhile fun p => p.1 != 0xFFFF).map fun p => ((p.1 : Rat) / 10000, p.2)

/-! ### The two-node thermal model (R239) -/

/-- C_c and C_s in J/K, R_cs and R_sc in K/W. -/
structure ThermalPar where
  cc : Rat
  cs : Rat
  rcs : Rat
  rsc : Rat
  deriving DecidableEq, Repr

def chemThermal (chem : List Byte) : ThermalPar :=
  { cc := (u32 chem 8 : Rat) / 10, cs := (u32 chem 12 : Rat) / 10, rcs := (u16 chem 16 : Rat) / 1000, rsc := (u16 chem 18 : Rat) / 1000 }

/-- A number rounded to a multiple of 2⁻³². -/
def near32 (x : Rat) : Rat := (ratRound (x * 4294967296) : Rat) / 4294967296

/-- One second of the model (R239) from Tc and Ts in °C: heat in W, T_cool, and the NTC where it is VALID (assumption log 164). -/
def coreStep (m : ThermalPar) (p cool : Rat) (ntc : Option Rat) (x : Rat × Rat) : Rat × Rat :=
  let flow := (x.1 - x.2) / m.rcs
  let pull : Rat := match ntc with | some t => (t - x.2) / 10 | none => 0
  (near32 (x.1 + (p - flow) / m.cc), near32 (x.2 + (flow - (x.2 - cool) / m.rsc + pull) / m.cs))

/-- Tc and Ts after `n` seconds of constant heat (R240, code 5). -/
def coreAfter (m : ThermalPar) (p cool : Rat) : Nat → Rat × Rat → Rat × Rat
  | 0, x => x
  | n + 1, x => coreAfter m p cool n (coreStep m p cool none x)

end Sys2Proof.Machine
end

