-- ==== Sys2Proof/Machine/Kernels.lean ====
section
/-! DEFINITION. Kernel slots of the state engine and the kernels the firmware loads: slot 0 of EST (R213–R215), slots 1
and 2 of THM (R313, R314). -/

namespace Sys2Proof.Machine

/-! ### Slots and banks (R190) -/

def State.seSlot (s : State) (k : Nat) : SeSlot := Tbl.get {} s.se.slots k

def State.setSeSlot (s : State) (k : Nat) (x : SeSlot) : State := { s with se.slots := Tbl.put s.se.slots k x }

def State.seEnabled (s : State) (k : Nat) : Bool := s.rd F.SE_STATUS_ENABLED / 2 ^ k % 2 == 1

def State.seBank (s : State) (k : Nat) : Nat := s.rd F.SE_COMMIT_BANK / 2 ^ k % 2

/-- The committed records of a slot. -/
def State.seInsts (s : State) (k : Nat) : List SeInst :=
  if s.seBank k = 0 then (s.seSlot k).bank0 else (s.seSlot k).bank1

/-- Replace the committed records of a slot. -/
def State.setSeInsts (s : State) (k : Nat) (l : List SeInst) : State :=
  let x := s.seSlot k
  s.setSeSlot k (if s.seBank k = 0 then { x with bank0 := l } else { x with bank1 := l })

def setBit (w k : Nat) (on : Bool) : Nat := if on then w ||| 2 ^ k else w - (w &&& 2 ^ k)

def State.setSeEnabled (s : State) (k : Nat) (on : Bool) : State :=
  (s.wr F.SE_STATUS_ENABLED (setBit (s.rd F.SE_STATUS_ENABLED) k on)).setFloor

/-! ### Cost (R194, R196) -/

/-- A kernel's cycles per step at a throttle setting (R194), with a table of `s` values. -/
def SeDesc.cycles (d : SeDesc) (s pause : Nat) : Nat :=
  let m := d.n * d.n + d.n * d.m + d.n + d.p * d.n + d.p * d.m + d.p + if d.form = 2 then d.p + d.n * d.p else 0
  let t := if d.tableEn then 24 + 4 * s else 0
  64 + (d.instances + 7) / 8 * (m + t + 16 + 16 * pause)

/-- Two cadences meet at some index. -/
def meet (a b : Nat × Nat × Nat) : Bool := (a.2.1 : Int) % (Nat.gcd a.1 b.1) == (b.2.1 : Int) % (Nat.gcd a.1 b.1)

/-- The worst case over every index of the cycles of the kernels due: kernels that pairwise meet all meet somewhere
(RATE_DIV, PHASE, cycles). -/
def worstCase : List (Nat × Nat × Nat) → List (Nat × Nat × Nat) → Nat
  | [], ch => (ch.map (·.2.2)).sum
  | k :: ks, ch => max (worstCase ks ch) (if ch.all (meet k) then worstCase ks (k :: ch) else 0)

/-- S of the gain table of a kernel: of the copy in force, or of the one that comes into force with the next step. -/
def State.tableS (s : State) (d : SeDesc) (next : Bool) : Nat :=
  let t := Tbl.get ({} : SeTab) s.se.tables d.table
  match next, t.next, t.cur with
  | true, some v, _ => v.s
  | _, _, some v => v.s
  | _, _, none => 0

/-- What a kernel costs and when it is due: renumberings since its commit shift its phase (R203). -/
def State.seLoad (s : State) (d : SeDesc) (slip : Int) (pause : Nat) (next : Bool) : Nat × Nat × Nat :=
  (d.rateDiv, (((d.phase : Int) + (s.se.slip - slip)) % max 1 d.rateDiv).toNat, d.cycles (s.tableS d next) pause)

/-- The kernels of the enabled slots. -/
def State.seLoads (s : State) (pause : Nat) : List (Nat × Nat × Nat) :=
  (numbersFrom 0 16).filterMap fun k =>
    if s.seEnabled k then (s.seSlot k).kern.map fun q => s.seLoad q.desc (s.seSlot k).slip pause false else none

/-- The kernels that may stand in a slot until every commit that waits has taken effect; slot `k` is to run `d`. -/
def State.seChoices (s : State) (k : Nat) (d : SeDesc) (j : Nat) : List (List (Nat × Nat × Nat)) :=
  let x := s.seSlot j
  let own := if s.seEnabled j then (x.kern.map fun q => s.seLoad q.desc x.slip 7 true).toList else []
  let coming := if j = k then [s.seLoad d s.se.slip 7 true]
    else if x.committing then (x.shadow.map fun q => s.seLoad q.1.desc s.se.slip 7 true).toList else []
  if coming.isEmpty then [own] else [own, coming]

/-- Every way in which the slots may stand together. -/
def seWays : List (List (List (Nat × Nat × Nat))) → List (List (Nat × Nat × Nat))
  | [] => [[]]
  | c :: cs => (seWays cs).flatMap fun w => c.map fun o => o ++ w

/-- R196: with slot `k` to run `d`, the kernels due at any index stay within 55 000 cycles at PAUSE = 7, beside the commits that wait. -/
def State.admits (s : State) (k : Nat) (d : SeDesc) : Bool :=
  (seWays ((numbersFrom 0 16).map (s.seChoices k d))).all fun w => decide (worstCase w [] ≤ 55000)

/-- SE_BUDGET and the cycles of SE_KSTAT follow the enabled kernels, their tables and PAUSE. -/
def State.setBudget (s : State) : State :=
  let p := s.rd F.SE_THROTTLE_PAUSE
  let s1 := s.wrs [(F.SE_BUDGET_WORST_NOW, worstCase (s.seLoads p) []), (F.SE_BUDGET_WORST_P7, worstCase (s.seLoads 7) [])]
  (numbersFrom 0 16).foldl (fun s k => match (s.seSlot k).kern with
    | some q => s.wr (F.SE_KSTAT_CYCLES k) (q.desc.cycles (s.tableS q.desc false) p)
    | none => s.wr (F.SE_KSTAT_CYCLES k) 0) s1

/-- Load a slot's shadow and ask for its commit, as the firmware does for its own slots; where R196 does not admit it, nothing is
loaded. -/
def State.seLoadFw (s : State) (k : Nat) (q : SeKernel) (l : List SeInst) : State :=
  if s.isOn F.SE_STATUS_POWERED && s.admits k q.desc then
    (s.setSeSlot k { s.seSlot k with shadow := some (q, l), committing := true }).wr (F.SE_KSTAT_SHADOW k) 1
  else s

/-- A slot is disabled at the start of the next step (R202). -/
def State.seDisable (s : State) (k : Nat) : State :=
  let x := s.seSlot k
  let s1 := s.setSeSlot k { x with disabling := true, committing := false }
  if x.committing then s1.finish 0x0F02 k .aborted else s1

/-! ### The cell kernel (R213, R214) -/

/-- Bounds of the eight states in the units of the record (R213). -/
def estLo : List Int := [-107374182, -1000000, -1000000, -1073741824, -5000, -5000, -500000, -536870912]
def estHi : List Int := [1181116006, 1000000, 1000000, 1073741824, 15000, 15000, 500000, 536870912]

def estDesc (rate cells : Nat) : SeDesc :=
  { form := 2, n := 8, m := 2, p := 2, instances := cells, rateDiv := if rate = 0 then 4 else 1
    phase := if rate = 0 then 3 else 0, tableEn := true, zgate := true, notifies := true, agent := 1 + Config.estCore % 4
    coefBase := (Config.fwBase 0).1, stateBase := (Config.fwBase 0).2
    inputs := [{ source := 3 }, { source := 1, stride := 1, base := 1 }], sch1 := (false, 0), sch2 := (false, 4), zsel := [1, 1] }

/-- A real number as coefficient and shift: the largest q up to 31 whose coefficient is an int32 (R176). -/
def coefOf (k : Rat) : Int × Int :=
  let fit (q : Nat) : Option (Int × Int) :=
    let c := ratRound (k * (2 : Rat) ^ q)
    if |c| < 2147483648 then some (c, 32 - (q : Int)) else none
  match ((numbersFrom 0 31).map fun i => 31 - i).findSome? fit with
  | some c => c
  | none => (if k < 0 then -2147483647 else 2147483647, 31)

/-- Seconds between the steps of slot 0. -/
def estStep (rate : Nat) : Rat := if rate = 0 then 1 / 1000 else 1 / 4000

/-- A real number as a coefficient with `q` fraction bits, within int32. -/
def fixed (q : Nat) (k : Rat) : Int := clampI (-2147483647) 2147483647 (ratRound (k * (2 : Rat) ^ q))

/-- The coefficients that table 0 schedules: decay and input of va and vb, OCV slope and offset and H in both output rows, Rser, and the
SOC gain of L (R214). -/
def estSched : List Nat := [9, 18, 66, 68, 88, 96, 108, 109, 91, 99, 104, 110]

/-- Fraction bits of the scheduled coefficients but the last: the shift is 32 less. -/
def estBits : List Nat := [31, 31, 28, 31, 31, 31, 8, 8, 31, 31, 24]

/-- The matrix A of the cell model: every state holds itself; va and vb are scheduled (R213, R214). -/
def estA (i : Nat) : Int × Int := if i / 8 = i % 8 then (2, 31) else (0, 0)

/-- The coefficients of slot 0 in the layout of R182 (R213, R214).  The nominal count of s is I / Q_r; va, vb and u enter output 0 with 1;
output 1 takes neither them nor the current and has no gain; the held states have identities and no input.  Scheduled values are 0 here
with their shifts. -/
def estCoefs (ocv chem : List Byte) (qr : Rat) (rate : Nat) : List (Int × Int) :=
  (numbersFrom 0 126).map (fun i =>
    match (estSched.zip estBits).find? fun p => p.1 == i with
    | some p => (0, 32 - (p.2 : Int))
    | none =>
      if i < 64 then estA i
      else if i = 64 then coefOf (1073741824 * estStep rate / (3600000 * qr))
      else if i = 89 ∨ i = 90 ∨ i = 94 then (2, 31)
      else if i = 110 ∨ i = 112 ∨ i = 114 ∨ i = 122 then Config.estGain ocv chem rate i
      else (0, 0)) ++ estLo.map (fun v => (v, 0)) ++ estHi.map (fun v => (v, 0))

/-- Rising points from `lo` to `hi` with gaps in the ratio of `g` (R215). -/
def spread (lo hi : Int) (g : Nat → Nat) (n : Nat) : List Int :=
  let all := ((numbersFrom 0 n).map g).sum
  (numbersFrom 0 (n + 1)).map fun i => lo + (hi - lo) * (((numbersFrom 0 i).map g).sum : Nat) / (all : Nat)

/-- The 32 SOC points from −5 % to 105 % in units of s, and the 16 temperatures from −30 °C to +70 °C in 0.01 °C (R215). -/
def estBp1 (ocv : List Byte) : List Int := spread (-53687091) 1127428915 (fun i => 1 + Config.estGap1 ocv i % 1048576) 31
def estBp2 (ocv : List Byte) : List Int := spread (-3000) 7000 (fun i => 1 + Config.estGap2 ocv i % 512) 15

/-- The OCV part of table 0 at a point: slope in µV per unit of s, the offset that makes the form exact there, and H (R213, R214). -/
def estOcvForm (ocv : List Byte) (soc tmp : Rat) : Int × Int × Int :=
  let sl := ocvSlope ocv soc tmp
  let off := gridAt ocv ocv 152 soc tmp - sl * soc
  (fixed 31 (100 * sl / 1073741824), fixed 8 (100 * off), fixed 31 (10 * gridAt ocv ocv 1176 soc tmp / 1073741824))

/-- The 12 values of table 0 at a grid point (R213–R215): over a step va and vb decay by e^(-dt/τ) and take R (1 - e^(-dt/τ)) of the
current (assumption log 8). -/
def estPoint (ocv chem : List Byte) (rate i2 i1 : Nat) : List Int :=
  let soc : Rat := ((estBp1 ocv).getD i1 0 : Rat) / 1073741824
  let tmp : Rat := (estBp2 ocv).getD i2 0
  let g (off : Nat) : Rat := gridAt ocv chem off soc tmp
  let ea := expNeg (estStep rate / (g 2080 / 100))
  let eb := expNeg (estStep rate / (g 4128 / 10))
  let o := estOcvForm ocv soc tmp
  [fixed 31 ea, fixed 31 eb, fixed 28 (g 1056 / 1000 * (1 - ea)), fixed 31 (g 3104 / 1000 * (1 - eb)), o.1, o.1, o.2.1, o.2.1, o.2.2, o.2.2,
   fixed 24 (g 32 / 1000), Config.estSocGain ocv chem rate i2 i1]

def estTable (ocv chem : List Byte) (rate : Nat) : SeTable :=
  { bp1 := estBp1 ocv, bp2 := estBp2 ocv, s := 12
    grid := (numbersFrom 0 16).flatMap fun i2 => (numbersFrom 0 32).flatMap fun i1 => estPoint ocv chem rate i2 i1 }

/-! ### The thermal kernels (R313, R314) -/

def segKernel (segs : Nat) : SeKernel :=
  { desc := { form := 2, n := 4, m := 3, p := 1, instances := segs, rateDiv := 4000, phase := 3999, zgate := true
              coefBase := (Config.fwBase 1).1, stateBase := (Config.fwBase 1).2
              inputs := [{ source := 5 }, { source := 4, base := 442 }, { source := 4, stride := 1, base := 416 }], zsel := [2] }
    coef := (numbersFrom 0 52).map Config.segCoef }

/-- A bound of the integral, at which its term is `v` in 0.01 % for an integral coefficient of `c` (R317). -/
def integralAt (v : Int) (c : Rat) : Int :=
  if c = 0 then (if v < 0 then -2147483647 else 2147483647) else clampI (-2147483647) 2147483647 (ratRound (v / c))

/-- The coefficients of the coolant loop (R314, in the layout of R182): state 0 adds e each second; the output is Kc·e plus Kc/Ti times
state 0 plus f; the bounds of state 0 keep its term between -f and 100 % - f (the example of R317).  The filters of states 1 and 2 and
their part in the output are the firmware's (assumption log 8). -/
def loopCoefs (l : Loop) : List (Int × Int) :=
  let kc : Rat := (l.kc : Rat) / 100
  let ki : Rat := kc / l.ti
  let a := integralAt (-(l.f : Int)) ki
  let b := integralAt (10000 - (l.f : Int)) ki
  (numbersFrom 0 30).map fun i =>
    match i with
    | 0 | 9 => (1073741824, 2)
    | 1 | 2 | 10 | 15 => (0, 0)
    | 18 => coefOf ki
    | 21 => coefOf kc
    | 23 => coefOf (l.f : Rat)
    | 24 => (min a b, 0)
    | 27 => (max a b, 0)
    | _ => Config.loopCoef l.kc l.ti l.f l.ff i

def loopKernel (l : Loop) : SeKernel :=
  { desc := { form := 1, n := 3, m := 2, p := 1, instances := 1, rateDiv := 4000, phase := 3999
              coefBase := (Config.fwBase 2).1, stateBase := (Config.fwBase 2).2
              inputs := [{ source := 5 }, { source := 4, base := 442 }] }
    coef := loopCoefs l }

def fwInsts (slot n states : Nat) : List SeInst :=
  (numbersFrom 0 n).map fun i => { x := (numbersFrom 0 states).map (Config.fwInit slot i), par := [0, 0, 0, 0] }

/-- The slot runs or waits for its commit. -/
def State.seBusy (s : State) (k : Nat) : Bool :=
  (s.seEnabled k && !(s.seSlot k).disabling) || (s.seSlot k).committing

/-- Load the coolant loop with its present settings (R314). -/
def State.loadLoop (s : State) : State := s.seLoadFw 2 (loopKernel s.thm.loop) (fwInsts 2 1 3)

/-- THM's kernels follow the mode: they run in READY, RUN and SERVICE (R313). -/
def State.thmMode (s : State) : State :=
  if s.mode = mREADY ∨ s.mode = mRUN ∨ s.mode = mSERVICE then
    let s1 := if s.seBusy 1 then s else s.seLoadFw 1 (segKernel s.segs) (fwInsts 1 s.segs 4)
    if s1.seBusy 2 || !s1.isOn F.THM_CFG_LOOP_EN || s1.thm.tune.isSome then s1 else s1.loadLoop
  else
    let s1 := if s.seBusy 1 then s.seDisable 1 else s
    if s1.seBusy 2 then s1.seDisable 2 else s1

/-! ### The generator (R205, R206) -/

def State.setGen (s : State) (g : SeGen) : State := { s with se.gen := g }

/-- π / 2048 in units of 2⁻⁹⁶. -/
def sineUnit : Int := 121534479156362834585215793

/-- The Taylor terms of the sine from an odd power on, in units of 2⁻⁹⁶. -/
def sineSum (x2 : Int) : Nat → Int → Nat → Int
  | 0, _, _ => 0
  | fuel + 1, t, n => t + sineSum x2 fuel (-(t * x2 / 2 ^ 96) / (n * (n + 1) : Nat)) (n + 2)

/-- Entry `i` of the quarter-wave table: sin(π i / 2048) at Q30 (R205; assumption log 7). -/
def sineEntry (i : Nat) : Int :=
  let x := sineUnit * i
  roundDiv (sineSum (x * x / 2 ^ 96) 14 x 2) (2 ^ 66)

/-- The quarter wave at a phase of 0 to 2³⁰, by linear interpolation between entries 2²⁰ apart. -/
def sineQuarter (r : Nat) : Int :=
  let a := sineEntry (r / 1048576)
  let b := sineEntry (r / 1048576 + 1)
  a + roundDiv ((b - a) * (r % 1048576 : Nat)) 1048576

/-- The sine of a 32-bit phase at Q30 (R205, R210). -/
def sineQ30 (phi : Nat) : Int :=
  let r := phi % 1073741824
  match phi / 1073741824 % 4 with
  | 0 => sineQuarter r
  | 1 => sineQuarter (1073741824 - r)
  | 2 => -sineQuarter r
  | _ => -sineQuarter (1073741824 - r)

/-- A value scaled by a sine at Q30. -/
def scaled (a : Int) (sine : Int) : Int := roundDiv (a * sine) (2 ^ 30)

/-- The output of the generator for its present phase or chip. -/
def State.genOut (s : State) (g : SeGen) : Int :=
  let a := s.rdI F.SE_INJ_AMP_VALUE
  match s.rd F.SE_INJ_CFG_WAVE with
  | 1 | 2 => scaled a (sineQ30 g.phi)
  | 3 => if g.lfsr / 16384 % 2 = 1 then a else -a
  | 4 => a
  | _ => 0

/-- The generator starts at its start index (R205). -/
def State.genStart (s : State) : State :=
  let g : SeGen := { running := true, k := (s.rd F.SE_INJ_FREQ_VALUE : Int) * two32 }
  let s1 := s.setGen { g with out := s.genOut g }
  if s1.isOn F.SE_STATUS_CAP_ARMED && s1.se.cap.trig == 2 then s1.wr F.SE_CAP_STATUS_TRIGGERED 1 else s1

/-- The generator stops: its output is 0 and it has no owner. -/
def State.genStop (s : State) (st : Status) : State :=
  ((s.setGen {}).wrs [(F.SE_STATUS_INJ_RUNNING, 0), (F.SE_STATUS_INJ_OWNER, 0), (F.SE_INJ_CFG_WAVE, 0)]).finish 0x0F07 0 st

/-- The next PRBS register of x¹⁵ + x¹⁴ + 1. -/
def lfsrNext (r : Nat) : Nat := (r * 2 + (r / 16384 + r / 8192) % 2) % 32768

/-- One PLUMB instant of the generator. -/
def State.genTick (s : State) : State :=
  let g := s.se.gen
  if !g.running then s
  else
    let k := (g.k / two32)
    let phi := ((g.phi : Int) + k).toNat % two32
    let len := s.rd F.SE_INJ_LEN_VALUE
    let dk : Int := if s.rd F.SE_INJ_CFG_WAVE = 2 ∧ 0 < len then
      ((s.rd F.SE_INJ_FREQ2_VALUE : Int) - s.rd F.SE_INJ_FREQ_VALUE) * two32 / len else 0
    let i := g.i + 1
    let chip := s.rd F.SE_INJ_CFG_CHIP + 1
    let g1 : SeGen := { g with i := i, phi := phi, k := g.k + dk, lfsr := if i % chip = 0 then lfsrNext g.lfsr else g.lfsr }
    let w := s.rd F.SE_INJ_CFG_WAVE
    let ramp := s.isOn F.SE_INJ_CFG_RAMP && (w == 1 || w == 2)
    if g1.stopping && (!ramp || g.phi / 2147483648 != phi / 2147483648) then s.genStop .ok
    else s.setGen { g1 with out := s.genOut g1 }

/-- Stop as R206 says: at the next instant, or at a zero crossing with RAMP and a sine or chirp. -/
def State.genStopAsk (s : State) : State :=
  if s.se.gen.running then s.setGen { s.se.gen with stopping := true } else s.genStop .ok

/-! ### Memory and resets -/

/-- The SE's memories are lost (R204); the map is written again at the next power-up. -/
def State.seLost (s : State) : State :=
  let s1 : State := { s with se := {} }
  s1.wrs ([(F.EST_STATUS_RUNNING, if s.est.parked then 1 else 0), (F.SE_STATUS_POWERED, 0), (F.SE_STATUS_ENABLED, 0), (F.SE_STATUS_INJ_RUNNING, 0), (F.SE_STATUS_CAP_ARMED, 0),
    (F.SE_STATUS_CORR_RUNNING, 0), (F.SE_STATUS_INJ_OWNER, 0), (F.SE_STATUS_PHASE_SLIP, 0), (F.SE_COMMIT_BANK, 0),
    (F.SE_BUDGET_WORST_NOW, 0), (F.SE_BUDGET_WORST_P7, 0)] ++
    (numbersFrom 0 16).flatMap fun k => [(F.SE_KSTAT_FORM k, 0), (F.SE_KSTAT_SHADOW k, 0), (F.SE_KSTAT_CYCLES k, 0)])

end Sys2Proof.Machine
end

