-- ==== Sys2Proof/Machine/DspOps.lean ====
section
/-! DEFINITION. Shared operations of the dispatch service: dispatch frames (R246, R247), setpoints (R250–R253) and the end of a
requested perturbation (R256). -/

namespace Sys2Proof.Machine

/-- The firmware's buffers for its frames on CAN0 (R403; assumption log 78). -/
abbrev mbLIMITS_I : Nat := 0
abbrev mbLIMITS_P : Nat := 1
abbrev mbSETPOINT : Nat := 2
abbrev mbPERTURB : Nat := 3
abbrev mbSTOP : Nat := 4
abbrev mbBANK_I : Nat := 5
abbrev mbBANK_P : Nat := 6

/-- A follower in a bank, an acting master too. -/
def State.follower (s : State) : Bool := s.inBank && s.bankPos != 0

/-- The master of a bank. -/
def State.bankMaster (s : State) : Bool := s.inBank && s.bankPos == 0

def State.profile (s : State) : Nat := s.rd (F.CAN_CFG_PROFILE 0)

/-- The next SEQ of an identifier (R247). -/
def State.takeSeq (s : State) (id : Nat) : Nat × State :=
  let n := Tbl.get 0 s.dsp.seqs id
  (n, { s with dsp.seqs := Tbl.put s.dsp.seqs id ((n + 1) % 65536) })

/-- The identifier of a dispatch frame (R246). -/
def State.dspId (s : State) (bank : Bool) (offset : Nat) : Nat :=
  s.rd F.BANK_CAN_ID_BASE * 4096 + (if bank then 0x800 else 0x100 * s.bankPos) + offset

/-- The bytes of a dispatch frame (R247). -/
def State.dspBytes (s : State) (bank : Bool) (index flags seq : Nat) (body : List Byte) : List Byte :=
  let f := (if bank then 1 else 0) + (if s.isOn F.EST_STATUS_SOC_UNCERTAIN then 8 else 0) + flags
  let b := leBytes 8 index ++ [s.mode, f] ++ leBytes 2 seq ++ [s.bankPos, 0, 0, 0] ++ (body ++ List.replicate 44 0).take 44
  b ++ leBytes 4 (crc32c b)

/-- Flag UNALIGNED of R247 for this module's own frames. -/
def State.unalFlag (s : State) : Nat := if s.isOn F.SEG_ALIGN_ALIGNED then 0 else 4

/-- Send a dispatch frame on CAN0 while PROFILE is 2 (R246). -/
def State.dspSend (s : State) (n : Nat) (bank : Bool) (offset index flags : Nat) (body : List Byte) : State :=
  if s.profile = 2 then
    let id := s.dspId bank offset
    let q := s.takeSeq id
    q.2.canSend n id true true (q.2.dspBytes bank index flags q.1 body)
  else s

/-! ### Setpoints (R250–R253) -/

/-- Published limits of a direction and horizon, as the registers show them. -/
def State.pubI (s : State) (chg : Bool) (h : Nat) : Int := s.rdI (if chg then F.BANK_PUB_ICHG_MA h else F.BANK_PUB_IDIS_MA h)
def State.pubP (s : State) (chg : Bool) (h : Nat) : Int := s.rdI (if chg then F.BANK_PUB_PCHG_W h else F.BANK_PUB_PDIS_W h)

/-- The shortest horizon not shorter than a time in PLUMB periods (R251). -/
def horizonOf : Option Nat → Nat
  | some d => if d ≤ 8000 then 0 else if d ≤ 40000 then 1 else if d ≤ 240000 then 2 else 3
  | none => 3

/-- Clamp a setpoint to the published limits of its direction (R251). -/
def State.dspClamp (s : State) (kind : Nat) (v : Int) (h : Nat) : Int :=
  let chg := decide (0 ≤ v)
  let lim := if kind = 1 then s.pubP chg h else s.pubI chg h
  if chg then min v (max 0 lim) else max v (min 0 lim)

/-- Body of a SETPOINT frame (R247). -/
def setpointBody (e : SchedEntry) : List Byte := leBytes 4 (ofSigned 32 e.value) ++ [e.kind, 0] ++ leBytes 2 e.ramp

/-- The first queued SETPOINT frame goes into its buffer. -/
def State.setpointLoad (s : State) : State :=
  match s.dsp.out with
  | [] => s
  | e :: _ => s.dspSend mbSETPOINT s.bankMaster 2 e.tag s.unalFlag (setpointBody e)

/-- Queue a SETPOINT frame: clamped, with CLAMPED (R251). -/
def State.setpointQueue (s : State) (e : SchedEntry) (h : Nat) : State :=
  let v := s.dspClamp e.kind e.value h
  let s1 := if v = e.value then s else s.flag Fl.BANK_EVENT_CLAMPED {}
  let s2 : State := { s1 with dsp.out := s1.dsp.out ++ [{ e with value := v }] }
  if s2.dsp.out.length = 1 then s2.setpointLoad else s2

/-- An event without a flag: a schedule entry has been sent (R249, R386). -/
def State.entrySent (s : State) (e : SchedEntry) : State :=
  if e.notify then
    let ev : Ev := { addr := 0, bit := 1, status := .ok, mode := s.mode, system := false, seq := s.recorder.evSeq, time := s.now
                     data := leBytes 8 e.tag }
    { s with recorder.evq := s.recorder.evq ++ [ev], recorder.evSeq := (s.recorder.evSeq + 1) % two32 }
  else s

/-- The SETPOINT frame in the buffer has ended: sent, with its start-of-frame in ns, or not sent (R252). -/
def State.setpointEnd (s : State) (sof : Option Nat) : State :=
  match s.dsp.out with
  | [] => s
  | e :: rest =>
    let s0 : State := { s with dsp.out := rest }
    let s1 := match sof with
      | some t =>
        let s2 := s0.wrs [(F.BANK_SETPOINT_VALUE, ofSigned 32 e.value), (F.BANK_SCHED_STATUS_KIND, e.kind)]
        let s3 := if e.tag * 250000 < t then
            (s2.canData 0 mbSETPOINT (s2.dspBytes s2.bankMaster e.tag (16 + s2.unalFlag)
              ((Tbl.get 0 s2.dsp.seqs (s2.dspId s2.bankMaster 2) + 65535) % 65536) (setpointBody e))).flag Fl.BANK_EVENT_LATE {}
          else s2
        s3.entrySent e
      | none => s0.flag Fl.BANK_EVENT_MISSED {}
    s1.setpointLoad

/-- A transmit buffer completes, and the dispatch service takes the end of its frame (R408, R252). -/
def State.canDone (s : State) (c n : Nat) (st : Status) : State :=
  let s1 := s.canEnd c n st
  if c = 0 ∧ n = mbSETPOINT then
    s1.setpointEnd (if st = .ok then some (s1.rd64 (F.CAN_MB_TS_LO_VALUE 0 n) (F.CAN_MB_TS_HI_VALUE 0 n)) else none)
  else s1

/-- Every pending transmit buffer of a controller completes ABORTED (R411, R413). -/
def State.canAbortAll (s : State) (c : Nat) : State :=
  (numbersFrom 0 64).foldl (fun s n => if s.canPend c n then s.canDone c n .aborted else s) s

/-! ### Schedules (R250, R253) -/

/-- PLUMB periods of LEAD_MS. -/
def State.lead (s : State) : Nat := 4 * s.rd F.BANK_DSP_CFG_LEAD_MS

/-- END_ACTION: setpoint 0, or the last one held (R250). -/
def State.endAction (s : State) (tag ramp : Nat) : State :=
  if s.rd F.BANK_DSP_CFG_END_ACTION = 0 then s else s.setpointQueue { tag := tag, value := 0, kind := 0, ramp := ramp } 3

/-- The running schedule ends with a status. -/
def State.scheduleEnd (s : State) (st : Status) : State :=
  match s.dsp.running with
  | none => s
  | some b => (({ s with dsp.running := none } : State).wr F.BANK_SCHED_STATUS_STATE 3).finish 0x0503 b st

/-- A started schedule that has not reached its first entry stops. -/
def State.startingEnd (s : State) (st : Status) : State :=
  match s.dsp.starting with
  | none => s
  | some (b, _) =>
    let s1 : State := { s with dsp.starting := none }
    (if s1.dsp.running.isSome then s1 else s1.wr F.BANK_SCHED_STATUS_STATE 3).finish 0x0503 b st

/-- Both stop; the loaded buffer is kept (R253). -/
def State.scheduleAbort (s : State) : State := (s.scheduleEnd .aborted).startingEnd .aborted

/-- Entries of a schedule that wait to be sent are dropped as MISSED, the one in the buffer by an abort of it (R252, R253). -/
def State.entriesDrop (s : State) : State :=
  let keep := s.dsp.out.filter (·.single)
  let n := s.dsp.out.length - keep.length
  if n = 0 then s
  else
    let first := match s.dsp.out with | e :: _ => !e.single | [] => false
    let s1 := if first && s.canPend 0 mbSETPOINT then s.canEnd 0 mbSETPOINT .aborted else s
    let s2 := ({ s1 with dsp.out := keep } : State).flagN Fl.BANK_EVENT_MISSED n
    if first then s2.setpointLoad else s2

/-- The module leaves RUN: schedules stop, and no entry is sent after its tag has passed outside RUN (R253). -/
def State.scheduleLeave (s : State) : State := s.scheduleAbort.entriesDrop

/-! ### The requested perturbation (R256) -/

/-- The correlation ends with ABORTED. -/
def State.corrAbort (s : State) : State :=
  if s.isOn F.SE_STATUS_CORR_RUNNING then
    (({ s with se.corr := [] } : State).wr F.SE_STATUS_CORR_RUNNING 0).finish 0x0F0B 0 .aborted
  else s

/-- The perturbation's generator, where it is the one that was loaded for it. -/
def State.perturbGen (s : State) (p : Perturb) : Bool :=
  s.isOn F.SE_STATUS_INJ_RUNNING && s.rd F.SE_INJ_CFG_WAVE == 1 && s.rd F.SE_INJ_FREQ_VALUE == p.k &&
  s.rd64 F.SE_INJ_START_LO_IDX F.SE_INJ_START_HI_IDX == p.start

/-- Stop the perturbation (R256): PERTURB_STOP for the next index, the generator by RAMP, the correlation ABORTED. -/
def State.perturbStop (s : State) : State :=
  match s.dsp.perturb with
  | none => s
  | some p =>
    let idx := s.rd64 F.SEG_PLUMB_IDX_LO_IDX_LO F.SEG_PLUMB_IDX_HI_IDX_HI
    let s1 := ({ s with dsp.perturb := none } : State).dspSend mbSTOP s.bankMaster 4 (idx + 1) s.unalFlag []
    let s2 := if s1.perturbGen p then (s1.wr F.SE_INJ_CFG_RAMP 1).genStopAsk else s1
    s2.corrAbort.finish 0x0506 0 .aborted

/-- The duration of the perturbation has passed (R255). -/
def State.perturbTick (s : State) : State :=
  match s.dsp.perturb with
  | none => s
  | some p =>
    if p.start + p.dur ≤ s.rd64 F.SEG_PLUMB_IDX_LO_IDX_LO F.SEG_PLUMB_IDX_HI_IDX_HI then
      let s1 : State := { s with dsp.perturb := none }
      (if s1.perturbGen p then s1.genStop .ok else s1).finish 0x0506 0 .ok
    else s

/-! ### The string's mean current of a second (R259) -/

def State.bankString (s : State) (p : Nat) : BankString := Tbl.get {} s.bank.strings p

def State.modString (s : State) (p : Nat) (f : BankString → BankString) : State :=
  { s with bank.strings := Tbl.mod {} s.bank.strings p f }

/-- The current of an instant enters the mean; the second ends at indices that are multiples of 4000. -/
def State.bankCurrent (s : State) (i : Option Int) (idx : Nat) : State :=
  let sum := s.bank.sum + i.getD 0
  let n := s.bank.n + (if i.isSome then 1 else 0)
  let skew := s.bank.skewed || !s.isOn F.SEG_ALIGN_ALIGNED
  if idx % 4000 = 0 then
    ({ s with bank.sum := 0, bank.n := 0, bank.skewed := false } : State).modString s.bankPos fun x =>
      { x with mean := if n = 0 then none else some (roundDiv sum n), meanIdx := idx, unaligned := skew }
  else { s with bank.sum := sum, bank.n := n, bank.skewed := skew }

end Sys2Proof.Machine
end

