-- ==== Sys2Proof/Machine/MotOps.lean ====
section
/-! DEFINITION. Shared operations of the motion card (R326–R345): the microstep table and phase currents, stopping
distance, the start and the end of moves, stops, homing and faults. -/

namespace Sys2Proof.Machine

/-! ### The microstep table (R329) -/

/-- The sine of 90° · k / 256 by its power series, exact enough for the rounding to 4095ths. -/
def sinSum (x : Rat) : Nat → Rat → Nat → Rat
  | 0, _, _ => 0
  | fuel + 1, t, i => t + sinSum x fuel (-t * x * x / (((2 * i + 2) * (2 * i + 3) : Nat) : Rat)) (i + 1)

/-- T[k] = round(4095 · sin(90° · k / 256)). -/
def microstep (k : Nat) : Nat :=
  let x : Rat := 314159265358979323846 / 200000000000000000000 * k / 256
  let v := 4095 * sinSum x 12 x 0
  (roundDiv v.num v.den).toNat

def defaultTable : List Nat := (numbersFrom 0 256).map microstep

def State.motTable (s : State) (x : Nat) : List Nat :=
  if Tbl.has s.mot.tables x then Tbl.get [] s.mot.tables x else defaultTable

/-- The bytes that MOT_x_TABLE_CRC covers. -/
def tableBytes (t : List Nat) : List Byte := t.flatMap (leBytes 2)

/-- The phase currents at a position, in 4095ths of full scale (R329). -/
def phaseCurrents (t : List Nat) (p : Int) : Int × Int :=
  let k := (p % 256).toNat
  let sa : Int := t.getD k 0
  let sb : Int := if k = 0 then 4095 else t.getD (256 - k) 0
  match (p / 256 % 4).toNat with
  | 0 => (sa, sb)
  | 1 => (sb, -sa)
  | 2 => (-sa, -sb)
  | _ => (-sb, sa)

/-! ### One axis -/

def State.axis (s : State) (x : Nat) : MotAxis := Tbl.get {} s.mot.axes x

def State.setAxis (s : State) (x : Nat) (a : MotAxis) : State := { s with mot.axes := Tbl.put s.mot.axes x a }

def State.modAxis (s : State) (x : Nat) (f : MotAxis → MotAxis) : State := s.setAxis x (f (s.axis x))

abbrev axDISABLED : Nat := 0
abbrev axATREST : Nat := 1
abbrev axMOVING : Nat := 2
abbrev axSTOPPING : Nat := 3
abbrev axHOMING : Nat := 4
abbrev axFAULT : Nat := 5

def State.axState (s : State) (x : Nat) : Nat := s.rd (F.MOT_STATE_STATE x)

/-- The axis has v = 0 and nothing under way. -/
def State.axStill (s : State) (x : Nat) : Bool := s.axState x == axDISABLED || s.axState x == axATREST || s.axState x == axFAULT

def State.axPos (s : State) (x : Nat) : Int := s.rdI (F.MOT_POS_VALUE x)

/-- Put the axis at a position; its phase currents follow, for a motor that DIR_INVERT reverses at the position reversed (R328, R329). -/
def State.setPos (s : State) (x : Nat) (p : Int) : State :=
  let c := phaseCurrents (s.motTable x) (if s.isOn (F.MOT_CFG_DIR_INVERT x) then -p else p)
  (s.wrI (F.MOT_POS_VALUE x) p).modAxis x fun a => { a with ia := c.1, ib := c.2 }

/-- A position in 0.01 % of travel, in microsteps (R328). -/
def State.fracPos (s : State) (x p : Nat) : Int := roundDiv ((p : Int) * s.rd (F.MOT_TRAVEL_USTEPS x)) 10000

/-- Is the host the axis's owner (R315)? -/
def State.hostOwns (s : State) (x : Nat) : Bool := if x = 0 then s.isOn F.THM_CFG_VALVE_OWNER else s.isOn F.THM_CFG_DAMPER_OWNER

/-- The direction of motion: the sign of v, else that of the way to the target. -/
def State.axDir (s : State) (x : Nat) : Int :=
  let v := s.rdI (F.MOT_VEL_VALUE x)
  if v ≠ 0 then v.sign else (s.rdI (F.MOT_TARGET_VALUE x) - s.axPos x).sign

/-- The limit in a direction stands tripped. -/
def State.limTripped (s : State) (x : Nat) (d : Int) : Bool :=
  if d < 0 then s.isOn (F.MOT_STATE_LIM_NEG x) else if 0 < d then s.isOn (F.MOT_STATE_LIM_POS x) else false

/-- The hold current; with 0 the bridge is off (R328). -/
def State.axHold (s : State) (x : Nat) : State :=
  let h := s.rd (F.MOT_CURRENT_HOLD x)
  (s.wrB (F.MOT_STATE_BRIDGE_ON x) (h != 0)).modAxis x fun a => { a with amps := h }

/-- Enabled or not (R328): an axis with TRAVEL 0 or ENABLE 0, or without its card, is DISABLED with its bridge off. -/
def State.axEnable (s : State) (x : Nat) : State :=
  let on := s.isOn (F.MOT_CFG_ENABLE x) && s.rd (F.MOT_TRAVEL_USTEPS x) != 0 && s.isOn F.MOT_GLOBAL_CARD_PRESENT
  if !on then (s.wrs [(F.MOT_STATE_STATE x, axDISABLED), (F.MOT_STATE_BRIDGE_ON x, 0)]).modAxis x fun a => { a with amps := 0 }
  else if s.axState x = axDISABLED then (s.wr (F.MOT_STATE_STATE x) axATREST).axHold x
  else s

/-! ### Stopping distance (R332, R333) -/

/-- From velocity `v` ≥ 0 with a = 0, the axis can stop within `r` microsteps. -/
def stopsFrom (v d j r : Rat) : Bool :=
  if d * d / j ≤ v then decide (v * v / (2 * d) + v * d / (2 * j) ≤ r)
  else decide (0 ≤ r) && decide (v * v * v / j ≤ r * r)

/-- From velocity `v` and acceleration `a` towards the target, the axis can come to rest within `r` microsteps: the
acceleration is first taken back, or the deceleration in progress counts as begun from a = 0, at jerk `j`. -/
def stopsWithin (v a d j r : Rat) : Bool :=
  if v ≤ 0 ∧ a ≤ 0 then decide (0 ≤ r)
  else if 0 ≤ a then stopsFrom (v + a * a / (2 * j)) d j (r - (v * a / j + a * a * a / (3 * j * j)))
  else
    let v0 := v + a * a / (2 * j)
    stopsFrom v0 d j (r + (v0 * (-a) / j + a * a * a / (6 * j * j)))

def State.limits (s : State) (x : Nat) : List Nat :=
  [s.rd (F.MOT_VMAX_VALUE x), s.rd (F.MOT_AMAX_VALUE x), s.rd (F.MOT_DMAX_VALUE x), s.rd (F.MOT_JMAX_VALUE x)]

/-- The limits in force for the move (R333), with the deceleration that applies: DEMERG in an emergency stop, HOME_DEC at the edges of
homing (R335, R337, R340). -/
def State.limitsNow (s : State) (x : Nat) : List Nat :=
  let a := s.axis x
  let l := a.old.getD (s.limits x)
  if s.axState x = axSTOPPING ∧ a.emergency = true then l.set 2 (s.rd (F.MOT_DEMERG_VALUE x))
  else if s.axState x = axHOMING ∧ (a.stage = .slow ∨ a.stage = .latched) then l.set 2 (s.rd (F.MOT_HOME_DEC_VALUE x))
  else l

/-- A moving axis as the planner can have it at this tick (R331): within the speed, the acceleration and the jerk of the limits in force
since the readings before, and not beyond its target. -/
def State.axWithin (s : State) (x : Nat) (r : AxisRead) : AxisRead :=
  let a := s.axis x
  let l := s.limitsNow x
  let p := s.axPos x
  let v0 := s.rdI (F.MOT_VEL_VALUE x)
  let dt := s.time.count - a.readAt + 25000
  let vTop : Int := max (l.getD 0 0) v0.natAbs
  let v := clampI (-vTop) vTop r.vel
  let dj : Int := (l.getD 3 0 * dt / 250000000 : Nat)
  let aTop : Int := if 0 ≤ r.acc * v then l.getD 1 0 else l.getD 2 0
  let reach : Int := vTop * dt / 250000000 + 1
  let q := clampI (p - reach) (p + reach) r.pos
  let t := s.rdI (F.MOT_TARGET_VALUE x)
  let towards := s.axState x == axMOVING && decide (0 ≤ v0 * (t - p))
  { r with vel := v, acc := clampI (-aTop) aTop (clampI (a.acc - dj) (a.acc + dj) r.acc)
           pos := if towards then clampI (min p t) (max p t) q else q }

/-- The load angle δ in electrical degrees (R338): by how much the vector of the phases' back-EMF, e = v − RES · i − IND · di/dt, lags the
commanded current vector in the direction of motion; 0 where it leads. -/
def State.loadAngle (s : State) (x : Nat) (r : AxisRead) : Nat :=
  let a := s.axis x
  let res : Int := s.rd (F.MOT_MOTOR_RES_PHASE x)
  let ind : Int := s.rd (F.MOT_MOTOR_IND_PHASE x)
  let ea := 1000 * r.ua - res * r.ca - ind * r.da
  let eb := 1000 * r.ub - res * r.cb - ind * r.db
  let dir : Int := if s.isOn (F.MOT_CFG_DIR_INVERT x) then -r.vel.sign else r.vel.sign
  let cross := dir * (eb * a.ia - ea * a.ib)
  let dot := eb * a.ib + ea * a.ia
  if cross < 0 then 0
  else
    let beyond (k : Nat) : Bool :=
      let phi := (2 * k + 1) * two32 / 720
      decide (0 < cross * sineQ30 ((phi + 1073741824) % two32) - dot * sineQ30 phi)
    ((numbersFrom 0 180).filter beyond).length

/-- Does the move in force still end at its target under limits `l`, from the present p, v and a? -/
def State.axFits (s : State) (x : Nat) (l : List Nat) : Bool :=
  let e := s.rdI (F.MOT_TARGET_VALUE x) - s.axPos x
  let d : Int := if e < 0 then -1 else 1
  stopsWithin ((s.rdI (F.MOT_VEL_VALUE x) * d : Int) : Rat) (((s.axis x).acc * d : Int) : Rat) (l.getD 2 1 : Rat) (l.getD 3 1 : Rat)
    ((e * d : Int) : Rat)

/-! ### Starts and ends -/

/-- The DEFERRED, FAULT, HOMED, STALL, LIMIT and CHATTER flags of an axis. -/
def motFlag (f0 f1 : Flag) (x : Nat) : Flag := if x = 0 then f0 else f1

def fDeferred := motFlag Fl.MOT_EVENT_DEFERRED0 Fl.MOT_EVENT_DEFERRED1
def fFault := motFlag Fl.MOT_EVENT_FAULT0 Fl.MOT_EVENT_FAULT1
def fHomed := motFlag Fl.MOT_EVENT_HOMED0 Fl.MOT_EVENT_HOMED1
def fStall := motFlag Fl.MOT_EVENT_STALL0 Fl.MOT_EVENT_STALL1
def fLimit := motFlag Fl.MOT_EVENT_LIMIT0 Fl.MOT_EVENT_LIMIT1
def fChatter := motFlag Fl.MOT_EVENT_CHATTER0 Fl.MOT_EVENT_CHATTER1

/-- The axis begins to move: bridge on, a new move under the limits that stand in the registers. -/
def State.axGo (s : State) (x st : Nat) : State :=
  (s.wrs [(F.MOT_STATE_STATE x, st), (F.MOT_STATE_BRIDGE_ON x, 1), (F.MOT_STATE_LIMIT_DEFERRED x, 0),
    (F.MOT_STATE_OWNER x, if st = axHOMING then 2 else if s.hostOwns x then 1 else 0)]).modAxis x
      (fun a => { a with old := none, linkLoss := false, stopCause := 0, emergency := false, amps := s.rd (F.MOT_CURRENT_RUN x)
                         readAt := s.time.count })
  |>.setFloor

/-- CARD_PREPARE of the motion card completes once both axes stand (R507). -/
def State.motPrepared (s : State) : State :=
  if s.mot.preparing && s.axStill 0 && s.axStill 1 then
    ({ s with mot.preparing := false } : State).finish 0x0B05 4 .ok
  else s

/-- The axis has come to the end of what it did, with v = 0: state, END_CAUSE, the owner, and the completions of the
commands that ran on it.  A MOT_MOVE completes OK at its target, else ABORTED with END_CAUSE. -/
def State.motEnd (s : State) (x st cause : Nat) (arrived : Bool) : State :=
  let s1 := (s.wrs [(F.MOT_STATE_STATE x, st), (F.MOT_STATE_END_CAUSE x, cause), (F.MOT_VEL_VALUE x, 0),
      (F.MOT_STATE_LIMIT_DEFERRED x, 0), (F.MOT_STATE_STALL_ACTIVE x, 0), (F.MOT_STATE_LOAD_ANGLE x, 0xFF),
      (F.MOT_STATE_OWNER x, if s.hostOwns x then 1 else 0)]).modAxis x
    fun a => { a with acc := 0, old := none, stage := .none, windowEnd := none, linkLoss := false, stopCause := 0,
                      emergency := false, fast := none, overTicks := 0, restAt := s.time.count }
  ((((s1.finish 0x0702 x (if arrived then .ok else .aborted) [(cause : Int)]).finish 0x0703 x .ok).finish 0x0704 x .aborted).motPrepared).setFloor

/-- The axis is to come to rest at DMAX or DEMERG (R337); an emergency stop in progress goes on. -/
def State.axStop (s : State) (x : Nat) (emergency : Bool) (cause : Nat) : State :=
  if s.axStill x then s
  else
    let a := s.axis x
    if s.axState x = axSTOPPING && a.emergency then s
    else
      (s.wr (F.MOT_STATE_STATE x) axSTOPPING).setAxis x { a with stopCause := cause, emergency := emergency, stage := .none, windowEnd := none }

/-- Homing ends without HOMED, at DEMERG, with an END_CAUSE of R341; it completes ABORTED at rest. -/
def State.homeAbort (s : State) (x cause : Nat) : State := (s.axStop x true cause).wr (F.MOT_STATE_HOMED x) 0

/-- A move, a stop or homing of the axis ends on the spot: at the hold current at the present microstep, or with the bridge off. -/
def State.axHalt (s : State) (x st cause : Nat) : State :=
  let s1 := if st = axATREST then s.axHold x else (s.wr (F.MOT_STATE_BRIDGE_ON x) 0).modAxis x fun a => { a with amps := 0 }
  s1.motEnd x st cause false

/-- A fault of R327: bridge off, FAULT, HOMED cleared but for a self-locking drive. -/
def State.motFault (s : State) (x cause : Nat) (die : Bool) : State :=
  if s.axState x = axDISABLED ∨ s.axState x = axFAULT then s
  else
    let s1 := if s.isOn (F.MOT_CFG_SELF_LOCKING x) && s.axState x != axHOMING then s else s.wr (F.MOT_STATE_HOMED x) 0
    let s2 := (s1.axHalt x axFAULT cause).modAxis x fun a => { a with causeAt := s.time.count, causeDie := die }
    s2.flag (fFault x) { idx := x, detail := [cause] }

/-! ### Homing (R340–R342) -/

/-- +1 or −1. -/
def State.homeDir (s : State) (x : Nat) : Int := if s.isOn (F.MOT_CFG_HOME_DIR x) then 1 else -1

/-- The input that is the home switch: 0 LIM_NEG, 1 LIM_POS, 2 HOME. -/
def State.homeInput (s : State) (x : Nat) : Nat :=
  if s.isOn (F.MOT_CFG_HOME_SRC x) then (if s.homeDir x < 0 then 0 else 1) else 2

/-- An input of the axis as confirmed: 0 LIM_NEG, 1 LIM_POS, 2 HOME. -/
def motBit (x i : Nat) : Field :=
  if i = 0 then F.MOT_STATE_LIM_NEG x else if i = 1 then F.MOT_STATE_LIM_POS x else F.MOT_STATE_HOME_IN x

def State.homeStart (s : State) (x : Nat) : State :=
  let tripped := s.isOn (motBit x (s.homeInput x))
  (s.axGo x axHOMING).modAxis x fun a =>
    { a with stage := if tripped then .away else .search, edges := 0, windowEnd := none, searchFrom := s.axPos x }

/-- Automatic homing in any mode but SHELF (R342). -/
def State.autoHome (s : State) (x : Nat) : State :=
  if s.isOn (F.MOT_CFG_AUTO_HOME x) && s.axState x == axATREST && s.mode != mSHELF then s.homeStart x else s

/-! ### What governs a tick (R336) -/

/-- Nothing of a lower rank has governed the axis in this tick. -/
def State.tickOpen (s : State) (x tick rank : Nat) : Bool :=
  !((s.axis x).gov.1 == tick && (s.axis x).gov.2 != 0 && decide ((s.axis x).gov.2 < rank))

/-- The axis is governed for the rest of the tick. -/
def State.tickTake (s : State) (x tick rank : Nat) : State := s.modAxis x fun a => { a with gov := (tick, rank) }

/-- The axis that a message is for. -/
def MotMsg.axis : MotMsg → Nat
  | .target x _ _ | .stop x _ _ | .limits x _ | .home x => x

/-- A command that falls on a tick which something else governs is discarded. -/
def State.motDiscard (s : State) : MotMsg → State
  | .target x _ host => if host then s.finish 0x0702 x .aborted [(s.rd (F.MOT_STATE_END_CAUSE x) : Int)] else s
  | .stop x _ _ => if s.axStill x then s.finish 0x0703 x .ok else s
  | .limits _ _ => s
  | .home x => s.finish 0x0704 x .aborted

/-! ### Debouncing (R334) -/

/-- An input has stood in its raw state for DEBOUNCE. -/
def State.inSettled (s : State) (x i : Nat) : Bool :=
  match (Tbl.get ({} : MotIn) (s.axis x).inputs i).changed with
  | none => true
  | some t => decide (t + 25000 * s.rd (F.MOT_CFG_DEBOUNCE x) ≤ s.time.count)

/-- An input has stood in, or out of, its trip state for DEBOUNCE. -/
def State.inStands (s : State) (x i : Nat) (trip : Bool) : Bool :=
  (Tbl.get ({} : MotIn) (s.axis x).inputs i).raw == trip && s.inSettled x i

/-- Changes that act on nothing are confirmed by themselves: a release, and HOME outside homing. -/
def State.inConfirm (s : State) (x : Nat) : State :=
  [0, 1, 2].foldl (fun s i =>
    let homing := s.axState x == axHOMING && i == s.homeInput x
    if homing then s
    else if s.inStands x i false then s.wr (motBit x i) 0
    else if i = 2 ∧ s.inStands x i true = true then s.wr (motBit x i) 1 else s) s

/-! ### Messages (R331, R333, R336, R337) -/

/-- A message of the motion link takes effect on the card. -/
def State.motMessage (s : State) : MotMsg → State
  | .target x t host =>
    let abort (s : State) : State := if host then s.finish 0x0702 x .aborted [(s.rd (F.MOT_STATE_END_CAUSE x) : Int)] else s
    let st := s.axState x
    if st = axDISABLED ∨ st = axFAULT ∨ st = axHOMING ∨ (st = axSTOPPING ∧ (s.axis x).emergency = true) ∨
       s.limTripped x (t - s.axPos x).sign = true then abort s
    else
      let s1 := s.finish 0x0703 x .aborted
      let s2 := if host then s1 else s1.finish 0x0702 x .aborted [0]
      (s2.wrI (F.MOT_TARGET_VALUE x) t).axGo x axMOVING
  | .stop x e c =>
    if s.axStill x then s.finish 0x0703 x .ok
    else if s.axState x = axHOMING then s.homeAbort x c
    else s.axStop x e c
  | .limits x l =>
    if s.axState x ≠ axMOVING then s
    else
      match (s.axis x).old with
      | some _ => s
      | none =>
        if s.axFits x l && !s.axFits x (s.limits x) then
          ((s.wr (F.MOT_STATE_LIMIT_DEFERRED x) 1).modAxis x fun a => { a with old := some l }).flag (fDeferred x) { idx := x }
        else s
  | .home x =>
    let st := s.axState x
    if st = axDISABLED ∨ st = axFAULT ∨ st = axHOMING ∨ (st = axSTOPPING ∧ (s.axis x).emergency = true) then s.finish 0x0704 x .aborted
    else ((s.finish 0x0702 x .aborted [0]).finish 0x0703 x .aborted).homeStart x

/-- STF-C sends a message to the card. -/
def State.motSend (s : State) (m : MotMsg) : State := { s with mot.link := s.mot.link ++ [m] }

/-- A target in 0.01 % of travel; a DISABLED axis refuses every move (R328). -/
def State.motSendFrac (s : State) (x p : Nat) : State :=
  if s.axState x = axDISABLED then s else s.motSend (.target x (s.fracPos x p) false)

/-! ### Power of the card (R344, R345) -/

/-- The card starts: positions come back from STF-C or are unknown; HOMED stays on a self-locking axis whose position
came back; R342 applies to an axis that is not homed. -/
def State.motStart (s : State) (restore : Bool) : State :=
  let s0 := ({ s with mot.link := [] } : State).wrs [(F.MOT_GLOBAL_CARD_PRESENT, 1), (F.MOT_GLOBAL_LINK_OK, 1),
    (F.MOT_LINKLOSS_POS 0, s.rd F.THM_VALVE_POS_LO), (F.MOT_LINKLOSS_POS 1, 10000)]
  [0, 1].foldl (fun s x =>
    let sv := Tbl.get (0, false) s.mot.saved x
    let homed := restore && sv.2 && s.isOn (F.MOT_CFG_SELF_LOCKING x)
    let s1 := (s.setAxis x { inputs := (s.axis x).inputs }).wrs [(F.MOT_STATE_STATE x, axDISABLED), (F.MOT_VEL_VALUE x, 0),
      (F.MOT_STATE_HOMED x, if homed then 1 else 0), (F.MOT_STATE_LIMIT_DEFERRED x, 0), (F.MOT_STATE_STALL_ACTIVE x, 0),
      (F.MOT_STATE_LOAD_ANGLE x, 0xFF), (F.MOT_STATE_OWNER x, if s.hostOwns x then 1 else 0),
      (F.MOT_TABLE_CRC_CRC x, crc32c (tableBytes (s.motTable x)))]
    let s2 := (s1.setPos x (if restore then sv.1 else 0)).axEnable x
    if homed then s2 else s2.autoHome x) s0 |>.setFloor

/-- The card is gone or unpowered: both motors stand unpowered where they are, every motion command ends (R345). -/
def State.motGone (s : State) : State :=
  let s1 := [0, 1].foldl (fun s x =>
    ((s.wrs [(F.MOT_STATE_HOMED x, 0), (F.MOT_STATE_BRIDGE_ON x, 0)]).motEnd x axDISABLED (s.rd (F.MOT_STATE_END_CAUSE x)) false)) s
  ({ s1 with mot.link := [] } : State).wrs [(F.MOT_GLOBAL_LINK_OK, 0)]

end Sys2Proof.Machine
end

