-- ==== Sys2Proof/Machine/ThmOps.lean ====
section
/-! DEFINITION. Shared operations of Thermal Management: NTC readings, the positions of valve and damper (R315, R316), the
end of a step test (R317) and what the mode asks of THM (R313). -/

namespace Sys2Proof.Machine

/-! ### The shutdown record (R323) -/

/-- Bytes 0–59. -/
def ShutRec.body (r : ShutRec) : List Byte :=
  leBytes 4 r.magic ++ [1] ++ leBytes 1 (ofSigned 8 r.peak) ++ [r.mode, if r.ack then 1 else 0] ++ leBytes 8 r.tai ++ leBytes 4 r.opMin ++
  leBytes 4 r.cycles ++ leBytes 2 r.count ++ List.replicate 34 0

/-- The record with its CRC. -/
def ShutRec.sealed (r : ShutRec) : ShutRec := { r with crc := crc32c r.body % 16777216 }

/-- All 64 bytes. -/
def ShutRec.bytes (r : ShutRec) : List Byte := r.body ++ leBytes 3 r.crc ++ [if r.valid then 0xA5 else 0]

/-- A record without its MAGIC or valid mark, or with a failing CRC, is ignored (R323). -/
def ShutRec.good (r : ShutRec) : Bool := r.valid && r.magic == 0x54485344 && r.crc == crc32c r.body % 16777216

/-! ### NTC readings (R310, R311) -/

/-- The default NTC map, and the map in force (R311). -/
def defaultMap : List Nat :=
  (numbersFrom 0 416).map (fun i => i / 16 * 8 + i % 16 / 2 + 1) ++ (numbersFrom 0 26).map (fun k => k * 8 + 4) ++ List.replicate 70 0

def State.ntcMap (s : State) : List Nat := if s.thm.map.isEmpty then defaultMap else s.thm.map

def State.ntcNow (s : State) (q : Nat) : Option Int × Nat := if q = 0 then (none, 4) else Tbl.get (none, 4) s.thm.ntc q

def validTemp (t : Option Int × Nat) : Option Int := if t.2 = 0 then t.1 else none

/-- The temperature of a module NTC as THM_NTC_q reports it, in 0.01 °C. -/
def State.thmNtc (s : State) (n : Nat) : Option Int :=
  let f := if n % 2 = 1 then F.THM_NTC_T_LO ((n - 1) / 2) else F.THM_NTC_T_HI ((n - 1) / 2)
  if s.rd f = markS 16 then none else some (s.rdI f)

/-- Some NTC reads above STW_TMAX (R316). -/
def State.ntcAbove (s : State) : Bool :=
  !s.safe.blockA.isEmpty && (numbersFrom 1 (8 * s.segs)).any fun n => match s.thmNtc n with
    | some t => decide (pStwMax s.safe.blockA < t)
    | none => false

/-! ### Valve and damper (R315, R316) -/

/-- The coolant loop runs: slot 2 enabled and the inlet NTC VALID (R312, R314). -/
def State.loopRuns (s : State) : Bool :=
  s.seEnabled 2 && !(s.seSlot 2).disabling && (validTemp (s.ntcNow (s.ntcMap.getD 442 0))).isSome

/-- Limited to THM_VALVE_LIM.MIN–MAX. -/
def State.valveClamp (s : State) (p : Int) : Nat := (clampI (s.rd F.THM_VALVE_LIM_LO) (s.rd F.THM_VALVE_LIM_HI) p).toNat

/-- The valve demand: output 0 of slot 2, limited (R315). -/
def State.loopDemand (s : State) : Nat := s.valveClamp (((s.seInsts 2).headD {}).y.getD 0 0)

/-- A target goes to the valve when it differs from the last one sent by more than `db`. -/
def State.sendValve (s : State) (p db : Nat) : State :=
  let l := s.rd F.THM_CMD_VALVE
  if s.axState 0 = axDISABLED ∨ (s.thm.sent = true ∧ p ≤ l + db ∧ l ≤ p + db) then s
  else ({ s.motSendFrac 0 p with thm.sent := true } : State).wr F.THM_CMD_VALVE p

def State.sendDamper (s : State) (p : Nat) : State :=
  if s.axState 1 = axDISABLED ∨ (s.thm.sentD = true ∧ p = s.rd F.THM_CMD_DAMPER) then s
  else ({ s.motSendFrac 1 p with thm.sentD := true } : State).wr F.THM_CMD_DAMPER p

/-- Both axes need their targets again. -/
def State.thmResend (s : State) : State := { s with thm.sent := false, thm.sentD := false }

/-- A forced row of R316 applies. -/
def State.thmForced (s : State) : Bool := s.thm.shutting || s.ntcAbove

/-- The valve is unavailable: MOT0 not homed or faulted. -/
def State.valveUnavail (s : State) : Bool := !s.isOn (F.MOT_STATE_HOMED 0) || s.axState 0 == axFAULT || s.axState 0 == axDISABLED

/-- End of a step test (R317): generator and capture are given up, and the loop resumes with its coefficients. -/
def State.tuneEnd (s : State) (st : Status) (res : List Int) : State :=
  match s.thm.tune with
  | none => s
  | some _ =>
    let s1 := (({ s with thm.tune := none } : State).genStop .aborted).wrs [(F.THM_STATUS_TUNING, 0), (F.SE_STATUS_CAP_ARMED, 0)]
    let s2 := if s1.isOn F.THM_CFG_LOOP_EN && (s1.mode == mREADY || s1.mode == mRUN || s1.mode == mSERVICE) then s1.loadLoop else s1
    (s2.flag Fl.THM_EVENT_TUNE_DONE { status := st }).finish 0x0605 0 st res

/-- The positions of R316, the first row that applies, and its status; a forced row ends a step test (R317). -/
def State.thmDrive (s0 : State) : State :=
  let forced := s0.thmForced
  let s := if forced then s0.tuneEnd .aborted [] else s0
  let vo := s.isOn F.THM_CFG_VALVE_OWNER
  let dow := s.isOn F.THM_CFG_DAMPER_OWNER
  let unavail := !forced && s.valveUnavail
  let loop := s.loopRuns
  let s1 := s.wrs [(F.THM_STATUS_FORCED, if forced then 1 else 0),
    (F.THM_STATUS_MANUAL, if !forced && ((vo && !unavail) || dow) then 1 else 0),
    (F.THM_STATUS_LOOP_RUNNING, if !forced && !unavail && !vo && loop then 1 else 0),
    (F.THM_STATUS_COOL_EST, if s.seEnabled 1 then 1 else 0)]
  let s2 := if unavail && !s.isOn F.THM_STATUS_VALVE_UNAVAIL then s1.flag Fl.THM_EVENT_COOL_FAULT {} else s1
  let s3 := s2.wrB F.THM_STATUS_VALVE_UNAVAIL unavail
  let s4 := if unavail then s3.wr F.BAL_THROTTLE_PAUSE_SLOTS 64 else s3
  let s5 :=
    if forced then s4.sendValve (s.rd F.THM_VALVE_POS_LO) 0
    else if unavail then s4
    else if vo then s4.sendValve s.thm.hostValve 0
    else if s.thm.tune.isSome then s4.sendValve (s.valveClamp ((s.thm.loop.f : Int) + s.se.gen.out)) 0
    else if loop then s4.sendValve s.loopDemand (s.rd F.THM_SETPOINT_DEADBAND)
    else s4.sendValve (s.rd F.THM_VALVE_POS_HI) 0
  if forced then s5.sendDamper 10000
  else if dow then s5.sendDamper s.thm.hostDamper
  else if loop || s.thm.tune.isSome then s5.sendDamper s.thm.hostDamper
  else s5.sendDamper 0

/-- What a new mode asks of THM: a step test ends (R317), the kernels follow (R313), the axes get their positions. -/
def State.thmNewMode (s : State) : State := ((s.tuneEnd .aborted []).thmMode).thmDrive

end Sys2Proof.Machine
end

