-- ==== Sys2Proof/Machine/ModeOps.lean ====
section
/-! DEFINITION. The operations shared by every family that changes the mode or opens the string: the mode
transition (R40), the power states a mode allows (R50, R52), switching every contactor output off, and the
entry into LOCKOUT with its cause (R41, R268, R296). -/

namespace Sys2Proof.Machine

/-! ### Contactor outputs (R276, R280) -/

/-- Bits of SAFE_OUT.SWITCH for output `o`: HS command, HS readback, LS command, LS readback. -/
def switchBits (o : Nat) : Nat := 15 * 16 ^ o

def State.switches (s : State) : Nat := s.rd F.SAFE_OUT_SWITCH

/-- Output `o` is on: both switches commanded on. -/
def State.outOn (s : State) (o : Nat) : Bool :=
  s.switches / 16 ^ o % 2 == 1 && s.switches / (4 * 16 ^ o) % 2 == 1

/-- The string counts as closed until all six switches read back off (R268); SS_A and SS_B follow the readbacks (R280). -/
def State.mirrorSwitches (s : State) : State :=
  let w := s.switches
  let hs := (w / 2 % 2) + (w / 32 % 2) + (w / 512 % 2)
  let ls := (w / 8 % 2) + (w / 128 % 2) + (w / 2048 % 2)
  let open_ := s.closed && hs + ls == 0
  let s1 := ((s.wrB F.SAFE_STATUS_SS_A (hs == 0)).wrB F.SAFE_STATUS_SS_B (ls == 0)).wrB F.SAFE_STATUS_STRING_CLOSED (s.closed && !open_)
  if open_ then s1.isoString else s1

/-- Turn output `o` on: the low-side switch, then the high-side switch (R276). -/
def State.outOnSet (s : State) (o : Nat) : State :=
  let s1 := (({ s with safe.closedAt := s.time.count } : State).wr F.SAFE_OUT_SWITCH (s.switches ||| switchBits o) |>.wr F.SAFE_STATUS_STRING_CLOSED 1).mirrorSwitches
  if s.closed then s1 else s1.isoString

/-- The command bits of output `o`, and of all outputs. -/
def cmdBits (o : Nat) : Nat := 5 * 16 ^ o
abbrev allCmds : Nat := 0x555

/-- Both channels command output `o` off; its readbacks follow (R268, R277). -/
def State.outOffSet (s : State) (o : Nat) : State :=
  (s.wr F.SAFE_OUT_SWITCH (s.switches - (s.switches &&& cmdBits o))).mirrorSwitches

/-- Both channels command every output off (R267, R296); the string counts as closed until the readbacks follow (R268). -/
def State.allOff (s : State) : State := (s.wr F.SAFE_OUT_SWITCH (s.switches - (s.switches &&& allCmds))).mirrorSwitches

/-- Every switch is off and reads off. -/
def State.outsDead (s : State) : State := (s.wr F.SAFE_OUT_SWITCH 0).mirrorSwitches

/-- X19 is closed while STF-P runs with its heartbeat, the module is not in LOCKOUT and a mode has been entered (R280). -/
def State.setX19 (s : State) : State :=
  s.wrB F.SAFE_STATUS_FAULT_CLOSED
    (s.safe.present && s.rd F.PWR_DOM_ON_DOM / 4 % 2 == 1 && s.isOn F.SAFE_STATUS_XLINK_OK && s.mode != mLOCKOUT &&
      s.mode != mSHELF && s.safe.modeEntered)

/-! ### Ending operations that a new mode does not allow (R44) -/

/-- Stop the part of the module an ACCEPTED operation runs on. -/
def State.stopOp (s : State) (o : Op) : State :=
  match o.opcode with
  | 0x0206 => s.modSeg o.key fun x => { x with shadow := none }
  | 0x0302 => s.endCampaign .aborted
  | 0x0403 => { s with est.ocvNext := [] }
  | 0x0405 => s.wrKeep F.EST_CFG_RATE (s.rd F.EST_CFG_RATE_ACTIVE)
  | 0x0409 => { s with est.chemNext := [] }
  | 0x0503 => if s.dsp.running == some o.key then s.scheduleEnd .aborted else s.startingEnd .aborted
  | 0x0506 => s.perturbStop
  | 0x0702 =>
    let s1 : State := { s with mot.link := s.mot.link.filter fun m => match m with | .target x _ true => x != o.key | _ => true }
    ((s1.axStop o.key false 11).finish 0x0702 o.key .aborted [11]).thmResend
  | 0x0704 =>
    let s1 : State := { s with mot.link := s.mot.link.filter fun m => match m with | .home x => x != o.key | _ => true }
    (if s1.axState o.key = axHOMING then (s1.axStop o.key false 11).wr (F.MOT_STATE_HOMED o.key) 0 else s1).thmResend
  | 0x0C05 => ({ s with upd.step := 0 } : State).wrs [(F.UPD_STATUS_STATE, 4), (F.UPD_PROGRESS_PERMILLE, 0), (F.UPD_PROGRESS_SEG_SLOT, 0)]
  | 0x0F02 => s.setSeSlot o.key { s.seSlot o.key with committing := false }
  | 0x0F04 => { s with se.tables := Tbl.mod {} s.se.tables o.key fun t => { t with next := none } }
  | 0x0F07 => s.genStop .aborted
  | 0x0F09 => s.wr F.SE_STATUS_CAP_ARMED 0
  | 0x0F0B => s.wr F.SE_STATUS_CORR_RUNNING 0
  | _ => s

/-- An activation runs on: its switch record is written (R486), or it is a segment campaign, which stops after the card in progress
has joined (R484). -/
def State.updRuns (s : State) (o : Op) : Bool :=
  o.opcode == 0x0C05 && (decide (5 ≤ s.upd.step) || s.rd F.UPD_STATUS_STATE == 7)

/-- ABORTED for every open operation that the mode does not allow (R44). -/
def State.abortIllegal (s : State) (mode : Nat) : State :=
  (s.hrt.ops.filter fun o => !(o.opcode == 0x0101) && !legal o.opcode mode s.closed && !s.updRuns o).foldl
    (fun s o => (s.stopOp o).finish o.opcode o.key .aborted) s

/-! ### The mode transition (R40) -/

/-- Causes of a MODE record (R490). -/
abbrev byCommand : Nat := 0
abbrev byCondition : Nat := 1
abbrev byHold : Nat := 2
abbrev bySafety : Nat := 3
abbrev byReset : Nat := 4
abbrev byWake : Nat := 5

/-- The limit mode of SERVICE follows the mode (R288). -/
def State.setServiceLimit (s : State) : State :=
  let on := s.mode == mSERVICE
  let s1 := s.wrB F.SAFE_STATUS_SERVICE_LIMIT on
  if s1.isOn F.SAFE_STATUS_XLINK_OK then { s1 with safe.svcSignal := on } else s1

/-- What else a new mode changes: LOCKOUT ends balancing (R136, R150), RUN starts the automatic campaign (R148), THM
follows (R313, R316, R317). -/
def State.modeFollow (s : State) (new : Nat) : State :=
  let s1 := if new = mLOCKOUT then (s.endCampaign .aborted).allPathsOff else if new = mRUN then s.autoCampaign else s
  let s2 := if new = mRUN then s1 else s1.scheduleLeave.perturbStop
  s2.thmNewMode

/-- The transition takes effect: SYS_MODE, the MODE record, the operations the new mode does not allow, the
pending parameter block (R302), the READY hold time (R39), power states (R52) and X19 (R280). -/
def State.setMode (s : State) (new cause : Nat) : State :=
  let old := s.mode
  let s1 := s.wrs [(F.SYS_MODE_MODE, new), (F.SYS_MODE_TARGET, new), (F.SYS_MODE_TRANSITION, 0)]
  let s2 := s1.post { kind := .mode, system := true, fromStfP := !s1.pwr.ctl || cause == bySafety
                      data := [old, new, cause, 0] ++ leBytes 4 (s1.readWord 0x10).1 }
  let s3 : State := { s2 with pwr.trans := none, pwr.orderly := none, pwr.holdRun := new == mREADY }
  let s4 : State := if new = mSTANDBY then s3 else { s3 with safe.pendingBlock := [], safe.pendingCert := 0 }
  let s5 := ((s4.abortIllegal new).modeFollow new).setServiceLimit
  let s6 := if new = mSHELF ∨ pstateAllowed (s5.rd F.PWR_STATE_STATE) new = true then s5 else s5.enterPower 0
  s6.setFloor.setX19

/-- A requested transition takes effect and its MODE_REQUEST completes OK (R40, R45). -/
def State.modeDone (s : State) (new cause : Nat) : State :=
  (s.setMode new cause).finish 0x0101 0 .ok

/-- A requested transition ends without taking effect. -/
def State.modeFail (s : State) (st : Status) : State :=
  (({ s with pwr.trans := none } : State).wrs [(F.SYS_MODE_TRANSITION, 0), (F.SYS_MODE_TARGET, s.mode)]).finish 0x0101 0 st

/-! ### LOCKOUT causes (R268, R296) -/

/-- The causes of R296. -/
inductive Cause where
  | cmpOv | cmpUv | tone | svwHigh | svwLow | svwFrame | senseLoss | cardLost | cmpEcho | slcPeak | slcTime
  | sdiChg | sdiDis | stwHigh | stwLow | stwSensor | inputDemand | discrepancy | pulse | feedback | weldKn
  | output | coil | hallFault | xcheck | xlink | clock | selftest | safetyMemory | param | withdraw | hostStop
  deriving DecidableEq, Repr

def Cause.code : Cause → Nat
  | .cmpOv => 0x01 | .cmpUv => 0x02 | .tone => 0x03 | .svwHigh => 0x04 | .svwLow => 0x05 | .svwFrame => 0x06
  | .senseLoss => 0x07 | .cardLost => 0x08 | .cmpEcho => 0x09 | .slcPeak => 0x0A | .slcTime => 0x0B | .sdiChg => 0x0C
  | .sdiDis => 0x0D | .stwHigh => 0x0E | .stwLow => 0x0F | .stwSensor => 0x10 | .inputDemand => 0x11
  | .discrepancy => 0x12 | .pulse => 0x13 | .feedback => 0x14 | .weldKn => 0x15 | .output => 0x16 | .coil => 0x17
  | .hallFault => 0x18 | .xcheck => 0x19 | .xlink => 0x1A | .clock => 0x1B | .selftest => 0x1C | .safetyMemory => 0x1D
  | .param => 0x1E | .withdraw => 0x1F | .hostStop => 0x20

def State.hasCause (s : State) (c : Cause) : Bool := s.safe.causes / 2 ^ c.code % 2 == 1

/-- Show the latched causes of safety memory in the mirror (R296, R308). -/
def State.mirrorCauses (s : State) : State :=
  s.wrs [(F.SAFE_CAUSE_FIRST, s.safe.first), (F.SAFE_CAUSE_FIRST_CH, s.safe.firstCh), (F.SAFE_CAUSE_LAST, s.safe.last),
    (F.SAFE_CAUSE_COUNT, popcount 40 s.safe.causes), (F.SAFE_CAUSE_MAP0_MAP, s.safe.causes),
    (F.SAFE_CAUSE_MAP1_MAP, s.safe.causes / two32), (F.SAFE_STATUS_LOCKOUT, if s.safe.causes = 0 then 0 else 1),
    (F.SYS_MODE_LOCKOUT_LATCHED, if s.safe.causes = 0 then 0 else 1)]

/-- Latch a cause in safety memory (R296). -/
def State.latchCause (s : State) (c : Cause) (ch : Nat) : State :=
  let fresh := s.safe.causes == 0
  let bits := if s.hasCause c then s.safe.causes else s.safe.causes + 2 ^ c.code
  let s1 : State := { s with
    safe.causes := bits
    safe.sinceBoot := if s.safe.sinceBoot / 2 ^ c.code % 2 == 1 then s.safe.sinceBoot else s.safe.sinceBoot + 2 ^ c.code
    safe.first := if fresh then c.code else s.safe.first
    safe.firstCh := if fresh then ch else s.safe.firstCh
    safe.last := c.code }
  s1.mirrorCauses

/-- The result code of a closing that a cause ends (R282). -/
def closingResult (c : Cause) : Nat :=
  match c with
  | .weldKn => 4 | .feedback => 5 | _ => 6

/-- End a closing early: no further MODE_REQUEST(RUN) for 60 s (R282); the closing-specific registers follow. -/
def State.endClosing (s : State) (result : Nat) : State :=
  if s.safe.closing = .idle then s
  else
    ({ s with safe.closing := .idle, safe.confirmAt := none, safe.coolUntil := s.time.count + 15000000000, pwr.holdRun := s.mode == mREADY } : State).wrs
      [(F.SAFE_STATUS_CLOSING, 0), (F.SAFE_PRECHARGE_RESULT, result)]

/-- A new cause during the reset window ends the window; a pending SAFE_RESET completes SAFETY (R298). -/
def State.endWindow (s : State) (st : Status) : State :=
  ({ s with safe.weldTest := false } : State).wrs
    [(F.SAFE_STATUS_RESET_WINDOW, 0), (F.SAFE_RST_PULSE_SEEN, 0), (F.SAFE_RST_CMD_SEEN, 0), (F.SAFE_RST_WINDOW_MS, 0)]
  |>.finish 0x0E05 0 st

/-- The decision on a disconnect: its reaction time runs until every switch reads off (R308). -/
def State.reactStart (s : State) : State :=
  if s.closed && s.safe.reactAt.isNone then { s with safe.reactAt := some s.time.count } else s

/-- Entry into LOCKOUT (R41, R268, R296): every output off, the cause latched and mirrored, a closing or a
requested transition ended with SAFETY, the mode LOCKOUT with its records.  Before a mode has been entered
the cause is latched and start-up ends in LOCKOUT (R56). -/
def State.lockout (s : State) (c : Cause) (ch : Nat) : State :=
  let s0 := if s.isOn F.SAFE_STATUS_RESET_WINDOW && !s.hasCause c then s.endWindow .safety else s
  let s1 := (s0.reactStart.allOff.latchCause c ch).endClosing (closingResult c)
  let s2 := s1.post { kind := .safety, system := true, fromStfP := true
                      data := [c.code, ch, s1.rd F.SAFE_CAUSE_COUNT, 0] ++ leBytes 4 (s1.rd F.SAFE_CAUSE_MAP0_MAP)
                        ++ leBytes 4 (s1.rd F.SAFE_CAUSE_MAP1_MAP) ++ leBytes 2 (s1.rd F.SAFE_REACT_LAST) }
  let s3 := if s2.mode = mLOCKOUT ∨ s2.safe.modeEntered = false ∨ s2.mode = mSHELF then s2
    else
      let s4 := (s2.setMode mLOCKOUT bySafety).finish 0x0101 0 .safety
      s4.wr F.SAFE_COUNT_LOCKOUTS (s4.rd F.SAFE_COUNT_LOCKOUTS + 1)
  (s3.wr F.SAFE_COUNT_DEMANDS (s3.rd F.SAFE_COUNT_DEMANDS + 1)).setX19

/-- Raise a cause: two of them only block READY while the string is open (R268). -/
def State.raiseCause (s : State) (c : Cause) (ch : Nat) : State :=
  match c with
  | .inputDemand =>
    if s.closed then s.lockout c ch else s.wr F.SYS_MODE_READY_BLOCK (s.rd F.SYS_MODE_READY_BLOCK ||| 0x20)
  | .stwLow =>
    if s.closed then s.lockout c ch else s.wr F.SYS_MODE_READY_BLOCK (s.rd F.SYS_MODE_READY_BLOCK ||| 0x80)
  | _ => s.lockout c ch

end Sys2Proof.Machine
end

