-- ==== Sys2Proof/Machine/Params.lean ====
section
/-! DEFINITION. The safety parameter set (R299–R303): CRC-32C, the fields of a 512-byte block, the checks of
R301, the echo of R302 and what a confirmed block puts in force. -/

namespace Sys2Proof.Machine

abbrev inputNos : List Nat := [1, 2, 3, 4, 5, 6, 7, 8]

/-! ### The checks of R301 -/

def allZero (bs : List Byte) : Bool := bs.all fun b => b == 0

/-- Class and function pair as R270 allows; a code that R270 does not list is no pair and fails as RANGE. -/
def pairOk (cls fn : Nat) : Bool :=
  decide (3 < cls) || decide (6 < fn) || (cls == 0 && fn == 0) || ((cls == 1 || cls == 2) && (fn == 1 || fn == 2 || fn == 3)) ||
  (cls == 3 && (fn == 4 || fn == 5 || fn == 6))

def countFn (b : List Byte) (fn : Nat) : Nat := (inputNos.filter fun i => pInFn b i == fn).length

/-- The PARAM failures of R301. -/
def blockParamBad (b : List Byte) (cells genNext : Nat) : Bool :=
  b.length != 512 || u32 b 0 != 0x53414650 || u16 b 4 != 1 || u16 b 6 != 512 ||
  pGeneration b != genNext || u16 b 12 != cells ||
  !(allZero (slice b 14 2) && allZero (slice b 24 8) && u8 b 45 == 0 && u8 b 77 == 0 && allZero (slice b 134 2) &&
    allZero (slice b 176 224) && allZero (slice b 404 4) && allZero (slice b 504 8)) ||
  u8 b 84 > 3 || u8 b 88 > 1 ||
  u32 b 400 != crc32c (slice b 0 400) ||
  !(decide (pSvwMin b < pSvwMax b)) ||
  !(decide (pSvwMax b + 300 ≤ 20000 + 100 * u8 b 38)) ||
  !(if u8 b 39 = 0 then decide (pSvwMin b < 20400) else decide (20000 + 100 * u8 b 39 + 300 ≤ pSvwMin b)) ||
  !(inputNos.all fun i => pairOk (pInClass b i) (pInFn b i)) ||
  countFn b 4 != 1 || countFn b 5 != 1 || countFn b 6 > 1 || countFn b 1 == 0

def inR (lo hi x : Nat) : Bool := decide (lo ≤ x) && decide (x ≤ hi)

/-- The RANGE failures of R301: the bounds of the Range column, numbers and bounds set by other fields. -/
def blockRangeBad (b : List Byte) (segs : Nat) : Bool :=
  !(inR 20000 50000 (pSvwMax b) && inR 0 45000 (pSvwMin b) && inR 2 40 (u8 b 36) && inR 1 20 (u8 b 37) &&
    inR 1 31 (u8 b 40) && inR 0 25 (u8 b 41) && inR 1 6 (u8 b 42) && inR 10 40 (u8 b 43) && inR 5 100 (u8 b 44) &&
    inR 1 4000 (pSlcMax b) && inR 10 60000 (u16 b 48) && decide (pSlcMax b < pSlcPeak b) &&
    -- 95 % of 80 mV / R_SHUNT, R_SHUNT in 0.1 µΩ: 760 000 / R_SHUNT in A
    decide (pSlcPeak b * pRShunt b ≤ 760000) &&
    inR 1 4000 (pHallMax b) && inR 10 60000 (u16 b 54) && decide (pHallMax b < pHallPeak b) &&
    decide (100 * pHallPeak b ≤ 98 * pHallFs b) && inR 0 10000 (pSdiTol b) && inR 10 10000 (u16 b 60) &&
    decide (pSvcMax b ≤ pSlcMax b) &&
    decide (-4000 ≤ pStwMax b) && decide (pStwMax b ≤ 12000) && decide (pStwMin b < pStwMinChg b) &&
    decide (pStwMinChg b < pStwMax b) && decide (pStartMax b ≤ pStwMax b) && decide (pStwMin b ≤ pStartMin b) &&
    inR 100 10000 (u16 b 74) && inR 2 50 (u8 b 76) && inR 2000 6000 (pNtcBeta b) && inR 100 10000 (pNtcRnom b) &&
    inR 100 10000 (pRShunt b) && inR 100 10000 (pHallFs b) && inR 10 255 (u8 b 89) && inR 10 3600 (u16 b 90) &&
    inR 60 1800 (pWithdrawS b) && inR 0 2000 (u16 b 94) && u16 b 94 % 10 == 0 &&
    allZero (slice b (96 + segs) (26 - segs)) &&
    inR 10 10000 (pRPc b) && inR 1000 60000 (u16 b 124) && inR 1 1000 (pPcDone b) && decide (pPcDone b < pPcWeld b) &&
    inR 1 10000 (pPcEmax b) && inR 10 500 (u16 b 132) &&
    inputNos.all fun i =>
      decide (pInClass b i ≤ 3) && decide (pInFn b i ≤ 6) && (
      pInClass b i == 0 || (inR 2 50 (pInT b i) && (pInClass b i == 3 || inR 10 500 (pInDisc b i)))))

/-! ### Echo and confirmation (R302) -/

/-- The STW code limits of R292: TMAX, TMIN, TMIN_CHG, START_MAX, START_MIN. -/
def stwCodes (b : List Byte) : List Nat :=
  [pStwMax b, pStwMin b, pStwMinChg b, pStartMax b, pStartMin b].map fun t => ntcCode (pNtcBeta b) (pNtcRnom b) t

/-- The echo: every parameter, then the STW code limits (R302, step 3). -/
def echoBytes (b : List Byte) : List Byte := slice b 32 144 ++ (stwCodes b).flatMap (leBytes 2)

/-- A confirmed block is in force in both channels (R46, R303). -/
def State.paramValid (s : State) : Bool := !s.safe.blockA.isEmpty && s.safe.blockA == s.safe.blockB

/-- Show the block in force in the mirror and in the comparator, wire and current parameters (R118, R110, R153, R160). -/
def State.mirrorParams (s : State) : State :=
  let b := s.safe.blockA
  if b.isEmpty then s
  else s.wrs [(F.SAFE_PARAM_GEN_VALUE, pGeneration b), (F.SAFE_PARAM_CRC_VALUE, u32 b 400),
    (F.SAFE_STATUS_PARAM_VALID, if s.paramValid then 1 else 0),
    (F.SEG_CMP_PARAM_OV_CODE, u8 b 38), (F.SEG_CMP_PARAM_UV_CODE, u8 b 39), (F.SEG_CMP_PARAM_DEGLITCH_MS, u8 b 40),
    (F.SEG_CMP_PARAM_PAIR_MARGIN, u8 b 41), (F.SEG_WIRE_PARAM_DETECT_BLOCKS, u8 b 42),
    (F.SEG_WIRE_PARAM_AMP_THRESH, u8 b 43), (F.SEG_WIRE_PARAM_SUM_MISMATCH, u8 b 44),
    (F.CIM_SHUNT_PARAM_R_SHUNT, pRShunt b), (F.CIM_SHUNT_PARAM_INVERT, u8 b 84), (F.CIM_SHUNT_PARAM_TC_ENABLE, u8 b 84 / 2),
    (F.CIM_SHUNT_PARAM_TC_PPM, u8 b 85), (F.CIM_HALL_PARAM_FS_A, pHallFs b), (F.CIM_HALL_PARAM_INVERT, u8 b 88)]

/-- EST_VLIM and EST_ILIM outside a new window are narrowed to it, with a system-class record (R241). -/
def State.narrowLimits (s : State) : State :=
  let b := s.safe.blockA
  let lo := clampN (pSvwMin b) (pSvwMax b) (s.rd F.EST_VLIM_V_LO)
  let hi := clampN (pSvwMin b) (pSvwMax b) (s.rd F.EST_VLIM_V_HI)
  let pk := min (pSlcMax b) (s.rd F.EST_ILIM_PEAK_A)
  let ct := min (pSlcMax b) (s.rd F.EST_ILIM_CONT_A)
  if lo = s.rd F.EST_VLIM_V_LO ∧ hi = s.rd F.EST_VLIM_V_HI ∧ pk = s.rd F.EST_ILIM_PEAK_A ∧ ct = s.rd F.EST_ILIM_CONT_A then s
  else ((((s.wrKeep F.EST_VLIM_V_LO lo).wrKeep F.EST_VLIM_V_HI hi).wrKeep F.EST_ILIM_PEAK_A pk).wrKeep F.EST_ILIM_CONT_A ct).detail true
    (leBytes 2 lo ++ leBytes 2 hi ++ leBytes 2 pk ++ leBytes 2 ct)

/-- Both channels write the block to their stores and to both MRAM copies, and it takes effect at once (R302, step 5). -/
def State.putBlock (s : State) (b : List Byte) : State :=
  ({ s with safe.blockA := b, safe.blockB := b, safe.copy0 := b, safe.copy1 := b,
            safe.pendingBlock := [], safe.pendingCert := 0 } : State).mirrorParams.narrowLimits

/-- The SERVICE limit or SLC_I_MAX, in mA (R288). -/
def State.slcLevel (s : State) : Nat :=
  1000 * (if s.mode = mSERVICE then pSvcMax s.safe.blockA else pSlcMax s.safe.blockA)

/-- Magnitude of the shunt current in mA, and whether it has a valid value (R152). -/
def State.current (s : State) : Int := s.rdI F.CIM_CURRENT_MA

def State.currentValid (s : State) : Bool := s.rd F.CIM_CURRENT_MA != markS 32

end Sys2Proof.Machine
end

