-- ==== Sys2Proof/Machine/SafeOps.lean ====
section
/-! DEFINITION. Shared operations of the safety card: the READY conditions (R46), the input machines
(R270–R274), switches and feedback, closing (R281, R282), the two-part reset (R298) and withdrawals (R294). -/

namespace Sys2Proof.Machine

/-! ### Segment slots -/

/-- SEG_STATE_s.STATE codes (chapter Cell Measurement). -/
abbrev segABSENT : Nat := 0
abbrev segBLANK : Nat := 1
abbrev segISOLATED : Nat := 2
abbrev segJOINING : Nat := 3
abbrev segPROVISIONAL : Nat := 4
abbrev segSERVICE : Nat := 5
abbrev segLOST : Nat := 6

def State.segState (s : State) (k : Nat) : Nat := s.rd (F.SEG_STATE_STATE k)

/-- The card of a slot sends frames: PROVISIONAL or IN_SERVICE. -/
def State.segLive (s : State) (k : Nat) : Bool := s.segState k == segPROVISIONAL || s.segState k == segSERVICE

/-- The card's island is supplied from aux (R53, R127). -/
def State.onAux (s : State) (k : Nat) : Bool := s.rd F.PWR_SEG_ON_ISLAND / 2 ^ (k - 1) % 2 == 1

/-! ### The tone's way through the cards (R123, R125) -/

/-- The bypass of a slot is closed. -/
def State.bypassed (s : State) (k : Nat) : Bool := s.rd F.SEG_TONE_BYPASS / 2 ^ (k - 1) % 2 == 1

/-- What stands in a slot passes the tone, by its own condition and not by the ring master's view of it (R123). -/
def State.gatePasses (s : State) (k : Nat) : Bool :=
  let x := s.segOf k
  let latched := s.rd (F.SEG_CMP_OV_LATCH k) != 0 || s.rd (F.SEG_CMP_UV_LATCH k) != 0
  if !x.present then false
  else if x.blank then true
  else if s.onAux k then
    (s.segLive k || (s.segState k == segLOST && x.join < 5)) && !x.cut && !latched && !s.isOn (F.SEG_WIRE_SENSE_LOSS k) && !x.selftest
  else !latched && !x.keepLow

/-- The tone passes every slot from 1 to 26. -/
def State.toneThrough (s : State) : Bool := (numbersFrom 1 26).all fun k => s.bypassed k || s.gatePasses k

/-- TONE_PRESENT follows the gates; in SHELF the receiver of the AON domain listens instead (R126). -/
def State.gateTone (s : State) : State :=
  if s.isOn F.SEG_TONE_SHELF_BURST then s else s.wrB F.SEG_TONE_TONE_PRESENT (s.toneThrough && !s.seg.loopOpen)

/-! ### Safety inputs (R270–R274) -/

def State.input (s : State) (i : Nat) : SafeInput := Tbl.get {} s.safe.inputs i

def State.setInput (s : State) (i : Nat) (x : SafeInput) : State := { s with safe.inputs := Tbl.put s.safe.inputs i x }

def State.inClass (s : State) (i : Nat) : Nat := if s.safe.blockA.isEmpty then 0 else pInClass s.safe.blockA i

def State.inFn (s : State) (i : Nat) : Nat := if s.safe.blockA.isEmpty then 0 else pInFn s.safe.blockA i

/-- One evaluation of the machine of R273 after a channel change; the counts against t_disc expire by DISCREPANCY. -/
def SafeInput.eval (x : SafeInput) : SafeInput :=
  let y : SafeInput :=
    match x.st with
    | .healthy => if x.a || x.b then { x with st := .demand, both := x.a && x.b } else x
    | .demand =>
      if x.both then (if !x.a || !x.b then { x with st := .back } else x)
      else { x with both := x.a && x.b }
    | .back =>
      if x.a && x.b then { x with st := .demand }
      else if !x.a && !x.b && !x.disc then { x with st := .healthy } else x
  if y.disc && y.both && !y.a && !y.b then { y with disc := false, st := .healthy } else y

/-- The start-up test sees both channels open or both closed, without discrepancy (R47); a completed test stands (R48). -/
def SafeInput.see (x : SafeInput) : SafeInput :=
  if x.seenOpen && x.seenClosed then x
  else if x.disc then { x with seenOpen := false, seenClosed := false }
  else { x with seenOpen := x.seenOpen || (x.a && x.b), seenClosed := x.seenClosed || (!x.a && !x.b) }

/-- The input demands: classes 1 and 2 by their machine (R273). -/
def State.inDemand (s : State) (i : Nat) : Bool :=
  (s.inClass i == 1 || s.inClass i == 2) && (s.input i).st != .healthy

def inMap (p : Nat → Bool) : Nat := (inputNos.map fun i => if p i then 2 ^ (i - 1) else 0).sum

/-- Some input of a function demands. -/
def State.fnDemand (s : State) (fn : Nat) : Bool := inputNos.any fun i => s.inFn i == fn && s.inDemand i

/-- Refresh SAFE_IN, the start-up bits and the demand bits of SAFE_STATUS (R308, R290). -/
def State.mirrorInputs (s : State) : State :=
  s.wrs [(F.SAFE_IN_CH_A, inMap fun i => !(s.input i).a), (F.SAFE_IN_CH_B, inMap fun i => !(s.input i).b),
    (F.SAFE_IN_DEMAND, inMap s.inDemand), (F.SAFE_IN_DISCREPANCY, inMap fun i => (s.input i).disc),
    (F.SAFE_IN_FAULT_STARTUP_SEEN, inMap fun i => s.inClass i == 1 && (s.input i).seenOpen && (s.input i).seenClosed),
    (F.SAFE_STATUS_SSD_DEMAND, if s.fnDemand 1 then 1 else 0),
    (F.SAFE_STATUS_SDI_CHG, if s.fnDemand 2 || s.safe.stwInhibit then 1 else 0),
    (F.SAFE_STATUS_SDI_DIS, if s.fnDemand 3 then 1 else 0)]

/-- Read all contacts afresh and clear the start-up test: SAFE-P powered up or STF-P restarted (R47).
Bit `i − 1` of `closed` is channel a of SIi, bit `7 + i` channel b. -/
def State.startInputs (s : State) (closed : Nat) : State :=
  let f (i : Nat) : Nat × SafeInput :=
    let a := closed / 2 ^ (i - 1) % 2 == 0
    let b := closed / 2 ^ (7 + i) % 2 == 0
    (i, { st := if a || b then .demand else .healthy, both := a && b, a := a, b := b, seenOpen := a && b, seenClosed := !a && !b })
  ({ s with safe.inputs := inputNos.map f, safe.ssdDelay := false } : State).mirrorInputs

/-! ### READY conditions (R46) -/

/-- The start-up test of every class 1 input is complete (R47, R48). -/
def State.guardDone (s : State) : Bool := inputNos.all fun i => s.inClass i != 1 || ((s.input i).seenOpen && (s.input i).seenClosed)

/-- Every class 1 input is closed, as a READY request needs (R47). -/
def State.guardClosed (s : State) : Bool := inputNos.all fun i => s.inClass i != 1 || (!(s.input i).a && !(s.input i).b)

/-- A slot beyond the variant holds no card at all, which counts as a missing card (R3). -/
def State.slotEmpty (s : State) : Bool := (numbersFrom (s.segs + 1) (26 - s.segs)).any fun k => !(s.segOf k).present

/-- The unmet READY conditions, bit 0 for SELFTEST up to bit 7 for THERMAL (R46). -/
def State.readyBits (s : State) : Nat :=
  let b (c : Bool) (v : Nat) : Nat := if c then v else 0
  b (!s.safe.selfTest || s.segList.any fun k => (s.segOf k).selftest) 1 + b (!s.guardDone) 2 + b (!s.paramValid) 4 +
  b ((s.segList.any fun k => s.segState k != segSERVICE) || s.slotEmpty) 8 + b (s.isOn F.CIM_ISO_STATUS_ALARM) 0x10 +
  b (s.isOn F.SAFE_STATUS_SSD_DEMAND || s.isOn F.SAFE_STATUS_SVW_DEMAND || s.rd F.SAFE_IN_DISCREPANCY != 0) 0x20 +
  b (!s.isOn F.SAFE_OUT_COIL_SUPPLY) 0x40 +
  b (s.isOn F.THM_STATUS_ACK_PENDING || s.safe.startOut || s.safe.lowOpen) 0x80

/-- Recompute SYS_MODE.READY_BLOCK. -/
def State.setReady (s : State) : State := s.wr F.SYS_MODE_READY_BLOCK s.readyBits

/-! ### Contactor feedback (R274) -/

/-- The contactor an input's function feeds back: 0 KP, 1 KN, 2 KPC. -/
def fbOutput (fn : Nat) : Nat := fn - 4

/-- Both channels of a feedback input agree with the commanded state: healthy while the contactor is open. -/
def State.fbAgrees (s : State) (i : Nat) : Bool :=
  let x := s.input i
  let on := s.outOn (fbOutput (s.inFn i))
  x.a == on && x.b == on

/-- Every feedback input agrees with the commands. -/
def State.fbAll (s : State) : Bool := inputNos.all fun i => s.inClass i != 3 || s.fbAgrees i

/-- The feedback input of a function, if any, reads healthy in both channels. -/
def State.fbHealthy (s : State) (fn : Nat) : Bool :=
  inputNos.all fun i => !(s.inClass i == 3 && s.inFn i == fn) || (!(s.input i).a && !(s.input i).b)

/-- All six switches read off. -/
def State.allRead (s : State) : Bool :=
  let w := s.switches
  w / 2 % 2 + w / 8 % 2 + w / 32 % 2 + w / 128 % 2 + w / 512 % 2 + w / 2048 % 2 == 0

/-- The PLUMB index of the latest instant (R105). -/
def State.plumbIdx (s : State) : Nat := s.rd64 F.SEG_PLUMB_IDX_LO_IDX_LO F.SEG_PLUMB_IDX_HI_IDX_HI

/-! ### The structure-level check of the parameter block (R24, R299) -/

/-- A block of which the CRC fails. -/
def blockBad (b : List Byte) : Bool := !b.isEmpty && u32 b 400 != crc32c (b.take 400)

/-- A block in force that fails its CRC counts as an uncorrectable error in safety memory: 1 channel A, 2 channel B, 3 both. -/
def State.blocksChecked (s : State) : State :=
  match blockBad s.safe.blockA, blockBad s.safe.blockB with
  | true, true => s.raiseCause .safetyMemory 3
  | true, false => s.raiseCause .safetyMemory 1
  | false, true => s.raiseCause .safetyMemory 2
  | false, false => s

/-! ### Fault tone (R124) -/

/-- STF-H declares the tone lost: TONE_LOST, cause TONE, and CMP_OV or CMP_UV where a card shows a latch (R124). -/
def State.toneLost (s : State) : State :=
  let s2 := (s.wr F.SEG_TONE_TONE_PRESENT 0).raiseCause .tone 2
  let s3 := if s2.segList.any fun k => match (s2.segOf k).frame with | some f => f.ovAny | none => false then
      s2.raiseCause .cmpOv 2 else s2
  let s4 := if s3.segList.any fun k => match (s3.segOf k).frame with | some f => f.uvAny | none => false then
      s3.raiseCause .cmpUv 2 else s3
  s4.flag Fl.SEG_SENSE_EVENT_TONE_LOST { system := true, stfP := true }

/-! ### Orderly open (R39, R283) -/

/-- Begin an orderly open that leads to a mode: the published limits go to 0 (R39, R244). -/
def State.startOrderly (s : State) (dest cause : Nat) : State :=
  if s.pwr.orderly.isSome then s else { s with pwr.orderly := some { dest := dest, cause := cause } }

/-- Every switch reads off: the reaction that was running has its time (R308). -/
def State.reactEnd (s : State) : State :=
  match s.safe.reactAt with
  | some t =>
    if s.allRead then
      let d := satU 16 ((s.time.count - t) / 2500)
      ({ s with safe.reactAt := none } : State).wrs [(F.SAFE_REACT_LAST, d), (F.SAFE_REACT_MAX, max d (s.rd F.SAFE_REACT_MAX))]
    else s
  | none => s

/-! ### Closing the string (R281, R282) -/

/-- Steps 1 and 2 of R281: both channels confirm, KPC closes and the weld check begins. -/
def State.startClosing (s : State) : State :=
  let s1 := ({ s with safe.closing := .weldCheck, safe.closingFrom := s.mode, safe.energy := 0, safe.instants := 0, safe.peak := 0,
                      pwr.holdRun := false } : State).wrs
    [(F.SAFE_STATUS_CLOSING, 1), (F.SAFE_PC_ENERGY_J, 0), (F.SAFE_PRECHARGE_DURATION, 0), (F.SAFE_PRECHARGE_RESULT, 0)]
  s1.outOnSet 2

/-- What both channels confirm in step 1 of R281. -/
def State.canClose (s : State) : Bool :=
  s.readyBits == 0 && s.allRead && s.switches == 0 && s.fbHealthy 4 && s.fbHealthy 5 && s.fbHealthy 6

/-- Precharge energy in J: the sum of I² in mA² over instants of 250 µs, with R_PC in 0.1 Ω (R281). -/
def State.pcEnergy (s : State) : Nat := s.safe.energy * pRPc s.safe.blockA * 25 / 1000000000000

/-- A closing ends early without LOCKOUT (R282): all outputs off, MODE_REQUEST completes SAFETY. -/
def State.failClosing (s : State) (result : Nat) : State :=
  (s.allOff.endClosing result).modeFail .safety

/-- Step 5 measures: DURATION in 10 ms and the energy (R281). -/
def State.noteClosing (s : State) : State :=
  s.wrs [(F.SAFE_PRECHARGE_DURATION, s.safe.instants / 40), (F.SAFE_PC_ENERGY_J, s.pcEnergy)]

/-! ### What the window functions compare (R113, R284, R285, R292, R293) -/

/-- The result of a position in the latest frame of a card, in µV. -/
def State.frameCell (s : State) (k j : Nat) : Option Int :=
  match (s.segOf k).frame with
  | some f => if j < 1 then none else match f.cells.getD (j - 1) missing24 with
    | v => if v = missing24 then none else some v
  | none => none

/-- A latched wire fault's number, where exactly one cell wire is latched. -/
def State.latchedWire (s : State) (k : Nat) : Option Nat :=
  let m := s.rd (F.SEG_WIRE_WIRE_MAP k)
  (numbersFrom 0 17).find? fun w => m == 2 ^ w

/-- The lower position of the pair of a wire, which keeps its comparators on the pair span, and the other (R113). -/
def pairOf (k : Nat) : Nat × Nat := if k = 0 then (1, 2) else if k = 16 then (15, 16) else (k, k + 1)

/-- The total of the pair of a latched wire in µV (R113); w0 and w16 take it from SUM. -/
def State.pairTotal (s : State) (k w : Nat) : Option Int :=
  let v (j : Nat) : Option Int := s.frameCell k j
  let less (a n : Nat) : Option Int :=
    match (s.segOf k).frame with
    | some f =>
      if f.sum = missing24 ∨ (numbersFrom a n).any (fun j => (v j).isNone) = true then none
      else some (16 * f.sum - ((numbersFrom a n).map fun j => (v j).getD 0).sum)
    | none => none
  if w = 0 then less 3 14 else if w = 16 then less 1 14
  else match v (pairOf w).1, v (pairOf w).2 with
    | some a, some b => some (a + b)
    | _, _ => none

/-- Twice what the window comparison takes for a position, in µV, and the margin that tightens the limits: the lower position of a pair
carries P/2, its other one nothing (R113). -/
def State.svwValue (s : State) (k j : Nat) : Option (Int × Int) :=
  match s.latchedWire k with
  | some w =>
    let p := pairOf w
    if j = p.1 then (s.pairTotal k w).map fun t => (t, 10000 * pPairMargin s.safe.blockA)
    else if j = p.2 then none else (s.frameCell k j).map fun v => (2 * v, 0)
  | none => (s.frameCell k j).map fun v => (2 * v, 0)

/-- A position lies above, or below, the window (R284). -/
def State.svwOut (s : State) (k j : Nat) (high : Bool) : Option Bool :=
  let b := s.safe.blockA
  (s.svwValue k j).map fun p =>
    if high then decide (2 * (100 * (pSvwMax b : Int) - p.2) < p.1) else decide (p.1 < 2 * (100 * (pSvwMin b : Int) + p.2))

/-- Every position of a live card lies inside the upper, or lower, limit by more than `h` µV (R296). -/
def State.svwWithin (s : State) (k : Nat) (h : Int) (high : Bool) : Bool :=
  let b := s.safe.blockA
  !s.segLive k || (numbersFrom 1 16).all fun j => match s.svwValue k j with
    | some p => if high then decide (p.1 < 2 * (100 * (pSvwMax b : Int) - p.2 - h)) else decide (2 * (100 * (pSvwMin b : Int) + p.2 + h) < p.1)
    | none => true

/-- Consecutive instants for which the positions of a card have been above and below the window; a missing result leaves the counts
(R284, R285). -/
def State.svwCount (s : State) (k : Nat) : List (Nat × Nat) :=
  (numbersFrom 1 16).map fun j =>
    let c := (s.segOf k).beyond.getD (j - 1) (0, 0)
    match s.svwOut k j true, s.svwOut k j false with
    | some h, some l => (if h then c.1 + 1 else 0, if l then c.2 + 1 else 0)
    | _, _ => c

/-- How long a position has been beyond the window, in instants. -/
def State.svwFor (s : State) (k j : Nat) (high : Bool) : Nat :=
  let c := (s.segOf k).beyond.getD (j - 1) (0, 0)
  if high then c.1 else c.2

/-- Codes of the enabled NTCs of a segment as last sent, by input (R292). -/
def State.segNtcs (s : State) (k : Nat) : List (Nat × Nat) :=
  (numbersFrom 1 8).filterMap fun q =>
    if pNtcMask s.safe.blockA (8 * (k - 1) + q) && Tbl.has (s.segOf k).ntc q then some (q, Tbl.get 0 (s.segOf k).ntc q) else none

/-- Codes of the enabled NTCs as last sent (R292). -/
def State.ntcCodes (s : State) : List Nat := s.segList.flatMap fun k => (s.segNtcs k).map (·.2)

/-- A code's temperature, where the NTC is neither open nor shorted. -/
def State.codeTemp (s : State) (c : Nat) : Option Int :=
  if c < 1000 ∨ 64535 < c ∨ s.safe.blockA.isEmpty then none
  else some (ntcTemp (pNtcBeta s.safe.blockA) (pNtcRnom s.safe.blockA) c)

/-- Some enabled NTC lies above, or below, a temperature in 0.01 °C: channel A compares temperatures, channel B the codes as they stand
(R292). -/
def State.ntcBeyond (s : State) (ch : Nat) (t : Int) (hot : Bool) : Bool :=
  let b := s.safe.blockA
  let lim := ntcCode (pNtcBeta b) (pNtcRnom b) t
  s.ntcCodes.any fun c =>
    if ch = 1 then (match s.codeTemp c with | some v => if hot then decide (t < v) else decide (v < t) | none => false)
    else if hot then decide (c < lim) else decide (lim < c)

def insertSorted (x : Int) : List Int → List Int
  | [] => [x]
  | y :: l => if x ≤ y then x :: y :: l else y :: insertSorted x l

/-- The median, the mean of the middle two for an even number (R293). -/
def median (l : List Int) : Rat :=
  let m := l.foldl (fun acc x => insertSorted x acc) []
  let n := m.length
  if n % 2 = 1 then (m.getD (n / 2) 0 : Rat) else ((m.getD (n / 2 - 1) 0 : Rat) + m.getD (n / 2) 0) / 2

/-- NTC `q` of a card, at `t` in 0.01 °C, differs from the median of its segment's enabled NTCs by more than STW_PLAUS (R293). -/
def State.ntcImplausible (s : State) (k q : Nat) (t : Int) : Bool :=
  let b := s.safe.blockA
  let en := (numbersFrom 1 8).filter fun i => pNtcMask b (8 * (k - 1) + i)
  let l := en.filterMap fun i =>
    if i = q then some t else if Tbl.has (s.segOf k).ntc i then s.codeTemp (Tbl.get 0 (s.segOf k).ntc i) else none
  en.contains q && decide (3 ≤ en.length) && decide (3 ≤ l.length) && decide ((100 * u8 b 76 : Nat) < |(t : Rat) - median l|)

/-- Some enabled NTC is open, shorted or implausible (R293). -/
def State.ntcFaulty (s : State) : Bool :=
  s.segList.any fun k => (s.segNtcs k).any fun p => match s.codeTemp p.2 with
    | some t => s.ntcImplausible k p.1 t
    | none => true

/-! ### The two-part reset (R298) -/

/-- Every OV latch, or UV latch, is one that channel A clears now (R120). -/
def State.latchesReleased (s : State) (rel : List (Nat × Nat)) (uv : Bool) : Bool :=
  s.segList.all fun k =>
    let l := s.rd (if uv then F.SEG_CMP_UV_LATCH k else F.SEG_CMP_OV_LATCH k)
    (l &&& (Tbl.get 0 rel k / 2 ^ if uv then 16 else 0)) == l

/-- Every enabled NTC lies strictly inside the bound as both channels read it: what R296 asks to clear STW_HIGH (hot) or STW_LOW; channel A leaves out codes that are no temperature (R292). -/
def State.ntcInside (s : State) (t : Int) (hot : Bool) : Bool :=
  let b := s.safe.blockA
  let lim := ntcCode (pNtcBeta b) (pNtcRnom b) t
  s.ntcCodes.all fun c =>
    (match s.codeTemp c with | some v => if hot then decide (v < t) else decide (t < v) | none => true) &&
    (if hot then decide (lim < c) else decide (c < lim))

/-- Is a latched cause cleared (R296)? -/
def State.causeCleared (s : State) (m : ResetRead) (c : Cause) : Bool :=
  let meas := m.held / 2 ^ c.code % 2 == 1
  let b := s.safe.blockA
  let hyst : Int := 10000 * pSvwHyst b
  match c with
  | .cardLost => s.safe.withdraw.lost.all fun k => s.segState k == segSERVICE
  | .withdraw => s.safe.withdraw.raised.all fun k => s.segState k == segSERVICE
  | .senseLoss => s.safe.withdraw.sense.all fun k => !s.isOn (F.SEG_WIRE_SENSE_LOSS k) &&
      ((s.segOf k).verdict == .none) && decide (s.rd F.SEG_WIRE_PARAM_DETECT_BLOCKS ≤ (s.segOf k).clean)
  | .slcPeak | .slcTime => s.currentValid && decide (s.current.natAbs * 100 < 1000 * pSlcMax s.safe.blockA)
  | .inputDemand => !s.isOn F.SAFE_STATUS_SSD_DEMAND
  | .discrepancy => s.rd F.SAFE_IN_DISCREPANCY == 0
  | .pulse => s.rd F.SAFE_IN_FAULT_PULSE_FAULT == 0
  | .feedback => s.allRead && s.fbHealthy 4 && s.fbHealthy 5 && s.fbHealthy 6
  | .weldKn => false
  | .output => s.allRead
  | .coil => s.isOn F.SAFE_OUT_COIL_SUPPLY
  | .xlink => meas && s.isOn F.SAFE_STATUS_XLINK_OK
  | .selftest | .safetyMemory => s.safe.selfTest && s.safe.sinceBoot / 2 ^ c.code % 2 == 0
  | .param => s.paramValid
  | .hostStop => true
  | .cmpOv => s.latchesReleased m.rel false
  | .cmpUv => s.latchesReleased m.rel true
  | .tone => meas && s.isOn F.SEG_TONE_TONE_PRESENT
  | .svwHigh => s.segList.all fun k => s.svwWithin k hyst true
  | .svwLow => s.segList.all fun k => s.svwWithin k hyst false
  | .svwFrame => s.segList.all fun k => s.svwWithin k hyst true && s.svwWithin k hyst false
  | .stwHigh => s.ntcInside (pStwMax b - 500) true
  | .stwLow => s.ntcInside (pStwMin b + 500) false
  | .stwSensor => meas && !s.ntcFaulty
  | .sdiChg => meas && s.currentValid && decide (s.current ≤ 100 * pSdiTol b)
  | .sdiDis => meas && s.currentValid && decide (-s.current ≤ 100 * pSdiTol b)
  | .xcheck => meas && !s.isOn F.SAFE_STATUS_XCHECK_ACTIVE
  | .cmpEcho | .hallFault | .clock => meas

abbrev allCauses : List Cause :=
  [.cmpOv, .cmpUv, .tone, .svwHigh, .svwLow, .svwFrame, .senseLoss, .cardLost, .cmpEcho, .slcPeak, .slcTime, .sdiChg,
   .sdiDis, .stwHigh, .stwLow, .stwSensor, .inputDemand, .discrepancy, .pulse, .feedback, .weldKn, .output, .coil,
   .hallFault, .xcheck, .xlink, .clock, .selftest, .safetyMemory, .param, .withdraw, .hostStop]

/-- Every latched cause but WELD_KN counts as cleared. -/
def State.othersCleared (s : State) (m : ResetRead) : Bool :=
  allCauses.all fun c => !s.hasCause c || c == .weldKn || s.causeCleared m c

/-- The latches of a card whose comparators have been de-asserted for 100 ms, OV and UV (R120). -/
def State.clearable (s : State) (rel : List (Nat × Nat)) (k : Nat) : Nat × Nat :=
  let m := Tbl.get 0 rel k
  (s.rd (F.SEG_CMP_OV_LATCH k) &&& m % 65536, s.rd (F.SEG_CMP_UV_LATCH k) &&& m / 65536)

/-- Channel A clears the comparator latches that can be cleared; a latch whose cause persists stays (R120, R298). -/
def State.clearCmp (s : State) (rel : List (Nat × Nat)) : State :=
  (s.segList.foldl (fun s k =>
    let c := s.clearable rel k
    s.wrs [(F.SEG_CMP_OV_LATCH k, s.rd (F.SEG_CMP_OV_LATCH k) - c.1), (F.SEG_CMP_UV_LATCH k, s.rd (F.SEG_CMP_UV_LATCH k) - c.2)]) s).gateTone

/-- The reset completes (R298): comparator latches and LOCKOUT latch cleared, STANDBY; a SAFE_RESET that
waits completes OK. -/
def State.resetDone (s : State) (rel : List (Nat × Nat)) : State :=
  let s0 := s.clearCmp rel
  let s1 : State := { s0 with safe.causes := 0, safe.first := 0, safe.firstCh := 0, safe.last := 0, safe.sinceBoot := 0,
                                      safe.withdraw := {}, safe.weldTest := false }
  let s2 := (s1.mirrorCauses.wrs [(F.SAFE_STATUS_RESET_WINDOW, 0), (F.SAFE_RST_PULSE_SEEN, 0), (F.SAFE_RST_CMD_SEEN, 0),
      (F.SAFE_RST_WINDOW_MS, 0), (F.SAFE_OUT_TEST_FAIL, 0), (F.SAFE_STATUS_SVW_DEMAND, 0), (F.SAFE_STATUS_STW_DEMAND, 0)])
  ((s2.setMode mSTANDBY byReset).finish 0x0E05 0 .ok).setReady

/-- Both parts have arrived: judge the causes, or begin the test close of KPC for WELD_KN (R298). -/
def State.judgeReset (s : State) (m : ResetRead) : State :=
  if !s.othersCleared m then s.endWindow .safety
  else if !s.hasCause .weldKn then s.resetDone m.rel
  else if s.fbHealthy 5 && s.isOn F.SAFE_OUT_COIL_SUPPLY then
    ({ s with safe.weldTest := true, safe.peak := 0 } : State).outOnSet 2
  else s.endWindow .safety

/-- The first part of the reset opens the window of 10 s (R298). -/
def State.openWindow (s : State) (part : Field) : State :=
  ({ s with safe.windowAt := s.time.count } : State).wrs [(F.SAFE_STATUS_RESET_WINDOW, 1), (part, 1), (F.SAFE_RST_WINDOW_MS, 10000)]

/-! ### Segment card withdrawal (R294) -/

def State.wdSlot (s : State) : Nat := s.rd F.SAFE_WITHDRAW_SLOT

/-- Open the bypass of the slot and end the withdrawal. -/
def State.endWithdrawal (s : State) : State :=
  (s.wrs [(F.SAFE_WITHDRAW_SLOT, 0), (F.SAFE_WITHDRAW_REMAIN_S, 0), (F.SAFE_STATUS_WITHDRAW_ACTIVE, 0), (F.SEG_TONE_BYPASS, 0)]).gateTone

/-- Cause CARD_LOST for a slot, unless its withdrawal is announced (R287, R294). -/
def State.causeCardLost (s : State) (k : Nat) : State :=
  if s.wdSlot = k then s
  else
    let l := s.safe.withdraw.lost
    (({ s with safe.withdraw.lost := if l.contains k then l else l ++ [k] } : State).raiseCause .cardLost 1)

end Sys2Proof.Machine
end

