-- ==== Sys2Proof/Machine/SegOps.lean ====
section
/-! DEFINITION. Shared operations of the segment cards: sparing records, joins and resets of a card
(R95–R101), sense-wire verdicts (R109–R117) and the latch check after a wake (R297). -/

namespace Sys2Proof.Machine

/-! ### UNDERCOAT records (R28–R30, R501) -/

/-- The bit of UC_STATUS.EXHAUSTED of a pool. -/
def State.poolOut (s : State) (pool : Nat) : Bool := s.rd F.UC_STATUS_EXHAUSTED / 2 ^ pool % 2 == 1

/-- The spare of a resource is used up: status bit of the pool, flag, SPARING record with action 2, a milestone (R29, R30, R491,
R501); once for each resource. -/
def State.exhaust (s : State) (pool : Nat) (res : Nat := 0) : State :=
  if s.recorder.spent.contains (pool, res) then s
  else
    let s1 : State := { s with recorder.spent := s.recorder.spent ++ [(pool, res)] }
    let s2 := if s1.poolOut pool then s1 else s1.wr F.UC_STATUS_EXHAUSTED (s1.rd F.UC_STATUS_EXHAUSTED + 2 ^ pool)
    (s2.flag Fl.UC_EVENT_EXHAUSTED { system := true, idx := pool }).sparing pool 2 res 0 true

/-- A resource's spare can serve again: the bit of its pool falls once no other spare of the pool is used up (R30). -/
def State.unspend (s : State) (pool : Nat) (res : Nat := 0) : State :=
  let l := s.recorder.spent.filter (· != (pool, res))
  let s1 : State := { s with recorder.spent := l }
  if s1.poolOut pool && !(l.any fun p => p.1 == pool) then s1.wr F.UC_STATUS_EXHAUSTED (s1.rd F.UC_STATUS_EXHAUSTED - 2 ^ pool) else s1

/-- A resource is back in service (action 5). -/
def State.restorePool (s : State) (pool res : Nat) : State := (s.unspend pool).sparing pool 5 res 0

/-- A spare takes work: flag and SPARING record with action 1 (R501). -/
def State.spareTook (s : State) (pool replaced taken : Nat) : State :=
  (s.flag Fl.UC_EVENT_SUBSTITUTED { system := true, idx := pool }).sparing pool 1 replaced taken

/-- How a SPARING record names a converter: segment in the low byte, position in the next. -/
def convRes (k j : Nat) : Nat := k + 256 * j

/-! ### Substitutions of the controller card, one at a time (R29, R502, R503) -/

/-- The key under which UC_SUBSTITUTE of a core stays open. -/
abbrev coreKey : Nat := 1000

/-- Spare rows or blocks left of a pool: 2 MRAM rows, 3 flash blocks of a device. -/
def spareField (pool d : Nat) : Field := if pool = 2 then F.UC_SPARES_MRAM_ROWS else if d = 0 then F.UC_SPARES_FLASH0 else F.UC_SPARES_FLASH1

/-- The number of the next spare of a pool. -/
def State.nextSpare (s : State) (pool d : Nat) : Nat := (if pool = 2 then 256 else 32) - s.rd (spareField pool d)

/-- A substitution runs on the controller card (R29). -/
def State.ctlBusy (s : State) : Bool := s.recorder.reloc.isSome || s.recorder.coreShadow.isSome

/-- How pools 2 and 3 name the resource whose spares are used up. -/
def spareRes (pool d : Nat) : Nat := if pool = 3 then d else 0

/-- A substitution of the controller card begins.  Core 3 shadows a core for 2 s; it is taken from a shadow run for an update, whose
activation ends NO_RESOURCE (R503).  A row or a block is relocated, where a spare is left (R30, R502). -/
def State.startJob (s : State) (j : Nat × Nat × Nat) : State :=
  if j.1 = 1 then
    let s1 := if s.rd F.UPD_STATUS_STATE = 5 ∧ s.upd.step < 5 then
        (({ s with upd.step := 0 } : State).wrs [(F.UPD_STATUS_STATE, 4), (F.UPD_PROGRESS_PERMILLE, 0)]).finish 0x0C05 0 .noResource else s
    { s1 with recorder.coreShadow := some j.2.2, recorder.coreAgreed := false }
  else if s.rd (spareField j.1 j.2.1) = 0 then s.exhaust j.1 (spareRes j.1 j.2.1)
  else
    let r : Reloc := { pool := j.1, device := j.2.1, resource := j.2.2, spare := s.nextSpare j.1 j.2.1 }
    ({ s with recorder.reloc := some r } : State).wr F.UC_STATUS_RELOCATING 1

/-- The substitutions that wait follow one another (R29). -/
def State.nextJobs (s : State) : List (Nat × Nat × Nat) → State
  | [] => { s with recorder.relocWait := [] }
  | j :: t =>
    let s1 := s.startJob j
    if s1.ctlBusy then { s1 with recorder.relocWait := t } else s1.nextJobs t

/-- A substitution is due: at once, or after those before it (R29). -/
def State.queueJob (s : State) (j : Nat × Nat × Nat) : State :=
  if s.recorder.relocWait.contains j || s.recorder.map.any (fun m => (m.pool, m.device, m.resource) == j) ||
     (match s.recorder.reloc with | some r => (r.pool, r.device, r.resource) == j | none => false) then s
  else if s.ctlBusy then { s with recorder.relocWait := s.recorder.relocWait ++ [j] } else s.startJob j

def State.shadowCore (s : State) (c : Nat) : State := s.queueJob (1, 0, c)

/-- Core 3 shadows a core, or will (R503). -/
def State.coreDue (s : State) : Bool := s.recorder.coreShadow.isSome || s.recorder.relocWait.any fun j => j.1 == 1

/-! ### A card leaves or enters service -/

/-- End the operations that need a card in service (R530). -/
def State.leaveLive (s : State) (k : Nat) : State :=
  ((s.modSeg k fun x => { x with shadow := none, cal := none }).finish 0x0204 k .aborted).finish 0x0206 k .aborted |>.finish 0x0B04 k .aborted

/-- Put a slot into a state of SEG_STATE_s; leaving PROVISIONAL and IN_SERVICE ends CAL_CHECK and SPARE_ASSIGN. -/
def State.setSegState (s : State) (k st : Nat) : State :=
  let s1 := s.wr (F.SEG_STATE_STATE k) st
  let s2 := if s.segLive k && !(st == segPROVISIONAL || st == segSERVICE) then s1.leaveLive k else s1
  s2.setReady

/-- The learned wires of a card count as unlearned (R147). -/
def State.unlearn (s : State) (k : Nat) : State :=
  (numbersFrom 0 17).foldl (fun s w =>
    let s1 : State := { s with bal.rw := Tbl.mod {} s.bal.rw (32 * k + w) fun r => { r with est := [], count := 0 } }
    if w % 2 = 0 then s1.wr (F.BAL_RW_RW_LO k (w / 2)) 0xFFFF else s1.wr (F.BAL_RW_RW_HI k (w / 2)) 0xFFFF) s

/-- The positions a cell wire bounds, as a bit map (R117). -/
def wireCells (k : Nat) : Nat := if k = 0 then 1 else if k = 16 then 2 ^ 15 else 2 ^ (k - 1) + 2 ^ k

/-- The positions that the latched cell wires of a card bound. -/
def State.wireMarks (s : State) (k : Nat) : Nat :=
  let m := s.rd (F.SEG_WIRE_WIRE_MAP k)
  (numbersFrom 0 17).foldl (fun a w => if m / 2 ^ w % 2 = 1 then a ||| wireCells w else a) 0

/-- What a card keeps over a reset: it stands in its slot with its factory data, and its keep-alive domain runs on with the deglitch
counts (R120, R127). -/
def Seg.afterReset (x : Seg) : Seg :=
  { present := x.present, blank := x.blank, fac := x.fac, counts := x.counts, keepLow := x.keepLow, join := 2, avg := x.avg }

/-- The latched wire faults of a card go (R116). -/
def State.clearWires (s : State) (k : Nat) : State :=
  s.wrs [(F.SEG_WIRE_WIRE_MAP k, 0), (F.SEG_WIRE_S0 k, 0), (F.SEG_WIRE_S16 k, 0), (F.SEG_WIRE_PAIR_MODE k, 0),
    (F.SEG_WIRE_INTERMITTENT k, 0)] |>.modSeg k fun x => { x with ind := 0, indSum := false }

/-- The card of a slot restarts: SENSE_LOSS, spare, balancing faults and counts go; comparator latches stay with the card (R114,
R120, R132), and so do latched wire faults unless the caller clears them (R116).  Its learned wires count anew from its next join. -/
def State.cardReset (s : State) (k : Nat) : State :=
  let s1 := s.wrs [(F.SEG_WIRE_SENSE_LOSS k, 0), (F.SEG_STATE_SPARE_SUBST k, 0),
    (F.SEG_STATE_SPARE_FAILED k, 0), (F.SEG_STATE_SPARE_POS k, 0), (F.UC_CONV_POSITION k, 0), (F.UC_CONV_FAILED k, 0)]
  let used := s.rd F.UC_STATUS_CONV_USED
  let s2 := if s.isOn (F.SEG_STATE_SPARE_SUBST k) && decide (0 < used) then s1.wr F.UC_STATUS_CONV_USED (used - 1) else s1
  let s3 := (s2.leaveLive k).setSeg k { (s.segOf k).afterReset with
    ind := s.wireMarks k, indSum := s.isOn (F.SEG_WIRE_S0 k) || s.isOn (F.SEG_WIRE_S16 k) }
  ((s3.setBal k {}).unlearn k).unspend 0 k

/-- A segment reset (R58, kind 5): the card stands ISOLATED at step 2 of R100. -/
def State.segReset (s : State) (k : Nat) : State :=
  ((s.cardReset k).setSegState k segISOLATED).wrs [(F.PWR_RESET_CAUSE_KIND, 5), (F.PWR_RESET_CAUSE_DETAIL, 0)]

/-- The configuration that channel A has loaded into a card's comparators (R113, R118): the codes in force, and the pair they span in
pair mode. -/
def State.cmpConfig (s : State) (k : Nat) : CmpEcho :=
  { ov := s.rd F.SEG_CMP_PARAM_OV_CODE, uv := s.rd F.SEG_CMP_PARAM_UV_CODE
    wire := if s.isOn (F.SEG_WIRE_PAIR_MODE k) then (s.latchedWire k).getD 31 else 31 }

/-- STF-H compares what a card echoes with its own copy; a mismatch is a demand on channel B (R113, R118). -/
def State.echoCheck (s : State) (k : Nat) (e : CmpEcho) : State := if e = s.cmpConfig k then s else s.raiseCause .cmpEcho 2

/-- The threshold in µV of the comparator of position `j` (R113, R118), `none` where it is off: 2.00 V + code × 10 mV, in pair mode
moved by PAIR_MARGIN on the pair's lower position, whose other one is off. -/
def State.cmpThreshold (s : State) (k j : Nat) (uv : Bool) : Option Int :=
  let c := s.cmpConfig k
  let m : Int := s.rd F.SEG_CMP_PARAM_PAIR_MARGIN
  let low := if c.wire = 0 then 1 else if c.wire = 16 then 15 else c.wire
  let other := c.wire < 31 && j == low + 1
  let d : Int := if c.wire < 31 ∧ j = low then (if uv then m else -m) else 0
  if other || (uv && c.uv == 0) then none else some (2000000 + 10000 * ((if uv then c.uv else c.ov) + d))

/-- The level at which a comparator's output falls again: 20 mV towards the inside of the window (R118). -/
def State.cmpRelease (s : State) (k j : Nat) (uv : Bool) : Option Int :=
  (s.cmpThreshold k j uv).map fun t => if uv then t + 20000 else t - 20000

/-- A card's first frame (R100, step 9): PROVISIONAL, CARD_JOINED; a withdrawal of its slot ends (R294). -/
def State.firstFrame (s : State) (k : Nat) : State :=
  let s1 := ((s.modSeg k fun x => { x with join := 9, hold := true, cut := false, clean := 0, led := 1, missed := 0 }).setSegState
    k segPROVISIONAL).unlearn k
  let s2 := s1.flag Fl.SEG_EVENT_CARD_JOINED { idx := k, stfP := true }
  if s2.wdSlot = k then s2.endWithdrawal else s2

/-- A join fails at step 6 or 8 (R101). -/
def State.joinFail (s : State) (k step : Nat) : State :=
  let s1 := (s.modSeg k fun x => { x with join := 0, selftest := x.selftest || step == 6 }).setSegState k segISOLATED
  s1.flag Fl.SEG_EVENT_JOIN_FAIL { system := true, idx := k, stfP := true, detail := [step], status := .internal }

/-- Channel A's latch check after a SHELF wake (R297): `rel` gives, by slot, the comparators de-asserted for 100 ms
(OV in bits 0–15, UV in bits 16–31). -/
def State.latchCheck (s : State) (rel : List (Nat × Nat)) : State :=
  if !s.seg.latchCheck then s
  else
    let one (s : State) (k : Nat) : State :=
      let c := s.clearable rel k
      if c = (0, 0) then s
      else (s.wrs [(F.SEG_CMP_OV_LATCH k, s.rd (F.SEG_CMP_OV_LATCH k) - c.1), (F.SEG_CMP_UV_LATCH k, s.rd (F.SEG_CMP_UV_LATCH k) - c.2)]).detail
        true ([k] ++ leBytes 2 c.1 ++ leBytes 2 c.2) .ok true
    let s1 := s.segList.foldl one { s with seg.latchCheck := false }
    let s2 := if s1.segList.any fun k => s1.rd (F.SEG_CMP_OV_LATCH k) != 0 then s1.lockout .cmpOv 1 else s1
    if s2.segList.any fun k => s2.rd (F.SEG_CMP_UV_LATCH k) != 0 then s2.lockout .cmpUv 1 else s2

/-! ### Spare converter (R82–R84) -/

/-- A cell is computed from SUM (R84); with a sum-wire fault that is SENSE_LOSS (R114), raised by the caller. -/
def State.substitute (s : State) (k j : Nat) : State :=
  let s1 := (s.modSeg k fun x => { x with subst := j, shadow := none, needed := 0, rotPrev := x.rot, rotAt := s.plumbIdx, rot := j }).wrs
    [(F.SEG_STATE_SPARE_SUBST k, 1), (F.UC_CONV_POSITION k, j), (F.UC_STATUS_CONV_USED, s.rd F.UC_STATUS_CONV_USED + 1)]
  ((s1.flag Fl.SEG_EVENT_SPARE_SUBST { system := true, idx := k, detail := [j] }).spareTook 0 (convRes k j) (convRes k 0)).exhaust 0 k

/-- The spare turns to a position; its results count again after 2 instants, 3 with FILTER 1 (R82). -/
def State.turnSpare (s : State) (k p : Nat) : State :=
  s.modSeg k fun x => { x with rotPrev := x.rot, rotAt := s.plumbIdx, rot := p, dwSum := 0, dwN := 0, shSum := 0, shN := 0 }

/-- The card's spare can take a position. -/
def State.spareFree (s : State) (k : Nat) : Bool := (s.segOf k).subst == 0 && !(s.segOf k).spareFailed

/-- A sum-wire fault is latched (R113). -/
def State.sumFault (s : State) (k : Nat) : Bool := s.isOn (F.SEG_WIRE_S0 k) || s.isOn (F.SEG_WIRE_S16 k)

/-! ### Sense wires (R110–R116) -/

/-- SENSE_LOSS for a segment: held until the card is reset; a demand on SVW in both channels (R114).  `mask` names the positions it
marks and, in bit 16, SUM (R110). -/
def State.senseLoss (s : State) (k mask : Nat) : State :=
  let s1 := s.modSeg k fun x => { x with ind := x.ind ||| mask % 65536, indSum := x.indSum || mask / 65536 == 1 }
  if s1.isOn (F.SEG_WIRE_SENSE_LOSS k) then s1
  else
    let l := s1.safe.withdraw.sense
    let s2 : State := { s1 with safe.withdraw.sense := if l.contains k then l else l ++ [k] }
    (((s2.wr (F.SEG_WIRE_SENSE_LOSS k) 1).wr F.SAFE_STATUS_SVW_DEMAND 1).raiseCause .senseLoss 3).flag Fl.SEG_SENSE_EVENT_SENSE_LOSS
      { system := true, idx := k, stfP := true }

/-- A converter has failed for good: spare, or derivation from SUM, or SENSE_LOSS (R83, R84, R114). -/
def State.converterFails (s : State) (k j : Nat) : State :=
  if s.spareFree k then
    if s.isOn F.UC_CFG_AUTO_CONV then s.substitute k j
    else (s.modSeg k fun x => { x with needed := j }).flag Fl.UC_EVENT_NEEDED { system := true, idx := k, detail := [j] }
  else
    let s1 := s.modSeg k fun x => { x with derived := j }
    if s1.sumFault k then s1.senseLoss k (2 ^ (j - 1)) else s1

/-- The segments an argument names: one, or all for 0 (R103). -/
def State.segArg (s : State) (k : Nat) : List Nat := if k = 0 then s.segList else [k]

def State.segArgBad (s : State) (k : Nat) : Bool := k != 0 && !s.segOk k

end Sys2Proof.Machine
end

