-- ==== Sys2Proof/Machine/BalOps.lean ====
section
/-! DEFINITION. Shared operations of balancing (R131–R150): holds, layout of a period, learned wires, campaigns. -/

namespace Sys2Proof.Machine

/-! ### Learned wires (R147) -/

def State.rwLearn (s : State) (k w : Nat) : RwLearn := Tbl.get {} s.bal.rw (32 * k + w)

def State.learned (s : State) (k w : Nat) : Bool := decide (4096 ≤ (s.rwLearn k w).count)

/-- The mean of the last 4096 accepted estimates, in µΩ. -/
def RwLearn.mean (r : RwLearn) : Rat := if r.est.isEmpty then 0 else r.est.sum / (r.est.length : Rat)

/-- Learned resistance of a wire in µΩ, where it is learned. -/
def State.rwOf (s : State) (k w : Nat) : Option Rat := if s.learned k w then some (s.rwLearn k w).mean else none

/-- The measured resistance of path `j` in mΩ, held by the card: 16.0 Ω ±1 % (R131). -/
def State.rpath (s : State) (k j : Nat) : Nat := clampN 15840 16160 ((s.segOf k).fac.rpath.getD (j - 1) 16000)

/-- Path `j` of a card runs under the interleaved rules (R139, R142, R147). -/
def State.interleaved (s : State) (k j : Nat) : Bool :=
  s.bal.mode == 0 || (s.balCard k).window || !(s.learned k (j - 1) && s.learned k j)

/-! ### Holds (R136, R137) -/

/-- The guard's conditions for path `j` (R137): 100 mV below the OV threshold, 100 mV above the UV threshold, which is
SVW_VMIN with UV code 0 (R118). -/
def State.guardHit (s : State) (k j : Nat) : Bool :=
  let ov : Int := 2000000 + 10000 * s.rd F.SEG_CMP_PARAM_OV_CODE - 100000
  let q := s.rd F.SEG_CMP_PARAM_UV_CODE
  let uv : Option Int :=
    if q ≠ 0 then some (2000000 + 10000 * q + 100000)
    else if s.safe.blockA.isEmpty then none else some (100 * pSvwMin s.safe.blockA + 100000)
  let high := match s.frameCell k j with | some v => decide (ov ≤ v) | none => false
  let low := [j - 1, j, j + 1].any fun i => match s.frameCell k i, uv with
    | some v, some l => decide (v ≤ l)
    | _, _ => false
  high || low

/-- The guard acts on a path (R137). -/
def State.cutoff (s : State) (k j : Nat) : State :=
  let b := s.balCard k
  (s.setBal k { b with guard := b.guard ||| 2 ^ (j - 1) }).flag Fl.BAL_EVENT_CUTOFF { idx := k, stfP := true, detail := [j] }

/-- Positions whose wire is learned above RW_LIMIT (R147). -/
def State.rwHeld (s : State) (k : Nat) : Nat :=
  let lim : Rat := 1000 * (s.rd F.BAL_CFG_RW_LIMIT : Rat)
  ((numbersFrom 1 16).map fun j =>
    if [j - 1, j].any fun w => match s.rwOf k w with | some r => decide (lim < r) | none => false then 2 ^ (j - 1) else 0).sum

/-- The paths of a card that are held off (R136). -/
def State.heldMask (s : State) (k : Nat) : Nat :=
  let x := s.segOf k
  let b := s.balCard k
  if s.segState k != segSERVICE || x.hold || x.cut || !s.onAux k || s.mode == mSHELF || s.mode == mLOCKOUT ||
     s.isOn F.SAFE_STATUS_SVW_DEMAND || s.isOn F.SAFE_STATUS_STW_DEMAND || b.therm then 0xFFFF
  else
    let miss := if x.missed = 0 then ((numbersFrom 1 16).map fun j => if (s.frameCell k j).isNone then 2 ^ (j - 1) else 0).sum else 0xFFFF
    let der := if x.derived = 0 then 0 else 2 ^ (x.derived - 1)
    s.wireMarks k ||| x.ind ||| miss ||| der ||| b.fault ||| b.guard ||| s.rwHeld k

/-! ### Layout of a period (R133, R134, R138) -/

/-- Duties scaled to what the card can place, and whether they were. -/
def scaleDuties (maxPaths : Nat) (d : List Nat) : List Nat × Bool :=
  if 64 * maxPaths < d.sum then (d.map fun x => x * 64 * maxPaths / d.sum, true) else (d, false)

/-- Positions in order of decreasing duty, the lower position first. -/
def dutyOrder (d : List Nat) : List Nat :=
  (numbersFrom 0 65).flatMap fun i => (numbersFrom 1 16).filter fun j => d.getD (j - 1) 0 == 64 - i

/-- One path's run: up to `n` slots with room, once round from slot `st`. -/
def placeRun (room : Nat → Nat → Bool) (bit : Nat) : Nat → Nat → Nat → List Nat → List Nat × Nat
  | 0, _, n, l => (l, n)
  | _, _, 0, l => (l, 0)
  | fuel + 1, st, n + 1, l =>
    let i := st % 64
    if room i (l.getD i 0) then placeRun room bit fuel (st + 1) n (l.set i (l.getD i 0 + bit))
    else placeRun room bit fuel (st + 1) (n + 1) l

/-- The runs of a card (R134): `busy` slots at the start of the period hold a learning pulse of path `pulse`. -/
def layoutRuns (maxPaths busy pulse : Nat) (d : List Nat) : List Nat × Bool :=
  let room (i m : Nat) : Bool := decide (busy ≤ i) && decide (popcount 16 m < maxPaths)
  let start : List Nat := (numbersFrom 0 64).map fun i => if i < busy ∧ pulse ≠ 0 then 2 ^ (pulse - 1) else 0
  (dutyOrder d).foldl (fun (acc : List Nat × Bool) j =>
    let n := d.getD (j - 1) 0
    if n = 0 then acc
    else
      let st := (((numbersFrom 0 64).find? fun i => room i (acc.1.getD i 0))).getD 0
      let r := placeRun room (2 ^ (j - 1)) 64 st n acc.1
      (r.1, acc.2 || r.2 != 0)) (start, false)

/-- Pause slots a card's die temperature asks for (R138). -/
def diePauses (die thr : Int) : Nat := if die ≤ thr then 0 else min 64 (8 * (die - thr).toNat)

end Sys2Proof.Machine
end

