-- ==== Sys2Proof/Machine/Bal.lean ====
section
/-! DEFINITION. Balancing (R131–R150): commands, slots, periods and leases.  The recomputation of duties needs the
estimates and stands in Estimate.lean. -/

namespace Sys2Proof.Machine

/-! ### Commands (R149) -/

/-- BAL_SET_MODE (R139, R144): in force from the next period boundary. -/
def execBalSetMode (h : Hdr) (m : Nat) (s : State) : Out :=
  .next <| s.command 0x0301 rOperator h [(decide (1 < m), .range)] fun s => .done (s.wrKeep F.BAL_CFG_MODE m) []

/-- BAL_CAMPAIGN_START (R148, R150): `limit` in h. -/
def execBalCampaignStart (h : Hdr) (kind target deadband limit : Nat) (s : State) : Out :=
  .next <| s.command 0x0302 (if kind = 3 then rMaintainer else rOperator) h
    [(decide (kind < 1) || decide (3 < kind) || (kind == 2 && decide (10000 < target)) || decide (1000 < limit), .range)]
    fun s =>
      if s.bal.campaign.isSome then .refuse .busy
      else
        let db := if deadband = 0 then 50 else deadband
        .accept (s.startCampaign { kind := kind, target := target, deadband := db, limit := 3600 * limit }) 0 []

/-- BAL_CAMPAIGN_STOP (R149). -/
def execBalCampaignStop (h : Hdr) (s : State) : Out :=
  .next <| s.command 0x0303 rOperator h [] fun s => .done (s.endCampaign .aborted) []

/-- BAL_SET_DUTY (R149). -/
def execBalSetDuty (h : Hdr) (cell duty : Nat) (s : State) : Out :=
  .next <| s.command 0x0304 rMaintainer h [(!s.cellOk cell || decide (64 < duty), .range)]
    fun s =>
      match s.bal.campaign with
      | some c => if c.kind = 3 then .done { s with bal.want := Tbl.put s.bal.want cell duty } [] else .refuse .state
      | none => .refuse .state

/-- BAL_STATUS (R149). -/
def execBalStatus (h : Hdr) (k : Nat) (s : State) : Out :=
  .next <| s.command 0x0305 rObserver h [(s.segArgBad k, .range)]
    fun s =>
      let one (k : Nat) : List Nat :=
        [0x50100 + 16 * (k - 1), 0x50104 + 16 * (k - 1), 0x50108 + 16 * (k - 1), 0x5010C + 16 * (k - 1), 0x50800 + 4 * (k - 1)]
      ret s (s.words (0x50004 :: (s.segArg k).flatMap one))

/-- BAL_LEARN_RW (R147): completes when every wire of the segments is learned. -/
def execBalLearnRw (h : Hdr) (k : Nat) (s : State) : Out :=
  .next <| s.command 0x0306 rMaintainer h [(s.segArgBad k, .range)]
    fun s =>
      if (s.opOf 0x0306 k).isSome then .refuse .busy
      else .accept (((s.segArg k).foldl (fun s k => s.unlearn k) s).wr F.BAL_STATUS_LEARNING 1) k []

/-- BAL_RW_READ (R149): 1 µΩ, 0xFFFF_FFFF for a wire not learned. -/
def execBalRwRead (h : Hdr) (k : Nat) (s : State) : Out :=
  .next <| s.command 0x0307 rObserver h [(!s.segOk k, .range)]
    fun s => ret s ((numbersFrom 0 17).map fun w =>
      match s.rwOf k w with
      | some r => (satU 32 (ratRound r) : Int)
      | none => 0xFFFFFFFF)

/-! ### Slots and periods -/

/-- The paths of a card that run under the compensated rules (R139, R142). -/
def State.compensated (s : State) (k : Nat) : Nat := ((numbersFrom 1 16).map fun j => if s.interleaved k j then 0 else 2 ^ (j - 1)).sum

/-- The paths of one card in a slot: readback of the slot before, holds, thermal stop, conduction. -/
def State.balSlotCard (s : State) (slot : Nat) (rb : List (Nat × Nat)) (k : Nat) : State :=
  let b := s.balCard k
  let m := if Tbl.has rb k then (Tbl.get 0 rb k) ^^^ b.on else 0
  let fresh := m &&& b.mis &&& (0xFFFF - b.fault)
  let s1 := s.setBal k { b with mis := m, fault := b.fault ||| fresh }
  let s2 := (numbersFrom 1 16).foldl (fun s j =>
    if fresh / 2 ^ (j - 1) % 2 = 1 then
      s.flag Fl.BAL_EVENT_SWITCH_FAULT { system := true, idx := k, stfP := true, detail := [j] } else s) s1
  let stop := decide ((s.rd F.BAL_THROTTLE_STOP_C : Int) ≤ s.rdI (F.SEG_STATE_DIE k))
  let s3 := if stop && !(s2.balCard k).therm then
      (s2.setBal k { s2.balCard k with therm := true }).flag Fl.BAL_EVENT_THERM_STOP { idx := k, stfP := true } else s2
  let held := s3.heldMask k
  let want := (s3.balCard k).layout.getD slot 0
  let on := want - (want &&& held)
  let b3 := s3.balCard k
  let pls := if b3.pulsing ∧ slot < 3 then on else 0
  let free := on &&& s3.compensated k &&& (0xFFFF - pls)
  let p := b3.part
  (s3.setBal k { b3 with on := on, free := free, pls := pls, seen := b3.seen ||| on
                         part := (p.1 ||| (on - (on &&& (free ||| pls))), p.2.1 ||| free, p.2.2 ||| pls) }).wr (F.BAL_PATH_HELD k) held

/-- BAL_SLOT (R132, R133, R136): `rb` gives, by card, the paths that read back on in the slot that ends. -/
def execBalSlot (rb : List (Nat × Nat)) (s : State) : Out :=
  let slot := s.plumbIdx / 4 % 64
  .next (s.segList.foldl (fun s k => s.balSlotCard slot rb k) s)

/-- Show the duties of a card in BAL_DUTY_s_q. -/
def State.mirrorDuties (s : State) (k : Nat) (d : List Nat) : State :=
  [0, 1, 2, 3].foldl (fun s q => s.wrs [(F.BAL_DUTY_DUTY0 k q, d.getD (4 * q) 0), (F.BAL_DUTY_DUTY1 k q, d.getD (4 * q + 1) 0),
    (F.BAL_DUTY_DUTY2 k q, d.getD (4 * q + 2) 0), (F.BAL_DUTY_DUTY3 k q, d.getD (4 * q + 3) 0)]) s

/-- The next path in turn for a learning pulse (R146): interleaved, not held, with a duty. -/
def State.nextPulse (s : State) (k : Nat) (d : List Nat) : Nat :=
  let b := s.balCard k
  let ok (j : Nat) : Bool := s.interleaved k j && s.heldMask k / 2 ^ (j - 1) % 2 == 0
  if d.any (· != 0) then
    ((((numbersFrom (b.pulse + 1) (16 - b.pulse)) ++ numbersFrom 1 16).find? ok).getD 0) else 0

/-- One card at a period boundary (R134, R135, R138, R144). -/
def State.balPeriodCard (s : State) (k : Nat) : State :=
  let b := s.balCard k
  let d := (b.received).getD b.duties
  let mp := s.rd F.BAL_CFG_MAX_PATHS
  let die := s.rdI (F.SEG_STATE_DIE k)
  let thr : Int := s.rd F.BAL_THROTTLE_THROTTLE_C
  let pause := max (diePauses die thr) (min 64 (s.rd F.BAL_THROTTLE_PAUSE_SLOTS))
  let s0 := s.setBal k { b with therm := b.therm && decide (thr ≤ die) }
  let p := if s.isOn F.SEG_FILT_CFG_FILTER_ACTIVE then s0.nextPulse k d else 0
  let sc := scaleDuties mp d
  let lay := layoutRuns mp (if p = 0 then 0 else 3) p sc.1
  let cut := lay.1.take (64 - pause) ++ List.replicate pause 0
  let s1 := s.setBal k { b with received := none, duties := d, layout := cut, seen := 0, saturated := sc.2 || lay.2, pause := pause
                                pulse := if p = 0 then b.pulse else p, pulsing := p != 0, therm := b.therm && decide (thr ≤ die) }
  (s1.mirrorDuties k d).wr (F.BAL_PATH_CONDUCTED k) b.seen

/-- BAL_PERIOD (R133, R134, R138, R144): the boundary at a PLUMB index that is a multiple of 256. -/
def execBalPeriod (s : State) : Out :=
  let s1 := s.segList.foldl (fun s k => s.balPeriodCard k) { s with bal.mode := s.rd F.BAL_CFG_MODE }
  let cards := s1.segList.map s1.balCard
  let s2 := s1.wrs [(F.BAL_STATUS_SATURATED, if cards.any (·.saturated) then 1 else 0),
    (F.BAL_STATUS_THROTTLED, if cards.any (fun b => decide (0 < b.pause)) then 1 else 0),
    (F.BAL_STATUS_PAUSE_MAX, (cards.map (·.pause)).foldl max 0)]
  .next s2.setFloor

/-- BAL_DUTIES_RECEIVED (R135): the card takes the duties the firmware wants; they act from its next period. -/
def execBalDutiesReceived (k : Nat) (s : State) : Out :=
  .next <|
    if !s.segOk k || !s.pwr.ctl then s
    else s.setBal k { s.balCard k with
      received := some ((numbersFrom 1 16).map fun j => Tbl.get 0 s.bal.want (cellOf k j)), leased := true }

/-- LEASE_EXPIRED (R135): no duties for 10 s. -/
def execLeaseExpired (k : Nat) (s : State) : Out :=
  .next <|
    if !s.segOk k || !(s.balCard k).leased then s
    else
      let z := List.replicate 16 0
      let s1 := s.setBal k { s.balCard k with received := none, duties := z, layout := [], on := 0, free := 0, pls := 0, leased := false }
      ((s1.mirrorDuties k z).flag Fl.BAL_EVENT_LEASE_EXPIRED { idx := k, stfP := true }).setFloor

/-- BAL_GUARD_RELEASE (R137): 1 s without either condition releases the path; a condition that holds acts again. -/
def execBalGuardRelease (k j : Nat) (s : State) : Out :=
  .next <|
    if !s.segOk k || decide (j < 1) || decide (16 < j) then s
    else if s.guardHit k j then s.cutoff k j
    else
      let b := s.balCard k
      s.setBal k { b with guard := b.guard - (b.guard &&& 2 ^ (j - 1)) }

/-- The card whose hourly window comes next: the next slot after the last one with a card in the ring (R147). -/
def State.nextTurn (s : State) : Nat :=
  ((numbersFrom (s.bal.turn + 1) (s.segs - s.bal.turn) ++ s.segList).find? s.segLive).getD 0

/-- BAL_LEARN_WINDOW (R147): in compensated mode the hourly interleaved run of 4.096 s of the card whose turn it is begins, one card at a
time, or the running one ends. -/
def execBalLearnWindow (k : Nat) (begins : Bool) (s : State) : Out :=
  .next <|
    if !s.segOk k then s
    else if !begins then s.setBal k { s.balCard k with window := false }
    else if s.rd F.BAL_CFG_MODE ≠ 1 ∨ (s.segList.any fun c => (s.balCard c).window) = true ∨ k ≠ s.nextTurn then s
    else { s.setBal k { s.balCard k with window := true } with bal.turn := k }

end Sys2Proof.Machine
end

