-- ==== Sys2Proof/Machine/Mbx.lean ====
section
/-! DEFINITION. Mailboxes and Doorbells (R436–R446): the exchange, ownership, resets, doorbells and the bridge. -/

namespace Sys2Proof.Machine

/-! ### Agents and ownership (R436, R438) -/

abbrev agSTFP : Nat := 8
abbrev agSE : Nat := 9

/-- The IDs of the agents (R436). -/
def agentIds : List Nat := [1, 2, 3, 4, 8, 9, 10, 11, 12, 13]

/-- An ID names an agent (R436); once core 3 stands in for another core, it carries that core's ID and 0x4 names none (R437). -/
def State.agentOk (s : State) (a : Nat) : Bool := agentIds.contains a && !(a == 4 && s.poolOut 1)

def State.proxy (s : State) : Nat := s.rd F.MBX_LOCK_PROXY

/-- The sender of a mailbox; 28–31 are fixed in hardware. -/
def State.mbxSender (s : State) (n : Nat) : Nat :=
  if n = 28 ∨ n = 29 then s.proxy else if n = 30 ∨ n = 31 then agSTFP else s.rd (F.MBX_OWN_SENDER n)

def State.mbxReceiver (s : State) (n : Nat) : Nat :=
  if n = 28 ∨ n = 29 then agSTFP else if n = 30 ∨ n = 31 then s.proxy else s.rd (F.MBX_OWN_RECEIVER n)

/-- The bridge channels are in use by their hardware; any other mailbox by its ENABLE, unless it names STF-P, which only the bridge
channels reach (R13, R444). -/
def State.mbxEnabled (s : State) (n : Nat) : Bool :=
  decide (28 ≤ n) || (s.isOn (F.MBX_OWN_ENABLE n) && s.mbxSender n != agSTFP && s.mbxReceiver n != agSTFP)

abbrev mbEMPTY : Nat := 0
abbrev mbFULL : Nat := 1
abbrev mbTAKEN : Nat := 2
abbrev mbACKED : Nat := 3
abbrev mbABORTED : Nat := 4

def State.mbxState (s : State) (n : Nat) : Nat := s.rd (F.MBX_CTRL_STATE n)

/-- Put a mailbox into a state; FULL reads 1 in every state but EMPTY. -/
def State.setMbx (s : State) (n st : Nat) : State :=
  (s.wr (F.MBX_CTRL_STATE n) st).wrB (F.MBX_CTRL_FULL n) (st != mbEMPTY)

/-- RX_PEND of the receiver for a mailbox. -/
def State.rxPend (s : State) (n : Nat) (on : Bool) : State :=
  let f := F.MBX_RX_PEND_BITS (s.mbxReceiver n)
  let v := s.rd f
  s.wr f (if on then v ||| 2 ^ n else v - (v &&& 2 ^ n))

/-- A refused access: REFUSED, with the agent, the mailbox and the register (R440). -/
def State.mbxRefuse (s : State) (agent n reg : Nat) : State :=
  (s.wrs [(F.MBX_ERR_INFO_AGENT, agent), (F.MBX_ERR_INFO_MAILBOX, n), (F.MBX_ERR_INFO_REG, reg)]).flag Fl.MBX_EVENT_REFUSED {}

/-- Back to EMPTY: DATA and ACK cleared. -/
def State.mbxEmpty (s : State) (n : Nat) : State :=
  (((s.setMbx n mbEMPTY).rxPend n false).wrs [(F.MBX_DATA_WORD n, 0), (F.MBX_ACK_CODE n, 0), (F.MBX_ACK_DONE n, 0),
    (F.MBX_CTRL_ORPHAN n, 0)])

/-- The receiver is reset: DATA cleared, CODE ABORTED, DONE, state ABORTED, MBX_EVENT.ABORT (R441). -/
def State.mbxAbort (s : State) (n : Nat) : State :=
  (((s.setMbx n mbABORTED).rxPend n false).wrs [(F.MBX_DATA_WORD n, 0), (F.MBX_ACK_CODE n, 0x20), (F.MBX_ACK_DONE n, 1)]).flag
    Fl.MBX_EVENT_ABORT {}

/-! ### Exchange (R439, R440) -/

/-- MBX_DATA_WRITE (R439–R441). -/
def execMbxDataWrite (agent n word : Nat) (s : State) : Out :=
  .next <|
    if 31 < n then s
    else if !s.mbxEnabled n || agent != s.mbxSender n || s.mbxState n != mbEMPTY then s.mbxRefuse agent n 0
    else if s.mbx.inReset / 2 ^ s.mbxReceiver n % 2 = 1 then (s.wr (F.MBX_CTRL_SENDER n) agent).mbxAbort n
    else ((s.wrs [(F.MBX_DATA_WORD n, word), (F.MBX_CTRL_SENDER n, agent), (F.MBX_ACK_CODE n, 0), (F.MBX_ACK_DONE n, 0)]).setMbx
      n mbFULL).rxPend n true

/-- MBX_DATA_READ (R439): only the receiver's read of a FULL mailbox changes anything. -/
def execMbxDataRead (agent n : Nat) (s : State) : Out :=
  .next <|
    if 31 < n then s
    else
      let s1 : State := { s with lastRead := s.rd (F.MBX_DATA_WORD n) }
      if agent = s.mbxReceiver n ∧ s.mbxEnabled n = true ∧ s.mbxState n = mbFULL then (s1.setMbx n mbTAKEN).rxPend n false else s1

/-- MBX_ACK_WRITE (R439–R441): an acknowledge of an orphaned mailbox returns it to EMPTY. -/
def execMbxAckWrite (agent n : Nat) (code : Status) (s : State) : Out :=
  .next <|
    if 31 < n then s
    else if !s.mbxEnabled n || agent != s.mbxReceiver n || !(s.mbxState n == mbFULL || s.mbxState n == mbTAKEN) then s.mbxRefuse agent n 1
    else if s.isOn (F.MBX_CTRL_ORPHAN n) then s.mbxEmpty n
    else ((s.setMbx n mbACKED).rxPend n false).wrs [(F.MBX_ACK_CODE n, code.code), (F.MBX_ACK_DONE n, 1)]

/-- RELEASE (R438–R440). -/
def execRelease (agent n : Nat) (s : State) : Out :=
  .next <|
    if 31 < n then s
    else if s.mbxEnabled n = false ∨ agent ≠ s.mbxSender n then s.mbxRefuse agent n 2
    else if s.mbxState n = mbACKED ∨ s.mbxState n = mbABORTED then s.mbxEmpty n else s

/-! ### Resets (R441) -/

/-- MBX_RECEIVER_RESET (R441, R442): an agent is reset, and stays held in reset where `held`; an acknowledge that it writes in the same cycle
is discarded. -/
def execMbxReceiverReset (agent : Nat) (held : Bool) (_ack : Option (Nat × Status)) (s : State) : Out :=
  let m := s.mbx.inReset
  let s0 : State := { s with mbx.inReset := if held then m ||| 2 ^ agent else m - (m &&& 2 ^ agent) }
  let one (s : State) (n : Nat) : State :=
    if s.mbxReceiver n = agent ∧ (s.mbxState n = mbFULL ∨ s.mbxState n = mbTAKEN) then s.mbxAbort n else s
  .next ((numbersFrom 0 32).foldl one s0)

/-- MBX_SENDER_RESET (R441). -/
def execMbxSenderReset (agent : Nat) (s : State) : Out :=
  let one (s : State) (n : Nat) : State :=
    if s.mbxSender n ≠ agent then s
    else if s.mbxState n = mbACKED then s.mbxEmpty n
    else if s.mbxState n = mbFULL ∨ s.mbxState n = mbTAKEN then s.wr (F.MBX_CTRL_ORPHAN n) 1 else s
  .next ((numbersFrom 0 32).foldl one s)

/-! ### Doorbells (R443) -/

/-- Set one doorbell bit of an agent: PEND and its event counter (R34, R35). -/
def State.ringBit (s : State) (target b : Nat) : State :=
  let s1 := s.wr (F.MBX_DB_PEND_BITS target) (s.rd (F.MBX_DB_PEND_BITS target) ||| 2 ^ b)
  let c := if b % 2 = 0 then F.MBX_DB_CNT_COUNT_LO target (b / 2) else F.MBX_DB_CNT_COUNT_HI target (b / 2)
  s1.wr c (s1.rd c + 1)

/-- An agent rings bits of another: only PROXY rings STF-P, and STF-P rings only PROXY (R443). -/
def State.ringDoorbell (s : State) (agent target bits : Nat) : State :=
  if (target = agSTFP ∧ agent ≠ s.proxy) ∨ (agent = agSTFP ∧ target ≠ s.proxy) ∨ s.agentOk target = false ∨ s.agentOk agent = false then
    s.mbxRefuse agent target 3
  else (numbersFrom 0 32).foldl (fun s b => if bits / 2 ^ b % 2 = 1 then s.ringBit target b else s) s

/-- MBX_DOORBELL_SET (R443). -/
def execMbxDoorbellSet (agent target bits : Nat) (s : State) : Out := .next (s.ringDoorbell agent target bits)

/-- LOCK (R438): PROXY is written with LOCK; once locked, both and the ownership table stay fixed. -/
def execLock (proxy : Nat) (s : State) : Out :=
  .next <| if s.locked then s else s.wrs [(F.MBX_LOCK_PROXY, proxy), (F.MBX_LOCK_LOCK, 1)]

/-! ### The bridge (R444, R445) -/

/-- BRIDGE_DOWN (R444, R26): a word crosses the bridge as one codeword; neither it nor any of 3 resends decodes, and the link counts as
down.  R26 applies as outside safety memory. -/
def execBridgeDown (word : List Byte) (copies : List Copy) (s : State) : Out :=
  .next <|
    if copies.length < 4 || (copies.take 4).any (fun c => copySingle c ((word ++ List.replicate 32 0).take 32)) then s
    else
      let s1 := s.flag Fl.MBX_EVENT_BRIDGE_DOWN { system := true, status := .integrity }
      { s1 with mbx.bridgeDown := true }

/-- PROXY_HEARTBEAT (R445): PROXY rings STF-P doorbell bit 0. -/
def execProxyHeartbeat (s : State) : Out :=
  .next <| if s.bridgeUp then s.ringDoorbell s.proxy agSTFP 1 else s

end Sys2Proof.Machine
end

