-- ==== Sys2Proof/Machine/SeOps.lean ====
section
/-! DEFINITION. The state engine's arithmetic (R176–R192), kernels, inputs, one kernel's run, budget and captures. -/

namespace Sys2Proof.Machine

/-! ### Terms, sums and outputs (R177) -/

def accMax : Int := 2 ^ 79 - 1

def outMax : Int := 2 ^ 31 - 1

/-- Saturation to ±`m`, and whether it acted. -/
def satTo (m x : Int) : Int × Bool := if m < x then (m, true) else if x < -m then (-m, true) else (x, false)

/-- Halves away from zero: a right shift by `k` with rounding. -/
def shiftRound (k : Nat) (p : Int) : Int :=
  if 0 ≤ p then (p + 2 ^ (k - 1)) / 2 ^ k else -((-p + 2 ^ (k - 1)) / 2 ^ k)

/-- `term(c, s, x)` with TERM_SAT. -/
def seTerm (c sh x : Int) : Int × Bool :=
  let p := c * x
  satTo accMax (if 0 ≤ sh then p * 2 ^ sh.toNat else shiftRound (-sh).toNat p)

/-- `out(acc)` with OUT_SAT. -/
def seOut (acc : Int) : Int × Bool := satTo outMax (shiftRound 32 acc)

/-- What saturated in a computation. -/
structure Sats where
  t : Bool := false
  a : Bool := false
  o : Bool := false
  deriving DecidableEq, Repr

def Sats.or (x y : Sats) : Sats := { t := x.t || y.t, a := x.a || y.a, o := x.o || y.o }

/-- The sum of a row in layout order, the accumulator saturating at every addition. -/
def seSum : Int → List ((Int × Int) × Int) → Int × Sats
  | acc, [] => (acc, {})
  | acc, (cs, x) :: ts =>
    let t := seTerm cs.1 cs.2 x
    let a := satTo accMax (acc + t.1)
    let r := seSum a.1 ts
    (r.1, r.2.or { t := t.2, a := a.2 })

/-- One row: coefficients against operands, rounded to an output. -/
def seRow (pre : Int) (cs : List (Int × Int)) (xs : List Int) : Int × Sats :=
  let r := seSum pre (cs.zip xs)
  let y := seOut r.1
  (y.1, r.2.or { o := y.2 })

/-! ### Coefficient layout (R182) -/

def SeDesc.offB (d : SeDesc) : Nat := d.n * d.n
def SeDesc.offE (d : SeDesc) : Nat := d.offB + d.n * d.m
def SeDesc.offC (d : SeDesc) : Nat := d.offE + d.n
def SeDesc.offD (d : SeDesc) : Nat := d.offC + d.p * d.n
def SeDesc.offF (d : SeDesc) : Nat := d.offD + d.p * d.m
def SeDesc.offL (d : SeDesc) : Nat := d.offF + d.p
def SeDesc.offLo (d : SeDesc) : Nat := d.offL + if d.form = 2 then d.n * d.p else 0
def SeDesc.offHi (d : SeDesc) : Nat := d.offLo + d.n
def SeDesc.coefs (d : SeDesc) : Nat := d.offHi + d.n

def cut {α : Type} (l : List α) (off len : Nat) : List α := (l.drop off).take len

/-! ### Gain tables (R191, R192) -/

/-- The interval of a value among rising breakpoints, its weight and SCHED_CLAMP. -/
def breakAt (bp : List Int) (v : Int) : Nat × Int × Bool :=
  let last := bp.length - 1
  if v < bp.getD 0 0 then (0, 0, true)
  else if bp.getD last 0 ≤ v then (last - 1, 65536, true)
  else
    let i := ((bp.filter fun b => decide (b ≤ v)).length) - 1
    (i, roundDiv ((v - bp.getD i 0) * 65536) (bp.getD (i + 1) 0 - bp.getD i 0).toNat, false)

/-- The values g[j] of a table at two scheduling variables, with OUT_SAT and SCHED_CLAMP. -/
def SeTable.gains (t : SeTable) (v1 v2 : Int) : List Int × Bool × Bool :=
  let a := breakAt t.bp1 v1
  let b := breakAt t.bp2 v2
  let at_ (i2 i1 j : Nat) : Int := t.grid.getD ((i2 * 32 + i1) * t.s + j) 0
  let g (j : Nat) : Int × Bool :=
    let r0 := at_ b.1 a.1 j * (65536 - a.2.1) + at_ b.1 (a.1 + 1) j * a.2.1
    let r1 := at_ (b.1 + 1) a.1 j * (65536 - a.2.1) + at_ (b.1 + 1) (a.1 + 1) j * a.2.1
    seOut (r0 * (65536 - b.2.1) + r1 * b.2.1)
  let gs := (numbersFrom 0 t.s).map g
  (gs.map (·.1), gs.any (·.2), a.2.2 || b.2.2)

/-- Replace the values of the listed coefficients; their shifts stay. -/
def replaceCoefs (cs : List (Int × Int)) : List Nat → List Int → List (Int × Int)
  | k :: ks, g :: gs => replaceCoefs (cs.set k (g, (cs.getD k (0, 0)).2)) ks gs
  | _, _ => cs

/-! ### Inputs (R183–R185) -/

/-- The mean of the values an input had over the instants a step consumes, and the worst quality among those present;
none where fewer than half delivered one (R184). -/
def meanInput (d : Nat) (l : List (Option Int × Nat)) : Option Int × Nat :=
  let p := l.filterMap fun x => x.1.map fun v => (v, x.2)
  if p.isEmpty ∨ 2 * p.length < d then (none, 4)
  else (some (roundDiv (p.map (·.1)).sum p.length), (p.map (·.2)).foldl max 0)

/-- Quality of a current or a voltage: VALID where it has a value. -/
def validOr (v : Option Int) : Option Int × Nat := (v, if v.isSome then 0 else 4)

/-- The input of instance `i` that a map entry names: its value and quality at the start of a step. -/
def State.seInput (s : State) (d : SeDesc) (par : List Int) (i : Nat) (e : SeInput) : Option Int × Nat :=
  let el := e.base + e.stride * i
  let h := s.se.hist.take d.rateDiv
  let mean (f : Intake → Option Int × Nat) : Option Int × Nat := meanInput d.rateDiv (h.map f)
  match e.source with
  | 1 => mean fun t => t.cells.getD (el - 1) (none, 4)
  | 2 => mean fun t => t.sums.getD (el - 1) (none, 4)
  | 3 => mean fun t => validOr t.current
  | 4 => mean fun t => match s.se.ntcMap.getD el 0 with
    | 0 => (none, 4)
    | q + 1 => t.ntc.getD q (none, 4)
  | 5 => (some (par.getD e.base 0), 0)
  | 6 =>
    match (s.seInsts (e.base / 4096 % 16))[i]? with
    | some r => (some (r.y.getD (e.base / 256 % 16) 0), r.qual)
    | none => (none, 4)
  | 7 => (some s.se.gen.out, 0)
  | 8 => (some (s.rdI (F.SE_HOST_IN_VALUE (e.base % 16))), 0)
  | 9 => mean fun t => validOr t.vstring
  | _ => (some 0, 0)

/-! ### One instance's step (R179, R180, R185, R186, R192) -/

def clampTo (lo hi x : Int) : Int × Bool := if x < lo then (lo, true) else if hi < x then (hi, true) else (x, false)

/-- Compute one instance: the new record. -/
def State.seRun (s : State) (k : SeKernel) (i n : Nat) (r : SeInst) : SeInst :=
  let d := k.desc
  if r.frozen || r.corrupt then r
  else
    let ins := d.inputs.take d.m |>.map (s.seInput d r.par i)
    let held := ins.any fun x => x.1.isNone
    let u := (ins.zip (numbersFrom 0 d.m)).map fun p => p.1.1.getD (r.lastIn.getD p.2 0)
    let x := (r.x.take d.n)
    let var (v : Bool × Nat) : Int := if v.1 then u.getD v.2 0 else x.getD v.2 0
    let tab := if d.tableEn then (Tbl.get ({} : SeTab) s.se.tables d.table).cur else none
    let g := match tab with
      | some t => t.gains (var d.sch1) (var d.sch2)
      | none => ([], false, false)
    let cs := if tab.isSome then replaceCoefs k.coef (Tbl.get [] s.se.lists d.schedList) g.1 else k.coef
    let one (a b e len j : Nat) (w : List Int) : Int × Sats :=
      seRow 0 (cut cs (a + j * len) len ++ cut cs (b + j * d.m) d.m ++ cut cs (e + j) 1) (w ++ u ++ [1])
    let xm := (numbersFrom 0 d.n).map fun j => one 0 d.offB d.offE d.n j x
    let xs := xm.map (·.1)
    let ys := (numbersFrom 0 d.p).map fun j => one d.offC d.offD d.offF d.n j (if d.form = 2 then xs else x)
    let zs := (numbersFrom 0 d.p).map fun j =>
      let q := d.zsel.getD j 0
      let e := satTo outMax (u.getD q 0 - (ys.getD j (0, {})).1)
      if d.zgate && (ins.getD q (none, 4)).2 != 0 then ((0, false), true) else (e, false)
    let rs := zs.map (·.1.1)
    let gated := d.form == 2 && zs.any (·.2)
    let xp : List (Int × Sats) :=
      if d.form = 2 then (numbersFrom 0 d.n).map fun j =>
        seRow (xs.getD j 0 * 2 ^ 32) (cut cs (d.offL + j * d.p) d.p) rs
      else xm
    let xc := (numbersFrom 0 d.n).map fun j =>
      clampTo (cs.getD (d.offLo + j) (0, 0)).1 (cs.getD (d.offHi + j) (0, 0)).1 (xp.getD j (0, {})).1
    let st := ((xm ++ ys ++ (if d.form = 2 then xp else [])).map (·.2)).foldl Sats.or
      { o := g.2.1 || (d.form == 2 && zs.any (·.1.2)) }
    let y := ys.map (·.1) ++ (if d.form = 2 then rs else [])
    let r1 : SeInst := { r with
      x := xc.map (·.1), y := y, frozen := false, termSat := st.t, accSat := st.a, outSat := st.o
      clamp := xc.any (·.2), held := held, gated := gated, schedClamp := g.2.2
      gatedRun := if gated then min 0xFFFF (r.gatedRun + 1) else 0, stepIdx := n, lastIn := u
      qual := (ins.map (·.2)).foldl max 0 }
    if d.satFreeze && (st.t || st.a || st.o) then { r1 with x := r.x, y := r.y, frozen := true } else r1

/-! ### Steps of a slot (R194, R198, R200) -/

/-- Is a kernel due at instant `n` in the cadence of its slot (R194, R203)? -/
def State.seDue (s : State) (x : SeSlot) (d : SeDesc) (n : Nat) : Bool :=
  ((n : Int) - (s.se.slip - x.slip)) % (d.rateDiv : Int) == (d.phase : Int)

/-- A commit takes effect (R200): the shadow becomes the descriptor, its records the committed bank. -/
def State.seCommit (s : State) (k : Nat) : State :=
  match (s.seSlot k).shadow with
  | none => s
  | some (q, l) =>
    let s1 := s.setSeSlot k { kern := some q, bank0 := l, slip := s.se.slip, disabling := (s.seSlot k).disabling }
    let s2 := (s1.setSeEnabled k true).wrs [(F.SE_COMMIT_BANK, setBit (s1.rd F.SE_COMMIT_BANK) k false),
      (F.SE_KSTAT_FORM k, q.desc.form), (F.SE_KSTAT_SHADOW k, 0)]
    let stale := (numbersFrom 0 16).any fun j => s2.seEnabled j && (s2.seSlot j).stale
    ((s2.wrB F.SE_STATUS_PHASE_SLIP (s2.isOn F.SE_STATUS_PHASE_SLIP && stale)).setBudget).finish 0x0F02 k .ok

/-- The value of a capture channel (R207). -/
def State.capValue (s : State) (sel : Nat) : Int :=
  let r := (s.seInsts (sel % 16))[sel / 1024 % 512]?
  match sel / 16 % 4, r with
  | 3, _ => s.se.gen.out
  | 0, some x => x.x.getD (sel / 64 % 16) 0
  | 1, some x => x.y.getD (sel / 64 % 16) 0
  | 2, some x => x.lastIn.getD (sel / 64 % 16) 0
  | _, none => 0
  | _, _ => 0

/-- Rows the buffer holds (R207). -/
def capRows (channels : Nat) : Nat := if channels = 0 then 0 else 262144 / (4 * channels)

/-- Take one row at a step of the pacing slot: up to PRE rows before the trigger, until full after it (R208). -/
def State.capRow (s : State) (n : Nat) (row : List Int) : State :=
  let c := s.se.cap
  let rows :=
    if s.isOn F.SE_CAP_STATUS_TRIGGERED then (if c.rows.length < capRows c.sel.length then c.rows ++ [(n, row)] else c.rows)
    else (c.rows ++ [(n, row)]).drop ((c.rows.length + 1) - c.pre)
  let s1 : State := { s with se.cap.rows := rows }
  (s1.wr F.SE_CAP_STATUS_ROWS rows.length).wr64 F.SE_CAP_FIRST_LO_IDX F.SE_CAP_FIRST_HI_IDX ((rows.headD (0, [])).1)

/-- A capture is armed and slot `k` paces it. -/
def State.capPaced (s : State) (k : Nat) : Bool := s.isOn F.SE_STATUS_CAP_ARMED && s.se.cap.pace == k

/-- One due kernel runs on the values at the start of the step, `base`, and commits (R184, R186, R190, R198). -/
def State.seKernelStep (base s : State) (k n : Nat) : State :=
  match (s.seSlot k).kern with
  | none => s
  | some q =>
    let old := s.seInsts k
    let new := (old.zip (numbersFrom 0 old.length)).map fun p => base.seRun q p.2 n p.1
    let b := s.seBank k
    let x := s.seSlot k
    let s1 := s.setSeSlot k (if b = 0 then { x with bank1 := new } else { x with bank0 := new })
    let s2 := s1.wr F.SE_COMMIT_BANK (setBit (s1.rd F.SE_COMMIT_BANK) k (b == 0))
    let count (f : SeInst → Bool) : Nat := (new.filter fun r => f r && r.stepIdx == n).length
    let s3 := (((s2.flagN Fl.SE_EVENT_TERM_SAT (count (·.termSat))).flagN Fl.SE_EVENT_ACC_SAT (count (·.accSat))).flagN
      Fl.SE_EVENT_OUT_SAT (count (·.outSat))).flagN Fl.SE_EVENT_CLAMP (count (·.clamp))
    let s4 := if q.desc.notifies && decide (k < 12) then s3.ringDoorbell agSE q.desc.agent (2 ^ k) else s3
    if s4.capPaced k then s4.capRow n (s4.se.cap.sel.map s4.capValue) else s4

/-- The start of a step: tables, commits and disables take effect (R193, R200, R202). -/
def State.seStepStart (s : State) (n : Nat) : State :=
  let tab (s : State) (k : Nat) : State :=
    let t := Tbl.get ({} : SeTab) s.se.tables k
    match t.next with
    | none => s
    | some v => ({ s with se.tables := Tbl.put s.se.tables k { cur := some v },
                           se.lists := Tbl.put s.se.lists t.nextList.1 t.nextList.2 } : State).finish 0x0F04 k .ok
  let slot (s : State) (k : Nat) : State :=
    let x := s.seSlot k
    let s1 := if x.disabling then ((s.setSeSlot k { x with disabling := false }).setSeEnabled k false).setBudget else s
    let y := s1.seSlot k
    match y.shadow with
    | some (q, _) => if y.committing && s1.seDue { y with slip := s1.se.slip } q.desc n then s1.seCommit k else s1
    | none => s1
  let loaded := (numbersFrom 0 8).any fun k => (Tbl.get ({} : SeTab) s.se.tables k).next.isSome
  let s0 := (numbersFrom 0 8).foldl tab s
  (numbersFrom 0 16).foldl slot (if loaded then s0.setBudget else s0)

/-- The slots due at an instant, in slot order. -/
def State.seDueSlots (s : State) (n : Nat) : List Nat :=
  (numbersFrom 0 16).filter fun k => s.seEnabled k && match (s.seSlot k).kern with
    | some q => s.seDue (s.seSlot k) q.desc n
    | none => false

/-- The instant that the step in progress consumes (R194). -/
def State.seInstant (s : State) : Nat := s.plumbIdx - (if s.isOn F.SEG_FILT_CFG_FILTER_ACTIVE then 3 else 2)

end Sys2Proof.Machine
end

