-- ==== Sys2Proof/Machine/Se.lean ====
section
/-! DEFINITION. State Engine (R173–R212): its commands, generator, capture and correlation events; the step itself is in
SeStep.lean. -/

namespace Sys2Proof.Machine

/-! ### Commands (R212) -/

/-- The firmware owns the generator, the capture buffer or the correlation unit. -/
def State.fwOwns (s : State) : Bool :=
  s.rd F.SE_STATUS_INJ_OWNER == 1 || s.rd F.SE_STATUS_INJ_OWNER == 2 ||
  (s.isOn F.SE_STATUS_CAP_ARMED && s.se.cap.byFirmware) || (s.isOn F.SE_STATUS_CORR_RUNNING && s.se.corrByFirmware)

def hostSlot (k : Nat) : Bool := decide (12 ≤ k) && decide (k ≤ 15)

/-! #### Parsing a kernel (R176, R181–R183, R187) -/

def i32 (b : List Byte) (i : Nat) : Int := toSigned 32 (u32 b i)

def parseInput (b : List Byte) (o : Nat) : SeInput :=
  { source := u8 b o % 16, stride := u8 b o / 16, base := u16 b (o + 2) }

/-- The descriptor of 64 bytes (R181). -/
def parseDesc (b : List Byte) : SeDesc :=
  let m := u8 b 2
  let f := u8 b 10
  let sch (o : Nat) : Bool × Nat := (u8 b o / 128 == 1, u8 b o % 16)
  { form := u8 b 0 % 4, n := u8 b 1, m := m, p := u8 b 3, instances := u16 b 4, rateDiv := u16 b 6, phase := u16 b 8
    satFreeze := f % 2 == 1, tableEn := f / 2 % 2 == 1, zgate := f / 4 % 2 == 1, notifies := f / 8 % 2 == 1
    table := u8 b 11 % 8, coefBase := u16 b 12, stateBase := u16 b 14
    inputs := (numbersFrom 0 (min m 8)).map fun j => parseInput b (16 + 4 * j)
    sch1 := sch 48, sch2 := sch 49, schedList := u8 b 50 % 8, agent := u8 b 51
    zsel := [u8 b 52 % 16, u8 b 52 / 16, u8 b 53 % 16, u8 b 53 / 16] }

/-- Reserved bits, form and DESC_CRC of a descriptor (R181, R183). -/
def descBad (b : List Byte) : Bool :=
  u8 b 0 / 4 != 0 || u8 b 0 % 4 == 0 || u8 b 0 % 4 == 3 || u8 b 10 / 16 != 0 || u8 b 11 / 8 != 0 || u8 b 48 / 16 % 8 != 0 ||
  u8 b 49 / 16 % 8 != 0 || u8 b 50 / 8 != 0 || !allZero (slice b 54 6) || u32 b 60 != crc32c (slice b 0 60) ||
  (numbersFrom 0 (min (u8 b 2) 8)).any fun j => u8 b (16 + 4 * j + 1) != 0 || decide (10 ≤ u8 b (16 + 4 * j) % 16)

/-- The element an input names lies in its range for every instance, and within the variant (R183, R9). -/
def State.elementOk (s : State) (slot : Nat) (d : SeDesc) (e : SeInput) : Bool :=
  let last := e.base + e.stride * (d.instances - 1)
  match e.source with
  | 1 => decide (1 ≤ e.base) && decide (last ≤ 16 * s.segs)
  | 2 => decide (1 ≤ e.base) && decide (last ≤ s.segs)
  | 4 => decide (last < 512)
  | 5 => decide (e.base < 4)
  | 6 =>
    let j := e.base / 4096 % 16
    let x := s.seSlot j
    let n := if j = slot then d.instances else match x.kern, x.shadow with
      | some q, _ => q.desc.instances
      | none, some q => q.1.desc.instances
      | none, none => 0
    decide (e.base / 256 % 16 < 8) && decide (d.instances ≤ n)
  | 8 => decide (e.base < 16)
  | _ => true

/-- A coefficient that a schedule list may name: of A, B, e, C, D, f or L, no bound (R191). -/
def SeDesc.scheduled (d : SeDesc) (i : Nat) : Bool := decide (i < d.offLo)

/-- Numbers of a descriptor outside their ranges (R179, R181, R183, R191). -/
def State.descRange (s : State) (slot : Nat) (d : SeDesc) : Bool :=
  !(inR 1 16 d.n && decide (d.m ≤ 8) && (if d.form = 2 then inR 1 4 d.p else decide (d.p ≤ 8)) && inR 1 512 d.instances &&
    inR 1 4096 d.rateDiv && decide (d.phase < d.rateDiv)) ||
  d.inputs.any (fun e => !s.elementOk slot d e) || (d.tableEn && (Tbl.get [] s.se.lists d.schedList).any fun i => !d.scheduled i) ||
  (d.tableEn && [d.sch1, d.sch2].any fun v => decide ((if v.1 then d.m else d.n) ≤ v.2)) ||
  (d.form == 2 && (numbersFrom 0 d.p).any fun k => decide (d.m ≤ d.zsel.getD k 0))

def parseCoef (b : List Byte) (o : Nat) : Int × Int := (i32 b o, toSigned 6 (u8 b (o + 4) % 64))

/-- Words of which those from `n` on belong to no state or output, and read 0 (R187). -/
def usedWords (n : Nat) (l : List Int) : List Int := l.take n ++ List.replicate (l.length - n) 0

/-- The outputs of a kernel: for an observer the predictions and the innovations (R179). -/
def SeDesc.outs (d : SeDesc) : Nat := if d.form = 2 then 2 * d.p else d.p

def parseInst (d : SeDesc) (b : List Byte) (o : Nat) : SeInst :=
  let w (a n : Nat) : List Int := (numbersFrom 0 n).map fun j => i32 b (o + a + 4 * j)
  { x := usedWords d.n (w 0 16), y := usedWords d.outs (w 64 8), par := w 96 4 }

/-- The kernel and records that a load carries: descriptor, coefficients, instance records. -/
def parseKernel (b : List Byte) : SeKernel × List SeInst :=
  let d := parseDesc b
  ({ desc := d, coef := (numbersFrom 0 d.coefs).map fun i => parseCoef b (64 + 8 * i) },
   (numbersFrom 0 d.instances).map fun i => parseInst d b (64 + 8 * d.coefs + 128 * i))

/-- Reserved coefficient bits, bounds with a shift, and a lower bound above its upper one (R176, R180, R182). -/
def coefBad (b : List Byte) (k : SeKernel) : Bool :=
  let d := k.desc
  (numbersFrom 0 d.coefs).any (fun i => u8 b (64 + 8 * i + 4) / 64 != 0 || !allZero (slice b (64 + 8 * i + 5) 3)) ||
  (numbersFrom d.offLo (2 * d.n)).any (fun i => (k.coef.getD i (0, 0)).2 != 0) ||
  (numbersFrom 0 d.n).any fun j => decide ((k.coef.getD (d.offHi + j) (0, 0)).1 < (k.coef.getD (d.offLo + j) (0, 0)).1)

/-- Reserved bytes of the instance records (R187). -/
def instBad (b : List Byte) (d : SeDesc) : Bool :=
  (numbersFrom 0 d.instances).any fun i => !allZero (slice b (64 + 8 * d.coefs + 128 * i + 124) 4)

/-- Two ranges overlap. -/
def overlap (a n b m : Nat) : Bool := decide (a < b + m) && decide (b < a + n)

/-- The memories of R173 hold the kernel beside every kernel and shadow present (R200). -/
def State.seRoom (s : State) (slot : Nat) (d : SeDesc) : Bool :=
  decide (d.coefBase + d.coefs ≤ 32768) && decide (d.stateBase + 2 * d.instances ≤ 4096) &&
  (numbersFrom 0 16).all fun k =>
    let x := s.seSlot k
    let waits := if k = slot then [] else (x.shadow.map fun q => q.1.desc).toList
    let own := if k = slot ∧ s.seEnabled k = false then [] else (x.kern.map SeKernel.desc).toList
    (own ++ waits).all fun e =>
      !overlap d.coefBase d.coefs e.coefBase e.coefs && !overlap d.stateBase (2 * d.instances) e.stateBase (2 * e.instances)

/-- SE_KERNEL_LOAD (R181–R183, R196, R200). -/
def execSeKernelLoad (h : Hdr) (slot : Nat) (data : List Byte) (s : State) : Out :=
  let k := parseKernel data
  .next <| s.command 0x0F01 rMaintainer h
    [(descBad data || data.length != 64 + 8 * k.1.desc.coefs + 128 * k.1.desc.instances || coefBad data k.1 || instBad data k.1.desc, .param),
     (!hostSlot slot || s.descRange slot k.1.desc, .range)]
    fun s =>
      if s.fwOwns || (s.seSlot slot).committing then .refuse .busy
      else if s.isOn F.SE_STATUS_LANE_FAULT then .refuse .internal
      else if !s.seRoom slot k.1.desc || !s.admits slot k.1.desc then .refuse .noResource
      else
        .done ((s.setSeSlot slot { s.seSlot slot with shadow := some k }).wr (F.SE_KSTAT_SHADOW slot) 1) []

/-- SE_KERNEL_COMMIT (R196, R200): OK at the first step of the new descriptor. -/
def execSeKernelCommit (h : Hdr) (slot : Nat) (s : State) : Out :=
  .next <| s.command 0x0F02 rMaintainer h [(!hostSlot slot, .range)]
    fun s =>
      let x := s.seSlot slot
      match x.shadow with
      | none => .refuse .state
      | some (q, _) =>
        if s.fwOwns || x.committing then .refuse .busy
        else if !s.admits slot q.desc then .refuse .noResource
        else .accept (s.setSeSlot slot { x with committing := true }) slot []

/-- SE_KERNEL_DISABLE (R202). -/
def execSeKernelDisable (h : Hdr) (slot : Nat) (s : State) : Out :=
  .next <| s.command 0x0F03 rMaintainer h [(!hostSlot slot, .range)]
    fun s => if s.fwOwns then .refuse .busy else .done (s.seDisable slot) []

/-- Strictly ascending. -/
def ascending : List Int → Bool
  | a :: b :: t => decide (a < b) && ascending (b :: t)
  | _ => true

/-- The sum of S over the tables but one, a load that waits counting in place of the copy in force (R191). -/
def State.otherTables (s : State) (table : Nat) : Nat :=
  ((numbersFrom 0 8).map fun k =>
    if k = table then 0
    else
      let t := Tbl.get ({} : SeTab) s.se.tables k
      match t.next with
      | some v => v.s
      | none => (t.cur.map SeTable.s).getD 0).sum

/-- A coefficient index that a kernel scheduled by a list does not have (R191). -/
def State.listBad (s : State) (list : Nat) (idx : List Nat) : Bool :=
  (numbersFrom 0 16).any fun k =>
    let x := s.seSlot k
    ((x.kern.map SeKernel.desc).toList ++ (x.shadow.map fun q => q.1.desc).toList).any fun d =>
      d.tableEn && d.schedList == list && idx.any fun i => !d.scheduled i

/-- SE_TABLE_LOAD (R191, R193): into the copy not in use; OK when in force. -/
def execSeTableLoad (h : Hdr) (table list : Nat) (idx : List Nat) (bp1 bp2 grid : List Int) (s : State) : Out :=
  .next <| s.command 0x0F04 rMaintainer h
    [(bp1.length != 32 || bp2.length != 16 || grid.length != 512 * idx.length || !ascending bp1 || !ascending bp2, .param),
     (!inR 6 7 table || !inR 6 7 list || !inR 1 64 idx.length || s.listBad list idx, .range)]
    fun s =>
      if s.fwOwns || (Tbl.get ({} : SeTab) s.se.tables table).next.isSome then .refuse .busy
      else if 512 < s.otherTables table + idx.length then .refuse .noResource
      else
        let t := Tbl.get ({} : SeTab) s.se.tables table
        let v : SeTable := { bp1 := bp1, bp2 := bp2, s := idx.length, grid := grid }
        .accept { s with se.tables := Tbl.put s.se.tables table { t with next := some v, nextList := (list, idx) } } table []

/-- STATUS of a record as a word (R188). -/
def SeInst.status (r : SeInst) : Nat :=
  let b (c : Bool) (v : Nat) : Nat := if c then v else 0
  b r.frozen 1 + b r.termSat 2 + b r.accSat 4 + b r.outSat 8 + b r.clamp 16 + b r.held 32 + b r.gated 64 + b r.corrupt 128 +
  b r.schedClamp 256 + 65536 * r.gatedRun

/-- A record as 32 words (R187). -/
def SeInst.words (r : SeInst) : List Int :=
  (numbersFrom 0 16).map (fun j => r.x.getD j 0) ++ (numbersFrom 0 8).map (fun j => r.y.getD j 0) ++
  (numbersFrom 0 4).map (fun j => r.par.getD j 0) ++ [(r.status : Int), r.stepIdx % two32, r.stepIdx / two32, 0]

/-- SE_INSTANCE_READ (R190): the committed records and the bank. -/
def execSeInstanceRead (h : Hdr) (slot first count : Nat) (s : State) : Out :=
  .next <| s.command 0x0F05 rObserver h
    [(decide (15 < slot) || !inR 1 64 count || decide ((s.seInsts slot).length < first + count), .range)]
    fun s => ret s ((s.seBank slot : Int) :: (cut (s.seInsts slot) first count).flatMap SeInst.words)

/-- SE_INSTANCE_WRITE (R201): between steps, so at once; clears FROZEN and CORRUPT. -/
def execSeInstanceWrite (h : Hdr) (slot inst : Nat) (states params : Option (List Int)) (s : State) : Out :=
  .next <| s.command 0x0F06 rMaintainer h
    [((states.isNone && params.isNone) || states.any (fun l => l.length != 16) || params.any (fun l => l.length != 4), .param),
     (!hostSlot slot || decide ((s.seInsts slot).length ≤ inst), .range)]
    fun s =>
      if s.fwOwns then .refuse .busy
      else
        let l := s.seInsts slot
        let r := l.getD inst {}
        let n := match (s.seSlot slot).kern with | some q => q.desc.n | none => 16
        let r1 : SeInst := { r with x := (states.map (usedWords n)).getD r.x, par := params.getD r.par, frozen := false, corrupt := false }
        .done (s.setSeInsts slot (l.set inst r1)) []

/-- A start index lies at least two PLUMB periods ahead. -/
def State.startOk (s : State) (start : Nat) : Bool := decide (s.plumbIdx + 2 ≤ start)

/-- Phase increments of 0.1 Hz to 1000 Hz at 4000 instants a second (R205, R210). -/
def freqOk (k : Nat) : Bool := decide (4294967296 ≤ 40000 * k) && decide (k ≤ 1073741824)

/-- Configure and claim the generator for an owner: 1 EST, 2 THM, 3 host. -/
def State.genLoad (s : State) (owner wave : Nat) (amp : Int) (k k2 len chip start : Nat) (ramp : Bool) : State :=
  ((s.wrs [(F.SE_INJ_CFG_WAVE, wave), (F.SE_INJ_CFG_RAMP, if ramp then 1 else 0), (F.SE_INJ_CFG_CHIP, chip - 1),
    (F.SE_INJ_FREQ_VALUE, k), (F.SE_INJ_FREQ2_VALUE, k2), (F.SE_INJ_LEN_VALUE, len), (F.SE_STATUS_INJ_RUNNING, 1),
    (F.SE_STATUS_INJ_OWNER, owner)]).wrI F.SE_INJ_AMP_VALUE amp).wr64 F.SE_INJ_START_LO_IDX F.SE_INJ_START_HI_IDX start

/-- SE_INJECT_START (R205, R206). -/
def execSeInjectStart (h : Hdr) (wave : Nat) (amp : Int) (k k2 len chip start : Nat) (ramp : Bool) (s : State) : Out :=
  .next <| s.command 0x0F07 rMaintainer h
    [(decide (4 < wave), .param),
     (((wave == 1 || wave == 2) && !freqOk k) || (wave == 2 && (!freqOk k2 || len == 0)) || (wave == 3 && !inR 1 256 chip) ||
       !s.startOk start, .range)]
    fun s =>
      if s.fwOwns || s.isOn F.SE_STATUS_INJ_RUNNING then .refuse .busy
      else .accept (s.genLoad 3 wave amp k k2 len (max 1 chip) start ramp) 0 []

/-- SE_INJECT_STOP (R206). -/
def execSeInjectStop (h : Hdr) (s : State) : Out :=
  .next <| s.command 0x0F08 rMaintainer h []
    fun s => if s.fwOwns then .refuse .busy
             else if s.isOn F.SE_STATUS_INJ_RUNNING then .done s.genStopAsk [] else .done s []

/-- Arm a capture; the data held are discarded (R208, R209). -/
def State.capArm (s : State) (c : SeCap) : State :=
  ({ s with se.cap := { c with rows := [] } } : State).wrs
    [(F.SE_STATUS_CAP_ARMED, 1), (F.SE_CAP_STATUS_CHANNELS, c.sel.length), (F.SE_CAP_STATUS_TRIGGERED, if c.trig = 0 then 1 else 0),
     (F.SE_CAP_STATUS_GAP, 0), (F.SE_CAP_STATUS_ROWS, 0)]

/-- SE_CAPTURE_ARM (R207, R208). -/
def execSeCaptureArm (h : Hdr) (sel : List Nat) (pace trig trigIdx pre : Nat) (s : State) : Out :=
  .next <| s.command 0x0F09 rMaintainer h
    [(sel.any (fun w => decide (524288 ≤ w)) || decide (2 < trig), .param),
     (!inR 1 8 sel.length || decide (15 < pace) || decide (capRows sel.length ≤ pre) || (trig == 1 && !s.startOk trigIdx), .range)]
    fun s =>
      if s.fwOwns || s.isOn F.SE_STATUS_CAP_ARMED then .refuse .busy
      else .accept (s.capArm { sel := sel, pace := pace, trig := trig, trigIdx := trigIdx, pre := pre }) 0 []

/-- SE_CAPTURE_READ (R209). -/
def execSeCaptureRead (h : Hdr) (s : State) : Out :=
  .next <| s.command 0x0F0A rObserver h []
    fun s =>
      if s.isOn F.SE_STATUS_CAP_ARMED then .refuse .busy
      else
        let d := s.se.cap.rows.flatMap (·.2)
        .bulk s [] (4 * d.length) d

/-- Periods and instants of a bin (R210). -/
def corrPeriods (k t : Nat) : Nat := t * 4000 * k / two32
def corrTotal (k t : Nat) : Nat := (roundDiv (corrPeriods k t * two32 : Nat) k).toNat

/-- SE_CORR_START (R210): `ks` holds K of bins 0–7. -/
def execSeCorrStart (h : Hdr) (mask : Nat) (ks : List Nat) (tInt imin start : Nat) (s : State) : Out :=
  let on (b : Nat) : Bool := mask / 2 ^ b % 2 == 1
  .next <| s.command 0x0F0B rMaintainer h
    [(!inR 1 255 mask || !inR 1 3600 tInt || decide (4095 < imin) || !s.startOk start ||
      (numbersFrom 0 8).any (fun b => on b && (!freqOk (ks.getD b 0) || decide (corrPeriods (ks.getD b 0) tInt < 4))), .range)]
    fun s =>
      if s.fwOwns || s.isOn F.SE_STATUS_CORR_RUNNING then .refuse .busy
      else
        let bins := (numbersFrom 0 8).filterMap fun b =>
          if on b then some (b, ({ k := ks.getD b 0, total := corrTotal (ks.getD b 0) tInt
                                   cells := List.replicate (16 * s.segs) {} } : CorrBin)) else none
        let s1 : State := { s with se.corr := bins, se.corrOut := [], se.corrStart := start, se.corrMaps := [] }
        let s2 := s1.wrs [(F.SE_STATUS_CORR_RUNNING, 1), (F.SE_CORR_CFG_BIN_EN, mask), (F.SE_CORR_CFG_T_INT, tInt), (F.SE_CORR_CFG_IMIN, imin)]
        .accept ((numbersFrom 0 8).foldl (fun s b => s.wr (F.SE_CORR_FREQ_K b) (ks.getD b 0)) s2) 0 []

/-- SE_CORR_READ (R211): Z_RE, Z_IM and quality per cell, and the current amplitude of the bin. -/
def execSeCorrRead (h : Hdr) (bin first count : Nat) (s : State) : Out :=
  .next <| s.command 0x0F0C rObserver h
    [(decide (7 < bin) || !s.cellOk first || decide (count < 1) || decide (16 * s.segs < first + count - 1), .range)]
    fun s =>
      let o := Tbl.get ({ amp := markS 32, z := [] } : CorrOut) s.se.corrOut bin
      let none3 : Int × Int × Nat := (-2147483648, -2147483648, 3)
      ret s ((o.amp : Int) :: (numbersFrom (first - 1) count).flatMap fun i =>
        let z := o.z.getD i none3
        [z.1, z.2.1, (z.2.2 : Int)])

/-- SE_STATUS (R212). -/
def execSeStatus (h : Hdr) (s : State) : Out :=
  .next <| s.command 0x0F0D rObserver h []
    fun s => ret s (s.words ([0x70000, 0x70004, 0x70008] ++ (numbersFrom 0 16).map fun k => 0x70100 + 4 * k))

/-! ### Generator, capture and correlation events -/

/-- INJECT_START_INDEX (R205). -/
def execInjectStartIndex (s : State) : Out :=
  .next <| if s.isOn F.SE_STATUS_INJ_RUNNING && !s.se.gen.running then s.genStart else s

/-- CHIRP_END (R205): after D instants the chirp stops and its command completes OK. -/
def execChirpEnd (s : State) : Out :=
  .next <|
    if s.se.gen.running && s.rd F.SE_INJ_CFG_WAVE == 2 && decide (s.rd F.SE_INJ_LEN_VALUE ≤ s.se.gen.i) then s.genStop .ok else s

/-- CAPTURE_TRIGGER (R208). -/
def execCaptureTrigger (s : State) : Out :=
  .next <| if s.isOn F.SE_STATUS_CAP_ARMED then s.wr F.SE_CAP_STATUS_TRIGGERED 1 else s

/-- CAP_DONE (R208): the buffer is full. -/
def execCapDone (s : State) : Out :=
  .next <|
    if s.isOn F.SE_STATUS_CAP_ARMED && s.isOn F.SE_CAP_STATUS_TRIGGERED &&
       decide (capRows s.se.cap.sel.length ≤ s.se.cap.rows.length) then
      ((s.wr F.SE_STATUS_CAP_ARMED 0).flag Fl.SE_EVENT_CAP_DONE {}).finish 0x0F09 0 .ok
    else s

/-- The nearest integer to the square root of a rational. -/
def sqrtRound (q : Rat) : Nat := (isqrt (4 * q).floor.toNat + 1) / 2

/-- The result of a bin (R210, R211). -/
def CorrBin.result (b : CorrBin) (imin : Nat) : CorrOut :=
  let sc : Rat := 2 / ((b.total : Rat) * 1073741824)
  let ic := sc * b.ic
  let is := -(sc * b.is)
  let m := ic * ic + is * is
  let low := decide (m < ((imin : Rat) * imin))
  { amp := sqrtRound m
    z := b.cells.map fun c =>
      let vc := sc * c.c
      let vs := -(sc * c.s)
      if 2 * c.n < b.total then (-2147483648, -2147483648, 3)
      else if low || m == 0 then (-2147483648, -2147483648, 1)
      else
        (clampI (-outMax) outMax (ratRound (1000000 * (vc * ic + vs * is) / m)),
         clampI (-outMax) outMax (ratRound (1000000 * (vs * ic - vc * is) / m)), if c.spoilt then 2 else 0) }

/-- CORR_DONE (R210, R211): every bin has integrated its whole periods. -/
def execCorrDone (s : State) : Out :=
  .next <|
    if s.isOn F.SE_STATUS_CORR_RUNNING && s.se.corr.all fun p => decide (p.2.total ≤ p.2.done) then
      let imin := s.rd F.SE_CORR_CFG_IMIN
      let s1 : State := { s with se.corrOut := s.se.corr.map fun p => (p.1, p.2.result imin) }
      ((s1.wr F.SE_STATUS_CORR_RUNNING 0).flag Fl.SE_EVENT_CORR_DONE {}).finish 0x0F0B 0 .ok
    else s

end Sys2Proof.Machine
end

