-- ==== Sys2Proof/Machine/EstOps.lean ====
section
/-! DEFINITION. Shared operations of State and Health Estimation: tables, cell records, uncertainty, the load of slot 0,
learned-state writes (R213–R242).  SOC is in fractions or %, charge in Ah, as each definition says. -/

namespace Sys2Proof.Machine

/-- A value the spec leaves open: the next free value (assumption log 4). -/
def State.draw (s : State) : Int × State := (Config.free s.free, { s with free := s.free + 1 })

/-- A 64-bit value as the two words of a result, low word first (R4). -/
def words64 (v : Int) : List Int := let w := ofSigned 64 v; [(w % two32 : Nat), (w / two32 : Nat)]

/-! ### The tables in force (R222, R224) -/

/-- OCV and H in µV; Rser, Ra, Rb in mΩ; τ in s. -/
def State.ocvAt (s : State) (soc tmp : Rat) : Rat := 100 * gridAt s.est.ocv s.est.ocv 152 soc tmp
def State.hystAt (s : State) (soc tmp : Rat) : Rat := 10 * gridAt s.est.ocv s.est.ocv 1176 soc tmp
def State.rserAt (s : State) (soc tmp : Rat) : Rat := gridAt s.est.ocv s.est.chem 32 soc tmp / 1000
def State.raAt (s : State) (soc tmp : Rat) : Rat := gridAt s.est.ocv s.est.chem 1056 soc tmp / 1000
def State.tauA (s : State) (soc tmp : Rat) : Rat := gridAt s.est.ocv s.est.chem 2080 soc tmp / 100
def State.rbAt (s : State) (soc tmp : Rat) : Rat := gridAt s.est.ocv s.est.chem 3104 soc tmp / 1000
def State.tauB (s : State) (soc tmp : Rat) : Rat := gridAt s.est.ocv s.est.chem 4128 soc tmp / 10

/-- The OCV in µV that table 0 gives at a point of the OCV table: slope and offset as the SE interpolates them (R192, R214). -/
def kernelOcv (ocv : List Byte) (soc : Rat) (tmp : Int) : Rat :=
  let bp1 := estBp1 ocv
  let bp2 := estBp2 ocv
  let v := ratRound (soc * 1073741824)
  let t : SeTable := { bp1 := bp1, bp2 := bp2, s := 2, grid := bp2.flatMap fun y => bp1.flatMap fun x =>
    let o := estOcvForm ocv ((x : Rat) / 1073741824) y
    [o.1, o.2.1] }
  let g := (t.gains v tmp).1
  (g.getD 0 0 : Rat) * v / 2147483648 + (g.getD 1 0 : Rat) / 256

/-- The kernel's piecewise form stays within 0.3 mV of the table at every SOC point, at each of its temperatures (R223). -/
def ocvFits (b : List Byte) : Bool :=
  (numbersFrom 0 8).all fun t => (numbersFrom 0 64).all fun k =>
    let tab : Rat := 100 * (u16 b (152 + 2 * (64 * t + k)) : Nat)
    decide (|kernelOcv b (ocvSoc b k) (i16 b (136 + 2 * t)) - tab| ≤ 300)

/-- Refusals of R223 with PARAM, and with RANGE. -/
def ocvParamBad (b : List Byte) : Bool :=
  b.length != 2224 || u32 b 0 != 0x4F435654 || u16 b 4 != 1 || u16 b 6 != 0 || u32 b 2220 != crc32c (slice b 0 2220) ||
  u16 b 8 != 0 || u16 b 134 != 10000 ||
  (numbersFrom 0 63).any (fun k => decide (u16 b (10 + 2 * k) ≤ u16 b (8 + 2 * k))) ||
  (numbersFrom 0 7).any (fun t => decide (i16 b (138 + 2 * t) ≤ i16 b (136 + 2 * t))) ||
  (numbersFrom 0 8).any (fun t => (numbersFrom 0 63).any fun k =>
    decide (u16 b (152 + 2 * (64 * t + k + 1)) < u16 b (152 + 2 * (64 * t + k)))) ||
  !ocvFits b

def ocvRangeBad (b : List Byte) : Bool := (numbersFrom 0 512).any fun i => decide (50000 < u16 b (152 + 2 * i))

/-- Refusals of R224 with PARAM, and with RANGE. -/
def chemParamBad (b : List Byte) : Bool :=
  b.length != 5156 || u32 b 0 != 0x43484D31 || u16 b 4 != 1 || u16 b 6 != 0 || !allZero (slice b 20 12) ||
  u32 b 5152 != crc32c (slice b 0 5152)

def chemRangeBad (b : List Byte) : Bool :=
  u32 b 8 == 0 || u32 b 12 == 0 || u16 b 16 == 0 || u16 b 18 == 0 || (numbersFrom 0 2560).any fun i => u16 b (32 + 2 * i) == 0

/-! ### Cells -/

def State.cells (s : State) : Nat := 16 * s.segs

def State.cellList (s : State) : List Nat := numbersFrom 1 s.cells

def State.estCell (s : State) (i : Nat) : EstCell := Tbl.get {} s.est.cells i

def State.setEst (s : State) (i : Nat) (c : EstCell) : State := { s with est.cells := Tbl.put s.est.cells i c }

/-- Slot 0 is loaded, or EST carries its states (R220). -/
def State.estRunning (s : State) : Bool := s.seEnabled 0 || s.est.parked

/-- The record of cell `i`: slot 0's, or the carried one. -/
def State.estRec (s : State) (i : Nat) : Option SeInst :=
  if s.est.parked then s.est.carried[i - 1]? else if s.seEnabled 0 then (s.seInsts 0)[i - 1]? else none

/-- Write the states of cell `i` back. -/
def State.setRec (s : State) (i : Nat) (r : SeInst) : State :=
  if s.est.parked then { s with est.carried := s.est.carried.set (i - 1) r }
  else s.setSeInsts 0 ((s.seInsts 0).set (i - 1) r)

/-- Change the record of cell `i` in a reload of slot 0 that is under way. -/
def State.setLoaded (s : State) (i : Nat) (f : SeInst → SeInst) : State :=
  let x := s.seSlot 0
  match x.shadow with
  | some (q, l) => s.setSeSlot 0 { x with shadow := some (q, (numbersFrom 1 l.length).zip l |>.map fun p => if p.1 = i then f p.2 else p.2) }
  | none => s

/-- s and κ as fractions, h, temperatures in 0.01 °C. -/
def SeInst.soc (r : SeInst) : Rat := (r.x.getD 0 0 : Rat) / 1073741824
def SeInst.hyst (r : SeInst) : Rat := (r.x.getD 3 0 : Rat) / 1073741824
def SeInst.tc (r : SeInst) : Int := r.x.getD 4 0
def SeInst.ts (r : SeInst) : Int := r.x.getD 5 0
def SeInst.kappa (r : SeInst) : Rat := (r.x.getD 7 0 : Rat) / 1073741824

/-- A fraction in units of 2⁻³⁰. -/
def q30 (x : Rat) : Int := ratRound (x * 1073741824)

/-- Rated capacity in Ah. -/
def State.qr (s : State) : Rat := (s.rd F.EST_CFG_Q_RATED : Rat) / 10

/-- A difference of the charge counter in Ah. -/
def ahOf (d : Int) : Rat := (d : Rat) / (4294967296 * 3600000000)

/-- σ_i in % of a cell with a capacity correction (R229). -/
def State.sigmaOf (s : State) (c : EstCell) (kap : Rat) : Rat :=
  c.sigRef + (s.rd F.EST_SIGMA_KA : Rat) / 100 * c.thr / (s.qr * (1 + kap)) + (s.rd F.EST_SIGMA_KT : Rat) / 1000 * c.t

def State.sigma (s : State) (i : Nat) : Rat :=
  s.sigmaOf (s.estCell i) (match s.estRec i with | some r => r.kappa | none => 0)

def ratMax (l : List Rat) : Rat := l.foldl max 0

def ratMin : List Rat → Rat
  | [] => 0
  | a :: l => l.foldl min a

/-- Averaged value of a cell in µV with its quality (R78). -/
def State.cellAvg (s : State) (i : Nat) : Avg := Tbl.get {} (s.segOf (segOfCell i)).avg (posOfCell i)

/-- The voltage of a cell for the limits (R240): its averaged value; a MISSING cell at SUM less the others, an
INDETERMINATE pair at half of SUM less the others (R113). -/
def State.cellVolt (s : State) (i : Nat) : Option Rat :=
  let k := segOfCell i
  let x := s.segOf k
  let a := s.cellAvg i
  let mean (j : Nat) : Option Rat := (Tbl.get ({} : Avg) x.avg j).mean
  let isInd (j : Nat) : Bool := (Tbl.get ({} : Avg) x.avg j).quality == 3
  let others (bad : Nat → Bool) : Option Rat :=
    ((numbersFrom 1 16).filter fun j => !bad j).foldl
      (fun acc j => match acc, mean j with | some t, some v => some (t - v) | _, _ => none) (mean 17)
  if a.quality = 3 then (others isInd).map fun p => p / (max 1 ((numbersFrom 1 16).filter isInd).length : Nat)
  else match a.mean with
    | some v => some v
    | none => others fun j => j == posOfCell i

/-- T_ntc of a cell: its NTC's latest temperature while VALID (R239, R311). -/
def State.cellNtc (s : State) (i : Nat) : Option Int := validTemp (s.ntcNow (s.ntcMap.getD (i - 1) 0))

/-- T_cool of a segment (R313): the cold plate of slot 1, else the inlet, else 25.00 °C. -/
def State.tCool (s : State) (k : Nat) : Int :=
  if s.seEnabled 1 then ((s.seInsts 1).getD (k - 1) {}).x.getD 2 0
  else (validTemp (s.ntcNow (s.ntcMap.getD 442 0))).getD 2500

/-! ### The load of slot 0 (R218, R219) -/

/-- The tables to come into force with the next load. -/
def State.ocvToCome (s : State) : List Byte := if s.est.ocvNext.isEmpty then s.est.ocv else s.est.ocvNext
def State.chemToCome (s : State) : List Byte := if s.est.chemNext.isEmpty then s.est.chem else s.est.chemNext

/-- Ask for a load of slot 0 with the tables and the rate to come; it carries what waits at this moment (R218). -/
def State.estCommit (s : State) (l : List SeInst) : State :=
  let rate := s.rd F.EST_CFG_RATE
  let ld : EstLoad := { ocv := s.ocvToCome, chem := s.chemToCome, rate := rate, ocvNew := !s.est.ocvNext.isEmpty
                        chemNew := !s.est.chemNext.isEmpty, rateNew := (s.opOf 0x0405 0).isSome }
  let t := Tbl.get ({} : SeTab) s.se.tables 0
  let s1 : State := { s with
    se.tables := Tbl.put s.se.tables 0 { t with next := some (estTable ld.ocv ld.chem rate), nextList := (0, estSched) }
    est.readAt := some s.cim.charge, est.load := some ld }
  let s2 := s1.seLoadFw 0 { desc := estDesc rate s.cells, coef := estCoefs ld.ocv ld.chem s.qr rate } l
  if (s2.seSlot 0).committing then s2 else s

/-- The SCHEMA of learned-state records: the old image's while the CTL image is in TRIAL (R477). -/
def State.learnSchema (s : State) : Nat :=
  if s.rd F.UPD_STATUS_IMAGE_STATE = 1 then s.upd.other.schema else s.rd F.UPD_SCHEMA_RUNNING

/-- A CTL image bank, and the one that runs (R463). -/
def State.ctlBank (s : State) (b : Nat) : ImgBank := if b = 0 then s.upd.ctl0 else s.upd.ctl1

def State.running (s : State) : ImgBank := s.ctlBank (s.rd F.UPD_STATUS_ACTIVE_BANK)

/-- The bytes of a learned-state record before its CRC (R235). -/
def LearnRec.body (r : LearnRec) : List Byte :=
  leBytes 4 r.magic ++ leBytes 2 r.schema ++ leBytes 2 r.count ++ leBytes 4 r.gen ++ leBytes 8 (ofSigned 64 r.counter) ++ leBytes 8 r.tai ++
  leBytes 4 r.opMin ++ leBytes 4 r.cycles ++ leBytes 4 r.qRated ++ leBytes 2 r.sigma ++ [if r.campaign then 1 else 0] ++ List.replicate 17 0 ++
  leBytes 4 r.ocvCrc ++ r.cells.flatMap fun c =>
    leBytes 4 (ofSigned 32 c.1) ++ leBytes 4 (ofSigned 32 c.2.1) ++ leBytes 4 (ofSigned 32 c.2.2.1) ++ leBytes 2 c.2.2.2.1 ++
    leBytes 2 (ofSigned 16 c.2.2.2.2)

/-- A slot is valid with its mark, MAGIC, CRC, the fitted cell count, and the present schema or one that the image migrates (R238); an
uncorrectable codeword has taken its mark (R26). -/
def State.learnGood (s : State) (r : LearnRec) : Bool :=
  r.valid && r.magic == 0x45534C31 && r.crc == crc32c r.body && r.count == s.cells && decide (r.schema ≤ s.rd F.UPD_SCHEMA_RUNNING) &&
  (r.schema == s.rd F.UPD_SCHEMA_RUNNING || decide (s.running.minSchema ≤ r.schema))

/-- The newer valid learned-state slot: 0 A, 1 B (R238). -/
def State.newest (s : State) : Option (Nat × LearnRec) :=
  let a := s.learnGood s.est.slotA
  let b := s.learnGood s.est.slotB
  if a && (!b || decide (s.est.slotB.gen ≤ s.est.slotA.gen)) then some (0, s.est.slotA)
  else if b then some (1, s.est.slotB) else none

/-- The record that stands, without its slot. -/
def State.newestRec (s : State) : Option LearnRec := s.newest.map (·.2)

/-- One instance of slot 0 as R219 and R238 build it from the record that stands, and what EST keeps of the cell. -/
def State.restoreCell (s : State) (std : Option LearnRec) (i : Nat) : SeInst × EstCell :=
  let t := (s.cellNtc i).getD (Config.fwInit 0 i 4)
  let c0 : EstCell := { counter := s.cim.charge }
  match std with
  | none => ({ x := [0, 0, 0, 0, t, t, 0, 0], par := [0, 0, 0, 0] }, c0)
  | some r =>
    let v := r.cells.getD (i - 1) (0, 0, 0, 1000, 0)
    let kap : Rat := (v.2.1 : Rat) / 1073741824
    let dq := ahOf (s.cim.charge - r.counter * 4294967296)
    let soc := (v.1 : Rat) / 1073741824 + dq / (s.qr * (1 + kap))
    let known := decide (0 < r.tai) && s.taiValid
    let hours : Rat := if known then ((s.now : Rat) - r.tai) / 3600000000000 else 0
    let ocvOk := r.ocvCrc == u32 s.est.ocv 2220
    let sig : Rat := (v.2.2.2.1 : Rat) / 100 + 1 / 5 + (if known then 0 else 1) + (if r.campaign then hours / 25 else 0)
    let x : List Int :=
      if ocvOk then [q30 soc, 0, 0, v.2.2.2.2 * 32768, t, t, 0, v.2.1] else [0, 0, 0, 0, t, t, 0, v.2.1]
    ({ x := x, par := [0, 0, 0, 0] },
     { c0 with dR := v.2.2.1, sigRef := if ocvOk then sig else 10, thr := if ocvOk then |dq| else 0, t := if ocvOk then hours else 0
               fresh := !ocvOk, needOcv := !ocvOk })

/-- EST loads slot 0 from the newest valid learned state (R219), once both tables are in force (R224). -/
def State.estRestore (s : State) : State :=
  if s.est.ocv.isEmpty || s.est.chem.isEmpty || !s.isOn F.SE_STATUS_POWERED then s
  else
    let std := s.newestRec
    let all := s.cellList.map fun i => (i, s.restoreCell std i)
    let s1 : State := { s with est.cells := all.map (fun p => (p.1, p.2.2)), est.parked := false, est.carried := [], est.addQ := [] }
    let s2 := s1.estCommit (all.map fun p => p.2.1)
    { s2 with est.readAt := none }

/-- The records of slot 0 as a reload reads them; a FROZEN or CORRUPT one is built from the learned state (R218, R219). -/
def State.estRecords (s : State) : State × List SeInst :=
  let l := s.cellList.zip (s.seInsts 0)
  let bad := l.any fun p => p.2.frozen || p.2.corrupt
  let std := if bad then s.newestRec else none
  l.foldl (fun a p =>
    if p.2.frozen || p.2.corrupt then let n := s.restoreCell std p.1; (a.1.setEst p.1 n.2, a.2 ++ [n.1]) else (a.1, a.2 ++ [p.2])) (s, [])

/-- EST reloads slot 0 with the records of one window (R218); with slot 0 not running, what waits comes into force. -/
def State.estApply (s : State) : State :=
  if s.seEnabled 0 then let r := s.estRecords; r.1.estCommit r.2
  else
    let s1 : State := { s with est.ocv := s.ocvToCome, est.chem := s.chemToCome, est.ocvNext := [], est.chemNext := [] }
    let s2 := (((s1.wr F.EST_CFG_RATE_ACTIVE (s1.rd F.EST_CFG_RATE)).finish 0x0403 0 .ok).finish 0x0409 0 .ok).finish 0x0405 0 .ok
    if s2.est.parked then s2 else s2.estRestore

/-- Slot 0 has committed a reload: the tables and the rate that it carried are in force (R218).  The charge that no kernel has counted, from
the read of the records (else from the cell's last refresh) on, is added at the first refresh. -/
def State.estCommitted (s : State) : State :=
  let add := s.cellList.map fun i => (i, ahOf (s.cim.charge - s.est.readAt.getD (s.estCell i).counter))
  let s1 : State := { s with est.readAt := none, est.addQ := add, est.parked := false, est.carried := [], est.load := none }
  let s2 := s1.wr F.EST_STATUS_RUNNING 1
  match s.est.load with
  | none => s2
  | some ld =>
    let s3 := ({ s2 with est.ocv := ld.ocv, est.chem := ld.chem, est.ocvNext := if ld.ocvNew then [] else s2.est.ocvNext
                         est.chemNext := if ld.chemNew then [] else s2.est.chemNext } : State).wr F.EST_CFG_RATE_ACTIVE ld.rate
    let s4 := if ld.ocvNew then s3.finish 0x0403 0 .ok else s3
    let s5 := if ld.chemNew then s4.finish 0x0409 0 .ok else s4
    if ld.rateNew then s5.finish 0x0405 0 .ok else s5

/-- EST reloads slot 0 from the states it carries (R220). -/
def State.estUnpark (s : State) : State :=
  if s.est.parked && !(s.seSlot 0).committing then { s.estCommit s.est.carried with est.readAt := none } else s

/-! ### Learned-state write-back (R235–R238) -/

/-- The record with the values current now; where EST holds no states, those it would load (R219). -/
def State.learnRec (s : State) : LearnRec :=
  let std := s.newestRec
  let cell (i : Nat) : Int × Int × Int × Nat × Int :=
    let p : SeInst × EstCell := match s.estRec i with
      | some r => (r, s.estCell i)
      | none => s.restoreCell std i
    (p.1.x.getD 0 0, p.1.x.getD 7 0, ratRound p.2.dR, satU 16 (ratRound (100 * s.sigmaOf p.2 p.1.kappa)),
     clampI (-32768) 32767 (roundDiv (p.1.x.getD 3 0) 32768))
  let r : LearnRec :=
    { gen := (match std with | some q => q.gen | none => 0) + 1, schema := s.learnSchema
      count := s.cells, counter := roundDiv s.cim.charge two32, tai := s.recTai, opMin := s.rd F.REC_OPTIME_VALUE
      cycles := s.rd F.REC_POWER_CYCLES_VALUE, qRated := 100 * s.rd F.EST_CFG_Q_RATED
      sigma := s.rd F.EST_SIGMA_NOW_SIGMA, campaign := s.bal.campaign.isSome, ocvCrc := u32 s.est.ocv 2220, cells := s.cellList.map cell }
  { r with crc := crc32c r.body }

/-- A write begins: its target loses its mark (R237, steps 2–4). -/
def State.learnStart (s : State) : State :=
  let target := match s.newest with
    | some (0, _) => 1
    | _ => 0
  let r := s.learnRec
  let s1 : State := { s with est.writing := some (target, r), est.pending := false, est.lastWrite := s.time.count }
  if target = 0 then { s1 with est.slotA.valid := false } else { s1 with est.slotB.valid := false }

/-- A trigger of R236. -/
def State.learnTrigger (s : State) : State :=
  if s.pwr.ctl = false then s
  else if s.est.writing.isSome then { s with est.pending := true }
  else if !s.isOn F.PWR_AUX_STATUS_HOLDUP_OK then s.wr F.EST_STATUS_WRITE_DEFERRED 1
  else s.learnStart

/-- HOLDUP_OK is back: a deferred write starts (R237). -/
def State.learnResume (s : State) : State :=
  if s.isOn F.EST_STATUS_WRITE_DEFERRED && s.est.writing.isNone then s.learnStart else s

end Sys2Proof.Machine
end

