-- ==== Sys2Proof/Machine/BankOps.lean ====
section
/-! DEFINITION. Shared operations of the bank ring: messages sent (R259) and grants for paralleling (R260). -/

namespace Sys2Proof.Machine

/-- Positions whose strings report closed and are heard, by CLOSED. -/
def State.closedPos (s : State) : List Nat := (numbersFrom 0 8).filter fun p => s.rd F.BANK_STATUS_CLOSED / 2 ^ p % 2 == 1

/-! ### Messages sent (R259) -/

/-- The number under which the latest message of each kind is kept. -/
def msgKind : BankMsg → Nat
  | .heartbeat .. => 0 | .stringState .. => 1 | .bankLimits .. => 2 | .parallelReq _ => 3 | .grant .. => 4 | .closed => 5
  | .isoResult .. => 6 | .corrStart .. => 7 | .marker .. => 8 | .openAll => 9

/-- Send a bank message; the bank link stops while the controller card is absent (R63). -/
def State.bankSend (s : State) (m : BankMsg) : State :=
  if s.pwr.ctl then { s with bank.sent := Tbl.put s.bank.sent (msgKind m) m } else s

/-! ### Grants (R260) -/

/-- The MODE_REQUEST that waits for a grant ends with STATE. -/
def State.grantRefused (s : State) (reason : Nat) : State :=
  let s1 := ({ s with bank.asking := false } : State).wr F.BANK_STATUS_LAST_REFUSAL reason
  (s1.flag Fl.BANK_EVENT_GRANT_REFUSED { status := .state }).modeFail .state

/-- Step 1 of R281, EST unparked first (R220): both channels confirm and the closing begins; else SAFETY. -/
def State.beginClosing (s : State) : State :=
  let s1 := s.estUnpark
  if s1.canClose then s1.startClosing else s1.modeFail .safety

/-- A grant or a refusal reaches the module that asked. -/
def State.grantTake (s : State) (reason : Nat) : State :=
  if !s.bank.asking then s
  else if reason = 0 then (({ s with bank.asking := false } : State).wr F.BANK_STATUS_GRANT_HELD 1).beginClosing
  else s.grantRefused reason

/-- The master's answer to a request: 0 granted, 1 voltage, 3 duplicate position. -/
def State.grantJudge (s : State) (v : Int) : Nat :=
  if s.isOn F.BANK_STATUS_DUP_POSITION || s.bank.strings.any (fun p => p.2.dup) then 3
  else if s.closedPos.isEmpty then 0
  else match s.bank.vBus with
    | some b => if (v - b).natAbs ≤ 100 * s.rd F.BANK_CFG_VMATCH then 0 else 1
    | none => 1

/-- The master answers position `p`. -/
def State.grantAnswer (s : State) (p : Nat) (v : Int) : State :=
  let r := s.grantJudge v
  let s1 : State := if r = 0 then { s with bank.granted := some p } else s
  let s2 := s1.bankSend (.grant p r)
  if p = s2.bankPos then s2.grantTake r else s2

/-- Serve the requests that wait, lowest position first. -/
def State.grantServe (s : State) : Nat → State
  | 0 => s
  | fuel + 1 =>
    if s.bank.granted.isSome then s
    else match s.bank.waiting with
      | [] => s
      | (p, v) :: t => State.grantServe (({ s with bank.waiting := t } : State).grantAnswer p v) fuel

/-- The master takes a request. -/
def State.grantRequest (s : State) (p : Nat) (v : Int) : State :=
  if s.bank.granted.isSome then { s with bank.waiting := Tbl.put s.bank.waiting p v } else s.grantAnswer p v

/-- Ask for a grant (R260): the master at position 0 asks itself; without a master or with a duplicate position, refused. -/
def State.bankAsk (s : State) : State :=
  let v := s.rdI F.CIM_VSTRING_MV
  let s1 : State := { s with bank.asking := true }
  if s.isOn F.BANK_STATUS_DUP_POSITION then s1.grantRefused 3
  else if s.bankPos = 0 then s1.grantRequest 0 v
  else if s.rd F.BANK_STATUS_HEARD % 2 = 0 then s1.grantRefused 2
  else s1.bankSend (.parallelReq v)

/-- The master's grant ends; the requests that wait are served. -/
def State.grantFree (s : State) : State := ({ s with bank.granted := none } : State).grantServe 8

/-- The holder sends CLOSED once its closing is complete (R260); the master releases its own grant. -/
def State.sendClosed (s : State) : State :=
  if s.isOn F.BANK_STATUS_GRANT_HELD then
    let s1 := (s.wr F.BANK_STATUS_GRANT_HELD 0).bankSend .closed
    if s1.bankMaster && s1.bank.granted == some 0 then s1.grantFree else s1
  else s

/-- BANK_OPEN_ALL completes once every string is open (R265). -/
def State.openAllCheck (s : State) : State :=
  if s.bank.openAll && s.closedPos.isEmpty && !s.closed then ({ s with bank.openAll := false } : State).finish 0x1003 0 .ok else s

end Sys2Proof.Machine
end

