-- ==== Sys2Proof/Machine/Estimate.lean ====
section
/-! DEFINITION. State and Health Estimation (R213–R243), and the duties of a balancing campaign (R148), which need the
estimates. -/

namespace Sys2Proof.Machine

/-! ### Limits of EST_VLIM and EST_ILIM (R241) -/

def State.limitsBad (s : State) (vLo vHi peak cont : Nat) : Bool :=
  decide (vHi ≤ vLo) ||
  (!s.safe.blockA.isEmpty && (decide (vLo < pSvwMin s.safe.blockA) || decide (pSvwMax s.safe.blockA < vHi) ||
    decide (pSlcMax s.safe.blockA < peak) || decide (pSlcMax s.safe.blockA < cont)))

/-! ### Commands (R243) -/

/-- Cells of which EST holds states, with their records. -/
def State.estList (s : State) : List (Nat × SeInst) := s.cellList.filterMap fun i => (s.estRec i).map fun r => (i, r)

/-- The mean core temperature of the string in 0.01 °C (R242). -/
def State.meanCore (s : State) : Rat :=
  let l := s.estList
  if l.isEmpty then 0 else ((l.map fun p => p.2.tc).sum : Rat) / l.length

/-- r_high as a fraction. -/
def State.rHigh (s : State) : Rat := (s.rd F.EST_RESERVE_R_HIGH : Rat) / 10000

/-- The energies to r_low and to 1 − r_high in Wh as int32 (R242), the marker where no estimate exists (R6). -/
def State.energies (s : State) : Int × Int :=
  if s.estList.isEmpty || s.est.rep.isNone then (-2147483648, -2147483648)
  else
    let e (x y : Rat) : Int := clampI (-2147483647) 2147483647 (ratRound (s.cells * s.est.qStr * ocvIntegral s.est.ocv s.meanCore x y))
    (e s.est.rLow s.est.raw, e s.est.raw (1 - s.rHigh))

/-- Q_str in µC as int64, the marker where no estimate exists (R6, R242). -/
def State.qStrOut (s : State) : Int := if s.estList.isEmpty || s.est.rep.isNone then -9223372036854775808 else ratRound (s.est.qStr * 3600000000)

/-- EST_STATUS (R242, R231). -/
def execEstStatus (h : Hdr) (s : State) : Out :=
  .next <| s.command 0x0401 rObserver h []
    fun s =>
      let e := s.energies
      let band := if s.estList.isEmpty then (0xFFFF, 0xFFFF) else calBand s.est.ocv s.meanCore
      ret s (s.words ([0x80010, 0x80040, 0x80044, 0x80048] ++ (numbersFrom 0 16).map (fun i => 0x80060 + 4 * i) ++ [0x800A0, 0x800A4])
        ++ (s.rd F.EST_RESERVE_R_HIGH : Int) :: words64 s.qStrOut ++ [e.1, e.2, (band.1 : Int), (band.2 : Int)])

/-- ΔRser-based resistance growth of a cell (R234), as a fraction. -/
def State.growth (s : State) (i : Nat) : Rat :=
  let r := s.rserAt (1 / 2) 2500
  (r + (s.estCell i).dR / 1000000) / r

/-- Estimate quality of a cell (R242). -/
def State.estQuality (s : State) (i : Nat) : Nat :=
  match s.estRec i with
  | none => 3
  | some _ => if (s.estCell i).fresh then 2 else if (s.estCell i).openLoop then 1 else 0

/-- EST_CELL_READ (R242). -/
def execEstCellRead (h : Hdr) (first count : Nat) (s : State) : Out :=
  .next <| s.command 0x0402 rObserver h
    [(!s.cellOk first || !inR 1 64 count || decide (s.cells < first + count - 1), .range)]
    fun s => ret s ((numbersFrom first count).flatMap fun i =>
      match s.estRec i with
      | none => [0xFFFF, 0xFFFF, -32768, -32768, 0xFFFF] ++ words64 (-9223372036854775808) ++ [0xFFFF, 0xFFFF, -2147483648, 3]
      | some r =>
        let q := s.qr * (1 + r.kappa)
        [(satU 16 (ratRound (10000 * r.soc)) : Int), satU 16 (ratRound (100 * s.sigma i)), r.tc, r.ts,
         satU 16 (roundDiv (r.y.getD 1 0) 100)] ++ words64 (ratRound (q * 3600000000)) ++ [(satU 16 (ratRound (10000 * (1 + r.kappa))) : Int),
         satU 16 (ratRound (10000 * s.growth i)), clampI (-2147483647) 2147483647 (ratRound (s.estCell i).dR), s.estQuality i])

/-- EST_OCV_LOAD (R222, R223). -/
def execEstOcvLoad (h : Hdr) (table : List Byte) (s : State) : Out :=
  .next <| s.command 0x0403 rMaintainer h [(ocvParamBad table, .param), (ocvRangeBad table, .range)]
    fun s =>
      if (s.opOf 0x0403 0).isSome then .refuse .busy
      else .accept { s with est.ocvNext := table } 0 []

/-- EST_SET_RESERVE (R226). -/
def execEstSetReserve (h : Hdr) (base k rHigh : Nat) (s : State) : Out :=
  .next <| s.command 0x0404 rOperator h [(decide (1000 < base) || decide (255 < k) || decide (1000 < rHigh), .range)]
    fun s => .done (s.wrs [(F.EST_RESERVE_BASE, base), (F.EST_RESERVE_K, k), (F.EST_RESERVE_R_HIGH, rHigh)]) []

/-- EST_SET_RATE (R218). -/
def execEstSetRate (h : Hdr) (rate : Nat) (s : State) : Out :=
  .next <| s.command 0x0405 rMaintainer h [(decide (1 < rate), .range)]
    fun s =>
      if (s.opOf 0x0405 0).isSome then .refuse .busy else .accept (s.wrKeep F.EST_CFG_RATE rate) 0 []

/-- EST_SET_LIMITS (R241): voltages in 100 µV, currents in A, temperatures in °C. -/
def execEstSetLimits (h : Hdr) (vLo vHi peak cont : Nat) (tMax tMinChg : Int) (s : State) : Out :=
  .next <| s.command 0x0406 rMaintainer h
    [(decide (0xFFFF < vLo) || decide (0xFFFF < vHi) || decide (0xFFFF < peak) || decide (0xFFFF < cont) ||
      decide (tMax < -128) || decide (127 < tMax) || decide (tMinChg < -128) || decide (127 < tMinChg) ||
      s.limitsBad vLo vHi peak cont, .range)]
    fun s => .done (((((((s.wrKeep F.EST_VLIM_V_LO vLo).wrKeep F.EST_VLIM_V_HI vHi).wrKeep F.EST_ILIM_PEAK_A peak).wrKeep
      F.EST_ILIM_CONT_A cont).wrKeep F.EST_TLIM_TMAX (ofSigned 8 tMax)).wrKeep F.EST_TLIM_TMIN_CHG (ofSigned 8 tMinChg))) []

/-- EST_CELL_RESET (R243). -/
def execEstCellReset (h : Hdr) (cell : Nat) (s : State) : Out :=
  .next <| s.command 0x0407 rMaintainer h [(!s.cellOk cell, .range)]
    fun s =>
      let clear (r : SeInst) : SeInst := { r with x := (r.x.set 3 0).set 7 0 }
      let s1 := (s.setEst cell { counter := s.cim.charge, fresh := false }).setLoaded cell clear
      let s2 := match s1.estRec cell with
        | none => s1
        | some r => s1.setRec cell (clear r)
      .done (s2.detail true (leBytes 2 cell)) []

/-- EST_LEARN_WRITE (R236): OK at WRITE_DONE; a write that waits behind another, or for the hold-up, is pending. -/
def execEstLearnWrite (h : Hdr) (s : State) : Out :=
  .next <| s.command 0x0408 rMaintainer h []
    fun s =>
      if s.est.pending || s.isOn F.EST_STATUS_WRITE_DEFERRED then .refuse .busy
      else .accept s.learnTrigger (if s.est.writing.isSome then 1 else 0) []

/-- EST_CHEM_LOAD (R224). -/
def execEstChemLoad (h : Hdr) (block : List Byte) (s : State) : Out :=
  .next <| s.command 0x0409 rMaintainer h [(chemParamBad block, .param), (chemRangeBad block, .range)]
    fun s =>
      if (s.opOf 0x0409 0).isSome then .refuse .busy
      else .accept { s with est.chemNext := block } 0 []

/-! ### Refresh and reference events (R216, R217, R221, R229, R230, R232, R239) -/

/-- σ_ref and the new s that a reference event gives a cell (R230): 1 full charge, 2 knee at the SOC `knee`, 3 quasi-rest; `v` its averaged
voltage in µV.  Without a slope a quasi-rest gives nothing. -/
def State.refValue (s : State) (ev : Nat) (knee v : Rat) (r : SeInst) : Option (Rat × Rat) :=
  match ev with
  | 1 =>
    let ir := s.rserAt r.soc r.tc * (if s.currentValid then s.current else 0)
    some (1 / 2, ocvInverse s.est.ocv ((v - ir) / 100) r.tc)
  | 2 => some (1, knee)
  | _ =>
    let x := ocvInverse s.est.ocv ((v - r.hyst * s.hystAt r.soc r.ts) / 100) r.ts
    let slope := ocvSlope s.est.ocv x r.ts / 1000
    if 0 < slope then some (max (1 / 2) (2 / slope), x) else none

/-- The capacity sample between two reference events (R232): the new κ, and the flag it sets. -/
def capSample (qr qi kap : Rat) (a : RefPoint) (b : Rat) (sigB dq bleed : Rat) : Option (Rat × Bool) :=
  if 1 < a.sig ∨ 1 < sigB ∨ |b - a.soc| < 2 / 5 ∨ a.secs < 100 * a.gated then none
  else
    let q := (dq - bleed) / (b - a.soc)
    if qi / 20 < |q - qi| then some (kap, false)
    else some (kap + max (-1 / 200) (min (1 / 200) ((q / qr - 1 - kap) / 4)), true)

/-- A cell whose input is gated (R221); while slot 0 is parked, its averaged value is not VALID. -/
def State.cellGated (s : State) (i : Nat) (r : SeInst) : Bool :=
  if s.est.parked then (s.cellAvg i).quality != 0 || (s.cellAvg i).mean.isNone else r.gated

/-- A reference event on one cell; it is applied only if its σ_ref lies below σ_i, and never to a gated cell. -/
def State.refCell (s : State) (ev i : Nat) (knee : Rat) : State × Bool :=
  match s.estRec i, (s.cellAvg i).mean with
  | some r, some u =>
    let c := s.estCell i
    match s.refValue ev knee u r with
    | none => (s, false)
    | some v =>
      if s.cellGated i r || !decide (v.1 < s.sigma i) then (s, false)
      else
        let soc := max (-1 / 10) (min (11 / 10) v.2)
        let sample := match c.ref with
          | some a => capSample s.qr (s.qr * (1 + r.kappa)) r.kappa a soc v.1 (ahOf (s.cim.charge - a.counter)) (c.bledAll - a.bleed)
          | none => none
        let kap := match sample with | some (k, _) => k | none => r.kappa
        let s1 := s.setRec i { r with x := (r.x.set 0 (q30 soc)).set 7 (clampI (-536870912) 536870912 (q30 kap)) }
        let s2 := s1.setEst i { c with sigRef := v.1, thr := 0, t := 0, fresh := false, needOcv := false
                                       ref := some { soc := soc, sig := v.1, counter := s.cim.charge, bleed := c.bledAll } }
        (match sample with
         | some (_, true) => s2.flag Fl.EST_EVENT_CAP_UPDATE { detail := leBytes 2 i }
         | some (_, false) => s2.flag Fl.EST_EVENT_CAP_OUTLIER { detail := leBytes 2 i }
         | none => s2, true)
  | _, _ => (s, false)

/-- A FROZEN or CORRUPT instance is restored from the learned state (R216, R219). -/
def State.restoreInst (s : State) (i : Nat) : State :=
  let n := s.restoreCell s.newestRec i
  (s.setRec i n.1).setEst i n.2

/-- The slow states of one cell and what EST keeps of it, over the second since its last refresh (R217, R221, R229, R233, R239). -/
def State.slowStates (s : State) (i : Nat) (r : SeInst) : State :=
  let c := s.estCell i
  let qr := s.qr
  let dq := ahOf (s.cim.charge - c.counter)
  let own := (dq - c.bled) / (qr * (1 + r.kappa))
  let soc0 := r.soc + own - (if s.est.parked then 0 else dq / qr) + (if s.est.parked then 0 else Tbl.get 0 s.est.addQ i / qr)
  let soc1 := match c.needOcv, (s.cellAvg i).mean with
    | true, some v => ocvInverse s.est.ocv (v / 100) r.ts
    | _, _ => soc0
  let qh := (u32 s.est.ocv 2200 : Rat) / 1000
  let sgn : Rat := if dq < 0 then -1 else 1
  let h1 := if dq = 0 then r.hyst else r.hyst + (sgn - r.hyst) * (1 - expNeg (|dq| / qh))
  let p : Rat := if c.pN = 0 then 0 else (c.pSum : Rat) / c.pN / 1000000000
  let th := coreStep (chemThermal s.est.chem) p ((s.tCool (segOfCell i) : Rat) / 100) ((s.cellNtc i).map fun t => (t : Rat) / 100)
    ((r.tc : Rat) / 100 + c.tcRest, (r.ts : Rat) / 100 + c.tsRest)
  let tc := clampI (-5000) 15000 (ratRound (100 * th.1))
  let ts := clampI (-5000) 15000 (ratRound (100 * th.2))
  let x := (((r.x.set 0 (clampI (-107374182) 1181116006 (q30 soc1))).set 3 (clampI (-1073741824) 1073741824 (q30 h1))).set 4 tc).set 5 ts
  let gated := s.cellGated i r
  let g := if gated then c.gatedS + 1 else 0
  let f := if gated then 0 else c.freeS + 1
  let cur : Rat := if s.currentValid then s.current else 0
  let learn := !gated && decide (100 * qr ≤ |cur|) && decide (1000 ≤ r.tc) && decide (r.tc ≤ 4500)
  let u : Rat := r.x.getD 6 0
  let c1 : EstCell := { c with
    counter := s.cim.charge, bled := 0, thr := c.thr + |dq| + c.bled, t := c.t + 1 / 3600
    gatedS := g, freeS := f, openLoop := decide (60 < g) || (c.openLoop && decide (f < 60))
    needOcv := c.needOcv && (s.cellAvg i).mean.isNone
    ref := c.ref.map fun a => { a with secs := a.secs + 1, gated := a.gated + if gated then 1 else 0 }
    uI := if learn then c.uI + u * cur else c.uI, ii := if learn then c.ii + cur * cur else c.ii
    secs := if learn then c.secs + 1 else c.secs, pSum := 0, pN := 0
    tcRest := if inR 0 20000 (tc + 5000).toNat then th.1 - (tc : Rat) / 100 else 0, tsRest := th.2 - (ts : Rat) / 100 }
  let s1 := (s.setRec i { r with x := x }).setEst i c1
  { s1 with est.addQ := Tbl.del s1.est.addQ i }

/-! #### The conditions of R230, judged once a second for each cell -/

/-- The highest cell lies within 10 mV of its upper limit while the string charges. -/
def State.atTop (s : State) : Bool :=
  s.currentValid && decide (0 < s.current) &&
  decide (((100 * s.rd F.EST_VLIM_V_HI : Nat) : Rat) - 10000 ≤ ratMax (s.cellList.filterMap fun i => (s.cellAvg i).mean))

/-- |I| in mA where the current is valid. -/
def State.absCurrent (s : State) : Option Nat := if s.currentValid then some s.current.natAbs else none

/-- The knee's steps of 0.5 % SOC (R230): while |I| lies between Q_r / 20 and Q_r / 2 per hour and varies by less than 10 %, each step
gives dV/dQ in µV per 0.1 % SOC; otherwise the run starts anew. -/
def kneeRun (c : EstCell) (qr soc v : Rat) (a : Option Nat) : EstCell :=
  match a with
  | none => { c with knee := none, peaks := [] }
  | some m =>
    if (m : Rat) < 50 * qr ∨ 500 * qr < m then { c with knee := none, peaks := [] }
    else
      let new : KneeStep := { soc := soc, volt := v, lo := m, hi := m }
      match c.knee with
      | none => { c with knee := some new, peaks := [] }
      | some k =>
        let k1 : KneeStep := { k with lo := min k.lo m, hi := max k.hi m }
        if k1.hi ≤ 10 * (k1.hi - k1.lo) then { c with knee := some new, peaks := [] }
        else if |soc - k.soc| < 1 / 200 then { c with knee := some k1 }
        else { c with knee := some new, peaks := (((soc + k.soc) / 2, (v - k.volt) / (1000 * (soc - k.soc))) :: c.peaks).take 3 }

/-- A peak of dV/dQ within ±3.0 % of a tabled knee and above its minimum height, found with the step after it. -/
def kneeFound (ocv : List Byte) (l : List (Rat × Rat)) : Option Rat :=
  match l with
  | [x, y, z] =>
    if x.2 < y.2 ∧ z.2 < y.2 then
      ((ocvKnees ocv).find? fun k => decide (|y.1 - k.1| ≤ 3 / 100) && decide ((k.2 : Rat) < y.2)).map (·.1)
    else none
  | _ => none

/-- The counters of a cell's conditions; the event that falls due, 0 none, with the knee's SOC. -/
def State.watchCell (s : State) (top : Bool) (i : Nat) : State × Nat × Rat :=
  match s.estRec i with
  | none => (s, 0, 0)
  | some r =>
    let c := s.estCell i
    let a := s.absCurrent
    let below (x : Rat) : Bool := match a with | some m => decide ((m : Rat) < x) | none => false
    let cv := if top then c.cvS + 1 else 0
    let rest := if below (10 * s.qr) then c.restS + 1 else 0
    let c1 : EstCell := match (s.cellAvg i).mean with
      | some v => kneeRun c s.qr r.soc v a
      | none => { c with knee := none, peaks := [] }
    let knee := if c1.peaks = c.peaks then none else kneeFound s.est.ocv c1.peaks
    let full := decide (60 ≤ cv) && below (50 * s.qr) && !c.fullDone
    let s1 := s.setEst i { c1 with cvS := cv, restS := rest, fullDone := top && (c.fullDone || full) }
    if full then (s1, 1, 0)
    else match knee with
      | some k => (s1, 2, k)
      | none => if rest = 1200 then (s1, 3, 0) else (s1, 0, 0)

/-- One cell's refresh (R216, R217, R221, R230): its slow states, then a reference event that falls due; the answer is the kind of the event
applied.  No refresh is issued while a reload of slot 0 is under way (R218). -/
def State.refreshCell (s : State) (top : Bool) (i : Nat) : State × Nat :=
  match s.estRec i with
  | none => (s, 0)
  | some r =>
    if (s.seSlot 0).committing then (s, 0)
    else if r.frozen || r.corrupt then (s.restoreInst i, 0)
    else
      let w := (s.slowStates i r).watchCell top i
      if w.2.1 = 0 then (w.1, 0)
      else
        let e := w.1.refCell w.2.1 i w.2.2
        (e.1, if e.2 then w.2.1 else 0)

/-- EST_REFRESH (R216, R217, R230): the instances of one window, each once a second; each kind of reference event that was applied sets the
flag, with a record naming the kind and the number of cells. -/
def execEstRefresh (cells : List Nat) (s : State) : Out :=
  let top := s.atTop
  let r := cells.foldl (fun a i =>
    if a.1.cellOk i then let x := a.1.refreshCell top i; (x.1, if x.2 = 0 then a.2 else a.2 ++ [x.2]) else a) (s, ([] : List Nat))
  let note (s : State) (ev : Nat) : State :=
    let n := (r.2.filter fun k => k == ev).length
    if n = 0 then s
    else ({ s with est.full := s.est.full || ev == 1 } : State).flag Fl.EST_EVENT_REFERENCE { system := true, detail := ev :: leBytes 2 n }
  let s1 := [1, 2, 3].foldl note r.1
  .next (s1.wr F.EST_STATUS_GATED (s1.cellList.filter fun i => (s1.estCell i).openLoop).length)

/-- EST_RESISTANCE_REGRESSION (R233): each hour, from at least 600 seconds. -/
def execEstResistanceRegression (s : State) : Out :=
  let one (s : State) (i : Nat) : State :=
    let c := s.estCell i
    let c1 : EstCell := { c with uI := 0, ii := 0, secs := 0 }
    if c.secs < 600 ∨ c.ii = 0 then s.setEst i c1
    else s.setEst i { c1 with dR := c.dR + (1000000 * c.uI / c.ii - c.dR) / 5 }
  .next (s.cellList.foldl one s)

/-! ### String quantities and the reported SOC (R225–R228, R231, R234) -/

/-- The computation of R227: one step of the reported SOC in %. -/
def socStep (rep t dq span iMean c200 act rest : Rat) : Rat :=
  let rp := rep + 100 * dq / span
  let e := t - rp
  let cl (lo hi x : Rat) : Rat := max lo (min hi x)
  let rp1 := if iMean < -c200 then rp + cl (-act) 0 e else if c200 < iMean then rp + cl (-act) act e else rp + cl (-rest) rest e
  let rp2 := if iMean < -c200 ∧ rep < rp1 then rep else rp1
  cl 0 100 rp2

/-- String quantities and the reported SOC, formed every 100 ms. -/
def State.socUpdate (s : State) : State :=
  let l := s.estList
    if l.isEmpty then
      ({ s with est.prev := s.cim.charge, est.iSum := 0, est.iN := 0, est.qStr := 0, est.raw := 0, est.rLow := 0 } : State).wrs
        ([F.EST_SOC_REPORTED, F.EST_SOC_RAW, F.EST_SIGMA_NOW_SIGMA, F.EST_SIGMA_NOW_R_LOW, F.EST_SOH_SOH, F.EST_SOH_RG].map fun f => (f, markU 16))
    else
      let qr := s.qr
      let lim (x : Rat) : Rat := max 0 (min 1 x)
      let q (r : SeInst) : Rat := qr * (1 + r.kappa)
      let dd := ratMin (l.map fun p => lim p.2.soc * q p.2)
      let cc := ratMin (l.map fun p => (1 - lim p.2.soc) * q p.2)
      let qs := dd + cc
      let d := s.draw
      let raw : Rat := if qs = 0 then (d.1 : Rat) else dd / qs
      let s0 := if qs = 0 then d.2 else s
      let sig := ratMax (l.map fun p => s.sigma p.1)
      let base : Rat := (s.rd F.EST_RESERVE_BASE : Rat) / 100
      let k : Rat := (s.rd F.EST_RESERVE_K : Rat) / 10
      let lo := min (base + k * sig) 10
      let hi : Rat := (s.rd F.EST_RESERVE_R_HIGH : Rat) / 100
      let t := max 0 (min 100 (100 * (100 * raw - lo) / (100 - lo - hi)))
      let dq := ahOf (s.cim.charge - s.est.prev)
      let im : Rat := if s.est.iN = 0 then 0 else (s.est.iSum : Rat) / (1000 * s.est.iN)
      let act : Rat := (s.rd F.EST_SLEW_ACTIVE : Rat) / 10 / 36000
      let rest : Rat := (s.rd F.EST_SLEW_REST : Rat) / 10 / 36000
      let span := qs * (100 - lo - hi) / 100
      let old := s.est.rep.getD t
      let stepped := if span = 0 then old else socStep old t dq span im (qr / 200) act rest
      let new := if s.est.full then 100 else if t = 0 ∧ im < -(qr / 200) then 0 else stepped
      let jump := (s.est.full || (decide (t = 0) && decide (im < -(qr / 200)))) && decide (1 < |new - old|)
      let un := s.isOn F.EST_STATUS_SOC_UNCERTAIN
      let up := decide ((s.rd F.EST_SIGMA_THRESH : Rat) / 10 < sig)
      let un1 := if un then !decide (sig < (s.rd F.EST_SIGMA_CLEAR : Rat) / 10) else up
      let s1 : State := { s0 with est.rep := some new, est.target := some t, est.prev := s.cim.charge, est.iSum := 0, est.iN := 0
                                  est.full := false, est.qStr := qs, est.raw := raw, est.rLow := lo / 100 }
      let s2 := s1.wrs [(F.EST_SOC_REPORTED, satU 16 (ratRound (100 * new))), (F.EST_SOC_RAW, satU 16 (ratRound (10000 * raw))),
        (F.EST_SIGMA_NOW_SIGMA, satU 16 (ratRound (100 * sig))), (F.EST_SIGMA_NOW_R_LOW, satU 16 (ratRound (100 * lo))),
        (F.EST_SOH_SOH, satU 16 (ratRound (10000 * ratMin (l.map fun p => 1 + p.2.kappa)))),
        (F.EST_SOH_RG, satU 16 (ratRound (10000 * ratMax (l.map fun p => s.growth p.1)))),
        (F.EST_STATUS_RESERVE_CAPPED, if lo = 10 then 1 else 0), (F.EST_STATUS_SOC_UNCERTAIN, if un1 then 1 else 0),
        (F.EST_STATUS_CAL_REST_ADVISED, if un1 then 1 else 0)]
      let s3 := if jump then s2.flag Fl.EST_EVENT_SOC_JUMP {} else s2
      if un1 && !un then s3.flag Fl.EST_EVENT_SOC_UNCERTAIN {} else s3

/-- A new table, a new chemistry block or another rate waits, and no reload is under way (R218). -/
def State.estWaits (s : State) : Bool :=
  !(s.seSlot 0).committing && !s.est.parked &&
  (!s.est.ocvNext.isEmpty || !s.est.chemNext.isEmpty || s.rd F.EST_CFG_RATE != s.rd F.EST_CFG_RATE_ACTIVE)

/-- EST_SOC_UPDATE (R225–R229, R231, R234): every 100 ms; a reload that waits begins (R218). -/
def execEstSocUpdate (s : State) : Out :=
  let s1 := s.socUpdate
  .next (if s1.estWaits then s1.estApply else s1)

/-! ### Power limits (R240) -/

/-- The largest number below `2 ^ n` that meets a condition which holds below some bound. -/
def largest (p : Nat → Bool) : Nat → Nat → Nat
  | 0, a => a
  | n + 1, a => largest p n (if p (a + 2 ^ n) then a + 2 ^ n else a)

/-- V̂_i in µV at a horizon in s with a current in mA (R240, code 1). -/
def State.vHat (s : State) (i : Nat) (r : SeInst) (th : Nat) (ma : Int) : Rat :=
  let q := s.qr * (1 + r.kappa)
  let soc1 := r.soc + (ma : Rat) * th / (3600000 * q)
  let ea := expNeg ((th : Rat) / s.tauA r.soc r.tc)
  let eb := expNeg ((th : Rat) / s.tauB r.soc r.tc)
  s.ocvAt soc1 r.tc + r.hyst * s.hystAt soc1 r.tc + (r.x.getD 1 0 : Rat) * ea + s.raAt r.soc r.tc * (1 - ea) * ma +
    (r.x.getD 2 0 : Rat) * eb + s.rbAt r.soc r.tc * (1 - eb) * ma + (s.rserAt r.soc r.tc + (s.estCell i).dR / 1000000) * ma

/-- The cell's predicted voltage lies at or below V_hi, or at or above V_lo. -/
def State.vOk (s : State) (hi : Bool) (th : Nat) (ma : Int) (p : Nat × SeInst) : Bool :=
  let v := s.vHat p.1 p.2 th ma
  if hi then decide (v ≤ (100 * s.rd F.EST_VLIM_V_HI : Nat)) else decide (((100 * s.rd F.EST_VLIM_V_LO : Nat) : Rat) ≤ v)

/-- The cell's predicted core temperature stays below TMAX (code 5). -/
def State.tOk (s : State) (th ma : Nat) (p : Nat × SeInst) : Bool :=
  let r := s.rserAt p.2.soc p.2.tc / 1000 + (s.estCell p.1).dR / 1000000000
  let heat := (ma : Rat) * ma / 1000000 * r
  let c := s.estCell p.1
  let t := coreAfter (chemThermal s.est.chem) heat ((s.tCool (segOfCell p.1) : Rat) / 100) th
    ((p.2.tc : Rat) / 100 + c.tcRest, (p.2.ts : Rat) / 100 + c.tsRest)
  decide (t.1 < (s.rdI F.EST_TLIM_TMAX : Int))

/-- One limit: magnitude in mA, binding constraint, and the cell that binds it (0 none). -/
def State.oneLimit (s : State) (l : List (Nat × SeInst)) (chg : Bool) (th : Nat) : Nat × Nat × Nat :=
  let sign : Int := if chg then 1 else -1
  let room := max 0 (if chg then 1 - s.rHigh - s.est.raw else s.est.raw - s.est.rLow)
  let reserve := (room * s.est.qStr * 3600000 / th).floor.toNat
  let rating := 1000 * s.rd (if th = 600 then F.EST_ILIM_CONT_A else F.EST_ILIM_PEAK_A)
  let slc := if s.safe.blockA.isEmpty then rating else 950 * pSlcMax s.safe.blockA
  let volts := l.filterMap fun p => s.cellVolt p.1
  let zero :=
    if chg then s.rd F.EST_SOC_REPORTED == 10000 || volts.any (fun v => decide ((100 * s.rd F.EST_VLIM_V_HI : Nat) ≤ v))
    else s.rd F.EST_SOC_REPORTED == 0 || volts.any (fun v => decide (v ≤ (100 * s.rd F.EST_VLIM_V_LO : Nat)))
  let cold := chg && l.any fun p => decide (p.2.tc < 100 * s.rdI F.EST_TLIM_TMIN_CHG)
  let vMax := if l.all (s.vOk chg th 0) then largest (fun n => l.all (s.vOk chg th (sign * n))) 27 0 else 0
  let tMax := 100 * (if l.all (s.tOk th 0) then largest (fun n => l.all (s.tOk th (100 * n))) 20 0 else 0)
  let all : List (Nat × Nat) := [(vMax, 1), (reserve, 2), (rating, 3), (slc, 4), (tMax, 5)] ++
    (if cold then [(0, 6)] else []) ++ (if zero then [(0, 7)] else [])
  let least := all.foldl (fun a b => if b.1 < a.1 then b else a) (vMax, 1)
  -- at the largest current the other bound of EST_VLIM must hold as well, or no current meets every constraint
  let best := if l.all (s.vOk (!chg) th (sign * least.1)) then least else (0, 1)
  let cell := if best.2 = 1 then ((l.find? fun p => !s.vOk chg th (sign * (best.1 + 1)) p || !s.vOk (!chg) th (sign * least.1) p).map (·.1)).getD 0
    else if best.2 = 5 then ((l.find? fun p => !s.tOk th (best.1 + 100) p).map (·.1)).getD 0 else 0
  (best.1, best.2, cell)

/-- Store one limit with its power: I_lim × ΣV̂ at the horizon (R240). -/
def State.putLimit (s : State) (l : List (Nat × SeInst)) (chg : Bool) (h th : Nat) : State :=
  let r := s.oneLimit l chg th
  let ma : Int := if chg then r.1 else -(r.1 : Int)
  let v := (l.map fun p => s.vHat p.1 p.2 th ma).sum
  let w := ratRound ((ma : Rat) * v / 1000000000)
  let why := if chg then F.EST_LIMIT_WHY_CHG else F.EST_LIMIT_WHY_DIS
  let old := s.rd why
  let s1 := ((s.wr (if chg then F.EST_ICHG_MA h else F.EST_IDIS_MA h) (satS 32 ma)).wr (if chg then F.EST_PCHG_W h else F.EST_PDIS_W h)
    (satS 32 w)).wr why (old - old / 16 ^ h % 16 * 16 ^ h + r.2.1 * 16 ^ h)
  if h = 1 then s1.wr (if chg then F.EST_LIMIT_CELL_CHG_CELL else F.EST_LIMIT_CELL_DIS_CELL) r.2.2 else s1

/-- Slot 0 has stepped within the last second, or R220 applies (R240, code 8). -/
def State.estFresh (s : State) : Bool :=
  s.est.parked || (s.seEnabled 0 && (s.seInsts 0).any fun r => decide (s.plumbIdx ≤ r.stepIdx + 4000))

def horizons : List (Nat × Nat) := [(0, 2), (1, 10), (2, 60), (3, 600)]

/-- EST_LIMITS (R240): every 100 ms. -/
def execEstLimits (s : State) : Out :=
  .next <|
    if s.estFresh then
      let l := s.estList
      horizons.foldl (fun s h => (s.putLimit l true h.1 h.2).putLimit l false h.1 h.2) s
    else s.wrs ([(F.EST_LIMIT_WHY_CHG, 0x8888), (F.EST_LIMIT_WHY_DIS, 0x8888), (F.EST_LIMIT_CELL_CHG_CELL, 0), (F.EST_LIMIT_CELL_DIS_CELL, 0)] ++
      horizons.flatMap fun h => [(F.EST_ICHG_MA h.1, 0), (F.EST_IDIS_MA h.1, 0), (F.EST_PCHG_W h.1, 0), (F.EST_PDIS_W h.1, 0)])

/-! ### Slot 0 at rest (R220) -/

/-- EST_SLOT0_PARK (R220): at rest for 60 s with the string open, and PWR_LAT_TOL permits a state deeper than P1. -/
def execEstSlot0Park (s : State) : Out :=
  .next <|
    if s.closed || s.safe.closing ≠ .idle || !s.seEnabled 0 || s.est.parked || decide (powerFloor s.mode (s.rd F.PWR_LAT_TOL_TOL_US) ≤ 1) ||
       s.cellList.any (fun i => decide ((s.estCell i).restS < 60)) then s
    else ({ s with est.parked := true, est.carried := s.seInsts 0, est.load := none, est.readAt := none } : State).seDisable 0

/-! ### Learned-state writes (R236, R237) -/

/-- A field other than COUNTER, TAI and OPTIME differs from the newest record (R236). -/
def LearnRec.differs (a b : LearnRec) : Bool :=
  { a with gen := 0, counter := 0, tai := 0, opMin := 0, valid := false, crc := 0 } != { b with gen := 0, counter := 0, tai := 0, opMin := 0, valid := false, crc := 0 }

/-- The Change trigger (R236): κ by 0.002, ΔRser by 0.2 % of Rser(50 %, 25 °C), or σ lowered by 0.2 %. -/
def State.learnChanged (s : State) (old new : LearnRec) : Bool :=
  let r := 2000 * s.rserAt (1 / 2) 2500
  decide (new.sigma + 20 < old.sigma) || (old.cells.zip new.cells).any fun p =>
    decide (2147483 < (p.1.2.1 - p.2.2.1).natAbs) || decide (r < |((p.1.2.2.1 - p.2.2.2.1 : Int) : Rat)|)

/-- LEARN_WRITE_HOURLY (R236): the Hourly and Change triggers, judged on the time since the last write. -/
def execLearnWriteHourly (s : State) : Out :=
  .next <|
    let age := s.time.count - s.est.lastWrite
    let new := s.learnRec
    match s.newest with
    | none => s.learnTrigger
    | some (_, old) =>
      if (900000000000 ≤ age ∧ old.differs new = true) ∨ (15000000000 ≤ age ∧ s.learnChanged old new = true) then s.learnTrigger else s

/-- A write ends: the read-back agrees, and the target gets its mark; or it disagrees.  A held write follows (R236, R237). -/
def State.learnEnd (s : State) (ok : Bool) : State :=
  match s.est.writing with
  | none => s
  | some (t, r) =>
    let s1 : State := { s with est.writing := none }
    let s2 :=
      if ok then
        let w : LearnRec := { r with valid := true }
        let s2 : State := if t = 0 then { s1 with est.slotA := w } else { s1 with est.slotB := w }
        let s3 : State := if s2.recorder.mirrorHeld then s2 else { s2 with est.mirror := w }
        ((s3.wrs [(F.EST_STATUS_WRITE_DEFERRED, 0), (F.EST_STATUS_SLOT, t), (F.EST_LEARN_GEN_GENERATION, r.gen)]).flag
          Fl.EST_EVENT_WRITE_DONE {}).finish 0x0408 0 .ok
      else (s1.flag Fl.EST_EVENT_WRITE_FAIL { system := true, status := .internal }).finish 0x0408 0 .internal
    if s2.est.pending then
      let s4 : State := { s2 with est.pending := false, hrt.ops := s2.hrt.ops.map fun o => if o.opcode = 0x0408 then { o with key := 0 } else o }
      s4.learnTrigger
    else s2

/-- WRITE_DONE (R237). -/
def execWriteDone (ok : Bool) (s : State) : Out := .next (s.learnEnd ok)

/-- A trigger whose write is carried to its end before what follows (R236, R61, R507): a write in progress, then the new one. -/
def State.learnNow (s : State) : State := (s.learnTrigger.learnEnd true).learnEnd true

/-! ### Balancing duties (R148) -/

/-- The latest averaged value of a cell that was VALID and of class A or B, in µV. -/
def State.balVolt (s : State) (i : Nat) : Option Rat := (s.cellAvg i).volt

/-- BAL_DUTY_RECOMPUTE (R148): once a second. -/
def execBalDutyRecompute (s : State) : Out :=
  .next <|
    match s.bal.campaign with
    | none => s
    | some c0 =>
      let c : Campaign := { c0 with age := c0.age + 1 }
      let timeUp := decide (0 < c.limit) && decide (c.limit ≤ c.age)
      let put (c : Campaign) (w : List (Nat × Nat)) (done : Bool) : State :=
        let s1 : State := { s with bal.campaign := some c, bal.want := w }
        if done || timeUp then s1.endCampaign .ok else s1
      match c.kind with
      | 1 =>
        let vs := s.cellList.filterMap fun i => (s.balVolt i).map fun v => (i, v)
        let vt : Rat := if c.target = 0 then ratMin (vs.map (·.2)) else 100 * c.target
        let top := vt + 100 * c.deadband
        let w := vs.map fun p => (p.1, if top < p.2 then 64 else if p.2 ≤ vt then 0 else Tbl.get 0 s.bal.want p.1)
        let quiet := if vs.any (fun p => decide (top < p.2)) then 0 else c.quiet + 1
        put { c with quiet := quiet } w (decide (60 ≤ quiet))
      | 2 =>
        let l := s.estList
        if l.isEmpty then put c [] false
        else
          let low := ratMin (l.map fun p => p.2.soc)
          let q (r : SeInst) : Rat := (r.soc - low) * (s.qr * (1 + r.kappa))
          let qm := ratMax (l.map fun p => q p.2)
          let w := if qm = 0 then [] else l.map fun p => (p.1, (ratRound (64 * q p.2 / qm)).toNat)
          put c w (l.all fun p => decide (10000 * (p.2.soc - low) < c.deadband))
      | _ => put c s.bal.want false

end Sys2Proof.Machine
end

