-- ==== Sys2Proof/Machine/Cim.lean ====
section
/-! DEFINITION. Current and Insulation Measurement (R151–R172): the charge counter, the Hall cross-check, string
voltage and the insulation monitor. -/

namespace Sys2Proof.Machine

/-! ### The bank's candidate and the markers (R165, R169) -/

/-- The lowest closed follower of the bank (R169). -/
def State.lowestFollower (s : State) : Bool :=
  s.bankPos != 0 && (numbersFrom 1 7).all fun p => decide (s.bankPos ≤ p) || s.rd F.BANK_STATUS_CLOSED / 2 ^ p % 2 == 0

/-! ### Commands (R172) -/

/-- CIM_STATUS (R172). -/
def execCimStatus (h : Hdr) (s : State) : Out :=
  .next <| s.command 0x020A rObserver h []
    fun s => ret s (s.words [0x60010, 0x60014, 0x60018, 0x6001C, 0x60020, 0x60030, 0x60034, 0x60040, 0x60044, 0x60048, 0x6004C, 0x60050])

/-- ISO_MEASURE_NOW (R172): abandon the cycle in progress and start one. -/
def execIsoMeasureNow (h : Hdr) (s : State) : Out :=
  .next <| s.command 0x020B rMaintainer h []
    fun s =>
      if s.isoInjects then .done { s with cim.positive := true, cim.firstHalf := none, cim.discards := 0 } []
      else .refuse .busy

/-- ISO_SET_THRESH (R172). -/
def execIsoSetThresh (h : Hdr) (warn alarm : Nat) (s : State) : Out :=
  .next <| s.command 0x020C rOperator h [(!inR 10 50000 warn || !inR 10 50000 alarm || decide (warn < alarm), .range)]
    fun s => .done ((s.wrKeep F.CIM_ISO_CFG_WARN_KOHM warn).wrKeep F.CIM_ISO_CFG_ALARM_KOHM alarm) []

/-! ### Charge counter (R155–R159) -/

/-- The counter as the registers show it: the integer part rounded as R5 (R155). -/
def State.mirrorCharge (s : State) : State :=
  s.wr64 F.CIM_CHARGE_LO_UC F.CIM_CHARGE_HI_UC (ofSigned 64 (roundDiv s.cim.charge two32))

/-- Save the counter on the SFC and, with the controller card present, in MRAM (R157). -/
def State.saveCharge (s : State) : State :=
  let g := max s.cim.sfc.gen s.cim.mram.gen + 1
  let c : ChargeSave := { value := s.cim.charge, gen := g, valid := true }
  if s.pwr.ctl then { s with cim.sfc := c, cim.mram := c } else { s with cim.sfc := c }

/-- CHARGE_COUNTER_SAVE (R157): every 60 s and at each mode transition. -/
def execChargeCounterSave (s : State) : Out := .next s.saveCharge

/-! ### Hall sensor and cross-check (R160–R162, R291) -/

/-- A Hall sample in 0.5 mA: a code of 12 bits is 5 mV, 10 V is the full scale, and the parameter set gives the polarity (R160). -/
def State.hallHalf (s : State) (code : Int) : Int :=
  (if s.isOn F.CIM_HALL_PARAM_INVERT then -1 else 1) * code * (s.rd F.CIM_HALL_PARAM_FS_A : Int)

/-- A code of the Hall converter (R160). -/
def hallCode (c : Int) : Int := clampI (-2048) 2047 c

/-- HALL_FAULT (R161): what has held for 1 ms: the output in mV, the supply currents in mA, and for 10 s the span of the codes and the
shunt current's movement in mA. -/
def execHallFault (mv : Int) (supPos supNeg span move : Nat) (s : State) : Out :=
  let stuck := decide (span ≤ 1) && decide (50 * s.rd F.CIM_HALL_PARAM_FS_A < move)
  .next <|
    if mv.natAbs ≤ 10200 ∧ inR 5 100 supPos = true ∧ inR 5 100 supNeg = true ∧ stuck = false then s
    else ((s.wr F.CIM_STATUS_HALL_FAULT 1).raiseCause .hallFault 2).flag Fl.CIM_EVENT_HALL_FAULT { stfP := true }

/-- Twice the mean shunt current of the last 100 ms in mA (R162). -/
def State.shuntMean2 (s : State) : Rat :=
  let l := s.cim.last100.filterMap id
  if l.isEmpty then 0 else 2 * (l.sum : Rat) / l.length

/-- XCHECK_COMPARE (R160, R162): every 1 ms the 100 ms means; `hallSum` is the sum of the 10 000 codes of the Hall converter, `code` the
latest one.  Beyond 2 % of full scale for 1 s sets XCHECK, 10 s within it ends the disagreement. -/
def execXcheckCompare (hallSum code : Int) (s : State) : Out :=
  let s0 := s.wrI F.CIM_HALL_CURRENT_MA (clampI (-2147483647) 2147483647 (roundDiv (s.hallHalf (hallCode code)) 2))
  .next <|
    if s0.safe.blockA.isEmpty then s0
    else
      let hall : Rat := (s0.hallHalf (clampI (-20480000) 20470000 hallSum) : Rat) / 10000
      let bad := decide ((40 * pHallFs s0.safe.blockA : Nat) < |s0.shuntMean2 - hall|)
      let s1 : State := { s0 with cim.xFor := s0.cim.xFor + 1 }
      if bad then
        let n := s1.cim.xBad + 1
        let s2 : State := { s1 with cim.xBad := n, cim.xGood := 0 }
        if n = 1000 ∧ s2.isOn F.SAFE_STATUS_XCHECK_ACTIVE = false then
          (({ s2 with cim.xFor := 0 } : State).wr F.SAFE_STATUS_XCHECK_ACTIVE 1).flag Fl.CIM_EVENT_XCHECK { system := true, stfP := true }
        else s2
      else
        let n := s1.cim.xGood + 1
        let s2 : State := { s1 with cim.xBad := 0, cim.xGood := n }
        if 10000 ≤ n then s2.wr F.SAFE_STATUS_XCHECK_ACTIVE 0 else s2

/-- XCHECK_CAUSE (R291): the disagreement has persisted XCHECK_S seconds after XCHECK was set. -/
def execXcheckCause (s : State) : Out :=
  .next (if s.isOn F.SAFE_STATUS_XCHECK_ACTIVE && decide (1000 * u8 s.safe.blockA 89 ≤ s.cim.xFor) then s.raiseCause .xcheck 1 else s)

/-! ### String voltage and power cards (R163, R168) -/

/-- CIM_VSTRING shows PSU-A's value, or PSU-B's while PSU-A is not in tolerance (R163). -/
def State.mirrorVstring (s : State) : State :=
  match (if s.isOn F.PWR_AUX_STATUS_PSU_A_OK then s.cim.vA else s.cim.vB) with
  | some v => s.wr F.CIM_VSTRING_MV (satS 32 v)
  | none => s.wr F.CIM_VSTRING_MV (markS 32)

/-- VSTRING_UPDATE (R163): each PSU's string voltage in mV, every 10 ms; a card without a value gives none. -/
def execVstringUpdate (a b : Option Int) (s : State) : Out :=
  .next ({ s with cim.vA := a, cim.vB := b } : State).mirrorVstring

/-- PSU_OUT_OF_TOLERANCE (R168, R28, R30): PSU-A, or PSU-B where `b`, leaves tolerance or is withdrawn. -/
def execPsuOutOfTolerance (b : Bool) (s : State) : Out :=
  let s1 := s.wr (if b then F.PWR_AUX_STATUS_PSU_B_OK else F.PWR_AUX_STATUS_PSU_A_OK) 0
  let s2 := (s1.spareTook 6 (if b then 1 else 0) (if b then 0 else 1)).exhaust 6
  let s3 : State := if b then s2 else { s2 with cim.listening := true, cim.positive := true, cim.firstHalf := none }
  .next s3.mirrorVstring.isoRole

/-- PSU_IN_TOLERANCE (R501, R505): the card is back, with serial number `serial`; action 5.  PSU-A listens before it
injects again (R170). -/
def execPsuInTolerance (b : Bool) (serial : Nat) (s : State) : Out :=
  let s1 := s.wr (if b then F.PWR_AUX_STATUS_PSU_B_OK else F.PWR_AUX_STATUS_PSU_A_OK) 1
  let key := if b then 3 else 2
  let old := Tbl.get 0 s1.recorder.serials key
  let s2 : State := { s1 with recorder.serials := Tbl.put s1.recorder.serials key serial }
  let s3 := if old = 0 ∨ old = serial then s2 else s2.detail true ([key, 0] ++ leBytes 8 old ++ leBytes 8 serial) .ok true true
  let s4 := if s3.isOn F.PWR_AUX_STATUS_PSU_A_OK && s3.isOn F.PWR_AUX_STATUS_PSU_B_OK then s3.restorePool 6 (if b then 1 else 0)
            else s3.sparing 6 5 (if b then 1 else 0) 0
  let s5 : State := if b then s4 else
    { s4.wr F.CIM_ISO_STATUS_SOURCE_PSU_B 0 with cim.listening := s4.isoMay, cim.positive := true, cim.firstHalf := none }
  .next s5.mirrorVstring.isoRole

/-! ### Insulation results (R164–R170) -/

/-- One threshold against a result (R167): results in a row below and above, and the state. -/
def thrStep (thr rp below above : Nat) : Nat × Nat :=
  (if rp < thr then below + 1 else 0, if 5 * thr < 4 * rp then above + 1 else 0)

/-- Judge a result against both thresholds (R167). -/
def State.isoJudge (s : State) (rp : Nat) : State :=
  let w := thrStep (s.rd F.CIM_ISO_CFG_WARN_KOHM) rp s.cim.belowWarn s.cim.aboveWarn
  let a := thrStep (s.rd F.CIM_ISO_CFG_ALARM_KOHM) rp s.cim.belowAlarm s.cim.aboveAlarm
  let s1 : State := { s with cim.belowWarn := w.1, cim.aboveWarn := w.2, cim.belowAlarm := a.1, cim.aboveAlarm := a.2 }
  let s2 := if 2 ≤ w.1 ∧ s1.isOn F.CIM_ISO_STATUS_WARN = false then (s1.wr F.CIM_ISO_STATUS_WARN 1).flag Fl.CIM_EVENT_ISO_WARN {}
            else if 2 ≤ w.2 then s1.wr F.CIM_ISO_STATUS_WARN 0 else s1
  let s3 := if 2 ≤ a.1 ∧ s2.isOn F.CIM_ISO_STATUS_ALARM = false then
              let s4 := (s2.wr F.CIM_ISO_STATUS_ALARM 1).flag Fl.CIM_EVENT_ISO_ALARM {}
              if s4.mode = mRUN ∧ s4.isOn F.CIM_ISO_CTRL_OPEN_ON_ALARM = true then s4.startOrderly mSTANDBY byCondition else s4
            else if 2 ≤ a.2 then s2.wr F.CIM_ISO_STATUS_ALARM 0 else s2
  s3.setReady

/-- One pole's share in kΩ within the range of R166; no value where the pole shows no voltage. -/
def poleShare (rp vs v : Int) : Option Nat :=
  if v = 0 then none else some (clampI 10 50000 (ratRound ((rp * vs : Int) / (v : Rat)))).toNat

/-- A share that the pole's voltage leaves open takes a free value in the range (R166). -/
def openShare (x : Option Nat) (free : Int) : Nat := x.getD (clampN 10 50000 free.natAbs)

/-- ISO_HALF_PERIOD_END (R164–R170): `dv` is the string voltage's change in mV/s, `rp` the total resistance in kΩ and
`ce` the capacitance in nF that the settled responses give, `vp` and `vn` the pole voltages in mV, `foreign` whether a
foreign square wave is heard. -/
def execIsoHalfPeriodEnd (dv : Int) (rp ce : Nat) (vp vn : Int) (foreign : Bool) (s : State) : Out :=
  .next <|
    if !s.isOn F.CIM_ISO_CTRL_ENABLE then s
    else if !s.isoMay then s.isoRole
    else if s.cim.listening || s.cim.foreign then
      if foreign then
        (({ s with cim.foreign := true, cim.listening := false } : State).isoMarker.flag Fl.CIM_EVENT_FOREIGN_INJ {}).isoRole
      else
        ((({ s with cim.listening := false, cim.foreign := false, cim.positive := true, cim.firstHalf := none } : State).wrB
          F.CIM_ISO_STATUS_SOURCE_PSU_B (!s.isOn F.PWR_AUX_STATUS_PSU_A_OK)).wr F.CIM_ISO_STATUS_ROLE 1).isoRole
    else if 5000 < dv.natAbs then
      let n := s.cim.discards + 1
      ({ s with cim.discards := n } : State).wrB F.CIM_ISO_STATUS_STALE (s.isOn F.CIM_ISO_STATUS_STALE || decide (10 ≤ n))
    else
      let s1 : State := { s with cim.discards := 0, cim.positive := !s.cim.positive }
      match s1.cim.firstHalf with
      | none => { s1 with cim.firstHalf := some (rp : Int) }
      | some _ =>
        let r := clampN 10 50000 rp
        let vs := vp + vn
        let split := decide (50000 ≤ vs)
        let half := clampN 1000 (1000 * max 1 (s1.rd F.CIM_ISO_CTRL_MAX_HALF_S)) (max 1000 (5 * r * ce / 1000))
        let d := s1.draw
        let s2 : State := { d.2 with cim.firstHalf := none, cim.half := half }
        let s3 := s2.wrs [(F.CIM_ISO_RP_VALUE, r), (F.CIM_ISO_CAP_VALUE, min (markU 32 - 1) ce),
          (F.CIM_ISO_RNEG_VALUE, if split then openShare (poleShare rp vs vp) d.1 else markU 32),
          (F.CIM_ISO_RPOS_VALUE, if split then openShare (poleShare rp vs vn) d.1 else markU 32),
          (F.CIM_ISO_STATUS_STALE, 0), (F.CIM_ISO_STATUS_AGE_S, 0), (F.CIM_ISO_STATUS_BELOW_RANGE, if rp < 10 then 1 else 0),
          (F.CIM_ISO_STATUS_ABOVE_RANGE, if 50000 < rp then 1 else 0)]
        let s4 := (s3.isoJudge r).isoRole
        if s4.bankMaster && s4.isoBank then
          s4.bankSend (.isoResult r (s4.rd F.CIM_ISO_RPOS_VALUE) (s4.rd F.CIM_ISO_RNEG_VALUE) (s4.rd F.CIM_ISO_CAP_VALUE))
        else s4

/-- ISO_RESULT_AGE (R165): the result is older than 120 s; the alarm state stands (R167). -/
def execIsoResultAge (s : State) : Out := .next (s.isoMarker.wr F.CIM_ISO_STATUS_AGE_S 121)

/-- BANK_ISO_TIMEOUT (R169, R170): no bank result for 120 s; the lowest closed follower becomes candidate and listens. -/
def execBankIsoTimeout (s : State) : Out :=
  .next <|
    if s.isoBank && s.bankPos != 0 && !s.bankFresh then
      let s2 : State := if s.lowestFollower then { s with cim.candidate := true, cim.listening := true, cim.foreign := false } else s
      s2.isoMarker.isoRole
    else s

end Sys2Proof.Machine
end

