-- ==== Sys2Proof/Machine/Lath.lean ====
section
/-! DEFINITION. What a segment card makes of an instant: its results calibrated (R67, R86), the conduction map (R92, R140), its sample
frame (R82, R83, R92), and the sums of the wire test (R107–R109) and of the spare's dwell (R82, R83). -/

namespace Sys2Proof.Machine

/-! ### Calibration (R67, R86) -/

/-- A factory coefficient at a card temperature: linear between −20, +25 and +70 °C, constant beyond. -/
def coefAt (c : List Int) (t : Int) : Rat :=
  let at_ (i : Nat) : Rat := c.getD i 0
  if t ≤ -20 then at_ 0
  else if t ≤ 25 then at_ 0 + (at_ 1 - at_ 0) * (t + 20) / 45
  else if t ≤ 70 then at_ 1 + (at_ 2 - at_ 1) * (t - 25) / 45
  else at_ 2

/-- A result of converter `n` (0–15 the cells, 16 SUM, 17 SPARE) as it leaves the card: calibrated, and the missing code beyond
int24. -/
def CardFac.result (c : CardFac) (n : Nat) (die raw : Int) : Int :=
  let v := ratRound ((raw : Rat) * (1 + coefAt (c.gain.getD n []) die / 1000000) + coefAt (c.off.getD n []) die)
  if missing24 < v ∧ v < 8388608 then v else missing24

/-! ### Conduction (R92, R140, R142, R146) -/

/-- Paths that conducted in the impulse response of instant `n` under the interleaved rules, under the compensated rules, and in a
learning pulse.  `iv` gives what conducted in each interval between instants, from the one that ends at instant `n + lag + 1` back:
impulse responses of FILTER 0 reach 187.3 µs into the intervals beside the instant, those of FILTER 1 over two on each side. -/
def conducted (filt : Bool) (iv : List (Nat × Nat × Nat)) (n : Nat) : Nat × Nat × Nat :=
  let g (i : Nat) : Nat × Nat × Nat := iv.getD i (0, 0, 0)
  if !filt then
    ((if n % 4 = 0 then 0 else (g 0).1 ||| (g 1).1), (g 0).2.1 ||| (g 1).2.1, 0)
  else
    let m := n % 4
    let near := if m = 1 then (g 0).1 ||| (g 1).1 else if m = 2 then (g 1).1 ||| (g 2).1 else if m = 3 then (g 2).1 ||| (g 3).1 else 0
    let r := n % 256
    (near, (g 0).2.1 ||| (g 1).2.1 ||| (g 2).2.1 ||| (g 3).2.1,
      if 1 ≤ r ∧ r ≤ 11 then (g 0).2.2 ||| (g 1).2.2 ||| (g 2).2.2 ||| (g 3).2.2 else 0)

/-- Instants between an instant and the intake of its frames: 1, or 2 with FILTER 1 (R69). -/
def State.filtLag (s : State) : Nat := if s.isOn F.SEG_FILT_CFG_FILTER_ACTIVE then 2 else 1

/-- The instant whose frames arrive after the latest marker (R69). -/
def State.frameIdx (s : State) : Nat := s.plumbIdx - s.filtLag

/-- What conducted in the instant whose frames arrive. -/
def State.conduction (s : State) (k : Nat) : Nat × Nat × Nat :=
  conducted (s.isOn F.SEG_FILT_CFG_FILTER_ACTIVE) (s.balCard k).ivs s.frameIdx

/-! ### The sample frame (R82, R83, R92, R121) -/

/-- Where the frame of instant `n` says that the spare stands: 31 while it settles (R82). -/
def State.sparePos (s : State) (k n : Nat) : Nat :=
  let x := s.segOf k
  if n ≤ x.rotAt then x.rotPrev else if n - x.rotAt ≤ (if s.isOn F.SEG_FILT_CFG_FILTER_ACTIVE then 3 else 2) then 31 else x.rot

/-- The sample frame that the card of slot `k` sends of the instant before the latest marker, from what its converters give. -/
def State.cardFrame (s : State) (k : Nat) (r : CardRead) : SampleFrame :=
  let x := s.segOf k
  let n := s.frameIdx
  let res (i : Nat) (raw : Int) : Int := CardFac.result x.fac i r.die raw
  let spare := res 17 r.spare
  let c := s.conduction k
  { seq := n % 65536
    aligned := s.seg.aligns.getD s.filtLag false && x.phase.isSome
    provisional := s.segState k == segPROVISIONAL
    spareSubst := x.subst != 0
    timingB := s.isOn (F.SEG_STATE_TIMING_DIR k)
    ovAny := s.rd (F.SEG_CMP_OV_LATCH k) != 0
    uvAny := s.rd (F.SEG_CMP_UV_LATCH k) != 0
    selftest := x.selftest || r.fault
    cells := (List.range 16).map fun i => if x.subst = i + 1 then spare else res i (r.cells.getD i 0)
    sum := res 16 r.sum
    spare := if x.subst = 0 then spare else missing24
    ntc := r.ntc % 65536
    sparePos := s.sparePos k n
    die := clampI (-128) 127 r.die
    balMap := c.1 ||| c.2.1 ||| c.2.2 }

/-- The two copies of a card's frame as the ring master reads them. -/
def State.copiesOf (s : State) (k : Nat) (a b : Copy) (r : CardRead) : CopyRes × CopyRes :=
  let w := frameCode (SampleFrame.bytes (s.cardFrame k r) k)
  (Copy.read a w, Copy.read b w)

/-- The frame that is received: the copy of direction A, else that of B (R94). -/
def heard : CopyRes × CopyRes → Option SampleFrame
  | (.good d _, _) => some (readFrame d)
  | (_, .good d _) => some (readFrame d)
  | _ => none

/-! ### The wire test (R107–R109) -/

/-- Add two lists of sums. -/
def addLists (a b : List Int) : List Int := if a.isEmpty then b else a.zipWith (· + ·) b

/-- One instant enters the block; a missing result spoils it. -/
def Blk.add (b : Blk) (chip : Bool) (f : SampleFrame) : Blk :=
  let c : Int := if chip then 1 else -1
  let v := f.cells
  { n := b.n + 1, vs := addLists b.vs v, cvs := addLists b.cvs (v.map (c * ·)), s := b.s + 16 * f.sum, cs := b.cs + c * (16 * f.sum)
    chips := b.chips + c, spoilt := b.spoilt || f.sum == missing24 || v.any (· == missing24) }

/-- Instant `n` of a card's frame in its wire-test block; the block begins at every multiple of 1016, and is whole after 1016
instants. -/
def Seg.blockTake (x : Seg) (n : Nat) (f : SampleFrame) : Seg :=
  let b := (if n % 1016 = 0 then {} else x.blk).add (chipAt n) f
  if n % 1016 = 1015 then { x with blk := {}, blkDone := if b.n = 1016 ∧ b.spoilt = false then some b else none }
  else { x with blk := b }

/-- The amplitudes a[1]–a[16], as and d of a block in µV (R109): with Σ c of the chips, Σ c (v − mean) is Σ c v less the mean times
Σ c. -/
def Blk.amps (b : Blk) : List Int :=
  let a (cv v : Int) : Int := ratRound (((cv : Rat) - (v : Rat) * b.chips / 1016) / 1016)
  (b.cvs.zip b.vs).map (fun p => a p.1 p.2) ++ [a b.cs b.s, ratRound (((b.s - b.vs.sum : Int) : Rat) / 1016)]

/-! ### The spare's dwell (R82, R83) -/

/-- A frame counts in the dwell in progress where the spare stands settled on the position. -/
def Seg.dwellTake (x : Seg) (n : Nat) (f : SampleFrame) : Seg :=
  if x.subst ≠ 0 ∨ f.sparePos ≠ x.rot ∨ n ≤ x.rotAt ∨ f.spare = missing24 then x
  else if x.rot = 0 then { x with dwSum := x.dwSum + (f.spare - x.fac.ref), dwN := x.dwN + 1 }
  else
    let c := f.cells.getD (x.rot - 1) missing24
    let others := (f.cells.sum - c : Int)
    let y := if c = missing24 then x else { x with dwSum := x.dwSum + (f.spare - c), dwN := x.dwN + 1 }
    if f.sum = missing24 ∨ (f.cells.eraseIdx (x.rot - 1)).any (· == missing24) then y
    else { y with shSum := y.shSum + (f.spare - (16 * f.sum - others)), shN := y.shN + 1 }

end Sys2Proof.Machine
end

