-- ==== Sys2Proof/Machine/Safe.lean ====
section
/-! DEFINITION. Safety Functions (R266–R308): the safety commands and every event of the two channels. -/

namespace Sys2Proof.Machine

/-! ### Commands (R307) -/

/-- Bytes of a bulk transfer as result values. -/
def bytesOut (b : List Byte) : List Int := b.map fun x => (x : Int)

/-- SAFE_PARAM_LOAD (R301, R302): `sigOk` says that the signature verifies under the certificate of the session. -/
def execSafeParamLoad (h : Hdr) (block : List Byte) (sigOk : Bool) (s : State) : Out :=
  .next <| s.command 0x0E01 rSafety h
    [(!sigOk, .auth),
     (blockParamBad block (16 * s.segs) (if s.safe.blockA.isEmpty then 1 else pGeneration s.safe.blockA + 1), .param),
     (blockRangeBad block s.segs, .range)]
    fun s => .bulk { s with safe.pendingBlock := block, safe.pendingCert := s.portCert h.port } []
      (echoBytes block).length (bytesOut (echoBytes block))

/-- Every card echoes its comparator codes after a change of the set, and STF-H checks them (R118); `echoes` by slot. -/
def State.echoAll (s : State) (echoes : List (Nat × CmpEcho)) : State :=
  s.segList.foldl (fun s k => if s.segLive k && Tbl.has echoes k then s.echoCheck k (Tbl.get (s.cmpConfig k) echoes k) else s) s

/-- SAFE_PARAM_CONFIRM (R302, R455): the same certificate must confirm; both values must match. -/
def execSafeParamConfirm (h : Hdr) (generation echoCrc : Nat) (echoes : List (Nat × CmpEcho)) (s : State) : Out :=
  let b := s.safe.pendingBlock
  .next <| s.command 0x0E02 rSafety h
    [(!b.isEmpty && s.safe.pendingCert != 0 && s.safe.pendingCert != s.portCert h.port, .auth),
     (!b.isEmpty && !(generation == pGeneration b && echoCrc == crc32c (echoBytes b)), .param)]
    fun s =>
      if b.isEmpty then .refuse .state
      else
        let old := if s.safe.blockA.isEmpty then 0 else pGeneration s.safe.blockA
        let s1 := s.putBlock b
        let s2 := s1.detail true (leBytes 4 old ++ leBytes 4 (pGeneration b)) .ok true
        .done (s2.mirrorInputs.setReady.echoAll echoes) []

/-- SAFE_PARAM_READ (R307): the block in force, and any pending block with its echo. -/
def execSafeParamRead (h : Hdr) (s : State) : Out :=
  .next <| s.command 0x0E03 rObserver h []
    fun s =>
      let e := if s.safe.pendingBlock.isEmpty then [] else s.safe.pendingBlock ++ echoBytes s.safe.pendingBlock
      let d := s.safe.blockA ++ e
      .bulk s [] d.length (bytesOut d)

/-- SAFE_STATUS (R307): the SAFE registers. -/
def execSafeStatus (h : Hdr) (s : State) : Out :=
  .next <| s.command 0x0E04 rObserver h [] fun s => ret s (s.wordsFrom 0x90000 15)

/-- SAFE_RESET (R298): the command part of the two-part reset; `m` gives the clear conditions of R296 measured
at this moment, by cause code. -/
def execSafeReset (h : Hdr) (m : ResetRead) (s : State) : Out :=
  .next <| s.command 0x0E05 rSafety h []
    fun s =>
      if s.mode = mSTANDBY then .done s []
      else if s.isOn F.SAFE_RST_CMD_SEEN then .refuse .busy
      else if s.isOn F.SAFE_RST_PULSE_SEEN then
        let s1 := s.wr F.SAFE_RST_CMD_SEEN 1
        if !s1.othersCleared m || (s1.hasCause .weldKn && !(s1.fbHealthy 5 && s1.isOn F.SAFE_OUT_COIL_SUPPLY)) then
          .fail (s1.endWindow .safety) .safety
        else if s1.hasCause .weldKn then .accept (s1.judgeReset m) 0 []
        else .done (s1.judgeReset m) []
      else .accept (s.openWindow F.SAFE_RST_CMD_SEEN) 0 []

/-- SAFE_STOP (R307): channel A raises HOST_STOP. -/
def execSafeStop (h : Hdr) (s : State) : Out :=
  .next <| s.command 0x0E06 rOperator h [] fun s => .done (s.raiseCause .hostStop 1) []

/-- WITHDRAW_ANNOUNCE (R294): bypass closed, shadow protection, CARD_LOST suspended. -/
def execWithdrawAnnounce (h : Hdr) (slot : Nat) (s : State) : Out :=
  .next <| s.command 0x0E07 rMaintainer h [(!s.segOk slot, .range)]
    fun s =>
      if !s.paramValid || !s.currentValid || decide (1000 * pSvcMax s.safe.blockA < s.current.natAbs) then .refuse .safety
      else if s.wdSlot ≠ 0 then .refuse .busy
      else .done (({ s with safe.wdAt := s.time.count } : State).wrs [(F.SAFE_WITHDRAW_SLOT, slot), (F.SAFE_WITHDRAW_REMAIN_S, pWithdrawS s.safe.blockA),
        (F.SAFE_STATUS_WITHDRAW_ACTIVE, 1), (F.SEG_TONE_BYPASS, 2 ^ (slot - 1))]).gateTone []

/-- WITHDRAW_CANCEL (R294): ends the withdrawal; CARD_LOST where the card is absent. -/
def execWithdrawCancel (h : Hdr) (s : State) : Out :=
  .next <| s.command 0x0E08 rMaintainer h []
    fun s =>
      let k := s.wdSlot
      if k = 0 then .done s []
      else
        let s1 := s.endWithdrawal
        let s2 := if (s1.segOf k).present then s1 else s1.causeCardLost k
        .done (if s2.seg.armed && !s2.toneThrough then s2.toneLost else s2) []

/-! ### Safety inputs -/

/-- A demand that is new after an input change: the SSD delay starts while the string is closed (R268). -/
def State.ssdEdge (s0 s : State) : State :=
  if s.isOn F.SAFE_STATUS_SSD_DEMAND && !s0.isOn F.SAFE_STATUS_SSD_DEMAND then
    let s1 := s.wr F.SAFE_COUNT_DEMANDS (s.rd F.SAFE_COUNT_DEMANDS + 1)
    if s.closed then { s1 with safe.ssdDelay := true } else s1
  else s

/-- SAFETY_INPUT_CHANGE (R271, R273, R274): channel `ch` (0 a, 1 b) of SIi has read open (`demand`) or closed
for its filter time.  A class 3 channel that leaves the commanded state raises FEEDBACK. -/
def execSafetyInputChange (i ch : Nat) (demand : Bool) (s : State) : Out :=
  .next <|
    if i < 1 ∨ 8 < i then s
    else
      let x := s.input i
      let x1 := if ch = 0 then { x with a := demand } else { x with b := demand }
      let s1 := (s.setInput i (x1.eval.see)).mirrorInputs
      let s2 := State.ssdEdge s s1
      let s3 :=
        if s2.inClass i == 3 && demand != s2.outOn (fbOutput (s2.inFn i)) then
          (s2.wr F.SAFE_IN_FAULT_FEEDBACK_FAULT (s2.rd F.SAFE_IN_FAULT_FEEDBACK_FAULT ||| 2 ^ (i - 1))).raiseCause .feedback 3
        else if s2.inClass i == 3 && s2.fbAgrees i && s2.allRead then
          s2.wr F.SAFE_IN_FAULT_FEEDBACK_FAULT (s2.rd F.SAFE_IN_FAULT_FEEDBACK_FAULT &&& (255 - 2 ^ (i - 1)))
        else s2
      s3.setReady

/-- DISCREPANCY (R273): tick t_disc + 1 passes while one channel has not followed. -/
def execDiscrepancy (i : Nat) (s : State) : Out :=
  .next <|
    let x := s.input i
    let waits := (x.st == .demand && !x.both) || x.st == .back
    if (s.inClass i == 1 || s.inClass i == 2) && waits then
      let s1 := (s.setInput i ({ x with disc := true } : SafeInput).see).mirrorInputs
      (s1.raiseCause .discrepancy 3).setReady
    else s

/-- SSD_DELAY_EXPIRY (R268): the disconnect follows although the input may be healthy again. -/
def execSsdDelayExpiry (s : State) : Out :=
  .next <|
    if s.safe.ssdDelay then ({ s with safe.ssdDelay := false } : State).raiseCause .inputDemand 3 else s

/-- One channel's pulse result (R272): low during its own source's pulse and not during the other's. -/
def pulseCount (bad : Bool) (n : Nat) : Nat := if bad then n + 1 else 0

/-- INPUT_TEST_PULSE (R272): the off-pulse of TP1 (`source` 0, channel a) or TP2; `lowA` and `lowB` are the channels
that read demand during it, `heldA` and `heldB` those that had read healthy for 40 ms before it. -/
def execInputTestPulse (source lowA lowB heldA heldB : Nat) (s : State) : Out :=
  let bitOf (m i : Nat) : Bool := m / 2 ^ (i - 1) % 2 == 1
  let step (s : State) (i : Nat) : State :=
    if s.inClass i != 2 then s
    else
      let x := s.input i
      let ta := bitOf heldA i && !x.a
      let tb := bitOf heldB i && !x.b
      let badA := if source = 0 then !bitOf lowA i else bitOf lowA i
      let badB := if source = 0 then bitOf lowB i else !bitOf lowB i
      let x1 : SafeInput := { x with
        ownA := if source = 0 && ta then pulseCount badA x.ownA else x.ownA
        otherA := if source != 0 && ta then pulseCount badA x.otherA else x.otherA
        ownB := if source != 0 && tb then pulseCount badB x.ownB else x.ownB
        otherB := if source = 0 && tb then pulseCount badB x.otherB else x.otherB
        passed := if (ta && badA) || (tb && badB) then 0 else if ta && tb then x.passed + 1 else x.passed }
      let s1 := s.setInput i x1
      let fault := decide (2 ≤ x1.ownA) || decide (2 ≤ x1.otherA) || decide (2 ≤ x1.ownB) || decide (2 ≤ x1.otherB)
      let pf := s1.rd F.SAFE_IN_FAULT_PULSE_FAULT
      if fault then (s1.wr F.SAFE_IN_FAULT_PULSE_FAULT (pf ||| 2 ^ (i - 1))).raiseCause .pulse 3
      else if 10 ≤ x1.passed then s1.wr F.SAFE_IN_FAULT_PULSE_FAULT (pf &&& (255 - 2 ^ (i - 1)))
      else s1
  .next <| inputNos.foldl step (s.wr (if source = 0 then F.SAFE_IN_FAULT_TP1_OK else F.SAFE_IN_FAULT_TP2_OK) 1)

/-- FEEDBACK_TIMEOUT (R274, R282, R283): 100 ms after a command a feedback channel has not followed. -/
def execFeedbackTimeout (i : Nat) (s : State) : Out :=
  .next <|
    if s.inClass i == 3 && !s.fbAgrees i then
      (s.wr F.SAFE_IN_FAULT_FEEDBACK_FAULT (s.rd F.SAFE_IN_FAULT_FEEDBACK_FAULT ||| 2 ^ (i - 1))).raiseCause .feedback 3
    else s

/-! ### Reset input and reset window -/

/-- RST_PULSE (R275, R298): both RST channels are open again.  `closeSkew` and `openSkew` are the differences of the
two channels in µs, `width` the time from the later closing to the earlier opening in µs; `m` as SAFE_RESET. -/
def execRstPulse (closeSkew openSkew width : Nat) (m : ResetRead) (s : State) : Out :=
  let s0 := s.wrs [(F.SAFE_RST_RST_A, 0), (F.SAFE_RST_RST_B, 0)]
  .next <|
    if 20000 < closeSkew ∨ 20000 < openSkew then s0.wr F.SAFE_RST_RST_DISC 1
    else if 2000000 < width then (s0.wr F.SAFE_RST_RST_STUCK 1).wr F.SAFE_RST_RST_DISC 0
    else
      let s1 := s0.wr F.SAFE_RST_RST_DISC 0
      if width < 100000 then s1
      else if s1.mode ≠ mLOCKOUT then s1.detail true [] .ok true
      else if s1.isOn F.SAFE_RST_PULSE_SEEN then s1
      else if s1.isOn F.SAFE_RST_CMD_SEEN then (s1.wr F.SAFE_RST_PULSE_SEEN 1).judgeReset m
      else s1.openWindow F.SAFE_RST_PULSE_SEEN

/-- RST_STUCK_CLEAR (R275): both channels have been open for 1 s. -/
def execRstStuckClear (s : State) : Out := .next (s.wr F.SAFE_RST_RST_STUCK 0)

/-- RESET_WINDOW_EXPIRY (R298): 10 s pass with one part only; a waiting SAFE_RESET completes TIMEOUT. -/
def execResetWindowExpiry (s : State) : Out :=
  .next <|
    if s.isOn F.SAFE_STATUS_RESET_WINDOW && !(s.isOn F.SAFE_RST_PULSE_SEEN && s.isOn F.SAFE_RST_CMD_SEEN) then
      s.endWindow .timeout
    else s

/-- WELD_TEST_CLOSE_END (R298): the 100 ms for which KPC alone was closed are over; |I| must have stayed below PC_I_WELD. -/
def execWeldTestCloseEnd (rel : List (Nat × Nat)) (s : State) : Out :=
  .next <|
    if s.safe.weldTest then
      let s1 := ({ s with safe.weldTest := false } : State).outOffSet 2
      if s.safe.peak < 10 * pPcWeld s.safe.blockA then s1.resetDone rel else s1.endWindow .safety
    else s

/-! ### Outputs -/

/-- One switch's command and readback places in SAFE_OUT.SWITCH: output `o`, side 0 HS, 1 LS. -/
def cmdBit (o side : Nat) : Nat := 2 ^ (4 * o + 2 * side)
def rbBit (o side : Nat) : Nat := 2 ^ (4 * o + 2 * side + 1)

def hasBit (w b : Nat) : Bool := w / b % 2 == 1

/-- OUTPUT_READBACK (R277): `rb` holds the readbacks, bit 2·o + side; `coilLow` the outputs whose coil current stayed
below 50 mA for 100 ms; `supply` the coil supply at least 18 V, `supplyLow` below it for 10 ms; `beats` both heartbeats. -/
def execOutputReadback (rb coilLow : Nat) (supply supplyLow beats : Bool) (s : State) : Out :=
  let places : List (Nat × Nat) := [(0, 0), (0, 1), (1, 0), (1, 1), (2, 0), (2, 1)]
  let w := (places.map fun p =>
    (if hasBit s.switches (cmdBit p.1 p.2) then cmdBit p.1 p.2 else 0) +
    (if hasBit rb (2 ^ (2 * p.1 + p.2)) then rbBit p.1 p.2 else 0)).sum
  let s1 := (s.wr F.SAFE_OUT_SWITCH w).mirrorSwitches
  let stuck (s : State) (p : Nat × Nat) : State :=
    let o := Tbl.get ({} : OutState) s.safe.outs p.1
    let bad := hasBit w (rbBit p.1 p.2) && !hasBit w (cmdBit p.1 p.2)
    let o1 : OutState := if p.2 = 0 then { o with stuckHs := if bad then o.stuckHs + 1 else 0 }
                         else { o with stuckLs := if bad then o.stuckLs + 1 else 0 }
    let s2 : State := { s with safe.outs := Tbl.put s.safe.outs p.1 o1 }
    if bad && (if p.2 = 0 then o1.stuckHs else o1.stuckLs) == 3 then s2.raiseCause .output (p.2 + 1) else s2
  let s2 := places.foldl stuck s1
  let on (o : Nat) : Bool := s2.outOn o
  let okBits := ([0, 1, 2].map fun o => if on o && !hasBit coilLow (2 ^ o) then 2 ^ o else 0).sum
  let s3 := ((s2.wr F.SAFE_OUT_COIL_OK okBits).wrB F.SAFE_OUT_COIL_SUPPLY supply).wrB F.SAFE_STATUS_XLINK_OK beats
  let s4 :=
    if [0, 1, 2].any fun o => on o && (hasBit coilLow (2 ^ o) || supplyLow) then s3.raiseCause .coil 1 else s3
  let s5 := s4.reactEnd.setX19.setReady
  .next (if s.closed && !s5.closed then s5.openAllCheck else s5)

/-- OUTPUT_TEST_PULSE (R278, R279): not within 200 ms of a closing; the switch of output `o` whose turn it is, high side in even seconds, must read
off within 50 µs (`inTime`). -/
def execOutputTestPulse (o : Nat) (inTime : Bool) (s : State) : Out :=
  .next <|
    if 2 < o ∨ s.outOn o = false ∨ s.safe.closing ≠ .idle ∨ s.time.count < s.safe.closedAt + 50000000 ∨ inTime = true then s
    else
      let side := s.plumbIdx / 4000 % 2
      (s.wr F.SAFE_OUT_TEST_FAIL (s.rd F.SAFE_OUT_TEST_FAIL ||| 2 ^ o)).raiseCause .output (side + 1)

/-- XLINK_DEMAND (R267): channel A (`ch` 0) or B receives the other's demand and switches its own switches off. -/
def execXlinkDemand (ch : Nat) (s : State) : Out :=
  let own := if ch = 0 then 0x111 else 0x444
  .next ((s.wr F.SAFE_OUT_SWITCH (s.switches - (s.switches &&& own))).mirrorSwitches)

/-- XLINK_LOST (R304): a heartbeat is missing for 3 ms. -/
def execXlinkLost (s : State) : Out := .next (((s.wr F.SAFE_STATUS_XLINK_OK 0).raiseCause .xlink 3).setX19)

/-- CLOCK (R269): the safety oscillator's error in ppm, as STF-H's RC oscillator finds it, lies outside ±2 %. -/
def execClock (ppm : Int) (s : State) : Out := .next (if ppm.natAbs ≤ 20000 then s else s.raiseCause .clock 2)

/-! ### Closing (R281, R282) -/

/-- WELD_CHECK_END (R281, R282): the weld check of step 3 is over. -/
def execWeldCheckEnd (s : State) : Out :=
  .next <|
    if s.safe.closing ≠ .weldCheck then s
    else if 10 * pPcWeld s.safe.blockA ≤ s.safe.peak then s.raiseCause .weldKn 1
    else ({ s with safe.closing := .precharge, safe.energy := 0, safe.instants := 0, safe.low := 0 } : State).outOnSet 1

/-- PRECHARGE_DONE (R281): |I| has stayed at or below PC_I_DONE for 100 ms, not before 200 ms. -/
def execPrechargeDone (s : State) : Out :=
  .next <|
    if s.safe.closing ≠ .precharge ∨ s.safe.instants < 800 ∨ s.safe.low < 400 then s
    else ({ s with safe.closing := .confirm } : State).noteClosing.outOnSet 0

/-- Step 7 of R281 ends: KPC opens, mode RUN, MODE_REQUEST completes OK. -/
def State.enterRun (s : State) : State :=
  let s1 := (({ s with safe.closing := .idle, safe.confirmAt := none } : State).outOffSet 2).wrs
    [(F.SAFE_STATUS_CLOSING, 0), (F.SAFE_PRECHARGE_RESULT, 1)]
  (s1.modeDone mRUN byCommand).sendClosed

/-- The reload of slot 0 from the states carried at rest has not committed (R220). -/
def State.reloadOpen (s : State) : Bool := s.est.parked || (s.seSlot 0).committing

/-- A confirmed closing waits for that commit, at most 10 ms (R220). -/
def State.confirmWait (s : State) : State :=
  match s.safe.confirmAt with
  | some t => if s.reloadOpen && decide (s.time.count < t + 2500000) then s else s.enterRun
  | none => s

/-- CLOSE_CONFIRM (R281, R220): feedback confirms; then RUN at once or, while slot 0 is being reloaded, at the commit. -/
def execCloseConfirm (s : State) : Out :=
  .next <|
    if s.safe.closing ≠ .confirm then s
    else if !s.fbAll then
      (s.wr F.SAFE_IN_FAULT_FEEDBACK_FAULT (s.rd F.SAFE_IN_FAULT_FEEDBACK_FAULT |||
        inMap fun i => s.inClass i == 3 && !s.fbAgrees i)).raiseCause .feedback 3
    else if s.safe.confirmAt.isSome then s
    else ({ s with safe.confirmAt := some s.time.count } : State).confirmWait

/-- PRECHARGE_TIMEOUT (R282): step 5 has not ended within PC_T_MAX. -/
def execPrechargeTimeout (s : State) : Out :=
  .next <| if s.safe.closing ≠ .precharge ∨ s.safe.instants < 4 * u16 s.safe.blockA 124 then s else s.noteClosing.failClosing 2

/-! ### Voltage, current and temperature functions (R284–R293): they act once a block is confirmed (R300) -/

/-- The shadow segment-sum in mV lies beyond the window of an announced withdrawal (R294). -/
def shadowOut (b : List Byte) (shadow : Int) (high : Bool) : Bool :=
  let m : Int := 100 * u16 b 132
  if high then decide (16 * (pSvwMax b : Int) - m < 10 * shadow) else decide (10 * shadow < 16 * (pSvwMin b : Int) + m)

/-- SVW_COUNT_EXPIRY (R284, R294): position `j` of slot `k` has stayed beyond the window for SVW_FILT; in an announced withdrawal the
slot is judged by the shadow segment-sum in mV. -/
def execSvwCountExpiry (k j : Nat) (high : Bool) (shadow : Int) (s : State) : Out :=
  .next <|
    let b := s.safe.blockA
    let hit := if s.wdSlot = k then shadowOut b shadow high else decide (4 * u8 b 36 ≤ s.svwFor k j high)
    if b.isEmpty || !s.segOk k || !inR 1 16 j || !hit then s
    else (s.wr F.SAFE_STATUS_SVW_DEMAND 1).raiseCause (if high then .svwHigh else .svwLow) 1

/-- SVW_FRAME (R285): channel B's frame check has counted DEGLITCH_MS × 4 instants. -/
def execSvwFrame (k j : Nat) (high : Bool) (s : State) : Out :=
  .next <|
    let b := s.safe.blockA
    if b.isEmpty || !s.segOk k || !inR 1 16 j || decide (s.svwFor k j high < 4 * u8 b 40) then s
    else (s.wr F.SAFE_STATUS_SVW_DEMAND 1).raiseCause .svwFrame 2

/-- The magnitude in mA of a Hall code's current. -/
def State.hallMa (s : State) (code : Nat) : Rat := ((s.rd F.CIM_HALL_PARAM_FS_A * code : Nat) : Rat) / 2

/-- SLC_PEAK (R288): channel `ch` finds the peak level exceeded, channel A in 2 instants running, channel B in 20 samples whose smallest
code has the magnitude `least`. -/
def execSlcPeak (ch least : Nat) (s : State) : Out :=
  .next <|
    let b := s.safe.blockA
    let hit := if ch = 1 then decide (2 ≤ s.cim.slcPk) else decide (((1000 * pHallPeak b : Nat) : Rat) < s.hallMa least)
    if b.isEmpty || !hit then s else s.raiseCause .slcPeak ch

/-- SLC_TIME (R288; STF-H applies SVC_I_MAX also while the cross-link is lost): channel `ch` finds the time-limited level exceeded for its time; `least` as SLC_PEAK, over HALL_T_MS. -/
def execSlcTime (ch least : Nat) (s : State) : Out :=
  .next <|
    let b := s.safe.blockA
    let lim := 1000 * (if s.safe.svcSignal || !s.isOn F.SAFE_STATUS_XLINK_OK then pSvcMax b else pHallMax b)
    let hit := if ch = 1 then decide (4 * u16 b 48 ≤ s.cim.slcTm) else decide ((lim : Rat) < s.hallMa least)
    if b.isEmpty || !hit then s else s.raiseCause .slcTime ch

/-- SDI_TRIP (R290): current in an inhibited direction (`chg` charge) beyond tolerance for SDI_T_MS; channel B takes the Hall current in
that direction, whose smallest code has the magnitude `least`. -/
def execSdiTrip (chg : Bool) (ch least : Nat) (s : State) : Out :=
  .next <|
    let b := s.safe.blockA
    let tol := max (100 * pSdiTol b) (10 * pHallFs b)
    let hit := if ch = 1 then decide (4 * u16 b 60 ≤ if chg then s.cim.sdiChg else s.cim.sdiDis) else decide ((tol : Rat) < s.hallMa least)
    if b.isEmpty || !hit || !s.isOn (if chg then F.SAFE_STATUS_SDI_CHG else F.SAFE_STATUS_SDI_DIS) then s
    else s.raiseCause (if chg then .sdiChg else .sdiDis) ch

/-- What STW_TRIP names is so at this moment (R292). -/
def State.stwHolds (s : State) (kind ch : Nat) : Bool :=
  let b := s.safe.blockA
  match kind with
  | 0 => s.ntcBeyond ch (pStwMax b) true
  | 1 => s.ntcBeyond ch (pStwMin b) false
  | 2 => s.ntcBeyond ch (pStwMinChg b) false
  | _ => s.ntcBeyond ch (pStartMax b) true || s.ntcBeyond ch (pStartMin b) false

/-- STW_TRIP (R292): an enabled NTC has stayed outside one of the limits for STW_FILT_MS, as channel `ch` reads it:
`kind` 0 above TMAX, 1 below TMIN, 2 below TMIN_CHG, 3 outside the start window. -/
def execStwTrip (kind ch : Nat) (s : State) : Out :=
  .next <|
    if s.safe.blockA.isEmpty || !s.stwHolds kind ch then s
    else match kind with
      | 0 => (s.wr F.SAFE_STATUS_STW_DEMAND 1).raiseCause .stwHigh ch
      | 1 =>
        if s.closed then (s.wr F.SAFE_STATUS_STW_DEMAND 1).raiseCause .stwLow ch
        else ({ s.wr F.SAFE_STATUS_STW_DEMAND 1 with safe.lowOpen := true } : State).raiseCause .stwLow ch
      | 2 => ({ s with safe.stwInhibit := true } : State).mirrorInputs
      | _ => if s.closed then s else ({ s with safe.startOut := true } : State).setReady

/-- STW_SENSOR (R293): an enabled NTC is open, shorted or implausible for STW_FILT_MS. -/
def execStwSensor (s : State) : Out :=
  .next <| if s.safe.blockA.isEmpty || !s.ntcFaulty then s else s.raiseCause .stwSensor 1

/-! ### Parameters (R302, R303) -/

/-- PARAM_PENDING_EXPIRY (R302): 300 s without confirmation. -/
def execParamPendingExpiry (s : State) : Out := .next { s with safe.pendingBlock := [], safe.pendingCert := 0 }

/-- PARAM_CRC_COMPARE (R303): a mismatch between the channels raises PARAM; a copy that disagrees is rewritten.  A block that fails its
own CRC counts as an uncorrectable error in safety memory (R24). -/
def execParamCrcCompare (s : State) : Out :=
  .next <|
    let s := s.blocksChecked
    if u32 s.safe.blockA 400 ≠ u32 s.safe.blockB 400 ∨ s.safe.blockA.isEmpty ≠ s.safe.blockB.isEmpty then
      (s.wr F.SAFE_STATUS_PARAM_VALID 0).raiseCause .param 3
    else if blockBad s.safe.blockA then s
    else
      let b := s.safe.blockA
      { s with safe.copy0 := if b.isEmpty then s.safe.copy0 else b, safe.copy1 := if b.isEmpty then s.safe.copy1 else b }

/-! ### Withdrawal (R294) -/

/-- WITHDRAW_TIMEOUT (R294): WITHDRAW_S has elapsed; the bypass opens and WITHDRAW is raised. -/
def execWithdrawTimeout (s : State) : Out :=
  .next <|
    let k := s.wdSlot
    if k = 0 then s
    else
      let s1 := s.endWithdrawal
      let r := s1.safe.withdraw.raised
      let s2 := (({ s1 with safe.withdraw.raised := if r.contains k then r else r ++ [k] } : State)).raiseCause .withdraw 1
      let s3 := if s2.segLive k then s2.gateTone else s2.toneLost
      if (s3.segOf k).present then s3 else s3.causeCardLost k

end Sys2Proof.Machine
end

