-- ==== Sys2Proof/Machine/Thermal.lean ====
section
/-! DEFINITION. Thermal Management (R309–R325): commands, NTC reports, die sensors, balancing pauses and step tests.  The
thermal shutdown itself stands with the power sequences. -/

namespace Sys2Proof.Machine

/-! ### Commands (R325) -/

/-- THM_STATUS: the THM registers and the shutdown record. -/
def execThmStatus (h : Hdr) (s : State) : Out :=
  .next <| s.command 0x0601 rObserver h []
    fun s => ret s (s.wordsFrom 0xA0000 10 ++ s.wordsFrom 0xA0030 3 ++ s.wordsFrom 0xA0100 104 ++ wordsOf 16 s.thm.shut.bytes)

/-- The loop takes new settings at the next step, where it runs (R314). -/
def State.reloadLoop (s : State) : State := if s.seBusy 2 then s.loadLoop else s

/-- THM_SET_LOOP: setpoint in 0.01 °C, CTRL_SEL, Kc in 0.01 % per °C, Ti in s, f in 0.01 %, feedforward gain in 0.01 % per
°C, valve limits and deadband in 0.01 %. -/
def execThmSetLoop (h : Hdr) (setpoint : Int) (sel : Nat) (kc : Int) (ti f : Nat) (ff : Int) (vMin vMax deadband : Nat) (s : State) : Out :=
  .next <| s.command 0x0602 rMaintainer h
    [(decide (vMax < vMin) || decide (ti < 1) || decide (10000 < vMax) || decide (1 < sel) || decide (255 < deadband) ||
      decide (10000 < f) || decide (setpoint < -32767) || decide (32767 < setpoint), .range)]
    fun s =>
      let s1 := (((((s.wrKeep F.THM_SETPOINT_SETPOINT (ofSigned 16 setpoint)).wrKeep F.THM_SETPOINT_DEADBAND deadband).wrKeep
        F.THM_CFG_CTRL_SEL sel).wrKeep F.THM_VALVE_LIM_LO vMin).wrKeep F.THM_VALVE_LIM_HI vMax)
      .done ({ s1 with thm.loop := { kc := kc, ti := ti, f := f, ff := ff } } : State).reloadLoop []

/-- THM_VALVE_SET: owner bits and host positions (R315, R316). -/
def execThmValveSet (h : Hdr) (vo dow : Bool) (valve damper : Nat) (s : State) : Out :=
  .next <| s.command 0x0603 rOperator h [(decide (10000 < valve) || decide (10000 < damper), .range)]
    fun s =>
      let s1 : State := { s with thm.hostValve := valve, thm.hostDamper := damper
                                 thm.sent := s.thm.sent && (s.isOn F.THM_CFG_VALVE_OWNER == vo)
                                 thm.sentD := s.thm.sentD && (s.isOn F.THM_CFG_DAMPER_OWNER == dow) }
      let own (s : State) (x : Nat) (b : Bool) : State :=
        if s.axState x = axHOMING then s else s.wr (F.MOT_STATE_OWNER x) (if b then 1 else 0)
      .done ((own (own ((s1.wrB F.THM_CFG_VALVE_OWNER vo).wrB F.THM_CFG_DAMPER_OWNER dow) 0 vo) 1 dow).thmDrive) []

/-- THM_NTC_MAP_LOAD (R311): into settings and into the SE where it is powered. -/
def execThmNtcMapLoad (h : Hdr) (map : List Nat) (s : State) : Out :=
  .next <| s.command 0x0604 rMaintainer h
    [(map.length != 512, .param), (map.any (fun n => decide (8 * s.segs < n)) || (map.drop 444).any (· != 0), .range)]
    fun s =>
      let s1 : State := { s with thm.map := map }
      .done ((if s1.isOn F.SE_STATUS_POWERED then { s1 with se.ntcMap := map } else s1).thmDrive) []

/-- Capture channel: the generator, and state 1 of slot 1 in the instances of segments 1, 6, 11, 16, 21 and 26 (R317). -/
def tuneSel (segs : Nat) : List Nat :=
  48 :: ([1, 6, 11, 16, 21, 26].filter fun k => decide (k ≤ segs)).map fun k => 1 + 64 + 1024 * (k - 1)

/-- THM_TUNE (R317). -/
def execThmTune (h : Hdr) (step : Int) (dur : Nat) (s : State) : Out :=
  .next <| s.command 0x0605 rMaintainer h [(!inR 600 8000 dur || decide (step < -10000) || decide (10000 < step), .range)]
    fun s =>
      if (!s.isOn F.THM_STATUS_LOOP_RUNNING && s.thm.tune.isNone) || s.thmForced then .refuse .state
      else if s.thm.tune.isSome || s.isOn F.SE_STATUS_INJ_RUNNING || s.isOn F.SE_STATUS_CAP_ARMED then .refuse .busy
      else
        let s1 := (({ s with thm.tune := some { step := step, dur := dur, start := s.plumbIdx + 240000 } } : State).wr F.THM_STATUS_TUNING 1).seDisable 2
        let s2 := s1.genLoad 2 4 step 0 0 0 1 (s.plumbIdx + 240000) false
        .accept ((s2.capArm { sel := tuneSel s.segs, pace := 1, trig := 2, trigIdx := 0, pre := 60 }).thmDrive) 0 []

/-- THM_TUNE_APPLY (R317). -/
def execThmTuneApply (h : Hdr) (s : State) : Out :=
  .next <| s.command 0x0606 rMaintainer h []
    fun s => match s.thm.tuneRes with
      | none => .refuse .state
      | some r => .done ({ s with thm.loop := { s.thm.loop with kc := r.kc, ti := r.ti } } : State).reloadLoop []

/-- THM_TUNE_STOP (R317). -/
def execThmTuneStop (h : Hdr) (s : State) : Out :=
  .next <| s.command 0x0607 rMaintainer h [] fun s => .done ((s.tuneEnd .aborted []).thmDrive) []

/-- THM_SHUTDOWN_ACK (R324). -/
def execThmShutdownAck (h : Hdr) (s : State) : Out :=
  .next <| s.command 0x0608 rMaintainer h []
    fun s => .done ((({ s with thm.shut := ({ s.thm.shut with ack := true } : ShutRec).sealed } : State).wr F.THM_STATUS_ACK_PENDING 0).setReady) []

def int8Bad (t : Int) : Bool := decide (t < -127) || decide (127 < t)

/-- THM_DIE_SET (R325): THM_DIE_CFG, COOL_S and T_START. -/
def execThmDieSet (h : Hdr) (seC shutC restartC hotC : Int) (cool : Nat) (tStart : Int) (s : State) : Out :=
  .next <| s.command 0x0609 rMaintainer h
    [(decide (shutC ≤ restartC) || [seC, shutC, restartC, hotC].any int8Bad || !inR 60 3600 cool || decide (tStart < -32767) ||
      decide (32767 < tStart), .range)]
    fun s =>
      let s1 := (((s.wrI F.THM_DIE_CFG_SE_THROTTLE_C seC).wrI F.THM_DIE_CFG_SHUTDOWN_C shutC).wrI F.THM_DIE_CFG_RESTART_C restartC).wrI
        F.THM_DIE_CFG_SEG_HOT_C hotC
      .done ((s1.wrKeep F.THM_COOL_TIME_COOL_S cool).wrKeep F.THM_BAL_T_START (ofSigned 16 tStart)) []

/-! ### Reports (R310, R313, R314, R320) -/

/-- Show one NTC's mean of the second (R310). -/
def State.ntcReport (s : State) (n : Nat) : State :=
  let m := Tbl.get ({} : NtcSum) s.thm.sums n
  let f := if n % 2 = 1 then F.THM_NTC_T_LO ((n - 1) / 2) else F.THM_NTC_T_HI ((n - 1) / 2)
  let s1 : State := { s with thm.repQ := Tbl.put s.thm.repQ n (if m.n = 0 then 4 else m.qual) }
  s1.wr f (if m.n = 0 then markS 16 else satS 16 (roundDiv m.sum m.n))

/-- Heat of a segment in mW (R313): Σ I² × (Rser + ΔRser) of its cells and what its paths dissipate at their duties. -/
def State.segHeat (s : State) (k : Nat) : Int :=
  let i : Rat := (if s.currentValid then s.current else 0 : Int) / (1000 : Rat)
  let joule : Rat := ((numbersFrom 1 16).map fun j =>
    match s.estRec (cellOf k j) with
    | some r => i * i * (s.rserAt r.soc r.tc + (s.estCell (cellOf k j)).dR / 1000000)
    | none => 0).sum
  let bal : Rat := ((numbersFrom 1 16).map fun j =>
    let d := (s.balCard k).duties.getD (j - 1) 0
    match s.frameCell k j with
    | some v => (d : Rat) / 64 * ((v : Rat) * v / 1000000 / s.rpath k j)
    | none => 0).sum
  ratRound (joule + bal)

/-- Parameter word 0 of the instances of a firmware slot. -/
def State.setParam0 (s : State) (slot : Nat) (f : Nat → Int) : State :=
  let l := s.seInsts slot
  s.setSeInsts slot ((l.zip (numbersFrom 0 l.length)).map fun p => { p.1 with par := p.1.par.set 0 (f p.2) })

/-- T_ctrl: the largest or the mean of the surface temperatures of slot 1 (R314). -/
def State.tCtrl (s : State) : Int :=
  let l := (s.seInsts 1).map fun r => r.x.getD 1 0
  if s.isOn F.THM_CFG_CTRL_SEL then roundDiv l.sum (max 1 l.length) else l.foldl max (l.headD 0)

/-- THM_NTC_REPORT (R310): once per second, with the inputs that THM gives to its kernels (R313, R314). -/
def execThmNtcReport (s : State) : Out :=
  let s1 := (numbersFrom 1 (8 * s.segs)).foldl State.ntcReport s
  let s2 : State := { s1 with thm.sums := [] }
  let s3 := if s2.seEnabled 1 then s2.setParam0 1 fun i => s2.segHeat (i + 1) else s2
  let s4 := if s3.seEnabled 2 then s3.setParam0 2 fun _ => s3.rdI F.THM_SETPOINT_SETPOINT - s3.tCtrl else s3
  .next s4.thmDrive

/-- THM_BAL_PAUSE_UPDATE (R320): the hottest VALID cell NTC; entries 442 and 443 of the map are no cells (R312). -/
def execThmBalPauseUpdate (s : State) : Out :=
  let cool := [s.ntcMap.getD 442 0, s.ntcMap.getD 443 0]
  let hot := (numbersFrom 1 (8 * s.segs)).foldl (fun (acc : Option (Nat × Int)) n =>
    if cool.contains n || Tbl.get 4 s.thm.repQ n != 0 then acc
    else match s.thmNtc n, acc with
      | some t, some (_, u) => if u < t then some (n, t) else acc
      | some t, none => some (n, t)
      | none, _ => acc) none
  let slots := match hot with
    | some (_, t) => min 64 (8 * ((t - s.rdI F.THM_BAL_T_START) / 100).toNat)
    | none => 0
  let s1 := match hot with
    | some (n, t) => (s.wr F.THM_STATUS_HOT_NTC n).wrI F.THM_STATUS_T_HOT t
    | none => s.wrs [(F.THM_STATUS_HOT_NTC, 0), (F.THM_STATUS_T_HOT, markS 16)]
  .next (s1.wr F.BAL_THROTTLE_PAUSE_SLOTS (if s1.isOn F.THM_STATUS_VALVE_UNAVAIL then 64 else slots))

/-! ### Die temperatures (R318, R319, R321) -/

/-- PAUSE that a die temperature asks for (R319). -/
def throttleFor (t d : Int) : Nat := if t < d then 0 else min 7 (((t - d) / 2).toNat + 1)

/-- SE_THROTTLE.PAUSE: raised at once, lowered one step after 10 s at 2 °C below the lower edge of the present step. -/
def State.throttle (s : State) (t : Int) : State :=
  let d := s.rdI F.THM_DIE_CFG_SE_THROTTLE_C
  let p := s.rd F.SE_THROTTLE_PAUSE
  let want := throttleFor t d
  if p < want then (({ s with thm.coolMs := 0 } : State).wr F.SE_THROTTLE_PAUSE want).setBudget
  else if 0 < p ∧ t ≤ d + 2 * ((p : Int) - 1) - 2 then
    if s.thm.coolMs + 1 < 10000 then { s with thm.coolMs := s.thm.coolMs + 1 }
    else (({ s with thm.coolMs := 0 } : State).wr F.SE_THROTTLE_PAUSE (p - 1)).setBudget
  else { s with thm.coolMs := 0 }

/-- DIE_SAMPLE (R318, R319): STF-C, STF-P, STF-H and motion controller, every 1 ms; a chip without a reading gives none. -/
def execDieSample (c p hh mot : Option Int) (s : State) : Out :=
  let put (s : State) (f : Field) : Option Int → State
    | some t => s.wrI f (clampI (-127) 127 t)
    | none => s.wr f (markS 8)
  let s1 := put (put (put (put s F.THM_DIE_CTL_STF_C c) F.THM_DIE_CTL_STF_P p) F.THM_DIE_CTL_STF_H hh) F.THM_DIE_CTL_MOT mot
  let s2 : State := match mot with
    | some t =>
      if 125 ≤ t then
        let s3 := [0, 1].foldl (fun s x => if (s.axis x).causeDie then s.modAxis x fun a => { a with causeAt := s.time.count } else s) s1
        { s3 with mot.dieMs := s3.mot.dieMs + 1 }
      else { s1 with mot.dieMs := 0 }
    | none => s1
  .next <| match c with
    | none => s2
    | some t =>
      let pk := if t < s.rdI F.THM_DIE_CFG_SHUTDOWN_C ∧ s.thm.shutting = false then -128 else max s.thm.peak t
      let hot := if t < s.rdI F.THM_DIE_CFG_SHUTDOWN_C then 0 else s.thm.hotMs + 1
      ({ s2 with thm.peak := pk, thm.hotMs := hot } : State).throttle t

/-- A card's die has read at or above SEG_HOT_C for 10 s (R321). -/
def State.segHotNow (s : State) (k : Nat) : Bool :=
  match (s.segOf k).hotAt with
  | some t => decide (t + 2500000000 ≤ s.time.count)
  | none => false

/-- SEG_HOT (R321). -/
def execSegHot (k : Nat) (s : State) : Out :=
  .next <| if s.segOk k && s.segHotNow k then s.flag Fl.THM_EVENT_SEG_HOT { system := true, idx := k } else s

/-! ### Tuning (R317) -/

/-- The mean of the captured surface temperatures of each row. -/
def tuneMeans (rows : List (Nat × List Int)) : List Rat :=
  rows.map fun r => let l := r.2.drop 1; if l.isEmpty then 0 else (l.sum : Rat) / l.length

/-- TUNE_DONE (R317), once the duration has passed from the generator's start: the fit, the proposal τc = θ, Kc = τ / (K (θ + τc)), Ti = min(τ, 4 (θ + τc)); RANGE below 0.50 °C. -/
def execTuneDone (s : State) : Out :=
  .next <| match s.thm.tune with
    | none => s
    | some t =>
      if s.plumbIdx < t.start + 4000 * t.dur then s else
      let fit := Config.tuneFit (tuneMeans s.se.cap.rows) t.step t.dur
      let gain := fit.1
      let tau := fit.2.1
      let theta := fit.2.2
      if |gain * t.step / 100| < 1 / 2 then (s.tuneEnd .range []).thmDrive
      else
        let d := s.draw
        let kc : Int := if gain * theta = 0 then d.1 else ratRound (100 * (tau / (gain * (2 * theta))))
        let s1 := if gain * theta = 0 then d.2 else s
        let r : TuneRes := { gain := ratRound (1000 * gain), tau := ratRound tau, theta := ratRound theta, kc := kc
                             ti := (ratRound (min tau (8 * theta))).toNat }
        (({ s1 with thm.tuneRes := some r } : State).tuneEnd .ok [r.gain, r.tau, r.theta, r.kc, (r.ti : Int)]).thmDrive

end Sys2Proof.Machine
end

