-- ==== Sys2Proof/Machine/SeStep.lean ====
section
/-! DEFINITION. Steps of the state engine as its owners see them (R194–R204): the step of a PLUMB instant, a step that the
sequencer stops, and the power-up of the domain. -/

namespace Sys2Proof.Machine

/-- EST adds I × (V − ŷ1) of each cell after a step of slot 0 (R239), in mA · µV. -/
def State.estHeat (s : State) : State :=
  ((s.seInsts 0).zip s.cellList).foldl (fun s p =>
    let c := s.estCell p.2
    s.setEst p.2 { c with pSum := c.pSum + p.1.lastIn.getD 0 0 * (p.1.lastIn.getD 1 0 - p.1.y.getD 1 0), pN := c.pN + 1 }) s

/-- The kernels of a step in slot order, then what EST and THM do with them. -/
def State.seKernels (s : State) (slots : List Nat) (n : Nat) : State :=
  let s1 := slots.foldl (fun t k => State.seKernelStep s t k n) s
  let s2 := if slots.contains 0 then s1.estHeat else s1
  if slots.contains 2 then s2.thmDrive else s2

/-- The start of a step, with the reload of slot 0 where it commits (R218). -/
def State.seBegin (s : State) (n : Nat) : State :=
  let wait := (s.seSlot 0).committing && (s.seSlot 0).shadow.isSome
  let s1 := s.seStepStart n
  if wait && !(s1.seSlot 0).committing && s1.seEnabled 0 then s1.estCommitted.confirmWait else s1

/-- SE_STEP (R194, R198): the step that starts 1 µs after the PLUMB instant runs its due kernels and completes. -/
def execSeStep (s : State) : Out :=
  .next <|
    if !s.isOn F.SE_STATUS_POWERED then s
    else
      let n := s.seInstant
      let s1 := s.seBegin n
      (s1.seKernels (s1.seDueSlots n) n).wr64 F.SE_STEP_IDX_LO_IDX F.SE_STEP_IDX_HI_IDX n

/-- A row whose step was stopped repeats the previous one and sets GAP (R208). -/
def State.capGap (s : State) (stopped : List Nat) (n : Nat) : State :=
  if stopped.any s.capPaced then
    (match s.se.cap.rows.getLast? with | some r => s.capRow n r.2 | none => s).wr F.SE_CAP_STATUS_GAP 1
  else s

/-- SE_STEP_OVERRUN (R197): 240 µs after it began the sequencer stops the step; `done` of its due kernels have committed. -/
def execSeStepOverrun (done : Nat) (s : State) : Out :=
  .next <|
    if !s.isOn F.SE_STATUS_POWERED then s
    else
      let n := s.seInstant
      let s1 := s.seBegin n
      let due := s1.seDueSlots n
      ((s1.seKernels (due.take done) n).capGap (due.drop done) n).flag Fl.SE_EVENT_OVERRUN { system := true, status := .internal }

/-- SE_POWER_UP (R175, R204, R219, R311, R313): the memories are empty, the lane self-test passes or fails; THM writes the
NTC map, EST and THM load their kernels. -/
def execSePowerUp (lanesOk : Bool) (s : State) : Out :=
  let s1 := s.seLost
  .next <|
    if lanesOk then
      let s2 := ({ s1 with se.ntcMap := s1.ntcMap } : State).wrs [(F.SE_STATUS_POWERED, 1), (F.SE_STATUS_LANE_FAULT, 0)]
      let s3 := if !s2.est.parked then s2.estRestore else if s2.closed || s2.safe.closing ≠ .idle then s2.estUnpark else s2
      s3.thmMode.setFloor
    else ((s1.wr F.SE_STATUS_LANE_FAULT 1).detail true [7]).setFloor

end Sys2Proof.Machine
end

