-- ==== Sys2Proof/Machine/Measure.lean ====
section
/-! DEFINITION. The path of one instant (R14): the PLUMB instant (R71–R75), frames at the ring master (R88–R95), what
channel A does with the instant (R152, R281, R289), intake on STF-C (R141–R147, R309) and averaging windows (R76–R79). -/

namespace Sys2Proof.Machine

/-! ### The PLUMB instant -/

/-- The timebase count of the latest instant in 2⁻³² counts. -/
def State.instant32 (s : State) : Nat := s.seg.nextAt.getD (s.time.count * two32)

/-- Corrected time in ns at a timebase count in 2⁻³² counts (R348). -/
def State.timeAt32 (s : State) (c : Nat) : Int :=
  (s.time.offset + (c : Int) * 4 + (c : Int) * 4 * s.rdI F.TIME_RATE_VALUE / 1099511627776) / 4294967296

/-- The PLUMB timeline less corrected time at the latest instant, in ns (R362). -/
def State.plumbDiff (s : State) : Int := (s.plumbIdx : Int) * 250000 - s.timeAt32 s.instant32

/-- THM recommits its kernels and EST reloads on RELABEL (R203, R218). -/
def State.recommit (s : State) : State :=
  let one (s : State) (k : Nat) : State := match (s.seSlot k).kern with
    | some q => if s.seBusy k then s.seLoadFw k q (s.seInsts k) else s
    | none => s
  (one (one s 1) 2).estApply

/-- Renumber the index by the nearest whole number of periods, the remainder within (−125 µs, +125 µs] (R74, R203). -/
def State.plumbRelabel (s : State) : State :=
  let d := -s.plumbDiff
  if d.natAbs ≤ 125000 then s
  else
    let k := -((125000 - d) / 250000)
    let s1 := s.wr64 F.SEG_PLUMB_IDX_LO_IDX_LO F.SEG_PLUMB_IDX_HI_IDX_HI ((s.plumbIdx : Int) + k).toNat
    let mark (x : Seg) : Seg := { x with blk := { x.blk with spoilt := true }, rotAt := ((x.rotAt : Int) + k).toNat }
    let s2 := ({ s1 with se.slip := s1.se.slip + k, se.slots := s1.se.slots.map (fun p => (p.1, { p.2 with stale := p.2.kern.isSome }))
                         seg.segs := s1.seg.segs.map fun p => (p.1, mark p.2) } : State).wr
      F.SE_STATUS_PHASE_SLIP 1
    (s2.flag Fl.SEG_EVENT_RELABEL { system := true, stfP := true, detail := leBytes 8 (ofSigned 64 k) }).recommit

/-- Corrected time counts as locked (R75, R351). -/
def State.timeLocked (s : State) : Bool :=
  let st := s.rd F.TIME_STATUS_STATE
  s.pwr.ctl && (st == 2 || st == 3 || st == 4) && !s.isOn F.TIME_STATUS_ALIGN_DEGRADED

/-- The phase term in 0.0001 ppm (R73): towards the rate from which 10 ppm/s brings the difference to 0, within ±50 ppm, in steps of
10 ppm/s. -/
def phaseNext (old diff : Int) : Int :=
  let m : Int := min 500000 (isqrt (2000000 * diff.natAbs))
  let want := if 0 < diff then -m else m
  clampI (old - 25) (old + 25) want

/-- Counts, in 2⁻³² counts, from an instant to the next one: 250 µs of corrected time at the line rate, whose rate term follows the rate
of corrected time (the safety oscillator's own while the controller card is absent) and whose phase term is `p` (R73). -/
def State.periodCounts (s : State) (p : Int) : Nat :=
  let rate : Int := if s.pwr.ctl then s.rdI F.TIME_RATE_VALUE else 0
  (62500 * 4294967296 * 1099511627776 * 10000000000 / ((1099511627776 + rate) * (10000000000 + p))).toNat

/-- The instant on the line clock (R73, R362): the phase term, the next instant, TIME_PLUMB_DIFF and SEG_ALIGN, and ALIGN_LOST where the
frames become unaligned (R75). -/
def State.plumbAlign (s : State) : State :=
  let was := s.isOn F.SEG_ALIGN_ALIGNED
  let d := s.plumbDiff
  let ok := s.timeLocked && decide (d.natAbs ≤ 100)
  let p := phaseNext s.seg.phase (if s.pwr.ctl then d else 0)
  let s0 : State := { s with seg.phase := p, seg.nextAt := some (s.instant32 + s.periodCounts p) }
  let s1 := ((s0.wrI F.TIME_PLUMB_DIFF_VALUE (clampI (-2147483647) 2147483647 d)).wrI F.SEG_ALIGN_PHASE_TERM (roundDiv p 100)).wrs
    [(F.SEG_ALIGN_ALIGNED, if ok then 1 else 0), (F.SEG_ALIGN_SLEWING, if p = 0 then 0 else 1)]
  if was && !ok then s1.flag Fl.SEG_EVENT_ALIGN_LOST { stfP := true } else s1

/-- Characters in use in the period that ends, in % of 5000 (R90): marker, heartbeat, sample frames, command, response and echo
codewords. -/
def State.utilOf (s : State) : Nat :=
  let frames := (s.segList.filter fun k => s.segLive k && !(s.segOf k).cut).length
  (roundDiv (100 * (38 + 72 * frames + 37 * s.seg.words.length : Nat)) 5000).toNat

/-- The master sends its PLUMB marker to the bank (R259). -/
def State.sendMarker (s : State) : State :=
  if s.bankMaster then s.bankSend (.marker s.plumbIdx s.taiValid (s.isOn F.SEG_ALIGN_ALIGNED) []) else s

/-- STF-P refreshes its mirror every 1 ms (R308): the channels, and the time left of the reset window and of the withdrawal. -/
def State.safeMirror (s : State) : State :=
  if s.plumbIdx % 4 ≠ 0 ∨ s.safe.present = false ∨ s.rd F.PWR_DOM_ON_DOM / 4 % 2 = 0 then s
  else
    let ms (t : Nat) : Nat := (s.time.count - t) / 250000
    (s.wrB F.SAFE_STATUS_CH_A_OK s.safe.selfTest).wrs
      [(F.SAFE_STATUS_CH_B_OK, if s.safe.selfTest && s.rd F.PWR_DOM_ON_DOM / 2 % 2 == 1 then 1 else 0),
       (F.SAFE_RST_WINDOW_MS, if s.isOn F.SAFE_STATUS_RESET_WINDOW then 10000 - ms s.safe.windowAt else 0),
       (F.SAFE_WITHDRAW_REMAIN_S, if s.wdSlot = 0 then 0 else pWithdrawS s.safe.blockA - ms s.safe.wdAt / 1000)]

/-- The marker and heartbeat of an instant (R71, R93): RELABEL in the first period with the new numbering (R74).  The codewords of the
period before are gone. -/
def State.emitMarker (s : State) (relabel : Bool) : State :=
  let al := s.isOn F.SEG_ALIGN_ALIGNED
  ({ s with seg.beat := heartbeat s.plumbIdx al relabel, seg.words := [], seg.aligns := (al :: s.seg.aligns).take 4 } : State).wr
    F.LATH_STATUS_UTIL s.utilOf

/-! ### The shunt (R151–R155) -/

/-- 1 + TC × (Tshunt − 25 °C) where the term applies; none where TC = 0 is used instead (R153). -/
def State.shuntTerm (s : State) (t : Option Int) : Option Rat :=
  match t with
  | some t =>
    if s.isOn F.CIM_SHUNT_PARAM_TC_ENABLE && decide (-4000 ≤ t) && decide (t ≤ 12500) then
      some (1 + (toSigned 8 (s.rd F.CIM_SHUNT_PARAM_TC_PPM) : Rat) / 1000000 * ((t : Rat) - 2500) / 100)
    else none
  | none => none

/-- The shunt result of an instant and the charge of the period: shunt input in nV, and the sum of the bitstream over the
period's 1280 modulator periods in nV (R152, R153, R155). -/
def State.shuntTake (s : State) (shunt flux : Int) (t : Option Int) : State :=
  let term := s.shuntTerm t
  let f := term.getD 1
  let r := s.rd F.CIM_SHUNT_PARAM_R_SHUNT
  let sg : Int := if s.isOn F.CIM_SHUNT_PARAM_INVERT then -1 else 1
  let x := sg * shunt
  let beyond := decide (80000000 < shunt.natAbs)
  let i : Option Int := if beyond || r == 0 || f == 0 then none else some (ratRound (10 * (x : Rat) / (r * f)))
  let q : Int := if r = 0 ∨ f = 0 then 0 else ratRound ((sg * flux : Int) * 250 / 1280 * 4294967296 / (100 * (r : Rat) * f))
  let s1 : State := { s with cim.recent := ((i, decide (0 ≤ x)) :: s.cim.recent).take 4, cim.charge := s.cim.charge + q, cim.fresh := true }
  (s1.wrB F.CIM_STATUS_SHUNT_NTC_BAD term.isNone).mirrorCharge

/-- What the instant closes on a card: a frame that did not come counts as missed, and what conducted since the instant before is
kept (R92, R95). -/
def State.cardInstant (s : State) (k : Nat) : State :=
  let s1 := s.modSeg k fun x => { x with got := false, missed := if x.got then 0 else x.missed + 1 }
  let b := s1.balCard k
  if b.on = 0 ∧ b.part = (0, 0, 0) ∧ b.ivs.all (· == (0, 0, 0)) = true then s1
  else s1.setBal k { b with ivs := (b.part :: b.ivs).take 4, part := (b.on - (b.on &&& (b.free ||| b.pls)), b.free, b.pls) }

/-- Core 3 takes the work of the core with which it has agreed, at an instant of which the index is a multiple of 4000 (R503); then no
spare core is left. -/
def State.coreTakes (s : State) : State :=
  match s.recorder.coreShadow with
  | some c =>
    if s.recorder.coreAgreed && decide (s.plumbIdx % 4000 = 0) then
      let s1 : State := { s with recorder.coreShadow := none, recorder.coreAgreed := false }
      let s2 := (((s1.spareTook 1 c 3).wr F.UC_STATUS_CORE_REPLACED c).exhaust 1).finish 0x0B04 coreKey .ok
      s2.nextJobs s2.recorder.relocWait
    else s
  | none => s

/-- PLUMB_INSTANT (R14, R71, R73–R75, R205): `shunt` and `flux` the shunt input and bitstream sum, `tShunt` its NTC in 0.01 °C. -/
def execPlumbInstant (shunt flux : Int) (tShunt : Option Int) (s : State) : Out :=
  let s1 : State := { s with time.count := max s.time.count (s.instant32 / two32) }
  let s2 := s1.wr64 F.SEG_PLUMB_IDX_LO_IDX_LO F.SEG_PLUMB_IDX_HI_IDX_HI (s1.plumbIdx + 1)
  let s3 := if s2.pwr.ctl then s2.plumbRelabel else s2
  let s4 := (s3.plumbAlign.emitMarker (s3.plumbIdx != s2.plumbIdx)).shuntTake shunt flux tShunt
  let s5 := s4.segList.foldl (fun s k => s.cardInstant k) s4
  .next s5.genTick.perturbTick.coreTakes.confirmWait.sendMarker.safeMirror

/-! ### What channel A does with an instant's current (R152, R281, R288, R289, R291) -/

/-- The shunt result of the instant whose frames arrive. -/
def State.instantCurrent (s : State) : Option Int × Bool := s.cim.recent.getD s.filtLag (none, true)

/-- The current for SLC: the larger magnitude of shunt and Hall while XCHECK_ACTIVE (R291). -/
def State.slcCurrent (s : State) (i : Int) : Int :=
  let h := s.rdI F.CIM_HALL_CURRENT_MA
  if s.isOn F.SAFE_STATUS_XCHECK_ACTIVE && decide (i.natAbs < h.natAbs) then h else i

/-- SLC_WARN and the internal inhibit of the current's direction, until 4000 instants below the level (R289). -/
def State.slcWarn (s : State) (c : Option Int × Bool) : State :=
  if s.safe.blockA.isEmpty then s
  else
    let i := c.1.map s.slcCurrent
    let above := match i with | some v => decide (s.slcLevel < v.natAbs) | none => true
    let below := match i with | some v => decide (v.natAbs < s.slcLevel) | none => false
    let chg := match i with | some v => decide (0 ≤ v) | none => c.2
    if above then
      ({ s with cim.warnQuiet := 0, safe.inhChg := s.safe.inhChg || chg, safe.inhDis := s.safe.inhDis || !chg } : State).wr
        F.SAFE_STATUS_SLC_WARN 1
    else
      let n := if below then s.cim.warnQuiet + 1 else 0
      let s1 : State := { s with cim.warnQuiet := n }
      if 4000 ≤ n then ({ s1 with safe.inhChg := false, safe.inhDis := false } : State).wr F.SAFE_STATUS_SLC_WARN 0 else s1

/-- Step 5 of R281 at an instant: the precharge energy, and the end of R282 above PC_E_MAX.  The current of an instant beyond
range is open (assumption log 61). -/
def State.prechargeInstant (s : State) (c : Option Int) : State :=
  if s.safe.closing ≠ .precharge then s
  else
    let d := s.draw
    let sq (s : State) (e : Nat) : State :=
      { s with safe.energy := s.safe.energy + e, safe.instants := s.safe.instants + 1 }
    let s1 := match c with
      | some v => sq s (v.natAbs * v.natAbs)
      | none => sq d.2 (d.1.natAbs * d.1.natAbs)
    if 100 * pPcEmax s1.safe.blockA < s1.pcEnergy then s1.noteClosing.failClosing 3 else s1

/-- Channel A's counts of R288 and R290 at an instant; an input beyond ±80 mV counts as above every level in its direction. -/
def State.slcCount (s : State) (c : Option Int × Bool) : State :=
  let b := s.safe.blockA
  let i := c.1.map s.slcCurrent
  let above (l : Nat) : Bool := match i with | some v => decide (l < v.natAbs) | none => true
  let tol : Int := 100 * pSdiTol b
  let chg := match i with | some v => decide (tol < v) | none => c.2
  let dis := match i with | some v => decide (v < -tol) | none => !c.2
  let next (n : Nat) (on : Bool) : Nat := if on && !b.isEmpty then n + 1 else 0
  { s with cim.slcPk := next s.cim.slcPk (above (1000 * pSlcPeak b)), cim.slcTm := next s.cim.slcTm (above s.slcLevel)
           cim.sdiChg := next s.cim.sdiChg (chg && s.isOn F.SAFE_STATUS_SDI_CHG)
           cim.sdiDis := next s.cim.sdiDis (dis && s.isOn F.SAFE_STATUS_SDI_DIS) }

/-- What a closing watches at an instant (R281, R298): the largest |I| while KPC alone is closed, and how long |I| has been at most
PC_I_DONE in step 5.  Of an input beyond ±80 mV only that bound is known (assumption log 61). -/
def State.closingWatch (s : State) (c : Option Int) : State :=
  let b := s.safe.blockA
  let m (s : State) (i : Nat) : State :=
    { s with safe.peak := if s.safe.closing = .weldCheck ∨ s.safe.weldTest = true then max s.safe.peak i else s.safe.peak
             safe.low := if s.safe.closing = .precharge ∧ i ≤ 10 * pPcDone b then s.safe.low + 1 else 0 }
  match c with
  | some v => m s v.natAbs
  | none =>
    let d := s.draw
    m d.2 (max (800000000 / max 1 (s.rd F.CIM_SHUNT_PARAM_R_SHUNT)) d.1.natAbs)

/-- |I| reaches PC_I_WELD in step 3 of a closing (R282). -/
def State.weldWatch (s : State) : State :=
  if s.safe.closing = .weldCheck ∧ 10 * pPcWeld s.safe.blockA ≤ s.safe.peak then s.raiseCause .weldKn 1 else s

/-- Channel A and the registers take the current of an instant, once for all its frames. -/
def State.takeCurrent (s : State) : State :=
  if !s.cim.fresh then s
  else
    let c := s.instantCurrent
    let quiet := match c.1 with | some v => decide (v.natAbs ≤ 1000 * pSvcMax s.safe.blockA) | none => false
    let s1 : State := { s with cim.fresh := false, cim.overRange := if c.1.isSome then none else some c.2
                               cim.last100 := (c.1 :: s.cim.last100).take 400
                               cim.svcQuiet := if quiet then s.cim.svcQuiet + 1 else 0 }
    let s2 := s1.wr F.CIM_CURRENT_MA (match c.1 with | some v => satS 32 v | none => markS 32)
    let s3 : State := match c.1 with
      | some v => { s2 with est.iSum := s2.est.iSum + v, est.iN := s2.est.iN + 1 }
      | none => s2
    (((((s3.bankCurrent c.1 (s3.plumbIdx - s3.filtLag)).slcWarn c).slcCount c).closingWatch c.1).weldWatch).prechargeInstant c.1

/-! ### SVW and STW conditions present (R284, R292) -/

/-- A position of a card lies beyond the window (R113, R284). -/
def State.svwBeyond (s : State) (k : Nat) : Bool :=
  (numbersFrom 1 16).any fun j => s.svwOut k j true == some true || s.svwOut k j false == some true

/-- An SVW condition is present: a cell beyond the window, a comparator latch or SENSE_LOSS. -/
def State.svwPresent (s : State) : Bool :=
  s.segList.any fun k => s.isOn (F.SEG_WIRE_SENSE_LOSS k) || s.rd (F.SEG_CMP_OV_LATCH k) != 0 || s.rd (F.SEG_CMP_UV_LATCH k) != 0 ||
    (s.segLive k && s.svwBeyond k)

/-- The demand bits of SVW and STW and the charge inhibit fall when their conditions are no longer present. -/
def State.clearDemands (s : State) : State :=
  if s.safe.blockA.isEmpty then s
  else
    let s1 := if s.isOn F.SAFE_STATUS_SVW_DEMAND && !s.svwPresent then s.wr F.SAFE_STATUS_SVW_DEMAND 0 else s
    if s1.isOn F.SAFE_STATUS_STW_DEMAND || s1.safe.stwInhibit || s1.safe.startOut || s1.safe.lowOpen then
      let l := stwCodes s1.safe.blockA
      let c := s1.ntcCodes
      let hot (n : Nat) : Bool := c.any fun x => decide (x < l.getD n 0)
      let cold (n : Nat) : Bool := c.any fun x => decide (l.getD n 0 < x)
      let s2 : State := { s1 with safe.stwInhibit := s1.safe.stwInhibit && cold 2, safe.lowOpen := s1.safe.lowOpen && cold 1
                                  safe.startOut := s1.safe.startOut && (hot 3 || cold 4) }
      let s3 := if s2.isOn F.SAFE_STATUS_STW_DEMAND && !hot 0 && !cold 1 then s2.wr F.SAFE_STATUS_STW_DEMAND 0 else s2
      s3.mirrorInputs.setReady
    else s1

/-! ### Frames at the ring master (R92–R95) -/

/-- Count what arrived of a copy on a direction (R26, R94). -/
def State.countCopy (s : State) (c : CopyRes) (corr bad : Field) : State :=
  match c with
  | .absent => s
  | .good _ n => ({ s with recorder.corrected := s.recorder.corrected + n } : State).wr corr (s.rd corr + n)
  | .bad => s.wr bad (s.rd bad + 1)

/-- A live card's frame is presented: results, NTC code, die, spare and flags (R85, R92); its instant enters the wire test and the
spare's dwell. -/
def State.frameTake (s : State) (k : Nat) (f : SampleFrame) : State :=
  let n := s.frameIdx
  let c := s.conduction k
  let s0 := s.modSeg k fun x => ({ x with
    frame := some f, got := true, ntc := Tbl.put x.ntc (f.seq % 8 + 1) f.ntc, selftest := x.selftest || f.selftest, free := c.2.1
    pulse := c.2.2 }.blockTake n f).dwellTake n f
  let s1 := s0.modSeg k fun x => { x with beyond := if s0.safe.blockA.isEmpty then [] else s0.svwCount k }
  let hot := decide (s1.rdI F.THM_DIE_CFG_SEG_HOT_C ≤ f.die) && decide (f.die ≠ -128)
  let s1 := s1.modSeg k fun x => { x with hotAt := if hot then x.hotAt.or (some s1.time.count) else none }
  let s2 := (s1.wrI (F.SEG_STATE_DIE k) f.die).wrs
    [(F.SEG_STATE_SPARE_POS k, f.sparePos), (F.SEG_STATE_TIMING_DIR k, if f.timingB then 1 else 0)]
  if f.selftest && !(s.segOf k).selftest then s2.setReady.gateTone else s2

/-- A LOST card is heard again (R95): it is commanded back to step 4 of R100. -/
def State.rejoin (s : State) (k : Nat) : State :=
  ({ s.modSeg k fun x => { x with join := 4, led := 0 } with seg.words := s.seg.words ++ [lathWord [2 * 32 + k]] } : State).pathsOff k

/-- FRAME_RECEIVED (R26, R94, R95): slot `k`'s card sends its frame of the instant before the latest marker, from what its converters
give, in two copies. -/
def execFrameReceived (k : Nat) (a b : Copy) (r : CardRead) (s : State) : Out :=
  .next <|
    if !s.segOk k || !(s.segOf k).present || (s.segOf k).blank || (s.segOf k).cut then s
    else
      let c := s.copiesOf k a b r
      let s1 := ((s.takeCurrent.countCopy c.1 F.LATH_ERR_CNT_A_CORRECTED F.LATH_ERR_CNT_A_UNCORR_COPIES).countCopy c.2
        F.LATH_ERR_CNT_B_CORRECTED F.LATH_ERR_CNT_B_UNCORR_COPIES)
      match heard c with
      | some f =>
        if s1.segLive k then (s1.frameTake k f).clearDemands
        else if s1.segState k = segLOST ∧ (s.segOf k).join = 0 then s1.rejoin k
        else if s1.segState k = segJOINING then s1.modSeg k fun x => x.blockTake s1.frameIdx (s1.cardFrame k r)
        else s1
      | none =>
        if s1.segState k = segJOINING then s1.modSeg k fun x => x.blockTake s1.frameIdx (s1.cardFrame k r)
        else if a = .absent ∧ b = .absent then s1
        else (s1.raiseCause .safetyMemory 3).detail true [8, k] .integrity true

/-! ### Intake: results and their correction (R84, R113, R142, R145) -/

/-- Positions whose path or a neighbour's conducted during an instant. -/
def nearMap (map j : Nat) : Nat := map &&& (2 ^ (j - 1) ||| (if j = 1 then 0 else 2 ^ (j - 2)) ||| (if j = 16 then 0 else 2 ^ j))

/-- The result of a position as the host receives it, in µV with quality: DERIVED under R84, INDETERMINATE under R113 in
the pair of a single cell-wire fault and as it stands elsewhere (R114). -/
def State.cellResult (s : State) (k j : Nat) (f : SampleFrame) : Option Rat × Nat :=
  let x := s.segOf k
  let raw (j : Nat) : Option Rat := match f.cells.getD (j - 1) missing24 with | v => if v = missing24 then none else some (v : Rat)
  let sum : Option Rat := if f.sum = missing24 then none else some (16 * f.sum : Int)
  let less : Option Rat := ((numbersFrom 1 16).filter (· != j)).foldl
    (fun acc i => match acc, raw i with | some t, some v => some (t - v) | _, _ => none) sum
  let prov := if s.segState k = segPROVISIONAL then 1 else 0
  let q (v : Option Rat) (n : Nat) : Option Rat × Nat := (v, if v.isNone then 4 else n)
  if x.ind / 2 ^ (j - 1) % 2 = 1 then
    match s.latchedWire k with
    | some w =>
      if wireCells w / 2 ^ (j - 1) % 2 = 0 then q (raw j) 3
      else if w = 0 ∨ w = 16 then q less 3
      else q (match raw (pairOf w).1, raw (pairOf w).2 with | some a, some b => some ((a + b) / 2) | _, _ => none) 3
    | none => q (raw j) 3
  else if x.derived = j then q less 2
  else q (raw j) prov

/-- Current of path `j` at an instant in mA (R131, R142). -/
def State.pathCurrent (s : State) (k : Nat) (f : SampleFrame) (j : Nat) : Rat :=
  if j = 0 ∨ 16 < j ∨ f.balMap / 2 ^ (j - 1) % 2 = 0 then 0
  else match f.cells.getD (j - 1) missing24 with
    | v => if v = missing24 then 0 else (v : Rat) / s.rpath k j

/-- The correction of R142 for position `j` in µV: i[j]·rw[j] − i[j−1]·rw[j−1]. -/
def State.correction (s : State) (k : Nat) (f : SampleFrame) (j : Nat) : Rat :=
  let i (w : Nat) : Rat := s.pathCurrent k f w - s.pathCurrent k f (w + 1)
  let rw (w : Nat) : Rat := (s.rwOf k w).getD (Config.rwOpen k w)
  (i j * rw j - i (j - 1) * rw (j - 1)) / 1000

/-- A wire that the correction needs is not learned. -/
def State.corrOpen (s : State) (k : Nat) (f : SampleFrame) (j : Nat) : Bool :=
  [j - 1, j].any fun w => !s.learned k w && s.pathCurrent k f w != s.pathCurrent k f (w + 1)

/-- The results of a card at an instant as the SE takes them: corrected where affected, with quality. -/
def State.cardTake (s : State) (k : Nat) : List (Option Rat × Nat) :=
  match (s.segOf k).got, (s.segOf k).frame with
  | true, some f => (numbersFrom 1 16).map fun j =>
      let r := s.cellResult k j f
      if nearMap f.balMap j = 0 then r else (r.1.map fun v => v + s.correction k f j, r.2)
  | _, _ => List.replicate 16 (none, 4)

/-- SUM of a card at an instant in µV (R81, R112). -/
def State.sumTake (s : State) (k : Nat) : Option Int × Nat :=
  match (s.segOf k).got, (s.segOf k).frame with
  | true, some f =>
    if f.sum = missing24 then (none, 4)
    else (some (16 * f.sum), if (s.segOf k).indSum then 3 else if s.segState k = segPROVISIONAL then 1 else 0)
  | _, _ => (none, 4)

/-! ### Windows: what one instant adds (R78, R141, R142) -/

/-- Add a result that balancing does not touch. -/
def Avg.plain (a : Avg) (v : Rat) (q : Nat) (unal : Bool) : Avg :=
  { a with raw := a.raw + v, n := a.n + 1, clean := a.clean + v, cleanN := a.cleanN + 1, comp := a.comp + v, compN := a.compN + 1
           worst := max a.worst q, unaligned := a.unaligned || unal }

/-- Add a cell's result of instant `n`. -/
def State.avgCell (s : State) (k j n : Nat) (f : SampleFrame) (a : Avg) : Avg :=
  match s.cellResult k j f with
  | (none, _) => a
  | (some v, q) =>
    let near := nearMap f.balMap j
    let x := s.segOf k
    let clean := decide (n % 4 = 0) && near == 0 && x.pulse == 0
    let hit := near != 0
    let c := if hit then v + s.correction k f j else v
    let own := near &&& x.free != 0
    { a with raw := a.raw + v, n := a.n + 1, clean := if clean then a.clean + v else a.clean
             cleanN := if clean then a.cleanN + 1 else a.cleanN, comp := a.comp + c, compN := a.compN + 1
             affected := a.affected || hit, corrected := a.corrected || own, unlearned := a.unlearned || (hit && s.corrOpen k f j)
             worst := max a.worst q, unaligned := a.unaligned || !f.aligned }

/-- What an instant adds to a card's windows: 1–16 cells, 17 SUM, 18 SPARE. -/
def State.avgCard (s : State) (k n : Nat) : State :=
  match (s.segOf k).got, (s.segOf k).frame with
  | true, some f =>
    let a0 := (s.segOf k).avg
    let a1 := (numbersFrom 1 16).foldl (fun t j => Tbl.mod {} t j (s.avgCell k j n f)) a0
    let st := s.sumTake k
    let a2 := match st.1 with | some v => Tbl.mod {} a1 17 fun a => a.plain v st.2 (!f.aligned) | none => a1
    let prov := if s.segState k = segPROVISIONAL then 1 else 0
    let a3 := if f.spare = missing24 then a2 else Tbl.mod {} a2 18 fun a => a.plain f.spare prov (!f.aligned)
    s.modSeg k fun x => { x with avg := a3 }
  | _, _ => s

/-! ### Learning steps (R146, R147) -/

/-- Keep an accepted estimate in µΩ of a wire; learned wires show in BAL_RW, are kept on a move of more than 0.5 mΩ and
watched against RW_LIMIT. -/
def State.rwAccept (s : State) (k w : Nat) (e : Rat) : State :=
  let r := s.rwLearn k w
  let lim : Rat := 1000 * (s.rd F.BAL_CFG_RW_LIMIT : Rat)
  let before := match s.rwOf k w with | some m => decide (lim < m) | none => false
  let r1 : RwLearn := { r with est := (e :: r.est).take 4096, count := r.count + 1 }
  if r1.count < 4096 then { s with bal.rw := Tbl.put s.bal.rw (32 * k + w) r1 }
  else
    let m := r1.mean
    let far := match r1.kept with | some q => decide (500 < |m - q|) | none => true
    let s1 : State := { s with bal.rw := Tbl.put s.bal.rw (32 * k + w) { r1 with kept := if far then some m else r1.kept } }
    let v := satU 16 (ratRound (m / 2))
    let s2 := if w % 2 = 0 then s1.wr (F.BAL_RW_RW_LO k (w / 2)) v else s1.wr (F.BAL_RW_RW_HI k (w / 2)) v
    if !before && decide (lim < m) then s2.flag Fl.BAL_EVENT_RW_LIMIT { system := true, idx := k, detail := [w] } else s2

def Step.cell (t : Step) (j : Nat) : Option Rat :=
  match t.cells.getD (j - 1) missing24 with | v => if v = missing24 then none else some (v : Rat)

/-- A step of path `j` with instants c0, c2, c4 and all instants between them is accepted (R147). -/
def stepOk (l : List Step) (j : Nat) (c0 c2 c4 : Step) : Bool :=
  let bit (t : Step) (i : Nat) : Nat := t.map / 2 ^ (i - 1) % 2
  bit c0 j == 0 && bit c2 j == 1 && bit c4 j == 0 &&
  (match c0.current, c2.current, c4.current with
    | some a, some b, some c => decide (max a (max b c) - min a (min b c) ≤ 2000)
    | _, _, _ => false) &&
  [j - 2, j - 1, j + 1, j + 2].all fun i => decide (i < 1) || i == j || decide (16 < i) || l.all fun t => bit t i == bit c0 i

/-- The estimates of a step of path `j` (R146). -/
def State.learnStep (s : State) (k j : Nat) (c0 c2 c4 : Step) : State :=
  let d (m : Nat) : Option Rat := match c0.cell m, c2.cell m, c4.cell m with
    | some a, some b, some c => some (b - (a + c) / 2)
    | _, _, _ => none
  match c2.cell j with
  | none => s
  | some v =>
    if v = 0 then s
    else
      let i : Rat := v / s.rpath k j
      let est (s : State) (w : Nat) (x : Option Rat) : State := match x with | some e => s.rwAccept k w e | none => s
      let s1 := if j ≤ 15 then est s j ((d (j + 1)).map fun x => 1000 * x / i) else s
      let s2 := if 2 ≤ j then est s1 (j - 1) ((d (j - 1)).map fun x => 1000 * x / i) else s1
      let known (w : Nat) : Bool := !(s2.rwLearn k w).est.isEmpty
      let s3 := if j = 1 ∧ known 1 = true then est s2 0 ((d 1).map fun x => -(1000 * x / i) - (s2.rwLearn k 1).mean) else s2
      if j = 16 ∧ known 15 = true then est s3 16 ((d 16).map fun x => -(1000 * x / i) - (s3.rwLearn k 15).mean) else s3

/-- Steps of a card that close at instant `n` (R146): every slot with FILTER 0, the learning pulse with FILTER 1. -/
def State.learnCard (s : State) (k n : Nat) (i : Option Int) : State :=
  match (s.segOf k).got, (s.segOf k).frame with
  | true, some f =>
    let t : Step := { idx := n, cells := f.cells, map := f.balMap, current := i }
    let b := s.balCard k
    let h := (t :: b.hist).take 13
    let s1 := s.setBal k { b with hist := h }
    let find (m : Nat) : Option Step := h.find? fun t => t.idx == m
    let run (s : State) (span mid j : Nat) : State :=
      match find (n - span), find (n - span + mid) with
      | some c0, some c2 =>
        let l := h.filter fun t => decide (n - span ≤ t.idx)
        if s.interleaved k j && stepOk l j c0 c2 t then s.learnStep k j c0 c2 t else s
      | _, _ => s
    if s1.isOn F.SEG_FILT_CFG_FILTER_ACTIVE then
      if n % 256 = 12 ∧ b.pulsing = true then run s1 12 5 b.pulse else s1
    else if n % 4 = 0 ∧ 4 ≤ n then (numbersFrom 1 16).foldl (fun s j => run s 4 2 j) s1
    else s1
  | _, _ => s

/-- BAL_LEARN_RW completes when every wire of its segments is learned (R149); LEARNING is 1 while some wire is not (R147). -/
def State.learnDone (s : State) : State :=
  let whole (s : State) (k : Nat) : Bool := (numbersFrom 0 17).all fun w => s.learned k w
  let s1 := (s.hrt.ops.filter fun o => o.opcode == 0x0306).foldl (fun s o =>
    if (s.segArg o.key).all (whole s) then s.finish 0x0306 o.key .ok else s) s
  s1.wrB F.BAL_STATUS_LEARNING (!s1.segList.all (whole s1))

/-! ### NTCs (R293, R309, R310) -/

/-- The NTC field of a frame becomes a temperature and counts in the present second (R310). -/
def State.ntcTake (s : State) (k : Nat) : State :=
  match (s.segOf k).got, (s.segOf k).frame with
  | true, some f =>
    let q := f.seq % 8 + 1
    let n := 8 * (k - 1) + q
    let t := match s.codeTemp f.ntc with | some t => if s.ntcImplausible k q t then none else some t | none => none
    let ql := if t.isNone then 4 else if s.segState k = segPROVISIONAL then 1 else 0
    let m := Tbl.get ({} : NtcSum) s.thm.sums n
    let m1 : NtcSum := match t with | some v => { sum := m.sum + v, n := m.n + 1, qual := max m.qual ql } | none => m
    { s with thm.ntc := Tbl.put s.thm.ntc n (t, ql), thm.sums := Tbl.put s.thm.sums n m1 }
  | _, _ => s

/-! ### Charge bled (R131, R217) and the correlation unit (R210) -/

/-- Add the charge that each conducting path of a card bled in the period, in Ah. -/
def State.bledCard (s : State) (k : Nat) : State :=
  match (s.segOf k).got, (s.segOf k).frame with
  | true, some f =>
    if f.balMap = 0 then s
    else (numbersFrom 1 16).foldl (fun s j =>
      let q := s.pathCurrent k f j / 14400000000
      if q = 0 then s
      else
        let c := s.estCell (cellOf k j)
        s.setEst (cellOf k j) { c with bled := c.bled + q, bledAll := c.bledAll + q }) s
  | _, _ => s

/-- One instant of one bin: results by cell with quality, and whether the cell's paths changed state. -/
def CorrBin.add (b : CorrBin) (cells : List ((Option Int × Nat) × Bool)) (i : Option Int) : CorrBin :=
  if b.total ≤ b.done then b
  else
    let phi := b.k * b.done % two32
    let co := sineQ30 (phi + 1073741824)
    let si := sineQ30 phi
    let old (n : Nat) : CorrCell := b.cells.getD n {}
    { b with done := b.done + 1, ic := b.ic + i.getD 0 * co, is := b.is + i.getD 0 * si
             cells := (cells.zip (numbersFrom 0 cells.length)).map fun p =>
               let c := old p.2
               match p.1.1.1 with
               | some v => { c := c.c + v * co, s := c.s + v * si, n := c.n + 1, spoilt := c.spoilt || p.1.2 || p.1.1.2 != 0 }
               | none => { c with spoilt := true } }

/-- The correlation unit takes an instant (R210, R211). -/
def State.corrTake (s : State) (n : Nat) (t : Intake) : State :=
  if !s.isOn F.SE_STATUS_CORR_RUNNING || decide (n < s.se.corrStart) then s
  else
    let map (k : Nat) : Nat := match (s.segOf k).frame with | some f => f.balMap | none => 0
    let changed (i : Nat) : Bool :=
      let k := segOfCell i
      Tbl.has s.se.corrMaps k && nearMap (map k ^^^ Tbl.get 0 s.se.corrMaps k) (posOfCell i) != 0
    let cells := t.cells.zip ((numbersFrom 1 t.cells.length).map changed)
    { s with se.corr := s.se.corr.map fun p => (p.1, p.2.add cells t.current)
             se.corrMaps := s.segList.foldl (fun m k => Tbl.put m k (map k)) s.se.corrMaps }

/-! ### Intake and windows as steps -/

/-- Intake is due to take instant `n`: every instant in P0–P2, every 16th in P3 (R49, R78). -/
def State.intakeDue (s : State) (n : Nat) : Bool :=
  let p := s.rd F.PWR_STATE_STATE
  s.pwr.ctl && (decide (p < 3) || (p == 3 && n % 16 == 0))

/-- What the SE finds of an instant (R183, R184). -/
def State.intakeRec (s : State) (n : Nat) (i : Option Int) : Intake :=
  let cells := s.segList.flatMap fun k => (s.cardTake k).map fun r => (r.1.map ratRound, r.2)
  { idx := n, cells := cells, sums := s.segList.map s.sumTake, current := i
    ntc := (numbersFrom 1 (8 * s.segs)).map s.ntcNow
    vstring := if s.rd F.CIM_VSTRING_MV = markS 32 then none else some (s.rdI F.CIM_VSTRING_MV) }

/-- The first instant taken after a start opens a window, partial unless it stands at a multiple of N (R76, R78). -/
def State.openWin (s : State) (n : Nat) : State :=
  if s.seg.winOn then s
  else
    let big := s.rd F.SEG_AVG_CFG_N_M1 + 1
    { s with seg.winOn := true, seg.winStart := n, seg.winLen := big, seg.partialWin := n % big != 0 }

/-- The guard of R137 acts on paths that it does not hold yet. -/
def State.guardCard (s : State) (k : Nat) : State :=
  if !(s.segOf k).got then s
  else (numbersFrom 1 16).foldl (fun s j =>
    if (s.balCard k).guard / 2 ^ (j - 1) % 2 = 0 && s.guardHit k j then s.cutoff k j else s) s

/-- FRAME_INTAKE (R14, R137, R141–R147, R309): the frames of the instant before the latest one, two before with FILTER 1. -/
def execFrameIntake (s : State) : Out :=
  .next <|
    if s.plumbIdx < s.filtLag then s
    else
      let n := s.plumbIdx - s.filtLag
      let s1 := s.segList.foldl State.guardCard s.takeCurrent
      if !s1.intakeDue n then s1
      else
        let i := s1.instantCurrent.1
        let s2 := s1.segList.foldl (fun s k => (((s.ntcTake k).avgCard k n).bledCard k).learnCard k n i) s1
        let s3 := s2.segList.foldl (fun s k => s.modSeg k fun x => { x with taken := (s.cardTake k).map fun r => (r.1.getD 0, r.2) }) s2
        let t := s3.intakeRec n i
        let s4 : State := { s3.openWin n with seg.due := s3.seg.due + 1, se.hist := (t :: s3.se.hist).take 4096 }
        (s4.corrTake n t).learnDone

/-- The value of a finished window: mean, quality and class (R78, R141, R142). -/
def Avg.close (a : Avg) (due : Nat) : Avg :=
  let miss := decide (2 * a.n < due) || a.n == 0
  let mean : Rat × Nat :=
    if !a.affected then (a.raw / a.n, 0)
    else if a.corrected then (a.comp / a.compN, if a.unlearned then 2 else 1)
    else if 0 < a.cleanN then (a.clean / a.cleanN, 0)
    else (a.comp / a.compN, if a.unlearned then 2 else 1)
  { mean := if miss then none else some mean.1, quality := if miss then 4 else a.worst, cls := if miss then 0 else mean.2
    markU := a.unaligned, volt := if miss || mean.2 == 2 then a.volt else some mean.1 }

/-- AVERAGING_WINDOW_END (R76–R78): the window up to the instant last taken in is finished, and the next begins; it runs up
to the next multiple of N, PARTIAL where it does not begin on one. -/
def execAveragingWindowEnd (s : State) : Out :=
  let n := s.plumbIdx - s.filtLag
  let due := s.seg.due
  let s1 := s.segList.foldl (fun s k => s.modSeg k fun x =>
    { x with avg := (numbersFrom 1 18).map fun j => (j, (Tbl.get ({} : Avg) x.avg j).close due) }) s
  let len := n + 1 - s.seg.winStart
  let big := s.rd F.SEG_AVG_CFG_N_M1 + 1
  .next { s1 with
    seg.lastStart := s.seg.winStart, seg.lastLen := len, seg.lastPartial := s.seg.partialWin || len != s.seg.winLen
    seg.due := 0, seg.winStart := n + 1, seg.winLen := big, seg.partialWin := (n + 1) % big != 0 }

end Sys2Proof.Machine
end

