-- ==== Sys2Proof/Machine/Time.lean ====
section
/-! DEFINITION. Time Base (R347–R367): the servo, states and sources, timed outputs and capture inputs. -/

namespace Sys2Proof.Machine

abbrev tFREE : Nat := 0
abbrev tACQUIRING : Nat := 1
abbrev tLOCKED : Nat := 2
abbrev tHOLDOVER : Nat := 3
abbrev tBANK : Nat := 4

def State.timeState (s : State) : Nat := s.rd F.TIME_STATUS_STATE

/-! ### The servo (R348, R353) -/

/-- ±100 ppm in units of 2⁻⁴⁰. -/
def rateMax : Int := 109951163

/-- A change of RATE rebases OFFSET, so that corrected time is continuous (R348). -/
def State.setRate (s : State) (r : Int) : State :=
  let t := s.timeAt s.time.count
  let s1 := s.wrI F.TIME_RATE_VALUE (clampI (-rateMax) rateMax r)
  let s2 : State := { s1 with time.offset := s1.time.offset + (t - s1.timeAt s1.time.count) }
  if s2.timeState = tLOCKED then { s2 with time.rates := s2.time.rates ++ [(s2.time.count, s2.rdI F.TIME_RATE_VALUE)] } else s2

/-- PLUMB timeline in ns now (R362). -/
def State.plumbNow (s : State) : Int := s.now + s.rdI F.TIME_PLUMB_DIFF_VALUE

/-- Timeline of an output in ns. -/
def State.lineNow (s : State) (timeline : Nat) : Int := if timeline = 0 then (s.now : Int) else s.plumbNow

def State.timedOut (s : State) (n : Nat) : TimedOut := Tbl.get {} s.time.outs n

def State.setOut (s : State) (n : Nat) (o : TimedOut) : State :=
  ({ s with time.outs := Tbl.put s.time.outs n o } : State).wr (F.TIME_TO_CFG_ARMED n) (if o.running then 1 else 0)

/-- Pulses of an output on the corrected timeline that a step forward to `t` (2⁻³² ns) passes are skipped (R365). -/
def State.outStep (s : State) (t : Int) (n : Nat) : State :=
  let o := s.timedOut n
  let first : Int := (o.start : Int) * two32 + o.next * o.period
  if !o.running || o.timeline != 0 || decide (t ≤ first) then s
  else
    let k : Nat := if o.mode = 1 ∨ o.period = 0 then 1 else ((t - first + o.period - 1) / o.period).toNat
    let s1 := s.wr (F.TIME_TO_COUNT_SKIPPED n) (s.rd (F.TIME_TO_COUNT_SKIPPED n) + k)
    s1.setOut n { o with next := o.next + k, running := o.mode != 1 }

/-- A step of corrected time by `ns` (R353, R365, R367). -/
def State.timeStep (s : State) (ns : Int) : State :=
  let s1 : State := { s with time.offset := s.time.offset + ns * two32 }
  ([0, 1, 2, 3].foldl (fun s n => s.outStep (s.timeAt s.time.count) n) s1).flag Fl.TIME_EVENT_STEPPED {}

/-- The PI loop on an offset within the step threshold (R353). -/
def State.timeSlew (s : State) (ns : Int) : State :=
  let i := clampI (-rateMax) rateMax (s.time.integral + ratRound (Config.servoKi * ns))
  ({ s with time.integral := i } : State).setRate (i + ratRound (Config.servoKp * ns))

/-! ### States (R350–R352, R359) -/

/-- The mean RATE of the last 1000 s of lock (R359). -/
def State.meanRate (s : State) : Int :=
  let c := s.time.count
  let lo := c - 250000000000
  let go : List (Nat × Int) → Int × Nat
    | l => ((l.zip (l.drop 1 ++ [(c, 0)])).foldl (fun (acc : Int × Nat) p =>
        let d := p.2.1 - max lo p.1.1
        (acc.1 + p.1.2 * d, acc.2 + d)) (0, 0))
  let g := go s.time.rates
  if g.2 = 0 then s.rdI F.TIME_RATE_VALUE else roundDiv g.1 g.2

/-- The state changes; leaving LOCKED sets LOCK_LOST. -/
def State.setTimeState (s : State) (st : Nat) : State :=
  let old := s.timeState
  let s1 := ({ s with time.good := 0, time.bad := 0 } : State).wr F.TIME_STATUS_STATE st
  if old = tLOCKED ∧ st ≠ tLOCKED then s1.flag Fl.TIME_EVENT_LOCK_LOST {} else s1

/-- Entry into LOCKED (R350, R352, R359). -/
def State.timeLock (s : State) : State :=
  let s1 := (s.setTimeState tLOCKED).wrs [(F.TIME_STATUS_TAI_VALID, 1), (F.TIME_STATUS_ALIGN_DEGRADED, 0), (F.TIME_HOLD_ERR_VALUE, 0)]
  ({ s1 with time.lockHeld := true, time.lastLock := s1.time.count
             time.rates := [(s1.time.count, s1.rdI F.TIME_RATE_VALUE)] } : State).flag Fl.TIME_EVENT_LOCKED {}

/-- The source is gone (R352): HOLDOVER where a lock has been held, with the mean RATE on leaving LOCKED; else FREE. -/
def State.timeLost (s : State) : State :=
  match s.timeState with
  | 2 => (s.setTimeState tHOLDOVER).setRate s.meanRate
  | 1 | 4 => s.setTimeState (if s.time.lockHeld then tHOLDOVER else tFREE)
  | _ => s

/-- An accepted offset in ACQUIRING or LOCKED from PTP (`bank` false) or from the bank marker (R352–R354). -/
def State.timeOffset (s : State) (ns : Int) (bank : Bool) : State :=
  let s0 := s.wrI F.TIME_OFFSET_VALUE (clampI (-2147483647) 2147483647 ns)
  let s1 := if s0.rd F.TIME_SERVO_STEP_NS < ns.natAbs then s0.timeStep ns else s0.timeSlew ns
  if s1.timeState = tACQUIRING then
    let g := if ns.natAbs ≤ 100 then s1.time.good + 1 else 0
    let s2 : State := { s1 with time.good := g }
    if g < 8 then s2 else if bank then s2.setTimeState tBANK else s2.timeLock
  else if s1.timeState = tLOCKED then
    let b := if 1000 < ns.natAbs then s1.time.bad + 1 else 0
    let s2 : State := { s1 with time.bad := b, time.lastLock := s1.time.count }
    if 4 ≤ b then s2.setTimeState tACQUIRING else s2
  else s1

/-! ### PTP (R355–R357) -/

def State.ann (s : State) (p : Nat) : Option Ann := if p = 0 then s.time.annA else s.time.annB

def State.annOn (s : State) (p : Nat) : Bool := (s.ann p).isSome

def State.setAnn (s : State) (p : Nat) (a : Option Ann) : State :=
  if p = 0 then { s with time.annA := a } else { s with time.annB := a }

/-- The port that the comparison selects, ETH-A on equal data (R356). -/
def State.bestPort (s : State) : Nat :=
  match s.time.annA, s.time.annB with
  | some a, some b => if rankBetter b.rank a.rank then 1 else 0
  | none, some _ => 1
  | _, none => 0

/-- A port takes no part in PTP: PTP off, no MACsec where it is needed, another transport, or another domain (R355). -/
def State.ptpIgnored (s : State) (p : Nat) (vlan : Option Nat) (secured udp : Bool) (domain : Nat) : Bool :=
  decide (1 < p) || !s.vlanOk vlan || !s.isOn F.TIME_CFG_PTP_EN || !s.pwr.ctl || domain != s.rd F.TIME_PTP_CFG_DOMAIN ||
  udp != (!s.isOn F.TIME_PTP_CFG_PROFILE && s.isOn F.TIME_PTP_CFG_TRANSPORT) ||
  (!secured && !s.isOn F.TIME_PTP_CFG_UNPROTECTED) || (secured && (s.port p).stage != .keyed)

/-- Sync intervals that the profile accepts (R355). -/
def State.syncOk (s : State) (log2 : Int) : Bool :=
  if s.isOn F.TIME_PTP_CFG_PROFILE then log2 == 0 else decide (-7 ≤ log2) && decide (log2 ≤ 1)

/-- By how much corrected time has to move after a Sync (R353, R357): the ingress is moved to the connector, and path delay and
delayAsymmetry come off it. -/
def State.syncOffset (s : State) (p origin ingress : Nat) : Int :=
  let delay := if p = 0 then s.time.delayA else s.time.delayB
  let lat := if p = 0 then s.time.latA else s.time.latB
  origin + delay + s.rdI (F.TIME_ASYM_NS p) - ((ingress : Int) - lat)

/-- The selection of R356 after an Announce: another port or another grandmaster, or no source so far, leads to ACQUIRING as R352 says. -/
def State.bestMaster (s : State) : State :=
  let p := s.bestPort
  match s.ann p with
  | none => s
  | some a =>
    let st := s.timeState
    let newGm := decide (s.rd64 F.TIME_GM_ID_LO_ID F.TIME_GM_ID_HI_ID ≠ a.gmLo % two32 + two32 * (a.gmHi % two32))
    let s1 := (s.wr F.TIME_STATUS_ACTIVE_PORT p).wrs [(F.TIME_GM_ID_LO_ID, a.gmLo), (F.TIME_GM_ID_HI_ID, a.gmHi)]
    if st = tFREE ∨ st = tHOLDOVER ∨ st = tBANK ∨ newGm then s1.setTimeState tACQUIRING else s1

/-- PTP_MESSAGE (R352–R357). -/
def execPtpMessage (port : Nat) (vlan : Option Nat) (secured udp : Bool) (domain : Nat) (m : PtpMsg) (s : State) : Out :=
  .next <|
    if s.ptpIgnored port vlan secured udp domain then s
    else match m with
      | .announce lo hi rank => (s.setAnn port (some ⟨lo, hi, rank⟩)).bestMaster
      | .sync log2 origin ingress =>
        if s.rd F.TIME_STATUS_ACTIVE_PORT = port ∧ s.annOn port = true ∧ s.syncOk log2 = true ∧
            (s.timeState = tACQUIRING ∨ s.timeState = tLOCKED) then
          s.timeOffset (s.syncOffset port origin ingress) false
        else s
      | .delay p2p out back =>
        if p2p != s.isOn F.TIME_PTP_CFG_DELAY_P2P || (!p2p && s.rd F.TIME_STATUS_ACTIVE_PORT != port) then s
        else
          let d := roundDiv (out + back) 2
          if port = 0 then { s with time.delayA := d } else { s with time.delayB := d }
      | .other => s

/-- ANNOUNCE_TIMEOUT (R352, R356): no Announce accepted on a port for the receipt timeout. -/
def execAnnounceTimeout (port : Nat) (s : State) : Out :=
  .next <|
    if 1 < port ∨ s.annOn port = false then s
    else
      let s1 := s.setAnn port none
      if s1.annOn (1 - port) then
        if s1.rd F.TIME_STATUS_ACTIVE_PORT = port then
          (s1.bestMaster).flag Fl.TIME_EVENT_PORT_SWITCH {}
        else s1
      else if s1.timeState = tLOCKED ∨ s1.timeState = tACQUIRING then s1.timeLost else s1

/-- e(t) in ns (R359). -/
def State.holdErr (s : State) : Int :=
  let t : Rat := ((s.time.count - s.time.lastLock : Nat) : Rat) / 250000000
  ratRound (38 + s.rd F.TIME_HOLD_HOLD_FREQ * t + (s.rd F.TIME_HOLD_HOLD_DRIFT : Rat) / 2000 * t * t)

/-- DEGRADED (R359): the error estimate of HOLDOVER exceeds DEGRADE_NS. -/
def execDegraded (s : State) : Out :=
  .next <|
    if s.timeState ≠ tHOLDOVER ∨ s.isOn F.TIME_STATUS_ALIGN_DEGRADED = true ∨ s.holdErr ≤ s.rd F.TIME_HOLD_DEGRADE_NS then s
    else ((s.wr F.TIME_HOLD_ERR_VALUE (satU 32 s.holdErr)).wr F.TIME_STATUS_ALIGN_DEGRADED 1).flag Fl.TIME_EVENT_DEGRADED {}

/-! ### Timed outputs (R363–R365) -/

/-- The shadow of an output is one that R363 allows. -/
def outOk (mode period frac width : Nat) : Bool :=
  mode == 0 || (decide (8 ≤ width) && decide (width ≤ 1000000000) && (mode != 2 || decide (2 * width * two32 ≤ period * two32 + frac)))

/-- ARM copies the shadow, or is refused for a late START (R364). -/
def State.toArm (s : State) (n : Nat) : State :=
  let start := s.rd64 (F.TIME_TO_START_LO_VALUE n) (F.TIME_TO_START_HI_VALUE n)
  let tl := s.rd (F.TIME_TO_CFG_TIMELINE n)
  let mode := s.rd (F.TIME_TO_CFG_MODE n)
  if (start : Int) < s.lineNow tl + 1000 then s.flag Fl.TIME_EVENT_TO_LATE { idx := n }
  else s.setOut n { mode := mode, timeline := tl, polarity := s.rd (F.TIME_TO_CFG_POLARITY n), start := start
                    period := s.rd (F.TIME_TO_PERIOD_VALUE n) * two32 + s.rd (F.TIME_TO_PERIOD_FRAC_VALUE n)
                    width := s.rd (F.TIME_TO_WIDTH_VALUE n), next := 0, running := mode == 1 || mode == 2
                    pulseEnd := (s.timedOut n).pulseEnd }

/-- DISARM: no further pulse; one in progress completes its width (R364). -/
def State.toDisarm (s : State) (n : Nat) : State := s.setOut n { s.timedOut n with running := false }

/-- The shadow of an output as it stands (R363). -/
def State.shadowOk (s : State) (n : Nat) : Bool :=
  outOk (s.rd (F.TIME_TO_CFG_MODE n)) (s.rd (F.TIME_TO_PERIOD_VALUE n)) (s.rd (F.TIME_TO_PERIOD_FRAC_VALUE n)) (s.rd (F.TIME_TO_WIDTH_VALUE n))

/-- TO_ARM: the host writes ARM of an output, with DISARM in the same cycle where `disarm`; ARM is kept (R364).  A shadow outside
R363 leaves the output as it is. -/
def execToArm (n : Nat) (_disarm : Bool) (s : State) : Out := .next (if 3 < n ∨ s.shadowOk n = false then s else s.toArm n)

/-- TO_DISARM: the host writes DISARM (R364). -/
def execToDisarm (n : Nat) (s : State) : Out := .next (if 3 < n then s else s.toDisarm n)

/-- TO_PULSE (R363, R365): the next pulse of an output is due; in FREE or without STF-C the output stays inactive. -/
def execToPulse (n : Nat) (s : State) : Out :=
  let o := s.timedOut n
  .next <|
    if 3 < n || !o.running then s
    else
      let on := s.pwr.ctl && s.timeState != tFREE
      let t : Nat := ((o.start : Int) * two32 + o.next * o.period).toNat / two32
      let s1 := s.setOut n { o with next := o.next + 1, running := o.mode == 2, pulseEnd := if on then t + o.width else o.pulseEnd }
      if on then s1.wr (F.TIME_TO_COUNT_PULSES n) (s1.rd (F.TIME_TO_COUNT_PULSES n) + 1) else s1

/-- The level of an output pin (R363, R365): inactive in FREE and without STF-C; POLARITY inverts it. -/
def State.toPin (s : State) (n : Nat) : Bool :=
  let o := s.timedOut n
  let active := s.pwr.ctl && s.timeState != tFREE && decide (s.lineNow o.timeline < o.pulseEnd)
  active != (o.polarity == 1)

/-! ### Capture inputs (R366) -/

def State.tiList (s : State) (n : Nat) : List Edge := Tbl.get [] s.time.tis n

def State.setTi (s : State) (n : Nat) (l : List Edge) : State :=
  ({ s with time.tis := Tbl.put s.time.tis n l } : State).wr (F.TIME_TI_CFG_LEVEL n) l.length

/-- TI_EDGE (R366): an edge with its timestamp on corrected time in ns, referred to the connector, and for how many ns the new level then
held; one shorter than the filter does not pass it. -/
def execTiEdge (n : Nat) (rising : Bool) (ns held : Nat) (s : State) : Out :=
  .next <|
    let e := s.rd (F.TIME_TI_CFG_EDGE n)
    if 1 < n || !s.isOn (F.TIME_TI_CFG_ENABLE n) || !s.pwr.ctl || !(if rising then e % 2 == 1 else decide (2 ≤ e)) ||
        decide (held < 4 * s.rd (F.TIME_TI_CFG_FILTER n)) then s
    else if 16 ≤ (s.tiList n).length then
      let d := Tbl.get 0 s.time.dropped n + 1
      ({ s with time.dropped := Tbl.put s.time.dropped n (d % 65536) } : State).flag Fl.TIME_EVENT_TI_OVF { idx := n }
    else s.setTi n (s.tiList n ++ [{ time := ns, rising := rising }])

/-- Remove the oldest entry of an input into its registers (R366). -/
def State.tiPop (s : State) (n : Nat) : State :=
  match s.tiList n with
  | [] => s
  | e :: t =>
    (s.setTi n t).wrs [(F.TIME_TI_TS_LO_VALUE n, e.time), (F.TIME_TI_TS_HI_VALUE n, e.time / two32),
      (F.TIME_TI_INFO_EDGE n, if e.rising then 1 else 0), (F.TIME_TI_INFO_DROPPED n, Tbl.get 0 s.time.dropped n)]

/-- TI_TIMESTAMP_READ (R366): the read removes the entry; from an empty FIFO the words of the last entry are read. -/
def execTiTimestampRead (n : Nat) (s : State) : Out :=
  .next <|
    if 1 < n then s
    else
      let s1 := s.tiPop n
      { s1 with lastRead := s1.rd (F.TIME_TI_TS_LO_VALUE n) }

/-! ### Commands (R367) -/

/-- TIME_NOW and TIME_COUNT as of this cycle (R349). -/
def State.latchTime (s : State) : State :=
  let t := (s.timeAt s.time.count).toNat
  (((s.wr64 F.TIME_NOW_LO_VALUE F.TIME_NOW_HI_VALUE (t / two32)).wr F.TIME_NOW_FRAC_VALUE t).wr64
    F.TIME_COUNT_LO_VALUE F.TIME_COUNT_HI_VALUE s.time.count).wr F.TIME_HOLD_ERR_VALUE
    (if s.timeState = tHOLDOVER then satU 32 s.holdErr else s.rd F.TIME_HOLD_ERR_VALUE)

/-- The TIME registers: the block's words up to TIME_EVT_CNT3, then the outputs and the inputs. -/
def timeRegs : List Nat :=
  (numbersFrom 0 14).map (fun i => 0x20000 + 4 * i) ++ [0x20040, 0x20044, 0x20050, 0x20054, 0x20060, 0x20064, 0x20068, 0x2006C, 0x20070] ++
  [0, 1, 2, 3].flatMap (fun n => (numbersFrom 0 7).map fun i => 0x20100 + 32 * n + 4 * i) ++
  [0, 1].flatMap fun n => (numbersFrom 0 4).map fun i => 0x20200 + 32 * n + 4 * i

/-- TIME_STATUS (R367). -/
def execTimeStatus (h : Hdr) (s : State) : Out :=
  .next <| s.command 0x0801 rObserver h [] fun s => ret s (s.latchTime.words timeRegs)

/-- What new settings of TIME change at once: PROFILE 1 forces DELAY_P2P (R355), a source switched off is lost (R351). -/
def State.timeCfgDone (s : State) : State :=
  let s1 := if s.isOn F.TIME_PTP_CFG_PROFILE then s.wrKeep F.TIME_PTP_CFG_DELAY_P2P 1 else s
  if !s1.isOn F.TIME_CFG_PTP_EN && (s1.annOn 0 || s1.annOn 1) then
    let s2 : State := { s1 with time.annA := none, time.annB := none }
    if s2.timeState = tLOCKED ∨ s2.timeState = tACQUIRING then s2.timeLost else s2
  else if !s1.isOn F.TIME_CFG_BANK_EN && s1.timeState == tBANK then s1.timeLost
  else s1

/-- TIME_SET_CFG (R367): the words of the six registers. -/
def execTimeSetCfg (h : Hdr) (cfg ptp servo hold asymA asymB : Nat) (s : State) : Out :=
  let ws := [(0x20000, cfg), (0x20004, ptp), (0x20008, servo), (0x2000C, hold), (0x20050, asymA), (0x20054, asymB)]
  .next <| s.command 0x0802 rMaintainer h (ws.filterMap fun p => (s.writeCheck p.1 p.2).map fun st => (true, st))
    fun s => .done ((ws.foldl (fun s p => s.writeStore p.1 p.2) s).timeCfgDone) []

/-- TIME_SET (R367): TAI in ns; BUSY unless FREE. -/
def execTimeSet (h : Hdr) (tai : Nat) (s : State) : Out :=
  .next <| s.command 0x0803 rMaintainer h []
    fun s => if s.timeState ≠ tFREE then .refuse .busy else .done (s.timeStep ((tai : Int) - s.now)) []

/-- TIME_TO_ARM (R363, R364, R367): RANGE for a late START. -/
def execTimeToArm (h : Hdr) (n mode timeline start period frac width : Nat) (s : State) : Out :=
  .next <| s.command 0x0804 rOperator h
    [(decide (3 < n) || decide (2 < mode) || decide (1 < timeline) || !outOk mode period frac width ||
      decide ((start : Int) < s.lineNow timeline + 1000), .range)]
    fun s =>
      let s1 := (s.wrs [(F.TIME_TO_CFG_MODE n, mode), (F.TIME_TO_CFG_TIMELINE n, timeline), (F.TIME_TO_PERIOD_VALUE n, period),
        (F.TIME_TO_PERIOD_FRAC_VALUE n, frac), (F.TIME_TO_WIDTH_VALUE n, width)]).wr64
        (F.TIME_TO_START_LO_VALUE n) (F.TIME_TO_START_HI_VALUE n) start
      .done (s1.toArm n) []

/-- TIME_TO_DISARM (R364, R367). -/
def execTimeToDisarm (h : Hdr) (n : Nat) (s : State) : Out :=
  .next <| s.command 0x0805 rOperator h [(decide (3 < n), .range)] fun s => .done (s.toDisarm n) []

/-- TIME_TI_READ (R366, R367): of each entry its time, low and high word, and INFO. -/
def execTimeTiRead (h : Hdr) (n count : Nat) (s : State) : Out :=
  .next <| s.command 0x0806 rObserver h [(decide (1 < n) || !inR 1 16 count, .range)]
    fun s =>
      let go (acc : State × List Int) (_ : Nat) : State × List Int :=
        if (acc.1.tiList n).isEmpty then acc
        else
          let s1 := acc.1.tiPop n
          (s1, acc.2 ++ s1.words [0x20204 + 32 * n, 0x20208 + 32 * n, 0x2020C + 32 * n])
      let r := (numbersFrom 0 count).foldl go (s, [])
      ret r.1 r.2

end Sys2Proof.Machine
end

