-- ==== Sys2Proof/Machine/Hrt.lean ====
section
/-! DEFINITION. Host Transport (R368–R400): keying and sessions, rings, commands taken, events, telemetry and failover.
Set-up frames stand with the register map. -/

namespace Sys2Proof.Machine

/-! ### Sessions (R451–R453) -/

/-- The role set: the roles carried and those they imply (R452). -/
def roleClosure (r : Nat) : Nat :=
  let b (n : Nat) : Bool := r / n % 2 == 1
  (if b rMaintainer then r ||| rOperator ||| rObserver else r) |||
    (if b rOperator || b rSafety || b rUpdate then rObserver else 0)

/-- The time floor (R451). -/
def State.timeFloor (s : State) : Nat := if s.taiValid then s.now else s.rd64 F.SEC_TIME_FLOOR_LO_NS F.SEC_TIME_FLOOR_HI_NS

/-- The module accepts a certificate (R451, R452). -/
def State.certOk (s : State) (c : Cert) : Bool :=
  match c.anchor with
  | none => false
  | some a =>
    Tbl.has s.sec.anchors a && decide (1 ≤ c.chain.length) && decide (c.chain.length ≤ 4) &&
    ((c.serial :: c.chain).all fun n => !(Tbl.get { ca := [] } s.sec.anchors a).deny.contains n) && c.roles % 32 != 0 &&
    !(hasRole c.roles rSafety && hasRole c.roles rUpdate) && decide (s.timeFloor < c.notAfter) &&
    (!s.taiValid || decide (c.notBefore ≤ s.now))

/-- A session ends with its record (R453, R459, R490). -/
def State.endSession (s : State) (p reason : Nat) : State :=
  match s.session p with
  | none => if p = 2 then { s with sec.claiming := false } else s
  | some x =>
    let s1 : State := if p = 2 then { s with sec.service := none, sec.claiming := false } else
      (s.setPort p { s.port p with session := none }).wr (F.HRT_PORT_STATUS_ROLES p) 0
    s1.sessionRec p 1 x.roles reason x.cert

/-- A refused handshake (R451, R459). -/
def State.authFail (s : State) (p cert : Nat) : State := (s.flag Fl.SEC_EVENT_AUTH_FAIL { idx := p }).sessionRec p 2 0 0 cert

/-! ### Ports and failover (R370, R395, R396) -/

def State.keyed (s : State) (p : Nat) : Bool := (s.port p).stage == .keyed

def State.activePort (s : State) : Nat := s.rd F.HRT_STATUS_ACTIVE_PORT

def State.ringsOn (s : State) : Bool := s.isOn F.HRT_STATUS_RINGS_RUNNING

def State.setStage (s : State) (p : Nat) (k : KeyStage) : State := s.setPort p { s.port p with stage := k }

/-- The module keys a port: not while it is unclaimed or its identity is at fault (R448, R449). -/
def State.canKey (s : State) : Bool := s.isOn F.SEC_STATUS_CLAIMED && !s.isOn F.SEC_STATUS_ID_FAULT && s.pwr.ctl

/-- Start of keying: EAPOL-Start (R370, step 2). -/
def State.startKeying (s : State) (p : Nat) : State :=
  s.setStage p (if s.canKey && s.isOn (F.HRT_PORT_STATUS_LINK p) then .waitEap else .down)

/-- Every ring moves to a port: unacknowledged frames and outstanding reads are sent again there (R395, R396). -/
def State.ringsTo (s : State) (p : Nat) : State :=
  let old := s.activePort
  let s1 : State := { s with hrt.switching := none, hrt.reread := true, hrt.frames := s.hrt.frames.map fun f => { f with retries := 0 }
                             hrt.reads := s.hrt.reads.map fun r => { r with retries := 0 } }
  let s2 := s1.wrs [(F.HRT_STATUS_ACTIVE_PORT, p), (F.HRT_PORT_STATUS_ACTIVE old, 0), (F.HRT_PORT_STATUS_ACTIVE p, 1)]
  (s2.flag Fl.HRT_EVENT_FAILOVER { idx := p }).spareTook 4 old p

/-- Every ring moves to a port; an HRT_PORT_SWITCH that waits for it completes. -/
def State.moveRings (s : State) (p : Nat) : State := (s.ringsTo p).waitDone 0x0106 .ok

/-- The active port has failed: rings move, or wait for the other port to be keyed (R395). -/
def State.failover (s : State) (p : Nat) : State :=
  if !s.ringsOn || s.activePort != p || !s.isOn F.HRT_CFG_AUTO_FAILOVER then s
  else if s.keyed (1 - p) then (s.moveRings (1 - p)).exhaust 4
  else ({ s with hrt.switching := some (1 - p) } : State).exhaust 4

/-- A port's controlled port closes: its session ends, PORT_DOWN, and the rings move if it was active (R395, R453). -/
def State.portLost (s : State) (p : Nat) (reason : Nat) : State :=
  let s1 := (s.endSession p reason).wrs
    [(F.HRT_PORT_STATUS_KEYED p, 0), (F.HRT_PORT_STATUS_MKA_LIVE p, 0), (F.HRT_PORT_STATUS_EAP_DONE p, 0)]
  ((s1.setStage p .down).flag Fl.HRT_EVENT_PORT_DOWN { idx := p }).failover p

/-- LINK_UP (R370). -/
def execLinkUp (port : Nat) (gig eee : Bool) (s : State) : Out :=
  .next <|
    if 1 < port || !s.pwr.ctl || s.mode == mSHELF || (!gig && !s.isOn F.HRT_PORT_CFG_ALLOW_100) then s
    else
      let s1 := s.wrs [(F.HRT_PORT_STATUS_LINK port, 1), (F.HRT_PORT_STATUS_SPEED_1000 port, if gig then 1 else 0),
        (F.HRT_PORT_STATUS_EEE_ACTIVE port, if eee && s.isOn F.HRT_PORT_CFG_EEE then 1 else 0), (F.HRT_PORT_STATUS_FAILED port, 0)]
      s1.startKeying port

/-- EAPOL_RECEIVE (R370, R451): the host's certificate fixes the port's role set, or is refused. -/
def execEapolReceive (port : Nat) (m : EapMsg) (s : State) : Out :=
  let st := (s.port port).stage
  .next <|
    if 1 < port || !(st == .waitEap || st == .eapRunning) then s
    else
      let refuse (c : Nat) : State :=
        let fails := s.time.count :: (s.port port).eapFails.filter fun t => decide (s.time.count < t + 15000000000)
        (s.setPort port { s.port port with stage := .retryWait, eapFails := fails }).authFail port c
      match m with
      | .step => s.setStage port .eapRunning
      | .failure => refuse 0
      | .certificate c =>
        if s.certOk c then
          s.setPort port { stage := .eapDone, session := some { cert := c.serial, roles := roleClosure c.roles, anchor := c.anchor.getD 0, chain := c.chain } }
        else refuse c.serial

/-- EAP_SUCCESS (R370): the MKA participant starts. -/
def execEapSuccess (port : Nat) (s : State) : Out :=
  .next <|
    if 1 < port || (s.port port).stage != .eapDone then s
    else
      let r := s.portRoles port
      ((s.setStage port .mka).wrs [(F.HRT_PORT_STATUS_EAP_DONE port, 1), (F.HRT_PORT_STATUS_ROLES port, r)]).sessionRec port 0 r 0
        (s.portCert port)

/-- How long a port waits before it starts again, in s: 60 after 5 failed handshakes within 60 s (R370, R451). -/
def State.eapWait (s : State) (port : Nat) : Nat := if 5 ≤ (s.port port).eapFails.length then 60 else 30

/-- EAP_RETRY_TIMEOUT (R370, R451): the port has waited for `seconds`; keying starts again. -/
def execEapRetryTimeout (port seconds : Nat) (s : State) : Out :=
  .next <| if 1 < port || (s.port port).stage != .retryWait || decide (seconds < s.eapWait port) then s else s.startKeying port

/-- A commanded switch proceeds once nothing is outstanding on the old port (R396). -/
def State.switchReady (s : State) : State :=
  match s.hrt.switching with
  | some p => if s.hrt.frames.isEmpty && s.keyed p && s.ringsOn then s.moveRings p else s
  | none => s

/-- MKA_SAK_RECEIVED (R369, R370, R456) from the key server at address `server`: a SAK of any suite but GCM-AES-XPN-256 is refused; a
rotation starts the packet numbers anew and changes nothing else. -/
def execMkaSakReceived (port : Nat) (xpn : Bool) (server : Nat) (s : State) : Out :=
  .next <|
    if 1 < port || !xpn then s
    else if (s.port port).stage == .keyed then s.setPort port { s.port port with pn := 1 }
    else if (s.port port).stage != .mka then s
    else
      let s0 := s.setPort port { s.port port with stage := .keyed, server := server, pn := 1 }
      let s1 := (s0.wrs [(F.HRT_PORT_STATUS_MKA_LIVE port, 1), (F.HRT_PORT_STATUS_KEYED port, 1)]).flag
        Fl.HRT_EVENT_PORT_KEYED { idx := port }
      let s2 := if s1.poolOut 4 && s1.keyed (1 - port) then s1.restorePool 4 port else s1
      if s2.hrt.switching = some port ∧ s2.ringsOn = true ∧ s2.keyed s2.activePort = false then s2.moveRings port else s2.switchReady

/-- MKA_LIFETIME_EXPIRY (R370, R395): the port closes and keys again. -/
def execMkaLifetimeExpiry (port : Nat) (s : State) : Out :=
  .next <|
    if 1 < port || !((s.port port).stage == .keyed || (s.port port).stage == .mka) then s
    else (s.portLost port 1).startKeying port

/-- Both ports are down: no ring and no session is left. -/
def State.portsDown (s : State) : State :=
  { s.wrs ([(F.HRT_CFG_RINGS_ON, 0), (F.HRT_STATUS_RINGS_RUNNING, 0)] ++ [0, 1].flatMap fun p =>
    [(F.HRT_PORT_STATUS_LINK p, 0), (F.HRT_PORT_STATUS_SPEED_1000 p, 0), (F.HRT_PORT_STATUS_EEE_ACTIVE p, 0), (F.HRT_PORT_STATUS_EAP_DONE p, 0),
     (F.HRT_PORT_STATUS_MKA_LIVE p, 0), (F.HRT_PORT_STATUS_KEYED p, 0), (F.HRT_PORT_STATUS_ACTIVE p, 0), (F.HRT_PORT_STATUS_ROLES p, 0)])
    with hrt := {}, sec.service := none, sec.claiming := false }

/-- Both links drop and the module enters P4 (R52, R397). -/
def State.linksDrop (s : State) : State :=
  let s1 := ((s.endSession 0 0).endSession 1 0).endSession 2 0
  ({ s1.portsDown with pwr.dropping := false } : State).enterPower 4

/-- In SHELF the links drop once every frame is acknowledged, or no port is left to acknowledge one (R397). -/
def State.shelfDrop (s : State) : State :=
  if s.pwr.dropping && (s.hrt.frames.isEmpty || (!s.keyed 0 && !s.keyed 1)) then s.linksDrop else s

/-- LINK_DOWN (R395). -/
def execLinkDown (port : Nat) (s : State) : Out :=
  .next <|
    if 1 < port || !s.isOn (F.HRT_PORT_STATUS_LINK port) then s
    else ((s.portLost port 0).wrs [(F.HRT_PORT_STATUS_LINK port, 0), (F.HRT_PORT_STATUS_SPEED_1000 port, 0),
      (F.HRT_PORT_STATUS_EEE_ACTIVE port, 0)]).shelfDrop

/-- SERVICE_IDLE_TIMEOUT (R453): the service port has been without an operation for `minutes`. -/
def execServiceIdleTimeout (minutes : Nat) (s : State) : Out :=
  .next (if minutes < s.rd F.SEC_CFG_SVC_IDLE_MIN then s else s.endSession 2 2)

/-- SERVICE_SESSION_OPEN (R450, R451, R453): with a certificate, or one that authenticates the module only, for claiming. -/
def execServiceSessionOpen (c : Option Cert) (s : State) : Out :=
  .next <|
    if s.sec.service.isSome || s.sec.claiming || !s.pwr.ctl || s.isOn F.SEC_STATUS_ID_FAULT then s
    else match c with
      | none => if s.isOn F.SEC_STATUS_CLAIMED then s.authFail 2 0 else { s with sec.claiming := true }
      | some c =>
        if s.certOk c then
          let r := roleClosure c.roles
          ({ s with sec.service := some { cert := c.serial, roles := r, anchor := c.anchor.getD 0, chain := c.chain } } : State).sessionRec 2 0 r 0 c.serial
        else s.authFail 2 c.serial

/-! ### Frames to the host (R371, R372, R374) -/

/-- `a` is not later than `b` in the 32-bit series. -/
def seqLe (a b : Nat) : Bool := decide ((b + two32 - a % two32) % two32 < 2147483648)

/-- The frames sent and not acknowledged, at most WINDOW of them; those behind wait (R372). -/
def State.inFlight (s : State) : List Frame := s.hrt.frames.take (s.rd F.HRT_RETX_WINDOW)

/-- ACK (R372): frames sent up to `seq` are acknowledged; the links drop once the completion of MODE_REQUEST(SHELF) is (R397). -/
def execAck (port : Nat) (f : FrameIn) (seq : Nat) (s : State) : Out :=
  .next <|
    if !s.frameOk port f then s.frameDrop port f
    else
      ({ s.frameTook port f with hrt.frames := s.inFlight.filter (fun f => !seqLe f.seq seq) ++ s.hrt.frames.drop (s.rd F.HRT_RETX_WINDOW) } : State).switchReady.shelfDrop

/-- A region fault stops a ring (R374): RING_FAULT and a traffic-class record. -/
def State.ringFault (s : State) (k : Nat) : State :=
  (s.setRing k { s.ring k with stopped := true }).flag Fl.HRT_EVENT_RING_FAULT { idx := k }

/-- READ_RESP (R371, R374): STATUS 0 brings data, 1 and 2 are region faults. -/
def execReadResp (port : Nat) (f : FrameIn) (tag status : Nat) (s : State) : Out :=
  .next <|
    if !s.frameOk port f then s.frameDrop port f
    else match s.hrt.reads.find? fun r => r.tag == tag with
    | none => s.frameTook port f
    | some r =>
      let s1 : State := { s.frameTook port f with hrt.reads := s.hrt.reads.erase r }
      if status = 1 ∨ status = 2 then s1.ringFault r.ring else s1

/-- A READ_REQ for a ring's new entries goes out (R371, R380). -/
def State.readReq (s : State) (k : Nat) : State :=
  { s with hrt.reads := s.hrt.reads ++ [{ tag := s.hrt.readTag, ring := k }], hrt.readTag := (s.hrt.readTag + 1) % two32 }

/-- The port is declared failed (R372). -/
def State.portFailed (s : State) (p : Nat) : State :=
  let s1 := (s.wr (F.HRT_PORT_STATUS_FAILED p) 1).flag Fl.HRT_EVENT_PORT_DOWN { idx := p }
  match s1.hrt.switching with
  | some q => if s1.keyed q then s1.moveRings q else s1.failover p
  | none => s1.failover p

/-- RETX_TIMEOUT (R372): the oldest frame, or the read named, has waited RETX_US; after RETX_MAX the port is failed. -/
def execRetxTimeout (read : Option Nat) (s : State) : Out :=
  let mx := s.rd F.HRT_RETX_RETX_MAX
  .next <|
    if !s.ringsOn then s
    else match read with
      | none =>
        match s.hrt.frames with
        | [] => s
        | f :: _ =>
          if mx ≤ f.retries then s.portFailed s.activePort
          else { s with hrt.frames := (s.inFlight.map fun f => { f with retries := f.retries + 1 }) ++ s.hrt.frames.drop (s.rd F.HRT_RETX_WINDOW) }
      | some t =>
        match s.hrt.reads.find? fun r => r.tag == t with
        | none => s
        | some r =>
          if mx ≤ r.retries then s.portFailed s.activePort
          else { s with hrt.reads := s.hrt.reads.map fun q => if q.tag = t then { q with retries := q.retries + 1 } else q }

/-! ### Indices (R379–R381) -/

def hostProduced (k : Nat) : Bool := k == 0 || k == 4

def satPending (n : Nat) : Nat := min 65535 n

/-- A new host index counts (R381): data on ring 4 that belong to a skipped command go first, room lets waiting entries out. -/
def State.hostIdxTaken (s : State) (k n : Nat) : State :=
  let s1 := s.wr (F.HRT_RING_HOST_IDX_INDEX k) n
  match k with
  | 0 => (s1.readReq 0).wr F.HRT_BACKLOG_PENDING (satPending (used n (s1.rd (F.HRT_RING_MOD_IDX_INDEX 0))))
  | 1 => s1.flushCompletions s1.hrt.compWait.length
  | 4 => (s1.bulkConsume s1.hrt.bulkSkip).readReq 4
  | 5 => s1.pumpBulk s1.hrt.transfers.length
  | _ => s1

/-- The acceptance rules of R381. -/
def State.hostIdx (s : State) (k n : Nat) : State :=
  let sub (a b : Nat) : Nat := (a + two32 - b % two32) % two32
  let h := s.rd (F.HRT_RING_HOST_IDX_INDEX k)
  let m := s.rd (F.HRT_RING_MOD_IDX_INDEX k)
  let size := s.ringSize k
  if 15 < k ∨ s.isOn (F.HRT_RING_CFG_ENABLE k) = false then s.flag Fl.HRT_EVENT_DOORBELL_BAD {}
  else if n % two32 = h then s
  else if (if hostProduced k then decide (sub n h ≤ size) && decide (sub n m ≤ size) else decide (sub n h ≤ sub m h)) then
    s.hostIdxTaken k (n % two32)
  else if sub h n ≤ size then s
  else s.flag Fl.HRT_EVENT_DOORBELL_BAD { idx := k }

/-- DOORBELL (R369, R381). -/
def execDoorbell (port : Nat) (f : FrameIn) (ring index seq : Nat) (s : State) : Out :=
  .next <|
    if !s.frameOk port f then s.frameDrop port f
    else if !s.ringsOn || port != s.activePort then s.frameTook port f
    else
      let newer := match s.hrt.dbSeq with
        | none => true
        | some q => decide (1 ≤ (seq + two32 - q) % two32) && decide ((seq + two32 - q) % two32 ≤ 2147483648)
      let s1 := s.frameTook port f
      if !newer then s1 else ({ s1 with hrt.dbSeq := some (seq % two32) } : State).hostIdx ring index

/-- HOST_IDX_POLL (R381, R395): the HOST_IDX words of the ring-state block, by ring; with POLL_MS 0 they are read only after the
rings have moved. -/
def execHostIdxPoll (idx : List (Nat × Nat)) (s : State) : Out :=
  .next <|
    if !s.ringsOn || (s.rd F.HRT_CFG_POLL_MS == 0 && !s.hrt.reread) || !s.keyed s.activePort then s
    else
      idx.foldl (fun s p => if p.1 ≤ 15 ∧ s.isOn (F.HRT_RING_CFG_ENABLE p.1) then s.hostIdx p.1 p.2 else s)
        { s with hrt.reread := false }

/-- NOTIFY_COAL_TIMEOUT (R387). -/
def execNotifyCoalTimeout (ring : Nat) (s : State) : Out :=
  .next <|
    if 15 < ring || hostProduced ring || !s.ringOn ring || (s.ring ring).unannounced == 0 ||
       s.rd (F.HRT_RING_CFG_COAL_CNT ring) == 0 then s
    else s.notify ring

/-! ### Rings on and off (R377) -/

/-- Elements of a telemetry kind lie within the variant (R392). -/
def State.rangeOk (s : State) (kind first count : Nat) : Bool :=
  match kind with
  | 2 | 3 => decide (1 ≤ first) && decide (1 ≤ count) && decide (first + count - 1 ≤ s.cells)
  | 4 => decide (1 ≤ first) && decide (1 ≤ count) && decide (first + count - 1 ≤ 8 * s.segs)
  | 6 => decide (1 ≤ count) && decide (first + count ≤ 512)
  | _ => true

/-- Payload words of one element (R392). -/
def kindWords : Nat → Nat
  | 2 | 4 => 1
  | 3 => 4
  | 5 => 16
  | 6 => 8
  | _ => 0

/-- Entries of the largest frame of a telemetry ring, header included (R391, R392). -/
def State.frameMax (s : State) (k : Nat) : Nat :=
  if k = 3 then 5
  else
    let kind := s.rd (F.HRT_RING_TLM_KIND k)
    let n := if kind = 5 then s.segs else s.rd (F.HRT_RING_COUNT_N k)
    if kindWords kind = 0 then 0 else 1 + (kindWords kind * n + 15) / 16

def enabledRings (s : State) : List Nat := (numbersFrom 0 16).filter fun k => s.isOn (F.HRT_RING_CFG_ENABLE k)

/-- Region, first byte and end of a ring, and of the ring-state block. -/
def State.ringSpan (s : State) (k : Nat) : Nat × (Nat × Nat) :=
  let b := s.rd64 (F.HRT_RING_BASE_LO_VALUE k) (F.HRT_RING_BASE_HI_VALUE k)
  (s.rd (F.HRT_RING_CFG_REGION k), (b, b + 64 * s.ringSize k))

def State.blockSpan (s : State) : Nat × (Nat × Nat) :=
  let b := s.rd64 F.HRT_STATE_OFF_LO_VALUE F.HRT_STATE_OFF_HI_VALUE
  (s.rd F.HRT_STATE_CFG_REGION, (b, b + 1024))

/-- A span lies in its region with the access asked for. -/
def State.spanOk (s : State) (x : Nat × (Nat × Nat)) (write : Bool) : Bool :=
  s.rd (F.HRT_REGION_LEN_VALUE x.1) != 0 && decide (x.2.2 ≤ 4096 * s.rd (F.HRT_REGION_LEN_VALUE x.1)) &&
  s.isOn (if write then F.HRT_REGION_CFG_WRITE x.1 else F.HRT_REGION_CFG_READ x.1)

def spansMeet (a b : Nat × (Nat × Nat)) : Bool := a.1 == b.1 && decide (a.2.1 < b.2.2) && decide (b.2.1 < a.2.2)

def anyPair {α : Type} (p : α → α → Bool) : List α → Bool
  | [] => false
  | a :: l => l.any (p a) || anyPair p l

/-- The first check that fails, by its CFG_ERR code; 0 none (R377). -/
def State.cfgErr (s : State) : Nat :=
  let l := enabledRings s
  let tlm (k : Nat) : Bool := k == 3 || decide (6 ≤ k)
  if !(s.spanOk s.blockSpan true) || l.any (fun k => !s.spanOk (s.ringSpan k) (!hostProduced k)) ||
     l.any (fun k => decide (6 ≤ k) && !s.rangeOk (s.rd (F.HRT_RING_TLM_KIND k)) (s.rd (F.HRT_RING_TLM_FIRST k)) (s.rd (F.HRT_RING_COUNT_N k)))
  then 1
  else if !l.contains 0 || !l.contains 1 || decide (s.ringSize 1 < 2 * s.ringSize 0) then 2
  else if anyPair spansMeet (s.blockSpan :: l.map s.ringSpan) then 3
  else if l.any (fun k => tlm k && decide (s.ringSize k < 4 * s.frameMax k)) then 4
  else if !s.keyed 0 && !s.keyed 1 then 5 else 0

/-- RINGS_ON is set (R377): the checks, then every enabled ring starts with all indices 0. -/
def State.setRingsOn (s : State) : State :=
  if s.isOn F.HRT_CFG_RINGS_ON then s
  else
    let e := s.cfgErr
    if e ≠ 0 then s.wr F.HRT_STATUS_CFG_ERR e
    else
      let pref := s.rd F.HRT_CFG_PREF_PORT
      let p := if s.keyed pref then pref else 1 - pref
      let s1 : State := { s with hrt := { s.hrt with rings := [], completions := [], compWait := [], transfers := [], transferred := []
                                                     events := [], reads := [], bulkSkip := 0, switching := none, reread := false
                                                     takes := [] } }
      let s2 := (numbersFrom 0 16).foldl (fun s k => s.wrs [(F.HRT_RING_MOD_IDX_INDEX k, 0), (F.HRT_RING_HOST_IDX_INDEX k, 0)]) s1
      s2.wrs [(F.HRT_CFG_RINGS_ON, 1), (F.HRT_STATUS_RINGS_RUNNING, 1), (F.HRT_STATUS_CFG_ERR, 0), (F.HRT_STATUS_ACTIVE_PORT, p),
        (F.HRT_PORT_STATUS_ACTIVE p, 1), (F.HRT_PORT_STATUS_ACTIVE (1 - p), 0), (F.HRT_STATUS_BACKLOG, 0), (F.HRT_BACKLOG_PENDING, 0),
        (F.HRT_BACKLOG_EST_MS, 0)]

/-- SET_RINGS_ON (R377). -/
def execSetRingsOn (s : State) : Out := .next s.setRingsOn

/-- Every ring stops at once; completions that wait are discarded with a record each (R377). -/
def State.ringsOff (s : State) : State :=
  let wait := s.hrt.compWait ++ s.hrt.transfers.map (·.completion)
  let s1 := ({ s with hrt := { s.hrt with compWait := [], transfers := [], frames := [], reads := [], switching := none } } : State).wrs
    [(F.HRT_CFG_RINGS_ON, 0), (F.HRT_STATUS_RINGS_RUNNING, 0), (F.HRT_PORT_STATUS_ACTIVE 0, 0), (F.HRT_PORT_STATUS_ACTIVE 1, 0)]
  wait.foldl (fun s c => s.emit c) s1

/-- CLEAR_RINGS_ON (R377). -/
def execClearRingsOn (s : State) : Out := .next (if s.isOn F.HRT_CFG_RINGS_ON then s.ringsOff else s)

/-! ### Commands taken (R382, R383, R388) -/

/-- PENDING, EST_MS and the backlog flags after a command is taken (R388). -/
def State.backlog (s : State) : State :=
  let c := s.time.count
  let takes := (c :: s.hrt.takes).filter fun t => decide (c < t + 2500000000)
  let n := used (s.rd (F.HRT_RING_HOST_IDX_INDEX 0)) (s.rd (F.HRT_RING_MOD_IDX_INDEX 0))
  let est := n * 10000 / takes.length
  let s1 := ({ s with hrt.takes := takes } : State).wrs [(F.HRT_BACKLOG_PENDING, satPending n), (F.HRT_BACKLOG_EST_MS, satPending est)]
  let flags (s : State) (on : Bool) : State :=
    let f := setBit (s.ring 0).flags 1 on
    ((s.setRing 0 { s.ring 0 with flags := f }).wrB F.HRT_STATUS_BACKLOG on).sendFrame (.flags 0 f)
  if 10000 < est then
    let s2 := if s1.isOn F.HRT_STATUS_BACKLOG then s1 else flags s1 true
    if (match s2.hrt.backlogAt with | some t => decide (t + 15000000000 ≤ c) | none => true) then
      ({ s2 with hrt.backlogAt := some c } : State).flag Fl.HRT_EVENT_COMMAND_BACKLOG {}
    else s2
  else if est < 5000 ∧ s1.isOn F.HRT_STATUS_BACKLOG = true then flags s1 false else s1

/-- The command in the 64 bytes of an entry of ring 0 (R382). -/
def cmdEntry (b : List Byte) : CmdEntry :=
  { opcode := u16 b 0, fence := u8 b 2 % 2 == 1, reserved := u8 b 2 / 2 != 0 || u8 b 3 != 0, tag := u32 b 4, bulkLen := u32 b 8, bulkIndex := u32 b 12 }

/-- COMMAND_TAKE (R383, R399): the next command of ring 0, in the 64 bytes read from the host; what it does follows as its own row. -/
def execCommandTake (entry : List Byte) (s : State) : Out :=
  let e := cmdEntry entry
  let m := s.rd (F.HRT_RING_MOD_IDX_INDEX 0)
  let op := e.opcode % 65536
  .next <|
    if !s.ringOn 0 || s.rd (F.HRT_RING_HOST_IDX_INDEX 0) == m || decide (s.ringFree 1 < 2) || !s.hrt.compWait.isEmpty ||
       !s.hrt.taken.isEmpty || s.hrt.switching.isSome || (e.fence && !s.hrt.ops.isEmpty) ||
       s.hrt.transfers.any (fun x => e.fence || x.completion.kind == 0) then s
    else
      let p := s.activePort
      let h : Hdr := { tag := e.tag, port := p }
      let bulkBad := e.bulkLen != 0 && e.bulkIndex % two32 != (s.rd (F.HRT_RING_MOD_IDX_INDEX 4) + s.hrt.bulkSkip) % two32
      let t : Taken := { opcode := op, tag := e.tag, index := m, mode := s.mode, roles := s.portRoles p, port := p
                         bulkLen := if bulkBad then 0 else e.bulkLen, bulkIndex := e.bulkIndex }
      let s1 := ((({ s with hrt.taken := s.hrt.taken ++ [t] } : State).wr (F.HRT_RING_MOD_IDX_INDEX 0) ((m + 1) % two32)).sendFrame
        (.modIdx 0 ((m + 1) % two32))).backlog
      if !opcodeKnown op then s1.refuseCmd op 0 h .param
      else if e.reserved || bulkBad then
        let role := roleOf op
        s1.refuseCmd op role h ((firstRefusal [(s1.isOn F.SEC_STATUS_TAMPER_LATCHED && (role == rSafety || role == rUpdate), .auth),
          (!hasRole t.roles role, .role)]).getD .param)
      else s1

/-- BULK_DATA_TIMEOUT (R383): the data of a taken command are not all posted 10 ms after it was taken. -/
def execBulkDataTimeout (op tag : Nat) (s : State) : Out :=
  .next <|
    match s.takenOf op tag with
    | some t => if t.bulkLen = 0 then s else s.refuseCmd op (roleOf op) { tag := tag, port := t.port } .param
    | none => s

/-! ### Commands (R400) -/

/-- HRT_STATUS (R400): the HRT registers, then of each ring TAIL, FLAGS and DROPPED (low, high). -/
def execHrtStatus (h : Hdr) (s : State) : Out :=
  .next <| s.command 0x0105 rObserver h []
    fun s => ret s (s.wordsFrom 0x30000 11 ++ s.wordsFrom 0x30030 5 ++ s.wordsFrom 0x30100 32 ++
      ((numbersFrom 0 16).flatMap fun k => s.wordsFrom (0x30200 + 32 * k) 8) ++
      (numbersFrom 0 16).flatMap fun k => [((s.ring k).tail : Int), ((s.ring k).flags : Int), (((s.ring k).dropped % two32 : Nat) : Int),
        (((s.ring k).dropped / two32 : Nat) : Int)])

/-- HRT_PORT_SWITCH (R396, R400). -/
def execHrtPortSwitch (h : Hdr) (port : Nat) (s : State) : Out :=
  .next <| s.command 0x0106 rOperator h [(decide (1 < port), .range)]
    fun s =>
      if !s.keyed port then .refuse .state
      else if s.activePort = port ∨ s.ringsOn = false then .done s []
      else if s.hrt.frames.isEmpty then .done (s.ringsTo port) []
      else .wait { s with hrt.switching := some port }

/-- HRT_TLM_SET (R392, R400). -/
def execHrtTlmSet (h : Hdr) (ring kind slot div first count : Nat) (s : State) : Out :=
  .next <| s.command 0x0107 rOperator h
    [(!inR 6 15 ring || !(kind == 0 || inR 2 4 kind || kind == 6) || decide (15 < slot) || decide (255 < div) || decide (511 < first) ||
      !inR 1 512 count || !s.rangeOk kind first count, .range)]
    fun s =>
      if s.rd (F.HRT_RING_TLM_KIND ring) = 5 then .refuse .busy
      else .done (s.wrs [(F.HRT_RING_TLM_KIND ring, kind), (F.HRT_RING_TLM_SLOT ring, slot), (F.HRT_RING_TLM_DIV ring, max 1 div),
        (F.HRT_RING_TLM_FIRST ring, first), (F.HRT_RING_COUNT_N ring, count)]) []

/-- HRT_SUMMARY_RATE (R400). -/
def execHrtSummaryRate (h : Hdr) (hz : Nat) (s : State) : Out :=
  .next <| s.command 0x0108 rOperator h [(!inR 1 100 hz, .range)] fun s => .done (s.wrKeep F.HRT_SUMMARY_RATE_HZ hz) []

/-! ### Events (R386, R390, R497) -/

/-- FLAGS.EVENTS_PENDING, EVENTS_PENDING and HELD follow the hold queue (R390). -/
def State.heldShow (s : State) : State :=
  let on := !s.recorder.hold.isEmpty
  let s1 := s.wrs [(F.HRT_STATUS_EVENTS_PENDING, if on then 1 else 0), (F.HRT_STATUS_HELD, satPending s.recorder.hold.length),
    (F.REC_HELD_VALUE, s.recorder.hold.length)]
  let f := setBit (s1.ring 2).flags 0 on
  if f = (s1.ring 2).flags then s1
  else
    let s2 := s1.setRing 2 { s1.ring 2 with flags := f }
    if s2.ringsOn then s2.sendFrame (.flags 2 f) else s2

/-- An event finds no room: it is held, or merged once 16 384 are (R390, R497). -/
def State.holdEvent (s : State) (e : Ev) : State :=
  let s1 := s.raise Fl.HRT_EVENT_EVENTS_HELD
  let l := s1.recorder.hold
  if l.length < 16384 then ({ s1 with recorder.hold := l ++ [e] } : State).heldShow
  else
    let s2 := s1.raise Fl.REC_STATUS_HOLD_MERGED
    match l.findIdx? fun x => x.addr == e.addr && x.bit == e.bit with
    | some i => { s2 with recorder.hold := l.set i { l.getD i e with merged := (l.getD i e).merged + 1 } }
    | none => s2

/-- Write one event into ring 2. -/
def State.putEvent (s : State) (e : Ev) : State := ({ s with hrt.events := s.hrt.events ++ [e] } : State).publish 2 1

/-- EVENT_POST (R386, R390): the oldest event raised goes to ring 2, or is held. -/
def execEventPost (s : State) : Out :=
  .next <|
    match s.recorder.evq with
    | [] => s
    | e :: t =>
      let s1 : State := { s with recorder.evq := t }
      if s1.ringOn 2 && s1.recorder.hold.isEmpty && decide (0 < s1.ringFree 2) then s1.putEvent e else s1.holdEvent e

/-- EVENT_RING_ROOM (R390): held events, oldest first, as room allows. -/
def State.eventRoom (s : State) : Nat → State
  | 0 => s
  | n + 1 =>
    match s.recorder.hold with
    | [] => s
    | e :: t =>
      if s.ringOn 2 && decide (0 < s.ringFree 2) then
        State.eventRoom (({ s with recorder.hold := t } : State).putEvent e) n
      else s

def execEventRingRoom (s : State) : Out := .next (s.eventRoom s.recorder.hold.length).heldShow

/-! ### Telemetry (R389, R391–R394) -/

/-- Drop the oldest frames until `n` entries fit behind TAIL `t`: the frames left, TAIL, the number dropped and the LOST they
showed (R389). -/
def dropFrames (size n mod : Nat) : List TlmFrame → Nat → Nat → Nat → List TlmFrame × (Nat × (Nat × Nat))
  | [], _, d, lost => ([], (mod, (d, lost)))
  | f :: l, t, d, lost =>
    if used mod t + n ≤ size then (f :: l, (t, (d, lost))) else dropFrames size n mod l ((f.first + 1 + f.entries) % two32) (d + 1) (lost + f.lost)

/-- Write a telemetry frame: room first, then the frame (R389, R391). -/
def State.putFrame (s : State) (k kind count : Nat) (payload : List Int) (index time : Nat) (partialW aligned : Bool) : State :=
  let entries := (payload.length + 15) / 16
  let n := 1 + entries
  let size := s.ringSize k
  let r := s.ring k
  let m := s.rd (F.HRT_RING_MOD_IDX_INDEX k)
  let host := s.rd (F.HRT_RING_HOST_IDX_INDEX k)
  let tail := if seqLe r.tail host then host else r.tail
  let kept := r.frames.filter fun f => !seqLe ((f.first + 1 + f.entries) % two32) host
  if size < n then (s.setRing k { r with dropped := r.dropped + 1 }).flag Fl.HRT_EVENT_TLM_DROP { idx := k }
  else
    let d := if used m tail + n ≤ size then (kept, (tail, (0, 0))) else dropFrames size n m kept tail 0 0
    let tail1 := d.2.1
    let cnt := d.2.2.1
    let lost := cnt + d.2.2.2
    let f0 : TlmFrame := { first := m, entries := entries, seq := r.frameSeq, index := index, time := time, kind := kind, count := count
                           payload := payload
                           flags := (if aligned then 1 else 0) + (if s.taiValid then 2 else 0) + if partialW then 4 else 0 }
    let l : List TlmFrame := match d.1 with
      | f :: t => { f with lost := f.lost + lost } :: t ++ [f0]
      | [] => [{ f0 with lost := lost }]
    let s1 := s.setRing k { r with tail := tail1, dropped := r.dropped + cnt, frameSeq := (r.frameSeq + 1) % two32, frames := l }
    let s2 := if cnt = 0 then s1
      else ((s1.sendFrame (.tail k tail1)).sendFrame (.lost k tail1 lost)).flag Fl.HRT_EVENT_TLM_DROP { idx := k }
    s2.publish k n

/-- The CELL_V element of a cell (R393). -/
def State.cellV (s : State) (c : Nat) : Int :=
  let a := s.cellAvg c
  let v := match a.mean with | some m => satU 16 (ratRound (m / 100)) | none => markU 16
  ((v + 65536 * a.quality + 524288 * a.cls + if a.markU then 2097152 else 0 : Nat) : Int)

/-- The CELL_EST element of a cell (R242, R392). -/
def State.cellEst (s : State) (i : Nat) : List Int :=
  let q := s.estQuality i
  match s.estRec i with
  | none => wordsOf 4 (leBytes 2 0xFFFF ++ leBytes 2 0xFFFF ++ leBytes 2 (markS 16) ++ leBytes 2 (markS 16) ++ leBytes 2 0xFFFF ++
      leBytes 2 0xFFFF ++ leBytes 2 0xFFFF ++ [q, 0])
  | some r => wordsOf 4 (leBytes 2 (satU 16 (ratRound (10000 * r.soc))) ++ leBytes 2 (satU 16 (ratRound (100 * s.sigma i))) ++
      leBytes 2 (satS 16 r.tc) ++ leBytes 2 (satS 16 r.ts) ++ leBytes 2 (satU 16 (roundDiv (r.y.getD 1 0) 100)) ++
      leBytes 2 (satU 16 (ratRound (10000 * (1 + r.kappa)))) ++ leBytes 2 (satU 16 (ratRound (10000 * s.growth i))) ++ [q, 0])

/-- The NTC element of a module NTC (R310, R392). -/
def State.ntcElem (s : State) (n : Nat) : Int :=
  let f := if n % 2 = 1 then F.THM_NTC_T_LO ((n - 1) / 2) else F.THM_NTC_T_HI ((n - 1) / 2)
  ((s.rd f + 65536 * Tbl.get 4 s.thm.repQ n : Nat) : Int)

/-- The RAW entry of a segment (R104, R393): results as the card sent them. -/
def State.rawElem (s : State) (k : Nat) : List Int :=
  let x := s.segOf k
  let f : SampleFrame := if x.got then x.frame.getD ⟨0, false, false, false, false, false, false, false, [], 0, 0, 0, 0, 0, 0⟩
    else ⟨0, false, false, false, false, false, false, false, [], 0, 0, 0, 0, 0, 0⟩
  let b (c : Bool) (v : Nat) : Nat := if c then v else 0
  let cells := (numbersFrom 0 16).flatMap fun i => leBytes 3 (ofSigned 24 (f.cells.getD i missing24))
  let q := ((numbersFrom 1 16).map fun j => (s.cellResult k j f).2 * 8 ^ (j - 1)).sum
  let fl := b f.aligned 1 + b f.provisional 2 + b f.spareSubst 4 + b f.timingB 16 + b f.ovAny 32 + b f.uvAny 64 + b f.selftest 128
  wordsOf 16 (cells ++ leBytes 6 q ++ [k, fl])

/-- The SE_OUT element of an instance (R392). -/
def State.seOut (s : State) (slot i : Nat) : List Int :=
  let r := (s.seInsts slot).getD i {}
  (numbersFrom 0 8).map fun j => r.y.getD j 0

/-- Index of the data that the next frame of a kind would carry (R392). -/
def State.tlmIndex (s : State) (kind : Nat) : Nat :=
  match kind with
  | 2 => s.seg.lastStart
  | 3 | 6 => s.seInstant
  | _ => s.plumbIdx - s.filtLag

/-- PLUMB instants between two frames at the base rate of a kind; 0 for the kinds that follow their data (R392). -/
def kindPeriod : Nat → Nat
  | 3 => 400
  | 4 => 4000
  | _ => 0

/-- A frame of a ring is due: the data are newer than those of the last one, by the base rate where it is one in time (R392). -/
def State.tlmDue (s : State) (ring kind : Nat) : Bool :=
  match (s.ring ring).last with
  | none => true
  | some i => decide (i + max 1 (kindPeriod kind) ≤ s.tlmIndex kind) || decide (s.tlmIndex kind < i)

/-- TELEMETRY_FRAME (R391, R392): a frame of an assignable ring is due; every DIV-th is sent. -/
def execTelemetryFrame (ring : Nat) (s : State) : Out :=
  let kind := s.rd (F.HRT_RING_TLM_KIND ring)
  .next <|
    if ring < 6 || 15 < ring || !s.ringOn ring || kindWords kind == 0 || !s.tlmDue ring kind then s
    else
      let r := { s.ring ring with last := some (s.tlmIndex kind) }
      if r.skipped + 1 < s.rd (F.HRT_RING_TLM_DIV ring) then s.setRing ring { r with skipped := r.skipped + 1 }
      else
        let s1 := s.setRing ring { r with skipped := 0 }
        let first := s1.rd (F.HRT_RING_TLM_FIRST ring)
        let count := s1.rd (F.HRT_RING_COUNT_N ring)
        let els := numbersFrom first count
        let n := s1.plumbIdx - s1.filtLag
        let al := s1.isOn F.SEG_ALIGN_ALIGNED
        match kind with
        | 2 => s1.putFrame ring 2 count (els.map s1.cellV) s1.seg.lastStart
            (s1.seg.lastStart * 250000 + (s1.seg.lastLen - 1) * 125000) s1.seg.lastPartial (els.all fun c => !(s1.cellAvg c).markU)
        | 3 => s1.putFrame ring 3 count (els.flatMap s1.cellEst) s1.seInstant s1.now false al
        | 4 => s1.putFrame ring 4 count (els.map s1.ntcElem) n s1.now false al
        | 5 =>
          let l := s1.segList.filter fun k => s1.seg.rawMask / 2 ^ (k - 1) % 2 == 1
          s1.putFrame ring 5 l.length (l.flatMap s1.rawElem) n (n * 250000) false
            (l.all fun k => (s1.segOf k).got && (match (s1.segOf k).frame with | some f => f.aligned | none => false))
        | _ => s1.putFrame ring 6 count (els.flatMap (s1.seOut (s1.rd (F.HRT_RING_TLM_SLOT ring)))) s1.seInstant s1.now false al

/-- The payload of a summary frame (R394). -/
def State.summary (s : State) : List Int :=
  let b (c : Bool) (v : Nat) : Nat := if c then v else 0
  let w (a : Nat) : List Byte := leBytes 4 (s.readWord a).1
  let cells : List (Nat × Rat) := s.cellList.filterMap fun c =>
    let a := s.cellAvg c
    if a.quality = 0 then a.mean.map fun m => (c, m) else none
  let best (p : Rat → Rat → Bool) : Nat × Nat :=
    match cells with
    | [] => (markU 16, 0)
    | x :: l =>
      let m := l.foldl (fun (a : Nat × Rat) (c : Nat × Rat) => if p c.2 a.2 then c else a) x
      (satU 16 (ratRound (m.2 / 100)), m.1)
  let top := best fun x y => decide (y < x)
  let low := best fun x y => decide (x < y)
  let cool := [s.ntcMap.getD 442 0, s.ntcMap.getD 443 0]
  let temps := ((numbersFrom 1 (8 * s.segs)).filter fun n => !cool.contains n && Tbl.get 4 s.thm.repQ n == 0).filterMap s.thmNtc
  let cold := match temps with | [] => markS 16 | t :: l => ofSigned 16 (l.foldl min t)
  let flags := b s.closed 1 + b (s.isOn F.SYS_MODE_LOCKOUT_LATCHED) 2 + b (s.isOn F.SEG_ALIGN_ALIGNED) 4 + b s.taiValid 8 +
    b (s.isOn F.EST_STATUS_SOC_UNCERTAIN) 16 + b (s.isOn F.EST_STATUS_CAL_REST_ADVISED) 32 + b (s.isOn F.HRT_STATUS_EVENTS_PENDING) 64 +
    b (s.isOn F.HRT_STATUS_BACKLOG) 128 + b (s.isOn F.TIME_STATUS_ALIGN_DEGRADED) 256 + b (s.isOn F.SAFE_STATUS_SLC_WARN) 512
  wordsOf 64 ([s.mode, s.rd F.PWR_STATE_STATE] ++ leBytes 2 flags ++ leBytes 4 (s.rd F.CIM_CURRENT_MA) ++ leBytes 4 (s.rd F.CIM_VSTRING_MV) ++
    leBytes 8 (ofSigned 64 (roundDiv s.cim.charge two32)) ++
    leBytes 2 (s.rd F.EST_SOC_REPORTED) ++ leBytes 2 (s.rd F.EST_SOC_RAW) ++ leBytes 2 (s.rd F.EST_SIGMA_NOW_SIGMA) ++
    leBytes 2 (s.rd F.EST_SIGMA_NOW_R_LOW) ++ leBytes 2 (s.rd F.EST_RESERVE_R_HIGH) ++ leBytes 2 (s.rd F.EST_SOH_SOH) ++
    leBytes 2 (s.rd F.EST_SOH_RG) ++
    leBytes 2 top.1 ++ leBytes 2 low.1 ++ leBytes 2 top.2 ++ leBytes 2 low.2 ++
    leBytes 2 (s.rd F.THM_STATUS_T_HOT) ++ leBytes 2 cold ++ leBytes 2 (s.rd F.THM_STATUS_HOT_NTC) ++
    ((numbersFrom 0 8).flatMap fun i => w (0x130060 + 4 * i)) ++ ((numbersFrom 0 8).flatMap fun i => w (0x130080 + 4 * i)) ++
    leBytes 4 (int32Of s.energies.1) ++ leBytes 4 (int32Of s.energies.2) ++
    w F.EST_LIMIT_WHY_CHG.addr ++ w F.CIM_ISO_RP_VALUE.addr ++ w 0x10 ++ w 0x90000 ++
    [s.rd F.SAFE_CAUSE_FIRST, s.rd F.UC_STATUS_EXHAUSTED] ++
    leBytes 2 (s.cellList.filter fun c => (s.cellAvg c).quality != 0).length ++ leBytes 2 (s.rd F.EST_STATUS_GATED) ++ leBytes 2 0 ++
    w F.TIME_STATUS_STATE.addr ++ w F.BANK_STATUS_HEARD.addr ++ w F.THM_CMD_VALVE.addr ++ w F.THM_DIE_CTL_STF_C.addr)

/-- PLUMB instants between two summary frames (R394). -/
def State.summaryEvery (s : State) : Nat := 4000 / max 1 (s.rd F.HRT_SUMMARY_RATE_HZ)

/-- SUMMARY_FRAME (R394): ring 3, at indices that are multiples of floor(4000 / RATE_HZ). -/
def execSummaryFrame (s : State) : Out :=
  .next <|
    if s.ringOn 3 && s.plumbIdx % s.summaryEvery == 0 then
      s.putFrame 3 1 1 s.summary s.plumbIdx s.now false (s.isOn F.SEG_ALIGN_ALIGNED)
    else s

end Sys2Proof.Machine
end

