-- ==== Sys2Proof/Machine/HrtBytes.lean ====
section
/-! DEFINITION. What the host's memory and the wire carry (R371, R378, R382–R387, R391): the bytes of ring entries, of the ring-state block
and of HRT frames. -/

namespace Sys2Proof.Machine

/-- The first `n` bytes, filled with zeros. -/
def padTo (n : Nat) (b : List Byte) : List Byte := b.take n ++ List.replicate (n - b.length) 0

/-- A completion entry (R384). -/
def Completion.bytes (c : Completion) : List Byte :=
  leBytes 2 c.opcode ++ [c.status.code, c.mode] ++ leBytes 4 c.tag ++ leBytes 4 c.index ++ [c.kind, if c.bulkLen = 0 then 0 else 1, 0, 0] ++
  leBytes 8 c.time ++ leBytes 4 c.bulkIndex ++ leBytes 4 c.bulkLen ++ padTo 32 (c.result.flatMap fun v => leBytes 4 (ofSigned 32 v))

/-- An event entry (R386); a merged one carries its count (R497). -/
def Ev.bytes (e : Ev) : List Byte :=
  leBytes 4 e.addr ++ [e.bit, e.status.code, e.mode, if e.system then 1 else 0] ++ leBytes 4 e.seq ++ [0, 0, 0, 0] ++ leBytes 8 e.time ++
  leBytes 4 (match e.pos with | some i => 2147483648 + i % 2147483648 | none => 0) ++ 
  (if e.merged = 0 then padTo 36 e.data else padTo 32 e.data ++ leBytes 4 e.merged)

/-- The data of a transfer as bytes: its elements are bytes where their number is the length, else words of 4 bytes. -/
def Transfer.octets (t : Transfer) : List Byte :=
  if t.data.length = t.len then t.data.map fun v => ofSigned 8 v else t.data.flatMap fun v => leBytes 4 (ofSigned 32 v)

/-- Entry `j` of a bulk-out transfer: the header entry, then the data (R385). -/
def Transfer.bytes (t : Transfer) (j : Nat) : List Byte :=
  if j = 0 then padTo 64 (leBytes 2 t.opcode ++ [0, 0] ++ leBytes 4 t.tag ++ leBytes 4 t.len)
  else padTo 64 (t.octets.drop (64 * (j - 1)))

/-- Entry `i` of a sequence of transfers. -/
def transferEntry : List Transfer → Nat → List Byte
  | [], _ => padTo 64 []
  | t :: l, i => if i < t.entries then t.bytes i else transferEntry l (i - t.entries)

/-- Entry `j` of a telemetry frame: the header, then the payload (R391). -/
def TlmFrame.bytes (f : TlmFrame) (j : Nat) : List Byte :=
  if j = 0 then padTo 64 ([f.kind, 1] ++ leBytes 2 f.entries ++ leBytes 4 f.seq ++ leBytes 8 f.index ++ leBytes 8 f.time ++ leBytes 4 f.lost ++
    [f.flags, 0] ++ leBytes 2 f.count)
  else padTo 64 ((f.payload.drop (16 * (j - 1))).take 16 |>.flatMap fun v => leBytes 4 (ofSigned 32 v))

/-- Entry `i` of a module-produced ring as the module writes it (R384–R386, R391). -/
def State.entryBytes (s : State) (k i : Nat) : List Byte :=
  match k with
  | 1 => match s.hrt.completions[i]? with | some c => c.bytes | none => padTo 64 []
  | 2 => match s.hrt.events[i]? with | some e => e.bytes | none => padTo 64 []
  | 5 => transferEntry (s.hrt.transferred ++ s.hrt.transfers) i
  | _ => match (s.ring k).frames.find? fun f => decide (used i f.first ≤ f.entries) with
    | some f => f.bytes (used i f.first)
    | none => padTo 64 []

/-- The words of a ring in the ring-state block that the module writes: MOD_IDX, HOST_IDX as it holds it, TAIL, FLAGS and DROPPED (R378). -/
def State.stateBytes (s : State) (k : Nat) : List Byte :=
  let r := s.ring k
  padTo 64 (leBytes 4 (s.rd (F.HRT_RING_MOD_IDX_INDEX k)) ++ leBytes 4 (s.rd (F.HRT_RING_HOST_IDX_INDEX k)) ++ leBytes 4 r.tail ++
    leBytes 4 r.flags ++ leBytes 8 r.dropped)

/-- Region, offset and bytes that a WRITE puts there; NOTIFY has its payload only (R371, R378, R387, R389). -/
def State.target (s : State) (b : FrameBody) : Nat × (Nat × List Byte) :=
  let block (k off : Nat) (v : List Byte) : Nat × (Nat × List Byte) := (s.blockSpan.1, (s.blockSpan.2.1 + 64 * k + off, v))
  let entry (k i : Nat) : Nat := (s.ringSpan k).2.1 + 64 * (i % s.ringSize k)
  match b with
  | .entries k i n => ((s.ringSpan k).1, (entry k i, (numbersFrom i n).flatMap fun j => s.entryBytes k (j % two32)))
  | .modIdx k i => block k 0 (leBytes 4 i)
  | .tail k i => block k 8 (leBytes 4 i)
  | .lost k i c => ((s.ringSpan k).1, (entry k i + 24, leBytes 4 c))
  | .flags k v => block k 12 (leBytes 4 v)
  | .notify l => (0, (0, l.flatMap fun p => [p.1, 0, 0, 0] ++ leBytes 4 p.2))

/-- The long header of an HRT frame with its payload (R371). -/
def hrtFrame (type seq tag region status offset : Nat) (payload : List Byte) : List Byte :=
  [1, type] ++ leBytes 2 payload.length ++ leBytes 4 seq ++ leBytes 4 tag ++ [region, status, 0, 0] ++ leBytes 8 offset ++ payload

/-- A WRITE or NOTIFY frame after the Ethertype 0x88B5 (R371). -/
def State.frameBytes (s : State) (f : Frame) : List Byte :=
  let t := s.target f.body
  match f.body with
  | .notify _ => hrtFrame 6 f.seq 0 0 0 0 t.2.2
  | _ => hrtFrame 4 f.seq 0 t.1 0 t.2.1 t.2.2

/-- The READ_REQ for entries `[i, i + n)` of a ring (R371). -/
def State.readBytes (s : State) (r : ReadReq) (i n : Nat) : List Byte :=
  [1, 2] ++ leBytes 2 (64 * n) ++ leBytes 4 0 ++ leBytes 4 r.tag ++ [(s.ringSpan r.ring).1, 0, 0, 0] ++
  leBytes 8 ((s.ringSpan r.ring).2.1 + 64 * (i % s.ringSize r.ring))

/-- What the module has on the wire to the host's agent on the active port: the frames of its window, to the key server's address (R369, R372). -/
def State.wire (s : State) : List (Nat × List Byte) := s.inFlight.map fun f => ((s.port s.activePort).server, s.frameBytes f)

end Sys2Proof.Machine
end

