-- ==== Sys2Proof/Machine/Dsp.lean ====
section
/-! DEFINITION. Dispatch and Bank Operation (R244–R265): published limits, schedules, requested perturbations, the bank ring,
paralleling and current sharing. -/

namespace Sys2Proof.Machine

/-! ### Published limits (R244, R245) -/

/-- A current limit with its power limit, scaled by the same factor or set to 0 with it. -/
def narrowTo (i p lim : Int) : Int × Int :=
  let j := if i.natAbs ≤ lim.natAbs then i else if 0 ≤ i then (lim.natAbs : Int) else -(lim.natAbs : Int)
  if i = 0 ∨ j = 0 then (j, 0) else if j = i then (i, p) else (j, ratRound ((p : Rat) * j / i))

/-- The string's published limits: charge and discharge currents, then powers, four horizons each (R244); 0 from a demand of an SSD
input on (R268), and in a direction that SDI or SLC's warning inhibits (R289, R290). -/
def State.pubString (s : State) : List Int :=
  let run := s.mode == mRUN
  let service := s.mode == mSERVICE && s.closed
  let zero := !(run || service) || !s.closed || s.pwr.orderly.isSome || s.isOn F.PWR_AUX_STATUS_AUX_LOSS ||
    s.isOn F.SAFE_STATUS_SSD_DEMAND || s.safe.ssdDelay
  let one (chg : Bool) (h : Nat) : Int × Int :=
    let i := s.rdI (if chg then F.EST_ICHG_MA h else F.EST_IDIS_MA h)
    let p := s.rdI (if chg then F.EST_PCHG_W h else F.EST_PDIS_W h)
    if zero || s.isOn (if chg then F.SAFE_STATUS_SDI_CHG else F.SAFE_STATUS_SDI_DIS) || (if chg then s.safe.inhChg else s.safe.inhDis) then
      (0, 0)
    else if service then narrowTo i p (1000 * pSvcMax s.safe.blockA) else (i, p)
  let c := (numbersFrom 0 4).map (one true)
  let d := (numbersFrom 0 4).map (one false)
  c.map (·.1) ++ d.map (·.1) ++ c.map (·.2) ++ d.map (·.2)

/-- A limit narrows: its magnitude falls by more than 5 % of the published value, or to 0 (R245). -/
def narrows (old new : Int) : Bool :=
  (new == 0 && old != 0) || decide (100 * new.natAbs < 95 * old.natAbs)

/-- Positions last known closed, heard or not (R263). -/
def State.knownClosed (s : State) : List Nat := (numbersFrom 0 8).filter fun p => (s.bankString p).closed

def minMag : List Rat → Rat
  | [] => 0
  | x :: l => l.foldl (fun a b => if b.abs < a.abs then b else a) x

/-- A closed follower is no longer heard by the master (R263). -/
def State.masterDerates (s : State) : Bool :=
  s.bankMaster && s.knownClosed.any fun p => s.rd F.BANK_STATUS_HEARD / 2 ^ p % 2 == 0

/-- The share in use of a closed string; after a change of the set of closed strings it is 1.10 / n_closed until a new measurement,
with 5 % more where the string's mean was unaligned (R261). -/
def State.shareOf (s : State) (chg : Bool) (p : Nat) : Rat :=
  let sh := if chg then s.bank.useChg else s.bank.useDis
  if sh.map (·.1) = s.closedPos then Tbl.get 1 sh p
  else (11 : Rat) / 10 / s.closedPos.length * if (s.bankString p).unaligned then 21 / 20 else 1

/-- Bank limits from the strings' limits (R262), or the derated formula (R263). -/
def State.bankLimits (s : State) (derated : Bool) : List Int :=
  (numbersFrom 0 16).map fun i =>
    let lims := s.closedPos.map fun p => (p, ((s.bankString p).limits.getD i 0 : Rat))
    if derated then ratRound ((s.rd F.BANK_CFG_DERATE : Rat) / 100 * s.knownClosed.length * minMag (lims.map (·.2)))
    else
      ratRound (minMag (lims.map fun x => x.2 / s.shareOf (i / 4 % 2 == 0) x.1))

/-- This module sends bank frames: the master, or the acting master (R246, R263). -/
def State.speaks (s : State) : Bool := s.bankMaster || s.isOn F.BANK_STATUS_ACTING_MASTER

/-- The bank limits are formed by R263 instead of R262. -/
def State.derates (s : State) : Bool := s.isOn F.BANK_STATUS_ACTING_MASTER || s.masterDerates

/-- The bank limits as the strings' reports now give them; none from a module that does not speak for the bank. -/
def State.bankNow (s : State) : List Int := if s.speaks then s.bankLimits s.derates else []

/-- The limits in the BANK_PUB registers (R245): string limits, or bank limits on the master. -/
def State.showPub (s : State) : State :=
  let l := if s.bankMaster then s.bank.pub else s.dsp.pub
  (numbersFrom 0 16).foldl (fun s i =>
    let f := match i / 4 with
      | 0 => F.BANK_PUB_ICHG_MA (i % 4) | 1 => F.BANK_PUB_IDIS_MA (i % 4) | 2 => F.BANK_PUB_PCHG_W (i % 4) | _ => F.BANK_PUB_PDIS_W (i % 4)
    s.wr f (int32Of (l.getD i 0))) s

/-! ### The string's own report (R259) -/

/-- What this module reports of its own string. -/
def State.ownString (s : State) : State :=
  let p := s.bankPos
  let bits (f : Field) (on : Bool) (s : State) : State :=
    let v := s.rd f
    s.wr f (if on then v ||| 2 ^ p else v - (v &&& 2 ^ p))
  let volt : Option Int := if s.rd F.CIM_VSTRING_MV = markS 32 then none else some (s.rdI F.CIM_VSTRING_MV)
  let s1 := s.modString p fun x =>
    { x with closed := s.closed, mode := s.mode, fw := s.rd F.UPD_VERSION_RUN_VERSION, aligned := s.isOn F.SEG_ALIGN_ALIGNED
             dup := s.isOn F.BANK_STATUS_DUP_POSITION, volt := volt, soc := s.rd F.EST_SOC_REPORTED, sigma := s.rd F.EST_SIGMA_NOW_SIGMA
             cap := (s.est.qStr * 1000).floor.toNat, eLow := s.energies.1, eHigh := s.energies.2, limits := s.dsp.pub }
  let s2 := bits F.BANK_STATUS_CLOSED s.closed (bits F.BANK_STATUS_HEARD true s1)
  if s.closed && volt.isSome then { s2 with bank.vBus := volt } else s2

/-- STRING_STATE of this module. -/
def State.sendString (s : State) : State :=
  let x := s.bankString s.bankPos
  s.bankSend (.stringState x.mean x.meanIdx x.unaligned x.volt x.soc x.sigma x.cap x.eLow x.eHigh x.limits)

/-! ### Limit frames (R245–R247, R416) -/

def int32s (l : List Int) : List Byte := l.flatMap fun v => leBytes 4 (int32Of v)

/-- A sum of int32 values: the marker where one is missing (R6). -/
def sumOf (l : List Int) : Int := if l.contains (-2147483648) then -2147483648 else l.sum

/-- Current, voltage, SOC, σ and energies that a frame carries: the string's own, or the bank's. -/
def State.frameValues (s : State) (bank : Bool) : Nat × Nat × Nat × Nat × Int × Int :=
  if bank then
    let l := s.closedPos.map s.bankString
    let i := (l.map fun x => x.mean.getD 0).sum
    let cap := (l.map fun x => x.cap).sum
    let soc := if cap = 0 then markU 16 else satU 16 (roundDiv ((l.map fun x => x.soc * x.cap).sum : Nat) cap)
    let sg := l.foldl (fun a x => max a x.sigma) 0
    (satS 32 i, match s.bank.vBus with | some v => satS 32 v | none => markS 32, soc, if l.isEmpty then markU 16 else sg,
      sumOf (l.map fun x => x.eLow), sumOf (l.map fun x => x.eHigh))
  else
    let x := s.bankString s.bankPos
    (s.rd F.CIM_CURRENT_MA, s.rd F.CIM_VSTRING_MV, s.rd F.EST_SOC_REPORTED, s.rd F.EST_SIGMA_NOW_SIGMA, x.eLow, x.eHigh)

/-- One pair of limit frames of R247: currents (`i`) and powers (`p`). -/
def State.limitFrames (s : State) (bank : Bool) (lims : List Int) (flags : Nat) (i p : Bool) : State :=
  let v := s.frameValues bank
  let idx := s.plumbIdx
  let s1 := if i then s.dspSend (if bank then mbBANK_I else mbLIMITS_I) bank 0 idx flags
      (int32s (lims.take 8) ++ leBytes 4 v.1 ++ leBytes 4 v.2.1 ++ leBytes 2 v.2.2.1 ++ leBytes 2 v.2.2.2.1) else s
  if p then s1.dspSend (if bank then mbBANK_P else mbLIMITS_P) bank 1 idx flags
      (int32s (lims.drop 8) ++ int32s [v.2.2.2.2.1, v.2.2.2.2.2]) else s1

/-- A magnitude in 0.1 A, uint16. -/
def tenthA (i : Int) : Nat := satU 16 (roundDiv i.natAbs 100)

/-- The SC240 frames (R416): `n` counts STATUS, LIMITS, CELLS. -/
def State.sc240Frames (s : State) (bank : Bool) (lims : List Int) : State :=
  let v := s.frameValues bank
  let id := s.rd (F.CAN_SC240_BASE_BASE 0) + (if bank then 0x80 else 16 * s.bankPos)
  let q := s.takeSeq id
  let b (c : Bool) (v : Nat) : Nat := if c then v else 0
  let flags := q.1 % 16 + b s.closed 16 + b (s.mode == mLOCKOUT) 32 + b (s.isOn F.EST_STATUS_SOC_UNCERTAIN) 64
  let soc := if v.2.2.1 = markU 16 then markU 16 else satU 16 (roundDiv v.2.2.1 10)
  let volt := if v.2.1 = markS 32 then markU 16 else satU 16 (roundDiv (toSigned 32 v.2.1) 100)
  let cur := if v.1 = markS 32 then markS 16 else satS 16 (roundDiv (toSigned 32 v.1) 100)
  let cells := s.cellList.filterMap fun c => let a := s.cellAvg c; if a.quality = 0 then a.mean else none
  let cell (p : Rat → Rat → Bool) : Nat := match cells with
    | [] => markU 16
    | x :: l => satU 16 (ratRound (l.foldl (fun a c => if p c a then c else a) x / 1000))
  let temps := ((numbersFrom 1 (8 * s.segs)).filter fun n => Tbl.get 4 s.thm.repQ n == 0).filterMap s.thmNtc
  let deci (t : Int) : Nat := satS 16 (roundDiv t 10)
  let hot := if s.rd F.THM_STATUS_T_HOT = markS 16 then markS 16 else deci (s.rdI F.THM_STATUS_T_HOT)
  let cold := match temps with | [] => markS 16 | t :: l => deci (l.foldl min t)
  let n0 := if bank then 11 else 8
  let s1 := q.2.canSend n0 id false false ([s.mode, flags] ++ leBytes 2 soc ++ leBytes 2 volt ++ leBytes 2 cur)
  let s2 := s1.canSend (n0 + 1) (id + 1) false false ([1, 5, 3, 7].flatMap fun i => leBytes 2 (tenthA (lims.getD i 0)))
  s2.canSend (n0 + 2) (id + 2) false false (leBytes 2 (cell fun x y => decide (y < x)) ++ leBytes 2 (cell fun x y => decide (x < y)) ++
    leBytes 2 hot ++ leBytes 2 cold)

/-- The limit frames of the profile in force with the limits as published: module frames of currents (`i`) and powers (`p`), and the bank
frames (`bi`, `bp`) of the master or acting master. -/
def State.sendLimits (s : State) (i p bi bp : Bool) : State :=
  let margin := if s.bank.margin then 4 else s.unalFlag
  if s.profile = 2 then
    let s1 := s.limitFrames false s.dsp.pub s.unalFlag i p
    if s1.speaks then s1.limitFrames true s1.bank.pub ((if s1.derates then 2 else 0) + margin) bi bp else s1
  else if s.profile = 1 then
    let s1 := if i || p then s.sc240Frames false s.dsp.pub else s
    if s1.speaks && (bi || bp) then s1.sc240Frames true s1.bank.pub else s1
  else s

/-- Both kinds of limits are published anew, with every frame. -/
def State.pubLimits (s : State) (pub : List Int) : State :=
  let s1 := ({ s with dsp.pub := pub } : State).ownString
  ({ s1 with bank.pub := s1.bankNow } : State).showPub

/-! ### Headroom of a perturbation (R256) -/

/-- Headroom in mA of the present setpoint to each 2 s limit; a power setpoint by the string voltage. -/
def State.headroom (s : State) : Nat :=
  let sp := s.rdI F.BANK_SETPOINT_VALUE
  if s.rd F.BANK_SCHED_STATUS_KIND = 1 then
    let v := s.rdI F.CIM_VSTRING_MV
    if v ≤ 0 ∨ s.rd F.CIM_VSTRING_MV = markS 32 then 0
    else ((min (s.pubP true 0 - sp) (sp - s.pubP false 0)) * 1000000 / v).toNat
  else (min (s.pubI true 0 - sp) (sp - s.pubI false 0)).toNat

def State.perturbCheck (s : State) : State :=
  match s.dsp.perturb with
  | some p => if s.headroom < p.amp then s.perturbStop else s
  | none => s

/-! ### Publishing -/

/-- The lowest closed position among this module and those it hears is its own, and it hears others (R263). -/
def State.lowestClosed (s : State) : Bool :=
  s.closed && s.closedPos.all (fun p => decide (s.bankPos ≤ p)) && s.rd F.BANK_STATUS_HEARD != 2 ^ s.bankPos

/-- ACTING_MASTER at a 100 ms boundary (R263, R264). -/
def State.actingMaster (s : State) : State :=
  if s.isOn F.BANK_STATUS_MASTER_LOST then
    if s.follower && s.lowestClosed then s.wr F.BANK_STATUS_ACTING_MASTER 1 else s
  else s.wr F.BANK_STATUS_ACTING_MASTER 0

/-- DSP_PUBLISH (R244, R259, R262–R264): at PLUMB indices that are multiples of 400. -/
def execDspPublish (s : State) : Out :=
  .next <|
    if s.plumbIdx % 400 ≠ 0 ∨ s.pwr.ctl = false ∨ s.mode = mSHELF then s
    else
      let s1 := (s.ownString.actingMaster.pubLimits s.pubString).perturbCheck
      let s2 := (s1.sendLimits true true true true).sendString
      (if s2.speaks then s2.bankSend (.bankLimits s2.bank.pub s2.bank.useChg s2.bank.useDis) else s2).openAllCheck

/-- Which of the published limits narrow, and the limits with those narrowed; a widening waits (R245). -/
def narrowed (old new : List Int) : List Bool × List Int :=
  let hit := (numbersFrom 0 16).map fun i => narrows (old.getD i 0) (new.getD i 0)
  (hit, (numbersFrom 0 16).map fun i => if hit.getD i false then new.getD i 0 else old.getD i 0)

/-- LIMIT_NARROWING (R245): at the next instant after a published limit narrows, the string's own or, on a module that speaks for the bank,
the bank's. -/
def execLimitNarrowing (s : State) : Out :=
  .next <|
    if s.pwr.ctl = false ∨ s.mode = mSHELF then s
    else
      let own := narrowed s.dsp.pub s.pubString
      let s1 := ({ s with dsp.pub := own.2 } : State).ownString
      let bank := narrowed s1.bank.pub s1.bankNow
      if !own.1.any id && !bank.1.any id then s
      else
        let s2 := ({ s1 with bank.pub := if s1.speaks then bank.2 else [] } : State).showPub.perturbCheck
        let s3 := s2.sendLimits ((own.1.take 8).any id) ((own.1.drop 8).any id) ((bank.1.take 8).any id) ((bank.1.drop 8).any id)
        if own.1.any id then s3.sendString else s3

/-! ### Schedules (R249–R254) -/

/-- The entries that bytes spell (R249). -/
def schedEntries (b : List Byte) : List SchedEntry :=
  (numbersFrom 0 (b.length / 16)).map fun i =>
    let o := 16 * i
    { tag := u32 b o + two32 * u32 b (o + 4), value := toSigned 32 (u32 b (o + 8)), kind := u8 b (o + 12)
      notify := u8 b (o + 13) % 2 == 1, ramp := u16 b (o + 14) }

def tagsRise : List SchedEntry → Bool
  | a :: b :: l => decide (a.tag < b.tag) && tagsRise (b :: l)
  | _ => true

/-- The PARAM cases of R249. -/
def schedBad (b : List Byte) : Bool :=
  let l := schedEntries b
  b.length % 16 != 0 || !tagsRise l || l.any (fun e => decide (3 < e.kind) || (e.kind == 2 && e.value != 0)) ||
  l.dropLast.any (fun e => e.kind == 3) || (numbersFrom 0 l.length).any fun i => decide (1 < u8 b (16 * i + 13))

/-- A schedule without an END entry behaves as if it ended with one (R250). -/
def withEnd (l : List SchedEntry) : List SchedEntry :=
  match l.getLast? with
  | some e => if e.kind = 3 then l else l ++ [{ tag := e.tag + 1, value := 0, kind := 3, implied := true }]
  | none => l

/-- DSP_SCHEDULE_LOAD (R249, R250). -/
def execDspScheduleLoad (h : Hdr) (data : List Byte) (s : State) : Out :=
  .next <| s.command 0x0502 rOperator h
    [(schedBad data, .param),
     (decide (data.length < 16) || decide (16384 < data.length) || (schedEntries data).any (fun e => decide (60000 < e.ramp)), .range)]
    fun s =>
      let b := match s.dsp.running, s.dsp.starting with
        | some r, _ => 1 - r
        | none, some (r, _) => 1 - r
        | none, none => s.rd F.BANK_SCHED_STATUS_RUNNING_BUF
      if (s.dsp.starting.map (·.1)) == some b then .refuse .busy
      else if s.follower then .refuse .noResource
      else
        let s1 : State := { s with dsp.bufs := Tbl.put s.dsp.bufs b (withEnd (schedEntries data)), dsp.loaded := some b }
        .done (if s1.dsp.running.isSome then s1 else s1.wr F.BANK_SCHED_STATUS_STATE 1) []

/-- Entries of a buffer. -/
def State.sched (s : State) (b : Nat) : List SchedEntry := Tbl.get [] s.dsp.bufs b

/-- DSP_SCHEDULE_START (R250): entries that lie less than LEAD_MS ahead are skipped as MISSED. -/
def execDspScheduleStart (h : Hdr) (s : State) : Out :=
  .next <| s.command 0x0503 rOperator h []
    fun s =>
      match s.dsp.loaded with
      | none => .refuse (if s.follower then .noResource else .state)
      | some b =>
        let l := s.sched b
        let skip := (l.filter fun e => !e.implied && decide (e.tag < s.plumbIdx + s.lead)).length
        if (l.filter fun e => !e.implied).length ≤ skip then .refuse .range
        else if s.dsp.starting.isSome then .refuse .busy
        else if s.follower || s.profile == 1 then .refuse .noResource
        else
          let s1 := s.flagN Fl.BANK_EVENT_MISSED skip
          let s2 : State := { s1 with dsp.starting := some (b, skip) }
          let s3 := if s2.dsp.running.isSome then s2
            else s2.wrs [(F.BANK_SCHED_STATUS_STATE, 2), (F.BANK_SCHED_STATUS_RUNNING_BUF, b), (F.BANK_SCHED_STATUS_NEXT, skip)]
          .accept s3 b [(skip : Int)]

/-- Handle entry `i` of buffer `b` (R250, R251). -/
def State.schedEntry (s : State) (b i : Nat) : State :=
  let l := s.sched b
  match l[i]? with
  | none => s
  | some e =>
    if e.kind = 3 then (s.endAction e.tag e.ramp).scheduleEnd .ok
    else
      let gap : Option Nat := match l[i + 1]? with
        | some n => if n.implied then none else some (n.tag - e.tag)
        | none => none
      (s.setpointQueue e (horizonOf gap)).wr F.BANK_SCHED_STATUS_NEXT (i + 1)

/-- SCHEDULE_ENTRY_DUE (R250, R251, R254): at tag − LEAD_MS.  The first entry of a started schedule replaces the one running. -/
def execScheduleEntryDue (s : State) : Out :=
  let due (b i : Nat) : Bool := match (s.sched b)[i]? with
    | some e => decide (e.tag ≤ s.plumbIdx + s.lead)
    | none => false
  .next <|
    if s.mode ≠ mRUN ∨ s.pwr.ctl = false then s
    else match s.dsp.starting with
      | some (b, i) =>
        if due b i then
          let s1 := s.scheduleEnd .aborted
          let s2 := ({ s1 with dsp.starting := none, dsp.running := some b } : State).wrs
            [(F.BANK_SCHED_STATUS_STATE, 2), (F.BANK_SCHED_STATUS_RUNNING_BUF, b)]
          s2.schedEntry b i
        else match s.dsp.running with
          | some r => if due r (s.rd F.BANK_SCHED_STATUS_NEXT) then s.schedEntry r (s.rd F.BANK_SCHED_STATUS_NEXT) else s
          | none => s
      | none => match s.dsp.running with
        | some r => if due r (s.rd F.BANK_SCHED_STATUS_NEXT) then s.schedEntry r (s.rd F.BANK_SCHED_STATUS_NEXT) else s
        | none => s

/-- SETPOINT_LATE_CANCEL (R252, R409): at tag + 100 ms; `won` says that the frame has won arbitration. -/
def execSetpointLateCancel (won : Bool) (s : State) : Out :=
  .next <|
    match s.dsp.out with
    | [] => s
    | e :: _ =>
      if s.plumbIdx < e.tag + 400 then s
      else if s.canPend 0 mbSETPOINT then
        if won then s.wr (F.CAN_MB_CTRL_CANCEL 0 mbSETPOINT) 1 else s.canDone 0 mbSETPOINT .aborted
      else s.setpointEnd none

/-- DSP_SCHEDULE_STOP (R265). -/
def execDspScheduleStop (h : Hdr) (s : State) : Out :=
  .next <| s.command 0x0504 rOperator h []
    fun s =>
      if s.follower then .refuse .noResource
      else if s.dsp.running.isSome || s.dsp.starting.isSome then .done (s.scheduleAbort.endAction (s.plumbIdx + s.lead) 0) []
      else .done s.scheduleAbort []

/-- DSP_SETPOINT (R253, R265). -/
def execDspSetpoint (h : Hdr) (kind : Nat) (value : Int) (ramp : Nat) (s : State) : Out :=
  .next <| s.command 0x0505 rOperator h [(decide (1 < kind), .param), (decide (60000 < ramp), .range)]
    fun s =>
      if s.dsp.running.isSome || s.dsp.starting.isSome then .refuse .busy
      else if s.follower || s.profile == 1 then .refuse .noResource
      else .done (s.setpointQueue { tag := s.plumbIdx + s.lead, value := value, kind := kind, ramp := ramp, single := true } 3) []

/-- DSP_STATUS (R265). -/
def execDspStatus (h : Hdr) (s : State) : Out :=
  .next <| s.command 0x0501 rObserver h []
    fun s => ret s (s.words ((numbersFrom 0 16).map (fun i => 0x130060 + 4 * i) ++ [0x13000C, 0x130010]))

/-- DSP_SET_CFG (R265): the three words. -/
def execDspSetCfg (h : Hdr) (cfg canId maxMa : Nat) (s : State) : Out :=
  let ws := [(0x130004, cfg), (0x130014, canId), (0x130018, maxMa)]
  .next <| s.command 0x0507 rMaintainer h (ws.filterMap fun p => (s.writeCheck p.1 p.2).map fun st => (true, st))
    fun s => .done (ws.foldl (fun s p => s.writeStore p.1 p.2) s) []

/-! ### Requested perturbation (R255, R256) -/

/-- DSP_PERTURB (R255, R256): K, amplitude in mA, duration in PLUMB periods, start index. -/
def execDspPerturb (h : Hdr) (k amp dur start : Nat) (s : State) : Out :=
  .next <| s.command 0x0506 rMaintainer h
    [(!freqOk k || dur == 0 || decide (start < s.plumbIdx + 8000), .range)]
    fun s =>
      let a := min amp (min (s.rd F.BANK_PERTURB_MAX_MA) s.headroom)
      let imin := s.rd F.SE_CORR_CFG_IMIN
      if a < imin then .refuse .range
      else if s.dsp.perturb.isSome || s.isOn F.SE_STATUS_INJ_RUNNING then .refuse .busy
      else if s.follower || s.profile == 1 then .refuse .noResource
      else
        let s1 := s.dspSend mbPERTURB s.bankMaster 3 start s.unalFlag (leBytes 4 k ++ leBytes 4 a ++ leBytes 4 dur)
        let s2 : State := { s1.genLoad 3 1 a k 0 dur 1 start true with dsp.perturb := some { k := k, amp := a, dur := dur, start := start } }
        let s3 := if s2.bankMaster then s2.bankSend (.corrStart start [(0, k)] (s2.rd F.SE_CORR_CFG_T_INT) imin) else s2
        .accept s3 0 [(a : Int)]

/-- PERTURB_ACK (R255): the start index and K that the PCS echoes. -/
def execPerturbAck (start k : Nat) (s : State) : Out :=
  .next <| match s.dsp.perturb with
    | some p => if p.start = start ∧ p.k = k then { s with dsp.perturb := some { p with acked := true } } else s
    | none => s

/-- PERTURB_ACK_TIMEOUT (R255): no matching acknowledgement within 500 ms. -/
def execPerturbAckTimeout (s : State) : Out :=
  .next <| match s.dsp.perturb with
    | some p => if p.acked then s else s.flag Fl.BANK_EVENT_PERTURB_REFUSED {}
    | none => s

/-! ### Paralleling (R260) -/

/-- PARALLEL_REQ (R260): the master receives a request of position `pos` with its open-circuit voltage in mV. -/
def execParallelReq (pos : Nat) (volt : Int) (s : State) : Out :=
  .next <| if s.bankMaster && decide (1 ≤ pos) && decide (pos ≤ 7) && s.pwr.ctl then s.grantRequest pos volt else s

/-- GRANT (R260): the master's answer, 0 granted or the reason of its refusal. -/
def execGrant (reason : Nat) (s : State) : Out :=
  .next <| if s.follower && s.pwr.ctl && decide (reason ≤ 3) then s.grantTake reason else s

/-- CLOSED (R260): the master receives CLOSED of position `pos`. -/
def execClosed (pos : Nat) (s : State) : Out :=
  .next <| if s.bankMaster && s.bank.granted == some pos && s.pwr.ctl then s.grantFree else s

/-- GRANT_LAPSE (R260): 5 s without release, for the master and for the holder. -/
def execGrantLapse (s : State) : Out :=
  let s1 := s.wr F.BANK_STATUS_GRANT_HELD 0
  .next <| if s1.bankMaster && s1.bank.granted.isSome then s1.grantFree else s1

/-- GRANT_WAIT_EXPIRY (R260): the wait exceeds 10 s. -/
def execGrantWaitExpiry (s : State) : Out :=
  .next <|
    if s.bank.asking then
      ({ s with bank.waiting := if s.bankMaster then Tbl.del s.bank.waiting 0 else s.bank.waiting } : State).grantRefused 4
    else s

/-! ### Bank messages (R257–R264) -/

def State.setBit (s : State) (f : Field) (p : Nat) (on : Bool) : State :=
  let v := s.rd f
  s.wr f (if on then v ||| 2 ^ p else v - (v &&& 2 ^ p))

/-- The path with the fewest hops from the master (R354). -/
def shortest : List MarkerPath → Option MarkerPath
  | [] => none
  | p :: l => some (l.foldl (fun a b => if b.hops < a.hops then b else a) p)

/-- A marker of the master (R259, R350, R351, R354): it left the master at its index on the master's PLUMB timeline, and its arrival less the
delay says where corrected time and this module's own timeline stand. -/
def State.markerTake (s : State) (idx : Nat) (tai aligned : Bool) (p : MarkerPath) : State :=
  let ns : Int := (idx : Int) * 250000 - ((p.arrival : Int) - p.delay)
  let diff := ns - s.rdI F.TIME_PLUMB_DIFF_VALUE
  let hops := p.hops
  let s1 := ({ s with time.bankAligned := aligned } : State).wrB F.BANK_STATUS_PLUMB_MISMATCH (decide (1000 < diff.natAbs))
  if !s1.isOn F.TIME_CFG_BANK_EN || s1.time.annA.isSome || s1.time.annB.isSome then s1
  else
    let s2 := if s1.timeState = tFREE ∨ s1.timeState = tHOLDOVER ∨ s1.timeState = tLOCKED then s1.setTimeState tACQUIRING else s1
    let was := s2.timeState
    let s3 := s2.timeOffset ns true
    if s3.timeState = tBANK then
      let s4 := s3.wrs [(F.TIME_STATUS_BANK_HOPS, hops), (F.TIME_STATUS_ALIGN_DEGRADED, if aligned && decide (hops ≤ 4) then 0 else 1)]
      if was ≠ tBANK ∧ tai = true then s4.wr F.TIME_STATUS_TAI_VALID 1 else s4
    else s3

/-- The marker as heard on both directions of the ring. -/
def State.bankMarker (s : State) (idx : Nat) (tai aligned : Bool) (paths : List MarkerPath) : State :=
  match shortest paths with
  | some p => s.markerTake idx tai aligned p
  | none => s

/-- A follower starts its correlation with the master's bins (R256). -/
def State.bankCorr (s : State) (start : Nat) (bins : List (Nat × Nat)) (tInt imin : Nat) : State :=
  if s.isOn F.SE_STATUS_CORR_RUNNING || !s.closed then s
  else
    let l := bins.filterMap fun b =>
      if b.1 < 8 ∧ freqOk b.2 = true ∧ 4 ≤ corrPeriods b.2 tInt then
        some (b.1, ({ k := b.2, total := corrTotal b.2 tInt, cells := List.replicate (16 * s.segs) {} } : CorrBin)) else none
    let mask := (l.map fun b => 2 ^ b.1).sum
    let s1 : State := { s with se.corr := l, se.corrOut := [], se.corrStart := start, se.corrMaps := [], se.corrByFirmware := true }
    let s2 := s1.wrs [(F.SE_STATUS_CORR_RUNNING, 1), (F.SE_CORR_CFG_BIN_EN, mask), (F.SE_CORR_CFG_T_INT, tInt), (F.SE_CORR_CFG_IMIN, imin)]
    bins.foldl (fun s b => s.wr (F.SE_CORR_FREQ_K b.1) b.2) s2

/-- The master's insulation result on a follower: reported while its string is closed; the alarm state stands as it is (R167, R169). -/
def State.bankIso (s : State) (rp rpos rneg cap : Nat) : State :=
  if !s.follower then s
  else
    let s1 : State := { s with cim.bankRes := some (s.time.count, [rp, rpos, rneg, cap]) }
    if s1.isoBank then (({ s1 with cim.candidate := false } : State).isoReport).isoRole else s1

/-- BANK_MESSAGE_RECEIVED (R257–R264): a message of the module at position `pos`. -/
def execBankMessageReceived (pos : Nat) (m : BankMsg) (s : State) : Out :=
  .next <|
    if 7 < pos ∨ s.inBank = false ∨ s.pwr.ctl = false then s
    else if pos = s.bankPos then
      match m with
      | .heartbeat .. => s.wr F.BANK_STATUS_DUP_POSITION 1
      | _ => s
    else
      let s0 := s.setBit F.BANK_STATUS_HEARD pos true
      let s1 := if pos = 0 then s0.wr F.BANK_STATUS_MASTER_LOST 0 else s0
      match m with
      | .heartbeat mode closed fw aligned dup =>
        ((s1.modString pos fun x => { x with mode := mode, closed := closed, fw := fw, aligned := aligned, dup := dup }).setBit
          F.BANK_STATUS_CLOSED pos closed).openAllCheck
      | .stringState mean idx unal volt soc sigma cap eLow eHigh limits =>
        let s2 := s1.modString pos fun x =>
          { x with mean := mean, meanIdx := idx, unaligned := unal, volt := volt, soc := soc, sigma := sigma, cap := cap
                   eLow := eLow, eHigh := eHigh, limits := limits }
        if (s2.bankString pos).closed && volt.isSome then { s2 with bank.vBus := volt } else s2
      | .isoResult rp rpos rneg cap => if pos = 0 then s1.bankIso rp rpos rneg cap else s1
      | .corrStart start bins tInt imin => if pos = 0 then s1.bankCorr start bins tInt imin else s1
      | .marker idx tai aligned paths => if pos = 0 then s1.bankMarker idx tai aligned paths else s1
      | .openAll => if pos = 0 ∧ s1.closed = true then s1.startOrderly mSTANDBY byCommand else s1
      | .bankLimits limits _ _ => { s1 with bank.heard := limits }
      | .parallelReq v => if s1.bankMaster then s1.grantRequest pos v else s1
      | .grant p r => if pos = 0 ∧ p = s1.bankPos then s1.grantTake r else s1
      | .closed => if s1.bankMaster && s1.bank.granted == some pos then s1.grantFree else s1

/-- BANK_MODULE_LOST (R259, R263): position `pos` has not been heard on either direction for 50 ms. -/
def execBankModuleLost (pos : Nat) (s : State) : Out :=
  .next <|
    if 7 < pos ∨ pos = s.bankPos ∨ s.rd F.BANK_STATUS_HEARD / 2 ^ pos % 2 = 0 then s
    else
      let s1 := (s.setBit F.BANK_STATUS_HEARD pos false).setBit F.BANK_STATUS_CLOSED pos false
      if pos ≠ 0 then s1
      else
        let s2 := (s1.wr F.BANK_STATUS_MASTER_LOST 1).flag Fl.BANK_EVENT_MASTER_LOST {}
        let s3 := if s2.timeState = tBANK then s2.timeLost else s2
        if s3.bank.asking then s3.grantRefused 2 else s3

/-- BANK_RING_BREAK (R257): one direction of the ring breaks, or is whole again. -/
def execBankRingBreak (broken : Bool) (s : State) : Out :=
  .next <|
    if s.inBank && broken && !s.isOn F.BANK_STATUS_RING_BREAK then
      (s.wr F.BANK_STATUS_RING_BREAK 1).flag Fl.BANK_EVENT_RING_BREAK {}
    else if broken then s else s.wr F.BANK_STATUS_RING_BREAK 0

/-- BANK_HEARTBEAT_SEND (R259). -/
def execBankHeartbeatSend (s : State) : Out :=
  .next <|
    if s.inBank && s.pwr.ctl then
      let s1 := s.ownString
      let x := s1.bankString s1.bankPos
      s1.bankSend (.heartbeat x.mode x.closed x.fw x.aligned x.dup)
    else s

/-! ### Current sharing (R261, R262) -/

/-- Shares of one direction: measured now or kept, the set they belong to, and those in use with the margin. -/
def State.shares (s : State) (chg : Bool) : List (Nat × Rat) × Nat × List (Nat × Rat) :=
  let ps := s.closedPos
  let set := s.rd F.BANK_STATUS_CLOSED
  let strings := ps.map fun p => (p, s.bankString p)
  let sum : Int := (strings.map fun x => x.2.mean.getD 0).sum
  let sameIdx := match strings with
    | [] => false
    | x :: l => l.all fun y => y.2.meanIdx == x.2.meanIdx
  let rated : Nat := 1000 * s.rd F.EST_ILIM_CONT_A * ps.length
  let ok := sameIdx && strings.all (fun x => x.2.mean.isSome) && decide (rated ≤ 20 * sum.natAbs) && (if chg then decide (0 < sum) else decide (sum < 0))
  let unal (p : Nat) : Rat := if (s.bankString p).unaligned then 21 / 20 else 1
  if ok then
    let l := strings.map fun x => (x.1, max (1 / 100 : Rat) ((x.2.mean.getD 0 : Rat) / sum))
    (l, set, l.map fun x => (x.1, x.2 * unal x.1))
  else
    let old := if chg then s.bank.chg else s.bank.dis
    let oldSet := if chg then s.bank.chgSet else s.bank.disSet
    if oldSet = set ∧ set ≠ 0 then (old, oldSet, old.map fun x => (x.1, x.2 * (11 / 10) * unal x.1))
    else ([], 0, ps.map fun p => (p, (11 : Rat) / 10 / ps.length * unal p))

/-- Departure of a measured share from 1 / n_closed (R262). -/
def State.imbalance (s : State) (p dir : Nat) (f : Option Rat) : State :=
  let n := s.closedPos.length
  let key := 2 * p + dir
  let away := match f with
    | some f => decide ((s.rd F.BANK_DSP_CFG_IMBAL_PCT : Rat) / (100 * n) < (f - 1 / (n : Rat)).abs)
    | none => false
  let c := if away then Tbl.get 0 s.bank.imbal key + 1 else 0
  let s1 : State := { s with bank.imbal := Tbl.put s.bank.imbal key c }
  if c = 60 then s1.flag Fl.BANK_EVENT_IMBALANCE { idx := p } else s1

/-- BANK_SHARE_UPDATE (R261, R262): each second, on the master. -/
def execBankShareUpdate (s : State) : Out :=
  .next <|
    if !s.bankMaster || !s.pwr.ctl then s
    else
      let c := s.shares true
      let d := s.shares false
      let s1 : State := { s with bank.chg := c.1, bank.chgSet := c.2.1, bank.useChg := c.2.2, bank.dis := d.1, bank.disSet := d.2.1,
                                 bank.useDis := d.2.2, bank.margin := s.closedPos.any fun p => (s.bankString p).unaligned }
      let show1 (f : Option Rat) : Nat := match f with | some x => satU 16 (ratRound (10000 * x)) | none => 65535
      let s2 := (numbersFrom 0 8).foldl (fun s p => s.wrs
        [(F.BANK_SHARE_CHG p, show1 (c.2.2.find? (·.1 == p) |>.map (·.2))), (F.BANK_SHARE_DIS p, show1 (d.2.2.find? (·.1 == p) |>.map (·.2)))]) s1
      (numbersFrom 0 8).foldl (fun s p =>
        (s.imbalance p 0 (c.1.find? (·.1 == p) |>.map (·.2))).imbalance p 1 (d.1.find? (·.1 == p) |>.map (·.2))) s2

/-! ### Bank commands (R265) -/

/-- BANK_STATUS (R265): the bank limits as published here or, on a follower, as the master last sent them. -/
def execBankStatus (h : Hdr) (s : State) : Out :=
  .next <| s.command 0x1001 rObserver h []
    fun s => ret s (s.words (0x130008 :: (numbersFrom 0 8).map (fun p => 0x130100 + 4 * p)) ++
      (if s.speaks then s.bank.pub else if s.inBank then s.bank.heard else s.dsp.pub))

/-- BANK_SET_CFG (R265). -/
def execBankSetCfg (h : Hdr) (size vmatch derate : Nat) (s : State) : Out :=
  .next <| s.command 0x1002 rMaintainer h [(decide (7 < size) || !inR 5 200 vmatch || !inR 10 100 derate, .range)]
    fun s => .done (((s.wrKeep F.BANK_CFG_SIZE_M1 size).wrKeep F.BANK_CFG_VMATCH vmatch).wrKeep F.BANK_CFG_DERATE derate) []

/-- BANK_OPEN_ALL (R265): every closed module performs an orderly open. -/
def execBankOpenAll (h : Hdr) (s : State) : Out :=
  .next <| s.command 0x1003 rOperator h []
    fun s =>
      if s.follower then .refuse .noResource
      else if s.closedPos.isEmpty && !s.closed then .done s []
      else
        let s1 := if s.closed then s.startOrderly mSTANDBY byCommand else s
        .accept { s1.bankSend .openAll with bank.openAll := true } 0 []

end Sys2Proof.Machine
end

