-- ==== Sys2Proof/Machine/Can.lean ====
section
/-! DEFINITION. CAN FD Controllers (R401–R417): configuration, filters, message buffers, FIFOs, transmission, cancellation and
fault confinement. -/

namespace Sys2Proof.Machine

/-- The last completion of a command that completes once only, later (R396, R413): its record and completion. -/
def State.waitEnd (s : State) (op : Nat) (st : Status) : State :=
  match s.hrt.taken.find? fun t => t.opcode == op with
  | some t => ((if audited (roleOf op) then s.cmdRec op { tag := t.tag, port := t.port } st else s)).waitDone op st
  | none => s

/-! ### Counters and error state (R411, R412) -/

/-- TEC, REC, WARN and error-active or error-passive follow the exact counters; ERR_PASSIVE on entry. -/
def State.canShow (s : State) (c : Nat) : State :=
  let b := s.canBus c
  let old := s.rd (F.CAN_STATUS_STATE c)
  let passive := decide (128 ≤ b.tec) || decide (128 ≤ b.rcv)
  let s1 := s.wrs [(F.CAN_STATUS_TEC c, min 255 b.tec), (F.CAN_STATUS_REC c, min 255 b.rcv),
    (F.CAN_STATUS_WARN c, if 96 ≤ b.tec ∨ 96 ≤ b.rcv then 1 else 0)]
  if 2 ≤ old then s1
  else
    let s2 := s1.wr (F.CAN_STATUS_STATE c) (if passive then canPASSIVE else canACTIVE)
    if passive && old == canACTIVE then s2.flag (Fl.CAN_EVENT_ERR_PASSIVE c) { idx := c } else s2

/-- An error is detected: LEC; as transmitter of buffer `n` TEC rises by 8, as receiver REC by 1 or 8 (R411, R412). -/
def State.canError (s : State) (c lec : Nat) (tx : Option Nat) (dom arb inFlag : Bool) : State :=
  let s1 := s.wr (F.CAN_STATUS_LEC c) lec
  let b := s1.canBus c
  let frozen := s1.isOn (F.CAN_CFG_LISTEN_ONLY c)
  match tx with
  | some n =>
    let exempt := !inFlag && ((lec == 3 && !dom && s1.rd (F.CAN_STATUS_STATE c) == canPASSIVE) || (lec == 1 && arb))
    let acks := if inFlag then b.acks else if lec = 3 then b.acks + 1 else 0
    let b1 : CanBus := { b with
      tec := if exempt || frozen then b.tec else b.tec + 8
      acks := acks
      tries := if inFlag then b.tries else Tbl.put b.tries n (Tbl.get 0 b.tries n + 1)
      errs := if inFlag then b.errs else Tbl.put b.errs n lec }
    let s2 := (s1.setCan c b1).canShow c
    if acks = 3 ∧ inFlag = false ∧ s2.isOn (F.CAN_STATUS_NO_PARTNER c) = false then
      (s2.wr (F.CAN_STATUS_NO_PARTNER c) 1).flag (Fl.CAN_EVENT_NO_PARTNER c) { idx := c }
    else s2
  | none =>
    let d := if inFlag then 8 else if dom then 9 else 1
    (s1.setCan c { b with rcv := if frozen then b.rcv else b.rcv + d }).canShow c

/-- CAN_BUS_ERROR (R408, R411, R412): an error on controller `c`, LEC as coded, as transmitter of buffer `tx` or as receiver.
`dom`: a dominant bit was seen in or after the error flag; `arb`: a stuff error in the arbitration field; `inFlag`: a further
error within an error or overload flag, no new attempt. -/
def execCanBusError (c lec : Nat) (tx : Option Nat) (dom arb inFlag : Bool) (s : State) : Out :=
  .next <|
    let txOk := match tx with | some n => s.canPend c n | none => true
    if 1 < c ∨ s.canOn c = false ∨ lec < 1 ∨ 6 < lec ∨ txOk = false then s else s.canError c lec tx dom arb inFlag

/-- BUS_OFF (R411): TEC exceeds 255. -/
def execBusOff (c : Nat) (s : State) : Out :=
  .next <|
    if 1 < c ∨ 2 ≤ s.rd (F.CAN_STATUS_STATE c) ∨ (s.canBus c).tec ≤ 255 then s
    else ((s.wr (F.CAN_STATUS_STATE c) canOFF).canAbortAll c).flag (Fl.CAN_EVENT_BUS_OFF c) { idx := c }

/-- Start the recovery of 128 sequences; without effect if not bus-off (R411). -/
def State.canRecover (s : State) (c : Nat) : State :=
  if s.rd (F.CAN_STATUS_STATE c) = canOFF then s.wrs [(F.CAN_STATUS_STATE c, canRECOVER), (F.CAN_CTRL_RECOVER c, 1)] else s

/-- RECOVER (R411): 1 is written to CAN_CTRL.RECOVER. -/
def execRecover (c : Nat) (s : State) : Out := .next (if 1 < c then s else s.canRecover c)

/-- CAN_AUTO_RECOVER (R411): RECOVER_MS after bus-off, unless RECOVER_MS is 0. -/
def execCanAutoRecover (c : Nat) (s : State) : Out :=
  .next <| if 1 < c ∨ s.rd (F.CAN_CFG_RECOVER_MS c) = 0 ∨ s.pwr.ctl = false then s else s.canRecover c

/-- CAN_RECOVERY_DONE (R411): error-active with both counters 0. -/
def execCanRecoveryDone (c : Nat) (s : State) : Out :=
  .next <|
    if 1 < c ∨ s.rd (F.CAN_STATUS_STATE c) ≠ canRECOVER then s
    else
      ((s.setCan c { s.canBus c with tec := 0, rcv := 0, acks := 0 }).wrs
        [(F.CAN_STATUS_STATE c, canACTIVE), (F.CAN_CTRL_RECOVER c, 0)]).canShow c

/-- CAN_RECOVER (R411, R417). -/
def execCanRecover (h : Hdr) (c : Nat) (s : State) : Out :=
  .next <| s.command 0x0908 rOperator h [(decide (1 < c), .range)] fun s => .done (s.canRecover c) []

/-! ### Configuration (R402, R413) -/

/-- Clock cycles of a nominal and of a data bit, from CAN_NBT and CAN_DBT. -/
def nbtCycles (w : Nat) : Nat := (w % 32 + 1) * (3 + w / 32 % 256 + w / 8192 % 128)
def dbtCycles (w : Nat) : Nat := (w % 32 + 1) * (3 + w / 32 % 32 + w / 1024 % 16)

/-- The configuration breaks R401, R402 or the profile rule of R416. -/
def canCfgBad (c cfg nbt dbt : Nat) : Bool :=
  let n := nbtCycles nbt
  let d := dbtCycles dbt
  (c == 1 && (cfg / 16 % 4 == 1 || cfg / 16 % 4 == 2)) || nbt / 32 % 256 == 0 || nbt / 8192 % 128 == 0 ||
  decide (nbt / 8192 % 128 < nbt / 1048576 % 128) || decide (dbt / 1024 % 16 < dbt / 16384 % 16) ||
  !inR 80 8000 n || decide (d < 16) || decide (n < d) || (decide (d < 80) && dbt / 262144 % 2 == 0)

/-- The words of CAN_CFG, CAN_NBT and CAN_DBT. -/
def canBase (c : Nat) : Nat := 0xC0000 + 0x8000 * c

/-- After a change of CAN_CFG other than RECOVER_MS, of CAN_NBT or of CAN_DBT: pending buffers complete ABORTED and the
controller integrates anew, where it is on (R413). -/
def State.canChanged (s : State) (c : Nat) : State :=
  let s1 := s.canAbortAll c
  let on := s1.isOn (F.CAN_CFG_ENABLE c)
  (s1.setCan c { s1.canBus c with integrating := on }).wr (F.CAN_STATUS_INTEGRATED c) 0

/-- What R413 counts as a change: CAN_CFG without RECOVER_MS, CAN_NBT, CAN_DBT. -/
def State.canCfgKey (s : State) (c : Nat) : List Nat :=
  let b := canBase c
  [(s.readWord b).1 % 65536, (s.readWord (b + 4)).1, (s.readWord (b + 8)).1]

/-- CAN_SET_CFG (R402, R413): the words of CAN_CFG, CAN_NBT, CAN_DBT and CAN_WAKE. -/
def execCanSetCfg (h : Hdr) (c cfg nbt dbt wake : Nat) (s : State) : Out :=
  let b := canBase c
  let ws := [(b, cfg), (b + 4, nbt), (b + 8, dbt), (b + 0x50, wake)]
  .next <| s.command 0x0902 rMaintainer h
    ((decide (1 < c), .range) :: (decide (c ≤ 1) && canCfgBad c cfg nbt dbt, .range) ::
      ws.filterMap fun p => (s.writeCheck p.1 p.2).map fun st => (decide (c ≤ 1), st))
    fun s =>
      let s1 := ws.foldl (fun s p => s.writeStore p.1 p.2) s
      if s1.canCfgKey c = s.canCfgKey c then .done s1 []
      else
        let s2 := s1.canChanged c
        if (s2.canBus c).integrating then .wait s2 else .done s2 []

/-- CAN_INTEGRATED (R413): 11 consecutive recessive bits. -/
def execCanIntegrated (c : Nat) (s : State) : Out :=
  .next <|
    if 1 < c ∨ (s.canBus c).integrating = false ∨ s.pwr.ctl = false then s
    else ((s.setCan c { s.canBus c with integrating := false }).wr (F.CAN_STATUS_INTEGRATED c) 1).waitEnd 0x0902 .ok

/-- CAN_INTEGRATE_TIMEOUT (R413): the command completes; the controller goes on listening. -/
def execCanIntegrateTimeout (c : Nat) (s : State) : Out :=
  .next <| if 1 < c ∨ (s.canBus c).integrating = false then s else s.waitEnd 0x0902 .timeout

/-- CAN_STATUS (R417). -/
def execCanStatus (h : Hdr) (c : Nat) (s : State) : Out :=
  .next <| s.command 0x0901 rObserver h [(decide (1 < c), .range)]
    fun s => let b := canBase c
             ret s (s.words [b + 0x10, b + 0x20, b + 0x24, b + 0x28, b + 0x2C, b + 0x30, b + 0x40])

/-! ### Filters and buffers (R403–R406) -/

/-- CAN_FILTER_SET (R403, R404). -/
def execCanFilterSet (h : Hdr) (c k id mask : Nat) (ide : Bool) (target : Nat) (en : Bool) (s : State) : Out :=
  .next <| s.command 0x0903 rOperator h
    [(decide (1 < c) || !inR 8 31 k || decide (2 ^ 29 ≤ id) || decide (2 ^ 29 ≤ mask) || !(inR 16 63 target || inR 65 66 target), .range)]
    fun s => .done (s.wrs [(F.CAN_FLT_ID_ID c k, id), (F.CAN_FLT_ID_IDE c k, if ide then 1 else 0), (F.CAN_FLT_ID_EN c k, if en then 1 else 0),
      (F.CAN_FLT_MASK_MASK c k, mask), (F.CAN_FLT_TGT_TARGET c k, target)]) []

/-- CAN_MB_SET (R403, R417): DIR, the words of ID and FMT; RETRY is RETRY_DEF where none is given. -/
def execCanMbSet (h : Hdr) (c n dir id fmt : Nat) (retry : Option Nat) (s : State) : Out :=
  .next <| s.command 0x0904 rOperator h
    [(decide (3 < dir) || decide (2 ^ 31 ≤ id) || decide (128 ≤ fmt), .param),
     (decide (1 < c) || !inR 16 63 n || (match retry with | some r => decide (255 < r) | none => false), .range)]
    fun s =>
      if s.isOn (F.CAN_MB_CTRL_REQ c n) then .refuse .busy
      else .done (s.wrs [(F.CAN_MB_CTRL_DIR c n, if dir = 3 then 0 else dir), (F.CAN_MB_CTRL_NEW c n, 0), (F.CAN_MB_CTRL_LOCKED c n, 0),
        (F.CAN_MB_CTRL_OVERWRITE c n, 0), (F.CAN_MB_ID_ID c n, id), (F.CAN_MB_ID_IDE c n, id / 2 ^ 29), (F.CAN_MB_ID_RTR c n, id / 2 ^ 30),
        (F.CAN_MB_FMT_DLC c n, fmt), (F.CAN_MB_FMT_FDF c n, fmt / 16), (F.CAN_MB_FMT_BRS c n, fmt / 32), (F.CAN_MB_FMT_ESI c n, fmt / 64),
        (F.CAN_MB_FMT_RETRY c n, retry.getD (s.rd (F.CAN_CFG_RETRY_DEF c)))]) []

def boolN (b : Bool) : Nat := if b then 1 else 0

/-- The words ID, FMT, TS_LO, TS_HI and DATA0 to DATA15 of a frame. -/
def frameWords (f : CanFrame) : List Nat :=
  [f.id + boolN f.ide * 2 ^ 29 + boolN f.rtr * 2 ^ 30, f.dlc + boolN f.fdf * 16 + boolN f.brs * 32 + boolN f.esi * 64,
   f.time % two32, f.time / two32 % two32] ++ (numbersFrom 0 16).map fun w => ofLe (slice f.data (4 * w) 4)

/-- Store words in consecutive fields, each the first of its word, through a list of fields of every word. -/
def State.putWords (s : State) (addr : Nat) : List Nat → State
  | [] => s
  | w :: ws =>
    let s1 := match findRow addr regTable with
      | some r => r.fields.foldl (fun (s : State) (f : FieldSpec) => s.wr (f.at addr) (fieldBits f w)) s
      | none => s
    s1.putWords (addr + 4) ws

/-- The window of a FIFO head shows its first frame; CAN_FIFO_LEVEL follows (R406). -/
def State.fifoShow (s : State) (c f : Nat) : State :=
  let l := if f = 0 then (s.canBus c).fifo0 else (s.canBus c).fifo1
  let s1 := s.wr (if f = 0 then F.CAN_FIFO_LEVEL_FIFO0 c else F.CAN_FIFO_LEVEL_FIFO1 c) l.length
  let s2 := s1.wrs [(F.CAN_FIFO_CTRL_DIR c f, if l.isEmpty then 0 else 1), (F.CAN_FIFO_CTRL_NEW c f, if l.isEmpty then 0 else 1)]
  let s3 := s2.wr (F.CAN_FIFO_CTRL_LOCKED c f) 0
  s3.putWords (F.CAN_FIFO_ID_ID c f).addr (match l with | x :: _ => (frameWords x) | [] => List.replicate 20 0)

/-- The head leaves its FIFO (R406). -/
def State.fifoPop (s : State) (c f : Nat) : State :=
  let b := s.canBus c
  (s.setCan c (if f = 0 then { b with fifo0 := b.fifo0.drop 1 } else { b with fifo1 := b.fifo1.drop 1 })).fifoShow c f

/-- A frame arrives at a FIFO (R406): the newest is dropped where it is full. -/
def State.fifoPush (s : State) (c f : Nat) (x : CanFrame) : State :=
  let b := s.canBus c
  let l := if f = 0 then b.fifo0 else b.fifo1
  if 32 ≤ l.length then s.flag (if f = 0 then Fl.CAN_EVENT_RX_OVR0 c else Fl.CAN_EVENT_RX_OVR1 c) { idx := c }
  else
    let s1 := s.setCan c (if f = 0 then { b with fifo0 := l ++ [x] } else { b with fifo1 := l ++ [x] })
    if l.isEmpty then s1.fifoShow c f
    else s1.wr (if f = 0 then F.CAN_FIFO_LEVEL_FIFO0 c else F.CAN_FIFO_LEVEL_FIFO1 c) (l.length + 1)

/-- A frame is placed in an unlocked receive buffer (R405). -/
def State.mbPut (s : State) (c n : Nat) (x : CanFrame) : State :=
  let held := s.isOn (F.CAN_MB_CTRL_NEW c n)
  let retry := s.rd (F.CAN_MB_FMT_RETRY c n)
  ((s.putWords (F.CAN_MB_ID_ID c n).addr (frameWords x)).wr (F.CAN_MB_FMT_RETRY c n) retry).wrs
    [(F.CAN_MB_CTRL_NEW c n, 1), (F.CAN_MB_CTRL_OVERWRITE c n, boolN held)]

/-- The first filter, from `k` on, whose destination can take the frame (R404): its target. -/
def State.filterOf (s : State) (c : Nat) (x : CanFrame) : List Nat → Option Nat
  | [] => none
  | k :: ks =>
    let hit := s.isOn (F.CAN_FLT_ID_EN c k) && s.rd (F.CAN_FLT_ID_IDE c k) == boolN x.ide &&
      ((x.id ^^^ s.rd (F.CAN_FLT_ID_ID c k)) &&& s.rd (F.CAN_FLT_MASK_MASK c k)) == 0
    let t := s.rd (F.CAN_FLT_TGT_TARGET c k)
    if !hit || (decide (t < 64) && s.isOn (F.CAN_MB_CTRL_LOCKED c t)) then s.filterOf c x ks else some t

/-- Place a received frame (R404): a filter's target, else DEFAULT_TGT; with nowhere to go, RX_LOST. -/
def State.canPlace (s : State) (c : Nat) (x : CanFrame) : State :=
  let lost (s : State) := s.flag (Fl.CAN_EVENT_RX_LOST c) { idx := c }
  match s.filterOf c x (numbersFrom 0 32) with
  | some t =>
    if t < 64 then (if s.rd (F.CAN_MB_CTRL_DIR c t) = 1 then s.mbPut c t x else lost s)
    else if t = 64 then s.fifoPush c 0 x
    else if t = 65 then s.fifoPush c 1 x else s
  | none =>
    match s.rd (F.CAN_CFG_DEFAULT_TGT c) with
    | 1 => s.fifoPush c 0 x
    | 2 => s.fifoPush c 1 x
    | _ => lost s

/-- CAN_FRAME_RECEIVED (R401, R404–R406, R410–R412). -/
def execCanFrameReceived (c : Nat) (f : CanFrame) (s : State) : Out :=
  .next <|
    if 1 < c ∨ s.canOn c = false then s
    else if f.fdf && !s.isOn (F.CAN_CFG_FD_EN c) then
      if s.isOn (F.CAN_CFG_PXE c) then s.flag (Fl.CAN_EVENT_PROT_EXC c) { idx := c } else s.canError c 2 none false false false
    else
      let b := s.canBus c
      let d := s.draw
      let s1 :=
        if s.isOn (F.CAN_CFG_LISTEN_ONLY c) ∨ b.rcv = 0 then s
        else if b.rcv ≤ 127 then s.setCan c { b with rcv := b.rcv - 1 }
        else d.2.setCan c { b with rcv := 119 + (d.1 % 9).toNat }
      let s2 := ((s1.setCan c { s1.canBus c with acks := 0 }).canShow c).wr (F.CAN_STATUS_NO_PARTNER c) 0
      s2.canPlace c { f with data := (f.data ++ List.replicate 64 0).take (dlcLen f.fdf f.dlc) }

/-- The ID of a receive buffer or FIFO head (64, 65) that holds a frame is read: it locks (R405, R406). -/
def State.canIdLock (s : State) (c n : Nat) : State :=
  if 64 ≤ n then
    if s.isOn (F.CAN_FIFO_CTRL_NEW c (n - 64)) then s.wr (F.CAN_FIFO_CTRL_LOCKED c (n - 64)) 1 else s
  else if s.rd (F.CAN_MB_CTRL_DIR c n) = 1 ∧ s.isOn (F.CAN_MB_CTRL_NEW c n) = true then s.wr (F.CAN_MB_CTRL_LOCKED c n) 1 else s

/-- CAN_MB_ID_READ (R405): of buffer `n`; 64 and 65 are the FIFO heads. -/
def execCanMbIdRead (c n : Nat) (s : State) : Out :=
  .next <|
    if 1 < c ∨ 65 < n then s
    else
      let a := if 64 ≤ n then (F.CAN_FIFO_ID_ID c (n - 64)).addr else (F.CAN_MB_ID_ID c n).addr
      ({ s with lastRead := (s.readWord a).1 } : State).canIdLock c n

/-- Address of the last word of a frame in a window at `ctrl` (R405). -/
def lastWordAddr (ctrl : Nat) (fdf : Bool) (dlc : Nat) : Nat :=
  let len := dlcLen fdf dlc
  if len = 0 then ctrl + 16 else ctrl + 20 + 4 * ((len + 3) / 4 - 1)

/-- Release a receive buffer: lock and NEW cleared (R405). -/
def State.mbRelease (s : State) (c n : Nat) : State := s.wrs [(F.CAN_MB_CTRL_LOCKED c n, 0), (F.CAN_MB_CTRL_NEW c n, 0)]

/-- The last word of a receive buffer or FIFO head is read: released, or removed (R405, R406). -/
def State.canLastWord (s : State) (c n : Nat) : State :=
  if 64 ≤ n then s.fifoPop c (n - 64) else if s.rd (F.CAN_MB_CTRL_DIR c n) = 1 then s.mbRelease c n else s

/-- The address of the last word of the frame in buffer or FIFO head `n`. -/
def State.canLastAddr (s : State) (c n : Nat) : Nat :=
  if 64 ≤ n then
    lastWordAddr (F.CAN_FIFO_CTRL_DIR c (n - 64)).addr (s.isOn (F.CAN_FIFO_FMT_FDF c (n - 64))) (s.rd (F.CAN_FIFO_FMT_DLC c (n - 64)))
  else lastWordAddr (F.CAN_MB_CTRL_DIR c n).addr (s.isOn (F.CAN_MB_FMT_FDF c n)) (s.rd (F.CAN_MB_FMT_DLC c n))

/-- CAN_MB_LAST_WORD_READ (R405). -/
def execCanMbLastWordRead (c n : Nat) (s : State) : Out :=
  .next <|
    if 1 < c ∨ 63 < n then s
    else ({ s with lastRead := (s.readWord (s.canLastAddr c n)).1 } : State).canLastWord c n

/-- CAN_FIFO_HEAD_READ (R406): the last word of the head is read. -/
def execCanFifoHeadRead (c f : Nat) (s : State) : Out :=
  .next <|
    if 1 < c ∨ 1 < f then s
    else ({ s with lastRead := (s.readWord (s.canLastAddr c (64 + f))).1 } : State).canLastWord c (64 + f)

/-- Take frames from FIFO 1. -/
def State.fifoTake (s : State) (c : Nat) : Nat → State × List Nat
  | 0 => (s, [])
  | k + 1 =>
    match (s.canBus c).fifo1 with
    | [] => (s, [])
    | x :: _ => let r := (s.fifoPop c 1).fifoTake c k; (r.1, (frameWords x) ++ r.2)

/-- CAN_RX_READ (R405, R406, R417): buffer 16–63, or 65 for FIFO 1. -/
def execCanRxRead (h : Hdr) (c src count : Nat) (s : State) : Out :=
  .next <| s.command 0x0907 rObserver h [(decide (1 < c) || !(inR 16 63 src || src == 65) || !inR 1 32 count, .range)]
    fun s =>
      let r : State × List Nat :=
        if src = 65 then s.fifoTake c count
        else if s.rd (F.CAN_MB_CTRL_DIR c src) = 1 ∧ s.isOn (F.CAN_MB_CTRL_NEW c src) = true then
          (s.mbRelease c src, (numbersFrom 0 20).map fun i => (s.readWord ((F.CAN_MB_ID_ID c src).addr + 4 * i)).1)
        else (s, [])
      if r.2.isEmpty then .done r.1 [] else .bulk r.1 [] (4 * r.2.length) (r.2.map fun w => (w : Int))

/-! ### Transmission and cancellation (R407–R409) -/

/-- REQ (R407): 1 is written to CAN_MB_n_CTRL.REQ. -/
def execReq (c n : Nat) (meet : Bool) (s : State) : Out := .next (if 1 < c ∨ 63 < n then s else s.canRequestAt c n meet)

/-- A cancel (R409); `won` says that the frame has won arbitration. -/
def State.canCancel (s : State) (c n : Nat) (won : Bool) : State :=
  if !s.canPend c n then s
  else if won then s.wr (F.CAN_MB_CTRL_CANCEL c n) 1 else s.canDone c n .aborted

/-- CANCEL (R409): 1 is written to CAN_MB_n_CTRL.CANCEL. -/
def execCancel (c n : Nat) (won : Bool) (s : State) : Out := .next (if 1 < c ∨ 63 < n then s else s.canCancel c n won)

/-- CAN_CANCEL (R409, R417). -/
def execCanCancel (h : Hdr) (c n : Nat) (won : Bool) (s : State) : Out :=
  .next <| s.command 0x0906 rOperator h [(decide (1 < c) || !inR 16 63 n, .range)] fun s => .done (s.canCancel c n won) []

/-- CAN_TX (R407, R410, R417): data bytes from the bulk-in ring, release time in ns where TIMED. -/
def execCanTx (h : Hdr) (c n : Nat) (timed : Option Nat) (data : List Byte) (s : State) : Out :=
  let ok := decide (c ≤ 1) && inR 16 63 n
  .next <| s.command 0x0905 rOperator h
    [(!ok, .range),
     (ok && (s.isOn (F.CAN_CFG_LISTEN_ONLY c) || s.rd (F.CAN_MB_CTRL_DIR c n) != 2 ||
       (s.isOn (F.CAN_MB_FMT_FDF c n) && !s.isOn (F.CAN_CFG_FD_EN c)) ||
       decide (data.length < if s.isOn (F.CAN_MB_ID_RTR c n) then 0 else dlcLen (s.isOn (F.CAN_MB_FMT_FDF c n)) (s.rd (F.CAN_MB_FMT_DLC c n)))), .param)]
    fun s =>
      if s.isOn (F.CAN_MB_CTRL_REQ c n) then .refuse .busy
      else
        let s1 := (s.canData c n data).wrs
          [(F.CAN_MB_CTRL_TIMED c n, boolN timed.isSome), (F.CAN_MB_TS_LO_VALUE c n, timed.getD 0), (F.CAN_MB_TS_HI_VALUE c n, timed.getD 0 / two32)]
        let s2 := s1.canRequest c n
        if s2.isOn (F.CAN_MB_CTRL_REQ c n) then .accept s2 (64 * c + n) [] else .fail s2 .aborted

/-- CAN_TIMED_RELEASE (R407): corrected time reaches the buffer's release time. -/
def execCanTimedRelease (c n : Nat) (s : State) : Out :=
  .next <|
    if 1 < c ∨ 63 < n ∨ s.isOn (F.CAN_MB_CTRL_REQ c n) = false ∨ s.isOn (F.CAN_MB_CTRL_TIMED c n) = false ∨ s.canPend c n = true then s
    else s.canRelease c n

/-- The place of a buffer in the arbitration (R407): its identifier from the first bit sent, a base identifier before an extended one that
begins alike, then its number. -/
def State.canRank (s : State) (c n : Nat) : Nat :=
  let id := s.rd (F.CAN_MB_ID_ID c n)
  let ide := s.isOn (F.CAN_MB_ID_IDE c n)
  (if ide then 2 * (id % 2 ^ 29) + 2 ^ 19 * (id / 2 ^ 18 % 2 ^ 11) + 1 else (2 ^ 19 + 2 ^ 19) * (id % 2 ^ 11)) * 64 + n

/-- Buffer `n` is the one of the pending buffers, without those of `late`, that enters arbitration (R407). -/
def State.canFirst (s : State) (c n : Nat) (late : List Nat) : Bool :=
  (numbersFrom 0 64).all fun m => m == n || !s.canPend c m || late.contains m || decide (s.canRank c n < s.canRank c m)

/-- CAN_TX_COMPLETE (R407–R409, R412, R252): the frame of buffer `n`, the first in arbitration, was sent and acknowledged; or it is not sent
again, since the attempts are exhausted or a cancel is honoured. -/
def execCanTxComplete (c n : Nat) (sent : Option CanSent) (s : State) : Out :=
  .next <|
    if 1 < c ∨ 63 < n ∨ s.canPend c n = false then s
    else
      let b := s.canBus c
      let tries := Tbl.get 0 b.tries n
      match sent with
      | some x =>
        let t := x.sof
        if s.canOn c && s.canFirst c n x.late then
          let b1 : CanBus := { b with tec := if s.isOn (F.CAN_CFG_LISTEN_ONLY c) then b.tec else b.tec - 1, acks := 0, tries := Tbl.put b.tries n (tries + 1) }
          let s1 := ((s.setCan c b1).canShow c).wrs [(F.CAN_STATUS_NO_PARTNER c, 0), (F.CAN_MB_TS_LO_VALUE c n, t),
            (F.CAN_MB_TS_HI_VALUE c n, t / two32), (F.CAN_MB_CTRL_CANCEL_LATE c n, s.rd (F.CAN_MB_CTRL_CANCEL c n))]
          s1.canDone c n .ok
        else s
      | none =>
        let retry := s.rd (F.CAN_MB_FMT_RETRY c n)
        if s.isOn (F.CAN_MB_CTRL_CANCEL c n) then s.canDone c n .aborted
        else if retry ≠ 0 ∧ 1 + retry ≤ tries then s.canDone c n (if Tbl.get 0 b.errs n = 3 then .noAck else .aborted)
        else s

end Sys2Proof.Machine
end

