-- ==== Sys2Proof/Machine/Flags.lean ====
section
/-! DEFINITION. W1C flags by address and bit: software clears one, and a set by hardware in the same cycle wins (R34, R35). -/

namespace Sys2Proof.Machine

/-- The flag with an event counter at an address and bit (R35). -/
def findFlag (addr bit : Nat) : Option Flag := flagTable.find? fun f => f.bit.addr == addr && f.bit.lo == bit

/-- The agent whose doorbell bits MBX_DB_a_PEND stand at an address (R443). -/
def dbAgent (addr : Nat) : Option Nat := (numbersFrom 1 13).find? fun a => (F.MBX_DB_PEND_BITS a).addr == addr && agentIds.contains a

/-- W1C_FLAG_CLEAR (R34): software writes 1 to a flag; `hw` says that hardware sets it in the same cycle. -/
def execW1cFlagClear (addr bit : Nat) (hw : Bool) (s : State) : Out :=
  .next <|
    match findFlag addr bit with
    | some f => s.clearFlag f hw
    | none =>
      match dbAgent addr with
      | some a =>
        if 31 < bit then s
        else if hw then s.ringBit a bit
        else
          let v := s.rd (F.MBX_DB_PEND_BITS a)
          s.wr (F.MBX_DB_PEND_BITS a) (v - (v &&& 2 ^ bit))
      | none => s

end Sys2Proof.Machine
end

