-- ==== Sys2Proof/Machine/Motion.lean ====
section
/-! DEFINITION. Valve and Damper Motion (R326–R346). -/

namespace Sys2Proof.Machine

/-! ### Commands (R346) -/

def axisOk (x : Nat) : Bool := decide (x < 2)

/-- MOT_STATUS: the MOT registers. -/
def execMotStatus (h : Hdr) (s : State) : Out :=
  .next <| s.command 0x0701 rObserver h []
    fun s => ret s (s.words ([0xB0000, 0xB0004, 0xB0010] ++ (numbersFrom 0 6).map (fun i => 0xB0014 + 4 * i)) ++
      s.wordsFrom 0xB0100 22 ++ s.wordsFrom 0xB0200 22)

/-- The target of a MOT_MOVE in microsteps. -/
def State.moveTarget (s : State) (x : Nat) (rel : Bool) (p : Int) : Int := if rel then s.axPos x + p else p

/-- A move that a DISABLED axis (R328), an unhomed axis or a tripped limit (R335, R346) refuses with RANGE. -/
def State.moveRange (s : State) (x : Nat) (rel : Bool) (p : Int) : Bool :=
  let t := s.moveTarget x rel p
  !axisOk x || s.axState x == axDISABLED ||
  (!rel && (decide (p < 0) || decide ((s.rd (F.MOT_TRAVEL_USTEPS x) : Int) < p) || !s.isOn (F.MOT_STATE_HOMED x))) ||
  decide (t < -2147483648) || decide (2147483647 < t) || s.limTripped x (t - s.axPos x).sign

/-- MOT_MOVE (R331, R346): the target goes to the card; a move of the host still running there is superseded. -/
def execMotMove (h : Hdr) (x : Nat) (rel : Bool) (p : Int) (s : State) : Out :=
  .next <| s.command 0x0702 rMaintainer h [(s.moveRange x rel p, .range)]
    fun s =>
      if !s.hostOwns x || s.axState x == axHOMING then .refuse .busy
      else .accept ((s.finish 0x0702 x .aborted [0]).motSend (.target x (s.moveTarget x rel p) true)) x []

/-- The axis stands, and no target waits for it on the motion link. -/
def State.axIdle (s : State) (x : Nat) : Bool :=
  s.axStill x && !s.mot.link.any fun m => match m with
    | .target y _ _ | .home y => y == x
    | .stop _ _ _ | .limits _ _ => false

/-- MOT_STOP (R337): OK at rest. -/
def execMotStop (h : Hdr) (x : Nat) (emergency : Bool) (s : State) : Out :=
  .next <| s.command 0x0703 rOperator h [(!axisOk x, .range)]
    fun s => if s.axIdle x then .done s [] else .accept (s.motSend (.stop x emergency 2)) x []

/-- MOT_HOME (R340): takes the axis from THM until homing ends. -/
def execMotHome (h : Hdr) (x : Nat) (s : State) : Out :=
  .next <| s.command 0x0704 rMaintainer h [(!axisOk x || s.axState x == axDISABLED, .range)]
    fun s =>
      if s.axState x == axHOMING || (s.opOf 0x0704 x).isSome then .refuse .busy
      else .accept (s.motSend (.home x)) x []

/-- Bounds that other fields set: HOLD to RUN, FAST to VMAX / 256, SLOW to FAST, DEMERG at least DMAX. -/
def State.motCross (s : State) (x : Nat) : Bool :=
  decide (s.rd (F.MOT_CURRENT_RUN x) < s.rd (F.MOT_CURRENT_HOLD x)) ||
  decide (s.rd (F.MOT_VMAX_VALUE x) < 256 * s.rd (F.MOT_HOME_V_FAST x)) ||
  decide (s.rd (F.MOT_HOME_V_FAST x) < s.rd (F.MOT_HOME_V_SLOW x)) ||
  decide (s.rd (F.MOT_DEMERG_VALUE x) < s.rd (F.MOT_DMAX_VALUE x))

/-- The words of MOT_SET_CFG in their order: CFG, TRAVEL, CURRENT, MOTOR, HOME_V, HOME_CFG, HOME_DEC, HOME_OFFSET, STALL,
LINKLOSS, by their offsets. -/
def cfgOffsets : List Nat := [0x00, 0x04, 0x08, 0x0C, 0x24, 0x28, 0x2C, 0x30, 0x34, 0x38]

/-- The first refusal of a list of words that one command writes. -/
def State.wordsCheck (s : State) : List (Nat × Nat) → Option Status
  | [] => none
  | (a, w) :: t => match s.writeCheck a w with
    | some st => some st
    | none => s.wordsCheck t

def State.wordsStore (s : State) (l : List (Nat × Nat)) : State := l.foldl (fun s p => s.writeStore p.1 p.2) s

/-- The words stored, where their own fields and the bounds between fields allow them. -/
def State.motWrite (s : State) (x : Nat) (l : List (Nat × Nat)) : Except Status State :=
  match s.wordsCheck l with
  | some st => .error st
  | none =>
    let s1 := s.wordsStore l
    if s1.motCross x then .error .range else .ok s1

def motWords (x : Nat) (offs ws : List Nat) : List (Nat × Nat) := (offs.map fun o => 0xB0100 + 0x100 * x + o).zip ws

def motWriteBad (r : Except Status State) (st : Status) : Bool := match r with
  | .error e => e == st
  | .ok _ => false

/-- MOT_SET_CFG (R346): BUSY unless at rest. -/
def execMotSetCfg (h : Hdr) (x : Nat) (w : List Nat) (s : State) : Out :=
  let r := s.motWrite x (motWords x cfgOffsets w)
  .next <| s.command 0x0705 rMaintainer h
    [(w.length != 10 || (axisOk x && motWriteBad r .param), .param), (!axisOk x || motWriteBad r .range, .range)]
    fun s =>
      if !s.axStill x then .refuse .busy
      else match s.motWrite x (motWords x cfgOffsets w) with
        | .error st => .refuse st
        | .ok s1 => .done (s1.axEnable x).setFloor []

/-- Limits written: they reach the card with the ones they replace (R333). -/
def State.motLimits (s s1 : State) (x : Nat) : State := s1.motSend (.limits x (s.limits x))

/-- MOT_SET_LIMITS (R333): VMAX, AMAX, DMAX, JMAX, DEMERG. -/
def execMotSetLimits (h : Hdr) (x vmax amax dmax jmax demerg : Nat) (s : State) : Out :=
  let l := motWords x [0x10, 0x14, 0x18, 0x1C, 0x20] [vmax, amax, dmax, jmax, demerg]
  let r := s.wordsCheck l
  .next <| s.command 0x0706 rMaintainer h
    [(!axisOk x || r == some .range || decide (demerg < dmax), .range), (axisOk x && r == some .param, .param)]
    fun s => .done (s.motLimits (s.wordsStore l) x) []

/-- A table that R330 refuses: length, CRC, T[0], a falling value, a value above 4095. -/
def tableBad (d : List Byte) : Bool :=
  let t := (numbersFrom 0 256).map fun k => u16 d (2 * k)
  d.length != 516 || u32 d 512 != crc32c (slice d 0 512) || t.headD 1 != 0 ||
  (t.zip (t.drop 1)).any (fun p => decide (p.2 < p.1)) || t.any fun v => decide (4095 < v)

/-- MOT_TABLE_LOAD (R330): in force at once, the phase currents of the present position with it. -/
def execMotTableLoad (h : Hdr) (x : Nat) (data : List Byte) (s : State) : Out :=
  .next <| s.command 0x0707 rMaintainer h [(tableBad data, .param), (!axisOk x, .range)]
    fun s =>
      if !s.axStill x then .refuse .busy
      else
        let s1 : State := { s with mot.tables := Tbl.put s.mot.tables x ((numbersFrom 0 256).map fun k => u16 data (2 * k)) }
        .done ((s1.wr (F.MOT_TABLE_CRC_CRC x) (u32 data 512)).setPos x (s.axPos x)) []

/-- A fault's cause is present, or was less than 1 s ago (R327). -/
def State.causeThere (s : State) (x : Nat) : Bool :=
  let a := s.axis x
  (s.rd (F.MOT_STATE_END_CAUSE x) == 8 && !s.isOn (if x = 0 then F.MOT_GLOBAL_SUPPLY0_OK else F.MOT_GLOBAL_SUPPLY1_OK)) ||
  (a.causeDie && s.rd F.THM_DIE_CTL_MOT != markS 8 && decide (125 ≤ s.rdI F.THM_DIE_CTL_MOT)) ||
  decide (s.time.count < a.causeAt + 250000000)

/-- MOT_AXIS_RESET (R327, R342). -/
def execMotAxisReset (h : Hdr) (x : Nat) (s : State) : Out :=
  .next <| s.command 0x0708 rMaintainer h [(!axisOk x, .range)]
    fun s =>
      if s.axState x ≠ axFAULT then .done s []
      else if s.causeThere x then .refuse .busy
      else
        .done ((((s.wr (F.MOT_STATE_STATE x) axATREST).axHold x).autoHome x).setFloor.thmDrive) []

/-! ### Moves -/

/-- MOVE_COMPLETE (R331, R340): the target is reached with v = 0 and a = 0; in homing, the back-off point. -/
def execMoveComplete (x : Nat) (s : State) : Out :=
  .next <|
    let t := s.rdI (F.MOT_TARGET_VALUE x)
    if s.axState x = axMOVING then
      let c := if (s.axis x).linkLoss then 10 else 1
      (s.setPos x t).motEnd x axATREST c true
    else if s.axState x = axHOMING ∧ (s.axis x).stage = .back then
      (s.setPos x t).modAxis x fun a => { a with stage := .approach, edges := 0, windowEnd := none }
    else s

/-- HOLD_DELAY_EXPIRY (R328): HOLD_DELAY after the axis has come to rest, the phase current falls to the hold current; with 0 the bridge
goes off. -/
def execHoldDelayExpiry (x : Nat) (s : State) : Out :=
  .next <|
    if s.axState x = axATREST ∧ (s.axis x).restAt + 2500000 * s.rd (F.MOT_CURRENT_HOLD_DELAY x) ≤ s.time.count then
      (s.axHold x).setFloor
    else s

/-- AXIS_AT_REST (R337, R340): the axis stands at position `p`, with v = 0 and a = 0. -/
def execAxisAtRest (x : Nat) (p : Int) (s : State) : Out :=
  .next <|
    let a := s.axis x
    if s.axState x = axSTOPPING then ((s.setPos x p).motEnd x axATREST a.stopCause false).thmDrive
    else if s.axState x = axHOMING ∧ a.stage = .slow then
      let s1 := ((s.setPos x p).wr (F.MOT_VEL_VALUE x) 0).wrI (F.MOT_TARGET_VALUE x)
        (a.edge - s.homeDir x * 256 * s.rd (F.MOT_HOME_CFG_BACKOFF x))
      s1.modAxis x fun a => { a with stage := .back }
    else if s.axState x = axHOMING ∧ a.stage = .latched then
      let s1 := (((s.setPos x p).wr (F.MOT_STATE_HOMED x) 1).flag (fHomed x) { idx := x }).finish 0x0704 x .ok [p]
      ((s1.motEnd x axATREST 1 true).thmResend).thmDrive
    else s

/-! ### Faults, limits, stalls -/

/-- The cause of a fault is there: the supply out of tolerance, or the die at or above 125 °C, for 10 ms (R327). -/
def State.faultThere (s : State) (x kind : Nat) : Bool :=
  match kind with
  | 0 => match (s.axis x).vmBad with
    | some t => decide (t + 2500000 ≤ s.time.count)
    | none => false
  | 1 => true
  | _ => decide (10 ≤ s.mot.dieMs)

/-- MOTOR_FAULT (R327, R336): at planner tick `tick`; kind 0 motor supply, 1 overcurrent, 2 the controller's die. -/
def execMotorFault (x kind tick : Nat) (s : State) : Out :=
  .next <|
    if !axisOk x || !s.faultThere x kind then s
    else ((s.motFault x (if kind = 0 then 8 else 9) (kind == 2)).tickTake x tick 1).thmDrive

/-- LIMIT_INPUT_EDGE (R334, R341): a raw transition of input `i` (0 LIM_NEG, 1 LIM_POS, 2 HOME) at position `p`, to open or closed, of
which LIM_NC makes tripped or not.  A change that begins an edge captures the position; transitions of the home switch in the approach
window are counted. -/
def execLimitInputEdge (x i : Nat) (isOpen : Bool) (p : Int) (tick : Nat) (s0 : State) : Out :=
  .next <|
    if !axisOk x || decide (2 < i) then s0
    else
      let s := s0.inConfirm x
      let trip := isOpen == s.isOn (F.MOT_CFG_LIM_NC x)
      let a := s.axis x
      let m := Tbl.get ({} : MotIn) a.inputs i
      let now := s.time.count
      let m1 : MotIn := { raw := trip, changed := some now
                          first := if m.raw == s.isOn (motBit x i) && s.inSettled x i then p else m.first }
      let inWindow := s.axState x == axHOMING && i == s.homeInput x && (a.stage == .approach || a.stage == .latched) &&
        match a.windowEnd with | none => true | some t => decide (now < t)
      let n := if inWindow then a.edges + 1 else a.edges
      let s1 := s.setAxis x { a with inputs := Tbl.put a.inputs i m1, edges := n }
      if inWindow && decide (s.rd (F.MOT_HOME_CFG_EDGES_MAX x) < n) && s.tickOpen x tick 2 then
        ((s1.homeAbort x 5).flag (fChatter x) { idx := x }).tickTake x tick 2
      else s1

/-- LIMIT_TRIP (R334–R336, R341): a limit is confirmed tripped, at planner tick `tick`. -/
def execLimitTrip (x : Nat) (positive : Bool) (tick : Nat) (s : State) : Out :=
  .next <|
    let i := if positive then 1 else 0
    if !axisOk x || !s.inStands x i true || !s.tickOpen x tick 2 then s
    else
      let d : Int := if positive then 1 else -1
      let s1 := s.wr (motBit x i) 1
      if s.axState x = axHOMING then
        if s.homeInput x = i then s1 else ((s1.homeAbort x 6).flag (fLimit x) { idx := x }).tickTake x tick 2
      else if (s.axState x = axMOVING ∨ s.axState x = axSTOPPING) ∧ s.axDir x = d then
        ((((s1.wr (F.MOT_STATE_HOMED x) 0).axStop x true 3).flag (fLimit x) { idx := x }).tickTake x tick 2).thmDrive
      else s1

/-- STALL (R336, R338, R339, R341): δ has exceeded ANGLE for TICKS ticks while detection runs; microsteps stop at position `p`, HOMED is
cleared, the move ends with END_CAUSE 4. -/
def execStall (x : Nat) (p : Int) (tick : Nat) (s : State) : Out :=
  .next <|
    if s.axStill x || !s.isOn (F.MOT_STATE_STALL_ACTIVE x) || decide ((s.axis x).overTicks < s.rd (F.MOT_STALL_TICKS x)) ||
       !s.tickOpen x tick 3 then s
    else
      let s1 := ((s.setPos x p).wr (F.MOT_STATE_HOMED x) 0).axHalt x axATREST 4
      ((s1.flag (fStall x) { system := true, idx := x }).tickTake x tick 3).thmDrive

/-! ### Homing -/

/-- HOME_EDGE (R340): the confirmed edge of the home switch; its position is the one captured at its first raw transition. -/
def execHomeEdge (x : Nat) (s : State) : Out :=
  .next <|
    let a := s.axis x
    let i := s.homeInput x
    let cap := (Tbl.get ({} : MotIn) a.inputs i).first
    let back := s.homeDir x * 256 * s.rd (F.MOT_HOME_CFG_BACKOFF x)
    if s.axState x ≠ axHOMING ∨ s.inStands x i (a.stage != .away) = false then s
    else match a.stage with
      | .away =>
        ((s.wr (motBit x i) 0).wrI (F.MOT_TARGET_VALUE x) (cap - back)).setAxis x { a with stage := .back, edge := cap }
      | .search => (s.wr (motBit x i) 1).setAxis x { a with stage := .slow, edge := cap }
      | .approach =>
        let p := s.axPos x - cap + s.rdI (F.MOT_HOME_OFFSET_USTEPS x)
        (((s.wr (motBit x i) 1).wrI (F.MOT_LATCH_VALUE x) cap).setAxis x
          { a with stage := .latched, edge := s.rdI (F.MOT_HOME_OFFSET_USTEPS x), windowEnd := some (s.time.count + 5000000) }).setPos x p
      | _ => s

/-- HOME_SEARCH_TIMEOUT (R341): no home edge within 1.25 × TRAVEL of step 2. -/
def execHomeSearchTimeout (x tick : Nat) (s : State) : Out :=
  .next <|
    if s.axState x = axHOMING ∧ (s.axis x).stage = .search ∧ s.tickOpen x tick 2 = true ∧
       5 * s.rd (F.MOT_TRAVEL_USTEPS x) ≤ 4 * (s.axPos x - (s.axis x).searchFrom).natAbs then
      (s.homeAbort x 7).tickTake x tick 2
    else s

/-! ### Link, power and card (R343–R345) -/

/-- The readings of one axis at a tick (R331, R334, R338, R339); an axis at rest stands where it is. -/
def State.axRead (s0 : State) (x : Nat) (r0 : AxisRead) : State :=
  let s := s0.inConfirm x
  let moving := !s.axStill x
  let r := if moving then s.axWithin x r0 else { r0 with pos := s.axPos x, vel := 0, acc := 0 }
  let a := s.axis x
  let above := decide (256 * s.rd (F.MOT_STALL_FLOOR x) ≤ r.vel.natAbs)
  let fast := if moving && above then some (a.fast.getD s.time.count) else none
  let active := moving && s.isOn (F.MOT_CFG_STALL_EN x) && a.stage != .approach && match fast with
    | some t => decide (t + 5000000 ≤ s.time.count)
    | none => false
  let ok := inR 2000 5200 r.vm
  let angle := if moving && above then s.loadAngle x r else 0xFF
  let run := if active && decide (s.rd (F.MOT_STALL_ANGLE x) < angle) then a.overTicks + 1 else 0
  let s1 := (s.setPos x r.pos).modAxis x fun a =>
    { a with acc := r.acc, fast := fast, overTicks := run, readAt := s.time.count
             vmBad := if ok then none else some (a.vmBad.getD s.time.count)
             causeAt := if !ok && s.rd (F.MOT_STATE_END_CAUSE x) == 8 then s.time.count else a.causeAt }
  (s1.wrI (F.MOT_VEL_VALUE x) r.vel).wrs [(F.MOT_STATE_LOAD_ANGLE x, angle),
    (F.MOT_STATE_STALL_ACTIVE x, if active then 1 else 0), (if x = 0 then F.MOT_SUPPLY_VM0 else F.MOT_SUPPLY_VM1, r.vm),
    (if x = 0 then F.MOT_GLOBAL_SUPPLY0_OK else F.MOT_GLOBAL_SUPPLY1_OK, if ok then 1 else 0)]

/-- MOT_LINK_MESSAGE (R336, R343): a message or heartbeat arrives; the oldest message takes effect at planner tick `tick`, at which the axes
read `r0` and `r1`, unless something else governs its axis in that tick.  Once the link returns, THM sends targets again. -/
def execMotLinkMessage (tick : Nat) (r0 r1 : AxisRead) (s : State) : Out :=
  .next <|
    if !s.isOn F.MOT_GLOBAL_CARD_PRESENT then s
    else
      let s1 := (s.axRead 0 r0).axRead 1 r1
      let s2 := if s1.isOn F.MOT_GLOBAL_LINK_OK then s1 else ((s1.wr F.MOT_GLOBAL_LINK_OK 1).thmResend).thmDrive
      match s2.mot.link with
      | [] => s2
      | m :: t =>
        let s3 : State := { s2 with mot.link := t }
        (if s3.tickOpen m.axis tick 4 then s3.motMessage m else s3.motDiscard m).thmDrive

/-- MOT_LINK_LOSS (R343): each axis holds after the move in progress, or moves to LINKLOSS.POS if it is homed. -/
def execMotLinkLoss (s : State) : Out :=
  .next <|
    [0, 1].foldl (fun s x =>
      let mark (s : State) : State := s.modAxis x fun a => { a with linkLoss := true }
      if s.isOn (F.MOT_LINKLOSS_ACTION x) then
        if s.isOn (F.MOT_STATE_HOMED x) && (s.axState x == axATREST || s.axState x == axMOVING ||
            (s.axState x == axSTOPPING && !(s.axis x).emergency)) then
          let s1 := (s.finish 0x0702 x .aborted [10]).finish 0x0703 x .aborted
          mark ((s1.wrI (F.MOT_TARGET_VALUE x) (s.fracPos x (s.rd (F.MOT_LINKLOSS_POS x)))).axGo x axMOVING)
        else s
      else if s.axState x = axMOVING then mark s else s) (s.wr F.MOT_GLOBAL_LINK_OK 0)

/-- MOT_POWER_UP (R344, R342): the MOT domain is powered and the card takes the positions back. -/
def execMotPowerUp (s : State) : Out := .next (((s.motStart true).thmResend).thmDrive)

/-- MOT_CARD_INSERTED (R345, R505): settings and tables come from STF-C, every axis starts unhomed. -/
def execMotCardInserted (serial : Nat) (s : State) : Out :=
  let old := Tbl.get 0 s.recorder.serials 4
  let s1 : State := { s with recorder.serials := Tbl.put s.recorder.serials 4 serial }
  let s2 := if old = 0 ∨ old = serial then s1 else s1.detail true ([4, 0] ++ leBytes 8 old ++ leBytes 8 serial) .ok true true
  .next (((s2.motStart false).thmResend).thmDrive)

/-- MOT_CARD_WITHDRAWN (R345, R505): the motors stand unpowered and the valve is unavailable (R316). -/
def execMotCardWithdrawn (s : State) : Out :=
  .next (((s.motGone).wrs [(F.MOT_GLOBAL_CARD_PRESENT, 0), (F.MOT_GLOBAL_SUPPLY0_OK, 0), (F.MOT_GLOBAL_SUPPLY1_OK, 0)]).thmDrive)

end Sys2Proof.Machine
end

