-- ==== Sys2Proof/Machine/Recorder.lean ====
section
/-! DEFINITION. The recorder (R488–R499), memory scrubbing and UNDERCOAT (R26–R30, R501–R504), and the preparation of cards for
withdrawal (R507). -/

namespace Sys2Proof.Machine

/-! ### Records as stored (R488, R492) -/

def lastSlots : Nat := 30720

/-- The first 60 bytes of a record. -/
def Rec.body (r : Rec) (wrap : Nat) : List Byte :=
  let b (c : Bool) (v : Nat) : Nat := if c then v else 0
  [r.kind.code, b r.system 1 + b r.milestone 2 + b r.fromStfP 4, r.status.code, r.mode, r.source, 0] ++ leBytes 2 wrap ++
  (if r.system then leBytes 4 r.opMin ++ leBytes 4 r.cycles else leBytes 8 r.seq) ++ leBytes 8 r.tai ++ padTo 36 r.data

/-- The 64 bytes of a record. -/
def Rec.bytes (r : Rec) (wrap : Nat) (valid : Bool) : List Byte :=
  r.body wrap ++ leBytes 3 (crc32c (r.body wrap)) ++ [if valid then 0xA5 else 0]

def zeroRec : List Byte := List.replicate 64 0

def State.head (s : State) : Nat := s.rd F.REC_HEAD_VALUE

/-- The slot of a LAST position: its bytes and whether it reads valid. -/
def State.lastAt (s : State) (p : Nat) : List Byte × Bool :=
  match Tbl.get none (s.recorder.last.map fun x => (x.1, some x.2)) (p % lastSlots) with
  | some l => (l.record.bytes (l.pos / lastSlots % 65536) l.valid, l.valid)
  | none => (zeroRec, false)

/-! ### System counters (R499) -/

def State.sysCounters (s : State) (gen : Nat) : SysCounters :=
  let m := (s.recorder.first.filter fun r => r.milestone).length
  { opMin := s.rd F.REC_OPTIME_VALUE, cycles := s.rd F.REC_POWER_CYCLES_VALUE, head := s.head
    seq := s.rd64 F.REC_SEQ_LO_VALUE F.REC_SEQ_HI_VALUE, firstGen := s.recorder.first.length - min 256 m, firstMile := min 256 m
    floor := s.rd64 F.SEC_TIME_FLOOR_LO_NS F.SEC_TIME_FLOOR_HI_NS, lockouts := s.rd F.SAFE_COUNT_LOCKOUTS, thermal := s.thm.shut.count
    gen := gen, valid := true }

/-- The mirror on the safety card follows each write of what it holds (R506). -/
def State.mirrorRefresh (s : State) : State :=
  if s.recorder.mirrorHeld then s
  else { s with recorder.mirror := s.sysCounters (max s.recorder.counters0.gen s.recorder.counters1.gen), recorder.mirrorSettings := s.settings }

/-- Write the system counters to the slot that does not hold the newest (R499). -/
def State.saveCounters (s : State) : State :=
  let a := s.recorder.counters0
  let b := s.recorder.counters1
  let c := s.sysCounters (max a.gen b.gen + 1)
  (if a.valid && decide (b.gen ≤ a.gen) then { s with recorder.counters1 := c } else { s with recorder.counters0 := c }).mirrorRefresh

/-- SYS_COUNTER_SAVE (R499): once a minute, the operating time with it. -/
def execSysCounterSave (s : State) : Out :=
  .next ((s.wr F.REC_OPTIME_VALUE (s.rd F.REC_OPTIME_VALUE + 1)).saveCounters)

/-! ### Writing (R491–R494) -/

/-- The record that claims the module (R450). -/
def Rec.claims (r : Rec) : Bool := r.milestone && r.kind == .command && r.data.take 2 == [0x04, 0x0D]

/-- A record is copied to FIRST (R491). -/
def State.toFirst (s : State) (r : Rec) : Bool :=
  let m := (s.recorder.first.filter fun x => x.milestone).length
  let general := s.recorder.first.length - min 256 m
  (r.claims || (!s.recorder.first.isEmpty && !s.recorder.replaced)) &&
  ((r.system && decide (general < 1792)) || (r.milestone && decide (m < 256)))

/-- FIRST_COUNT and FIRST_FULL follow. -/
def State.firstShow (s : State) : State :=
  let n := s.recorder.first.length
  s.wrs [(F.REC_STATUS_FIRST_COUNT, min 0x7FF n), (F.REC_STATUS_FIRST_FULL, if 2048 ≤ n then 1 else 0)]

/-- An audit record of the traffic class (R459): a session's start, end or refusal, a refusal for AUTH or ROLE, a command that
needs Maintainer, Safety Officer or Update Authority. -/
def Rec.audit (r : Rec) : Bool :=
  !r.system && (r.kind == .session || (r.kind == .command && (r.status == .auth || r.status == .role || audited (roleOf (ofLe (r.data.take 2))))))

/-- Write one record: LAST, then FIRST; its event learns the position (R386, R491–R493). -/
def State.writeRec (s : State) (r : Rec) : State :=
  let p := s.head
  let know (e : Ev) : Ev := if r.ev = some e.seq ∧ e.pos = none then { e with pos := some p } else e
  let f := s.toFirst r
  let s1 : State := { s with
    recorder.last := Tbl.put s.recorder.last (p % lastSlots) { pos := p, record := r, valid := true }
    recorder.first := if f then s.recorder.first ++ [r] else s.recorder.first
    recorder.replaced := s.recorder.replaced && !r.claims
    sec.auditSeq := if r.audit then r.seq else s.sec.auditSeq
    recorder.evq := s.recorder.evq.map know
    recorder.hold := s.recorder.hold.map know }
  ((s1.wr F.REC_HEAD_VALUE ((p + 1) % two32)).firstShow).saveCounters

/-- RECORD_POST (R493, R494): the oldest record posted is written; none while the controller card is absent. -/
def execRecordPost (s : State) : Out :=
  .next <| if !s.pwr.ctl then s else match s.recorder.queue with
    | [] => s
    | r :: t => ({ s with recorder.queue := t } : State).writeRec r

/-- The records that wait in STF-P are posted, oldest first; the first carries the number omitted (R494). -/
def State.bridgeFlush (s : State) : State :=
  let l := match s.recorder.stfpQ with
    | [] => []
    | r :: t => (if s.recorder.omitted = 0 then r else { r with data := padTo 32 r.data ++ leBytes 4 s.recorder.omitted }) :: t
  { s with recorder.queue := s.recorder.queue ++ l, recorder.stfpQ := [], recorder.omitted := if l.isEmpty then s.recorder.omitted else 0 }

/-- BRIDGE_RETURN (R444, R494). -/
def execBridgeReturn (s : State) : Out :=
  .next <| if s.pwr.ctl then ({ s with mbx.bridgeDown := false } : State).bridgeFlush else s

/-! ### Reading (R495) -/

/-- What a read at a cursor finds: bytes, result (0 OK, 1 EMPTY, 2 INVALID), the position loaded, the cursor after, positions
skipped. -/
structure RecRead where
  bytes : List Byte
  result : Nat
  pos : Nat
  next : Nat
  skipped : Option Nat := none

/-- The rows of R495. -/
def State.recRead (s : State) (last : Bool) (pos : Nat) : RecRead :=
  let h := s.head
  let d := (h + two32 - pos % two32) % two32
  if !last then
    match s.recorder.first[pos]? with
    | some r => { bytes := r.bytes 0 true, result := if s.recorder.firstBad.contains pos then 2 else 0, pos := pos, next := pos + 1 }
    | none => { bytes := zeroRec, result := 1, pos := pos, next := pos }
  else if d = 0 then { bytes := zeroRec, result := 1, pos := pos, next := pos }
  else
    let p := if lastSlots < d then (h + two32 - lastSlots) % two32 else pos
    let x := s.lastAt p
    { bytes := x.1, result := if x.2 then 0 else 2, pos := p, next := (p + 1) % two32
      skipped := if lastSlots < d then some ((p + two32 - pos % two32) % two32) else none }

/-- READ (R495): the window takes the record at the cursor. -/
def State.recWindow (s : State) : State :=
  let r := s.recRead (s.isOn F.REC_CURSOR_AREA) (s.rd F.REC_CURSOR_POS_VALUE)
  let s1 := s.wrs ([(F.REC_CTRL_READ, 0), (F.REC_CURSOR_POS_VALUE, r.next), (F.REC_STATUS_RESULT, r.result)] ++
    (if r.result = 1 then [] else [(F.REC_WIN_POS_VALUE, r.pos), (F.REC_WIN_GEN_VALUE, if s.isOn F.REC_CURSOR_AREA then r.pos / lastSlots else 0)]) ++
    (numbersFrom 0 16).map fun w => (F.REC_WIN_BYTES w, ofLe (slice r.bytes (4 * w) 4)))
  match r.skipped with
  | some n => (s1.wr F.REC_SKIPPED_VALUE n).flag Fl.REC_STATUS_OVERTAKEN {}
  | none => s1

def execRead (s : State) : Out := .next s.recWindow

/-- Repeated window reads from a position: bytes, the number delivered, positions found INVALID (R507). -/
def State.recMany (s : State) (last : Bool) : Nat → Nat → List Byte × (Nat × List Nat)
  | 0, _ => ([], (0, []))
  | n + 1, pos =>
    let r := s.recRead last pos
    if r.result = 1 then ([], (0, []))
    else
      let t := s.recMany last n r.next
      (r.bytes ++ t.1, (t.2.1 + 1, if r.result = 2 then r.pos :: t.2.2 else t.2.2))

/-! ### Commands (R507) -/

/-- REC_STATUS: the REC and UNDERCOAT registers. -/
def execRecStatus (h : Hdr) (s : State) : Out :=
  .next <| s.command 0x0B01 rObserver h []
    fun s => ret s (s.wordsFrom 0xF0000 14 ++ s.wordsFrom 0xF0040 16 ++ s.wordsFrom 0x120000 3 ++ s.wordsFrom 0x120010 3 ++
      s.wordsFrom 0x120100 26 ++ s.wordsFrom 0x120200 2)

/-- REC_READ: the first position delivered, the count, positions skipped, and those found INVALID. -/
def execRecRead (h : Hdr) (area pos count : Nat) (s : State) : Out :=
  .next <| s.command 0x0B02 rObserver h [(decide (1 < area) || !inR 1 4096 count, .range)]
    fun s =>
      let first := s.recRead (area == 1) pos
      let x := s.recMany (area == 1) count pos
      .bulk s ([(first.pos : Int), x.2.1, (first.skipped.getD 0 : Nat)] ++ x.2.2.map fun p => (p : Int)) x.1.length (x.1.map fun b => (b : Int))

/-- REC_NOTE: a traffic-class record of KIND DETAIL with 32 bytes of host text. -/
def execRecNote (h : Hdr) (text : List Byte) (s : State) : Out :=
  .next <| s.command 0x0B03 rOperator h [(text.length != 32, .param)] fun s => .done (s.detail false text) []

/-- UC_SUBSTITUTE (R504): pool 0, segment and position; pool 1, core. -/
def execUcSubstitute (h : Hdr) (pool a j : Nat) (s : State) : Out :=
  .next <| s.command 0x0B04 rMaintainer h
    [(decide (1 < pool) || (pool == 0 && (!s.segOk a || decide (j < 1) || decide (16 < j))) || (pool == 1 && decide (2 < a)), .range)]
    fun s =>
      if s.isOn (if pool = 0 then F.UC_CFG_AUTO_CONV else F.UC_CFG_AUTO_CORE) then .refuse .state
      else if pool = 0 then
        let x := s.segOf a
        if x.cal.isSome || x.shadow.isSome then .refuse .busy
        else if !s.segLive a || !s.spareFree a || s.sumFault a then .refuse .noResource
        else if x.needed = j then .done (s.substitute a j) []
        else .accept (s.setSeg a { x with shadow := some (j, true) }) a []
      else if s.coreDue then .refuse .busy
      else if s.poolOut 1 then .refuse .noResource
      else .accept (s.shadowCore a) coreKey []

/-- CARD_PREPARE (R507): 1 CTL, 2 PSU-A, 3 PSU-B, 4 MOT. -/
def execCardPrepare (h : Hdr) (kind : Nat) (s : State) : Out :=
  .next <| s.command 0x0B05 rMaintainer h [(!inR 1 4 kind, .range)]
    fun s => match kind with
      | 1 => .done ({ s.learnNow.saveCounters with recorder.prepared := [1] } : State) []
      | 2 => if s.isOn F.PWR_AUX_STATUS_PSU_B_OK then .done s [] else .refuse .safety
      | 3 => if s.isOn F.PWR_AUX_STATUS_PSU_A_OK then .done s [] else .refuse .safety
      | _ =>
        let s1 := [0, 1].foldl (fun s x => if s.axStill x then s else s.axStop x false 2) s
        if s1.axStill 0 && s1.axStill 1 then .done s1 [] else .accept { s1 with mot.preparing := true } 4 []

/-! ### Scrubbing and UNDERCOAT (R26, R27, R501–R504) -/

/-- The name of a region in a record: its kind and two numbers. -/
def regionName : MemRegion → List Byte
  | .safety p => [0] ++ leBytes 4 p ++ leBytes 4 0
  | .sram a => [1] ++ leBytes 4 a ++ leBytes 4 0
  | .dram a _ => [2] ++ leBytes 4 a ++ leBytes 4 0
  | .seInst k i => [3] ++ leBytes 4 k ++ leBytes 4 i
  | .seCoef k => [4] ++ leBytes 4 k ++ leBytes 4 0
  | .seTable t => [5] ++ leBytes 4 t ++ leBytes 4 0
  | .mram a => [6] ++ leBytes 4 a ++ leBytes 4 0
  | .flash d b => [7] ++ leBytes 4 d ++ leBytes 4 b
  | .cache c => [8] ++ leBytes 4 c ++ leBytes 4 0

/-- Mark instances of a slot CORRUPT (R189): one, which also freezes, or all. -/
def State.corruptInst (s : State) (k : Nat) (only : Option Nat) : State :=
  let mark (i : Nat) (r : SeInst) : SeInst := if only = none ∨ only = some i then { r with corrupt := true, frozen := r.frozen || only.isSome } else r
  let l := s.seInsts k
  s.setSeInsts k ((numbersFrom 0 l.length).zip l |>.map fun p => mark p.1 p.2)

/-- The owner of a firmware slot restores its damaged data by reloading it (R189, R219, R313, R314). -/
def State.ownerReload (s : State) (k : Nat) : State :=
  if k = 0 then (if s.seEnabled 0 then s.estRestore else s)
  else if s.seBusy k = false then s
  else if k = 1 then s.seLoadFw 1 (segKernel s.segs) (fwInsts 1 s.segs 4)
  else if k = 2 then s.loadLoop else s

/-- The slots whose committed kernel uses a table. -/
def State.tableUsers (s : State) (t : Nat) : List Nat :=
  (numbersFrom 0 16).filter fun k => match (s.seSlot k).kern with
    | some q => q.desc.tableEn && q.desc.table == t
    | none => false

/-- The third uncorrectable cache error of a core within 24 h: core 3 shadows it, or the policy waits (R501, R503, R504). -/
def State.coreError (s : State) (c : Nat) : State :=
  let t := s.time.count
  let l := (c, t) :: s.recorder.coreErr.filter fun p => decide (t < p.2 + 21600000000000)
  let s1 : State := { s with recorder.coreErr := l }
  if (l.filter fun p => p.1 == c).length < 3 ∨ 2 < c ∨ s1.poolOut 1 = true ∨ s1.coreDue = true then s1
  else if !s1.isOn F.UC_CFG_AUTO_CORE then s1.flag Fl.UC_EVENT_NEEDED { system := true, idx := c }
  else s1.shadowCore c

/-- The chunks of the held package that lie in a staging block (R464, R500): four to a block. -/
def State.stagedChunks (s : State) (d b : Nat) : List Nat :=
  match s.upd.pkg with
  | none => []
  | some p =>
    if p.head.target = 1 ∧ p.head.kind = 0 then
      -- a full CTL package lies in the inactive bank: the header in block 0, the body from block 1 on
      let bank := 1 - s.rd F.UPD_STATUS_ACTIVE_BANK
      if d ≠ bank ∨ 256 < b then []
      else if b = 0 then [0]
      else (numbersFrom 0 5).map fun i => ((b - 1) * 65536 + 4096) / 16384 + i
    else if d = 0 ∧ 257 ≤ b ∧ b ≤ 384 then numbersFrom (4 * (b - 257)) 4 else []

/-- CHUNKS_HELD and UPD_BITMAP_w follow the chunks held (R469). -/
def State.bitmapShow (s : State) : State :=
  let l : List Nat := match s.upd.pkg with
    | some p => p.chunks.map (·.1)
    | none => []
  (s.wr F.UPD_STATUS_CHUNKS_HELD l.length).wrs ((numbersFrom 0 33).map fun w =>
    (F.UPD_BITMAP_BITS w, ((l.filter fun c => c / 32 == w).map fun c => 2 ^ (c % 32)).sum))

/-- A retired block's chunks are no longer held (R502, R469). -/
def State.dropChunks (s : State) (l : List Nat) : State :=
  match s.upd.pkg with
  | none => s
  | some p =>
    let keep := p.chunks.filter fun c => !l.contains c.1
    if keep.length = p.chunks.length then s
    else
      let s1 : State := { s with upd.pkg := some { p with chunks := keep } }
      (if s1.rd F.UPD_STATUS_STATE = 2 then s1.wr F.UPD_STATUS_STATE 1 else s1).bitmapShow

/-- The hold queue loses an entry, by its place from the oldest. -/
def State.dropHeld (s : State) (n : Nat) : State := { s with recorder.hold := s.recorder.hold.eraseIdx n }

/-- The slot of LAST at an index loses its mark. -/
def State.dropLast (s : State) (n : Nat) : State :=
  { s with recorder.last := s.recorder.last.map fun p => if p.1 = n then (n, { p.2 with valid := false }) else p }

/-- Slot 0 holds the record that PRIMER takes. -/
def State.switchIs0 (s : State) : Bool := s.upd.sw0.valid && (!s.upd.sw1.valid || decide (s.upd.sw1.gen ≤ s.upd.sw0.gen))

/-- The switch record in force. -/
def State.switch (s : State) : SwitchRec := if s.switchIs0 then s.upd.sw0 else s.upd.sw1

/-- A settings copy is discarded: of the running image, the fields that later resets would apply; else the other copy (R472). -/
def State.dropCopy (s : State) (c : Nat) : State :=
  if s.switch.copy = c then { s with settings := [] } else { s with upd.other := {} }

/-- The data of the MRAM codeword at a byte offset are discarded (R26, R498); safety memory among them stops the module (R25). -/
def State.mramLost (s : State) (a : Nat) : State :=
  if a < 0x20000 then { s with recorder.firstBad := s.recorder.firstBad ++ [a / 64] }
  else if a < 0x200000 then s.dropLast ((a - 0x20000) / 64)
  else if a < 0x300000 then s.dropHeld ((a - 0x200000) / 64)
  else if a < 0x340000 then s.dropCopy 0
  else if a < 0x380000 then s.dropCopy 1
  else if a < 0x382000 then { s with est.slotA.valid := false }
  else if a < 0x384000 then { s with est.slotB.valid := false }
  else if a < 0x384200 then { s with safe.copy0 := [] }
  else if a < 0x384400 then { s with safe.copy1 := [] }
  else if a < 0x384480 then { s with cim.mram.valid := false }
  else if a < 0x3844C0 then { s with upd.sw0.valid := false }
  else if a < 0x384500 then { s with upd.sw1.valid := false }
  else if a < 0x384540 then { s with thm.shut.valid := false }
  else if a < 0x384580 then { s with recorder.counters0.valid := false }
  else if a < 0x3845C0 then { s with recorder.counters1.valid := false }
  else if 0x385000 ≤ a ∧ a < 0x386000 then ({ s with upd.pkg := none } : State).bitmapShow
  else if 0x386000 ≤ a ∧ a < 0x386084 then s.dropChunks (numbersFrom (8 * (a - 0x386000) / 256 * 256) 256)
  else if 0x386100 ≤ a ∧ a < 0x388000 then s.dropChunks (numbersFrom ((a - 0x386100) / 32 * 8) 8)
  else if 0x3A0000 ≤ a ∧ a < 0x3B0000 then { s with recorder.rowLife := [], recorder.eraseCnt := [] }
  else if 0x3B0000 ≤ a ∧ a < 0x3C0000 then { s with recorder.stfpQ := s.recorder.stfpQ.eraseIdx ((a - 0x3B0000) / 64) }
  else s

/-- MRAM that is safety memory: the copies of the parameter block and the charge counter's storage (R25, R498). -/
def mramSafety (a : Nat) : Bool := inR 0x384000 0x38447F a

/-- A bulk-out transfer of which a codeword is lost is not sent; it completes with INTEGRITY (R26). -/
def State.transferLost (s : State) (tag : Nat) : State :=
  match s.hrt.transfers.find? fun t => t.tag == tag with
  | none => s
  | some t => ({ s with hrt.transfers := s.hrt.transfers.erase t } : State).emit { t.completion with status := .integrity, bulkLen := 0, result := [] }

/-- The data of an uncorrectable codeword outside safety memory are discarded (R26, R189). -/
def State.discard (s : State) (m : MemRegion) : State :=
  match m with
  | .dram _ (some t) => s.transferLost t
  | .seInst k i =>
    let s1 := (s.corruptInst k (some i)).flag Fl.SE_EVENT_INTEGRITY { status := .integrity, idx := k }
    if k = 0 then s1 else s1.ownerReload k
  | .seCoef k => ((s.corruptInst k none).flag Fl.SE_EVENT_INTEGRITY { status := .integrity, idx := k }).ownerReload k
  | .seTable t =>
    (s.tableUsers t).foldl State.ownerReload
      (((s.tableUsers t).foldl (fun s k => s.corruptInst k none) s).flag Fl.SE_EVENT_INTEGRITY { status := .integrity })
  | .cache c => s.coreError c
  | .mram a => s.mramLost a
  | .flash d b => s.dropChunks (s.stagedChunks d b)
  | _ => s

/-- What an uncorrectable codeword leads to (R25, R26, R189). -/
def State.uncorrectable (s : State) (m : MemRegion) : State :=
  let out (s : State) : State :=
    ({ s with recorder.uncorrectable := s.recorder.uncorrectable + 1 } : State).detail true
      (regionName m ++ (match m with | .seTable t => s.tableUsers t | _ => [])) .integrity
  match m with
  | .safety _ => s.raiseCause .safetyMemory 1
  | .mram a => if mramSafety a then (s.raiseCause .safetyMemory 1).mramLost a else (out s).discard m
  | _ => (out s).discard m

/-- The key of a flash block in the table of erase counts. -/
def blockKey (d b : Nat) : Nat := 1024 * d + b

/-- UNDERCOAT's thresholds (R501): `n` symbols corrected in the pass, `two` in one codeword, `bad` uncorrectable or an erase
or program failure, `erases` the erase count of a block. -/
def State.wear (s : State) (m : MemRegion) (n : Nat) (two bad : Bool) (erases : Nat) : State :=
  match m with
  | .mram a =>
    let r := a / 1024
    let life := Tbl.get 0 s.recorder.rowLife r + n
    let s1 : State := if n = 0 then s else { s with recorder.rowLife := Tbl.put s.recorder.rowLife r life }
    if decide (s1.rd F.UC_CFG_MRAM_PASS ≤ n) || decide (s1.rd F.UC_CFG_MRAM_LIFE ≤ life) || bad then s1.queueJob (2, 0, r) else s1
  | .flash d b =>
    let k := blockKey d b
    let s1 : State := if Tbl.get 0 s.recorder.eraseCnt k < erases then { s with recorder.eraseCnt := Tbl.put s.recorder.eraseCnt k erases } else s
    let s2 := if s1.rd (F.UC_FLASH_ERASE_MAX d) < erases then s1.wr (F.UC_FLASH_ERASE_MAX d) (min 0xFFFF erases) else s1
    if bad || two || decide (s2.rd F.UC_CFG_FLASH_PASS < n) || decide (8000 ≤ erases) then s2.queueJob (3, d, b) else s2
  | _ => s

/-- SCRUB (R23, R26, R27): what the pass reads in a region, by its damaged codewords; `fail` an erase or program failure and `erases` the
erase count of a flash block. -/
def execScrub (m : MemRegion) (words : List (List (Nat × Nat))) (fail : Bool) (erases : Nat) (s : State) : Out :=
  let found := scrubbed words
  let corrected := found.1
  let two := found.2.1
  let uncorr := found.2.2
  let cc := match m with
    | .cache c => if corrected = 0 then s.recorder.cacheCorr else Tbl.put s.recorder.cacheCorr c (Tbl.get 0 s.recorder.cacheCorr c + corrected)
    | _ => s.recorder.cacheCorr
  let s1 : State := { s with recorder.corrected := s.recorder.corrected + corrected, recorder.cacheCorr := cc }
  let s2 := if uncorr then s1.uncorrectable m else s1
  .next (s2.wear m corrected two (uncorr || fail) erases)

/-- The highest erase count of the blocks in service on a device. -/
def State.eraseMax (s : State) (d : Nat) : Nat :=
  ((s.recorder.eraseCnt.filter fun p => p.1 / 1024 == d).map (·.2)).foldl max 0

/-- A flash block is retired: its chunks, its erase count, the counters of its device (R501, R502). -/
def State.retireBlock (s : State) (d b : Nat) : State :=
  let s1 : State := { s with recorder.eraseCnt := Tbl.del s.recorder.eraseCnt (blockKey d b) }
  (s1.wrs [(F.UC_FLASH_ERASE_RETIRED d, s1.rd (F.UC_FLASH_ERASE_RETIRED d) + 1), (F.UC_FLASH_ERASE_MAX d, min 0xFFFF (s1.eraseMax d))]).dropChunks
    (s1.stagedChunks d b)

/-- RELOCATED (R502): the map is rewritten and the retired resource is never used again. -/
def execRelocated (s : State) : Out :=
  .next <| match s.recorder.reloc with
    | none => s
    | some r =>
      let f := spareField r.pool r.device
      let s1 : State := { s with recorder.reloc := none
                                 recorder.map := s.recorder.map ++ [{ pool := r.pool, device := r.device, resource := r.resource, spare := r.spare }] }
      let left := s1.rd f - 1
      let s2 := (s1.wrs [(f, left), (F.UC_STATUS_RELOCATING, 0)]).flag Fl.UC_EVENT_RELOCATED { system := true, idx := r.pool }
      let s3 := s2.sparing r.pool 4 (r.resource + 65536 * r.device) r.spare
      let s4 : State := if r.pool = 3 then s3.retireBlock r.device r.resource
        else if r.pool = 2 then { s3 with recorder.rowLife := Tbl.del s3.recorder.rowLife r.resource } else s3
      let s5 := if left = 0 then s4.exhaust r.pool (spareRes r.pool r.device) else s4
      s5.nextJobs s5.recorder.relocWait

end Sys2Proof.Machine
end

