-- ==== Sys2Proof/Machine/Sb.lean ====
section
/-! DEFINITION. Sensor Bus (R418–R435): controller transfers, arbitration, timeouts, bus clear and the target role. -/

namespace Sys2Proof.Machine

def State.sbBus (s : State) (c : Nat) : SbBus := Tbl.get {} s.sb c

def State.setSb (s : State) (c : Nat) (b : SbBus) : State := { s with sb := Tbl.put s.sb c b }

/-- QUEUED follows the queue, the transfer in progress included. -/
def State.setQueue (s : State) (c : Nat) (q : List Xfer) : State :=
  (s.setSb c { s.sbBus c with queue := q }).wr (F.SB_STATUS_QUEUED c) q.length

/-! ### Ends of transfers (R422, R424, R428) -/

/-- The final completion of a transfer: bytes written, bytes read, index of a byte not acknowledged (−1 none), attempts,
DETAIL; data read go out on the bulk-out ring. -/
def State.xferEnd (s : State) (x : Xfer) (st : Status) (wrote : Nat) (nack : Int) (detail : Nat) (data : List Byte) : State :=
  let res : List Int := [(wrote : Int), (data.length : Int), nack, (x.attempts : Int), (detail : Int)]
  if data.isEmpty then s.finish 0x0A03 x.key st res
  else s.finishBulk 0x0A03 x.key res data.length (data.map fun b => (b : Int)) st

/-- The first transfer of the queue ends. -/
def State.headEnd (s : State) (c : Nat) (st : Status) (wrote : Nat := 0) (nack : Int := -1) (detail : Nat := 0)
    (data : List Byte := []) : State :=
  match (s.sbBus c).queue with
  | [] => s
  | x :: q => ((s.setQueue c q).wr (F.SB_STATUS_XFER_ACTIVE c) 0).xferEnd x st wrote nack detail data

/-- Every queued transfer completes ABORTED (R430, R434). -/
def State.sbAbortAll (s : State) (c : Nat) : State :=
  let q := (s.sbBus c).queue
  q.foldl (fun s x => s.xferEnd x .aborted 0 (-1) 0 []) ((s.setQueue c []).wr (F.SB_STATUS_XFER_ACTIVE c) 0)

/-! ### Bus sample and clear (R429, R430) -/

def State.sbLines (s : State) (c scl sda : Nat) : State := s.wrs [(F.SB_STATUS_SCL_IN c, scl), (F.SB_STATUS_SDA_IN c, sda)]

/-- A line is low with the branches of `opn` open: the module's side or a closed branch holds it. -/
def lineLow (m : Nat) (own : Bool) (opn : Nat) : Bool :=
  own || [0, 1, 2, 3].any fun b => m / 2 ^ b % 2 == 1 && opn / 2 ^ b % 2 == 0

/-- Steps 3 and 4 of R429 over the branches that are not isolated: the first branch whose opening releases the line, else, all four open,
those that pull it low as they close one at a time; none where it stays low with all open (R430). -/
def culprits (m : Nat) (own : Bool) (iso : Nat) : Option Nat :=
  let l := [0, 1, 2, 3].filter fun b => iso / 2 ^ b % 2 == 0
  match l.find? fun b => !lineLow m own (iso ||| 2 ^ b) with
  | some b => some (2 ^ b)
  | none =>
    if lineLow m own 15 then none
    else
      let opn := l.foldl (fun o b => if lineLow m own (o - 2 ^ b) then o else o - 2 ^ b) 15
      some (l.filter (fun b => opn / 2 ^ b % 2 == 1) |>.map (2 ^ ·)).sum

/-- The sample of the bus and its clear (R429): SCL low is searched for at once, SDA after up to nine pulses. -/
def busClear (iso : Nat) (b : BusSense) : BusClear :=
  let found (m : Nat) (own scl : Bool) : BusClear := match culprits m own iso with
    | some x => .isolated x scl
    | none => .fault
  if lineLow b.scl b.sclOwn iso then found b.scl b.sclOwn true
  else if !lineLow b.sda b.sdaOwn iso then .free
  else match b.release with
    | some p => if 1 ≤ p ∧ p ≤ 9 then .released else found b.sda b.sdaOwn false
    | none => found b.sda b.sdaOwn false

/-- The bus is sampled, and cleared where a line is low. -/
def State.sbSample (s : State) (c : Nat) (r : BusSense) : State :=
  let s1 := s.wr (F.SB_STATUS_BUS_BUSY c) 0
  match busClear (s.rd (F.SB_BRANCH_ISOLATED c)) r with
  | .free | .released => s1.sbLines c 1 1
  | .isolated m scl =>
    let s2 := (s1.sbLines c 1 1).wrs [(F.SB_BRANCH_ISOLATED c, s1.rd (F.SB_BRANCH_ISOLATED c) ||| m), (F.SB_BRANCH_OPEN c, s1.rd (F.SB_BRANCH_OPEN c) ||| m)]
    s2.flag (if scl then Fl.SB_EVENT_STUCK_SCL c else Fl.SB_EVENT_STUCK_SDA c) { idx := c, detail := [c, m] }
  | .fault =>
    let s2 := (s1.sbLines c 0 0).wrs [(F.SB_STATUS_BUS_FAULT c, 1), (F.SB_BRANCH_OPEN c, 15)]
    (s2.flag (Fl.SB_EVENT_BUS_FAULT c) { idx := c }).sbAbortAll c

def sbBase (c : Nat) : Nat := 0xD0000 + 0x8000 * c

/-- Apply SB_CFG, SB_TGT and SB_WAKE: a bus that becomes enabled is sampled (R429); one switched off ends its queue. -/
def State.sbApply (s : State) (c : Nat) (ws : List Nat) (r : BusSense) : State :=
  let was := s.isOn (F.SB_CFG_ENABLE c)
  let w (i : Nat) : Nat := ws.getD i 0
  let s1 := ((s.writeStore (sbBase c) (w 0)).writeStore (sbBase c + 8) (w 1)).writeStore (sbBase c + 12) (w 2)
  let on := s1.isOn (F.SB_CFG_ENABLE c)
  if on && !was then s1.sbSample c r else if was && !on then s1.sbAbortAll c else s1

/-- The bus is free: a configuration that waits comes into force and SB_SET_CFG completes (R435). -/
def State.sbFree (s : State) (c : Nat) : State :=
  let s1 := s.wr (F.SB_STATUS_BUS_BUSY c) 0
  match (s1.sbBus c).cfg with
  | some (ws, r) => ((s1.setSb c { s1.sbBus c with cfg := none }).sbApply c ws r).waitEnd 0x0A02 .ok
  | none => s1

/-- Self-reset, steps 1–5 of R428: the transfer in progress completes TIMEOUT, STRETCH_TO, the sample. -/
def State.sbSelfReset (s : State) (c : Nat) (r : BusSense) : State :=
  let s1 := if s.isOn (F.SB_STATUS_XFER_ACTIVE c) then s.headEnd c .timeout else s
  ((((s1.wr (F.SB_STATUS_TGT_ACTIVE c) 0).flag (Fl.SB_EVENT_STRETCH_TO c) { idx := c }).sbSample c r)).sbFree c

/-- A controller reset: queue ended without completions, FIFO and image cleared, then the sample (R434). -/
def State.sbRestart (s : State) (c : Nat) (r : BusSense) : State :=
  let s1 := (s.setSb c {}).wrs ([(F.SB_STATUS_QUEUED c, 0), (F.SB_STATUS_XFER_ACTIVE c, 0), (F.SB_STATUS_TGT_ACTIVE c, 0), (F.SB_TGT_RX_LEVEL c, 0),
    (F.SB_TGT_RX_DATA c, 0), (F.SB_TGT_RX_VALID c, 0), (F.SB_TGT_RX_FIRST c, 0), (F.SB_TGT_RX_GCALL c, 0)] ++
    (numbersFrom 0 64).map fun w => (F.SB_TGT_IMAGE_BYTES c w, 0))
  if s1.isOn (F.SB_CFG_ENABLE c) then s1.sbSample c r else s1

/-! ### Commands (R435) -/

/-- SB_STATUS (R435). -/
def execSbStatus (h : Hdr) (c : Nat) (s : State) : Out :=
  .next <| s.command 0x0A01 rObserver h [(decide (1 < c), .range)]
    fun s => ret s (s.words ([0, 4, 8, 0xC, 0x10, 0x14, 0x20, 0x24, 0x28, 0x2C, 0x30].map fun o => sbBase c + o))

/-- A target address: 0x08–0x77, 0 none. -/
def tgtAddrOk (a : Nat) : Bool := a == 0 || inR 8 0x77 a

/-- SB_SET_CFG (R435): the words of SB_CFG, SB_TGT and SB_WAKE; `r` is what holds the lines where the bus becomes enabled. -/
def execSbSetCfg (h : Hdr) (c cfg tgt wake : Nat) (r : BusSense) (s : State) : Out :=
  let tgt1 := tgt % 65536 + 65536 * s.rd (F.SB_TGT_RX_LEVEL c)
  let ws := [(sbBase c, cfg), (sbBase c + 8, tgt1), (sbBase c + 12, wake)]
  .next <| s.command 0x0A02 rMaintainer h
    ([(decide (65536 ≤ tgt), .param), (decide (1 < c) || !tgtAddrOk (tgt % 128) || !tgtAddrOk (tgt / 256 % 128), .range)] ++
      ws.filterMap fun p => (s.writeCheck p.1 p.2).map fun st => (decide (c ≤ 1), st))
    fun s =>
      if s.isOn (F.SB_STATUS_CLEARING c) then .refuse .busy
      else if s.isOn (F.SB_STATUS_BUS_BUSY c) || s.isOn (F.SB_STATUS_XFER_ACTIVE c) then
        .wait (s.setSb c { s.sbBus c with cfg := some ([cfg, tgt1, wake], r) })
      else .done (s.sbApply c [cfg, tgt1, wake] r) []

/-- SB_XFER (R421). -/
def execSbXfer (h : Hdr) (c addr : Nat) (tenBit : Bool) (data : List Byte) (rd : Nat) (pec noRstart : Bool) (s : State) : Out :=
  let own := !tenBit && addr != 0 && (addr == s.rd (F.SB_TGT_ADDR c) || addr == s.rd (F.SB_TGT_ADDR2 c))
  .next <| s.command 0x0A03 rOperator h
    [(decide (c ≤ 1) && (own || (!tenBit && addr == 0 && rd != 0) || (pec && !s.isOn (F.SB_CFG_SMBUS c))), .param),
     (decide (1 < c) || decide (256 < data.length) || decide (256 < rd) ||
       (if tenBit then decide (1023 < addr) else !(addr == 0 || inR 8 0x77 addr)), .range)]
    fun s =>
      let b := s.sbBus c
      if 16 ≤ b.queue.length ∨ s.isOn (F.SB_CFG_ENABLE c) = false ∨ s.isOn (F.SB_STATUS_BUS_FAULT c) = true then .refuse .noResource
      else
        let key := 2 * b.next + c
        let x : Xfer := { key := key, addr := addr, tenBit := tenBit, pec := pec, noRstart := noRstart, wr := data, rd := rd }
        .accept ((s.setSb c { b with next := b.next + 1 }).setQueue c (b.queue ++ [x])) key []

/-- SB_TGT_WRITE (R432): the image; no target transfer is in progress between events. -/
def execSbTgtWrite (h : Hdr) (c : Nat) (image : List Byte) (s : State) : Out :=
  .next <| s.command 0x0A04 rOperator h [(image.length != 256, .param), (decide (1 < c), .range)]
    fun s => .done ((numbersFrom 0 64).foldl (fun s w => s.wr (F.SB_TGT_IMAGE_BYTES c w) (ofLe (slice image (4 * w) 4))) s) []

/-- SB_TGT_RX and RX_LEVEL show the FIFO. -/
def State.sbFifo (s : State) (c : Nat) (l : List Nat) : State :=
  let w := l.headD 0
  (s.setSb c { s.sbBus c with fifo := l }).wrs [(F.SB_TGT_RX_LEVEL c, l.length), (F.SB_TGT_RX_DATA c, w), (F.SB_TGT_RX_VALID c, w / 256),
    (F.SB_TGT_RX_FIRST c, w / 512), (F.SB_TGT_RX_GCALL c, w / 1024)]

/-- SB_TGT_READ (R432). -/
def execSbTgtRead (h : Hdr) (c count : Nat) (s : State) : Out :=
  .next <| s.command 0x0A05 rObserver h [(decide (1 < c) || !inR 1 64 count, .range)]
    fun s =>
      let l := (s.sbBus c).fifo
      ret (s.sbFifo c (l.drop count)) ((l.take count).map fun w => (w : Int))

/-- SB_TGT_RX_READ (R431, R513): the read removes the oldest byte. -/
def execSbTgtRxRead (c : Nat) (s : State) : Out :=
  .next <|
    if 1 < c then s
    else
      let s1 : State := { s with lastRead := (s.readWord (F.SB_TGT_RX_DATA c).addr).1 }
      s1.sbFifo c ((s1.sbBus c).fifo.drop 1)

/-- SB_BRANCH_RESTORE (R430): the branches of a mask close, then the sample. -/
def execSbBranchRestore (h : Hdr) (c mask : Nat) (r : BusSense) (s : State) : Out :=
  .next <| s.command 0x0A06 rMaintainer h [(decide (1 < c) || decide (15 < mask), .range)]
    fun s =>
      if s.isOn (F.SB_STATUS_CLEARING c) then .refuse .busy
      else
        let iso := s.rd (F.SB_BRANCH_ISOLATED c)
        let op := s.rd (F.SB_BRANCH_OPEN c)
        let s1 := s.wrs [(F.SB_BRANCH_ISOLATED c, iso - (iso &&& mask)), (F.SB_BRANCH_OPEN c, op - (op &&& mask))]
        let s2 := s1.sbSample c r
        .done s2 [((s2.readWord (sbBase c + 0x10)).1 : Int)]

/-- SB_BUS_RESET (R428, R435). -/
def execSbBusReset (h : Hdr) (c : Nat) (r : BusSense) (s : State) : Out :=
  .next <| s.command 0x0A07 rMaintainer h [(decide (1 < c), .range)]
    fun s =>
      let s1 := s.wrs [(F.SB_STATUS_BUS_FAULT c, 0), (F.SB_BRANCH_OPEN c, s.rd (F.SB_BRANCH_ISOLATED c))]
      .done (s1.sbSelfReset c r) []

/-! ### Events of the bus -/

/-- Nominal tLOW, tHIGH and tBUF of a SPEED in ns (R419). -/
def sbTiming : Nat → Nat × (Nat × Nat)
  | 0 => (5200, (4800, 4700))
  | 1 => (1400, (1100, 1300))
  | _ => (560, (440, 500))

/-- Both lines have stood high for `ns`, since a STOP where `stop`: the bus is free (R421). -/
def State.busFree (s : State) (c : Nat) (stop : Bool) (ns : Nat) : Bool :=
  (stop && decide ((sbTiming (s.rd (F.SB_CFG_SPEED c))).2.2 ≤ ns)) || decide (50000 ≤ ns)

/-- The bytes that address a target (R421): one for 7 bits, two for 10. -/
def addrBytes (x : Xfer) (read : Bool) : List Byte :=
  let r := if read then 1 else 0
  if x.tenBit then [0xF0 + 2 * (x.addr / 256 % 4) + r, x.addr % 256] else [2 * (x.addr % 128) + r]

/-- CRC-8 of SMBus, x⁸ + x² + x + 1 (R418). -/
def crc8Step (c : Nat) : Nat := if 128 ≤ c then (2 * c % 256) ^^^ 7 else 2 * c

def crc8 (bs : List Byte) : Nat :=
  bs.foldl (fun c b => (numbersFrom 0 8).foldl (fun c _ => crc8Step c) (c ^^^ (b % 256))) 0

/-- What a transfer writes on the bus, its addresses included, with the PEC byte of a write (R421, R422). -/
def Xfer.drives (x : Xfer) : List Byte :=
  let w := if x.wr.isEmpty && x.rd != 0 then [] else addrBytes x false ++ x.wr
  let alone := x.rd == 0 || x.noRstart
  let p := if x.pec && alone && !x.wr.isEmpty then [crc8 w] else []
  w ++ p ++ if x.rd = 0 then [] else addrBytes x true

/-- The PEC that a read has to carry: over the whole transfer, or over the read alone where it follows a STOP (R422). -/
def Xfer.pecOf (x : Xfer) (data : List Byte) : Nat :=
  crc8 ((if x.noRstart then addrBytes x true else x.drives) ++ data)

/-- SB_XFER_START (R421, R423): the lines have been quiet for `ns`; where the bus is free the next transfer starts. -/
def execSbXferStart (c : Nat) (stop : Bool) (ns : Nat) (s : State) : Out :=
  .next <|
    if 1 < c ∨ s.isOn (F.SB_STATUS_XFER_ACTIVE c) = true ∨ s.isOn (F.SB_STATUS_BUS_FAULT c) = true ∨ s.busFree c stop ns = false then s
    else
      let s1 := s.sbFree c
      match (s1.sbBus c).queue with
      | [] => s1
      | x :: q => if s1.isOn (F.SB_CFG_ENABLE c) then
          ((s1.setSb c { s1.sbBus c with drove := x.drives }).setQueue c ({ x with attempts := x.attempts + 1 } :: q)).wrs [(F.SB_STATUS_XFER_ACTIVE c, 1), (F.SB_STATUS_BUS_BUSY c, 1)]
        else s1

/-- SB_XFER_DONE (R422): the transfer ends with its STOP: `nack` the index of a byte not acknowledged, `data` the bytes read and `pec` the
PEC byte after them. -/
def execSbXferDone (c : Nat) (nack : Option Nat) (pec : Byte) (data : List Byte) (s : State) : Out :=
  .next <|
    if 1 < c ∨ s.isOn (F.SB_STATUS_XFER_ACTIVE c) = false then s
    else match (s.sbBus c).queue with
      | [] => s
      | x :: _ =>
        let d := data.take x.rd
        (match nack with
          | some i => s.headEnd c .noAck (i - 1) i 0 d
          | none => s.headEnd c (if x.pec && x.rd != 0 && pec % 256 != x.pecOf d then .integrity else .ok) x.wr.length (-1) 0 d).sbFree c

/-- ARB_LOST (R424–R426): a loss at a byte and bit; `cond` while driving a repeated START or a STOP. -/
def execArbLost (c byte bit : Nat) (cond : Bool) (s : State) : Out :=
  .next <|
    if 1 < c ∨ s.isOn (F.SB_STATUS_XFER_ACTIVE c) = false then s
    else
      let hard := cond && s.isOn (F.SB_CFG_ARB_COND c)
      let s1 := s.wrs [(F.SB_ARB_BYTE c, min 255 byte), (F.SB_ARB_BIT c, min 8 bit), (F.SB_ARB_CONDITION c, if hard then 1 else 0)]
      if hard then (s1.flag (Fl.SB_EVENT_ARB_LOST_CONDITION c) { idx := c }).headEnd c .arbLost (byte - 1) (-1) 1
      else
        let s2 := s1.flag (Fl.SB_EVENT_ARB_LOST c) { idx := c }
        match (s2.sbBus c).queue with
        | [] => s2
        | x :: _ =>
          if 1 + s2.rd (F.SB_CFG_RETRY c) ≤ x.attempts then s2.headEnd c .arbLost (byte - 1)
          else s2.wr (F.SB_STATUS_XFER_ACTIVE c) 0

/-- SB_START_TIMEOUT (R421): the transfer at the front could not start within 1 s. -/
def execSbStartTimeout (c : Nat) (s : State) : Out :=
  .next <| if 1 < c ∨ s.isOn (F.SB_STATUS_XFER_ACTIVE c) = true then s else s.headEnd c .timeout

/-- STRETCH_MS as it acts, in µs (R428). -/
def State.stretchUs (s : State) (c : Nat) : Nat :=
  let ms := s.rd (F.SB_CFG_STRETCH_MS c)
  1000 * if s.isOn (F.SB_CFG_SMBUS c) then min 35 (max 25 ms) else ms

/-- STRETCH_TO (R428): a line has been held low for the stretch timeout, with what holds the lines in the sample; or, with SMBUS set, a
transfer exceeds 25 ms of stretching in total or 10 ms of own low phases within a byte, which only ends that transfer. -/
def execStretchTo (c : Nat) (k : Stretch) (r : BusSense) (s : State) : Out :=
  let xfer := s.isOn (F.SB_CFG_SMBUS c) && s.isOn (F.SB_STATUS_XFER_ACTIVE c)
  .next <|
    if 1 < c ∨ s.isOn (F.SB_CFG_ENABLE c) = false then s
    else match k with
      | .held us => if s.stretchUs c ≤ us then s.sbSelfReset c r else s
      | .total us => if xfer && decide (25000 < us) then (s.headEnd c .timeout).sbFree c else s
      | .byte us => if xfer && decide (10000 < us) then (s.headEnd c .timeout).sbFree c else s

/-- Bytes written to the target go to the FIFO, the first marked; a byte that finds it full is refused (R431). -/
def State.tgtBytes (s : State) (c : Nat) (gcall first : Bool) : List Byte → State
  | [] => s
  | b :: bs =>
    let l := (s.sbBus c).fifo
    let s1 := if 64 ≤ l.length then s.flag (Fl.SB_EVENT_TGT_OVR c) { idx := c }
              else s.sbFifo c (l ++ [b % 256 + 256 + (if first then 512 else 0) + (if gcall then 1024 else 0)])
    s1.tgtBytes c gcall false bs

/-- SB_TARGET_ADDRESSED (R425, R431): a whole transfer in the target role: the address (0 general call), the bytes written to the
block, and the number of bytes read from it. -/
def execSbTargetAddressed (c addr : Nat) (bytes : List Byte) (rd : Nat) (s : State) : Out :=
  .next <|
    if 1 < c ∨ s.isOn (F.SB_CFG_ENABLE c) = false ∨ s.isOn (F.SB_CFG_TGT_EN c) = false then s
    else if addr = 0 then
      if s.isOn (F.SB_CFG_GCALL_EN c) then s.tgtBytes c true true bytes else s
    else if addr = s.rd (F.SB_TGT_ADDR c) ∨ addr = s.rd (F.SB_TGT_ADDR2 c) then
      let s1 := match bytes with
        | [] => s
        | p :: bs => (s.setSb c { s.sbBus c with ptr := p % 256 }).tgtBytes c false true bs
      let b := s1.sbBus c
      let out := (numbersFrom 0 rd).map fun i =>
        let a := (b.ptr + i) % 256
        s1.rd (F.SB_TGT_IMAGE_BYTES c (a / 4)) / 256 ^ (a % 4) % 256
      if rd = 0 then s1 else s1.setSb c { b with ptr := (b.ptr + rd) % 256, served := out }
    else s

end Sys2Proof.Machine
end

