-- ==== Sys2Proof/Machine/Seg.lean ====
section
/-! DEFINITION. Cell Measurement and the LATH Chain (R66–R105, R530): measurement commands, joins, the ring and the
spare converter; the instant, the frame and the intake are in Measure.lean. -/

namespace Sys2Proof.Machine

/-! ### Commands (R103) -/

/-- SET_AVERAGING (R77): the window in progress completes under the old N. -/
def execSetAveraging (h : Hdr) (n : Nat) (s : State) : Out :=
  .next <| s.command 0x0201 rOperator h [(decide (n < 1) || decide (4096 < n), .range)]
    fun s => .done (s.wr F.SEG_AVG_CFG_N_M1 (n - 1)) []

/-- RAW_STREAM_START (R104): the ring carries kind 5 from the next instant. -/
def execRawStreamStart (h : Hdr) (ring mask : Nat) (s : State) : Out :=
  .next <| s.command 0x0202 rMaintainer h
    [(decide (ring < 6) || decide (15 < ring) || !s.isOn (F.HRT_RING_CFG_ENABLE ring), .param),
     (decide (2 ^ s.segs ≤ mask), .range)]
    fun s =>
      if s.seg.rawRing ≠ 0 then .refuse .busy
      else .done { s.wr (F.HRT_RING_TLM_KIND ring) 5 with seg.rawRing := ring, seg.rawMask := mask } []

/-- RAW_STREAM_STOP (R103): the ring returns to kind 0. -/
def execRawStreamStop (h : Hdr) (s : State) : Out :=
  .next <| s.command 0x0203 rMaintainer h []
    fun s =>
      if s.seg.rawRing = 0 then .done s []
      else .done { s.wr (F.HRT_RING_TLM_KIND s.seg.rawRing) 0 with seg.rawRing := 0, seg.rawMask := 0 } []

/-- CAL_CHECK (R103, R530): one rotation at 0.25 s dwell, from the reference on. -/
def execCalCheck (h : Hdr) (k : Nat) (s : State) : Out :=
  .next <| s.command 0x0204 rMaintainer h [(!s.segOk k, .range)]
    fun s =>
      let x := s.segOf k
      if x.cal.isSome || x.shadow.isSome then .refuse .busy
      else if !s.segLive k || !s.spareFree k then .refuse .noResource
      else .accept ((s.setSeg k { x with cal := some [] }).turnSpare k 0) k []

/-- SEG_STATUS (R103). -/
def execSegStatus (h : Hdr) (k : Nat) (s : State) : Out :=
  .next <| s.command 0x0205 rObserver h [(s.segArgBad k, .range)]
    fun s =>
      let l := s.segArg k
      ret s (s.words (l.map (fun k => 0x40100 + 4 * (k - 1)) ++ l.map (fun k => 0x40200 + 4 * (k - 1)) ++ [0x40030]))

/-- SPARE_ASSIGN (R103, R530): a 1 s shadow dwell of the spare on a position. -/
def execSpareAssign (h : Hdr) (k j : Nat) (s : State) : Out :=
  .next <| s.command 0x0206 rMaintainer h [(!s.segOk k || decide (j < 1) || decide (16 < j), .range)]
    fun s =>
      let x := s.segOf k
      if x.cal.isSome || x.shadow.isSome then .refuse .busy
      else if !s.segLive k || !s.spareFree k || s.sumFault k then .refuse .noResource
      else .accept ((s.setSeg k { x with shadow := some (j, true) }).turnSpare k j) k []

/-- SEG_RESET (R103, R530). -/
def execSegReset (h : Hdr) (k : Nat) (s : State) : Out :=
  .next <| s.command 0x0207 rMaintainer h [(!s.segOk k, .range)]
    fun s => if (s.segOf k).present then .done ((s.segReset k).clearWires k).gateTone [] else .refuse .noResource

/-! ### Joins (R95, R96, R100, R101) -/

/-- The replaced card's serial and the new one in a milestone record (R505). -/
def State.newSerial (s : State) (key kind slot serial : Nat) : State :=
  let old := Tbl.get 0 s.recorder.serials key
  let s1 : State := { s with recorder.serials := Tbl.put s.recorder.serials key serial }
  if old = 0 ∨ old = serial then s1
  else s1.detail true ([kind, slot] ++ leBytes 8 old ++ leBytes 8 serial) .ok true true

/-- A card with serial number `serial` stands in slot `k`: a blank card, or a segment card with its factory data showing latches `ov`,
`uv` (R1–R3, R58 kind 5, R100, R120, R505).  A segment card in a slot beyond the variant is not powered. -/
def State.cardIn (s : State) (k serial ov uv : Nat) (blank : Bool) (fac : CardFac) : State :=
  if k < 1 ∨ 26 < k then s
  else
    let s1 := (s.cardReset k).clearWires k
    let s2 := s1.setSeg k { present := true, blank := blank, fac := fac, join := if blank || !s.segOk k then 0 else 1 }
    let s3 := (s2.wr (F.SEG_CMP_OV_LATCH k) ov).wr (F.SEG_CMP_UV_LATCH k) uv
    if blank then s3.setSegState k segBLANK
    else if !s.segOk k then (s3.setSegState k segABSENT).detail true ([5, k] ++ leBytes 8 serial) .ok true
    else ((s3.newSerial (100 + k) 5 k serial).setSegState k segISOLATED).wrs [(F.PWR_RESET_CAUSE_KIND, 5), (F.PWR_RESET_CAUSE_DETAIL, 0)]

/-- CARD_PRESENT: with the bypass of the slot open, the new card opens the loop and the tone is lost (R125). -/
def execCardPresent (k serial ov uv : Nat) (blank : Bool) (fac : CardFac) (s : State) : Out :=
  let s1 := s.cardIn k serial ov uv blank fac
  .next (if s1.seg.armed && !s1.toneThrough && s.toneThrough then s1.toneLost else s1.gateTone)

/-- A card's delays from the round trips of its echo, in ns: half of what is left without its turnaround (R72). -/
def State.echoDelay (s : State) (k rt : Nat) : Nat := (rt - (s.segOf k).fac.turn) / 2

/-- Load the delays measured by echo, by slot; the echo codewords went in both directions (R72, R93). -/
def State.loadDelays (s : State) (d : List (Nat × (Nat × Nat))) : State :=
  d.foldl (fun s p =>
    if s.segOk p.1 then
      ({ s with seg.words := s.seg.words ++ [echoRequest p.1 1, echoReply p.1, echoRequest p.1 0, echoReply p.1] } : State).wrs
        [(F.LATH_DELAY_DELAY_A p.1, s.echoDelay p.1 p.2.1), (F.LATH_DELAY_DELAY_B p.1, s.echoDelay p.1 p.2.2)]
    else s) s

/-- Steps 2–5 of R100: island on, this card's delays measured and all others' anew, phase set, JOINING.  A card whose join failed tries
again only after SEG_RESET or reinsertion (R101). -/
def State.presentStable (s : State) (k : Nat) (trips : List (Nat × (Nat × Nat))) : State :=
  if !s.segOk k || !(s.segOf k).present || (s.segOf k).blank || (s.segOf k).join = 0 || 4 < (s.segOf k).join then s
  else
    let on := s.rd F.PWR_SEG_ON_ISLAND
    let s1 := s.wr F.PWR_SEG_ON_ISLAND (on ||| 2 ^ (k - 1))
    let s2 := (s1.pathsOff k).loadDelays trips
    let d := if s2.isOn (F.SEG_STATE_TIMING_DIR k) then s2.rd (F.LATH_DELAY_DELAY_B k) else s2.rd (F.LATH_DELAY_DELAY_A k)
    (s2.modSeg k fun x => { x with join := 5, phase := some d, refSeen := false }).setSegState k segJOINING

/-- CARD_PRESENT_STABLE (R100 steps 2–5, R72): `trips` gives, by slot, the echo's round trips in both directions in ns. -/
def execCardPresentStable (k : Nat) (trips : List (Nat × (Nat × Nat))) (s : State) : Out := .next (s.presentStable k trips).gateTone

/-- The first of the steps 6 and 8 of R100 that fails, 0 for none: Σ C1–C16 within ±10 mV of SUM and within ±100 mV of the shadow
monitor. -/
def JoinCheck.failed (c : JoinCheck) : Nat :=
  if !c.self then 6
  else if 10000 < (c.cells - c.sum).natAbs ∨ 100000 < (c.cells - 1000 * c.shadow).natAbs then 8
  else 0

/-- The spare's reading of the reference lies outside DRIFT_LIMIT: the spare has failed (R82). -/
def State.refJudge (s : State) (k : Nat) (dev : Rat) : State :=
  if ((10 * s.rd F.SEG_SPARE_CFG_DRIFT_LIMIT : Nat) : Rat) < |dev| then
    ((s.modSeg k fun x => { x with spareFailed := true, refSeen := true }).wrs
      [(F.SEG_STATE_SPARE_FAILED k, 1), (F.UC_CONV_FAILED k, 1)]).exhaust 0 k
  else s.modSeg k fun x => { x with refSeen := true }

/-- Steps 6–9 of R100 (R86, R101, R118, R297). -/
def State.joinDone (s : State) (k : Nat) (c : JoinCheck) (rel : List (Nat × Nat)) : State :=
  if !s.segOk k || !(s.segOf k).present || s.segLive k || (s.segOf k).join ≠ 5 then s
  else if JoinCheck.failed c ≠ 0 then s.joinFail k (JoinCheck.failed c)
  else
    let s1 := ((s.refJudge k ((c.ref - (s.segOf k).fac.ref : Int) : Rat)).turnSpare k 0)
    let s2 := (s1.firstFrame k).echoCheck k c.echo
    if s2.segList.all s2.segLive then s2.latchCheck rel else s2

/-- JOIN_CHECK_DONE (R86, R100 steps 6–9, R101, R118, R297): `rel` as for the latch check, made once every fitted card has sent its
first frame. -/
def execJoinCheckDone (k : Nat) (c : JoinCheck) (rel : List (Nat × Nat)) (s : State) : Out := .next (s.joinDone k c rel).gateTone

/-- PROVISIONAL_EXPIRY (R100 step 10). -/
def execProvisionalExpiry (k : Nat) (s : State) : Out :=
  .next <| if s.segOk k && s.segState k == segPROVISIONAL && (s.segOf k).refSeen then (s.modSeg k fun x => { x with led := 2 }).setSegState k segSERVICE else s

/-- BALANCING_HOLD_EXPIRY (R100 step 11, R136). -/
def execBalancingHoldExpiry (k : Nat) (s : State) : Out :=
  .next <| if s.segOk k then s.modSeg k fun x => { x with hold := false } else s

/-- SEG_CARD_FAULT (R58): a segment reset; the card rejoins. -/
def execSegCardFault (k : Nat) (s : State) : Out := .next <| if s.segOk k && (s.segOf k).present then (s.segReset k).gateTone else s

/-- CARD_LOST (R95, R287): declared LOST after 4 instants without a frame. -/
def execCardLost (k : Nat) (s : State) : Out :=
  .next <|
    if !s.segOk k || !s.segLive k || decide ((s.segOf k).missed < 4) then s
    else
      let s1 := (s.modSeg k fun x => { x with join := 0, frame := none, got := false }).setSegState k segLOST
      (s1.causeCardLost k).flag Fl.SEG_EVENT_CARD_LOST { system := true, idx := k, stfP := true }

/-- CARD_ISOLATED (R96): the card hears no marker for 4 periods; it stops frames and balancing. -/
def execCardIsolated (k : Nat) (s : State) : Out :=
  .next <| if s.segOk k then ((s.modSeg k fun x => { x with cut := true, got := false }).pathsOff k).gateTone else s

/-! ### The ring (R72, R97, R98) -/

/-- Each card takes its timing from direction A unless it stands beyond a break of A or A is degraded. -/
def State.retime (s : State) : State :=
  let hop := s.rd F.LATH_STATUS_BREAK_HOP
  s.segList.foldl (fun s k =>
    let lostA := !s.isOn F.LATH_STATUS_A_WHOLE && decide (hop < k)
    let lostB := !s.isOn F.LATH_STATUS_B_WHOLE && decide (k ≤ hop)
    let b := if lostA then true else if lostB then false else s.isOn F.LATH_STATUS_A_DEGRADED && !s.isOn F.LATH_STATUS_B_DEGRADED
    s.wrB (F.SEG_STATE_TIMING_DIR k) b) s

/-- RING_BREAK (R97): markers fail to return on the directions named; the break lies after hop `hop`. -/
def execRingBreak (hop : Nat) (aLost bLost : Bool) (s : State) : Out :=
  let s1 := s.wrs [(F.LATH_STATUS_A_WHOLE, if aLost then 0 else s.rd F.LATH_STATUS_A_WHOLE),
    (F.LATH_STATUS_B_WHOLE, if bLost then 0 else s.rd F.LATH_STATUS_B_WHOLE), (F.LATH_STATUS_BREAK_HOP, hop)]
  let s2 : State := { s1.retime with seg.hops := s.seg.hops ||| 2 ^ hop }
  let s3 := s2.flag Fl.SEG_EVENT_RING_BREAK { system := true, stfP := true, detail := [hop] }
  .next ((s3.spareTook 5 (if aLost then 0 else 1) (if aLost then 1 else 0)).exhaust 5)

/-- RING_WHOLE (R97, R95): delays re-measured, cards back on direction A; a LOST card heard again is commanded back to
step 4 of R100. -/
def execRingWhole (trips : List (Nat × (Nat × Nat))) (s : State) : Out :=
  let s1 := s.wrs [(F.LATH_STATUS_A_WHOLE, 1), (F.LATH_STATUS_B_WHOLE, 1), (F.LATH_STATUS_BREAK_HOP, 0x3F)]
  let s2 : State := { (s1.loadDelays trips).retime with seg.hops := 0 }
  let s3 := s2.flag Fl.SEG_EVENT_RING_WHOLE { stfP := true }
  let back (s : State) (k : Nat) : State :=
    if s.segState k == segLOST && (s.segOf k).present then (s.modSeg k fun x => { x with join := 4, cut := false, led := 0 }).pathsOff k else s
  let s4 := s3.segList.foldl back s3
  .next <|
    if s4.isOn F.LATH_STATUS_A_DEGRADED || s4.isOn F.LATH_STATUS_B_DEGRADED then s4.sparing 5 5 0 0 else s4.restorePool 5 0

/-- LATH_DIRECTION_DEGRADED (R98): direction A, or B where `b`. -/
def execLathDirectionDegraded (b : Bool) (s : State) : Out :=
  let s1 := (s.wr (if b then F.LATH_STATUS_B_DEGRADED else F.LATH_STATUS_A_DEGRADED) 1).retime
  .next ((s1.spareTook 5 (if b then 1 else 0) (if b then 0 else 1)).exhaust 5)

/-- ECHO_MEASURE (R72): every 1 s; a changed delay goes into the card's marker compensation, and the phase set at the join stays. -/
def execEchoMeasure (trips : List (Nat × (Nat × Nat))) (s : State) : Out := .next (s.loadDelays trips)

/-! ### The spare converter (R82–R84) -/

/-- The position after one in the rotation. -/
def nextRot (p : Nat) : Nat := if p = 16 then 0 else p + 1

/-- SUM's accuracy in µV at a card temperature in °C (R87). -/
def sumAccuracy (die : Int) : Nat := if 15 ≤ die ∧ die ≤ 35 then 8000 else 16000

/-- The mean of a sum of results over their number, none without a result. -/
def meanOf (sum : Int) (n : Nat) : Option Rat := if n = 0 then none else some ((sum : Rat) / n)

/-- The shadow dwell agrees: the spare lies within SUM's accuracy of what SUM leaves for the cell (R83). -/
def State.shadowAgrees (s : State) (k : Nat) : Bool :=
  match meanOf (s.segOf k).shSum (s.segOf k).shN with
  | some m => decide (|m| ≤ (sumAccuracy (s.rdI (F.SEG_STATE_DIE k)) : Rat))
  | none => false

/-- A 1 s shadow dwell of the spare ends: by a command, or after a converter failed its self-test (R83, R103, R504). -/
def State.shadowEnd (s : State) (k j : Nat) (byCommand : Bool) : State :=
  if s.shadowAgrees k then
    if byCommand then ((s.substitute k j).finish 0x0206 k .ok).finish 0x0B04 k .ok
    else (s.modSeg k fun x => { x with shadow := none }).converterFails k j
  else
    let s1 := (s.modSeg k fun x => { x with shadow := none }).sparing 0 3 (convRes k j) (convRes k 0)
    (if byCommand then (s1.finish 0x0206 k .internal).finish 0x0B04 k .internal else s1).turnSpare k (nextRot j)

/-- A dwell of the rotation ends on a cell position: two visits running beyond DRIFT_LIMIT are a drift (R82). -/
def State.dwellCell (s : State) (k : Nat) (dev : Option Rat) : State :=
  let x := s.segOf k
  match dev with
  | none => s.turnSpare k (nextRot x.rot)
  | some m =>
    let n := if ((10 * s.rd F.SEG_SPARE_CFG_DRIFT_LIMIT : Nat) : Rat) < |m| then Tbl.get 0 x.drift x.rot + 1 else 0
    let v := s.rd (F.UC_CONV_DRIFT_VISITS k)
    let s1 := (s.setSeg k { x with drift := Tbl.put x.drift x.rot n }).wr (F.UC_CONV_DRIFT_VISITS k)
      (if n = 0 then v else min 0xFFFF (v + 1))
    let s2 := if 2 ≤ n then s1.converterFails k x.rot else s1
    if (s2.segOf k).subst = 0 then s2.turnSpare k (nextRot x.rot) else s2

/-- SPARE_DWELL_END (R82, R83, R103): the dwell on the present position ends, with the means over the frames of the dwell; `fail` names a
converter whose self-test failed, 0 none. -/
def execSpareDwellEnd (k fail : Nat) (s : State) : Out :=
  .next <|
    let x := s.segOf k
    let dev := meanOf x.dwSum x.dwN
    if !s.segOk k || !s.segLive k then s
    else if !s.spareFree k then
      (if 1 ≤ fail ∧ fail ≤ 16 ∧ fail ≠ x.subst then (s.converterFails k fail).gateTone else s)
    else match x.shadow, x.cal with
      | some (j, byCommand), _ => (s.shadowEnd k j byCommand).gateTone
      | none, some l =>
        let l1 := l ++ [match dev with | some m => ratRound m | none => -2147483648]
        if l1.length = 17 then ((s.setSeg k { x with cal := none }).finish 0x0204 k .ok l1).turnSpare k 0
        else (s.setSeg k { x with cal := some l1 }).turnSpare k (nextRot x.rot)
      | none, none =>
        if 1 ≤ fail ∧ fail ≤ 16 ∧ s.sumFault k = false then (s.setSeg k { x with shadow := some (fail, false) }).turnSpare k fail
        else if x.rot = 0 then
          let s1 := match dev with
            | some m => s.refJudge k m
            | none => s
          if (s1.segOf k).spareFailed then s1 else s1.turnSpare k 1
        else (s.dwellCell k dev).gateTone

end Sys2Proof.Machine
end

