-- ==== Sys2Proof/Machine/Sense.lean ====
section
/-! DEFINITION. Sense Wire Integrity, Comparators and the Fault Loop (R106–R130). -/

namespace Sys2Proof.Machine

/-! ### Commands (R130) -/

/-- WIRE_STATUS (R130): wire and latch words, and the last block's a[1]–a[16], as and d. -/
def execWireStatus (h : Hdr) (k : Nat) (s : State) : Out :=
  .next <| s.command 0x0208 rObserver h [(s.segArgBad k, .range)]
    fun s =>
      let one (k : Nat) : List Int :=
        s.words [0x40300 + 4 * (k - 1), 0x40400 + 4 * (k - 1)] ++ (numbersFrom 0 18).map fun i => (s.segOf k).amps.getD i 0
      ret s ((s.segArg k).flatMap one)

/-- WIRE_FAULT_CLEAR (R116): only when the last DETECT_BLOCKS blocks since the join carried no verdict. -/
def execWireFaultClear (h : Hdr) (k : Nat) (s : State) : Out :=
  .next <| s.command 0x0209 rMaintainer h [(!s.segOk k, .range)]
    fun s =>
      let x := s.segOf k
      if x.clean < s.rd F.SEG_WIRE_PARAM_DETECT_BLOCKS then .refuse .safety
      else
        let held := s.isOn (F.SEG_WIRE_SENSE_LOSS k)
        let s1 := s.setSeg k { x with ind := if held then x.ind else 0, indSum := held && x.indSum }
        .done (s1.wrs [(F.SEG_WIRE_WIRE_MAP k, 0), (F.SEG_WIRE_S0 k, 0), (F.SEG_WIRE_S16 k, 0), (F.SEG_WIRE_PAIR_MODE k, 0),
          (F.SEG_WIRE_INTERMITTENT k, 0)]) []

/-! ### Wire test (R109–R116) -/

/-- Positions of the amplitudes present, as a list (R110). -/
def present (th : Nat) (a : List Int) : List Nat :=
  (numbersFrom 1 16).filter fun j => decide (th ≤ (a.getD (j - 1) 0).natAbs)

/-- The verdict of a block and what it marks (R110): positions in bits 0–15, SUM in bit 16; amplitudes a[1]–a[16], as and d in µV. -/
def verdictOf (th mm : Nat) (a : List Int) (as d : Int) : Verdict × Nat :=
  let at_ (j : Nat) : Int := a.getD (j - 1) 0
  let agrees := decide (d.natAbs ≤ mm)
  let sumIn := decide (th ≤ as.natAbs)
  let mask (l : List Nat) : Nat := (l.map fun j => 2 ^ (j - 1)).sum + if sumIn then 65536 else 0
  match present th a with
  | [] =>
    if !sumIn then (.none, 0)
    else if decide (d < 0) && !agrees then (if as < 0 then (.s0, 0) else (.s16, 0))
    else (.loss, mask [])
  | [j] =>
    if !sumIn && !agrees && decide (0 < d) && j == 1 && decide (at_ 1 < 0) then (.wire 0, 1)
    else if !sumIn && !agrees && decide (0 < d) && j == 16 && decide (0 < at_ 16) then (.wire 16, 2 ^ 15)
    else (.loss, mask [j])
  | [j, k] =>
    if !sumIn && agrees && decide (0 < at_ j) && decide (at_ k < 0) then
      if k = j + 1 then (.wire j, mask [j, k])
      else if k = j + 2 then (.loss, mask [j, j + 1, k]) else (.loss, mask [j, k])
    else (.loss, mask [j, k])
  | l => (.loss, mask l)

/-- A verdict of a cell or sum wire takes effect (R112, R114); the block's 18 amplitudes fill two records. -/
def State.wireFault (s : State) (k : Nat) (v : Verdict) (mask : Nat) : State :=
  let m := s.rd (F.SEG_WIRE_WIRE_MAP k)
  let note (code : Nat) : Note := { system := true, idx := k, stfP := true, detail := [code] }
  let nine (l : List Int) : List Byte := (l.take 9).flatMap fun a => leBytes 4 (satS 32 a)
  let amps (s : State) : State := (s.detail true (nine (s.segOf k).amps) .ok true).detail true (nine ((s.segOf k).amps.drop 9)) .ok true
  match v with
  | .none => s
  | .wire w =>
    if m / 2 ^ w % 2 = 1 then s
    else
      let s1 := (s.wr (F.SEG_WIRE_WIRE_MAP k) (m + 2 ^ w)).modSeg k fun x => { x with ind := x.ind ||| mask }
      let s2 := (amps (s1.flag Fl.SEG_SENSE_EVENT_WIRE_FAULT (note w))).wr (F.SEG_WIRE_PAIR_MODE k) 1
      if m ≠ 0 ∨ ((w = 0 ∨ w = 16) ∧ s2.sumFault k = true) then s2.senseLoss k mask else s2
  | .s0 | .s16 =>
    let f := if v = .s0 then F.SEG_WIRE_S0 k else F.SEG_WIRE_S16 k
    if s.isOn f then s
    else
      let s1 := (s.wr f 1).modSeg k fun x => { x with indSum := true }
      let s2 := amps (s1.flag Fl.SEG_SENSE_EVENT_SUM_WIRE_FAULT (note (if v = .s0 then 17 else 18)))
      if m % 2 = 1 ∨ m / 65536 % 2 = 1 ∨ (s2.segOf k).derived ≠ 0 then
        s2.senseLoss k (if (s2.segOf k).derived = 0 then 0 else 2 ^ ((s2.segOf k).derived - 1)) else s2
  | .loss => s.senseLoss k mask

/-- The signature of a latched fault, found in the block before, disappears with a block of verdict `v` (R116). -/
def State.intermittent (s : State) (k : Nat) (v : Verdict) : Bool :=
  let last := (s.segOf k).verdict
  let latched := match last with
    | .wire w => s.rd (F.SEG_WIRE_WIRE_MAP k) / 2 ^ w % 2 == 1
    | .s0 => s.isOn (F.SEG_WIRE_S0 k)
    | .s16 => s.isOn (F.SEG_WIRE_S16 k)
    | .none | .loss => false
  latched && v != last

/-- A whole block of a card is judged: amplitudes, the count of its verdict, an intermittent signature, and the verdict that takes
effect (R110–R116). -/
def State.wireBlock (s : State) (k : Nat) (b : Blk) : State :=
  let x := s.segOf k
  let l := b.amps
  let vm := verdictOf (1000 * s.rd F.SEG_WIRE_PARAM_AMP_THRESH) (2000 * s.rd F.SEG_WIRE_PARAM_SUM_MISMATCH) (l.take 16) (l.getD 16 0)
    (l.getD 17 0)
  let n := if vm.1 = x.verdict then x.vcount + 1 else 1
  let s1 := s.setSeg k { x with
    blkDone := none, amps := l, verdict := vm.1, vcount := n, clean := if vm.1 = .none then x.clean + 1 else 0 }
  let s2 :=
    if s.intermittent k vm.1 then
      (s1.wr (F.SEG_WIRE_INTERMITTENT k) 1).flag Fl.SEG_SENSE_EVENT_WIRE_INTERMITTENT { idx := k, stfP := true }
    else s1
  if s.rd F.SEG_WIRE_PARAM_DETECT_BLOCKS ≤ n then s2.wireFault k vm.1 vm.2 else s2

/-- WIRE_BLOCK_END (R109–R117): the amplitudes come from the results that the card summed over the block, and a block without all of
its instants is discarded; `echo` is the comparator configuration in the card's next response (R113). -/
def execWireBlockEnd (k : Nat) (echo : CmpEcho) (s : State) : Out :=
  .next <|
    match (s.segOf k).blkDone with
    | none => s
    | some b =>
      if !s.segOk k || !((s.segOf k).join == 5 || s.segLive k) then s
      else ((s.wireBlock k b).echoCheck k echo).gateTone

/-! ### Comparators (R118–R122) -/

/-- The bit of a comparator in a 32-bit map: OV low, UV high. -/
def cmpBit (j : Nat) (uv : Bool) : Nat := j - 1 + if uv then 16 else 0

def posOk (j : Nat) : Bool := decide (1 ≤ j) && decide (j ≤ 16)

/-- The comparator of a position works (R113, R118). -/
def State.cmpWorks (s : State) (k j : Nat) (uv : Bool) : Bool :=
  s.segOk k && (s.segOf k).present && !(s.segOf k).blank && posOk j && (s.cmpThreshold k j uv).isSome

/-- Take a comparator out of the counts. -/
def dropCount (l : List (Nat × Nat)) (i : Nat) : List (Nat × Nat) := l.filter fun p => p.1 != i

/-- COMPARATOR_ASSERT (R119): the output of a comparator asserts at `us` on the card's oscillator, after `gap` µs without; a count that
runs goes on over a gap below 50 µs. -/
def execComparatorAssert (k j : Nat) (uv : Bool) (us gap : Nat) (s : State) : Out :=
  .next <|
    if !s.cmpWorks k j uv then s
    else
      let x := s.segOf k
      let i := cmpBit j uv
      if (x.counts.any fun p => p.1 == i) && decide (gap < 50) then s
      else s.setSeg k { x with counts := dropCount x.counts i ++ [(i, us)] }

/-- CMP_TRIP (R119–R121, R123): at `us` on the card's oscillator the count has run for the deglitch time; the latch is set and the card
gates the tone off. -/
def execCmpTrip (k j : Nat) (uv : Bool) (us : Nat) (s : State) : Out :=
  .next <|
    let x := s.segOf k
    let i := cmpBit j uv
    match (if s.cmpWorks k j uv then x.counts.find? fun p => p.1 == i else none) with
    | none => s
    | some p =>
      if us < p.2 + 1000 * s.rd F.SEG_CMP_PARAM_DEGLITCH_MS then s
      else
        let f := if uv then F.SEG_CMP_UV_LATCH k else F.SEG_CMP_OV_LATCH k
        let s1 := ((s.setSeg k { x with counts := dropCount x.counts i }).wr f (s.rd f ||| 2 ^ (j - 1))).gateTone
        s1.flag Fl.SEG_SENSE_EVENT_CMP_TRIP { idx := k, stfP := true, detail := [j, if uv then 1 else 0] }

/-- What the comparators of a position see, in µV: the cell's last result, or half the pair's in pair mode (R113, R122). -/
def State.cmpSees (s : State) (k j : Nat) : Option Int :=
  let v (i : Nat) : Option Int := s.frameCell k i
  let w := (s.cmpConfig k).wire
  let low := if w = 0 then 1 else if w = 16 then 15 else w
  if w < 31 ∧ j = low then (match v low, v (low + 1) with | some a, some b => some ((a + b) / 2) | _, _ => none) else v j

/-- The DAC code of a comparator's test: 10 codes below what it sees for OV, 10 above for UV; none beyond the DAC (R122). -/
def State.testCode (s : State) (k j : Nat) (uv : Bool) : Option Nat :=
  match s.cmpSees k j with
  | some v =>
    let c := (v - 2000000) / 10000 + if uv then 10 else -10
    if 0 ≤ c ∧ c ≤ 255 then some c.toNat else none
  | none => none

/-- One comparator's test runs: it works, its code lies in the DAC's range and the card is on aux (R118, R122). -/
def State.testRuns (s : State) (k j : Nat) (uv : Bool) : Bool :=
  s.cmpWorks k j uv && s.onAux k && (s.testCode k j uv).isSome

/-- A count that runs is frozen for the 200 µs of the test (R122). -/
def freeze (l : List (Nat × Nat)) (i : Nat) : List (Nat × Nat) := l.map fun p => if p.1 = i then (p.1, p.2 + 200) else p

/-- COMPARATOR_TEST (R122): the comparators of the next position are tested; `ov` and `uv` give the µs from the test code to the
assertion and from the restored code to the release, more than 100 of either being a self-test fault. -/
def execComparatorTest (k : Nat) (ov uv : Nat × Nat) (s : State) : Out :=
  .next <|
    if !s.segOk k || !(s.segOf k).present || (s.segOf k).blank || !s.onAux k then s
    else
      let x := s.segOf k
      let j := x.testPos
      let ro := s.testRuns k j false
      let ru := s.testRuns k j true
      let bad (t : Nat × Nat) : Bool := decide (100 < t.1) || decide (100 < t.2)
      let c1 := if ro then freeze x.counts (cmpBit j false) else x.counts
      let c2 := if ru then freeze c1 (cmpBit j true) else c1
      let fail := (ro && bad ov) || (ru && bad uv)
      let s1 := s.setSeg k { x with testPos := if 16 ≤ j then 1 else j + 1, counts := c2, selftest := x.selftest || fail }
      if fail then (s1.gateTone.flag Fl.SEG_SENSE_EVENT_CMP_TEST_FAIL { idx := k, stfP := true, detail := [j] }).setReady else s1

/-- KEEPALIVE_LOW (R123, R129): below 16 V on keep-alive the card stops passing the tone; reported once the module is awake. -/
def execKeepaliveLow (k : Nat) (s : State) : Out :=
  .next <|
    if !s.segOk k || s.onAux k then s
    else
      let s1 := (s.modSeg k fun x => { x with keepLow := true }).gateTone
      if s1.mode = mSHELF ∨ s1.pwr.phase ≠ .up then s1
      else s1.flag Fl.SEG_SENSE_EVENT_KEEPALIVE_LOW { idx := k, stfP := true }

/-- The keep-alive shortfalls found while the module slept are reported (R129). -/
def State.reportKeepLow (s : State) : State :=
  s.segList.foldl (fun s k =>
    if (s.segOf k).keepLow then
      (s.modSeg k fun x => { x with keepLow := false }).flag Fl.SEG_SENSE_EVENT_KEEPALIVE_LOW { idx := k, stfP := true }
    else s) s

/-! ### The fault loop (R123–R126) -/

/-- TONE_ARMED (R124): the receiver has counted valid cycles for 1 ms, which it can only where every slot passes the tone. -/
def execToneArmed (s : State) : Out :=
  .next (if s.toneThrough then { s.wr F.SEG_TONE_TONE_PRESENT 1 with seg.armed := true, seg.loopOpen := false } else s)

/-- TONE_LOST (R124): 300 µs without a valid cycle while armed; where every slot passes the tone, the loop itself is open. -/
def execToneLost (s : State) : Out :=
  .next (if s.seg.armed then ({ s with seg.loopOpen := s.toneThrough } : State).toneLost else s)

/-- TONE_ARMING_DEADLINE (R124, R297): the latch check of a wake, then the tone lost if the receiver has not armed. -/
def execToneArmingDeadline (rel : List (Nat × Nat)) (s : State) : Out :=
  .next <|
    if s.seg.deadline then s
    else
      let s1 := (({ s with seg.deadline := true } : State).latchCheck rel).gateTone
      if s1.seg.armed then s1 else s1.toneLost

end Sys2Proof.Machine
end

