-- ==== Sys2Proof/Machine/Reset.lean ====
section
/-! DEFINITION. Resets and starts (R56–R60, R65, R360, R361, R398, R434, R438, R447, R475–R482, R516): PRIMER's choice of the
image, what each reset kind of R58 resets, and the end of the start-up in a mode. -/

namespace Sys2Proof.Machine

/-! ### Switch records and settings copies (R472, R475, R479) -/

/-- A new record goes to the other slot with the next generation; its mark is written last. -/
def State.writeSwitch (s : State) (r : SwitchRec) : State :=
  let r1 := { r with gen := s.switch.gen + 1, valid := true }
  if s.switchIs0 then { s with upd.sw1 := r1 } else { s with upd.sw0 := r1 }

/-- The first 16 bytes of a digest, as a number. -/
def digest16 (d : Nat) : Nat := d % 2 ^ 128

/-- A record that boots a bank, with STATE, TRIAL_LEFT and the settings copy of its image. -/
def State.switchFor (s : State) (bank state left copy : Nat) : SwitchRec :=
  let i := s.ctlBank bank
  let o := s.ctlBank (1 - bank)
  { bank := bank, state := state, left := left, copy := copy, version := i.version, schema := i.schema
    fbVersion := if o.valid then o.version else 0, fbSchema := if o.valid then o.schema else 0, digest := digest16 i.digest
    fbDigest := if o.valid then digest16 o.digest else 0 }

/-- The settings copy that the running image owns, as data. -/
def State.packCopy (s : State) : SetCopy :=
  { valid := true, schema := s.rd F.UPD_SCHEMA_RUNNING, fields := s.settings, ocv := s.est.ocv, chem := s.est.chem
    loop := s.thm.loop, map := s.thm.map, tables := s.mot.tables }

/-- Another copy comes into force: its fields stand in the registers, fields it does not hold at their Reset value. -/
def State.useCopy (s : State) (c : SetCopy) : State :=
  { s with regs := Tbl.putAll (s.regs.filter fun p => !Tbl.has s.settings p.1) c.fields, settings := c.fields
           est.ocv := c.ocv, est.chem := c.chem, thm.loop := c.loop, thm.map := c.map, mot.tables := c.tables }

/-- The image owns copy `n` from now on. -/
def State.takeCopy (s : State) (n : Nat) : State :=
  if s.rd F.UPD_STATUS_SETTINGS_COPY = n then s
  else (({ s with upd.other := s.packCopy } : State).useCopy s.upd.other).wr F.UPD_STATUS_SETTINGS_COPY n

/-- The UPD registers show the switch records and the banks (R463, R475). -/
def State.updShow (s : State) : State :=
  let r := s.switch
  let i := s.ctlBank r.bank
  let o := s.ctlBank (1 - r.bank)
  s.wrs [(F.UPD_STATUS_ACTIVE_BANK, r.bank), (F.UPD_STATUS_IMAGE_STATE, r.state), (F.UPD_STATUS_TRIAL_LEFT, r.left),
    (F.UPD_STATUS_SETTINGS_COPY, r.copy), (F.UPD_STATUS_SAFE_STATE, s.upd.safeSw.state), (F.UPD_VERSION_RUN_VERSION, i.version),
    (F.UPD_VERSION_FALLBACK_VERSION, if o.valid then o.version else 0), (F.UPD_SCHEMA_RUNNING, i.schema)]

/-! ### PRIMER (R56 step 6, R57, R479, R481, R482) -/

/-- What PRIMER's start leaves: an image was found; it fell back to the other bank. -/
structure Primed where
  found : Bool
  fell : Bool
  deriving DecidableEq, Repr

/-- The switch record at a start (R479): the state and whether it fell back. -/
def State.bootRecord (s : State) : State × Bool :=
  let r := s.switch
  if r.state ≠ 1 then (s, false)
  else if r.left = 0 then (s.writeSwitch (s.switchFor (1 - r.bank) 2 0 (1 - r.copy)), true)
  else (s.writeSwitch { r with left := r.left - 1 }, false)

/-- The image in a bank verifies. -/
def State.verifies (s : State) (b : Boot) (k : Nat) : Bool := (s.ctlBank k).valid && b.banks / 2 ^ k % 2 == 1

/-- Verify the bank to boot, else the other one (R56 step 6, R57, R485). -/
def State.bootVerify (s : State) (b : Boot) : State × Primed :=
  let r := s.switch
  if s.verifies b r.bank then (s, { found := true, fell := false })
  else if s.verifies b (1 - r.bank) then
    (s.writeSwitch (s.switchFor (1 - r.bank) 2 0 (if r.state = 1 then 1 - r.copy else r.copy)), { found := true, fell := true })
  else (s, { found := false, fell := false })

/-- The settings of the image that boots (R472, R481, R485): its own copy, one it migrates, or defaults.  The answer is false
where the first start of an image cannot migrate. -/
def State.bootSettings (s : State) (b : Boot) : State × Bool :=
  let r := s.switch
  let i := s.ctlBank r.bank
  let owned := s.rd F.UPD_SCHEMA_RUNNING
  let can := decide (i.minSchema ≤ owned) && decide (owned ≤ i.schema) && b.migrates
  if r.copy = s.rd F.UPD_STATUS_SETTINGS_COPY then
    (if owned = i.schema ∨ can = true then s else s.useCopy {}, true)
  else if s.upd.other.valid then (s.takeCopy r.copy, true)
  else if can then (({ s with upd.other := s.packCopy } : State).wr F.UPD_STATUS_SETTINGS_COPY r.copy, true)
  else (s, false)

/-- Steps 5–7 of R56 up to the settings: the record, the verification, the settings; an image that cannot migrate at its first
start hands back to the other bank (R481). -/
def State.primer (s : State) (b : Boot) : State × Primed :=
  let r := s.bootRecord
  let v := r.1.bootVerify b
  if !v.2.found then (v.1, v.2)
  else
    let m := v.1.bootSettings b
    if m.2 then (m.1.updShow, { found := true, fell := r.2 || v.2.fell })
    else
      let k := 1 - m.1.switch.bank
      let s1 := m.1.writeSwitch (m.1.switchFor k 2 0 (m.1.rd F.UPD_STATUS_SETTINGS_COPY))
      if s1.verifies b k then ((s1.bootSettings b).1.updShow, { found := true, fell := r.2 || v.2.fell })
      else (s1, { found := false, fell := false })

/-- STF-P reads its own switch record at each of its starts (R483, R479). -/
def State.safeBoot (s : State) : State :=
  let r := s.upd.safeSw
  if r.state ≠ 1 then s
  else if r.left = 0 then { s with upd.safeSw := { r with gen := r.gen + 1, bank := 1 - r.bank, state := 2, left := 0 } }
  else { s with upd.safeSw := { r with gen := r.gen + 1, left := r.left - 1 } }

/-- The next start of STF-P falls back (R479, R483). -/
def State.safeFell (s : State) : Bool := s.upd.safeSw.state == 1 && s.upd.safeSw.left == 0

/-- What the controller shows of the image that STF-P has started. -/
def State.safeShow (s : State) (fell : Bool) : State :=
  let s1 := s.wr F.UPD_STATUS_SAFE_STATE s.upd.safeSw.state
  let s2 := if s1.rd F.UPD_STATUS_STATE = 6 ∧ s1.switch.state ≠ 1 ∧ s1.upd.safeSw.state ≠ 1 then
    s1.wr F.UPD_STATUS_STATE (if s1.upd.pkg.isSome then 4 else 0) else s1
  if fell && s2.pwr.ctl then s2.flag Fl.UPD_EVENT_FALLBACK {} else s2

/-- The state of the update after a loss or reset at each stage (R482). -/
def State.updReset (s : State) : State :=
  let st := s.rd F.UPD_STATUS_STATE
  let pkg := s.upd.pkg.isSome
  let st1 := match st with
    | 3 => 2
    | 5 | 7 | 8 => 4
    | n => n
  let trial := s.switch.state == 1 || s.upd.safeSw.state == 1
  let st2 := if trial then 6 else if st1 = 6 then (if pkg then 4 else 0) else st1
  ({ s with upd.step := 0, upd.resident := false, upd.oldOps := [], upd.card := none } : State).wrs
    [(F.UPD_STATUS_STATE, st2), (F.UPD_PROGRESS_PERMILLE, 0), (F.UPD_PROGRESS_SEG_SLOT, 0)]

/-! ### The controller card (R58 kinds 1–4, R516) -/

/-- A flag stands on another card than the controller card: SEG/LATH and CIM on the safety card, MOT on the motion card. -/
def Flag.elsewhere (f : Flag) : Bool := [0x4, 0x6, 0xB].contains (f.bit.addr / 65536)

/-- Every event flag and event counter of the controller's blocks is cleared (R35, R516). -/
def State.clearEvents (s : State) : State :=
  (flagTable.filter fun f => !f.elsewhere).foldl (fun s f => (s.wr f.bit 0).wr f.cnt 0) s

/-- The flags and counters of the motion card start anew with it (R35, R516). -/
def State.clearMot (s : State) : State :=
  (flagTable.filter fun f => f.bit.addr / 65536 == 0xB).foldl (fun s f => (s.wr f.bit 0).wr f.cnt 0) s

/-- The fields of blocks with kept contents that are not kept in settings return to their Reset values; THM writes the link-loss
positions anew (R343). -/
def State.resetFields (s : State) : State :=
  s.wrs [(F.PWR_LAT_TOL_TOL_US, 0), (F.SEG_AVG_CFG_N_M1, 15), (F.SEG_SPARE_CFG_DWELL, 4), (F.SEG_SPARE_CFG_DRIFT_LIMIT, 30),
    (F.CIM_ISO_CTRL_ENABLE, 1), (F.CIM_ISO_CTRL_OPEN_ON_ALARM, 0), (F.CIM_ISO_CTRL_BANK_COORD, 1), (F.CIM_ISO_CTRL_MAX_HALF_S, 20),
    (F.MOT_LINKLOSS_POS 0, s.rd F.THM_VALVE_POS_LO), (F.MOT_LINKLOSS_POS 1, 10000), (F.MOT_LINKLOSS_ACTION 0, 1),
    (F.MOT_LINKLOSS_ACTION 1, 1), (F.REC_CTRL_READ, 0), (F.REC_CURSOR_AREA, 0), (F.REC_CURSOR_POS_VALUE, 0)]

/-- The registers of the controller's blocks; the strap of the bank position and the bus switches of the sensor buses are
hardware's. -/
def State.resetWindows (s : State) : State :=
  let pos := [(F.BANK_CFG_POSITION, s.rd F.BANK_CFG_POSITION), (F.BANK_CFG_MASTER, s.rd F.BANK_CFG_MASTER)]
  let br := [0, 1].flatMap fun c => [(F.SB_BRANCH_ISOLATED c, s.rd (F.SB_BRANCH_ISOLATED c)), (F.SB_BRANCH_OPEN c, s.rd (F.SB_BRANCH_OPEN c))]
  let s1 := [(0x20000, 0x40000), (0x50000, 0x50400), (0x70000, 0x90000), (0xA0000, 0xB0000), (0xC0000, 0xF0000), (0x130000, 0x140000)].foldl
    (fun s w => s.resetRegs w.1 w.2) s
  (s1.wrs (pos ++ br)).clearEvents.resetFields

/-- TIME after a controller reset (R361): corrected time agrees with the ring master's timeline. -/
def State.timeAdopt (old s : State) : State :=
  let hold := old.time.lockHeld
  let rate : Int := if !hold then 0 else if old.timeState = tLOCKED then old.meanRate else old.rdI F.TIME_RATE_VALUE
  let c := old.time.count
  let s1 := (s.wrI F.TIME_RATE_VALUE rate).wrs [(F.TIME_STATUS_STATE, if hold then tHOLDOVER else tFREE),
    (F.TIME_STATUS_TAI_VALID, old.rd F.TIME_STATUS_TAI_VALID)]
  let tb : TimeState := { count := c, lockHeld := hold, lastLock := old.time.lastLock, rates := old.time.rates, latA := old.time.latA, latB := old.time.latB }
  let t0 : State := { s1 with time := tb }
  { t0 with time.offset := (s.plumbIdx : Int) * 250000 * 4294967296 - t0.timeAt c }

/-- TIME after a power-on or a wake (R360): FREE, OFFSET 0, the PLUMB index at 0. -/
def State.timeFresh (s : State) : State := ({ s with time := { latA := s.time.latA, latB := s.time.latB } } : State).wr64 F.SEG_PLUMB_IDX_LO_IDX_LO F.SEG_PLUMB_IDX_HI_IDX_HI 0

/-- What the firmware holds of a segment card is lost; the card's own state stays. -/
def Seg.forget (x : Seg) : Seg := { x with got := false, cal := none, shadow := none, taken := [], avg := [] }

/-- The firmware's state in RAM is lost (R398, R434, R441, R150, R204, R219). -/
def State.forget (s : State) : State :=
  { s with
    latches := [], hrt := {}, dsp := {}, bank := {}
    est := { ocv := s.est.ocv, chem := s.est.chem, slotA := s.est.slotA, slotB := s.est.slotB, mirror := s.est.mirror, lastWrite := s.time.count, prev := s.cim.charge }
    can := [0, 1].map fun c => (c, { integrating := s.isOn (F.CAN_CFG_ENABLE c) })
    mbx := {}
    thm := { loop := s.thm.loop, map := s.thm.map, shut := s.thm.shut, heldOff := s.thm.heldOff, stuck := s.thm.stuck
             restartAt := s.thm.restartAt, peak := s.thm.peak }
    mot.link := []
    seg := { s.seg with segs := s.seg.segs.map (fun p => (p.1, p.2.forget)), winStart := s.plumbIdx + 1, winLen := 16, partialWin := true, winOn := false
                        lastLen := 0, due := 0, rawRing := 0, rawMask := 0 }
    bal := { s.bal with campaign := none, want := [], lost := s.bal.lost || s.bal.campaign.isSome }
    sec.service := none, sec.claiming := false
    recorder := { s.recorder with coreShadow := none, coreAgreed := false, relocWait := s.recorder.relocWait.filter (fun j => j.1 != 1), prepared := [] }
    pwr := { s.pwr with trans := none, idle := false, dropping := false, ctl := true } }

/-- EST at a start (R238): the slot that stands, or none. -/
def State.learnAtStart (s : State) : State :=
  match s.newest with
  | some (k, r) => s.wrs [(F.EST_STATUS_SLOT, k), (F.EST_LEARN_GEN_GENERATION, r.gen)]
  | none => (s.wr F.EST_STATUS_LEARN_DEFAULT 1).flag Fl.EST_EVENT_LEARN_DEFAULT { system := true }

/-- A campaign that the reset or the absence ended is recorded; in RUN the automatic one starts (R150). -/
def State.balReturn (s : State) : State :=
  let s1 : State := if s.bal.lost then ({ s with bal.lost := false } : State).detail true [3, 1] .aborted else s
  s1.autoCampaign

/-- The controller's registers and memories at a reset, before its image runs. -/
def State.ctlReset (s : State) (kind detail : Nat) : State :=
  let s1 := (s.resetWindows.forget).seLost.updReset
  let s2 := if kind ≤ 2 then s1.timeFresh else State.timeAdopt s s1
  let s3 := s2.wrs [(F.PWR_RESET_CAUSE_KIND, kind), (F.PWR_RESET_CAUSE_DETAIL, detail), (F.SYS_MODE_TRANSITION, 0), (F.SYS_MODE_TARGET, s2.mode),
    (F.MOT_STATE_OWNER 0, if s2.axState 0 = axHOMING then 2 else 0), (F.MOT_STATE_OWNER 1, if s2.axState 1 = axHOMING then 2 else 0)]
  s3.enterPower 0

/-! ### Tamper (R458) -/

/-- An activation that has not passed its switch record stops (R458, R486). -/
def State.updStop (s : State) (st : Status) : State :=
  let u := s.rd F.UPD_STATUS_STATE
  if (u = 5 ∧ s.upd.step < 5) ∨ u = 8 then
    (({ s with upd.step := 0 } : State).wrs [(F.UPD_STATUS_STATE, 4), (F.UPD_PROGRESS_PERMILLE, 0)]).finish 0x0C05 0 st
  else s

/-- A session that the module ends; a host port closes with it (R453). -/
def State.cutSession (s : State) (p : Nat) : State :=
  if (s.session p).isNone then s else if p = 2 then s.endSession 2 3 else (s.portLost p 3).startKeying p

/-- The latch is found newly set (R458): flag, record with the AON note, event, what is discarded, the sessions. -/
def State.tamperAct (s : State) (unpowered : Bool) : State :=
  let note := s.sec.note.getD 0
  let s1 := (s.wr F.SEC_STATUS_TAMPER_LATCHED 1).wr F.SEC_STATUS_TAMPER_UNPOWERED (if unpowered then 1 else s.rd F.SEC_STATUS_TAMPER_UNPOWERED)
  let s2 := s1.flag Fl.SEC_EVENT_TAMPER { system := true, detail := leBytes 8 note }
  let s3 : State := { s2 with safe.pendingBlock := [], safe.pendingCert := 0, sec.note := none }
  let s4 := s3.updStop .auth
  if s4.isOn F.SEC_CFG_TAMPER_ACTION then [0, 1, 2].foldl (fun s p => s.cutSession p) s4 else s4

/-! ### The image starts -/

/-- A core that fails its self-test at start is mapped out (R503). -/
def State.coreAtStart (s : State) (b : Boot) : State :=
  match b.core with
  | some c => if 2 < c ∨ s.poolOut 1 = true then s else ((s.spareTook 1 c 3).wr F.UC_STATUS_CORE_REPLACED c).exhaust 1
  | none => s

/-- The identity (R447, R448). -/
def State.identity (s : State) (b : Boot) : State :=
  let s1 := s.wrs [(F.SEC_STATUS_ID_OK, if b.puf then 1 else 0), (F.SEC_STATUS_ID_FAULT, if b.puf then 0 else 1)]
  if b.puf then s1 else s1.detail true [8] .auth false true

/-- Step 7 of R56: the latch of the reed sensor, the shutdown record and the learned state are read. -/
def State.imageStart (s : State) (kind : Nat) (b : Boot) : State :=
  let s1 := (s.wrB F.SEC_STATUS_LID_OPEN b.lid)
  let latch := b.latch || s1.sec.latch
  let s2 : State := { s1 with sec.latch := latch }
  let s3 := if latch && !s2.isOn F.SEC_STATUS_TAMPER_LATCHED then s2.tamperAct (kind == 1 && s2.sec.note.isNone) else s2
  let s4 := s3.wrB F.THM_STATUS_ACK_PENDING (s3.thm.shut.good && !s3.thm.shut.ack)
  let s5 := (s4.learnAtStart.sbRestart 0 b.sb0).sbRestart 1 b.sb1
  let s6 := (s5.balReturn.bridgeFlush).thmResend.thmDrive
  s6.setFloor.setReady

/-- No image verifies (R57): X19 opens where no mode has been entered, the controller does nothing but image recovery. -/
def State.noImage (s : State) (kind : Nat) : State :=
  let s1 : State := { s with pwr.phase := .recovery, pwr.ctl := false }
  (if kind = 4 then s1 else { s1 with safe.modeEntered := false }).setX19

/-- PRIMER and the image of the controller card, after its reset.  At a wake the retained code region is taken where its digest
agrees (R60). -/
def State.ctlStart (s : State) (kind detail : Nat) (b : Boot) : State :=
  let b1 : Boot := if kind = 2 ∧ b.retained = true then { b with banks := 3 } else b
  let p := s.primer b1
  let s1 := (p.1.ctlReset kind detail)
  if !p.2.found then s1.noImage kind
  else
    let s2 : State := { s1 with pwr.phase := .up }
    let s3 := (if p.2.fell then s2.flag Fl.UPD_EVENT_FALLBACK {} else s2).coreAtStart b
    ((s3.identity b).imageStart kind b)

/-! ### The other cards -/

/-- What stands in a slot at a start: a card of the variant ISOLATED, a blank card, or nothing (R1–R3, R116). -/
def State.slotStart (s : State) (kind k : Nat) : State :=
  let x := s.segOf k
  if x.present && x.blank then s.setSegState k segBLANK
  else if x.present && s.segOk k then
    let s1 := s.cardReset k
    (if kind = 3 then s1 else s1.clearWires k).setSegState k segISOLATED
  else s.setSegState k segABSENT

/-- The segment cards start together (R58 kinds 1–3, R124): each stands ISOLATED and passes no tone; the ring carries frames both
ways (R56 step 8), and FILTER comes into force at a power-on or a module restart (R69). -/
def State.segsStart (s : State) (kind : Nat) : State :=
  let s1 := (numbersFrom 1 26).foldl (fun s k => s.slotStart kind k) s
  ({ s1 with seg.armed := false, seg.deadline := false, seg.loopOpen := false, seg.latchCheck := kind == 2 } : State).wrs
    ([(F.SEG_TONE_TONE_PRESENT, 0), (F.SEG_TONE_SHELF_BURST, 0), (F.PWR_SEG_ON_ISLAND, s1.islands)] ++
      (if kind = 3 then [] else [(F.LATH_STATUS_A_WHOLE, 1), (F.LATH_STATUS_B_WHOLE, 1), (F.LATH_STATUS_BREAK_HOP, 63)]) ++
      (if kind = 2 then [] else [(F.SEG_FILT_CFG_FILTER_ACTIVE, s1.rd F.SEG_FILT_CFG_FILTER)]))

/-- The joins of a start (R56 step 8, R100); at a power-on the cards show the latches that they hold (R120). -/
def State.joinAll (s : State) (first : Bool) (b : Boot) : State :=
  (b.joins.foldl (fun s j =>
    let s1 := (s.presentStable j.slot [(j.slot, (j.rtA, j.rtB))]).wrs
      (if first && s.segOk j.slot then [(F.SEG_CMP_OV_LATCH j.slot, j.ov), (F.SEG_CMP_UV_LATCH j.slot, j.uv)] else [])
    s1.joinDone j.slot j.check b.rel) s).gateTone

/-- What the slots hold at a power-on (R1–R3): segment cards up to the variant's last slot, blank cards beyond. -/
def State.slotsFilled (s : State) (b : Boot) : State :=
  (numbersFrom 1 26).foldl (fun s k => s.modSeg k fun x =>
    { x with present := !b.empty.contains k, blank := decide (s.segs < k), fac := Tbl.get x.fac b.facs k }) s

/-- Cards found changed at a power-on (R505): kind and slot by key. -/
def State.serialsSeen (s : State) (b : Boot) : State :=
  b.serials.foldl (fun s p =>
    let w : Nat × Nat := if 100 < p.1 then (5, p.1 - 100) else (p.1, 0)
    s.newSerial p.1 w.1 w.2 p.2) s

/-- The safety card powers up (R56 steps 2 and 3, R47): switches off, self-tests, its mirror from its own stores, the contacts
read afresh. -/
def State.sfcStart (s : State) (b : Boot) : State :=
  let s1 := (s.resetRegs 0x90000 0xA0000).safeBoot
  let s2 : State := { s1 with safe := {
    causes := s1.safe.causes, first := s1.safe.first, firstCh := s1.safe.firstCh, last := s1.safe.last, blockA := s1.safe.blockA
    blockB := s1.safe.blockB, copy0 := s1.safe.copy0, copy1 := s1.safe.copy1, withdraw := s1.safe.withdraw, present := s1.safe.present
    modeEntered := s1.safe.modeEntered, sinceBoot := s1.safe.sinceBoot, selfTest := b.selfTest } }
  let s3 := (s2.wrs [(F.SAFE_STATUS_XLINK_OK, 1), (F.SAFE_OUT_COIL_SUPPLY, if b.coil then 1 else 0),
    (F.SAFE_COUNT_LOCKOUTS, s.rd F.SAFE_COUNT_LOCKOUTS), (F.SAFE_COUNT_DEMANDS, s.rd F.SAFE_COUNT_DEMANDS)]).allOff
  let s4 := ((s3.mirrorParams.mirrorCauses).startInputs b.contacts).blocksChecked
  if b.selfTest then s4 else s4.raiseCause .selftest 3

/-- The charge counter resumes (R56 step 4, R157, R158); the power cycle of the moment is `cyc`. -/
def State.chargeResume (s : State) (cyc : Nat) : State :=
  let a := s.cim.sfc
  let m := s.cim.mram
  let c := if a.valid && (!m.valid || decide (m.gen ≤ a.gen)) then a else m
  if c.valid then ({ s with cim.charge := c.value } : State).detail true
      (leBytes 4 (s.rd F.REC_OPTIME_VALUE) ++ leBytes 4 (s.rd F.REC_POWER_CYCLES_VALUE) ++ leBytes 4 (s.rd F.REC_OPTIME_VALUE) ++
        leBytes 4 cyc) .ok true
  else ({ s with cim.charge := 0 } : State).flag Fl.CIM_EVENT_COUNTER_RESTART { system := true, stfP := true, milestone := true }

/-! ### The end of a start -/

/-- The bus switches of both sensor buses close as their domain powers up (R430). -/
def State.freeBranches (s : State) : State :=
  s.wrs ([0, 1].flatMap fun c => [(F.SB_BRANCH_ISOLATED c, 0), (F.SB_BRANCH_OPEN c, 0)])

/-- STANDBY, or LOCKOUT where a cause is latched (R39, R56 step 9). -/
def State.enterFirst (s : State) (cause : Nat) : State :=
  let s1 : State := { s with safe.modeEntered := true }
  (s1.setMode (if s1.safe.causes = 0 then mSTANDBY else mLOCKOUT) cause).setReady

/-! ### The reset kinds -/

/-- A controller reset (kind 4): CTL alone, the mode held by STF-P; STANDBY where the string was opened for its absence, and the
first mode where none has been entered (R58, R63, R65). -/
def State.controllerReset (s : State) (detail : Nat) (b : Boot) : State :=
  let s1 := s.ctlStart 4 detail b
  if s1.pwr.phase ≠ .up then s1
  else if !s1.safe.modeEntered then (((s1.segsStart 1).joinAll true b).enterFirst byReset)
  else if s1.pwr.ctlOpened then
    let s2 : State := { s1 with pwr.ctlOpened := false }
    if s2.mode = mLOCKOUT ∨ s2.mode = mSTANDBY then s2 else s2.setMode mSTANDBY byReset
  else s1

/-- A module restart (kind 3): CTL, MOT and the segment cards. -/
def State.moduleRestart (s : State) (b : Boot) : State :=
  let s1 := ((({ s with mot.saved := [] } : State).motGone.clearMot).ctlStart 3 0 b).segsStart 3
  if s1.pwr.phase ≠ .up then s1
  else
    let s2 := s1.joinAll false b
    if s2.mode = mSERVICE then (s2.setMode mSTANDBY byReset).setReady else s2.setReady

/-- A wake from SHELF (kind 2, R59, R60): the domains that were off; the tone's loss is judged after the joins (R297). -/
def State.shelfWake (s : State) (b : Boot) : State :=
  let s0 : State := { s with pwr.wakes := 1, cim.listening := true }
  let s1 := ((s0.freeBranches.sfcStart b).clearMot.ctlStart 2 0 b).segsStart 2
  if s1.pwr.phase ≠ .up then s1 else (((s1.safeShow s.safeFell).joinAll false b).enterFirst byWake).reportKeepLow

/-- A power card that is out at a power-on leaves the other one without a spare (R28–R30). -/
def State.psuSeen (s : State) (b : Boot) : State := if b.psuA && b.psuB then s.unspend 6 else s.exhaust 6

/-- Steps 5–9 of a power-on, once PRIMER goes on (R56, R529). -/
def State.powerOnPrimer (s : State) (b : Boot) : State :=
  let n := s.rd F.REC_POWER_CYCLES_VALUE + 1
  let s1 := (s.wrs [(F.REC_POWER_CYCLES_VALUE, n), (F.PWR_RESET_CAUSE_POWER_CYCLES, n)]).saveCounters
  let s2 := ((s1.motGone.clearMot).ctlStart 1 0 b).segsStart 1
  if s2.pwr.phase ≠ .up then s2 else (((s2.safeShow s.safeFell).joinAll true b).enterFirst byReset).reportKeepLow

/-- A power-on (kind 1, R56, R62): every card; start-up stops after step 4 without a controller card (R65), and waits in PRIMER while
its die reads below −25 °C (R529). -/
def State.powerOn (s : State) (b : Boot) : State :=
  let dom := s.pwr.domFault
  let s0 : State := { s with
    pwr := { domFault := dom }, safe.modeEntered := false, safe.sinceBoot := if dom = 0 then 0 else s.safe.sinceBoot
    bal := { rw := s.bal.rw }, mot.saved := [], thm.heldOff := false, thm.stuck := false, thm.restartAt := none
    sec.latch := s.sec.latch || b.latch }
  let s1 := ((s0.resetRegs 0x40000 0x40100).resetRegs 0x60000 0x70000).wrs ([(F.SYS_MODE_MODE, mSTANDBY), (F.PWR_AUX_STATUS_AUX_LOSS, 0),
      (F.PWR_AUX_STATUS_HOLDUP_OK, 0), (F.PWR_AUX_STATUS_PSU_A_OK, if b.psuA then 1 else 0), (F.PWR_AUX_STATUS_PSU_B_OK, if b.psuB then 1 else 0),
      (F.BANK_CFG_POSITION, b.strap), (F.BANK_CFG_MASTER, if b.strap % 8 = 0 then 1 else 0)])
  let swapped := Tbl.has b.serials 1 && Tbl.get 0 s.recorder.serials 1 != 0 && Tbl.get 0 b.serials 1 != Tbl.get 0 s.recorder.serials 1
  let c : CimState := { sfc := if swapped then {} else s.cim.sfc, mram := s.cim.mram, listening := true }
  let s2 := ((((({ s1 with cim := c } : State).freeBranches.sfcStart b).wr F.SAFE_COUNT_DEMANDS 0).chargeResume
    (s1.rd F.REC_POWER_CYCLES_VALUE + 1)).mirrorCharge).serialsSeen b
  let s3 := (s2.slotsFilled b).psuSeen b
  if !b.ctl then { s3 with pwr.phase := .noCtl, pwr.ctl := false }
  else if b.die < -25 then { s3 with pwr.phase := .primer, pwr.ctl := false }
  else s3.powerOnPrimer b

end Sys2Proof.Machine
end

