-- ==== Sys2Proof/Machine/Sha.lean ====
section
/-! DEFINITION. SHA-384 (FIPS 180-4), by which images, bodies, headers and quotes are checked (R456, R457, R465–R471).  A digest
is the number that its 48 bytes spell with the first byte lowest, as in every other field of the module (R4). -/

namespace Sys2Proof.Machine

def two64 : Nat := 18446744073709551616

/-- The largest number below 2^n whose k-th power does not pass x, on top of what the higher bits r already give. -/
def rootBits (k x : Nat) : Nat → Nat → Nat
  | 0, r => r
  | n + 1, r => rootBits k x n (if (r + 2 ^ n) ^ k ≤ x then r + 2 ^ n else r)

/-- The first 64 bits of the fraction of the k-th root of p: the rule from which FIPS 180-4 draws its constants. -/
def rootFraction (k p : Nat) : Nat := rootBits k (p * 2 ^ (64 * k)) 70 0 % two64

/-- Primes up to 409, the 80th (a number below 23 squared is prime when no prime below 23 divides it). -/
def shaPrimes : List Nat :=
  ((List.range 408).map (· + 2)).filter fun n => [2, 3, 5, 7, 11, 13, 17, 19].all fun d => n == d || n % d != 0

/-- The round constants: the cube roots of the first 80 primes. -/
def shaK : List Nat := shaPrimes.map (rootFraction 3)

/-- The initial value of SHA-384: the square roots of the 9th to the 16th prime. -/
def shaInit : List Nat := ((shaPrimes.drop 8).take 8).map (rootFraction 2)

def rotr (x n : Nat) : Nat := x / 2 ^ n + x % 2 ^ n * 2 ^ (64 - n)

def bigS0 (x : Nat) : Nat := rotr x 28 ^^^ rotr x 34 ^^^ rotr x 39
def bigS1 (x : Nat) : Nat := rotr x 14 ^^^ rotr x 18 ^^^ rotr x 41
def smallS0 (x : Nat) : Nat := rotr x 1 ^^^ rotr x 8 ^^^ x / 2 ^ 7
def smallS1 (x : Nat) : Nat := rotr x 19 ^^^ rotr x 61 ^^^ x / 2 ^ 6

/-- The message schedule, newest word first: `n` more words. -/
def shaSched : Nat → List Nat → List Nat
  | 0, w => w
  | n + 1, w =>
    let g (i : Nat) : Nat := w.getD i 0
    shaSched n (((smallS1 (g 1) + g 6 + smallS0 (g 14) + g 15) % two64) :: w)

/-- One round on the eight working variables. -/
def shaRound (v : List Nat) (kw : Nat × Nat) : List Nat :=
  match v with
  | [a, b, c, d, e, f, g, h] =>
    let t1 := h + bigS1 e + ((e &&& f) ^^^ ((two64 - 1 - e) &&& g)) + kw.1 + kw.2
    let t2 := bigS0 a + ((a &&& b) ^^^ (a &&& c) ^^^ (b &&& c))
    [(t1 + t2) % two64, a, b, c, (d + t1) % two64, e, f, g]
  | l => l

/-- A big-endian number of bytes. -/
def ofBe (bs : List Byte) : Nat := bs.foldl (fun n b => n * 256 + b % 256) 0

def beBytes (n v : Nat) : List Byte := (leBytes n v).reverse

/-- The 64-bit words of a block of 128 bytes. -/
def blockWords : Nat → List Byte → List Nat
  | 0, _ => []
  | n + 1, bs => ofBe (bs.take 8) :: blockWords n (bs.drop 8)

def shaBlock (h : List Nat) (bs : List Byte) : List Nat :=
  let w := (shaSched 64 (blockWords 16 bs).reverse).reverse
  (h.zip ((shaK.zip w).foldl shaRound h)).map fun p => (p.1 + p.2) % two64

def shaBlocks : Nat → List Nat → List Byte → List Nat
  | 0, h, _ => h
  | n + 1, h, bs => shaBlocks n (shaBlock h (bs.take 128)) (bs.drop 128)

/-- The padded message. -/
def shaPad (bs : List Byte) : List Byte :=
  let l := bs.length
  bs ++ [0x80] ++ List.replicate ((239 - l % 128) % 128) 0 ++ beBytes 16 (8 * l)

/-- The 48 bytes of the digest. -/
def sha384Bytes (bs : List Byte) : List Byte :=
  let p := shaPad bs
  ((shaBlocks (p.length / 128) shaInit p).flatMap (beBytes 8)).take 48

/-- The digest as a number. -/
def sha384 (bs : List Byte) : Nat := ofLe (sha384Bytes bs)

end Sys2Proof.Machine
end

