-- ==== Sys2Proof/Machine/Upd.lean ====
section
/-! DEFINITION. Firmware update (R463–R487), image recovery (R485) and the substitution of a core (R503). -/

namespace Sys2Proof.Machine

/-! ### The header (R465, R467) -/

def parseSkim (b : List Byte) : Skim :=
  { target := u8 b 6, kind := u8 b 7, len := u32 b 8, imgLen := u32 b 12, version := u32 b 16, epoch := u16 b 20, hwMin := u16 b 22
    schema := u16 b 24, minSchema := u16 b 26, keyId := u8 b 28, restartOnly := u8 b 29 % 2 == 1, revoke := u8 b 29 / 2 % 2 == 1
    revokeMask := u8 b 30 % 16, base := ofLe (slice b 32 48), image := ofLe (slice b 80 48), body := ofLe (slice b 128 48) }

/-- Check 2: FORMAT, TARGET, KIND, reserved bytes and bits. -/
def skimParamBad (b : List Byte) : Bool :=
  u16 b 4 != 1 || !inR 1 3 (u8 b 6) || decide (1 < u8 b 7) || u8 b 31 != 0 || u8 b 29 / 4 != 0 || u8 b 30 / 16 != 0 ||
  !allZero (slice b 176 16) || !allZero (slice b 3597 499)

/-- Largest image of a target in bytes (R463). -/
def imageLimit : Nat → Nat
  | 1 => 16777216
  | 2 => 2097152
  | _ => 262144

/-- Check 3. -/
def skimRangeBad (k : Skim) : Bool :=
  decide (imageLimit k.target < k.imgLen) || (if k.kind = 1 then !inR 4096 8388608 k.len else k.len != k.imgLen + 4096)

/-- The STF-P image that runs. -/
def State.safeImage (s : State) : ImgBank := if s.upd.safeSw.bank = 0 then s.upd.safe0 else s.upd.safe1

/-- Card revision that HW_REV_MIN is compared with. -/
def State.hwRev (s : State) (target : Nat) : Nat := if target = 1 then s.rd F.SYS_ID_CTL_REV else Config.cardRev target

/-- The base image of a delta fits the running image of its target; for SEG that of every fitted card (R467). -/
def State.baseFits (s : State) (k : Skim) : Bool :=
  match k.target with
  | 1 => k.base == s.running.digest
  | 2 => k.base == s.safeImage.digest
  | _ => s.segList.all fun c => !(s.segOf c).present || Tbl.get 0 s.upd.seg c == k.base

/-- An image is in TRIAL. -/
def State.inTrial (s : State) : Bool := s.switch.state == 1 || s.upd.safeSw.state == 1

/-- The first of the checks 1–4 that fails, with its status (R467, R485). -/
def State.headerBad (s : State) (b : List Byte) (sigOk : Bool) : Option (Nat × Status) :=
  let k := parseSkim b
  if u32 b 0 ≠ 0x534B494D ∨ sigOk = false ∨ 3 < k.keyId ∨ s.rd F.UPD_EPOCH_REVOKED / 2 ^ k.keyId % 2 = 1 then some (1, .auth)
  else if skimParamBad b then some (2, .param)
  else if skimRangeBad k then some (3, .range)
  else if k.epoch < s.rd F.UPD_EPOCH_EPOCH ∨ s.hwRev k.target < k.hwMin then some (4, .version)
  else none

/-- The checks of R467 in their order. -/
def State.beginBad (s : State) (b : List Byte) (sigOk : Bool) : Option (Nat × Status) :=
  let k := parseSkim b
  match s.headerBad b sigOk with
  | some r => some r
  | none =>
    if k.kind = 1 ∧ s.baseFits k = false then some (5, .version)
    else if k.target = 1 ∧ (s.rd F.UPD_SCHEMA_RUNNING < k.minSchema ∨ k.schema < s.rd F.UPD_SCHEMA_RUNNING) then some (6, .version)
    else if s.inTrial || s.rd F.UPD_STATUS_STATE == 3 || (match s.upd.pkg with | some p => p.head.body != k.body | none => false) then some (7, .busy)
    else none

/-- UPD_LAST_ERR. -/
def State.updErr (s : State) (st : Status) (stage : Nat) : State := s.wrs [(F.UPD_LAST_ERR_STATUS, st.code), (F.UPD_LAST_ERR_STAGE, stage)]

/-! ### Download (R468–R470) -/

/-- HEADER_REFUSED with its record that names the failed check (R467). -/
def State.headerRefused (s : State) (n : Nat) (st : Status) : State :=
  (s.flag Fl.UPD_EVENT_HEADER_REFUSED { status := st, detail := [n] }).updErr st n

/-- The header checks that R33 ranks before the mode: AUTH, PARAM and RANGE. -/
def State.beginPre (s : State) (header : List Byte) (sigOk : Bool) : List (Bool × Status) :=
  (header.length != 4096, .param) :: match s.headerBad header sigOk with
    | some (n, st) => [(header.length == 4096 && decide (n ≤ 3), st)]
    | none => []

/-- A refusal of UPD_BEGIN; where a check of the header is its reason, HEADER_REFUSED with it. -/
def State.beginRefused (s : State) (h : Hdr) (header : List Byte) (sigOk : Bool) (st : Status) : State :=
  let s1 := match s.headerBad header sigOk with
    | some (n, x) =>
      if header.length = 4096 ∧ n ≤ 3 ∧ x = st ∧ ¬(st = Status.auth ∧ s.isOn F.SEC_STATUS_TAMPER_LATCHED = true) then s.headerRefused n st else s
    | none => s
  s1.refuseCmd 0x0C02 rUpdate h st

/-- UPD_BEGIN (R466, R467, R470): `ecdsa` and `mldsa` say whether each signature verifies under the set that KEY_ID names; OK with the
number of chunks held. -/
def execUpdBegin (h : Hdr) (header : List Byte) (ecdsa mldsa : Bool) (s : State) : Out :=
  let sigOk := ecdsa && mldsa
  .next <| match s.refusal 0x0C02 rUpdate h (s.beginPre header sigOk) with
  | some st => s.beginRefused h header sigOk st
  | none => s.answer 0x0C02 rUpdate h <| match s.beginBad header sigOk with
      | some (n, st) => .fail (s.headerRefused n st) st
      | none =>
        match s.upd.pkg with
        | some p => .done s [(p.chunks.length : Int)]
        | none =>
          let k := parseSkim header
          .done ((({ s with upd.pkg := some { head := k, raw := header } } : State).wrs [(F.UPD_STATUS_STATE, 1), (F.UPD_STATUS_TARGET, k.target),
            (F.UPD_VERSION_PKG_VERSION, k.version), (F.UPD_SCHEMA_PACKAGE, k.schema)]).bitmapShow) [0]

/-- Chunks of a package, and the bytes of one. -/
def Skim.chunkCount (k : Skim) : Nat := (k.len + 16383) / 16384

def Skim.chunkLen (k : Skim) (c : Nat) : Nat := min 16384 (k.len - 16384 * c)

def State.setBank (s : State) (k : Nat) (i : ImgBank) : State := if k = 0 then { s with upd.ctl0 := i } else { s with upd.ctl1 := i }

/-- A full CTL package is staged in the inactive bank, whose image it overwrites (R464). -/
def State.stageOver (s : State) (k : Skim) : State :=
  if k.target = 1 ∧ k.kind = 0 then (s.setBank (1 - s.rd F.UPD_STATUS_ACTIVE_BANK) {}).wr F.UPD_VERSION_FALLBACK_VERSION 0 else s

/-- UPD_CHUNK (R468, R469). -/
def execUpdChunk (h : Hdr) (c crc : Nat) (data : List Byte) (s : State) : Out :=
  let k : Skim := (s.upd.pkg.getD {}).head
  .next <| s.command 0x0C03 rUpdate h
    [(match s.upd.pkg with
        | some p => decide (c < k.chunkCount) && (data.length != k.chunkLen c || (Tbl.has p.chunks c && (Tbl.get (0, []) p.chunks c).1 != crc) ||
            (c == 0 && !Tbl.has p.chunks c && crc32c data == crc && data.take 4096 != p.raw))
        | none => false, .param),
     (s.upd.pkg.isSome && decide (k.chunkCount ≤ c), .range)]
    fun s => match s.upd.pkg with
      | none => .refuse .state
      | some p =>
        if 3 ≤ s.rd F.UPD_STATUS_STATE then .refuse .busy
        else if crc32c data ≠ crc then .fail ((s.flag Fl.UPD_EVENT_CHUNK_BAD { status := .integrity, detail := leBytes 2 c }).updErr .integrity 0) .integrity
        else if Tbl.has p.chunks c then .done s []
        else
          let s1 := s.stageOver p.head
          let ch := Tbl.put p.chunks c (crc, data)
          let s2 : State := { s1 with upd.pkg := some { p with chunks := ch } }
          .done ((if ch.length = k.chunkCount then s2.wr F.UPD_STATUS_STATE 2 else s2).bitmapShow) []

/-- The session, its bitmap and its staged data are gone. -/
def State.dropPackage (s : State) : State :=
  (({ s with upd.pkg := none, upd.staged := [], upd.step := 0 } : State).wrs [(F.UPD_STATUS_STATE, 0), (F.UPD_STATUS_TARGET, 0),
    (F.UPD_VERSION_PKG_VERSION, 0), (F.UPD_SCHEMA_PACKAGE, 0), (F.UPD_PROGRESS_PERMILLE, 0), (F.UPD_PROGRESS_SEG_DONE, 0), (F.UPD_PROGRESS_SEG_SLOT, 0)]).bitmapShow

/-- UPD_ABORT (R470): an activation in progress ends ABORTED; a card of a campaign that is being loaded still joins. -/
def execUpdAbort (h : Hdr) (s : State) : Out :=
  .next <| s.command 0x0C08 rUpdate h []
    fun s =>
      let u := s.rd F.UPD_STATUS_STATE
      let c := s.rd F.UPD_PROGRESS_SEG_SLOT
      if s.inTrial then .refuse .state
      else if u = 3 then .refuse .busy
      else if u = 5 ∨ u = 7 ∨ u = 8 then
        let s1 := ((s.updErr .aborted 0).finish 0x0C05 0 .aborted).dropPackage
        .done (if u = 7 ∧ c ≠ 0 then { s1 with upd.card := some (c, (s.upd.pkg.getD {}).head.image) } else s1) []
      else .done s.dropPackage []

/-! ### Verification (R471) -/

/-- UPD_VERIFY: STATE unless DOWNLOADED. -/
def execUpdVerify (h : Hdr) (s : State) : Out :=
  .next <| s.command 0x0C04 rUpdate h []
    fun s =>
      if s.rd F.UPD_STATUS_STATE ≠ 2 then .refuse .state
      else .accept (s.wrs [(F.UPD_STATUS_STATE, 3), (F.UPD_PROGRESS_PERMILLE, 0)]) 0 []

/-- The body of a package: its bytes from 4096 on. -/
def Package.bodyBytes (p : Package) : List Byte := (p.chunks.flatMap fun c => c.2.2).drop 4096

/-- The running image of a target, as bytes. -/
def State.targetImage (s : State) (target : Nat) : List Byte :=
  match target with
  | 1 => s.running.data
  | 2 => s.safeImage.data
  | _ => s.upd.segData

/-- Step 3 of R471: the body of a full package, or the image that a delta rebuilds. -/
def State.rebuilt (s : State) (p : Package) : List Byte :=
  if p.head.kind = 1 then Config.applyDelta (s.targetImage p.head.target) p.bodyBytes else p.bodyBytes

/-- The image of a header, as a bank holds it. -/
def Skim.bank (k : Skim) (data : List Byte) : ImgBank :=
  { valid := true, version := k.version, schema := k.schema, minSchema := k.minSchema, digest := k.image, data := data }

/-- A digest mismatch: INTEGRITY, the bitmap cleared. -/
def State.verifyFail (s : State) (p : Package) (stage : Nat) : State :=
  let s1 := (({ s with upd.pkg := some { p with chunks := [] } } : State).wr F.UPD_STATUS_STATE 1).bitmapShow
  (((s1.flag Fl.UPD_EVENT_VERIFY_FAIL { status := .integrity, detail := [stage] }).updErr .integrity stage)).finish 0x0C04 0 .integrity

/-- UPD_VERIFY_DONE. -/
def execUpdVerifyDone (s : State) : Out :=
  .next <| match s.upd.pkg with
    | none => s
    | some p =>
      if s.rd F.UPD_STATUS_STATE ≠ 3 then s
      else if sha384 p.bodyBytes ≠ p.head.body then s.verifyFail p 1
      else
        let img := s.rebuilt p
        let other := 1 - s.rd F.UPD_STATUS_ACTIVE_BANK
        if sha384 img ≠ p.head.image then (if p.head.target = 1 then (s.setBank other {}).wr F.UPD_VERSION_FALLBACK_VERSION 0 else { s with upd.staged := [] }).verifyFail p 4
        else
          let s1 : State := if p.head.target = 1 then (s.setBank other (p.head.bank img)).wr F.UPD_VERSION_FALLBACK_VERSION p.head.version
            else { s with upd.staged := img }
          (s1.wrs [(F.UPD_STATUS_STATE, 4), (F.UPD_PROGRESS_PERMILLE, 1000)]).finish 0x0C04 0 .ok

/-! ### Activation of a CTL image (R473–R476, R481) -/

/-- Answer a command, then let its effect run on. -/
def State.commandThen (s : State) (op role : Nat) (h : Hdr) (pre : List (Bool × Status)) (body : State → CmdRes) (after : State → State) : State :=
  match s.refusal op role h pre with
  | some st => s.refuseCmd op role h st
  | none => match body s with
    | .done s1 r => after (s.answer op role h (.done s1 r))
    | .accept s1 k r => after (s.answer op role h (.accept s1 k r))
    | r => s.answer op role h r

/-- An activation ends without effect: the old image runs on and the package is kept. -/
def State.actFail (s : State) (st : Status) (stage : Nat) (res : List Int := []) : State :=
  ((({ s with upd.step := 0 } : State).wrs [(F.UPD_STATUS_STATE, 4), (F.UPD_PROGRESS_PERMILLE, 0), (F.UPD_PROGRESS_SEG_SLOT, 0)]).updErr st stage).finish
    0x0C05 0 st res

/-- The record of R473, step 5. -/
def State.trialRecord (s : State) : State := s.writeSwitch (s.switchFor (1 - s.switch.bank) 1 3 (1 - s.rd F.UPD_STATUS_SETTINGS_COPY))

/-- The activation is by restart (R481). -/
def State.byRestart (s : State) : Bool := (s.upd.pkg.getD {}).head.restartOnly || s.poolOut 1

/-- Steps 2–4 of R473 begin: the learned state is written, the new image migrates the settings. -/
def State.shadowStart (s : State) (mig : Bool) : State :=
  let s1 := ({ s with upd.step := 2 } : State).learnNow
  if !mig then s1.actFail .migration 3
  else
    let c := { s1.packCopy with schema := (s1.ctlBank (1 - s1.switch.bank)).schema }
    { s1 with upd.other := c, upd.step := 4, upd.shadowFrom := s1.time.count }

/-- Restart activation: the record, then a controller reset, whose start counts (R481). -/
def State.restartAct (s : State) (b : Boot) : State :=
  let s1 := ({ s with upd.other := {} } : State).trialRecord
  (s1.wr F.UPD_STATUS_STATE 6).controllerReset 0 b

/-! ### Segment microcode (R484) -/

/-- The present cards that do not run the package's microcode, in ascending slot order. -/
def State.segsLeft (s : State) (k : Skim) : List Nat := s.segList.filter fun c => (s.segOf c).present && Tbl.get 0 s.upd.seg c != k.image

/-- Epoch and revocations are burned (R466, R480); the set of KEY_ID never. -/
def State.burn (s : State) (k : Skim) : State :=
  let m := if k.revoke then k.revokeMask - (k.revokeMask &&& 2 ^ k.keyId) else 0
  s.wrs [(F.UPD_EPOCH_EPOCH, max k.epoch (s.rd F.UPD_EPOCH_EPOCH)), (F.UPD_EPOCH_REVOKED, m ||| s.rd F.UPD_EPOCH_REVOKED)]

/-- The conditions of R294 for the next card. -/
def State.segMayGo (s : State) : Bool :=
  s.paramValid && s.currentValid && decide (s.current.natAbs ≤ 1000 * pSvcMax s.safe.blockA)

/-- The next card of the campaign is announced, loaded and reset; with none left the campaign has succeeded. -/
def State.segNext (s : State) (k : Skim) : State :=
  let done := (s.segList.filter fun c => (s.segOf c).present && Tbl.get 0 s.upd.seg c == k.image).length
  let s1 := s.wr F.UPD_PROGRESS_SEG_DONE done
  match s1.segsLeft k with
  | [] =>
    let s2 := ({ s1 with upd.segData := s1.upd.staged } : State).burn k
    s2.dropPackage.finish 0x0C05 0 .ok
  | c :: _ =>
    if s1.mode ≠ mSERVICE then s1.actFail .aborted 1
    else if !s1.segMayGo then s1.actFail .safety 1 [(c : Int)]
    else if s1.wdSlot ≠ 0 then s1.actFail .busy 1 [(c : Int)]
    else ((s1.wrs [(F.UPD_PROGRESS_SEG_SLOT, c), (F.SAFE_WITHDRAW_SLOT, c), (F.SAFE_WITHDRAW_REMAIN_S, pWithdrawS s1.safe.blockA),
        (F.SAFE_STATUS_WITHDRAW_ACTIVE, 1), (F.SEG_TONE_BYPASS, 2 ^ (c - 1))]).segReset c)

/-- A card of the campaign has joined: its withdrawal ends. -/
def State.segCardBack (s : State) (c : Nat) : State := if s.segLive c then s else s.firstFrame c

/-- SEG_UPDATE_CARD_DONE: the card has joined on its new microcode, or on its old bank. -/
def execSegUpdateCardDone (ok : Bool) (s : State) : Out :=
  let c := s.rd F.UPD_PROGRESS_SEG_SLOT
  .next <| match s.upd.card, s.upd.pkg with
    | some (k, d), _ =>
      let s1 : State := { s.segCardBack k with upd.card := none }
      if ok then { s1 with upd.seg := Tbl.put s1.upd.seg k d } else s1.flag Fl.UPD_EVENT_SEG_FAIL { status := .internal, idx := k }
    | none, none => s
    | none, some p =>
      if s.rd F.UPD_STATUS_STATE ≠ 7 ∨ c = 0 then s
      else
        let s1 := s.segCardBack c
        if ok then (({ s1 with upd.seg := Tbl.put s1.upd.seg c p.head.image } : State).wr F.UPD_PROGRESS_SEG_SLOT 0).segNext p.head
        else (s1.flag Fl.UPD_EVENT_SEG_FAIL { status := .internal, idx := c }).actFail .internal 4 [(c : Int)]

/-- UPD_ACTIVATE (R473, R481, R483, R484); `mig`: the new image migrates the settings; `b`: what the controller finds where it
restarts. -/
def execUpdActivate (h : Hdr) (mig : Bool) (b : Boot) (s : State) : Out :=
  .next <| s.commandThen 0x0C05 rUpdate h []
    (fun s => match s.upd.pkg with
      | none => .refuse .state
      | some p =>
        let st := s.rd F.UPD_STATUS_STATE
        let m := s.mode
        if st = 3 then .refuse .busy
        else if st ≠ 4 then .refuse .state
        else match p.head.target with
          | 1 =>
            if s.byRestart then
              if m = mSTANDBY ∨ (m = mSERVICE ∧ s.closed = false) then .accept s 0 [] else .refuse .noResource
            else if s.coreDue then .refuse .noResource
            else .accept (({ s with upd.step := 1 } : State).wrs [(F.UPD_STATUS_STATE, 5), (F.UPD_PROGRESS_PERMILLE, 0)]) 0 []
          | 2 =>
            if m ≠ mSERVICE ∨ s.closed = true then .refuse .state
            else .accept (s.wrs [(F.UPD_STATUS_STATE, 8), (F.UPD_PROGRESS_PERMILLE, 0)]) 0 []
          | _ =>
            if m ≠ mSERVICE then .refuse .state
            else if !s.segMayGo then .refuse .safety
            else if s.wdSlot ≠ 0 then .refuse .busy
            else .accept (s.wrs [(F.UPD_STATUS_STATE, 7), (F.UPD_PROGRESS_PERMILLE, 0)]) 0 [])
    fun s1 => match s1.upd.pkg with
      | none => s1
      | some p => match p.head.target with
        | 1 => if s1.byRestart then s1.restartAct b else s1.shadowStart mig
        | 2 => s1
        | _ => s1.segNext p.head

/-- SHADOW_RUN_END (R474, R475): after SHADOW_S seconds without a breach the switch record becomes valid. -/
def execShadowRunEnd (s : State) : Out :=
  .next <| if s.rd F.UPD_STATUS_STATE = 5 ∧ s.upd.step = 4 ∧ s.upd.shadowFrom + 250000000 * s.rd F.UPD_CFG_SHADOW_S ≤ s.time.count then
    ({ s.trialRecord with upd.step := 5 } : State).wr F.UPD_PROGRESS_PERMILLE 1000 else s

/-- A value of the new image lies outside its tolerance (R474): published limits by their number (0–7 currents, 8–15 powers) and the
reported SOC (16), against the old image's; 17 is the heartbeat, missing for `value` ms. -/
def State.shadowBeyond (s : State) (quantity : Nat) (value : Int) : Bool :=
  let tol := s.rd F.UPD_CFG_LIMIT_TOL
  let beyond (old : Int) (floor : Nat) : Bool := decide (max (tol * old.natAbs) (100 * floor) < 100 * (value - old).natAbs)
  if quantity < 16 then beyond (s.dsp.pub.getD quantity 0) (if quantity < 8 then 1000 else 0)
  else if quantity = 16 then beyond (s.rd F.EST_SOC_REPORTED) 10
  else quantity == 17 && decide (100 ≤ value)

/-- SHADOW_BREACH (R474): INTERNAL and a system-class record naming the quantity. -/
def execShadowBreach (quantity : Nat) (value : Int) (s : State) : Out :=
  .next <| if s.rd F.UPD_STATUS_STATE = 5 ∧ s.upd.step = 4 ∧ s.shadowBeyond quantity value = true then (s.detail true [9, quantity % 256] .internal).actFail .internal 4 else s

/-- UPD_HANDOVER (R476, R473 step 7): the new image owns its settings copy; rings, sessions, operations, kernels and buses go on. -/
def execUpdHandover (s : State) : Out :=
  .next <|
    if s.rd F.UPD_STATUS_STATE = 5 ∧ s.upd.step = 5 then
      let old := s.hrt.ops.filter fun o => o.opcode != 0x0C05
      let s1 := ({ s with upd.step := 0, upd.resident := true, upd.oldOps := old } : State).takeCopy s.switch.copy
      let s2 := (s1.updShow.wr F.UPD_STATUS_STATE 6).finish 0x0C05 0 .ok
      s2.flag Fl.UPD_EVENT_ACTIVATED { system := true }
    else s

/-! ### TRIAL, handback, confirmation (R477–R480) -/

/-- A running schedule stops under END_ACTION (R478, R250). -/
def State.schedStop (s : State) : State :=
  if s.dsp.running.isSome then s.scheduleAbort.endAction (s.plumbIdx + s.lead) 0 else s.scheduleAbort

/-- The resident old image resumes (R478). -/
def State.handback (s : State) (cause : Nat) : State :=
  let bank := 1 - s.switch.bank
  let copy := 1 - s.switch.copy
  let s0 := if s.upd.step = 5 then ({ s with upd.step := 0 } : State).finish 0x0C05 0 .internal else s
  let mine := s0.hrt.ops.filter fun o => s0.upd.resident && !s0.upd.oldOps.contains o
  let s1 := if s0.upd.resident then (mine.foldl (fun s o => (s.stopOp o).finish o.opcode o.key .aborted) s0).schedStop else s0
  let s2 : State := { s1.takeCopy copy with upd.other := {}, upd.resident := false, upd.oldOps := [] }
  let s3 := (s2.writeSwitch (s2.switchFor bank 2 0 copy)).updShow.wr F.UPD_STATUS_STATE 4
  s3.flag Fl.UPD_EVENT_HANDBACK { system := true, detail := [cause % 256] }

/-- Handback where the old image is no longer resident: the record for the old bank and a controller reset. -/
def State.handbackReset (s : State) (cause : Nat) (b : Boot) : State :=
  let s1 := s.writeSwitch (s.switchFor (1 - s.switch.bank) 2 0 (1 - s.switch.copy))
  (s1.controllerReset 0 b).flag Fl.UPD_EVENT_HANDBACK { system := true, detail := [cause % 256] }

/-- A cause of R478 in a CTL image in TRIAL. -/
def State.handbackFor (s : State) (cause : Nat) (b : Boot) : State :=
  if s.upd.resident || s.upd.step == 5 then s.handback cause else s.handbackReset cause b

/-- HANDBACK_CAUSE (R478): settings, watchdog or internal fault; also in the cycle in which the record becomes valid (R486). -/
def execHandbackCause (cause : Nat) (b : Boot) (s : State) : Out :=
  .next <| if s.switch.state = 1 ∧ s.pwr.ctl = true then s.handbackFor cause b else s

/-- STF-P restarts (R58 kind 6, R47, R483): its mirror and its memory start anew, channel B holds every output off. -/
def State.stfpRestart (s : State) (selfOk : Bool) (contacts : Nat) : State :=
  let s1 := (s.resetRegs 0x90000 0xA0000).wrs [(F.SAFE_STATUS_XLINK_OK, 1), (F.SAFE_OUT_COIL_SUPPLY, s.rd F.SAFE_OUT_COIL_SUPPLY),
    (F.SAFE_COUNT_LOCKOUTS, s.rd F.SAFE_COUNT_LOCKOUTS), (F.SAFE_COUNT_DEMANDS, s.rd F.SAFE_COUNT_DEMANDS), (F.PWR_RESET_CAUSE_KIND, 6), (F.PWR_RESET_CAUSE_DETAIL, 0)]
  let s2 : State := { s1 with safe := { s1.safe with
    pendingBlock := [], pendingCert := 0, inputs := [], outs := [], closing := .idle, weldTest := false, ssdDelay := false
    inhChg := false, inhDis := false, stwInhibit := false, startOut := false, lowOpen := false, selfTest := selfOk } }
  let s3 := ((s2.allOff.mirrorParams).mirrorCauses.startInputs contacts).setServiceLimit
  s3.setReady.setX19

/-- SAFE handback: STF-P boots the old bank. -/
def State.safeBack (s : State) (contacts : Nat) : State :=
  let r := s.upd.safeSw
  let s1 : State := { s with upd.safeSw := { r with gen := r.gen + 1, bank := 1 - r.bank, state := 2, left := 0 } }
  ((s1.stfpRestart true contacts).wrs [(F.UPD_STATUS_SAFE_STATE, 2), (F.UPD_STATUS_STATE, 4)])

/-- UPD_CONFIRM (R480): target 1 or 2; STATE unless it is in TRIAL. -/
def execUpdConfirm (h : Hdr) (target : Nat) (s : State) : Out :=
  .next <| s.command 0x0C06 rUpdate h [(!inR 1 3 target, .range)]
    fun s =>
      let k : Skim := (s.upd.pkg.getD {}).head
      if target = 1 ∧ s.switch.state = 1 ∧ s.rd F.UPD_STATUS_STATE = 6 then
        let s1 := (s.writeSwitch { s.switch with state := 0, left := 0 }).burn k
        let s2 : State := { s1 with upd.resident := false, upd.oldOps := [], recorder.mirrorHeld := false }
        .done (s2.updShow.dropPackage.mirrorRefresh.flag Fl.UPD_EVENT_CONFIRMED { system := true }) []
      else if target = 2 ∧ s.upd.safeSw.state = 1 then
        let s1 : State := { s with upd.safeSw := { s.upd.safeSw with state := 0, left := 0, gen := s.upd.safeSw.gen + 1 } }
        .done ((((s1.burn k).wr F.UPD_STATUS_SAFE_STATE 0).dropPackage).flag Fl.UPD_EVENT_CONFIRMED { system := true }) []
      else .refuse .state

/-- UPD_HANDBACK (R478, R483). -/
def execUpdHandback (h : Hdr) (target : Nat) (b : Boot) (s : State) : Out :=
  .next <| s.commandThen 0x0C07 rUpdate h [(!inR 1 3 target, .range)]
    (fun s =>
      if target = 1 ∧ s.switch.state = 1 ∧ s.rd F.UPD_STATUS_STATE = 6 then .done (if s.upd.resident then s.handback 0 else s) []
      else if target = 2 ∧ s.upd.safeSw.state = 1 ∧ s.mode = mSERVICE ∧ s.closed = false then .done (s.safeBack b.contacts) []
      else .refuse .state)
    fun s1 => if target = 1 ∧ s1.switch.state = 1 then s1.handbackReset 0 b else s1

/-! ### The safety image (R483) -/

/-- SAFE_IMAGE_TRANSFER: the image as STF-P receives it, its own check of digest and signatures, the self-test of the new image, its
acceptance of the parameter block, the contacts it reads. -/
def execSafeImageTransfer (image : List Byte) (ecdsa mldsa selfOk paramOk : Bool) (contacts : Nat) (s : State) : Out :=
  .next <| match s.upd.pkg with
    | none => s
    | some p =>
      if s.rd F.UPD_STATUS_STATE ≠ 8 then s
      else if sha384 image ≠ p.head.image then s.actFail .integrity 2
      else if !(ecdsa && mldsa) then s.actFail .auth 2
      else
        let r := s.upd.safeSw
        let bank := 1 - r.bank
        let img := p.head.bank image
        let s1 : State := if bank = 0 then { s with upd.safe0 := img } else { s with upd.safe1 := img }
        let s2 : State := { s1 with upd.safeSw := { r with gen := r.gen + 1, bank := bank, state := 1, left := 3, version := p.head.version
                                                           fbVersion := s.safeImage.version, digest := digest16 p.head.image
                                                           fbDigest := digest16 s.safeImage.digest, valid := true } }
        let s3 := s2.safeBoot
        if !selfOk then ((s3.safeBack contacts).flag Fl.UPD_EVENT_FALLBACK { status := .internal }).actFail .internal 4
        else
          let s4 := ((s3.stfpRestart true contacts).wrs [(F.UPD_STATUS_SAFE_STATE, 1), (F.UPD_STATUS_STATE, 6), (F.UPD_PROGRESS_PERMILLE, 1000)]).finish 0x0C05 0 .ok
          if paramOk then s4 else s4.raiseCause .param 1

/-! ### Image recovery (R485) -/

/-- What follows a start of the controller card: the mode that STF-P holds, or the first mode. -/
def State.afterRecovery (s : State) (b : Boot) : State :=
  if s.safe.modeEntered then s else ((s.segsStart 1).joinAll true b).enterFirst byReset

/-- IMAGE_RECOVERY: a full CTL package over the service port, where no image verifies. -/
def execImageRecovery (header body : List Byte) (ecdsa mldsa : Bool) (b : Boot) (s : State) : Out :=
  let sigOk := ecdsa && mldsa
  let k := parseSkim header
  let bank := if s.upd.ctl0.valid && s.upd.ctl1.valid then 0 else 1 - s.switch.bank
  .next <|
    if s.pwr.phase ≠ .recovery ∨ header.length ≠ 4096 ∨ k.target ≠ 1 ∨ k.kind ≠ 0 then s
    else match s.headerBad header sigOk with
      | some (n, st) => (s.raise Fl.UPD_EVENT_HEADER_REFUSED).updErr st n
      | none =>
        if sha384 body ≠ k.body then (s.raise Fl.UPD_EVENT_VERIFY_FAIL).updErr .integrity 1
        else if sha384 body ≠ k.image then (s.raise Fl.UPD_EVENT_VERIFY_FAIL).updErr .integrity 4
        else
          let s1 := s.setBank bank (k.bank body)
          let s2 := s1.writeSwitch (s1.switchFor bank 1 3 s1.switch.copy)
          let s3 : State := { (s2.bootSettings b).1.updShow with upd.pkg := some { head := k, raw := header } }
          let s4 : State := { s3.ctlReset (s3.rd F.PWR_RESET_CAUSE_KIND) (s3.rd F.PWR_RESET_CAUSE_DETAIL) with pwr.phase := .up }
          let s5 := ((s4.coreAtStart b).identity b).imageStart 4 b
          ((s5.wrs [(F.UPD_STATUS_STATE, 6), (F.UPD_STATUS_TARGET, 1)]).bitmapShow.detail true [10]).afterRecovery b

/-! ### Cores (R503) -/

/-- CORE_SHADOW_END: core 3 agrees and takes the work at the next PLUMB instant that is a multiple of 4000, or disagrees and the
watchdog path follows. -/
def execCoreShadowEnd (agree : Bool) (b : Boot) (s : State) : Out :=
  .next <| match s.recorder.coreShadow with
    | none => s
    | some c =>
      if s.recorder.coreAgreed then s
      else if agree then { s with recorder.coreAgreed := true }
      else
        let s1 : State := { s with recorder.coreShadow := none }
        ((s1.sparing 1 3 c 3).finish 0x0B04 coreKey .internal).controllerReset 0 b

/-! ### UPD_STATUS -/

/-- The 64 bytes of a switch record (R475). -/
def SwitchRec.bytes (r : SwitchRec) : List Byte :=
  let b := leBytes 4 0x53575452 ++ leBytes 4 r.gen ++ [r.bank, r.state, r.left, r.copy] ++ leBytes 4 r.version ++ leBytes 2 r.schema ++
    leBytes 4 r.fbVersion ++ leBytes 2 r.fbSchema ++ leBytes 16 r.digest ++ leBytes 16 r.fbDigest ++ [0, 0, 0, 0]
  b ++ leBytes 3 (crc32c b) ++ [if r.valid then 0xA5 else 0]

/-- UPD_STATUS: the UPD registers and the switch record in force. -/
def execUpdStatus (h : Hdr) (s : State) : Out :=
  .next <| s.command 0x0C01 rObserver h []
    fun s => ret s (s.wordsFrom 0x100000 13 ++ s.wordsFrom 0x100040 1 ++ s.wordsFrom 0x100100 33 ++ wordsOf 16 s.switch.bytes)

end Sys2Proof.Machine
end

