-- ==== Sys2Proof/Machine/Sec.lean ====
section
/-! DEFINITION. Security (R447–R462): anchors and claiming, attestation, the tamper switch. -/

namespace Sys2Proof.Machine

/-- SEC_STATUS (R462): the SEC registers. -/
def execSecStatus (h : Hdr) (s : State) : Out :=
  .next <| s.command 0x0D01 rObserver h []
    fun s => ret s (s.wordsFrom 0x110000 2 ++ s.wordsFrom 0x110010 3 ++ s.wordsFrom 0x110020 2 ++ s.wordsFrom 0x110040 4)

/-! ### Attestation (R457) -/

/-- Digest of the segment microcode: that of the present card in the lowest slot. -/
def State.segDigest (s : State) : Nat :=
  match s.segList.find? fun k => (s.segOf k).present with
  | some k => Tbl.get 0 s.upd.seg k
  | none => 0

/-- Bytes 0–255 of the quote. -/
def State.quoteBody (s : State) (nonce : List Byte) : List Byte :=
  let b (f : Field) (v : Nat) : Nat := if s.isOn f then v else 0
  leBytes 4 0x51554F54 ++ leBytes 2 1 ++ leBytes 2 352 ++ nonce ++
  ((numbersFrom 0 4).flatMap fun w => leBytes 4 (s.rd (F.SEC_SERIAL_CHARS w))) ++
  leBytes 48 s.running.digest ++ leBytes 48 s.safeImage.digest ++ leBytes 48 s.segDigest ++ leBytes 4 Config.primerVersion ++
  leBytes 2 (s.rd F.UPD_SCHEMA_RUNNING) ++ [s.switch.state,
    b F.SEC_STATUS_LID_OPEN 1 + b F.SEC_STATUS_TAMPER_LATCHED 2 + b F.SEC_STATUS_TAMPER_UNPOWERED 4] ++
  leBytes 4 (s.rd F.SAFE_PARAM_GEN_VALUE) ++ leBytes 4 (s.rd F.SAFE_PARAM_CRC_VALUE) ++ leBytes 8 s.now ++
  leBytes 4 (s.rd F.REC_POWER_CYCLES_VALUE) ++ leBytes 4 ((if s.taiValid then 1 else 0) + b F.SEC_STATUS_CLAIMED 2) ++
  leBytes 8 s.sec.auditSeq ++ List.replicate 16 0

/-- SEC_QUOTE (R457, R448): the 352 bytes with the signature of the identity key. -/
def execSecQuote (h : Hdr) (nonce : List Byte) (s : State) : Out :=
  .next <| s.command 0x0D02 rObserver h [(nonce.length != 32, .param)]
    fun s =>
      if s.isOn F.SEC_STATUS_ID_FAULT then .fail s .internal
      else
        let q := s.quoteBody nonce
        .bulk s [] 352 ((q ++ padTo 96 (Config.quoteSign q)).map fun x => (x : Int))

/-- SEC_CERT_READ (R447). -/
def execSecCertRead (h : Hdr) (s : State) : Out :=
  .next <| s.command 0x0D03 rObserver h []
    fun s => .bulk s [] Config.deviceCert.length (Config.deviceCert.map fun x => (x : Int))

/-! ### Anchors and claiming (R449, R450) -/

/-- The anchor slots in use show in SEC_STATUS. -/
def State.anchorShow (s : State) : State :=
  s.wr F.SEC_STATUS_ANCHORS ((numbersFrom 0 4).map fun k => if Tbl.has s.sec.anchors k then 2 ^ k else 0).sum

/-- Store an anchor, with an empty deny list. -/
def State.putAnchor (s : State) (slot : Nat) (cert : List Byte) : State :=
  ({ s with sec.anchors := Tbl.put s.sec.anchors slot { ca := cert } } : State).anchorShow

/-- The anchors or a deny list have changed: flag and system-class record (R459). -/
def State.anchorChanged (s : State) (slot : Nat) : State := s.flag Fl.SEC_EVENT_ANCHOR_CHANGE { system := true, idx := slot }

/-- What the first anchor on the service port answers (R450). -/
def State.claimStatus (s : State) (slot : Nat) (cert code : List Byte) : Status :=
  if s.sec.shut ∨ code ≠ Config.claimCode then .auth
  else if !Config.isCaCert cert then .param
  else if 3 < slot then .range
  else if s.mode = mSHELF then .state else .ok

/-- The first anchor, with the claim code: the claiming record, and keying may start (R449, R450, R491).  A wrong code counts, and
the third and every later one closes the port to claiming. -/
def State.claim (s : State) (h : Hdr) (slot : Nat) (cert code : List Byte) : State :=
  let st := s.claimStatus slot cert code
  let s1 : State := { s with hrt.serviceResp := [(0, st)] }
  if st = .ok then
    let s2 := (s1.putAnchor slot cert).wr F.SEC_STATUS_CLAIMED 1
    let s3 := ({ s2 with sec.wrong := 0 } : State).cmdRec 0x0D04 h .ok true [slot] true
    [0, 1].foldl (fun s p => if (s.port p).stage == .down then s.startKeying p else s) (s3.raise Fl.SEC_EVENT_ANCHOR_CHANGE)
  else if st = .auth then
    let n := s.sec.wrong + 1
    let s2 : State := if s.sec.shut then s1 else { s1 with sec.wrong := n, sec.shut := decide (3 ≤ n) }
    (s2.raise Fl.SEC_EVENT_AUTH_FAIL).cmdRec 0x0D04 h .auth
  else s1

/-- SEC_ANCHOR_SET (R450, R462). -/
def execSecAnchorSet (h : Hdr) (slot : Nat) (cert code : List Byte) (s : State) : Out :=
  .next <|
    if h.port = 2 ∧ s.sec.claiming = true ∧ s.isOn F.SEC_STATUS_CLAIMED = false then s.claim h slot cert code
    else s.command 0x0D04 rMaintainer h [(!Config.isCaCert cert, .param), (decide (3 < slot), .range)]
      fun s => .done ((s.putAnchor slot cert).anchorChanged slot) []

/-- The anchor that the session of a port chains to. -/
def State.anchorOf (s : State) (p : Nat) : Option Nat := (s.session p).map (·.anchor)

/-- SEC_ANCHOR_DELETE (R462). -/
def execSecAnchorDelete (h : Hdr) (slot : Nat) (s : State) : Out :=
  .next <| s.command 0x0D05 rMaintainer h [(decide (3 < slot), .range)]
    fun s =>
      if s.anchorOf h.port = some slot then .refuse .state
      else if !Tbl.has s.sec.anchors slot then .done s []
      else .done ((({ s with sec.anchors := Tbl.del s.sec.anchors slot } : State).anchorShow).anchorChanged slot) []

/-- Sessions whose chain holds a denied serial end. -/
def State.endDenied (s : State) (slot serial : Nat) : State :=
  [0, 1, 2].foldl (fun s p => match s.session p with
    | some x => if x.anchor = slot ∧ (x.cert = serial ∨ x.chain.contains serial = true) then s.cutSession p else s
    | none => s) s

/-- SEC_DENY_ADD (R449, R462). -/
def execSecDenyAdd (h : Hdr) (slot serial : Nat) (s : State) : Out :=
  .next <| s.command 0x0D06 rMaintainer h
    [(decide (2 ^ 160 ≤ serial), .param), (decide (3 < slot) || !Tbl.has s.sec.anchors slot, .range)]
    fun s =>
      let a : Anchor := Tbl.get { ca := [] } s.sec.anchors slot
      if 256 ≤ a.deny.length then .refuse .noResource
      else if a.deny.contains serial then .done s []
      else
        let s1 : State := { s with sec.anchors := Tbl.put s.sec.anchors slot { a with deny := a.deny ++ [serial] } }
        .done ((s1.anchorChanged slot).endDenied slot serial) []

/-- For how many minutes the service port is closed to claiming after `n` wrong codes: 10 after three, twice as long with each further one, up
to 24 h (R450). -/
def claimShut (n : Nat) : Nat := min 1440 (10 * 2 ^ (n - 3))

/-- CLAIM_LOCKOUT_EXPIRY (R450): the port has been closed to claiming for `minutes`. -/
def execClaimLockoutExpiry (minutes : Nat) (s : State) : Out :=
  .next (if minutes < claimShut s.sec.wrong then s else { s with sec.shut := false })

/-! ### Tamper (R458) -/

/-- SEC_TAMPER_CLEAR: the latch is reset, with a system-class record. -/
def execSecTamperClear (h : Hdr) (s : State) : Out :=
  .next <| s.command 0x0D07 rMaintainer h []
    fun s =>
      if s.isOn F.SEC_STATUS_LID_OPEN then .refuse .state
      else
        let s1 : State := { s with sec.latch := false, sec.note := none }
        .done ((s1.wrs [(F.SEC_STATUS_TAMPER_LATCHED, 0), (F.SEC_STATUS_TAMPER_UNPOWERED, 0)]).cmdRec 0x0D07 h .ok true) []

/-- TAMPER: the AON logic reads the sensor with its latch set, the lid `lid`.  A latch newly set is noted with the time, and the
module acts on the note at once, or when its image next runs. -/
def execTamper (lid : Bool) (s : State) : Out :=
  .next <|
    if s.pwr.phase = .cold ∨ s.pwr.phase = .unpowered then { s with sec.latch := true }
    else
      let s1 := s.wrB F.SEC_STATUS_LID_OPEN lid
      if s1.sec.latch then s1
      else
        let s2 : State := { s1 with sec.latch := true, sec.note := some (if s1.taiValid then s1.now else s1.rd F.REC_OPTIME_VALUE) }
        if s2.pwr.phase = .up ∧ s2.pwr.ctl = true ∧ s2.mode ≠ mSHELF then s2.tamperAct false else s2

/-! ### Settings and the time floor -/

/-- SEC_SET_CFG (R462). -/
def execSecSetCfg (h : Hdr) (w : Nat) (s : State) : Out :=
  .next <| s.command 0x0D08 rMaintainer h (((s.writeCheck 0x110004 w).map fun st => (true, st)).toList)
    fun s => .done (s.writeStore 0x110004 w) []

/-- TIME_FLOOR_SAVE (R451): the latest TAI goes into MRAM, at most once per hour. -/
def execTimeFloorSave (s : State) : Out :=
  .next <|
    if s.taiValid && decide (s.rd64 F.SEC_TIME_FLOOR_LO_NS F.SEC_TIME_FLOOR_HI_NS + 3600000000000 ≤ s.now) then (s.wr64 F.SEC_TIME_FLOOR_LO_NS F.SEC_TIME_FLOOR_HI_NS s.now).saveCounters else s

end Sys2Proof.Machine
end

