-- ==== Sys2Proof/Machine/Modes.lean ====
section
/-! DEFINITION. Modes, power states and start-up (R38–R65), wake from SHELF (R59, R60), the controller card's absence (R63–R65), card
replacement (R505, R506) and the thermal shutdown (R322–R324). -/

namespace Sys2Proof.Machine

/-! ### Requested transitions (R39, R40, R45) -/

/-- The module is started and its controller card runs. -/
def State.awake (s : State) : Bool := s.pwr.phase == .up && s.pwr.ctl && s.mode != mSHELF

/-- The transitions of R39 that a MODE_REQUEST asks for. -/
def askable (mode target : Nat) : Bool :=
  [(mSTANDBY, mSHELF), (mSTANDBY, mREADY), (mSTANDBY, mSERVICE), (mREADY, mSTANDBY), (mREADY, mRUN), (mRUN, mSTANDBY), (mRUN, mSERVICE),
   (mSERVICE, mRUN), (mSERVICE, mSTANDBY)].contains (mode, target)

/-- A balancing, motion or update operation is in progress (R39). -/
def State.working (s : State) : Bool :=
  s.bal.campaign.isSome || (s.bal.cards.any fun p => p.2.duties.any (· != 0)) ||
  ([0, 1].any fun x => [axMOVING, axSTOPPING, axHOMING].contains (s.axState x)) || s.hasOp 0x0702 || s.hasOp 0x0704 ||
  [3, 5, 7, 8].contains (s.rd F.UPD_STATUS_STATE)

/-- What refuses a request whose transition exists, in the order of R33: STATE, SAFETY, BUSY (R39, R40, R45, R282). -/
def State.askRefusal (s : State) (t : Nat) : Option Status :=
  let m := s.mode
  firstRefusal
    [(!askable m t, .state), (t == mSHELF && s.working, .state), (m == mRUN && t == mSERVICE && decide (s.cim.svcQuiet < 4000), .state),
     (m == mSERVICE && t == mRUN && s.readyBits != 0, .state), (t == mREADY && (s.readyBits != 0 || !s.guardClosed), .safety),
     (s.pwr.trans.isSome || (s.pwr.orderly.isSome && t != mSTANDBY), .busy),
     (t == mRUN && !s.closed && decide (s.time.count < s.safe.coolUntil), .busy)]

/-- Close the string: in a bank under a grant (R260, R281). -/
def State.closeNow (s : State) : State := if s.inBank then s.bankAsk else s.beginClosing

/-- Entry into SHELF (R52–R54, R126, R128, R236, R397): the request completes, and the links drop once that is acknowledged. -/
def State.shelfEnter (s : State) : State :=
  let s1 := ((((s.sbAbortAll 0).sbAbortAll 1).canAbortAll 0).canAbortAll 1).learnNow.saveCounters
  let s2 := (s1.outsDead.modeDone mSHELF byCommand).seLost
  let s3 := (s2.segList.foldl (fun s k => if s.segLive k then s.setSegState k segISOLATED else s) s2).allPathsOff.zeroDuties
  let s4 := s3.wrs ([(F.PWR_SEG_ON_ISLAND, 0), (F.SEG_TONE_SHELF_BURST, 1), (F.SEG_TONE_TONE_PRESENT, 0), (F.CIM_ISO_STATUS_ROLE, 0)] ++
    [0, 1].map fun c => (F.CAN_STATUS_INTEGRATED c, 0))
  ({ s4 with seg.armed := false, pwr.wakes := 0, pwr.dropping := true
             can := s4.can.map fun p => (p.1, { p.2 with integrating := false }) } : State).shelfDrop

/-- The accepted request runs: at once, or up to the end of the closing or of the orderly open. -/
def State.modeRun (s : State) (t : Nat) : State :=
  if t = mSHELF then s.shelfEnter
  else if t = mRUN then (if s.closed then s.estUnpark.modeDone mRUN byCommand else s.closeNow)
  else if t = mSTANDBY ∧ s.closed = true then s.startOrderly mSTANDBY byCommand
  else s.modeDone t byCommand

/-- MODE_REQUEST (R39, R40, R45). -/
def execModeRequest (h : Hdr) (target : Nat) (s : State) : Out :=
  .next <| s.commandThen 0x0101 (if target = mSERVICE then rMaintainer else rOperator) h [(decide (5 < target), .range)]
    (fun s => match s.askRefusal target with
      | some st => .refuse st
      | none => .accept (({ s with pwr.trans := some { target := target, tag := h.tag, index := s.cmdIndex 0x0101 h.tag, port := h.port } } : State).wrs
          [(F.SYS_MODE_TRANSITION, 1), (F.SYS_MODE_TARGET, target)]) 0 [])
    fun s => s.modeRun target

/-- A mode that no request asked for; a request that waits for another one ends with `st`. -/
def State.forceMode (s : State) (new cause : Nat) (st : Status) : State :=
  match s.pwr.trans with
  | some t => if t.target = new then s.modeDone new cause else ((({ s with bank.asking := false } : State).modeFail st).setMode new cause)
  | none => s.setMode new cause

/-- The shutdown record and its milestone (R323, R322 step 4). -/
def State.shutRecord (s : State) : State :=
  let r : ShutRec := { valid := true, peak := s.thm.peak, mode := s.thm.shutMode, tai := s.thm.shutTai, opMin := s.rd F.REC_OPTIME_VALUE
                       cycles := s.rd F.REC_POWER_CYCLES_VALUE, count := (s.thm.shut.count + 1) % 65536 }
  (({ s with thm.shut := r.sealed } : State).saveCounters).detail true ([11] ++ leBytes 1 (ofSigned 8 r.peak) ++ leBytes 2 r.count) .ok false true

/-- STF-C is treated as absent (R63, R445): dispatch, estimation, host links, CAN, the sensor buses and the bank link stop; the mode is
held. -/
def State.ctlGone (s : State) : State :=
  let s1 : State := { s with pwr.ctl := false, pwr.idle := false, bal.lost := s.bal.lost || s.bal.campaign.isSome, bal.campaign := none
                             bal.want := [], dsp := {}, bank := {}, sb := [], can := [] }
  (s1.portsDown.seLost).wrs ([(F.SEG_ALIGN_ALIGNED, 0)] ++ [0, 1].map fun c => (F.CAN_STATUS_INTEGRATED c, 0))

/-- The domains that STF-P holds off: APC, SE, NET-A, NET-B, FIELD, MOT and BANK (R322, step 5). -/
def heldDomains : Nat := 2 ^ 4 + 2 ^ 5 + 2 ^ 7 + 2 ^ 8 + 2 ^ 9 + 2 ^ 11 + 2 ^ 12

/-- Steps 3–5 of R322: the string is open. -/
def State.shutFinish (s : State) : State :=
  let s1 := if s.mode = mLOCKOUT ∨ s.mode = mSTANDBY then s else s.forceMode mSTANDBY byCondition .state
  let s2 := s1.learnNow.shutRecord.motSave.ctlGone
  ({ s2 with pwr.held := heldDomains, thm.heldOff := true, thm.shutting := false } : State).enterPower 0

/-- ORDERLY_OPEN_COMPLETE (R39, R283): the current has fallen or 5 s have passed; KP and KN open together and read off. -/
def execOrderlyOpenComplete (s : State) : Out :=
  .next <|
    match s.pwr.orderly with
    | none => s
    | some o =>
      let s1 : State := { s.outsDead with pwr.orderly := none }
      let s2 := if s1.thm.shutting then s1.shutFinish else s1.forceMode o.dest o.cause .state
      s2.setReady.openAllCheck

/-- READY_HOLD_EXPIRY (R39). -/
def execReadyHoldExpiry (s : State) : Out :=
  .next <| if s.mode = mREADY ∧ s.pwr.holdRun = true ∧ s.safe.closing = .idle then s.forceMode mSTANDBY byHold .state else s

/-- READY_CONDITION_LOST (R46, R282): READY_BLOCK is judged anew; a closing ends with it. -/
def execReadyConditionLost (s : State) : Out :=
  let s1 := s.setReady
  .next <|
    if s1.readyBits = 0 then s1
    else
      let s2 := if s1.safe.closing = .idle then s1 else s1.failClosing 7
      if s2.mode = mREADY then s2.forceMode mSTANDBY byCondition .safety else s2

/-! ### Further commands (R45) -/

/-- SET_LATENCY_TOLERANCE (R45, R50). -/
def execSetLatencyTolerance (h : Hdr) (tol : Nat) (s : State) : Out :=
  .next <| s.command 0x0102 rOperator h [(decide (two32 ≤ tol), .range)] fun s => .done (s.wr F.PWR_LAT_TOL_TOL_US tol).setFloor []

/-- RESTART (R45, R58): the learned state is written first (R236), then kind 3. -/
def execRestart (h : Hdr) (b : Boot) (s : State) : Out :=
  .next <| s.commandThen 0x0103 rMaintainer h [] (fun s => .done s.learnNow []) fun s => s.moduleRestart b

/-- READ_STATUS (R45). -/
def execReadStatus (h : Hdr) (s : State) : Out :=
  .next <| s.command 0x0104 rObserver h [] fun s => ret s (s.words [0x10, 0x10000, 0x10020, 0x10030])

/-! ### Power states (R49–R52) -/

/-- POWER_STATE_ENTRY (R50): the module is idle. -/
def execPowerStateEntry (s : State) : Out :=
  .next <|
    if !s.awake || s.thm.heldOff then s
    else
      let s1 := s.setFloor
      let p := s1.rd F.PWR_STATE_FLOOR
      let s2 := if 2 ≤ p ∧ s1.isOn F.SE_STATUS_POWERED = true then s1.seLost else s1
      ({ s2 with pwr.idle := true } : State).enterPower p

/-- POWER_STATE_EXIT (R50, R51): full service again. -/
def execPowerStateExit (s : State) : Out :=
  .next <| if !s.awake || s.thm.heldOff then s else ({ s with pwr.idle := false } : State).enterPower 0

/-- DOMAIN_POWER_TIMEOUT (R55): domains 0–12 of PWR_DOM_ON, and 13–38 the islands SEG01–SEG26; the start-up goes on without the domain; without SAFE-H, SAFE-P or CIM it ends in LOCKOUT. -/
def execDomainPowerTimeout (dom : Nat) (s : State) : Out :=
  .next <|
    if 12 < dom then
      let k := dom - 12
      if !s.segOk k then s
      else
        let on := s.rd F.PWR_SEG_ON_ISLAND
        let s1 := (s.pathsOff k).wr F.PWR_SEG_ON_ISLAND (on - (on &&& 2 ^ (k - 1)))
        (s1.setSegState k segISOLATED).gateTone.detail true [1, dom] .internal
    else
      let on := s.rd F.PWR_DOM_ON_DOM
      let s1 := ({ s with pwr.domFault := s.pwr.domFault ||| 2 ^ dom } : State).wr F.PWR_DOM_ON_DOM (on - (on &&& 2 ^ dom))
      (match dom with
      | 1 => s1.raiseCause .selftest 1
      | 2 => s1.raiseCause .selftest 2
      | 10 => s1.raiseCause .selftest 3
      | _ => s1).detail true [1, dom] .internal

/-- HOLDUP_OK_RETURN (R237). -/
def execHoldupOkReturn (s : State) : Out :=
  let s1 := s.wr F.PWR_AUX_STATUS_HOLDUP_OK 1
  .next (if s1.pwr.ctl then s1.learnResume else s1)

/-! ### Aux (R61, R62) -/

/-- Aux is there. -/
def State.powered (s : State) : Bool := !(s.pwr.phase == .cold || s.pwr.phase == .unpowered)

/-- The aux-loss sequence runs to its end. -/
def State.auxLossRun (s : State) : State :=
  let s1 := s.wr F.PWR_AUX_STATUS_AUX_LOSS 1
  let s2 :=
    if s1.awake then
      let s3 := ((s1.pubLimits (List.replicate 16 0)).sendLimits true true true true).detail true [2]
      let s4 := s3.endCampaign .aborted
      if s4.isOn F.PWR_AUX_STATUS_HOLDUP_OK then s4.learnNow else s4
    else s1.detail true [2]
  let s5 := (s2.outsDead.endClosing 6).saveCharge
  let s6 := if s5.pwr.ctl then s5.saveCounters else s5
  let s7 := (s6.segList.foldl (fun s k => if s.segLive k then s.setSegState k segISOLATED else s) s6.portsDown).allPathsOff.zeroDuties
  (({ s7 with
      pwr := { phase := .unpowered, ctl := s6.pwr.ctl }, safe.modeEntered := false, seg.armed := false } : State).wrs
    [(F.PWR_DOM_ON_DOM, 0), (F.PWR_SEG_ON_ISLAND, 0), (F.SYS_MODE_TRANSITION, 0), (F.SEG_TONE_TONE_PRESENT, 0)]).setX19

/-- AUX_BELOW_LOSS (R61): the fall that would be the eleventh dip within 1 s counts as aux loss. -/
def execAuxBelowLoss (mv : Nat) (s : State) : Out :=
  .next <|
    if !s.powered then s
    else
      let s1 := ({ s with pwr.auxLow := true } : State).wr F.PWR_AUX_STATUS_AUX_MV mv
      if 10 ≤ (s1.pwr.dips.filter fun t => decide (s1.time.count < t + 250000000)).length then s1.auxLossRun else s1

/-- AUX_DIP (R61): aux is back within 10 ms. -/
def execAuxDip (mv : Nat) (s : State) : Out :=
  .next <|
    if !s.powered || !s.pwr.auxLow then s
    else
      let c := s.time.count
      let s1 : State := { s with pwr.auxLow := false, pwr.dips := (s.pwr.dips.filter fun t => decide (c < t + 250000000)) ++ [c] }
      (s1.wr F.PWR_AUX_STATUS_AUX_MV mv).flag Fl.PWR_AUX_STATUS_AUX_DIP {}

/-- AUX_LOSS (R61): aux has stayed below the loss threshold for 10 ms. -/
def execAuxLoss (mv : Nat) (s : State) : Out :=
  .next <| if s.powered then (s.wr F.PWR_AUX_STATUS_AUX_MV mv).auxLossRun else s

/-- AUX_RETURN_STABLE (R62). -/
def execAuxReturnStable (b : Boot) (s : State) : Out := .next (if s.pwr.phase = .unpowered then s.powerOn b else s)

/-- POWER_ON (R56, R529): where start-up waits in PRIMER it goes on with the die reading that now allows it. -/
def execPowerOn (b : Boot) (s : State) : Out :=
  .next (if s.pwr.phase = .primer then (if b.die < -25 then s else s.powerOnPrimer b) else if s.powered then s else s.powerOn b)

/-! ### Wake from SHELF (R59, R60) -/

/-- In SHELF the first wake event starts the wake; events that follow it are recorded and cause nothing further. -/
def State.wake (s : State) (kind : Nat) (b : Boot) : State :=
  if s.pwr.phase = .up ∧ s.mode = mSHELF then s.shelfWake b
  else if s.pwr.phase = .up ∧ 0 < s.pwr.wakes then ({ s with pwr.wakes := s.pwr.wakes + 1 } : State).detail false [12, kind]
  else s

/-- SB_WAKE_MATCH (R433): an address on a branch of a sensor bus that is not isolated; it is acknowledged where ACK is set. -/
def execSbWakeMatch (c branch addr : Nat) (b : Boot) (s : State) : Out :=
  .next <|
    if 1 < c ∨ s.isOn (F.SB_WAKE_EN c) = false ∨ addr ≠ s.rd (F.SB_WAKE_ADDR c) ∨ 3 < branch ∨
       s.rd (F.SB_BRANCH_ISOLATED c) / 2 ^ branch % 2 = 1 then s
    else if s.mode = mSHELF ∧ s.pwr.phase = .up then
      let s1 := (s.wake 0 b).flag (Fl.SB_EVENT_WAKE c) { idx := c }
      s1.setSb c { s1.sbBus c with acked := s.isOn (F.SB_WAKE_ACK c) }
    else s.wake 0 b

/-- CAN_WAKE_FRAME (R415): a classical base-format data frame with its identifier and data. -/
def execCanWakeFrame (c id : Nat) (data : List Byte) (b : Boot) (s : State) : Out :=
  .next <|
    if 1 < c ∨ s.isOn (F.CAN_WAKE_EN c) = false ∨ (id &&& s.rd (F.CAN_WAKE_MASK c)) ≠ s.rd (F.CAN_WAKE_ID c) ∨
       (data.headD (s.rd (F.CAN_WAKE_DATA0 c)) ≠ s.rd (F.CAN_WAKE_DATA0 c)) then s
    else s.wake 1 b

/-- ETH_WAKE (R397): link energy after at least 1 s of silence. -/
def execEthWake (port : Nat) (b : Boot) (s : State) : Out := .next (if 1 < port then s else s.wake 2 b)

/-- SHELF_BURST_MISSING (R126). -/
def execShelfBurstMissing (b : Boot) (s : State) : Out := .next (s.wake 3 b)

/-! ### The controller card (R58, R63–R65, R445, R506) -/

/-- STF_C_WATCHDOG (R58, kind 4): with the watchdog source or PRIMER's fault code. -/
def execStfCWatchdog (detail : Nat) (b : Boot) (s : State) : Out :=
  .next <|
    if (s.pwr.phase = .up ∨ s.pwr.phase = .recovery) ∧ s.mode ≠ mSHELF ∧ s.thm.heldOff = false then s.controllerReset detail b else s

/-- STF_C_HEARTBEAT_LOSS (R63, R445). -/
def execStfCHeartbeatLoss (s : State) : Out :=
  .next <| if s.pwr.phase = .up ∧ s.pwr.ctl = true ∧ s.mode ≠ mSHELF then s.ctlGone else s

/-- CTL_ABSENCE_TIMEOUT (R64): the string is opened and held open; STF-P holds the mode until the controller returns. -/
def execCtlAbsenceTimeout (s : State) : Out :=
  .next <|
    if s.pwr.ctl = true ∨ s.mode = mSERVICE ∨ s.closed = false ∨ s.thm.heldOff = true then s
    else
      let s1 := (s.allOff.endClosing 7)
      { s1 with pwr.ctlOpened := true, pwr.orderly := none }

/-- A new controller card fills its MRAM from the mirror (R506); its identity, recorder and download session are its own. -/
def State.cardReplaced (s : State) (old new : Nat) (migrates : Bool) : State :=
  let m := s.recorder.mirror
  let c : SetCopy := if migrates then { s.packCopy with fields := s.recorder.mirrorSettings } else {}
  let s1 := ((s.useCopy c).resetRegs 0x100000 0x120000).resetRegs 0x120200 0x120208
  let s2 : State := { s1 with
    recorder := { s1.recorder with queue := [], last := [], first := [], evq := [], hold := [], counters0 := m, counters1 := {}, map := []
                                   reloc := none, coreShadow := none, coreAgreed := false, relocWait := [], firstBad := [], spent := s1.recorder.spent.filter (fun p => !inR 1 3 p.1)
                                   coreErr := [], cacheCorr := [], rowLife := [], eraseCnt := []
                                   mirrorHeld := !migrates, replaced := true }
    sec := {}, upd := { safeSw := s1.upd.safeSw, safe0 := s1.upd.safe0, safe1 := s1.upd.safe1, seg := s1.upd.seg, segData := s1.upd.segData }
    est.slotA := s1.est.mirror, est.slotB := {}, cim.mram := {}, thm.shut := { count := m.thermal }, safe.copy0 := [], safe.copy1 := [], pwr.ctl := true }
  let ex := s2.rd F.UC_STATUS_EXHAUSTED
  let s3 := (s2.wrs [(F.REC_HEAD_VALUE, m.head), (F.REC_OPTIME_VALUE, m.opMin), (F.REC_POWER_CYCLES_VALUE, m.cycles),
    (F.UC_SPARES_MRAM_ROWS, 256), (F.UC_SPARES_FLASH0, 32), (F.UC_SPARES_FLASH1, 32), (F.UC_STATUS_EXHAUSTED, ex - (ex &&& 14)),
    (F.UC_STATUS_CORE_REPLACED, 0), (F.UC_STATUS_RELOCATING, 0), (F.SAFE_COUNT_LOCKOUTS, m.lockouts)]).wr64 F.REC_SEQ_LO_VALUE F.REC_SEQ_HI_VALUE m.seq
  let s4 := (s3.wr64 F.SEC_TIME_FLOOR_LO_NS F.SEC_TIME_FLOOR_HI_NS m.floor).detail true ([1, 0] ++ leBytes 8 old ++ leBytes 8 new) .ok false true
  match s4.recorder.queue with
  | [] => s4
  | r :: t =>
    let p := s4.head
    (({ s4 with recorder := { s4.recorder with queue := t, first := [r], last := [(p % lastSlots, { pos := p, record := r, valid := true })] } } : State).wr
      F.REC_HEAD_VALUE ((p + 1) % two32)).firstShow

/-- CTL_INSERTED (R65, R506): a controller reset; a card with another serial number takes over from the mirror first. -/
def execCtlInserted (serial : Nat) (b : Boot) (s : State) : Out :=
  let old := Tbl.get 0 s.recorder.serials 0
  let new := old != 0 && old != serial
  .next <|
    if s.pwr.ctl = true ∨ s.powered = false then s
    else
      let s1 : State := { s with recorder.serials := Tbl.put s.recorder.serials 0 serial }
      let s2 := if new then s1.cardReplaced old serial b.migrates else s1
      if s2.thm.heldOff then { s2 with pwr.ctl := false }
      else
        let s3 := s2.controllerReset 0 b
        if !new || b.migrates || s3.pwr.phase != .up then s3
        else if s3.closed then s3.startOrderly mSTANDBY byCondition
        else if s3.mode = mSTANDBY ∨ s3.mode = mLOCKOUT then s3 else s3.setMode mSTANDBY byCondition

/-! ### Safety card and segment cards (R294, R505) -/

/-- SFC_WITHDRAWN (R505): every coil loses its switches, X19 opens. -/
def execSfcWithdrawn (s : State) : Out :=
  .next <|
    if !s.safe.present then s
    else
      let s1 := (if s.safe.closing = .idle then s else s.failClosing 6).outsDead
      ({ s1 with safe.present := false, recorder.stfpQ := [], recorder.omitted := 0 } : State).setX19

/-- SFC_INSERTED (R505): the card starts as at power-on and resumes the charge counter; the module leaves SERVICE.  A new card
holds the block found in MRAM as pending. -/
def execSfcInserted (serial : Nat) (b : Boot) (s : State) : Out :=
  let old := Tbl.get 0 s.recorder.serials 1
  let new := old != 0 && old != serial
  .next <|
    if s.safe.present ∨ s.powered = false then s
    else
      let s0 : State := { s with safe.present := true }
      let s1 : State := if !new then s0 else
        { s0 with safe := { present := true, copy0 := s.safe.copy0, copy1 := s.safe.copy1, modeEntered := s.safe.modeEntered }
                  cim.sfc := {}, upd.safeSw := { valid := true }, upd.safe0 := { valid := true }, upd.safe1 := {} }
      let s2 := ((((s1.sfcStart b).chargeResume (s1.rd F.REC_POWER_CYCLES_VALUE)).mirrorCharge).newSerial 1 2 0 serial).safeShow s1.safeFell
      let s3 := if s2.mode = mSERVICE then s2.setMode mSTANDBY byReset else s2
      let s4 : State := if new then { s3 with safe.pendingBlock := s3.safe.copy0, safe.pendingCert := 0 } else s3
      s4.mirrorRefresh.setReady.setX19

/-- The loop opens where a card no longer stands: the tone is lost, unless the slot is bypassed (R123, R125). -/
def State.openLoop (s : State) : State := if s.seg.armed && !s.toneThrough then s.toneLost else s.gateTone

/-- SEG_CARD_WITHDRAWN (R3, R95, R125, R294, R505): after its announcement the slot reads ABSENT; else the loop opens and the tone is
lost, and the state stays until the card is declared LOST. -/
def execSegCardWithdrawn (k : Nat) (s : State) : Out :=
  .next <|
    if k < 1 || 26 < k || !(s.segOf k).present then s
    else
      let on := s.rd F.PWR_SEG_ON_ISLAND
      let s1 := ((s.modSeg k fun x => { x with present := false, got := false, frame := none, join := 0 }).pathsOff k).wr F.PWR_SEG_ON_ISLAND
        (on - (on &&& 2 ^ (k - 1)))
      if s.wdSlot = k || !s.segOk k || (s.segOf k).blank then ((s1.modSeg k fun x => { x with blank := false }).setSegState k segABSENT).openLoop
      else s1.openLoop.setReady

/-! ### Thermal shutdown (R322–R324) -/

/-- THERMAL_SHUTDOWN: the die of STF-C has read at or above SHUTDOWN_C for 1 s; a second one within 1 h of a restart holds the domains
off until a power-on. -/
def execThermalShutdown (s : State) : Out :=
  .next <|
    if !s.awake || s.thm.shutting || s.thm.heldOff || decide (s.thm.hotMs < 1000) then s
    else
      let again := match s.thm.restartAt with
        | some t => decide (s.time.count < t + 900000000000)
        | none => false
      let s1 := if s.safe.closing = .idle then s else s.failClosing 7
      let s2 : State := { s1 with thm.shutting := true, thm.stuck := again, thm.shutMode := s.mode, thm.shutTai := s.recTai }
      let s3 := (((s2.wr F.SE_THROTTLE_PAUSE 7).setBudget).flag Fl.THM_EVENT_SHUTDOWN { system := true }).thmDrive
      if s3.closed then s3.startOrderly mSTANDBY byCondition else s3.shutFinish

/-- THERMAL_COOL_EXPIRY (R322, step 6, R324). -/
def execThermalCoolExpiry (b : Boot) (s : State) : Out :=
  .next <|
    if !s.thm.heldOff || s.thm.stuck then s
    else ({ s with pwr.held := 0, thm.heldOff := false, thm.restartAt := some s.time.count } : State).controllerReset 0 b

end Sys2Proof.Machine
end

