-- ==== Sys2Proof/Machine/Reg.lean ====
section
/-! DEFINITION. Accesses to set-up registers (R375, R376, R508–R515): the checks of a write in the order of R33, what a written
register changes beside its fields, reads with their side effects, set-up frames and the service port. -/

namespace Sys2Proof.Machine

/-! ### Registers that a command also sets (R375, R512) -/

/-- The axis and the offset of a register of one axis. -/
def motAddr (addr : Nat) : Option (Nat × Nat) :=
  if 0xB0100 ≤ addr ∧ addr < 0xB0300 then some ((addr - 0xB0100) / 0x100, addr % 0x100) else none

/-- The controller and the offset of a register of CAN or of the sensor bus. -/
def busAddr (base addr : Nat) : Option (Nat × Nat) :=
  if base ≤ addr ∧ addr < base + 0x10000 then some ((addr - base) / 0x8000, addr % 0x8000) else none

/-- The limits of MOT_SET_LIMITS by their offsets (R333). -/
def limOffset (o : Nat) : Bool := inR 0x10 0x20 o

/-- The opcode of the command that also sets a register, where its legality depends on the mode (R42, R375); 0 for none. -/
def setupOpcode (addr : Nat) : Nat :=
  match motAddr addr with
  | some x => if limOffset x.2 then 0x0706 else 0x0705
  | none =>
    match addr with
    | 0x10004 => 0x0102 | 0x40000 => 0x0201 | 0x50000 => 0x0301 | 0x60030 => 0x020C | 0x80000 => 0x0405 | 0x80004 => 0x0404
    | 0x80050 => 0x0406 | 0x80054 => 0x0406 | 0x80058 => 0x0406 | 0xA0000 => 0x0602 | 0xA0004 => 0x0602 | 0xA0008 => 0x0602
    | 0xA0014 => 0x0609 | 0xA0018 => 0x0609 | 0xA001C => 0x0609 | 0x130000 => 0x1002 | 0x130004 => 0x0507 | 0x130014 => 0x0507
    | 0x130018 => 0x0507
    | _ => 0

/-- Ring registers: written while RINGS_ON is 1 they are ignored (R377). -/
def ringReg (addr : Nat) : Bool := inR 0x30200 0x303FF addr

/-- What the command checks beyond the ranges of the fields; `s1` is the state with the word stored. -/
def State.crossBad (s1 : State) (addr w : Nat) : Bool :=
  match motAddr addr with
  | some (x, o) => if limOffset o then decide (s1.rd (F.MOT_DEMERG_VALUE x) < s1.rd (F.MOT_DMAX_VALUE x)) else s1.motCross x
  | none =>
    match busAddr 0xC0000 addr with
    | some (c, o) =>
      let b := canBase c
      (decide (o < 12) && canCfgBad c (s1.readWord b).1 (s1.readWord (b + 4)).1 (s1.readWord (b + 8)).1) ||
      inR 0x1000 0x17FF o || inR 0x400 0x43F o || inR 0x500 0x51F o ||
      (inR 0x520 0x57F o && !(inR 16 63 w || inR 65 66 w))
    | none =>
      match busAddr 0xD0000 addr with
      | some (c, o) => o == 8 && (!tgtAddrOk (s1.rd (F.SB_TGT_ADDR c)) || !tgtAddrOk (s1.rd (F.SB_TGT_ADDR2 c)))
      | none =>
        if 0x20100 ≤ addr ∧ addr < 0x20180 ∧ addr % 32 = 0 then
          let n := (addr - 0x20100) / 32
          s1.rd (F.TIME_TO_CFG_MODE n) == 3 || (w / 16 % 2 == 1 && !outOk (s1.rd (F.TIME_TO_CFG_MODE n)) (s1.rd (F.TIME_TO_PERIOD_VALUE n))
            (s1.rd (F.TIME_TO_PERIOD_FRAC_VALUE n)) (s1.rd (F.TIME_TO_WIDTH_VALUE n)))
        else if 0x302C0 ≤ addr ∧ addr < 0x30400 ∧ addr % 32 = 0x10 then
          !([0, 2, 3, 4, 6].contains (s1.rd (F.HRT_RING_TLM_KIND ((addr - 0x30200) / 32))))
        else match addr with
          | 0x50020 => decide (s1.rd F.BAL_THROTTLE_STOP_C < s1.rd F.BAL_THROTTLE_THROTTLE_C + 8)
          | 0x80008 => decide (s1.rd F.EST_SIGMA_THRESH < s1.rd F.EST_SIGMA_CLEAR)
          | 0x60030 => decide (s1.rd F.CIM_ISO_CFG_WARN_KOHM < s1.rd F.CIM_ISO_CFG_ALARM_KOHM)
          | 0x80050 | 0x80054 => s1.limitsBad (s1.rd F.EST_VLIM_V_LO) (s1.rd F.EST_VLIM_V_HI) (s1.rd F.EST_ILIM_PEAK_A) (s1.rd F.EST_ILIM_CONT_A)
          | 0xA0004 => s1.rd F.THM_SETPOINT_SETPOINT == markS 16
          | 0xA0008 => decide (s1.rd F.THM_VALVE_LIM_HI < s1.rd F.THM_VALVE_LIM_LO)
          | 0xA0014 => s1.rd F.THM_BAL_T_START == markS 16
          | 0xA0018 => decide (s1.rdI F.THM_DIE_CFG_SHUTDOWN_C ≤ s1.rdI F.THM_DIE_CFG_RESTART_C) ||
              [F.THM_DIE_CFG_SE_THROTTLE_C, F.THM_DIE_CFG_SHUTDOWN_C, F.THM_DIE_CFG_RESTART_C, F.THM_DIE_CFG_SEG_HOT_C].any
                fun f => s1.rd f == markS 8
          | _ => false

/-- The command that sets the register would answer BUSY. -/
def State.writeBusy (s s1 : State) (addr : Nat) : Bool :=
  match motAddr addr with
  | some (x, o) => !limOffset o && !s.axStill x
  | none =>
    match busAddr 0xC0000 addr with
    | some (c, o) =>
      if 0x1000 ≤ o ∧ o < 0x3000 then
        let n := (o - 0x1000) / 128
        s.isOn (F.CAN_MB_CTRL_REQ c n) && (o % 128 != 0 || s.rd (F.CAN_MB_CTRL_DIR c n) != s1.rd (F.CAN_MB_CTRL_DIR c n) ||
          s.rd (F.CAN_MB_CTRL_TIMED c n) != s1.rd (F.CAN_MB_CTRL_TIMED c n))
      else false
    | none =>
      match busAddr 0xD0000 addr with
      | some (c, _) => s.isOn (F.SB_STATUS_CLEARING c)
      | none =>
        if 0x302C0 ≤ addr ∧ addr < 0x30400 ∧ (addr % 32 = 0x10 ∨ addr % 32 = 0x14) then
          s.rd (F.HRT_RING_TLM_KIND ((addr - 0x30200) / 32)) == 5
        else addr == 0x80000 && (s.opOf 0x0405 0).isSome

/-! ### What a written word changes -/

/-- A written word without its W1S bits: those are requests, not values. -/
def plainBits (addr w : Nat) : Nat :=
  match findRow addr regTable with
  | none => w
  | some r => (r.fields.map fun f => if f.acc == .w1s then 0 else fieldBits f w * 2 ^ f.lo).sum

/-- The owner of an axis follows its owner bit, but for homing. -/
def State.ownAxis (s : State) (x : Nat) (b : Bool) : State :=
  if s.axState x = axHOMING then s else s.wr (F.MOT_STATE_OWNER x) (if b then 1 else 0)

/-- THM_CFG has been written (R313–R315): the axes get their positions from their new owners, the loop follows LOOP_EN. -/
def State.thmCfgDone (s0 s : State) : State :=
  let same (f : Field) : Bool := s0.rd f == s.rd f
  let s1 : State := { s with thm.sent := s.thm.sent && same F.THM_CFG_VALVE_OWNER, thm.sentD := s.thm.sentD && same F.THM_CFG_DAMPER_OWNER }
  let s2 := (s1.ownAxis 0 (s1.isOn F.THM_CFG_VALVE_OWNER)).ownAxis 1 (s1.isOn F.THM_CFG_DAMPER_OWNER)
  let s3 := if s2.isOn F.THM_CFG_LOOP_EN then s2.thmMode else if s2.seBusy 2 then s2.seDisable 2 else s2
  s3.reloadLoop.thmDrive

/-- The monitor is switched off: WARN and ALARM are cleared (R167). -/
def State.isoCtrlDone (s : State) : State :=
  if s.isOn F.CIM_ISO_CTRL_ENABLE then s.isoRole
  else ((({ s with cim.belowWarn := 0, cim.aboveWarn := 0, cim.belowAlarm := 0, cim.aboveAlarm := 0 } : State).wrs
    [(F.CIM_ISO_STATUS_WARN, 0), (F.CIM_ISO_STATUS_ALARM, 0)]).isoRole).setReady

/-- HRT_CFG has been written: a change of RINGS_ON starts or stops the rings (R377). -/
def State.hrtCfgDone (s0 s : State) (w : Nat) : State :=
  let s1 := s.wr F.HRT_CFG_RINGS_ON (s0.rd F.HRT_CFG_RINGS_ON)
  if w % 2 = 1 then s1.setRingsOn else if s0.isOn F.HRT_CFG_RINGS_ON then s1.ringsOff else s1

/-- A word of a timed output's CFG: ARM, which is kept where DISARM comes with it, or DISARM (R364). -/
def State.toCfgDone (s : State) (n w : Nat) : State :=
  if w / 16 % 2 = 1 then s.toArm n else if w / 32 % 2 = 1 then s.toDisarm n else s

/-- BAL_CFG has been written: a learned wire that now lies above RW_LIMIT sets the flag, with a record naming it (R147). -/
def State.rwLimitShow (s0 s : State) : State :=
  let lim (s : State) : Rat := 1000 * (s.rd F.BAL_CFG_RW_LIMIT : Rat)
  (s.segList.flatMap fun k => (numbersFrom 0 17).map fun w => (k, w)).foldl (fun s p =>
    match s.rwOf p.1 p.2 with
    | some r => if lim s < r ∧ r ≤ lim s0 then s.flag Fl.BAL_EVENT_RW_LIMIT { system := true, idx := p.1, detail := [p.2] } else s
    | none => s) s

/-- A CAN register has been written: CTRL of a buffer (R405, R407, R409), CAN_CTRL (R411), the configuration (R413). -/
def State.canDoneWrite (s0 s : State) (c o w : Nat) (won : Bool) : State :=
  if o = 0xC then (if w % 2 = 1 then s.canRecover c else s)
  else if o < 0xC then (if s.canCfgKey c = s0.canCfgKey c then s else s.canChanged c)
  else if 0x1000 ≤ o ∧ o < 0x3000 ∧ o % 128 = 0 then
    let n := (o - 0x1000) / 128
    let s1 := if s.rd (F.CAN_MB_CTRL_DIR c n) = s0.rd (F.CAN_MB_CTRL_DIR c n) then s
      else s.wrs [(F.CAN_MB_CTRL_NEW c n, 0), (F.CAN_MB_CTRL_LOCKED c n, 0), (F.CAN_MB_CTRL_OVERWRITE c n, 0)]
    let s2 := if w / 8 % 2 = 1 then s1.canRequestAt c n won else s1
    if w / 16 % 2 = 1 then s2.canCancel c n won else s2
  else s

/-- SB_CFG, SB_TGT and SB_WAKE with one of them written; in force at once, or with the next free bus (R435). -/
def State.sbWrite (s : State) (c addr w : Nat) (r : BusSense) : State :=
  let b := sbBase c
  let cur := match (s.sbBus c).cfg with
    | some x => x.1
    | none => [(s.readWord b).1, (s.readWord (b + 8)).1, (s.readWord (b + 12)).1]
  let ws := cur.set (if addr = b then 0 else if addr = b + 8 then 1 else 2) w
  if s.isOn (F.SB_STATUS_BUS_BUSY c) || s.isOn (F.SB_STATUS_XFER_ACTIVE c) then s.setSb c { s.sbBus c with cfg := some (ws, r) }
  else s.sbApply c ws r

/-- The word is stored and takes the effect of the command that also sets the register, or its own. -/
def State.writeEffect (s : State) (o : SetupOp) : State :=
  let a := o.addr
  let w := o.value
  match busAddr 0xD0000 a with
  | some (c, off) => if off = 0 ∨ off = 8 ∨ off = 12 then s.sbWrite c a w o.clear else s.writeStore a (plainBits a w)
  | none =>
    let s1 := s.writeStore a (plainBits a w)
    match motAddr a with
    | some (x, off) => if limOffset off then s.motLimits s1 x else (s1.axEnable x).setFloor
    | none =>
      match busAddr 0xC0000 a with
      | some (c, off) => State.canDoneWrite s s1 c off w o.won
      | none =>
        if 0x20100 ≤ a ∧ a < 0x20180 ∧ a % 32 = 0 then s1.toCfgDone ((a - 0x20100) / 32) w
        else match a with
          | 0x10004 => s1.setFloor
          | 0x20000 | 0x20004 | 0x20008 | 0x2000C | 0x20050 | 0x20054 => s1.timeCfgDone
          | 0x30000 => State.hrtCfgDone s s1 w
          | 0x50000 => State.rwLimitShow s s1
          | 0x60034 => s1.isoCtrlDone
          | 0x70014 => s1.setBudget
          | 0xA0000 => State.thmCfgDone s s1
          | 0xA0004 | 0xA0008 => s1.reloadLoop.thmDrive
          | 0xA000C => (s1.wr (F.MOT_LINKLOSS_POS 0) (s1.rd F.THM_VALVE_POS_LO)).thmDrive
          | 0xF0000 => if w % 2 = 1 then s1.recWindow else s1
          | _ => s1

/-- A host's write, in the order of R33 and R512: PARAM, RANGE, STATE, BUSY; then all of it takes effect. -/
def State.hostWrite (s : State) (o : SetupOp) : State × Status :=
  match s.writeCheck o.addr o.value with
  | some st => (s, st)
  | none =>
    if ringReg o.addr && s.isOn F.HRT_CFG_RINGS_ON then (s, .ok)
    else
      let s1 := s.writeStore o.addr o.value
      let op := setupOpcode o.addr
      if s1.crossBad o.addr o.value then (s, .range)
      else if op ≠ 0 ∧ legal op s.mode s.closed = false then (s, .state)
      else if State.writeBusy s s1 o.addr then (s, .busy)
      else (s.writeEffect o, .ok)

/-- In the MBX block, words with a behaviour of their own are written by their own commands; the rest are MBX_EVENT and MBX_OWN
of the mailboxes that are not fixed in hardware (R438–R443). -/
def mbxWordPlain (addr : Nat) : Bool :=
  !inR 0xE0000 0xEFFFF addr || addr == 0xE0410 || (decide (addr < 0xE01C0) && addr % 16 == 0xC)

/-- The firmware's write: the table's checks alone (R511, R512). -/
def State.fwWrite (s : State) (o : SetupOp) : State × Status :=
  match s.tableCheck o.addr o.value with
  | some st => (s, st)
  | none => if mbxWordPlain o.addr then (s.writeEffect o, .ok) else (s, .ok)

/-! ### Reads (R513, R514) -/

/-- Low words of the pairs with the words that their read latches (R105, R349, R366). -/
def latchedBy (addr : Nat) : List Nat :=
  if addr = F.SEG_PLUMB_IDX_LO_IDX_LO.addr ∨ addr = F.CIM_CHARGE_LO_UC.addr ∨ addr = F.SE_STEP_IDX_LO_IDX.addr ∨
      addr = F.SE_INJ_START_LO_IDX.addr ∨ addr = F.SE_CAP_FIRST_LO_IDX.addr ∨ addr = F.SEC_TIME_FLOOR_LO_NS.addr ∨
      addr = F.REC_SEQ_LO_VALUE.addr ∨ addr = F.TIME_COUNT_LO_VALUE.addr then [addr + 4]
  else if addr = F.TIME_NOW_LO_VALUE.addr ∨ addr = (F.TIME_TI_TS_LO_VALUE 0).addr ∨ addr = (F.TIME_TI_TS_LO_VALUE 1).addr then [addr + 4, addr + 8]
  else []

/-- The key of an agent's latch. -/
def latchKey (agent addr : Nat) : Nat := two32 * agent + addr

/-- A low word is read: the words paired with it are latched for the agent. -/
def State.latchFor (s : State) (agent : Nat) (l : List Nat) : State :=
  { s with latches := l.foldl (fun m a => Tbl.put m (latchKey agent a) (s.readWord a).1) s.latches }

/-- The window of TIME shows this cycle. -/
def State.timeFor (s : State) (addr : Nat) : State := if inR 0x2001C 0x20037 addr then s.latchTime else s

/-- What a read of a word by an agent returns: its latch where the agent holds one. -/
def State.wordFor (s : State) (agent addr : Nat) : Nat × Status :=
  if Tbl.has s.latches (latchKey agent addr) then (Tbl.get 0 s.latches (latchKey agent addr), .ok) else s.readWord addr

/-- Side effects of a read on CAN and sensor bus windows. -/
def State.readTakes (s : State) (addr : Nat) : State :=
  match busAddr 0xC0000 addr with
  | some (c, o) =>
    if o < 0x1000 ∨ 0x3100 ≤ o then s
    else
      let n := (o - 0x1000) / 128
      if o % 128 = 4 then s.canIdLock c n else if addr = s.canLastAddr c n then s.canLastWord c n else s
  | none =>
    match busAddr 0xD0000 addr with
    | some (c, o) => if o = 0x80 then s.sbFifo c ((s.sbBus c).fifo.drop 1) else s
    | none => s

/-- A read of a register word by an agent: the state after it, the value and the status (R509, R513). -/
def State.agentRead (s : State) (agent addr : Nat) : State × (Nat × Status) :=
  let s1 := s.timeFor addr
  let s2 := if addr = (F.TIME_TI_TS_LO_VALUE 0).addr then s1.tiPop 0 else if addr = (F.TIME_TI_TS_LO_VALUE 1).addr then s1.tiPop 1 else s1
  let r := s2.wordFor agent addr
  if r.2 ≠ .ok then (s, r)
  else ((s2.latchFor agent (latchedBy addr)).readTakes addr, r)

/-- PAIRED_LOW_WORD_READ (R513, R514). -/
def execPairedLowWordRead (agent addr : Nat) (s : State) : Out :=
  .next <|
    if (latchedBy addr).isEmpty then s
    else
      let r := s.agentRead agent addr
      { r.1 with lastRead := r.2.1 }

/-! ### Writes and set-up operations -/

/-- The agents through which a host reaches the registers (R514). -/
abbrev agHRT : Nat := 0xA
abbrev agSERVICE : Nat := 0xD

/-- A role that an operation lacks is flagged and recorded (R454). -/
def State.roleDenied (s : State) (port : Nat) : State := s.flag Fl.SEC_EVENT_ROLE_DENIED { status := .role, idx := port }

/-- One operation of a host (R375, R512): the state after it, the value read or written back, the status. -/
def State.setupOp (s : State) (agent port : Nat) (o : SetupOp) : State × (Nat × Status) :=
  if !hasRole (s.portRoles port) (if o.write then rMaintainer else rObserver) then (s.roleDenied port, (0, .role))
  else if o.write then
    let r := s.hostWrite o
    (r.1, ((r.1.readWord o.addr).1, r.2))
  else s.agentRead agent o.addr

/-- REGISTER_WRITE (R512): by the host through set-up frames of a port or the service port, or by an agent of the firmware. -/
def execRegisterWrite (agent port : Nat) (o : SetupOp) (s : State) : Out :=
  .next <|
    if agent = agHRT then (if port ≤ 1 then (s.setupOp agent port { o with write := true }).1 else s)
    else if agent = agSERVICE then (s.setupOp agent 2 { o with write := true }).1
    else if s.agentOk agent then (s.fwWrite o).1 else s

/-- Operations in order, with their responses (R375). -/
def State.setupOps (s : State) (agent port : Nat) : List SetupOp → List (Nat × Status) → State × List (Nat × Status)
  | [], acc => (s, acc.reverse)
  | o :: os, acc => let r := s.setupOp agent port o; r.1.setupOps agent port os (r.2 :: acc)

/-- SETUP_REQ (R375): the response to the most recent SEQ is kept; the same SEQ again changes nothing. -/
def execSetupReq (port : Nat) (f : FrameIn) (seq : Nat) (ops : List SetupOp) (s : State) : Out :=
  .next <|
    if !s.frameOk port f then s.frameDrop port f
    else if !s.pwr.ctl || s.mode == mSHELF || s.hrt.setupSeq == some (seq % two32) || ops.isEmpty ||
       decide (64 < ops.length) then s.frameTook port f
    else
      let r := (s.frameTook port f).setupOps agHRT port ops []
      { r.1 with hrt.setupSeq := some (seq % two32), hrt.setupResp := r.2 }

/-- SERVICE_SETUP_OP (R376): after the authentication on the service port. -/
def execServiceSetupOp (o : SetupOp) (s : State) : Out :=
  .next <|
    if s.sec.service.isNone || !s.pwr.ctl || s.mode == mSHELF then s
    else
      let r := s.setupOp agSERVICE 2 o
      { r.1 with hrt.serviceResp := r.1.hrt.serviceResp ++ [r.2] }

end Sys2Proof.Machine
end

