-- ==== Sys2Proof/Machine/Dispatch.lean ====
section
/-! DEFINITION. Every command of the table and the meaning it has. -/

namespace Sys2Proof.Machine

def exec (i : Instr) (s : State) : Host.Outcome State Fault Refusal :=
  match i with
  | .powerOn b => Sys2Proof.Machine.execPowerOn b s
  | .domainPowerTimeout dom => Sys2Proof.Machine.execDomainPowerTimeout dom s
  | .auxBelowLoss mv => Sys2Proof.Machine.execAuxBelowLoss mv s
  | .auxDip mv => Sys2Proof.Machine.execAuxDip mv s
  | .auxLoss mv => Sys2Proof.Machine.execAuxLoss mv s
  | .auxReturnStable b => Sys2Proof.Machine.execAuxReturnStable b s
  | .holdupOkReturn => Sys2Proof.Machine.execHoldupOkReturn s
  | .powerStateEntry => Sys2Proof.Machine.execPowerStateEntry s
  | .powerStateExit => Sys2Proof.Machine.execPowerStateExit s
  | .sbWakeMatch c branch addr b => Sys2Proof.Machine.execSbWakeMatch c branch addr b s
  | .canWakeFrame c id data b => Sys2Proof.Machine.execCanWakeFrame c id data b s
  | .ethWake port b => Sys2Proof.Machine.execEthWake port b s
  | .shelfBurstMissing b => Sys2Proof.Machine.execShelfBurstMissing b s
  | .stfCWatchdog detail b => Sys2Proof.Machine.execStfCWatchdog detail b s
  | .stfCHeartbeatLoss => Sys2Proof.Machine.execStfCHeartbeatLoss s
  | .ctlAbsenceTimeout => Sys2Proof.Machine.execCtlAbsenceTimeout s
  | .ctlInserted serial b => Sys2Proof.Machine.execCtlInserted serial b s
  | .sfcInserted serial b => Sys2Proof.Machine.execSfcInserted serial b s
  | .psuOutOfTolerance b => Sys2Proof.Machine.execPsuOutOfTolerance b s
  | .readyHoldExpiry => Sys2Proof.Machine.execReadyHoldExpiry s
  | .readyConditionLost => Sys2Proof.Machine.execReadyConditionLost s
  | .orderlyOpenComplete => Sys2Proof.Machine.execOrderlyOpenComplete s
  | .commandTake entry => Sys2Proof.Machine.execCommandTake entry s
  | .bulkDataTimeout op tag => Sys2Proof.Machine.execBulkDataTimeout op tag s
  | .modeRequest h target => Sys2Proof.Machine.execModeRequest h target s
  | .setLatencyTolerance h tol => Sys2Proof.Machine.execSetLatencyTolerance h tol s
  | .restart h b => Sys2Proof.Machine.execRestart h b s
  | .readStatus h => Sys2Proof.Machine.execReadStatus h s
  | .hrtStatus h => Sys2Proof.Machine.execHrtStatus h s
  | .hrtPortSwitch h port => Sys2Proof.Machine.execHrtPortSwitch h port s
  | .hrtTlmSet h ring kind slot div first count => Sys2Proof.Machine.execHrtTlmSet h ring kind slot div first count s
  | .hrtSummaryRate h hz => Sys2Proof.Machine.execHrtSummaryRate h hz s
  | .setAveraging h n => Sys2Proof.Machine.execSetAveraging h n s
  | .rawStreamStart h ring mask => Sys2Proof.Machine.execRawStreamStart h ring mask s
  | .rawStreamStop h => Sys2Proof.Machine.execRawStreamStop h s
  | .calCheck h k => Sys2Proof.Machine.execCalCheck h k s
  | .segStatus h k => Sys2Proof.Machine.execSegStatus h k s
  | .spareAssign h k j => Sys2Proof.Machine.execSpareAssign h k j s
  | .segReset h k => Sys2Proof.Machine.execSegReset h k s
  | .wireStatus h k => Sys2Proof.Machine.execWireStatus h k s
  | .wireFaultClear h k => Sys2Proof.Machine.execWireFaultClear h k s
  | .cimStatus h => Sys2Proof.Machine.execCimStatus h s
  | .isoMeasureNow h => Sys2Proof.Machine.execIsoMeasureNow h s
  | .isoSetThresh h warn alarm => Sys2Proof.Machine.execIsoSetThresh h warn alarm s
  | .balSetMode h m => Sys2Proof.Machine.execBalSetMode h m s
  | .balCampaignStart h kind target deadband limit => Sys2Proof.Machine.execBalCampaignStart h kind target deadband limit s
  | .balCampaignStop h => Sys2Proof.Machine.execBalCampaignStop h s
  | .balSetDuty h cell duty => Sys2Proof.Machine.execBalSetDuty h cell duty s
  | .balStatus h k => Sys2Proof.Machine.execBalStatus h k s
  | .balLearnRw h k => Sys2Proof.Machine.execBalLearnRw h k s
  | .balRwRead h k => Sys2Proof.Machine.execBalRwRead h k s
  | .estStatus h => Sys2Proof.Machine.execEstStatus h s
  | .estCellRead h first count => Sys2Proof.Machine.execEstCellRead h first count s
  | .estOcvLoad h table => Sys2Proof.Machine.execEstOcvLoad h table s
  | .estSetReserve h base k rHigh => Sys2Proof.Machine.execEstSetReserve h base k rHigh s
  | .estSetRate h rate => Sys2Proof.Machine.execEstSetRate h rate s
  | .estSetLimits h vLo vHi peak cont tMax tMinChg => Sys2Proof.Machine.execEstSetLimits h vLo vHi peak cont tMax tMinChg s
  | .estCellReset h cell => Sys2Proof.Machine.execEstCellReset h cell s
  | .estLearnWrite h => Sys2Proof.Machine.execEstLearnWrite h s
  | .estChemLoad h block => Sys2Proof.Machine.execEstChemLoad h block s
  | .dspStatus h => Sys2Proof.Machine.execDspStatus h s
  | .dspScheduleLoad h data => Sys2Proof.Machine.execDspScheduleLoad h data s
  | .dspScheduleStart h => Sys2Proof.Machine.execDspScheduleStart h s
  | .dspScheduleStop h => Sys2Proof.Machine.execDspScheduleStop h s
  | .dspSetpoint h kind value ramp => Sys2Proof.Machine.execDspSetpoint h kind value ramp s
  | .dspPerturb h k amp dur start => Sys2Proof.Machine.execDspPerturb h k amp dur start s
  | .dspSetCfg h cfg canId maxMa => Sys2Proof.Machine.execDspSetCfg h cfg canId maxMa s
  | .thmStatus h => Sys2Proof.Machine.execThmStatus h s
  | .thmSetLoop h setpoint sel kc ti f ff vMin vMax deadband => Sys2Proof.Machine.execThmSetLoop h setpoint sel kc ti f ff vMin vMax deadband s
  | .thmValveSet h vo dow valve damper => Sys2Proof.Machine.execThmValveSet h vo dow valve damper s
  | .thmNtcMapLoad h map => Sys2Proof.Machine.execThmNtcMapLoad h map s
  | .thmTune h step dur => Sys2Proof.Machine.execThmTune h step dur s
  | .thmTuneApply h => Sys2Proof.Machine.execThmTuneApply h s
  | .thmTuneStop h => Sys2Proof.Machine.execThmTuneStop h s
  | .thmShutdownAck h => Sys2Proof.Machine.execThmShutdownAck h s
  | .thmDieSet h seC shutC restartC hotC cool tStart => Sys2Proof.Machine.execThmDieSet h seC shutC restartC hotC cool tStart s
  | .motStatus h => Sys2Proof.Machine.execMotStatus h s
  | .motMove h x rel p => Sys2Proof.Machine.execMotMove h x rel p s
  | .motStop h x emergency => Sys2Proof.Machine.execMotStop h x emergency s
  | .motHome h x => Sys2Proof.Machine.execMotHome h x s
  | .motSetCfg h x w => Sys2Proof.Machine.execMotSetCfg h x w s
  | .motSetLimits h x vmax amax dmax jmax demerg => Sys2Proof.Machine.execMotSetLimits h x vmax amax dmax jmax demerg s
  | .motTableLoad h x data => Sys2Proof.Machine.execMotTableLoad h x data s
  | .motAxisReset h x => Sys2Proof.Machine.execMotAxisReset h x s
  | .timeStatus h => Sys2Proof.Machine.execTimeStatus h s
  | .timeSetCfg h cfg ptp servo hold asymA asymB => Sys2Proof.Machine.execTimeSetCfg h cfg ptp servo hold asymA asymB s
  | .timeSet h tai => Sys2Proof.Machine.execTimeSet h tai s
  | .timeToArm h n mode timeline start period frac width => Sys2Proof.Machine.execTimeToArm h n mode timeline start period frac width s
  | .timeToDisarm h n => Sys2Proof.Machine.execTimeToDisarm h n s
  | .timeTiRead h n count => Sys2Proof.Machine.execTimeTiRead h n count s
  | .canStatus h c => Sys2Proof.Machine.execCanStatus h c s
  | .canSetCfg h c cfg nbt dbt wake => Sys2Proof.Machine.execCanSetCfg h c cfg nbt dbt wake s
  | .canFilterSet h c k id mask ide target en => Sys2Proof.Machine.execCanFilterSet h c k id mask ide target en s
  | .canMbSet h c n dir id fmt retry => Sys2Proof.Machine.execCanMbSet h c n dir id fmt retry s
  | .canTx h c n timed data => Sys2Proof.Machine.execCanTx h c n timed data s
  | .canCancel h c n won => Sys2Proof.Machine.execCanCancel h c n won s
  | .canRxRead h c src count => Sys2Proof.Machine.execCanRxRead h c src count s
  | .canRecover h c => Sys2Proof.Machine.execCanRecover h c s
  | .sbStatus h c => Sys2Proof.Machine.execSbStatus h c s
  | .sbSetCfg h c cfg tgt wake r => Sys2Proof.Machine.execSbSetCfg h c cfg tgt wake r s
  | .sbXfer h c addr tenBit data rd pec noRstart => Sys2Proof.Machine.execSbXfer h c addr tenBit data rd pec noRstart s
  | .sbTgtWrite h c image => Sys2Proof.Machine.execSbTgtWrite h c image s
  | .sbTgtRead h c count => Sys2Proof.Machine.execSbTgtRead h c count s
  | .sbBranchRestore h c mask r => Sys2Proof.Machine.execSbBranchRestore h c mask r s
  | .sbBusReset h c r => Sys2Proof.Machine.execSbBusReset h c r s
  | .recStatus h => Sys2Proof.Machine.execRecStatus h s
  | .recRead h area pos count => Sys2Proof.Machine.execRecRead h area pos count s
  | .recNote h text => Sys2Proof.Machine.execRecNote h text s
  | .ucSubstitute h pool a j => Sys2Proof.Machine.execUcSubstitute h pool a j s
  | .cardPrepare h kind => Sys2Proof.Machine.execCardPrepare h kind s
  | .updStatus h => Sys2Proof.Machine.execUpdStatus h s
  | .updBegin h header ecdsa mldsa => Sys2Proof.Machine.execUpdBegin h header ecdsa mldsa s
  | .updChunk h c crc data => Sys2Proof.Machine.execUpdChunk h c crc data s
  | .updVerify h => Sys2Proof.Machine.execUpdVerify h s
  | .updActivate h mig b => Sys2Proof.Machine.execUpdActivate h mig b s
  | .updConfirm h target => Sys2Proof.Machine.execUpdConfirm h target s
  | .updHandback h target b => Sys2Proof.Machine.execUpdHandback h target b s
  | .updAbort h => Sys2Proof.Machine.execUpdAbort h s
  | .secStatus h => Sys2Proof.Machine.execSecStatus h s
  | .secQuote h nonce => Sys2Proof.Machine.execSecQuote h nonce s
  | .secCertRead h => Sys2Proof.Machine.execSecCertRead h s
  | .secAnchorSet h slot cert code => Sys2Proof.Machine.execSecAnchorSet h slot cert code s
  | .secAnchorDelete h slot => Sys2Proof.Machine.execSecAnchorDelete h slot s
  | .secDenyAdd h slot serial => Sys2Proof.Machine.execSecDenyAdd h slot serial s
  | .secTamperClear h => Sys2Proof.Machine.execSecTamperClear h s
  | .secSetCfg h w => Sys2Proof.Machine.execSecSetCfg h w s
  | .safeParamLoad h block sigOk => Sys2Proof.Machine.execSafeParamLoad h block sigOk s
  | .safeParamConfirm h generation echoCrc echoes => Sys2Proof.Machine.execSafeParamConfirm h generation echoCrc echoes s
  | .safeParamRead h => Sys2Proof.Machine.execSafeParamRead h s
  | .safeStatus h => Sys2Proof.Machine.execSafeStatus h s
  | .safeReset h m => Sys2Proof.Machine.execSafeReset h m s
  | .safeStop h => Sys2Proof.Machine.execSafeStop h s
  | .withdrawAnnounce h slot => Sys2Proof.Machine.execWithdrawAnnounce h slot s
  | .withdrawCancel h => Sys2Proof.Machine.execWithdrawCancel h s
  | .seKernelLoad h slot data => Sys2Proof.Machine.execSeKernelLoad h slot data s
  | .seKernelCommit h slot => Sys2Proof.Machine.execSeKernelCommit h slot s
  | .seKernelDisable h slot => Sys2Proof.Machine.execSeKernelDisable h slot s
  | .seTableLoad h table list idx bp1 bp2 grid => Sys2Proof.Machine.execSeTableLoad h table list idx bp1 bp2 grid s
  | .seInstanceRead h slot first count => Sys2Proof.Machine.execSeInstanceRead h slot first count s
  | .seInstanceWrite h slot inst states params => Sys2Proof.Machine.execSeInstanceWrite h slot inst states params s
  | .seInjectStart h wave amp k k2 len chip start ramp => Sys2Proof.Machine.execSeInjectStart h wave amp k k2 len chip start ramp s
  | .seInjectStop h => Sys2Proof.Machine.execSeInjectStop h s
  | .seCaptureArm h sel pace trig trigIdx pre => Sys2Proof.Machine.execSeCaptureArm h sel pace trig trigIdx pre s
  | .seCaptureRead h => Sys2Proof.Machine.execSeCaptureRead h s
  | .seCorrStart h mask ks tInt imin start => Sys2Proof.Machine.execSeCorrStart h mask ks tInt imin start s
  | .seCorrRead h bin first count => Sys2Proof.Machine.execSeCorrRead h bin first count s
  | .seStatus h => Sys2Proof.Machine.execSeStatus h s
  | .bankStatus h => Sys2Proof.Machine.execBankStatus h s
  | .bankSetCfg h size vmatch derate => Sys2Proof.Machine.execBankSetCfg h size vmatch derate s
  | .bankOpenAll h => Sys2Proof.Machine.execBankOpenAll h s
  | .registerWrite agent port o => Sys2Proof.Machine.execRegisterWrite agent port o s
  | .w1cFlagClear addr bit hw => Sys2Proof.Machine.execW1cFlagClear addr bit hw s
  | .pairedLowWordRead agent addr => Sys2Proof.Machine.execPairedLowWordRead agent addr s
  | .tiTimestampRead n => Sys2Proof.Machine.execTiTimestampRead n s
  | .toArm n disarm => Sys2Proof.Machine.execToArm n disarm s
  | .toDisarm n => Sys2Proof.Machine.execToDisarm n s
  | .setRingsOn => Sys2Proof.Machine.execSetRingsOn s
  | .clearRingsOn => Sys2Proof.Machine.execClearRingsOn s
  | .canMbIdRead c n => Sys2Proof.Machine.execCanMbIdRead c n s
  | .canMbLastWordRead c n => Sys2Proof.Machine.execCanMbLastWordRead c n s
  | .canFifoHeadRead c f => Sys2Proof.Machine.execCanFifoHeadRead c f s
  | .req c n meet => Sys2Proof.Machine.execReq c n meet s
  | .cancel c n won => Sys2Proof.Machine.execCancel c n won s
  | .recover c => Sys2Proof.Machine.execRecover c s
  | .sbTgtRxRead c => Sys2Proof.Machine.execSbTgtRxRead c s
  | .mbxDataWrite agent n word => Sys2Proof.Machine.execMbxDataWrite agent n word s
  | .mbxDataRead agent n => Sys2Proof.Machine.execMbxDataRead agent n s
  | .mbxAckWrite agent n code => Sys2Proof.Machine.execMbxAckWrite agent n code s
  | .release agent n => Sys2Proof.Machine.execRelease agent n s
  | .mbxDoorbellSet agent target bits => Sys2Proof.Machine.execMbxDoorbellSet agent target bits s
  | .lock proxy => Sys2Proof.Machine.execLock proxy s
  | .read => Sys2Proof.Machine.execRead s
  | .mbxReceiverReset agent held ack => Sys2Proof.Machine.execMbxReceiverReset agent held ack s
  | .mbxSenderReset agent => Sys2Proof.Machine.execMbxSenderReset agent s
  | .bridgeDown word copies => Sys2Proof.Machine.execBridgeDown word copies s
  | .proxyHeartbeat => Sys2Proof.Machine.execProxyHeartbeat s
  | .bridgeReturn => Sys2Proof.Machine.execBridgeReturn s
  | .linkUp port gig eee => Sys2Proof.Machine.execLinkUp port gig eee s
  | .eapolReceive port m => Sys2Proof.Machine.execEapolReceive port m s
  | .eapSuccess port => Sys2Proof.Machine.execEapSuccess port s
  | .eapRetryTimeout port seconds => Sys2Proof.Machine.execEapRetryTimeout port seconds s
  | .mkaSakReceived port xpn server => Sys2Proof.Machine.execMkaSakReceived port xpn server s
  | .mkaLifetimeExpiry port => Sys2Proof.Machine.execMkaLifetimeExpiry port s
  | .linkDown port => Sys2Proof.Machine.execLinkDown port s
  | .doorbell port f ring index seq => Sys2Proof.Machine.execDoorbell port f ring index seq s
  | .readResp port f tag status => Sys2Proof.Machine.execReadResp port f tag status s
  | .ack port f seq => Sys2Proof.Machine.execAck port f seq s
  | .setupReq port f seq ops => Sys2Proof.Machine.execSetupReq port f seq ops s
  | .serviceSetupOp o => Sys2Proof.Machine.execServiceSetupOp o s
  | .retxTimeout read => Sys2Proof.Machine.execRetxTimeout read s
  | .hostIdxPoll idx => Sys2Proof.Machine.execHostIdxPoll idx s
  | .notifyCoalTimeout ring => Sys2Proof.Machine.execNotifyCoalTimeout ring s
  | .telemetryFrame ring => Sys2Proof.Machine.execTelemetryFrame ring s
  | .summaryFrame => Sys2Proof.Machine.execSummaryFrame s
  | .eventPost => Sys2Proof.Machine.execEventPost s
  | .eventRingRoom => Sys2Proof.Machine.execEventRingRoom s
  | .serviceIdleTimeout minutes => Sys2Proof.Machine.execServiceIdleTimeout minutes s
  | .claimLockoutExpiry minutes => Sys2Proof.Machine.execClaimLockoutExpiry minutes s
  | .timeFloorSave => Sys2Proof.Machine.execTimeFloorSave s
  | .tamper lid => Sys2Proof.Machine.execTamper lid s
  | .plumbInstant shunt flux tShunt => Sys2Proof.Machine.execPlumbInstant shunt flux tShunt s
  | .frameReceived k a b r => Sys2Proof.Machine.execFrameReceived k a b r s
  | .frameIntake => Sys2Proof.Machine.execFrameIntake s
  | .cardLost k => Sys2Proof.Machine.execCardLost k s
  | .cardIsolated k => Sys2Proof.Machine.execCardIsolated k s
  | .ringBreak hop aLost bLost => Sys2Proof.Machine.execRingBreak hop aLost bLost s
  | .ringWhole trips => Sys2Proof.Machine.execRingWhole trips s
  | .lathDirectionDegraded b => Sys2Proof.Machine.execLathDirectionDegraded b s
  | .echoMeasure trips => Sys2Proof.Machine.execEchoMeasure trips s
  | .cardPresent k serial ov uv blank fac => Sys2Proof.Machine.execCardPresent k serial ov uv blank fac s
  | .cardPresentStable k trips => Sys2Proof.Machine.execCardPresentStable k trips s
  | .joinCheckDone k c rel => Sys2Proof.Machine.execJoinCheckDone k c rel s
  | .provisionalExpiry k => Sys2Proof.Machine.execProvisionalExpiry k s
  | .balancingHoldExpiry k => Sys2Proof.Machine.execBalancingHoldExpiry k s
  | .segCardFault k => Sys2Proof.Machine.execSegCardFault k s
  | .averagingWindowEnd => Sys2Proof.Machine.execAveragingWindowEnd s
  | .spareDwellEnd k fail => Sys2Proof.Machine.execSpareDwellEnd k fail s
  | .wireBlockEnd k echo => Sys2Proof.Machine.execWireBlockEnd k echo s
  | .comparatorAssert k j uv us gap => Sys2Proof.Machine.execComparatorAssert k j uv us gap s
  | .cmpTrip k j uv us => Sys2Proof.Machine.execCmpTrip k j uv us s
  | .comparatorTest k ov uv => Sys2Proof.Machine.execComparatorTest k ov uv s
  | .keepaliveLow k => Sys2Proof.Machine.execKeepaliveLow k s
  | .toneArmed => Sys2Proof.Machine.execToneArmed s
  | .toneLost => Sys2Proof.Machine.execToneLost s
  | .toneArmingDeadline rel => Sys2Proof.Machine.execToneArmingDeadline rel s
  | .balSlot rb => Sys2Proof.Machine.execBalSlot rb s
  | .balPeriod => Sys2Proof.Machine.execBalPeriod s
  | .balDutiesReceived k => Sys2Proof.Machine.execBalDutiesReceived k s
  | .leaseExpired k => Sys2Proof.Machine.execLeaseExpired k s
  | .balGuardRelease k j => Sys2Proof.Machine.execBalGuardRelease k j s
  | .balDutyRecompute => Sys2Proof.Machine.execBalDutyRecompute s
  | .balLearnWindow k begins => Sys2Proof.Machine.execBalLearnWindow k begins s
  | .chargeCounterSave => Sys2Proof.Machine.execChargeCounterSave s
  | .hallFault mv supPos supNeg span move => Sys2Proof.Machine.execHallFault mv supPos supNeg span move s
  | .xcheckCompare hallSum code => Sys2Proof.Machine.execXcheckCompare hallSum code s
  | .xcheckCause => Sys2Proof.Machine.execXcheckCause s
  | .vstringUpdate a b => Sys2Proof.Machine.execVstringUpdate a b s
  | .isoHalfPeriodEnd dv rp ce vp vn foreign => Sys2Proof.Machine.execIsoHalfPeriodEnd dv rp ce vp vn foreign s
  | .isoResultAge => Sys2Proof.Machine.execIsoResultAge s
  | .bankIsoTimeout => Sys2Proof.Machine.execBankIsoTimeout s
  | .sePowerUp lanesOk => Sys2Proof.Machine.execSePowerUp lanesOk s
  | .seStep => Sys2Proof.Machine.execSeStep s
  | .seStepOverrun done => Sys2Proof.Machine.execSeStepOverrun done s
  | .injectStartIndex => Sys2Proof.Machine.execInjectStartIndex s
  | .chirpEnd => Sys2Proof.Machine.execChirpEnd s
  | .captureTrigger => Sys2Proof.Machine.execCaptureTrigger s
  | .capDone => Sys2Proof.Machine.execCapDone s
  | .corrDone => Sys2Proof.Machine.execCorrDone s
  | .estRefresh cells => Sys2Proof.Machine.execEstRefresh cells s
  | .estResistanceRegression => Sys2Proof.Machine.execEstResistanceRegression s
  | .estSocUpdate => Sys2Proof.Machine.execEstSocUpdate s
  | .estLimits => Sys2Proof.Machine.execEstLimits s
  | .estSlot0Park => Sys2Proof.Machine.execEstSlot0Park s
  | .learnWriteHourly => Sys2Proof.Machine.execLearnWriteHourly s
  | .writeDone ok => Sys2Proof.Machine.execWriteDone ok s
  | .dspPublish => Sys2Proof.Machine.execDspPublish s
  | .limitNarrowing => Sys2Proof.Machine.execLimitNarrowing s
  | .scheduleEntryDue => Sys2Proof.Machine.execScheduleEntryDue s
  | .setpointLateCancel won => Sys2Proof.Machine.execSetpointLateCancel won s
  | .perturbAck start k => Sys2Proof.Machine.execPerturbAck start k s
  | .perturbAckTimeout => Sys2Proof.Machine.execPerturbAckTimeout s
  | .bankMessageReceived pos m => Sys2Proof.Machine.execBankMessageReceived pos m s
  | .parallelReq pos volt => Sys2Proof.Machine.execParallelReq pos volt s
  | .grant reason => Sys2Proof.Machine.execGrant reason s
  | .closed pos => Sys2Proof.Machine.execClosed pos s
  | .grantLapse => Sys2Proof.Machine.execGrantLapse s
  | .grantWaitExpiry => Sys2Proof.Machine.execGrantWaitExpiry s
  | .bankModuleLost pos => Sys2Proof.Machine.execBankModuleLost pos s
  | .bankRingBreak broken => Sys2Proof.Machine.execBankRingBreak broken s
  | .bankHeartbeatSend => Sys2Proof.Machine.execBankHeartbeatSend s
  | .bankShareUpdate => Sys2Proof.Machine.execBankShareUpdate s
  | .safetyInputChange si ch demand => Sys2Proof.Machine.execSafetyInputChange si ch demand s
  | .discrepancy si => Sys2Proof.Machine.execDiscrepancy si s
  | .ssdDelayExpiry => Sys2Proof.Machine.execSsdDelayExpiry s
  | .inputTestPulse source lowA lowB heldA heldB => Sys2Proof.Machine.execInputTestPulse source lowA lowB heldA heldB s
  | .feedbackTimeout si => Sys2Proof.Machine.execFeedbackTimeout si s
  | .rstPulse closeSkew openSkew width m => Sys2Proof.Machine.execRstPulse closeSkew openSkew width m s
  | .resetWindowExpiry => Sys2Proof.Machine.execResetWindowExpiry s
  | .weldTestCloseEnd rel => Sys2Proof.Machine.execWeldTestCloseEnd rel s
  | .outputReadback rb coilLow supply supplyLow beats => Sys2Proof.Machine.execOutputReadback rb coilLow supply supplyLow beats s
  | .outputTestPulse o inTime => Sys2Proof.Machine.execOutputTestPulse o inTime s
  | .xlinkDemand ch => Sys2Proof.Machine.execXlinkDemand ch s
  | .xlinkLost => Sys2Proof.Machine.execXlinkLost s
  | .clock ppm => Sys2Proof.Machine.execClock ppm s
  | .prechargeDone => Sys2Proof.Machine.execPrechargeDone s
  | .closeConfirm => Sys2Proof.Machine.execCloseConfirm s
  | .prechargeTimeout => Sys2Proof.Machine.execPrechargeTimeout s
  | .svwCountExpiry k j high shadow => Sys2Proof.Machine.execSvwCountExpiry k j high shadow s
  | .svwFrame k j high => Sys2Proof.Machine.execSvwFrame k j high s
  | .slcPeak ch least => Sys2Proof.Machine.execSlcPeak ch least s
  | .slcTime ch least => Sys2Proof.Machine.execSlcTime ch least s
  | .sdiTrip chg ch least => Sys2Proof.Machine.execSdiTrip chg ch least s
  | .stwTrip kind ch => Sys2Proof.Machine.execStwTrip kind ch s
  | .stwSensor => Sys2Proof.Machine.execStwSensor s
  | .paramPendingExpiry => Sys2Proof.Machine.execParamPendingExpiry s
  | .paramCrcCompare => Sys2Proof.Machine.execParamCrcCompare s
  | .withdrawTimeout => Sys2Proof.Machine.execWithdrawTimeout s
  | .thmNtcReport => Sys2Proof.Machine.execThmNtcReport s
  | .dieSample c p hh mot => Sys2Proof.Machine.execDieSample c p hh mot s
  | .thmBalPauseUpdate => Sys2Proof.Machine.execThmBalPauseUpdate s
  | .segHot k => Sys2Proof.Machine.execSegHot k s
  | .thermalShutdown => Sys2Proof.Machine.execThermalShutdown s
  | .thermalCoolExpiry b => Sys2Proof.Machine.execThermalCoolExpiry b s
  | .tuneDone => Sys2Proof.Machine.execTuneDone s
  | .moveComplete x => Sys2Proof.Machine.execMoveComplete x s
  | .holdDelayExpiry x => Sys2Proof.Machine.execHoldDelayExpiry x s
  | .motorFault x kind tick => Sys2Proof.Machine.execMotorFault x kind tick s
  | .limitInputEdge x k isOpen p tick => Sys2Proof.Machine.execLimitInputEdge x k isOpen p tick s
  | .limitTrip x positive tick => Sys2Proof.Machine.execLimitTrip x positive tick s
  | .stall x p tick => Sys2Proof.Machine.execStall x p tick s
  | .homeEdge x => Sys2Proof.Machine.execHomeEdge x s
  | .homeSearchTimeout x tick => Sys2Proof.Machine.execHomeSearchTimeout x tick s
  | .motLinkMessage tick r0 r1 => Sys2Proof.Machine.execMotLinkMessage tick r0 r1 s
  | .motLinkLoss => Sys2Proof.Machine.execMotLinkLoss s
  | .motPowerUp => Sys2Proof.Machine.execMotPowerUp s
  | .motCardInserted serial => Sys2Proof.Machine.execMotCardInserted serial s
  | .ptpMessage port vlan secured udp domain m => Sys2Proof.Machine.execPtpMessage port vlan secured udp domain m s
  | .announceTimeout port => Sys2Proof.Machine.execAnnounceTimeout port s
  | .degraded => Sys2Proof.Machine.execDegraded s
  | .toPulse n => Sys2Proof.Machine.execToPulse n s
  | .tiEdge n rising ns held => Sys2Proof.Machine.execTiEdge n rising ns held s
  | .canFrameReceived c f => Sys2Proof.Machine.execCanFrameReceived c f s
  | .canTimedRelease c n => Sys2Proof.Machine.execCanTimedRelease c n s
  | .canTxComplete c n sent => Sys2Proof.Machine.execCanTxComplete c n sent s
  | .busOff c => Sys2Proof.Machine.execBusOff c s
  | .canAutoRecover c => Sys2Proof.Machine.execCanAutoRecover c s
  | .canRecoveryDone c => Sys2Proof.Machine.execCanRecoveryDone c s
  | .canIntegrated c => Sys2Proof.Machine.execCanIntegrated c s
  | .canIntegrateTimeout c => Sys2Proof.Machine.execCanIntegrateTimeout c s
  | .sbXferStart c stop ns => Sys2Proof.Machine.execSbXferStart c stop ns s
  | .sbXferDone c nack pec data => Sys2Proof.Machine.execSbXferDone c nack pec data s
  | .arbLost c byte bit cond => Sys2Proof.Machine.execArbLost c byte bit cond s
  | .sbStartTimeout c => Sys2Proof.Machine.execSbStartTimeout c s
  | .stretchTo c k r => Sys2Proof.Machine.execStretchTo c k r s
  | .sbTargetAddressed c addr bytes rd => Sys2Proof.Machine.execSbTargetAddressed c addr bytes rd s
  | .shadowRunEnd => Sys2Proof.Machine.execShadowRunEnd s
  | .shadowBreach quantity value => Sys2Proof.Machine.execShadowBreach quantity value s
  | .updHandover => Sys2Proof.Machine.execUpdHandover s
  | .handbackCause cause b => Sys2Proof.Machine.execHandbackCause cause b s
  | .updVerifyDone => Sys2Proof.Machine.execUpdVerifyDone s
  | .safeImageTransfer image ecdsa mldsa selfOk paramOk contacts => Sys2Proof.Machine.execSafeImageTransfer image ecdsa mldsa selfOk paramOk contacts s
  | .segUpdateCardDone ok => Sys2Proof.Machine.execSegUpdateCardDone ok s
  | .imageRecovery header body ecdsa mldsa b => Sys2Proof.Machine.execImageRecovery header body ecdsa mldsa b s
  | .recordPost => Sys2Proof.Machine.execRecordPost s
  | .sysCounterSave => Sys2Proof.Machine.execSysCounterSave s
  | .scrub m words fail erases => Sys2Proof.Machine.execScrub m words fail erases s
  | .relocated => Sys2Proof.Machine.execRelocated s
  | .coreShadowEnd agree b => Sys2Proof.Machine.execCoreShadowEnd agree b s
  | .segCardWithdrawn k => Sys2Proof.Machine.execSegCardWithdrawn k s
  | .sfcWithdrawn => Sys2Proof.Machine.execSfcWithdrawn s
  | .motCardWithdrawn => Sys2Proof.Machine.execMotCardWithdrawn s
  | .psuInTolerance b serial => Sys2Proof.Machine.execPsuInTolerance b serial s
  | .canBusError c lec tx dom arb inFlag => Sys2Proof.Machine.execCanBusError c lec tx dom arb inFlag s
  | .axisAtRest x p => Sys2Proof.Machine.execAxisAtRest x p s
  | .weldCheckEnd => Sys2Proof.Machine.execWeldCheckEnd s
  | .rstStuckClear => Sys2Proof.Machine.execRstStuckClear s
  | .serviceSessionOpen c => Sys2Proof.Machine.execServiceSessionOpen c s

end Sys2Proof.Machine
end

