-- ==== Sys2Proof/WellFormed.lean ====
section
/-! DEFINITION. Well-formed commands: every operand fits the width in which it travels. -/

namespace Sys2Proof

/-- A count, an address, a time or a mask: at most 64 bits. -/
def wN (n : Nat) : Bool := decide (n < 2 ^ 64)

/-- A signed quantity of at most 64 bits. -/
def wI (i : Int) : Bool := decide (-(2 ^ 63) ≤ i) && decide (i < 2 ^ 63)

/-- Bytes are below 256. -/
def wBytes (bs : List Byte) : Bool := bs.all fun b => decide (b < 256)

def wOpt {α : Type} (p : α → Bool) : Option α → Bool
  | none => true
  | some x => p x

def wNN (p : Nat × Nat) : Bool := wN p.1 && wN p.2

def wNNN (p : Nat × (Nat × Nat)) : Bool := wN p.1 && wNN p.2

def wNI (p : Nat × Int) : Bool := wN p.1 && wI p.2

/-- A header: a 32-bit TAG and one of the four ports of R490. -/
def wHdr (h : Hdr) : Bool := decide (h.tag < two32) && decide (h.port < 4)

/-- What holds the lines of a sensor bus names some of the four branches (R429, R430). -/
def wBus (r : BusSense) : Bool := decide (r.sda < 16) && decide (r.scl < 16) && wOpt wN r.release

/-- A set-up operation: a byte address and a word of 32 bits (R375). -/
def wOp (o : SetupOp) : Bool := decide (o.addr < two32) && decide (o.value < two32) && wBus o.clear

/-- What has run out on a sensor bus, in µs (R428). -/
def wStretch : Stretch → Bool
  | .held us => wN us
  | .total us => wN us
  | .byte us => wN us

/-- The bytes changed in a copy of a frame: places within its two codewords, changes of one byte (R91, R92). -/
def wCopy : Copy → Bool
  | .absent => true
  | .hit errs => errs.all fun e => decide (e.1 < 72) && decide (e.2 < 256)

def w24 (i : Int) : Bool := decide (missing24 ≤ i) && decide (i < 8388608)

/-- What a card's converters give at an instant: 16 cells, the NTC's code of 16 bits and the die temperature an int8 (R66, R92). -/
def wCard (r : CardRead) : Bool :=
  decide (r.cells.length = 16) && r.cells.all wI && wI r.sum && wI r.spare && decide (r.ntc < 65536) && decide (-128 ≤ r.die)
    && decide (r.die < 128)

/-- Factory data of a segment card: up to 16 paths within 1 % of 16.0 Ω where given (R131), 18 converters with three coefficients
each (R86). -/
def wFac (f : CardFac) : Bool :=
  decide (f.rpath.length ≤ 16) && f.rpath.all (fun r => decide (15840 ≤ r) && decide (r ≤ 16160)) && wI f.ref && wN f.turn
    && decide (f.gain.length ≤ 18) && f.gain.all (fun l => decide (l.length = 3) && l.all wI)
    && decide (f.off.length ≤ 18) && f.off.all (fun l => decide (l.length = 3) && l.all wI)

/-- Codes that a card echoes: 16 bits each, and a wire (R113, R118). -/
def wEcho (e : CmpEcho) : Bool := decide (e.ov < 65536) && decide (e.uv < 65536) && decide (e.wire < 32)

def wJoin (c : JoinCheck) : Bool := wI c.ref && wI c.cells && wI c.sum && wI c.shadow && wEcho c.echo

/-- Conditions by cause code, and comparators of a slot by two bits a cell (R120, R296). -/
def wReset (m : ResetRead) : Bool := wN m.held && m.rel.all fun p => decide (p.1 ≤ 26) && decide (p.2 < two32)

/-- A PTP message: an interval of 2⁻⁸ s to 2⁸ s, times below 2⁶⁴ ns (R352–R357). -/
def wPtp : PtpMsg → Bool
  | .announce lo hi rank => decide (lo < two32) && decide (hi < two32) && rank.all wN
  | .sync log2 o i => decide (-8 ≤ log2) && decide (log2 ≤ 8) && wN o && wN i
  | .delay _ o b => wI o && wI b
  | .other => true

/-- A frame at a host port: a VLAN of 12 bits, an address of 48 bits, at most a MACsec frame's length (R368–R371). -/
def wFrame (f : FrameIn) : Bool :=
  wOpt (fun v => decide (v < 4096)) f.vlan && decide (f.source < 2 ^ 48) && decide (f.length < 65536) && decide (f.version < 256) && wN f.pn

/-- A CAN frame sent: its start-of-frame, and buffers of the controller (R407). -/
def wSent (x : CanSent) : Bool := wN x.sof && x.late.all fun n => decide (n < 64)

def wAck (p : Nat × Status) : Bool := wN p.1

/-- A certificate: serials of up to 20 octets (R451, R462). -/
def wCert (c : Cert) : Bool :=
  decide (c.serial < 2 ^ 160) && c.chain.all (fun x => decide (x < 2 ^ 160)) && wN c.roles && wN c.notAfter && wN c.notBefore

def wMem : MemRegion → Bool
  | .safety p => decide (p < 4)
  | .sram a => wN a
  | .dram a t => wN a && wOpt wN t
  | .seInst k i => wN k && wN i
  | .seCoef k => wN k
  | .seTable t => wN t
  | .mram a => wN a
  | .flash d b => wN d && wN b
  | .cache c => wN c

def wEap : EapMsg → Bool
  | .step => true
  | .certificate c => wCert c
  | .failure => true

/-- A command entry is 64 bytes long (R382). -/
def wEntry (e : List Byte) : Bool := wBytes e && decide (e.length = 64)

/-- A CAN frame: an 11-bit or 29-bit identifier, a 4-bit DLC, data bytes (R401). -/
def wCan (f : CanFrame) : Bool :=
  decide (f.id < if f.ide then 2 ^ 29 else 2 ^ 11) && decide (f.dlc < 16) && wBytes f.data && decide (f.data.length ≤ 64) && wN f.time

def wBank : BankMsg → Bool
  | .heartbeat m _ fw _ _ => decide (m < 8) && wN fw
  | .stringState mean idx _ volt soc sigma cap eLow eHigh ls =>
    wOpt wI mean && wN idx && wOpt wI volt && wN soc && wN sigma && wN cap && wI eLow && wI eHigh && ls.all wI
  | .bankLimits ls chg dis => ls.all wI && chg.all (fun p => wN p.1) && dis.all (fun p => wN p.1)
  | .parallelReq v => wI v
  | .grant p r => wN p && wN r
  | .closed => true
  | .isoResult a b c d => wN a && wN b && wN c && wN d
  | .corrStart st bins t im => wN st && bins.all wNN && wN t && wN im
  | .marker idx _ _ paths => wN idx && paths.all (fun p => wN p.arrival && wN p.delay && wN p.hops)
  | .openAll => true

def wAxis (r : AxisRead) : Bool :=
  wI r.pos && wI r.vel && wI r.acc && wI r.ua && wI r.ub && wI r.ca && wI r.cb && wI r.da && wI r.db && wN r.vm

/-- What a start finds: two image banks, sixteen contacts, segment slots and bus samples within their ranges (R56). -/
def wBoot (b : Boot) : Bool :=
  decide (b.banks < 4) && decide (b.contacts < 65536) && wN b.strap && b.serials.all wNN
    && b.rel.all (fun p => decide (p.1 ≤ 26) && decide (p.2 < two32))
    && b.joins.all (fun j => decide (1 ≤ j.slot) && decide (j.slot ≤ 26) && wNN (j.rtA, j.rtB) && wJoin j.check)
    && wBus b.sb0 && wBus b.sb1 && b.empty.all (fun k => decide (k ≤ 26)) && b.facs.all (fun p => decide (p.1 ≤ 26) && wFac p.2)
    && decide (-128 ≤ b.die) && decide (b.die < 128)

/-- Every operand of the command fits. -/
def Instr.wf : Instr → Bool
  | .powerOn b => wBoot b
  | .domainPowerTimeout dom => wN dom
  | .auxBelowLoss mv => wN mv
  | .auxDip mv => wN mv
  | .auxLoss mv => wN mv
  | .auxReturnStable b => wBoot b
  | .holdupOkReturn => true
  | .powerStateEntry => true
  | .powerStateExit => true
  | .sbWakeMatch c branch addr b => wN c && wN branch && wN addr && wBoot b
  | .canWakeFrame c id data b => wN c && wN id && wBytes data && wBoot b
  | .ethWake port b => wN port && wBoot b
  | .shelfBurstMissing b => wBoot b
  | .stfCWatchdog detail b => wN detail && wBoot b
  | .stfCHeartbeatLoss => true
  | .ctlAbsenceTimeout => true
  | .ctlInserted serial b => wN serial && wBoot b
  | .sfcInserted serial b => wN serial && wBoot b
  | .psuOutOfTolerance _ => true
  | .readyHoldExpiry => true
  | .readyConditionLost => true
  | .orderlyOpenComplete => true
  | .commandTake entry => wEntry entry
  | .bulkDataTimeout op tag => wN op && wN tag
  | .modeRequest h target => wHdr h && wN target
  | .setLatencyTolerance h tol => wHdr h && wN tol
  | .restart h b => wHdr h && wBoot b
  | .readStatus h => wHdr h
  | .hrtStatus h => wHdr h
  | .hrtPortSwitch h port => wHdr h && wN port
  | .hrtTlmSet h ring kind slot div first count => wHdr h && wN ring && wN kind && wN slot && wN div && wN first && wN count
  | .hrtSummaryRate h hz => wHdr h && wN hz
  | .setAveraging h n => wHdr h && wN n
  | .rawStreamStart h ring mask => wHdr h && wN ring && wN mask
  | .rawStreamStop h => wHdr h
  | .calCheck h k => wHdr h && wN k
  | .segStatus h k => wHdr h && wN k
  | .spareAssign h k j => wHdr h && wN k && wN j
  | .segReset h k => wHdr h && wN k
  | .wireStatus h k => wHdr h && wN k
  | .wireFaultClear h k => wHdr h && wN k
  | .cimStatus h => wHdr h
  | .isoMeasureNow h => wHdr h
  | .isoSetThresh h warn alarm => wHdr h && wN warn && wN alarm
  | .balSetMode h m => wHdr h && wN m
  | .balCampaignStart h kind target deadband limit => wHdr h && wN kind && wN target && wN deadband && wN limit
  | .balCampaignStop h => wHdr h
  | .balSetDuty h cell duty => wHdr h && wN cell && wN duty
  | .balStatus h k => wHdr h && wN k
  | .balLearnRw h k => wHdr h && wN k
  | .balRwRead h k => wHdr h && wN k
  | .estStatus h => wHdr h
  | .estCellRead h first count => wHdr h && wN first && wN count
  | .estOcvLoad h table => wHdr h && wBytes table
  | .estSetReserve h base k rHigh => wHdr h && wN base && wN k && wN rHigh
  | .estSetRate h rate => wHdr h && wN rate
  | .estSetLimits h vLo vHi peak cont tMax tMinChg => wHdr h && wN vLo && wN vHi && wN peak && wN cont && wI tMax && wI tMinChg
  | .estCellReset h cell => wHdr h && wN cell
  | .estLearnWrite h => wHdr h
  | .estChemLoad h block => wHdr h && wBytes block
  | .dspStatus h => wHdr h
  | .dspScheduleLoad h data => wHdr h && wBytes data
  | .dspScheduleStart h => wHdr h
  | .dspScheduleStop h => wHdr h
  | .dspSetpoint h kind value ramp => wHdr h && wN kind && wI value && wN ramp
  | .dspPerturb h k amp dur start => wHdr h && wN k && wN amp && wN dur && wN start
  | .dspSetCfg h cfg canId maxMa => wHdr h && wN cfg && wN canId && wN maxMa
  | .thmStatus h => wHdr h
  | .thmSetLoop h setpoint sel kc ti f ff vMin vMax deadband => wHdr h && wI setpoint && wN sel && wI kc && wN ti && wN f &&
    wI ff && wN vMin && wN vMax && wN deadband
  | .thmValveSet h _ _ valve damper => wHdr h && wN valve && wN damper
  | .thmNtcMapLoad h map => wHdr h && map.all wN
  | .thmTune h step dur => wHdr h && wI step && wN dur
  | .thmTuneApply h => wHdr h
  | .thmTuneStop h => wHdr h
  | .thmShutdownAck h => wHdr h
  | .thmDieSet h seC shutC restartC hotC cool tStart => wHdr h && wI seC && wI shutC && wI restartC && wI hotC && wN cool && wI tStart
  | .motStatus h => wHdr h
  | .motMove h x _ p => wHdr h && wN x && wI p
  | .motStop h x _ => wHdr h && wN x
  | .motHome h x => wHdr h && wN x
  | .motSetCfg h x w => wHdr h && wN x && w.all wN
  | .motSetLimits h x vmax amax dmax jmax demerg => wHdr h && wN x && wN vmax && wN amax && wN dmax && wN jmax && wN demerg
  | .motTableLoad h x data => wHdr h && wN x && wBytes data
  | .motAxisReset h x => wHdr h && wN x
  | .timeStatus h => wHdr h
  | .timeSetCfg h cfg ptp servo hold asymA asymB => wHdr h && wN cfg && wN ptp && wN servo && wN hold && wN asymA && wN asymB
  | .timeSet h tai => wHdr h && wN tai
  | .timeToArm h n mode timeline start period frac width => wHdr h && wN n && wN mode && wN timeline && wN start && wN period &&
    wN frac && wN width
  | .timeToDisarm h n => wHdr h && wN n
  | .timeTiRead h n count => wHdr h && wN n && wN count
  | .canStatus h c => wHdr h && wN c
  | .canSetCfg h c cfg nbt dbt wake => wHdr h && wN c && wN cfg && wN nbt && wN dbt && wN wake
  | .canFilterSet h c k id mask _ target _ => wHdr h && wN c && wN k && wN id && wN mask && wN target
  | .canMbSet h c n dir id fmt retry => wHdr h && wN c && wN n && wN dir && wN id && wN fmt && wOpt wN retry
  | .canTx h c n timed data => wHdr h && wN c && wN n && wOpt wN timed && wBytes data
  | .canCancel h c n _ => wHdr h && wN c && wN n
  | .canRxRead h c src count => wHdr h && wN c && wN src && wN count
  | .canRecover h c => wHdr h && wN c
  | .sbStatus h c => wHdr h && wN c
  | .sbSetCfg h c cfg tgt wake r => wHdr h && wN c && wN cfg && wN tgt && wN wake && wBus r
  | .sbXfer h c addr _ data rd _ _ => wHdr h && wN c && wN addr && wBytes data && wN rd
  | .sbTgtWrite h c image => wHdr h && wN c && wBytes image
  | .sbTgtRead h c count => wHdr h && wN c && wN count
  | .sbBranchRestore h c mask r => wHdr h && wN c && wN mask && wBus r
  | .sbBusReset h c r => wHdr h && wN c && wBus r
  | .recStatus h => wHdr h
  | .recRead h area pos count => wHdr h && wN area && wN pos && wN count
  | .recNote h text => wHdr h && wBytes text
  | .ucSubstitute h pool a j => wHdr h && wN pool && wN a && wN j
  | .cardPrepare h kind => wHdr h && wN kind
  | .updStatus h => wHdr h
  | .updBegin h header _ _ => wHdr h && wBytes header
  | .updChunk h c crc data => wHdr h && wN c && wN crc && wBytes data
  | .updVerify h => wHdr h
  | .updActivate h _ b => wHdr h && wBoot b
  | .updConfirm h target => wHdr h && wN target
  | .updHandback h target b => wHdr h && wN target && wBoot b
  | .updAbort h => wHdr h
  | .secStatus h => wHdr h
  | .secQuote h nonce => wHdr h && wBytes nonce
  | .secCertRead h => wHdr h
  | .secAnchorSet h slot cert code => wHdr h && wN slot && wBytes cert && wBytes code
  | .secAnchorDelete h slot => wHdr h && wN slot
  | .secDenyAdd h slot serial => wHdr h && wN slot && wN serial
  | .secTamperClear h => wHdr h
  | .secSetCfg h w => wHdr h && wN w
  | .safeParamLoad h block _ => wHdr h && wBytes block
  | .safeParamConfirm h generation echoCrc echoes => wHdr h && wN generation && wN echoCrc && echoes.all (fun p => wN p.1 && wEcho p.2)
  | .safeParamRead h => wHdr h
  | .safeStatus h => wHdr h
  | .safeReset h m => wHdr h && wReset m
  | .safeStop h => wHdr h
  | .withdrawAnnounce h slot => wHdr h && wN slot
  | .withdrawCancel h => wHdr h
  | .seKernelLoad h slot data => wHdr h && wN slot && wBytes data
  | .seKernelCommit h slot => wHdr h && wN slot
  | .seKernelDisable h slot => wHdr h && wN slot
  | .seTableLoad h table list idx bp1 bp2 grid => wHdr h && wN table && wN list && idx.all wN && bp1.all wI && bp2.all wI && grid.all wI
  | .seInstanceRead h slot first count => wHdr h && wN slot && wN first && wN count
  | .seInstanceWrite h slot inst states params => wHdr h && wN slot && wN inst && wOpt (·.all wI) states && wOpt (·.all wI) params
  | .seInjectStart h wave amp k k2 len chip start _ => wHdr h && wN wave && wI amp && wN k && wN k2 && wN len && wN chip && wN start
  | .seInjectStop h => wHdr h
  | .seCaptureArm h sel pace trig trigIdx pre => wHdr h && sel.all wN && wN pace && wN trig && wN trigIdx && wN pre
  | .seCaptureRead h => wHdr h
  | .seCorrStart h mask ks tInt imin start => wHdr h && wN mask && ks.all wN && wN tInt && wN imin && wN start
  | .seCorrRead h bin first count => wHdr h && wN bin && wN first && wN count
  | .seStatus h => wHdr h
  | .bankStatus h => wHdr h
  | .bankSetCfg h size vmatch derate => wHdr h && wN size && wN vmatch && wN derate
  | .bankOpenAll h => wHdr h
  | .registerWrite agent port o => wN agent && wN port && wOp o
  | .w1cFlagClear addr bit _ => wN addr && wN bit
  | .pairedLowWordRead agent addr => wN agent && wN addr
  | .tiTimestampRead n => wN n
  | .toArm n _ => wN n
  | .toDisarm n => wN n
  | .setRingsOn => true
  | .clearRingsOn => true
  | .canMbIdRead c n => wN c && wN n
  | .canMbLastWordRead c n => wN c && wN n
  | .canFifoHeadRead c f => wN c && wN f
  | .req c n _ => wN c && wN n
  | .cancel c n _ => wN c && wN n
  | .recover c => wN c
  | .sbTgtRxRead c => wN c
  | .mbxDataWrite agent n word => wN agent && wN n && wN word
  | .mbxDataRead agent n => wN agent && wN n
  | .mbxAckWrite agent n _ => wN agent && wN n
  | .release agent n => wN agent && wN n
  | .mbxDoorbellSet agent target bits => wN agent && wN target && wN bits
  | .lock proxy => wN proxy
  | .read => true
  | .mbxReceiverReset agent _ ackV => wN agent && wOpt wAck ackV
  | .mbxSenderReset agent => wN agent
  | .bridgeDown word copies => wBytes word && copies.all wCopy
  | .proxyHeartbeat => true
  | .bridgeReturn => true
  | .linkUp port _ _ => wN port
  | .eapolReceive port m => wN port && wEap m
  | .eapSuccess port => wN port
  | .eapRetryTimeout port seconds => wN port && wN seconds
  | .mkaSakReceived port _ server => wN port && wN server
  | .mkaLifetimeExpiry port => wN port
  | .linkDown port => wN port
  | .doorbell port f ring index seq => wN port && wFrame f && wN ring && wN index && wN seq
  | .readResp port f tag status => wN port && wFrame f && wN tag && wN status
  | .ack port f seq => wN port && wFrame f && wN seq
  | .setupReq port f seq ops => wN port && wFrame f && wN seq && ops.all wOp
  | .serviceSetupOp o => wOp o
  | .retxTimeout readV => wOpt wN readV
  | .hostIdxPoll idx => idx.all wNN
  | .notifyCoalTimeout ring => wN ring
  | .telemetryFrame ring => wN ring
  | .summaryFrame => true
  | .eventPost => true
  | .eventRingRoom => true
  | .serviceIdleTimeout minutes => wN minutes
  | .claimLockoutExpiry minutes => wN minutes
  | .timeFloorSave => true
  | .tamper _ => true
  | .plumbInstant shunt flux tShunt => wI shunt && wI flux && wOpt wI tShunt
  | .frameReceived k a b r => wN k && wCopy a && wCopy b && wCard r
  | .frameIntake => true
  | .cardLost k => wN k
  | .cardIsolated k => wN k
  | .ringBreak hop _ _ => wN hop
  | .ringWhole trips => trips.all wNNN
  | .lathDirectionDegraded _ => true
  | .echoMeasure trips => trips.all wNNN
  | .cardPresent k serial ov uv _ fac => wN k && wN serial && wN ov && wN uv && wFac fac
  | .cardPresentStable k trips => wN k && trips.all wNNN
  | .joinCheckDone k c rel => wN k && wJoin c && rel.all wNN
  | .provisionalExpiry k => wN k
  | .balancingHoldExpiry k => wN k
  | .segCardFault k => wN k
  | .averagingWindowEnd => true
  | .spareDwellEnd k fail => wN k && wN fail
  | .wireBlockEnd k echo => wN k && wEcho echo
  | .comparatorAssert k j _ us gap => wN k && wN j && wN us && wN gap
  | .cmpTrip k j _ us => wN k && wN j && wN us
  | .comparatorTest k ov uv => wN k && wNN ov && wNN uv
  | .keepaliveLow k => wN k
  | .toneArmed => true
  | .toneLost => true
  | .toneArmingDeadline rel => rel.all wNN
  | .balSlot rb => rb.all wNN
  | .balPeriod => true
  | .balDutiesReceived k => wN k
  | .leaseExpired k => wN k
  | .balGuardRelease k j => wN k && wN j
  | .balDutyRecompute => true
  | .balLearnWindow k _ => wN k
  | .chargeCounterSave => true
  | .hallFault mv supPos supNeg span move => wI mv && wN supPos && wN supNeg && wN span && wN move
  | .xcheckCompare hallSum code => wI hallSum && wI code
  | .xcheckCause => true
  | .vstringUpdate a b => wOpt wI a && wOpt wI b
  | .isoHalfPeriodEnd dv rp ce vp vn _ => wI dv && wN rp && wN ce && wI vp && wI vn
  | .isoResultAge => true
  | .bankIsoTimeout => true
  | .sePowerUp _ => true
  | .seStep => true
  | .seStepOverrun done => wN done
  | .injectStartIndex => true
  | .chirpEnd => true
  | .captureTrigger => true
  | .capDone => true
  | .corrDone => true
  | .estRefresh cells => cells.all wN
  | .estResistanceRegression => true
  | .estSocUpdate => true
  | .estLimits => true
  | .estSlot0Park => true
  | .learnWriteHourly => true
  | .writeDone _ => true
  | .dspPublish => true
  | .limitNarrowing => true
  | .scheduleEntryDue => true
  | .setpointLateCancel _ => true
  | .perturbAck start k => wN start && wN k
  | .perturbAckTimeout => true
  | .bankMessageReceived pos m => wN pos && wBank m
  | .parallelReq pos volt => wN pos && wI volt
  | .grant reason => wN reason
  | .closed pos => wN pos
  | .grantLapse => true
  | .grantWaitExpiry => true
  | .bankModuleLost pos => wN pos
  | .bankRingBreak _ => true
  | .bankHeartbeatSend => true
  | .bankShareUpdate => true
  | .safetyInputChange si ch _ => wN si && wN ch
  | .discrepancy si => wN si
  | .ssdDelayExpiry => true
  | .inputTestPulse source lowA lowB heldA heldB => wN source && wN lowA && wN lowB && wN heldA && wN heldB
  | .feedbackTimeout si => wN si
  | .rstPulse closeSkew openSkew width m => wN closeSkew && wN openSkew && wN width && wReset m
  | .resetWindowExpiry => true
  | .weldTestCloseEnd rel => rel.all wNN
  | .outputReadback rb coilLow _ _ _ => wN rb && wN coilLow
  | .outputTestPulse o _ => wN o
  | .xlinkDemand ch => wN ch
  | .xlinkLost => true
  | .clock ppm => wI ppm
  | .prechargeDone => true
  | .closeConfirm => true
  | .prechargeTimeout => true
  | .svwCountExpiry k j _ shadow => wN k && wN j && wI shadow
  | .svwFrame k j _ => wN k && wN j
  | .slcPeak ch least => wN ch && wN least
  | .slcTime ch least => wN ch && wN least
  | .sdiTrip _ ch least => wN ch && wN least
  | .stwTrip kind ch => wN kind && wN ch
  | .stwSensor => true
  | .paramPendingExpiry => true
  | .paramCrcCompare => true
  | .withdrawTimeout => true
  | .thmNtcReport => true
  | .dieSample c p hh mot => wOpt wI c && wOpt wI p && wOpt wI hh && wOpt wI mot
  | .thmBalPauseUpdate => true
  | .segHot k => wN k
  | .thermalShutdown => true
  | .thermalCoolExpiry b => wBoot b
  | .tuneDone => true
  | .moveComplete x => wN x
  | .holdDelayExpiry x => wN x
  | .motorFault x kind tick => wN x && wN kind && wN tick
  | .limitInputEdge x k _ p tick => wN x && wN k && wI p && wN tick
  | .limitTrip x _ tick => wN x && wN tick
  | .stall x p tick => wN x && wI p && wN tick
  | .homeEdge x => wN x
  | .homeSearchTimeout x tick => wN x && wN tick
  | .motLinkMessage tick r0 r1 => wN tick && wAxis r0 && wAxis r1
  | .motLinkLoss => true
  | .motPowerUp => true
  | .motCardInserted serial => wN serial
  | .ptpMessage port vlan _ _ domain m => wN port && wOpt wN vlan && wN domain && wPtp m
  | .announceTimeout port => wN port
  | .degraded => true
  | .toPulse n => wN n
  | .tiEdge n _ ns held => wN n && wN ns && wN held
  | .canFrameReceived c f => wN c && wCan f
  | .canTimedRelease c n => wN c && wN n
  | .canTxComplete c n sent => wN c && wN n && wOpt wSent sent
  | .busOff c => wN c
  | .canAutoRecover c => wN c
  | .canRecoveryDone c => wN c
  | .canIntegrated c => wN c
  | .canIntegrateTimeout c => wN c
  | .sbXferStart c _ ns => wN c && wN ns
  | .sbXferDone c nack pec data => wN c && wOpt wN nack && decide (pec < 256) && wBytes data
  | .arbLost c byte bit _ => wN c && wN byte && wN bit
  | .sbStartTimeout c => wN c
  | .stretchTo c k r => wN c && wStretch k && wBus r
  | .sbTargetAddressed c addr bytes rd => wN c && wN addr && wBytes bytes && wN rd
  | .shadowRunEnd => true
  | .shadowBreach quantity value => wN quantity && wI value
  | .updHandover => true
  | .handbackCause cause b => wN cause && wBoot b
  | .updVerifyDone => true
  | .safeImageTransfer image _ _ _ _ contacts => wBytes image && wN contacts
  | .segUpdateCardDone _ => true
  | .imageRecovery header body _ _ b => wBytes header && wBytes body && wBoot b
  | .recordPost => true
  | .sysCounterSave => true
  | .scrub m words _ erases => wMem m && words.all (·.all wNN) && wN erases
  | .relocated => true
  | .coreShadowEnd _ b => wBoot b
  | .segCardWithdrawn k => wN k
  | .sfcWithdrawn => true
  | .motCardWithdrawn => true
  | .psuInTolerance _ serial => wN serial
  | .canBusError c lec tx _ _ _ => wN c && wN lec && wOpt wN tx
  | .axisAtRest x p => wN x && wI p
  | .weldCheckEnd => true
  | .rstStuckClear => true
  | .serviceSessionOpen c => wOpt wCert c

end Sys2Proof
end

