-- ==== Sys2Proof/Safety.lean ====
section
/-! DEFINITION. The terms in which claims about the block are stated: who may run a command, what an answer may touch, what two states
have in common, and the form that the register file keeps. -/

namespace Sys2Proof.Machine

/-! ### What a host command needs before its own part is looked at (R33, R42, R454) -/

/-- No check of R33 that is common to every host command refuses the command: the tamper latch does not shut its role out (R458), its
sender holds the role, and the mode of its taking allows it. -/
def State.Allowed (s : State) (op role : Nat) (h : Hdr) : Prop :=
  (s.isOn F.SEC_STATUS_TAMPER_LATCHED = true → role ≠ rSafety ∧ role ≠ rUpdate) ∧
  hasRole (s.cmdRoles op h) role = true ∧ legal op (s.cmdMode op h) s.closed = true

/-- A MODE_REQUEST for `t` is under way (R40): SYS_MODE shows it. -/
def State.asked (s : State) (h : Hdr) (t : Nat) : State :=
  ({ s with pwr.trans := some { target := t, tag := h.tag, index := s.cmdIndex 0x0101 h.tag, port := h.port } } : State).wrs
    [(F.SYS_MODE_TRANSITION, 1), (F.SYS_MODE_TARGET, t)]

/-! ### What two states have in common -/

/-- `t` differs from `s` at most in its registers, its recorder and its host transport. -/
def State.SameRest (s t : State) : Prop := t = { s with regs := t.regs, recorder := t.recorder, hrt := t.hrt }

/-- Every register field outside the listed keys holds in `t` what it holds in `s`. -/
def State.SameRegs (s t : State) (ks : List Nat) : Prop := ∀ f : Field, f.key ∉ ks → t.rd f = s.rd f

/-- The recorder's stored state is as before; only records on their way to it, and the count of records left out, may differ. -/
def State.SameLog (s t : State) : Prop :=
  t.recorder = { s.recorder with queue := t.recorder.queue, stfpQ := t.recorder.stfpQ, omitted := t.recorder.omitted }

/-- Sessions, host reads, events sent and open operations are as before. -/
def State.SamePorts (s t : State) : Prop :=
  t.hrt.portA = s.hrt.portA ∧ t.hrt.portB = s.hrt.portB ∧ t.hrt.events = s.hrt.events ∧ t.hrt.reads = s.hrt.reads ∧
  t.hrt.switching = s.hrt.switching ∧ t.hrt.takes = s.hrt.takes

/-- The registers that writing a record or an entry towards the host moves: REC_SEQ (R489) and MOD_IDX of the completion ring, the
bulk-in ring and the bulk-out ring (R379, R383, R385). -/
def answerKeys : List Nat :=
  [F.REC_SEQ_LO_VALUE.key, F.REC_SEQ_HI_VALUE.key, (F.HRT_RING_MOD_IDX_INDEX 1).key, (F.HRT_RING_MOD_IDX_INDEX 4).key,
   (F.HRT_RING_MOD_IDX_INDEX 5).key]

/-- The registers that writing a record moves. -/
def recordKeys : List Nat := [F.REC_SEQ_LO_VALUE.key, F.REC_SEQ_HI_VALUE.key]

/-- Completions in the order in which the host gets them: those written to ring 1, then those that wait for room. -/
def State.handed (s : State) : List Completion := s.hrt.completions ++ s.hrt.compWait

/-- Bulk-out transfers in order: opcode, TAG and data of those written whole and of those under way. -/
def State.sent (s : State) : List (Nat × Nat × List Int) :=
  (s.hrt.transferred ++ s.hrt.transfers).map fun x => (x.opcode, x.tag, x.data)

/-- `t` is `s` after the answer to a host command that had the effect `s`: nothing but the answer's own registers, its record and the
host transport moves, and while the rings run one completion with this status and result follows those before it. -/
structure State.Answered (s t : State) (op : Nat) (h : Hdr) (kind : Nat) (st : Status) (res : List Int) : Prop where
  rest : s.SameRest t
  regs : s.SameRegs t answerKeys
  log : s.SameLog t
  ports : s.SamePorts t
  told : s.isOn F.HRT_STATUS_RINGS_RUNNING = true →
    ∃ c, c.opcode = op ∧ c.tag = h.tag ∧ c.kind = kind ∧ c.status = st ∧ c.result = res ∧ t.handed = s.handed ++ [c]

/-- The same for an answer whose words go out as a bulk-out transfer before the completion (R385). -/
structure State.AnsweredBulk (s t : State) (op : Nat) (h : Hdr) (data : List Int) : Prop where
  rest : s.SameRest t
  regs : s.SameRegs t answerKeys
  log : s.SameLog t
  ports : s.SamePorts t
  told : s.isOn F.HRT_STATUS_RINGS_RUNNING = true → t.sent = s.sent ++ [(op, h.tag, data)]

/-- A command completed at once with this status and result, after the effect that made `s`. -/
def State.Done (s t : State) (op : Nat) (h : Hdr) (st : Status) (res : List Int) : Prop :=
  s.Answered t op h 0 st res ∧ t.hrt.ops = s.hrt.ops

/-- An answer with words: up to eight in the completion, more as a transfer (R384, R385). -/
def State.Told (s t : State) (op : Nat) (h : Hdr) (ws : List Int) : Prop :=
  if ws.length ≤ 8 then s.Done t op h .ok ws else s.AnsweredBulk t op h ws

/-- An answer ACCEPTED (R44): the completion of kind 1, and the operation stays open under its key. -/
def State.Accepted (s t : State) (op : Nat) (h : Hdr) (key : Nat) (res : List Int) : Prop :=
  s.Answered t op h 1 .accepted res ∧
  ∃ o, o.opcode = op ∧ o.tag = h.tag ∧ o.key = key ∧ t.hrt.ops = s.hrt.ops ++ [o]

/-! ### The LOCKOUT latch -/

/-- The readbacks of the six switches. -/
def State.readbacks (s : State) : Nat := s.switches &&& 0xAAA

/-- Every switch is commanded off; the readbacks stand, and the string counts as closed as long as one of them reads on (R268). -/
def State.SwitchedOff (s t : State) : Prop :=
  t.switches &&& allCmds = 0 ∧ t.readbacks = s.readbacks ∧ t.closed = (s.closed && s.readbacks != 0)

/-- `t` comes from `s` by cause `c`, found by channel `ch` (R268, R296): both channels command every output off, the cause is latched
with those latched before and shown, a closing has ended, X19 is open, and a module that runs in a mode is in LOCKOUT. -/
structure State.LockedBy (s t : State) (c : Cause) (ch : Nat) : Prop where
  off : s.SwitchedOff t ∧ t.isOn F.SAFE_STATUS_FAULT_CLOSED = false
  latched : t.hasCause c = true ∧ ∀ d, s.hasCause d = true → t.hasCause d = true
  first : t.safe.first = (if s.safe.causes = 0 then c.code else s.safe.first) ∧
    t.safe.firstCh = (if s.safe.causes = 0 then ch else s.safe.firstCh) ∧ t.safe.last = c.code
  shown : t.isOn F.SAFE_STATUS_LOCKOUT = true ∧ t.isOn F.SYS_MODE_LOCKOUT_LATCHED = true ∧ t.rd F.SAFE_CAUSE_LAST = c.code ∧
    t.rd F.SAFE_CAUSE_MAP0_MAP = t.safe.causes % two32
  closing : t.safe.closing = .idle ∧ (s.safe.closing ≠ .idle → t.rd F.SAFE_PRECHARGE_RESULT = closingResult c)
  mode : s.safe.modeEntered = true → s.mode ≠ mSHELF → t.mode = mLOCKOUT

/-! ### The form the register file keeps -/

/-- Every table of register values lists each key once, keys rising: the register file, the settings, the settings of the other image
and of the mirror. -/
def State.Canonical (s : State) : Prop :=
  Tbl.sorted s.regs = true ∧ Tbl.sorted s.settings = true ∧ Tbl.sorted s.upd.other.fields = true ∧
  Tbl.sorted s.recorder.mirrorSettings = true

end Sys2Proof.Machine
end

