-- ==== Sys2Proof/Certificates/Slice0/Obligations.lean ====
section
/-! DEFINITION. The statements about the block, for the provers: what every command and event does, and what every step keeps. -/

open Sys2Proof Sys2Proof.Machine

/-- The front command runs on the state with the queue's rest; an empty queue leaves the state as it is (the model's choice, assumption
log 1). -/
def Obligations.StepRunsTheFrontCommand : Prop :=
  (∀ (c : Instr) (rest : List Instr) (s : State), s.pending = c :: rest → step s = exec c (s.withPending rest)) ∧
  (∀ s : State, s.pending = [] → step s = .next s) ∧
  (∀ (s : State) (q : List Instr), (s.withPending q).pending = q ∧ (s.withPending q).withPending s.pending = s)

/-- Every register at its Reset value, nothing under way. (Readings of the model: assumption log 2, 3, 145.) -/
def Obligations.ResetHoldsResetValues : Prop :=
  (∀ f : Field, State.reset.rd f = f.reset) ∧
  State.reset.pending = [] ∧ State.reset.settings = [] ∧ State.reset.hrt.ops = [] ∧ State.reset.recorder.queue = [] ∧
  State.reset.mode = mSTANDBY ∧ State.reset.rd F.SEG_AVG_CFG_N_M1 = 15 ∧ State.reset.rd F.SEG_SPARE_CFG_DWELL = 4 ∧
  State.reset.rd F.SEG_SPARE_CFG_DRIFT_LIMIT = 30 ∧ State.reset.rd F.CIM_ISO_CTRL_ENABLE = 1 ∧
  State.reset.rd F.CIM_ISO_CTRL_MAX_HALF_S = 20 ∧ State.reset.rd F.PWR_LAT_TOL_TOL_US = 0

/-- Ordinary data never end a run. (Readings of the model: assumption log 4, 14.) -/
def Obligations.EveryCommandAnswers : Prop :=
  (∀ (i : Instr) (s : State), ∃ t, exec i s = .next t) ∧ (∀ s : State, ∃ t, step s = .next t)

/-- No command changes the queue: a step takes the front and nothing else. (Readings of the model: assumption log 1, 146.) -/
def Obligations.QueueIsTakenInOrder : Prop :=
  (∀ (i : Instr) (s t : State), exec i s = .next t → t.pending = s.pending) ∧
  (∀ (c : Instr) (rest : List Instr) (s t : State), s.pending = c :: rest → step s = .next t → t.pending = rest)

/-- Each field has one value, whatever runs. -/
def Obligations.RegisterFileStaysCanonical : Prop :=
  ∀ s t : State, s.Canonical → step s = .next t → t.Canonical

/-- The invariant holds at reset. -/
def Obligations.ResetIsCanonical : Prop := State.reset.Canonical

/-- What an answer may touch, for every command at once. (Readings of the model: assumption log 19, 22, 107.) -/
def Obligations.AnswersTouchOnlyTheHost : Prop :=
  (∀ (s s1 : State) (op role : Nat) (h : Hdr) (res : List Int), s1.Done (s.answer op role h (.done s1 res)) op h .ok res) ∧
  (∀ (s s1 : State) (op role : Nat) (h : Hdr) (key : Nat) (res : List Int),
    s1.Accepted (s.answer op role h (.accept s1 key res)) op h key res) ∧
  (∀ (s s1 : State) (op role : Nat) (h : Hdr) (res : List Int) (len : Nat) (data : List Int),
    s1.AnsweredBulk (s.answer op role h (.bulk s1 res len data)) op h data) ∧
  (∀ (s : State) (c : Completion), (s.emit c).handed =
    if s.isOn F.HRT_STATUS_RINGS_RUNNING then s.handed ++ [c] else s.handed)

/-- The order of the checks that every host command shares, and what a refusal leaves. (Readings of the model: assumption log 19, 20, 21.) -/
def Obligations.ChecksComeInOrder : Prop :=
  ∀ (s : State) (op role : Nat) (h : Hdr) (pre : List (Bool × Status)) (body : State → CmdRes),
    (s.isOn F.SEC_STATUS_TAMPER_LATCHED = true → role = rSafety ∨ role = rUpdate →
      s.command op role h pre body = s.refuseCmd op role h .auth) ∧
    (s.isOn F.SEC_STATUS_TAMPER_LATCHED = false → hasRole (s.cmdRoles op h) role = false →
      s.command op role h pre body = s.refuseCmd op role h .role) ∧
    (s.isOn F.SEC_STATUS_TAMPER_LATCHED = false → hasRole (s.cmdRoles op h) role = true → (∀ x ∈ pre, x.2 ≠ .auth) →
      (true, Status.param) ∈ pre → s.command op role h pre body = s.refuseCmd op role h .param) ∧
    (s.isOn F.SEC_STATUS_TAMPER_LATCHED = false → hasRole (s.cmdRoles op h) role = true → (∀ x ∈ pre, x.2 ≠ .auth) →
      (true, Status.param) ∉ pre → (true, Status.range) ∈ pre → s.command op role h pre body = s.refuseCmd op role h .range) ∧
    (s.isOn F.SEC_STATUS_TAMPER_LATCHED = false → hasRole (s.cmdRoles op h) role = true → (∀ x ∈ pre, x.1 = false) →
      legal op (s.cmdMode op h) s.closed = false → s.command op role h pre body = s.refuseCmd op role h .state) ∧
    (s.Allowed op role h → (∀ x ∈ pre, x.1 = false) → s.command op role h pre body = s.answer op role h (body s)) ∧
    (∀ st, s.SameRest (s.refuseCmd op role h st) ∧
      s.SameRegs (s.refuseCmd op role h st) ([Fl.SEC_EVENT_AUTH_FAIL.bit.key, Fl.SEC_EVENT_AUTH_FAIL.cnt.key,
        Fl.SEC_EVENT_ROLE_DENIED.bit.key, Fl.SEC_EVENT_ROLE_DENIED.cnt.key] ++ answerKeys) ∧
      (s.refuseCmd op role h st).hrt.ops = s.hrt.ops ∧
      (s.isOn F.HRT_STATUS_RINGS_RUNNING = true → ∃ c, c.opcode = op ∧ c.tag = h.tag ∧ c.kind = 0 ∧ c.status = st ∧ c.result = [] ∧
        (s.refuseCmd op role h st).handed = s.handed ++ [c]))

/-- The rules of W1C flags and their counters, for every flag of the map and for the row that clears one. -/
def Obligations.FlagsCountAndHardwareWins : Prop :=
  ∀ fl ∈ flagTable, ∀ s : State,
    (s.raise fl).rd fl.bit = 1 ∧ (s.raise fl).rd fl.cnt = (s.rd fl.cnt + 1) % 65536 ∧
    s.SameRest (s.raise fl) ∧ s.SameRegs (s.raise fl) [fl.bit.key, fl.cnt.key] ∧
    (∃ t, exec (.w1cFlagClear fl.bit.addr fl.bit.lo false) s = .next t ∧ t = s.clearFlag fl false ∧ t.rd fl.bit = 0 ∧
      t.rd fl.cnt = s.rd fl.cnt ∧ s.SameRegs t [fl.bit.key]) ∧
    (∃ t, exec (.w1cFlagClear fl.bit.addr fl.bit.lo true) s = .next t ∧ t = s.raise fl)

/-- MODE_REQUEST, SET_LATENCY_TOLERANCE, READ_STATUS and RESTART. (Readings of the model: assumption log 31, 32, 33, 52, 53.) -/
def Obligations.ModeRequestsTakeEffect : Prop :=
  (∀ (s : State) (h : Hdr) (t : Nat), s.Allowed 0x0101 (if t = mSERVICE then rMaintainer else rOperator) h → t ≤ 5 → s.askRefusal t = none →
    ∃ v u : State, (s.asked h t).Accepted v 0x0101 h 0 [] ∧ exec (.modeRequest h t) s = .next u ∧
      ((t = mRUN → s.closed = true) → (t = mSTANDBY → s.closed = false) →
        u.mode = t ∧ u.rd F.SYS_MODE_TARGET = t ∧ u.rd F.SYS_MODE_TRANSITION = 0 ∧ u.pwr.trans = none) ∧
      (t = mSTANDBY → s.closed = true → u.mode = s.mode ∧ u.rd F.SYS_MODE_TRANSITION = 1 ∧ u.rd F.SYS_MODE_TARGET = mSTANDBY ∧
        u.pwr.orderly = (if s.pwr.orderly.isSome then s.pwr.orderly else some { dest := mSTANDBY, cause := byCommand })) ∧
      (t = mRUN → s.closed = false → s.inBank = false → s.canClose = true → u.safe.closing = .weldCheck ∧ u.isOn F.SAFE_STATUS_CLOSING = true ∧
        u.outOn 2 = true ∧ u.mode = s.mode ∧ u.closed = true)) ∧
  (∀ (s : State) (h : Hdr) (t : Nat) (st : Status), s.Allowed 0x0101 (if t = mSERVICE then rMaintainer else rOperator) h → t ≤ 5 →
    s.askRefusal t = some st →
    exec (.modeRequest h t) s = .next (s.refuseCmd 0x0101 (if t = mSERVICE then rMaintainer else rOperator) h st)) ∧
  (∀ (s : State) (h : Hdr) (tol : Nat), s.Allowed 0x0102 rOperator h → tol < two32 →
    ∃ u, exec (.setLatencyTolerance h tol) s = .next u ∧ (s.wr F.PWR_LAT_TOL_TOL_US tol).setFloor.Done u 0x0102 h .ok []) ∧
  (∀ (s : State) (h : Hdr), s.Allowed 0x0104 rObserver h →
    ∃ u, exec (.readStatus h) s = .next u ∧ s.Told u 0x0104 h (s.words [0x10, 0x10000, 0x10020, 0x10030])) ∧
  (∀ (s : State) (h : Hdr) (b : Boot), s.Allowed 0x0103 rMaintainer h →
    ∃ u, exec (.restart h b) s = .next (u.moduleRestart b) ∧ s.learnNow.Done u 0x0103 h .ok [] ∧
      (u.moduleRestart b).rd F.PWR_RESET_CAUSE_KIND = 3 ∧ (u.moduleRestart b).rd F.PWR_RESET_CAUSE_DETAIL = 0)

/-- Power, aux and the ends of READY and of an orderly open. (Readings of the model: assumption log 14, 31, 40, 41, 42, 187.) -/
def Obligations.PowerEventsFollowTheRules : Prop :=
  (∀ s : State, s.awake = true → s.thm.heldOff = false →
    ∃ t, exec .powerStateEntry s = .next t ∧ t.pwr.idle = true ∧ t.rd F.PWR_STATE_STATE = s.setFloor.rd F.PWR_STATE_FLOOR) ∧
  (∀ s : State, s.awake = true → s.thm.heldOff = false →
    ∃ t, exec .powerStateExit s = .next t ∧ t.pwr.idle = false ∧ t.rd F.PWR_STATE_STATE = 0) ∧
  (∀ (s : State) (dom : Nat), dom ≤ 12 →
    let s1 := ({ s with pwr.domFault := s.pwr.domFault ||| 2 ^ dom } : State).wr F.PWR_DOM_ON_DOM
      (s.rd F.PWR_DOM_ON_DOM - (s.rd F.PWR_DOM_ON_DOM &&& 2 ^ dom))
    exec (.domainPowerTimeout dom) s = .next ((if dom = 1 then s1.raiseCause .selftest 1 else if dom = 2 then s1.raiseCause .selftest 2
      else if dom = 10 then s1.raiseCause .selftest 3 else s1).detail true [1, dom] .internal)) ∧
  (∀ (s : State) (k : Nat), s.segOk k = true → ∃ t, exec (.domainPowerTimeout (12 + k)) s = .next t ∧ t.segState k = segISOLATED ∧
    (t.rd F.PWR_SEG_ON_ISLAND).testBit (k - 1) = false ∧ t.mode = s.mode) ∧
  (∀ (s : State) (mv : Nat), s.powered = true → (s.pwr.dips.filter fun t => decide (s.time.count < t + 250000000)).length < 10 →
    exec (.auxBelowLoss mv) s = .next (({ s with pwr.auxLow := true } : State).wr F.PWR_AUX_STATUS_AUX_MV mv)) ∧
  (∀ (s : State) (mv : Nat), s.powered = true → 10 ≤ (s.pwr.dips.filter fun t => decide (s.time.count < t + 250000000)).length →
    ∃ t, exec (.auxBelowLoss mv) s = .next t ∧ t.pwr.phase = .unpowered ∧ t.rd F.PWR_DOM_ON_DOM = 0) ∧
  (∀ (s : State) (mv : Nat), s.powered = true → s.pwr.auxLow = true →
    ∃ t, exec (.auxDip mv) s = .next t ∧ t.pwr.auxLow = false ∧ t.rd F.PWR_AUX_STATUS_AUX_MV = mv % 65536 ∧
      t.rd F.PWR_AUX_STATUS_AUX_DIP = 1 ∧ t.rd F.PWR_AUX_DIP_CNT_COUNT = (s.rd F.PWR_AUX_DIP_CNT_COUNT + 1) % 65536 ∧
      t.pwr.phase = s.pwr.phase) ∧
  (∀ (s : State) (mv : Nat), s.powered = true →
    ∃ t, exec (.auxLoss mv) s = .next t ∧ t.pwr.phase = .unpowered ∧ t.rd F.PWR_DOM_ON_DOM = 0 ∧ t.rd F.PWR_SEG_ON_ISLAND = 0 ∧
      t.rd F.SAFE_STATUS_FAULT_CLOSED = 0) ∧
  (∀ s : State, exec .holdupOkReturn s = .next (if s.pwr.ctl then (s.wr F.PWR_AUX_STATUS_HOLDUP_OK 1).learnResume
    else s.wr F.PWR_AUX_STATUS_HOLDUP_OK 1)) ∧
  (∀ s : State, s.pwr.orderly = none → exec .orderlyOpenComplete s = .next s) ∧
  (∀ (s : State) (o : OrderlyOpen), s.pwr.orderly = some o → o.dest ≤ 5 →
    ∃ t, exec .orderlyOpenComplete s = .next t ∧ t.switches = 0 ∧ t.pwr.orderly = none ∧
      (s.thm.shutting = false → t.mode = o.dest) ∧ (s.thm.shutting = true → t.thm.heldOff = true ∧ t.pwr.ctl = false)) ∧
  (∀ s : State, (s.mode = mREADY → s.pwr.holdRun = true → s.safe.closing = .idle →
      ∃ t, exec .readyHoldExpiry s = .next t ∧ t.mode = mSTANDBY ∧ t.pwr.trans = none) ∧
    (s.mode ≠ mREADY ∨ s.pwr.holdRun = false ∨ s.safe.closing ≠ .idle → exec .readyHoldExpiry s = .next s)) ∧
  (∀ s : State, (s.setReady.readyBits = 0 → exec .readyConditionLost s = .next s.setReady) ∧
    (s.setReady.readyBits ≠ 0 → ∃ t, exec .readyConditionLost s = .next t ∧ t.safe.closing = .idle ∧
      t.mode = (if s.mode = mREADY then mSTANDBY else s.mode)))

/-- The reset kinds of R58 that reset the controller card. (Readings of the model: assumption log 14, 35, 38, 43, 185, 187.) -/
def Obligations.StartsSayTheirKind : Prop :=
  (∀ (s : State) (b : Boot), s.powered = false →
    (b.ctl = true → -25 ≤ b.die → ∃ t, exec (.powerOn b) s = .next t ∧ t.rd F.PWR_RESET_CAUSE_KIND = 1 ∧
      (t.pwr.phase = .up → t.mode = mSTANDBY ∨ t.mode = mLOCKOUT)) ∧
    (b.ctl = true → b.die < -25 → ∃ t, exec (.powerOn b) s = .next t ∧ t.pwr.phase = .primer ∧ t.pwr.ctl = false) ∧
    (b.ctl = false → ∃ t, exec (.powerOn b) s = .next t ∧ t.pwr.phase = .noCtl ∧ t.pwr.ctl = false)) ∧
  (∀ (s : State) (b : Boot), s.pwr.phase = .primer →
    (b.die < -25 → exec (.powerOn b) s = .next s) ∧
    (-25 ≤ b.die → ∃ t, exec (.powerOn b) s = .next t ∧ t.rd F.PWR_RESET_CAUSE_KIND = 1)) ∧
  (∀ (s : State) (b : Boot), s.powered = true → s.pwr.phase ≠ .primer → exec (.powerOn b) s = .next s) ∧
  (∀ (s : State) (b : Boot), s.pwr.phase = .unpowered → b.ctl = true → -25 ≤ b.die →
    ∃ t, exec (.auxReturnStable b) s = .next t ∧ t.rd F.PWR_RESET_CAUSE_KIND = 1) ∧
  (∀ (s : State) (c branch addr : Nat) (b : Boot), c ≤ 1 → branch ≤ 3 → s.isOn (F.SB_WAKE_EN c) = true → addr = s.rd (F.SB_WAKE_ADDR c) →
    s.rd (F.SB_BRANCH_ISOLATED c) / 2 ^ branch % 2 = 0 → s.pwr.phase = .up → s.mode = mSHELF →
    ∃ t, exec (.sbWakeMatch c branch addr b) s = .next t ∧ t.rd F.PWR_RESET_CAUSE_KIND = 2 ∧ t.rd (F.SB_EVENT_WAKE c) = 1) ∧
  (∀ (s : State) (c id : Nat) (data : List Byte) (b : Boot), c ≤ 1 → s.isOn (F.CAN_WAKE_EN c) = true →
    (id &&& s.rd (F.CAN_WAKE_MASK c)) = s.rd (F.CAN_WAKE_ID c) → data.headD (s.rd (F.CAN_WAKE_DATA0 c)) = s.rd (F.CAN_WAKE_DATA0 c) →
    s.pwr.phase = .up → s.mode = mSHELF →
    ∃ t, exec (.canWakeFrame c id data b) s = .next t ∧ t.rd F.PWR_RESET_CAUSE_KIND = 2) ∧
  (∀ (s : State) (port : Nat) (b : Boot), port ≤ 1 → s.pwr.phase = .up → s.mode = mSHELF →
    ∃ t, exec (.ethWake port b) s = .next t ∧ t.rd F.PWR_RESET_CAUSE_KIND = 2) ∧
  (∀ (s : State) (b : Boot), s.pwr.phase = .up → s.mode = mSHELF →
    ∃ t, exec (.shelfBurstMissing b) s = .next t ∧ t.rd F.PWR_RESET_CAUSE_KIND = 2) ∧
  (∀ (s : State) (b : Boot), s.pwr.phase = .up → s.mode ≠ mSHELF → 0 < s.pwr.wakes →
    exec (.shelfBurstMissing b) s = .next (({ s with pwr.wakes := s.pwr.wakes + 1 } : State).detail false [12, 3])) ∧
  (∀ (s : State) (d : Nat) (b : Boot), s.pwr.phase = .up ∨ s.pwr.phase = .recovery → s.mode ≠ mSHELF → s.thm.heldOff = false →
    ∃ t, exec (.stfCWatchdog d b) s = .next t ∧ t.rd F.PWR_RESET_CAUSE_KIND = 4 ∧ t.rd F.PWR_RESET_CAUSE_DETAIL = d % 256) ∧
  (∀ (s : State) (serial : Nat) (b : Boot), s.pwr.ctl = false → s.powered = true → s.thm.heldOff = false →
    ∃ t, exec (.ctlInserted serial b) s = .next t ∧ t.rd F.PWR_RESET_CAUSE_KIND = 4) ∧
  (∀ (s : State) (b : Boot), s.thm.heldOff = true → s.thm.stuck = false →
    ∃ t, exec (.thermalCoolExpiry b) s = .next t ∧ t.rd F.PWR_RESET_CAUSE_KIND = 4)

/-- Absent cards and the thermal shutdown. (Readings of the model: assumption log 14, 36, 37, 49, 50, 63.) -/
def Obligations.CardsComeAndGo : Prop :=
  (∀ s : State, s.pwr.phase = .up → s.pwr.ctl = true → s.mode ≠ mSHELF →
    ∃ t, exec .stfCHeartbeatLoss s = .next t ∧ t.pwr.ctl = false ∧ t.mode = s.mode ∧ t.switches = s.switches) ∧
  (∀ s : State, s.pwr.ctl = false → s.mode ≠ mSERVICE → s.closed = true → s.thm.heldOff = false →
    ∃ t, exec .ctlAbsenceTimeout s = .next t ∧ s.SwitchedOff t ∧ t.safe.closing = .idle ∧ t.pwr.ctlOpened = true ∧ t.mode = s.mode) ∧
  (∀ s : State, s.pwr.ctl = false → s.mode = mSERVICE → exec .ctlAbsenceTimeout s = .next s) ∧
  (∀ s : State, s.safe.present = true →
    ∃ t, exec .sfcWithdrawn s = .next t ∧ t.safe.present = false ∧ t.switches = 0 ∧ t.rd F.SAFE_STATUS_FAULT_CLOSED = 0 ∧ t.mode = s.mode) ∧
  (∀ (s : State) (serial : Nat) (b : Boot), s.safe.present = false → s.powered = true →
    ∃ t, exec (.sfcInserted serial b) s = .next t ∧ t.safe.present = true ∧ t.mode ≠ mSERVICE) ∧
  (∀ (s : State) (k : Nat), 1 ≤ k → k ≤ 26 → (s.segOf k).present = true → ∃ t, exec (.segCardWithdrawn k) s = .next t ∧
    (t.segOf k).present = false ∧ (s.wdSlot = k → t.segState k = segABSENT) ∧
    (s.wdSlot ≠ k → s.segOk k = true → (s.segOf k).blank = false → t.segState k = s.segState k ∧
      (s.seg.armed = true → s.bypassed k = false → t.hasCause .tone = true))) ∧
  (∀ s : State, s.awake = true → s.thm.shutting = false → s.thm.heldOff = false → 1000 ≤ s.thm.hotMs →
    ∃ t, exec .thermalShutdown s = .next t ∧ t.safe.closing = .idle ∧
      (s.safe.closing = .idle → s.closed = true → t.thm.shutting = true ∧ t.mode = s.mode ∧ t.rd F.SE_THROTTLE_PAUSE = 7 ∧
        t.pwr.orderly = (if s.pwr.orderly.isSome then s.pwr.orderly else some { dest := mSTANDBY, cause := byCondition })) ∧
      (s.safe.closing = .idle → s.closed = false → t.thm.heldOff = true ∧ t.pwr.ctl = false ∧
        t.mode = (if s.mode = mLOCKOUT then mLOCKOUT else mSTANDBY) ∧ t.rd F.PWR_DOM_ON_DOM &&& heldDomains = 0))

/-- R370 step by step, R395's causes, and the service port's session. (Readings of the model: assumption log 14, 106, 196.) -/
def Obligations.PortsKeyAndFail : Prop :=
  (∀ (s : State) (p : Nat) (gig eee : Bool), p ≤ 1 → s.pwr.ctl = true → s.mode ≠ mSHELF →
    (gig = true ∨ s.isOn F.HRT_PORT_CFG_ALLOW_100 = true → ∃ t, exec (.linkUp p gig eee) s = .next t ∧ t.rd (F.HRT_PORT_STATUS_LINK p) = 1 ∧
      t.rd (F.HRT_PORT_STATUS_SPEED_1000 p) = (if gig then 1 else 0) ∧ t.rd (F.HRT_PORT_STATUS_FAILED p) = 0 ∧
      (t.port p).stage = (if s.canKey then .waitEap else .down)) ∧
    (gig = false → s.isOn F.HRT_PORT_CFG_ALLOW_100 = false → exec (.linkUp p gig eee) s = .next s)) ∧
  (∀ (s : State) (p : Nat), p ≤ 1 → (s.port p).stage = .waitEap ∨ (s.port p).stage = .eapRunning →
    exec (.eapolReceive p .step) s = .next (s.setStage p .eapRunning) ∧
    (∀ c : Cert, s.certOk c = true → exec (.eapolReceive p (.certificate c)) s = .next (s.setPort p { stage := .eapDone, session := some {
      cert := c.serial, roles := roleClosure c.roles, anchor := c.anchor.getD 0, chain := c.chain } })) ∧
    (∀ m : EapMsg, m = .failure ∨ (∃ c, m = .certificate c ∧ s.certOk c = false) →
      ∃ t, exec (.eapolReceive p m) s = .next t ∧ (t.port p).stage = .retryWait ∧ t.rd Fl.SEC_EVENT_AUTH_FAIL.bit = 1 ∧
        (t.port p).eapFails = s.time.count :: (s.port p).eapFails.filter fun c => decide (s.time.count < c + 15000000000))) ∧
  (∀ (s : State) (p : Nat), p ≤ 1 → (s.port p).stage = .eapDone →
    ∃ t, exec (.eapSuccess p) s = .next t ∧ (t.port p).stage = .mka ∧ t.rd (F.HRT_PORT_STATUS_EAP_DONE p) = 1 ∧
      t.rd (F.HRT_PORT_STATUS_ROLES p) = s.portRoles p % 32) ∧
  (∀ (s : State) (p w : Nat), p ≤ 1 → (s.port p).stage = .retryWait →
    ((if 5 ≤ (s.port p).eapFails.length then 60 else 30) ≤ w → exec (.eapRetryTimeout p w) s = .next (s.startKeying p)) ∧
    (w < (if 5 ≤ (s.port p).eapFails.length then 60 else 30) → exec (.eapRetryTimeout p w) s = .next s)) ∧
  (∀ (s : State) (p mac : Nat), p ≤ 1 →
    ((s.port p).stage = .mka → ∃ t, exec (.mkaSakReceived p true mac) s = .next t ∧ t.rd (F.HRT_PORT_STATUS_KEYED p) = 1 ∧
      t.rd Fl.HRT_EVENT_PORT_KEYED.bit = 1 ∧ (t.port p).stage = .keyed ∧ (t.port p).server = mac ∧ (t.port p).pn = 1) ∧
    ((s.port p).stage = .keyed → exec (.mkaSakReceived p true mac) s = .next (s.setPort p { s.port p with pn := 1 })) ∧
    exec (.mkaSakReceived p false mac) s = .next s) ∧
  (∀ (s : State) (p : Nat), p ≤ 1 → (s.port p).stage = .keyed ∨ (s.port p).stage = .mka →
    ∃ t, exec (.mkaLifetimeExpiry p) s = .next t ∧ t.rd (F.HRT_PORT_STATUS_KEYED p) = 0 ∧ t.rd Fl.HRT_EVENT_PORT_DOWN.bit = 1 ∧
      (t.port p).session = none) ∧
  (∀ (s : State) (p : Nat), p ≤ 1 → s.isOn (F.HRT_PORT_STATUS_LINK p) = true →
    ∃ t, exec (.linkDown p) s = .next t ∧ t.rd (F.HRT_PORT_STATUS_LINK p) = 0 ∧ t.rd (F.HRT_PORT_STATUS_KEYED p) = 0 ∧
      t.rd Fl.HRT_EVENT_PORT_DOWN.bit = 1) ∧
  (∀ (s : State) (x : Session) (m : Nat), s.sec.service = some x →
    (s.rd F.SEC_CFG_SVC_IDLE_MIN ≤ m →
      exec (.serviceIdleTimeout m) s = .next (({ s with sec.service := none, sec.claiming := false } : State).sessionRec 2 1 x.roles 2 x.cert)) ∧
    (m < s.rd F.SEC_CFG_SVC_IDLE_MIN → exec (.serviceIdleTimeout m) s = .next s)) ∧
  (∀ s : State, s.sec.service = none → s.sec.claiming = false → s.pwr.ctl = true → s.isOn F.SEC_STATUS_ID_FAULT = false →
    (∀ c : Cert, exec (.serviceSessionOpen (some c)) s = .next (if s.certOk c then
      ({ s with sec.service := some { cert := c.serial, roles := roleClosure c.roles, anchor := c.anchor.getD 0, chain := c.chain } } : State).sessionRec
        2 0 (roleClosure c.roles) 0 c.serial
      else s.authFail 2 c.serial)) ∧
    exec (.serviceSessionOpen none) s = .next (if s.isOn F.SEC_STATUS_CLAIMED then s.authFail 2 0 else { s with sec.claiming := true }))

/-- The acceptance rules of R381, by doorbell and by poll. -/
def Obligations.IndicesFollowTheAcceptanceRules : Prop :=
  (∀ (s : State) (p k n q : Nat) (f : FrameIn), s.frameOk p f = true → s.ringsOn = true → p = s.activePort →
    ((∀ d, s.hrt.dbSeq = some d → 1 ≤ (q + two32 - d) % two32 ∧ (q + two32 - d) % two32 ≤ 2147483648) →
      exec (.doorbell p f k n q) s = .next (({ s.frameTook p f with hrt.dbSeq := some (q % two32) } : State).hostIdx k n)) ∧
    (∀ d, s.hrt.dbSeq = some d → (q + two32 - d) % two32 = 0 ∨ 2147483648 < (q + two32 - d) % two32 →
      exec (.doorbell p f k n q) s = .next (s.frameTook p f))) ∧
  (∀ (s : State) (p k n q : Nat) (f : FrameIn), s.frameOk p f = false → exec (.doorbell p f k n q) s = .next (s.frameDrop p f)) ∧
  (∀ (s : State) (k n : Nat), k ≤ 15 → s.isOn (F.HRT_RING_CFG_ENABLE k) = true → n < two32 →
    let h := s.rd (F.HRT_RING_HOST_IDX_INDEX k)
    let m := s.rd (F.HRT_RING_MOD_IDX_INDEX k)
    let sub (a b : Nat) : Nat := (a + two32 - b % two32) % two32
    let fits := if k = 0 ∨ k = 4 then sub n h ≤ s.ringSize k ∧ sub n m ≤ s.ringSize k else sub n h ≤ sub m h
    (n = h → s.hostIdx k n = s) ∧ (n ≠ h → fits → s.hostIdx k n = s.hostIdxTaken k n) ∧
    (n ≠ h → ¬ fits → sub h n ≤ s.ringSize k → s.hostIdx k n = s) ∧
    (n ≠ h → ¬ fits → ¬ sub h n ≤ s.ringSize k → s.hostIdx k n = s.flag Fl.HRT_EVENT_DOORBELL_BAD { idx := k })) ∧
  (∀ (s : State) (k n : Nat), n < two32 → (s.hostIdxTaken k n).rd (F.HRT_RING_HOST_IDX_INDEX k) = n) ∧
  (∀ (s : State) (k n : Nat), s.ringsOn = true → s.rd F.HRT_CFG_POLL_MS ≠ 0 ∨ s.hrt.reread = true → s.keyed s.activePort = true → k ≤ 15 →
    s.isOn (F.HRT_RING_CFG_ENABLE k) = true → exec (.hostIdxPoll [(k, n)]) s = .next (({ s with hrt.reread := false } : State).hostIdx k n)) ∧
  (∀ (s : State) (l : List (Nat × Nat)), s.rd F.HRT_CFG_POLL_MS = 0 → s.hrt.reread = false → exec (.hostIdxPoll l) s = .next s)

/-- Rings, frames, events and telemetry. (Readings of the model: assumption log 14, 19, 108, 109, 110, 113, 196, 197.) -/
def Obligations.RingsCarryInOrder : Prop :=
  (∀ s : State, s.isOn F.HRT_CFG_RINGS_ON = false → s.cfgErr = 0 →
    ∃ t, exec .setRingsOn s = .next t ∧ t.ringsOn = true ∧ t.rd F.HRT_STATUS_CFG_ERR = 0 ∧
      ∀ k, k ≤ 15 → t.rd (F.HRT_RING_MOD_IDX_INDEX k) = 0 ∧ t.rd (F.HRT_RING_HOST_IDX_INDEX k) = 0) ∧
  (∀ s : State, s.isOn F.HRT_CFG_RINGS_ON = false → s.cfgErr ≠ 0 → exec .setRingsOn s = .next (s.wr F.HRT_STATUS_CFG_ERR s.cfgErr)) ∧
  (∀ s : State, s.isOn F.HRT_CFG_RINGS_ON = true →
    ∃ t, exec .clearRingsOn s = .next t ∧ t.ringsOn = false ∧ t.isOn F.HRT_CFG_RINGS_ON = false ∧ t.hrt.compWait = [] ∧ t.hrt.transfers = [] ∧
      t.hrt.completions = s.hrt.completions) ∧
  (∀ (s : State) (b : List Byte), s.ringOn 0 = true → s.rd (F.HRT_RING_HOST_IDX_INDEX 0) ≠ s.rd (F.HRT_RING_MOD_IDX_INDEX 0) → 2 ≤ s.ringFree 1 →
    s.hrt.compWait = [] → s.hrt.taken = [] → s.hrt.switching = none → ((cmdEntry b).fence = true → s.hrt.ops = []) → s.hrt.transfers = [] →
    opcodeKnown (cmdEntry b).opcode = true → (cmdEntry b).reserved = false →
    ((cmdEntry b).bulkLen ≠ 0 → (cmdEntry b).bulkIndex = (s.rd (F.HRT_RING_MOD_IDX_INDEX 4) + s.hrt.bulkSkip) % two32) →
    ∃ t x, exec (.commandTake b) s = .next t ∧ t.hrt.taken = [x] ∧ x.opcode = (cmdEntry b).opcode ∧ x.tag = (cmdEntry b).tag ∧ x.mode = s.mode ∧
      x.bulkLen = (cmdEntry b).bulkLen ∧ x.roles = s.portRoles s.activePort ∧
      t.rd (F.HRT_RING_MOD_IDX_INDEX 0) = (s.rd (F.HRT_RING_MOD_IDX_INDEX 0) + 1) % two32) ∧
  (∀ (s : State) (b : List Byte), s.ringFree 1 < 2 → exec (.commandTake b) s = .next s) ∧
  (∀ (s : State) (op tag : Nat) (x : Taken), s.takenOf op tag = some x → x.bulkLen ≠ 0 →
    ∃ t, exec (.bulkDataTimeout op tag) s = .next t ∧ t = s.refuseCmd op (roleOf op) { tag := tag, port := x.port } .param ∧
      t.hrt.taken = s.hrt.taken.erase x ∧ (s.isOn F.HRT_STATUS_RINGS_RUNNING = true →
        ∃ c, c.opcode = op ∧ c.tag = tag ∧ c.kind = 0 ∧ c.status = .param ∧ t.handed = s.handed ++ [c])) ∧
  (∀ (s : State) (op tag : Nat), (∀ x, s.takenOf op tag = some x → x.bulkLen = 0) → exec (.bulkDataTimeout op tag) s = .next s) ∧
  (∀ (s : State) (p q : Nat) (f : FrameIn), s.frameOk p f = true → s.hrt.switching = none → s.pwr.dropping = false →
    exec (.ack p f q) s = .next { s.frameTook p f with
      hrt.frames := (s.hrt.frames.take (s.rd F.HRT_RETX_WINDOW)).filter (fun f => !seqLe f.seq q) ++ s.hrt.frames.drop (s.rd F.HRT_RETX_WINDOW) }) ∧
  (∀ (s : State) (p tag st : Nat) (f : FrameIn) (r : ReadReq), s.frameOk p f = true → (s.hrt.reads.find? fun r => r.tag == tag) = some r →
    (st = 0 → exec (.readResp p f tag st) s = .next { s.frameTook p f with hrt.reads := s.hrt.reads.erase r }) ∧
    (st = 1 ∨ st = 2 → ∃ t, exec (.readResp p f tag st) s = .next t ∧ (t.ring r.ring).stopped = true ∧ t.rd Fl.HRT_EVENT_RING_FAULT.bit = 1 ∧
      t.hrt.reads = s.hrt.reads.erase r)) ∧
  (∀ (s : State) (f : Frame) (l : List Frame), s.ringsOn = true → s.hrt.frames = f :: l →
    (f.retries < s.rd F.HRT_RETX_RETX_MAX → exec (.retxTimeout none) s =
      .next { s with hrt.frames := ((s.hrt.frames.take (s.rd F.HRT_RETX_WINDOW)).map fun f => { f with retries := f.retries + 1 }) ++
        s.hrt.frames.drop (s.rd F.HRT_RETX_WINDOW) }) ∧
    (s.rd F.HRT_RETX_RETX_MAX ≤ f.retries → exec (.retxTimeout none) s = .next (s.portFailed s.activePort))) ∧
  (∀ (s : State) (tag : Nat) (r : ReadReq), s.ringsOn = true → (s.hrt.reads.find? fun r => r.tag == tag) = some r →
    (r.retries < s.rd F.HRT_RETX_RETX_MAX → exec (.retxTimeout (some tag)) s =
      .next { s with hrt.reads := s.hrt.reads.map fun q => if q.tag = tag then { q with retries := q.retries + 1 } else q }) ∧
    (s.rd F.HRT_RETX_RETX_MAX ≤ r.retries → exec (.retxTimeout (some tag)) s = .next (s.portFailed s.activePort))) ∧
  (∀ (s : State) (k : Nat), k ≤ 15 → k ≠ 0 → k ≠ 4 → s.ringOn k = true → (s.ring k).unannounced ≠ 0 → s.rd (F.HRT_RING_CFG_COAL_CNT k) ≠ 0 →
    ∃ t, exec (.notifyCoalTimeout k) s = .next t ∧ (t.ring k).unannounced = 0 ∧
      t.hrt.frames = s.hrt.frames ++ [{ seq := s.hrt.seq, body := .notify [(k, s.rd (F.HRT_RING_MOD_IDX_INDEX k))] }]) ∧
  (∀ (s : State) (e : Ev) (l : List Ev), s.recorder.evq = e :: l →
    (s.ringOn 2 = true → s.recorder.hold = [] → 0 < s.ringFree 2 →
      ∃ t, exec .eventPost s = .next t ∧ t.hrt.events = s.hrt.events ++ [e] ∧ t.recorder.evq = l) ∧
    (s.ringOn 2 = false ∨ s.recorder.hold ≠ [] ∨ s.ringFree 2 = 0 → s.recorder.hold.length < 16384 →
      ∃ t, exec .eventPost s = .next t ∧ t.recorder.hold = s.recorder.hold ++ [e] ∧ t.recorder.evq = l ∧ t.rd F.HRT_STATUS_EVENTS_PENDING = 1 ∧
        t.rd Fl.HRT_EVENT_EVENTS_HELD.bit = 1)) ∧
  (∀ s : State, ∃ t sent, exec .eventRingRoom s = .next t ∧ t.hrt.events = s.hrt.events ++ sent ∧ s.recorder.hold = sent ++ t.recorder.hold ∧
    (t.recorder.hold = [] → t.rd F.HRT_STATUS_EVENTS_PENDING = 0) ∧ (s.ringOn 2 = true → t.recorder.hold = [] ∨ t.ringFree 2 = 0)) ∧
  (∀ (s : State) (k : Nat), 6 ≤ k → k ≤ 15 → s.ringOn k = true → kindWords (s.rd (F.HRT_RING_TLM_KIND k)) ≠ 0 →
    (s.tlmDue k (s.rd (F.HRT_RING_TLM_KIND k)) = false → exec (.telemetryFrame k) s = .next s) ∧
    (s.tlmDue k (s.rd (F.HRT_RING_TLM_KIND k)) = true →
      ((s.ring k).skipped + 1 < s.rd (F.HRT_RING_TLM_DIV k) → exec (.telemetryFrame k) s = .next (s.setRing k
        { s.ring k with last := some (s.tlmIndex (s.rd (F.HRT_RING_TLM_KIND k))), skipped := (s.ring k).skipped + 1 })) ∧
      (s.rd (F.HRT_RING_TLM_DIV k) ≤ (s.ring k).skipped + 1 → ∃ t, exec (.telemetryFrame k) s = .next t ∧ (t.ring k).skipped = 0 ∧
        (t.ring k).last = some (s.tlmIndex (s.rd (F.HRT_RING_TLM_KIND k))) ∧
        (s.rd (F.HRT_RING_TLM_KIND k) = 2 → t = (s.setRing k { s.ring k with last := some s.seg.lastStart, skipped := 0 }).putFrame k 2
          (s.rd (F.HRT_RING_COUNT_N k)) ((numbersFrom (s.rd (F.HRT_RING_TLM_FIRST k)) (s.rd (F.HRT_RING_COUNT_N k))).map s.cellV) s.seg.lastStart
          (s.seg.lastStart * 250000 + (s.seg.lastLen - 1) * 125000) s.seg.lastPartial
          ((numbersFrom (s.rd (F.HRT_RING_TLM_FIRST k)) (s.rd (F.HRT_RING_COUNT_N k))).all fun c => !(s.cellAvg c).markU))))) ∧
  (∀ s : State, s.summary.length = 64) ∧
  (∀ s : State, s.ringOn 3 = true →
    (s.plumbIdx % (4000 / max 1 (s.rd F.HRT_SUMMARY_RATE_HZ)) = 0 →
      exec .summaryFrame s = .next (s.putFrame 3 1 1 s.summary s.plumbIdx s.now false (s.isOn F.SEG_ALIGN_ALIGNED))) ∧
    (s.plumbIdx % (4000 / max 1 (s.rd F.HRT_SUMMARY_RATE_HZ)) ≠ 0 → exec .summaryFrame s = .next s))

/-- The commands of R400. (Readings of the model: assumption log 107, 112, 144.) -/
def Obligations.HostTransportCommandsComplete : Prop :=
  (∀ (s : State) (h : Hdr), s.Allowed 0x0105 rObserver h → ∃ t ws, exec (.hrtStatus h) s = .next t ∧ s.Told t 0x0105 h ws ∧ ws.length = 240 ∧
    ws.take 11 = s.wordsFrom 0x30000 11) ∧
  (∀ (s : State) (h : Hdr) (p : Nat), s.Allowed 0x0106 rOperator h →
    (1 < p → exec (.hrtPortSwitch h p) s = .next (s.refuseCmd 0x0106 rOperator h .range)) ∧
    (p ≤ 1 → s.keyed p = false → exec (.hrtPortSwitch h p) s = .next (s.refuseCmd 0x0106 rOperator h .state)) ∧
    (p ≤ 1 → s.keyed p = true → s.activePort = p ∨ s.ringsOn = false → ∃ t, exec (.hrtPortSwitch h p) s = .next t ∧ s.Done t 0x0106 h .ok []) ∧
    (p ≤ 1 → s.keyed p = true → s.activePort ≠ p → s.ringsOn = true → s.hrt.frames ≠ [] → s.takenOf 0x0106 h.tag ≠ none →
      exec (.hrtPortSwitch h p) s = .next { s with hrt.switching := some p }) ∧
    (p ≤ 1 → s.keyed p = true → s.activePort ≠ p → s.ringsOn = true → s.hrt.frames = [] → ∃ t, exec (.hrtPortSwitch h p) s = .next t ∧
      (s.ringsTo p).Done t 0x0106 h .ok [] ∧ t.activePort = p ∧ t.hrt.switching = none ∧ t.rd Fl.HRT_EVENT_FAILOVER.bit = 1)) ∧
  (∀ (s : State) (h : Hdr) (k kind slot div first count : Nat), s.Allowed 0x0107 rOperator h → 6 ≤ k → k ≤ 15 → kind ∈ [0, 2, 3, 4, 6] →
    slot ≤ 15 → div ≤ 255 → first ≤ 511 → 1 ≤ count → count ≤ 512 → s.rangeOk kind first count = true →
    (s.rd (F.HRT_RING_TLM_KIND k) = 5 → exec (.hrtTlmSet h k kind slot div first count) s = .next (s.refuseCmd 0x0107 rOperator h .busy)) ∧
    (s.rd (F.HRT_RING_TLM_KIND k) ≠ 5 → ∃ t, exec (.hrtTlmSet h k kind slot div first count) s = .next t ∧
      (s.wrs [(F.HRT_RING_TLM_KIND k, kind), (F.HRT_RING_TLM_SLOT k, slot), (F.HRT_RING_TLM_DIV k, max 1 div), (F.HRT_RING_TLM_FIRST k, first),
        (F.HRT_RING_COUNT_N k, count)]).Done t 0x0107 h .ok [])) ∧
  (∀ (s : State) (h : Hdr) (hz : Nat), s.Allowed 0x0108 rOperator h → 1 ≤ hz → hz ≤ 100 →
    ∃ t, exec (.hrtSummaryRate h hz) s = .next t ∧ (s.wrKeep F.HRT_SUMMARY_RATE_HZ hz).Done t 0x0108 h .ok [])

/-- Accesses to the register file. (Readings of the model: assumption log 24, 25, 28, 29, 30.) -/
def Obligations.RegistersAreWrittenWhole : Prop :=
  (∀ (s : State) (o : SetupOp), (s.hostWrite o).2 ≠ .ok → (s.hostWrite o).1 = s) ∧
  (∀ (s : State) (o : SetupOp) (st : Status), s.writeCheck o.addr o.value = some st → s.hostWrite o = (s, st)) ∧
  (∀ (s : State) (p w : Nat), p ≤ 1 → hasRole (s.portRoles p) rMaintainer = true → w < 65536 →
    ∃ t, exec (.registerWrite agHRT p { addr := 0x40008, value := w, write := true }) s = .next t ∧
      t.rd F.SEG_SPARE_CFG_DWELL = max 1 (w % 256) ∧ t.rd F.SEG_SPARE_CFG_DRIFT_LIMIT = w / 256 ∧
      s.SameRegs t [F.SEG_SPARE_CFG_DWELL.key, F.SEG_SPARE_CFG_DRIFT_LIMIT.key] ∧ t.recorder = s.recorder ∧ t.hrt = s.hrt) ∧
  (∀ (s : State) (p : Nat) (o : SetupOp), p ≤ 1 → hasRole (s.portRoles p) rMaintainer = false →
    exec (.registerWrite agHRT p o) s = .next (s.roleDenied p)) ∧
  (∀ (s : State) (p q : Nat) (f : FrameIn) (ops : List SetupOp), s.frameOk p f = true →
    (s.pwr.ctl = true → s.mode ≠ mSHELF → s.hrt.setupSeq ≠ some (q % two32) → ops ≠ [] → ops.length ≤ 64 →
      ∃ t r, exec (.setupReq p f q ops) s = .next t ∧ r = (s.frameTook p f).setupOps agHRT p ops [] ∧ t.hrt.setupSeq = some (q % two32) ∧
        t.hrt.setupResp = r.2 ∧ r.2.length = ops.length ∧ t.regs = r.1.regs) ∧
    (s.hrt.setupSeq = some (q % two32) → exec (.setupReq p f q ops) s = .next (s.frameTook p f))) ∧
  (∀ (s : State) (o : SetupOp), s.sec.service ≠ none → s.pwr.ctl = true → s.mode ≠ mSHELF →
    ∃ t r, exec (.serviceSetupOp o) s = .next t ∧ t.hrt.serviceResp = r.1.hrt.serviceResp ++ [r.2] ∧ r = s.setupOp agSERVICE 2 o) ∧
  (∀ (s : State) (a : Nat), Tbl.has s.latches (latchKey a F.REC_SEQ_LO_VALUE.addr) = false →
    ∃ t, exec (.pairedLowWordRead a F.REC_SEQ_LO_VALUE.addr) s = .next t ∧ t.lastRead = s.rd F.REC_SEQ_LO_VALUE ∧
      t.wordFor a (F.REC_SEQ_LO_VALUE.addr + 4) = (s.rd F.REC_SEQ_HI_VALUE, .ok) ∧ t.regs = s.regs)

/-- The commands of R103 and R130. (Readings of the model: assumption log 56, 144, 169, 172, 186.) -/
def Obligations.MeasurementCommandsComplete : Prop :=
  (∀ (s : State) (h : Hdr) (n : Nat), s.Allowed 0x0201 rOperator h → 1 ≤ n → n ≤ 4096 →
    ∃ t, exec (.setAveraging h n) s = .next t ∧ (s.wr F.SEG_AVG_CFG_N_M1 (n - 1)).Done t 0x0201 h .ok []) ∧
  (∀ (s : State) (h : Hdr) (k m : Nat), s.Allowed 0x0202 rMaintainer h → 6 ≤ k → k ≤ 15 → s.isOn (F.HRT_RING_CFG_ENABLE k) = true →
    m < 2 ^ s.segs → s.seg.rawRing = 0 →
    ∃ t, exec (.rawStreamStart h k m) s = .next t ∧
      ({ s.wr (F.HRT_RING_TLM_KIND k) 5 with seg.rawRing := k, seg.rawMask := m } : State).Done t 0x0202 h .ok []) ∧
  (∀ (s : State) (h : Hdr), s.Allowed 0x0203 rMaintainer h → s.seg.rawRing ≠ 0 →
    ∃ t, exec (.rawStreamStop h) s = .next t ∧
      ({ s.wr (F.HRT_RING_TLM_KIND s.seg.rawRing) 0 with seg.rawRing := 0, seg.rawMask := 0 } : State).Done t 0x0203 h .ok []) ∧
  (∀ (s : State) (h : Hdr), s.Allowed 0x0203 rMaintainer h → s.seg.rawRing = 0 → ∃ t, exec (.rawStreamStop h) s = .next t ∧ s.Done t 0x0203 h .ok []) ∧
  (∀ (s : State) (h : Hdr) (k : Nat), s.Allowed 0x0204 rMaintainer h → s.segOk k = true → s.segLive k = true → s.spareFree k = true →
    (s.segOf k).cal = none → (s.segOf k).shadow = none →
    ∃ t, exec (.calCheck h k) s = .next t ∧ ((s.setSeg k { s.segOf k with cal := some [] }).turnSpare k 0).Accepted t 0x0204 h k []) ∧
  (∀ (s : State) (h : Hdr) (k : Nat), s.Allowed 0x0204 rMaintainer h → s.segOk k = true → s.segLive k = false ∨ s.spareFree k = false →
    (s.segOf k).cal = none → (s.segOf k).shadow = none → exec (.calCheck h k) s = .next (s.refuseCmd 0x0204 rMaintainer h .noResource)) ∧
  (∀ (s : State) (h : Hdr) (k : Nat), s.Allowed 0x0205 rObserver h → s.segArgBad k = false →
    ∃ t, exec (.segStatus h k) s = .next t ∧ s.Told t 0x0205 h (s.words ((s.segArg k).map (fun k => 0x40100 + 4 * (k - 1)) ++
      (s.segArg k).map (fun k => 0x40200 + 4 * (k - 1)) ++ [0x40030]))) ∧
  (∀ (s : State) (h : Hdr) (k j : Nat), s.Allowed 0x0206 rMaintainer h → s.segOk k = true → 1 ≤ j → j ≤ 16 → s.segLive k = true →
    s.spareFree k = true → s.sumFault k = false → (s.segOf k).cal = none → (s.segOf k).shadow = none →
    ∃ t, exec (.spareAssign h k j) s = .next t ∧ ((s.setSeg k { s.segOf k with shadow := some (j, true) }).turnSpare k j).Accepted t 0x0206 h k []) ∧
  (∀ (s : State) (h : Hdr) (k j : Nat), s.Allowed 0x0206 rMaintainer h → s.segOk k = true → 1 ≤ j → j ≤ 16 → s.segLive k = false ∨ s.spareFree k = false →
    (s.segOf k).cal = none → (s.segOf k).shadow = none → exec (.spareAssign h k j) s = .next (s.refuseCmd 0x0206 rMaintainer h .noResource)) ∧
  (∀ (s : State) (h : Hdr) (k : Nat), s.Allowed 0x0207 rMaintainer h → s.segOk k = true → (s.segOf k).present = true →
    ∃ t, exec (.segReset h k) s = .next t ∧ ((s.segReset k).clearWires k).gateTone.Done t 0x0207 h .ok [] ∧ t.segState k = segISOLATED ∧
      t.rd F.PWR_RESET_CAUSE_KIND = 5 ∧ t.rd (F.SEG_WIRE_WIRE_MAP k) = 0 ∧ t.rd (F.SEG_WIRE_SENSE_LOSS k) = 0) ∧
  (∀ (s : State) (h : Hdr) (k : Nat), s.Allowed 0x0207 rMaintainer h → s.segOk k = true → (s.segOf k).present = false →
    exec (.segReset h k) s = .next (s.refuseCmd 0x0207 rMaintainer h .noResource)) ∧
  (∀ (s : State) (h : Hdr) (k : Nat), s.Allowed 0x0208 rObserver h → s.segArgBad k = false →
    ∃ t, exec (.wireStatus h k) s = .next t ∧ s.Told t 0x0208 h ((s.segArg k).flatMap fun k =>
      s.words [0x40300 + 4 * (k - 1), 0x40400 + 4 * (k - 1)] ++ (numbersFrom 0 18).map fun i => (s.segOf k).amps.getD i 0)) ∧
  (∀ (s : State) (h : Hdr) (k : Nat), s.Allowed 0x0209 rMaintainer h → s.segOk k = true → s.rd F.SEG_WIRE_PARAM_DETECT_BLOCKS ≤ (s.segOf k).clean →
    ∃ t, exec (.wireFaultClear h k) s = .next t ∧
      ((s.setSeg k { s.segOf k with ind := if s.isOn (F.SEG_WIRE_SENSE_LOSS k) then (s.segOf k).ind else 0
                                    indSum := s.isOn (F.SEG_WIRE_SENSE_LOSS k) && (s.segOf k).indSum }).wrs
        [(F.SEG_WIRE_WIRE_MAP k, 0), (F.SEG_WIRE_S0 k, 0), (F.SEG_WIRE_S16 k, 0), (F.SEG_WIRE_PAIR_MODE k, 0),
         (F.SEG_WIRE_INTERMITTENT k, 0)]).Done t 0x0209 h .ok []) ∧
  (∀ (s : State) (h : Hdr) (k : Nat), s.Allowed 0x0209 rMaintainer h → s.segOk k = true → (s.segOf k).clean < s.rd F.SEG_WIRE_PARAM_DETECT_BLOCKS →
    exec (.wireFaultClear h k) s = .next (s.refuseCmd 0x0209 rMaintainer h .safety))

/-- One instant, from the modulators to the windows. (Readings of the model: assumption log 61, 66, 67, 68, 69, 70, 75, 173, 174, 181, 182, 190.) -/
def Obligations.InstantsReachEveryUser : Prop :=
  (∀ (s : State) (shunt flux : Int) (ts : Option Int),
    ∃ t, exec (.plumbInstant shunt flux ts) s = .next t ∧ t.time.count = max s.time.count (s.instant32 / two32) ∧ t.cim.fresh = true ∧
      (s.pwr.ctl = false → s.plumbIdx + 1 < 2 ^ 64 →
        t.plumbIdx = s.plumbIdx + 1 ∧ t.seg.beat = heartbeat (s.plumbIdx + 1) false false) ∧
      (t.seg.phase - s.seg.phase).natAbs ≤ 25 ∧ (s.seg.phase.natAbs ≤ 500000 → t.seg.phase.natAbs ≤ 500000) ∧
      (∀ k, s.segOk k = true → (t.segOf k).got = false) ∧
      (80000000 < shunt.natAbs → ∃ c, t.cim.recent.head? = some (none, c))) ∧
  (∀ (s : State) (k : Nat) (a b : Copy) (r : CardRead), s.segOk k = true → (s.segOf k).present = true → (s.segOf k).blank = false →
    (s.segOf k).cut = false →
    (∃ t, exec (.frameReceived k a b r) s = .next t ∧ t.cim.fresh = false) ∧
    (∀ f, s.cim.fresh = false → s.segLive k = true → heard (s.copiesOf k a b r) = some f →
      ∃ t, exec (.frameReceived k a b r) s = .next t ∧ (t.segOf k).frame = some f ∧ (t.segOf k).got = true ∧
        Tbl.get 0 (t.segOf k).ntc (f.seq % 8 + 1) = f.ntc) ∧
    (s.cim.fresh = false → s.segState k ≠ segJOINING → s.copiesOf k a b r = (.bad, .bad) →
      exec (.frameReceived k a b r) s = .next ((((s.wr F.LATH_ERR_CNT_A_UNCORR_COPIES (s.rd F.LATH_ERR_CNT_A_UNCORR_COPIES + 1)).wr
        F.LATH_ERR_CNT_B_UNCORR_COPIES (s.rd F.LATH_ERR_CNT_B_UNCORR_COPIES + 1)).raiseCause .safetyMemory 3).detail true [8, k] .integrity true)) ∧
    (s.cim.fresh = false → s.segState k ≠ segJOINING → exec (.frameReceived k .absent .absent r) s = .next s)) ∧
  (∀ (s : State) (k : Nat) (a b : Copy) (r : CardRead), (s.segOf k).present = false → exec (.frameReceived k a b r) s = .next s) ∧
  (∀ s : State, s.plumbIdx < s.filtLag → exec .frameIntake s = .next s) ∧
  (∀ s : State, s.filtLag ≤ s.plumbIdx → s.cim.fresh = false → s.intakeDue (s.plumbIdx - s.filtLag) = true →
    ∃ t, exec .frameIntake s = .next t ∧ t.seg.due = s.seg.due + 1 ∧ t.seg.winOn = true ∧
      t.se.hist.head?.map (·.idx) = some (s.plumbIdx - s.filtLag)) ∧
  (∀ s : State, ∃ t, exec .averagingWindowEnd s = .next t ∧ t.seg.lastStart = s.seg.winStart ∧
    t.seg.lastLen = s.plumbIdx - s.filtLag + 1 - s.seg.winStart ∧ t.seg.lastPartial = (s.seg.partialWin || t.seg.lastLen != s.seg.winLen) ∧
    t.seg.due = 0 ∧ t.seg.winStart = s.plumbIdx - s.filtLag + 1 ∧ t.seg.winLen = s.rd F.SEG_AVG_CFG_N_M1 + 1 ∧
    t.seg.partialWin = ((s.plumbIdx - s.filtLag + 1) % (s.rd F.SEG_AVG_CFG_N_M1 + 1) != 0) ∧
    (∀ k j, s.segOk k = true → 1 ≤ j → j ≤ 18 → Tbl.get {} (t.segOf k).avg j = (Tbl.get ({} : Avg) (s.segOf k).avg j).close s.seg.due)) ∧
  (∀ (a : Avg) (due : Nat), (2 * a.n < due ∨ a.n = 0 → (a.close due).mean = none ∧ (a.close due).quality = 4) ∧
    (due ≤ 2 * a.n → 0 < a.n → a.affected = false → (a.close due).mean = some (a.raw / a.n) ∧ (a.close due).quality = a.worst))

/-- The code of R91 is systematic, and its own words have no syndrome. -/
def Obligations.RsWordsReadBackWhole : Prop :=
  ∀ d : List Byte, d.length = 32 → (∀ b ∈ d, b < 256) →
    rsDecode (rsEncode d) = some (d, 0) ∧ (rsEncode d).length = 36 ∧ (rsEncode d).take 32 = d

/-- Joins, losses and the two directions. (Readings of the model: assumption log 14, 56, 59, 63, 170, 182, 183, 185.) -/
def Obligations.CardsJoinAndLeaveTheRing : Prop :=
  (∀ (s : State) (k serial ov uv : Nat) (fac : CardFac), s.segOk k = true →
    ∃ t, exec (.cardPresent k serial ov uv false fac) s = .next t ∧ t.segState k = segISOLATED ∧ t.rd (F.SEG_CMP_OV_LATCH k) = ov % 65536 ∧
      t.rd (F.SEG_CMP_UV_LATCH k) = uv % 65536 ∧ t.rd F.PWR_RESET_CAUSE_KIND = 5 ∧ (t.segOf k).present = true ∧ (t.segOf k).blank = false ∧
      (t.segOf k).fac = fac ∧ (t.segOf k).join = 1) ∧
  (∀ (s : State) (k serial ov uv : Nat) (fac : CardFac), 1 ≤ k → k ≤ 26 →
    ∃ t, exec (.cardPresent k serial ov uv true fac) s = .next t ∧ t.segState k = segBLANK ∧ (t.segOf k).blank = true) ∧
  (∀ (s : State) (k serial ov uv : Nat) (fac : CardFac), 1 ≤ k → k ≤ 26 → s.segOk k = false →
    ∃ t, exec (.cardPresent k serial ov uv false fac) s = .next t ∧ t.segState k = segABSENT ∧ (t.segOf k).join = 0) ∧
  (∀ (s : State) (k serial ov uv : Nat) (blank : Bool) (fac : CardFac), k = 0 ∨ 26 < k →
    exec (.cardPresent k serial ov uv blank fac) s = .next s.gateTone) ∧
  (∀ (s : State) (k a b : Nat), s.segOk k = true → (s.segOf k).present = true → (s.segOf k).blank = false → 1 ≤ (s.segOf k).join →
    (s.segOf k).join ≤ 4 → ∃ t, exec (.cardPresentStable k [(k, (a, b))]) s = .next t ∧ t.segState k = segJOINING ∧ (t.segOf k).join = 5 ∧
      t.rd (F.LATH_DELAY_DELAY_A k) = (a - (s.segOf k).fac.turn) / 2 % 65536 ∧
      t.rd (F.LATH_DELAY_DELAY_B k) = (b - (s.segOf k).fac.turn) / 2 % 65536 ∧ (t.segOf k).phase.isSome = true ∧
      t.rd F.PWR_SEG_ON_ISLAND / 2 ^ (k - 1) % 2 = 1) ∧
  (∀ (s : State) (k : Nat) (c : JoinCheck) (rel : List (Nat × Nat)), s.segOk k = true → (s.segOf k).present = true → s.segLive k = false →
    (s.segOf k).join = 5 →
    (JoinCheck.failed c = 0 → ∃ t, exec (.joinCheckDone k c rel) s = .next t ∧ t.segState k = segPROVISIONAL ∧
      t.rd Fl.SEG_EVENT_CARD_JOINED.bit = 1 ∧ (t.segOf k).refSeen = true ∧ (c.echo ≠ s.cmpConfig k → t.hasCause .cmpEcho = true) ∧
      (10 * s.rd F.SEG_SPARE_CFG_DRIFT_LIMIT < (c.ref - (s.segOf k).fac.ref).natAbs → t.rd (F.SEG_STATE_SPARE_FAILED k) = 1)) ∧
    (JoinCheck.failed c ≠ 0 → ∃ t, exec (.joinCheckDone k c rel) s = .next t ∧ t.segState k = segISOLATED ∧ (t.segOf k).join = 0 ∧
      t.rd Fl.SEG_EVENT_JOIN_FAIL.bit = 1)) ∧
  (∀ (s : State) (k : Nat), s.segOk k = true → s.segState k = segPROVISIONAL → (s.segOf k).refSeen = true →
    ∃ t, exec (.provisionalExpiry k) s = .next t ∧ t.segState k = segSERVICE) ∧
  (∀ (s : State) (k : Nat), s.segOk k = true → exec (.balancingHoldExpiry k) s = .next (s.modSeg k fun x => { x with hold := false })) ∧
  (∀ (s : State) (k : Nat), s.segOk k = true → (s.segOf k).present = true →
    ∃ t, exec (.segCardFault k) s = .next t ∧ t.segState k = segISOLATED ∧ t.rd F.PWR_RESET_CAUSE_KIND = 5) ∧
  (∀ (s : State) (k : Nat), s.segOk k = true → s.segLive k = true → (s.segOf k).missed < 4 → exec (.cardLost k) s = .next s) ∧
  (∀ (s : State) (k : Nat), s.segOk k = true → s.segLive k = true → 4 ≤ (s.segOf k).missed →
    ∃ t, exec (.cardLost k) s = .next t ∧ t.segState k = segLOST ∧ t.rd Fl.SEG_EVENT_CARD_LOST.bit = 1 ∧
      (s.wdSlot ≠ k → t.hasCause .cardLost = true)) ∧
  (∀ (s : State) (k : Nat), s.segOk k = true →
    exec (.cardIsolated k) s = .next ((s.modSeg k fun x => { x with cut := true, got := false }).pathsOff k).gateTone) ∧
  (∀ (s : State) (hop : Nat) (a b : Bool), hop ≤ 26 →
    ∃ t, exec (.ringBreak hop a b) s = .next t ∧ t.rd F.LATH_STATUS_BREAK_HOP = hop ∧ t.rd Fl.SEG_EVENT_RING_BREAK.bit = 1 ∧
      t.rd F.LATH_STATUS_A_WHOLE = (if a then 0 else s.rd F.LATH_STATUS_A_WHOLE % 2) ∧
      t.rd F.LATH_STATUS_B_WHOLE = (if b then 0 else s.rd F.LATH_STATUS_B_WHOLE % 2) ∧
      (a = true → ∀ k, s.segOk k = true → hop < k → t.rd (F.SEG_STATE_TIMING_DIR k) = 1)) ∧
  (∀ (s : State) (d : List (Nat × (Nat × Nat))),
    ∃ t, exec (.ringWhole d) s = .next t ∧ t.rd F.LATH_STATUS_BREAK_HOP = 63 ∧ t.rd F.LATH_STATUS_A_WHOLE = 1 ∧ t.rd F.LATH_STATUS_B_WHOLE = 1 ∧
      t.rd Fl.SEG_EVENT_RING_WHOLE.bit = 1 ∧ t.seg.hops = 0) ∧
  (∀ (s : State) (b : Bool), ∃ t, exec (.lathDirectionDegraded b) s = .next t ∧
    t.rd (if b then F.LATH_STATUS_B_DEGRADED else F.LATH_STATUS_A_DEGRADED) = 1 ∧
    (s.isOn F.LATH_STATUS_A_WHOLE = true → s.isOn F.LATH_STATUS_B_WHOLE = true → s.isOn F.LATH_STATUS_B_DEGRADED = false → b = false →
      ∀ k, s.segOk k = true → t.rd (F.SEG_STATE_TIMING_DIR k) = 1)) ∧
  (∀ (s : State) (k a b : Nat), s.segOk k = true →
    ∃ t, exec (.echoMeasure [(k, (a, b))]) s = .next t ∧ t.rd (F.LATH_DELAY_DELAY_A k) = (a - (s.segOf k).fac.turn) / 2 % 65536 ∧
      t.rd (F.LATH_DELAY_DELAY_B k) = (b - (s.segOf k).fac.turn) / 2 % 65536 ∧
      t.seg.words = s.seg.words ++ [echoRequest k 1, echoReply k, echoRequest k 0, echoReply k])

/-- The spare converter, R109–R129 and the loop. (Readings of the model: assumption log 14, 57, 58, 75, 172, 181, 184.) -/
def Obligations.SenseWiresComparatorsAndTone : Prop :=
  (∀ (s : State) (k : Nat) (m : Rat), s.segOk k = true → s.segLive k = true → s.spareFree k = true →
    (s.segOf k).shadow = none → (s.segOf k).cal = none → meanOf (s.segOf k).dwSum (s.segOf k).dwN = some m →
    ((s.segOf k).rot = 0 → |m| ≤ ((10 * s.rd F.SEG_SPARE_CFG_DRIFT_LIMIT : Nat) : Rat) →
      ∃ t, exec (.spareDwellEnd k 0) s = .next t ∧ (t.segOf k).rot = 1 ∧ (t.segOf k).refSeen = true) ∧
    ((s.segOf k).rot = 0 → ((10 * s.rd F.SEG_SPARE_CFG_DRIFT_LIMIT : Nat) : Rat) < |m| →
      ∃ t, exec (.spareDwellEnd k 0) s = .next t ∧ (t.segOf k).spareFailed = true ∧ t.rd (F.SEG_STATE_SPARE_FAILED k) = 1) ∧
    (∀ j, (s.segOf k).rot = j → 1 ≤ j → j ≤ 16 → |m| ≤ ((10 * s.rd F.SEG_SPARE_CFG_DRIFT_LIMIT : Nat) : Rat) →
      ∃ t, exec (.spareDwellEnd k 0) s = .next t ∧ (t.segOf k).rot = (if j = 16 then 0 else j + 1) ∧ Tbl.get 0 (t.segOf k).drift j = 0) ∧
    (∀ j, (s.segOf k).rot = j → 1 ≤ j → j ≤ 16 → ((10 * s.rd F.SEG_SPARE_CFG_DRIFT_LIMIT : Nat) : Rat) < |m| →
      Tbl.get 0 (s.segOf k).drift j = 1 → s.isOn F.UC_CFG_AUTO_CONV = true →
      ∃ t, exec (.spareDwellEnd k 0) s = .next t ∧ (t.segOf k).subst = j ∧ t.rd (F.SEG_STATE_SPARE_SUBST k) = 1)) ∧
  (∀ (s : State) (k j fail : Nat), s.segOk k = true → s.segLive k = true → s.spareFree k = true → (s.segOf k).shadow = some (j, true) →
    (s.shadowAgrees k = true → exec (.spareDwellEnd k fail) s = .next (((s.substitute k j).finish 0x0206 k .ok).finish 0x0B04 k .ok).gateTone) ∧
    (s.shadowAgrees k = false → ∃ t, exec (.spareDwellEnd k fail) s = .next t ∧ (t.segOf k).shadow = none ∧ (t.segOf k).subst = 0 ∧
      (t.segOf k).rot = (if j = 16 then 0 else j + 1))) ∧
  (∀ (s : State) (k : Nat) (l : List Int) (m : Rat) (fail : Nat), s.segOk k = true → s.segLive k = true →
    s.spareFree k = true → (s.segOf k).shadow = none → (s.segOf k).cal = some l → l.length = 16 →
    meanOf (s.segOf k).dwSum (s.segOf k).dwN = some m →
    exec (.spareDwellEnd k fail) s = .next (((s.setSeg k { s.segOf k with cal := none }).finish 0x0204 k .ok (l ++ [ratRound m])).turnSpare k 0)) ∧
  (∀ (s : State) (k : Nat) (e : CmpEcho), (s.segOf k).blkDone = none → exec (.wireBlockEnd k e) s = .next s) ∧
  (∀ (s : State) (k mk : Nat) (b : Blk), s.segOk k = true → s.segLive k = true → (s.segOf k).blkDone = some b →
    verdictOf (1000 * s.rd F.SEG_WIRE_PARAM_AMP_THRESH) (2000 * s.rd F.SEG_WIRE_PARAM_SUM_MISMATCH) (b.amps.take 16) (b.amps.getD 16 0)
      (b.amps.getD 17 0) = (.none, mk) → (s.segOf k).verdict = .none →
    exec (.wireBlockEnd k (s.cmpConfig k)) s = .next (s.setSeg k { s.segOf k with blkDone := none, amps := b.amps
                                                                                  vcount := (s.segOf k).vcount + 1
                                                                                  clean := (s.segOf k).clean + 1 }).gateTone) ∧
  (∀ (s : State) (k w mk : Nat) (b : Blk) (e : CmpEcho), s.segOk k = true → s.segLive k = true → (s.segOf k).blkDone = some b →
    verdictOf (1000 * s.rd F.SEG_WIRE_PARAM_AMP_THRESH) (2000 * s.rd F.SEG_WIRE_PARAM_SUM_MISMATCH) (b.amps.take 16) (b.amps.getD 16 0)
      (b.amps.getD 17 0) = (.wire w, mk) → w ≤ 16 → (s.segOf k).verdict = .wire w →
    s.rd F.SEG_WIRE_PARAM_DETECT_BLOCKS ≤ (s.segOf k).vcount + 1 → s.rd (F.SEG_WIRE_WIRE_MAP k) / 2 ^ w % 2 = 0 →
    ∃ t, exec (.wireBlockEnd k e) s = .next t ∧ t.rd (F.SEG_WIRE_WIRE_MAP k) / 2 ^ w % 2 = 1 ∧ t.rd (F.SEG_WIRE_PAIR_MODE k) = 1 ∧
      t.rd Fl.SEG_SENSE_EVENT_WIRE_FAULT.bit = 1) ∧
  (∀ (th mm j : Nat) (x y d : Int), 0 < th → 1 ≤ j → j ≤ 15 → (th : Int) ≤ x → y ≤ -(th : Int) → d.natAbs ≤ mm →
    verdictOf th mm ((numbersFrom 1 16).map fun i => if i = j then x else if i = j + 1 then y else 0) 0 d = (.wire j, 2 ^ (j - 1) + 2 ^ j)) ∧
  (∀ (s : State) (k j us gap : Nat) (uv : Bool), s.cmpWorks k j uv = true →
    (((s.segOf k).counts.any fun p => p.1 == cmpBit j uv) = false ∨ 50 ≤ gap →
      exec (.comparatorAssert k j uv us gap) s = .next (s.setSeg k { s.segOf k with
        counts := dropCount (s.segOf k).counts (cmpBit j uv) ++ [(cmpBit j uv, us)] })) ∧
    (((s.segOf k).counts.any fun p => p.1 == cmpBit j uv) = true → gap < 50 → exec (.comparatorAssert k j uv us gap) s = .next s)) ∧
  (∀ (s : State) (k j us : Nat) (uv : Bool), ((s.segOf k).counts.any fun p => p.1 == cmpBit j uv) = false →
    exec (.cmpTrip k j uv us) s = .next s) ∧
  (∀ (s : State) (k j us at_ : Nat) (uv : Bool), s.cmpWorks k j uv = true →
    ((s.segOf k).counts.find? fun p => p.1 == cmpBit j uv) = some (cmpBit j uv, at_) →
    (us < at_ + 1000 * s.rd F.SEG_CMP_PARAM_DEGLITCH_MS → exec (.cmpTrip k j uv us) s = .next s) ∧
    (at_ + 1000 * s.rd F.SEG_CMP_PARAM_DEGLITCH_MS ≤ us → ∃ t, exec (.cmpTrip k j uv us) s = .next t ∧
      t.rd Fl.SEG_SENSE_EVENT_CMP_TRIP.bit = 1 ∧
      t.rd (if uv then F.SEG_CMP_UV_LATCH k else F.SEG_CMP_OV_LATCH k) / 2 ^ (j - 1) % 2 = 1)) ∧
  (∀ (s : State) (k : Nat) (ov uv : Nat × Nat), s.segOk k = true → (s.segOf k).present = true → (s.segOf k).blank = false → s.onAux k = true →
    ∃ t, exec (.comparatorTest k ov uv) s = .next t ∧
      (t.segOf k).testPos = (if 16 ≤ (s.segOf k).testPos then 1 else (s.segOf k).testPos + 1) ∧
      (ov.1 ≤ 100 → ov.2 ≤ 100 → uv.1 ≤ 100 → uv.2 ≤ 100 → (t.segOf k).selftest = (s.segOf k).selftest) ∧
      (s.testRuns k (s.segOf k).testPos false = true → 100 < ov.1 ∨ 100 < ov.2 →
        (t.segOf k).selftest = true ∧ t.rd Fl.SEG_SENSE_EVENT_CMP_TEST_FAIL.bit = 1 ∧ t.rd F.SYS_MODE_READY_BLOCK % 2 = 1)) ∧
  (∀ (s : State) (k : Nat), s.segOk k = true → s.onAux k = false → s.mode ≠ mSHELF → s.pwr.phase = .up →
    ∃ t, exec (.keepaliveLow k) s = .next t ∧ (t.segOf k).keepLow = true ∧ t.rd Fl.SEG_SENSE_EVENT_KEEPALIVE_LOW.bit = 1) ∧
  (∀ s : State, (s.toneThrough = true → exec .toneArmed s = .next { s.wr F.SEG_TONE_TONE_PRESENT 1 with seg.armed := true, seg.loopOpen := false }) ∧
    (s.toneThrough = false → exec .toneArmed s = .next s)) ∧
  (∀ s : State, s.seg.armed = true → ∃ t, exec .toneLost s = .next t ∧ t.rd F.SEG_TONE_TONE_PRESENT = 0 ∧ t.hasCause .tone = true ∧
    t.seg.loopOpen = s.toneThrough) ∧
  (∀ s : State, s.seg.armed = false → exec .toneLost s = .next s) ∧
  (∀ (s : State) (rel : List (Nat × Nat)), s.seg.deadline = true → exec (.toneArmingDeadline rel) s = .next s) ∧
  (∀ (s : State) (rel : List (Nat × Nat)), s.seg.deadline = false → s.seg.latchCheck = false →
    (s.seg.armed = true → exec (.toneArmingDeadline rel) s = .next { s.gateTone with seg.deadline := true }) ∧
    (s.seg.armed = false → ∃ t, exec (.toneArmingDeadline rel) s = .next t ∧ t.seg.deadline = true ∧ t.hasCause .tone = true ∧
      t.rd F.SEG_TONE_TONE_PRESENT = 0))

/-- The commands of R149. (Readings of the model: assumption log 72, 89, 144, 171.) -/
def Obligations.BalancingCommandsComplete : Prop :=
  (∀ (s : State) (h : Hdr) (m : Nat), s.Allowed 0x0301 rOperator h → m ≤ 1 →
    ∃ t, exec (.balSetMode h m) s = .next t ∧ (s.wrKeep F.BAL_CFG_MODE m).Done t 0x0301 h .ok []) ∧
  (∀ (s : State) (h : Hdr) (kind target db limit : Nat), s.Allowed 0x0302 (if kind = 3 then rMaintainer else rOperator) h →
    1 ≤ kind → kind ≤ 3 → (kind = 2 → target ≤ 10000) → limit ≤ 1000 → s.bal.campaign = none →
    ∃ t, exec (.balCampaignStart h kind target db limit) s = .next t ∧
      (s.startCampaign { kind := kind, target := target, deadband := if db = 0 then 50 else db, limit := 3600 * limit }).Accepted t 0x0302 h 0 []) ∧
  (∀ (s : State) (h : Hdr) (kind target db limit : Nat), s.Allowed 0x0302 (if kind = 3 then rMaintainer else rOperator) h →
    1 ≤ kind → kind ≤ 3 → (kind = 2 → target ≤ 10000) → limit ≤ 1000 → s.bal.campaign ≠ none →
    exec (.balCampaignStart h kind target db limit) s =
      .next (s.refuseCmd 0x0302 (if kind = 3 then rMaintainer else rOperator) h .busy)) ∧
  (∀ (s : State) (h : Hdr), s.Allowed 0x0303 rOperator h →
    ∃ t, exec (.balCampaignStop h) s = .next t ∧ (s.endCampaign .aborted).Done t 0x0303 h .ok [] ∧ t.bal.campaign = none) ∧
  (∀ (s : State) (h : Hdr), s.Allowed 0x0303 rOperator h → s.bal.campaign = none →
    ∃ t, exec (.balCampaignStop h) s = .next t ∧ s.Done t 0x0303 h .ok []) ∧
  (∀ (s : State) (h : Hdr) (cell duty : Nat) (c : Campaign), s.Allowed 0x0304 rMaintainer h → s.cellOk cell = true → duty ≤ 64 →
    s.bal.campaign = some c →
    (c.kind = 3 → ∃ t, exec (.balSetDuty h cell duty) s = .next t ∧
      ({ s with bal.want := Tbl.put s.bal.want cell duty } : State).Done t 0x0304 h .ok [] ∧ Tbl.get 0 t.bal.want cell = duty) ∧
    (c.kind ≠ 3 → exec (.balSetDuty h cell duty) s = .next (s.refuseCmd 0x0304 rMaintainer h .state))) ∧
  (∀ (s : State) (h : Hdr) (cell duty : Nat), s.Allowed 0x0304 rMaintainer h → s.cellOk cell = true → duty ≤ 64 →
    s.bal.campaign = none → exec (.balSetDuty h cell duty) s = .next (s.refuseCmd 0x0304 rMaintainer h .state)) ∧
  (∀ (s : State) (h : Hdr) (k : Nat), s.Allowed 0x0305 rObserver h → s.segArgBad k = false →
    ∃ t, exec (.balStatus h k) s = .next t ∧ s.Told t 0x0305 h (s.words (0x50004 :: (s.segArg k).flatMap fun k =>
      [0x50100 + 16 * (k - 1), 0x50104 + 16 * (k - 1), 0x50108 + 16 * (k - 1), 0x5010C + 16 * (k - 1), 0x50800 + 4 * (k - 1)]))) ∧
  (∀ (s : State) (h : Hdr) (k : Nat), s.Allowed 0x0306 rMaintainer h → s.segArgBad k = false → s.opOf 0x0306 k = none →
    ∃ t, exec (.balLearnRw h k) s = .next t ∧ t.rd F.BAL_STATUS_LEARNING = 1 ∧
      (((s.segArg k).foldl (fun s k => s.unlearn k) s).wr F.BAL_STATUS_LEARNING 1).Accepted t 0x0306 h k [] ∧
      ∀ i ∈ s.segArg k, ∀ w, w ≤ 16 → t.learned i w = false) ∧
  (∀ (s : State) (h : Hdr) (k : Nat), s.Allowed 0x0306 rMaintainer h → s.segArgBad k = false → s.opOf 0x0306 k ≠ none →
    exec (.balLearnRw h k) s = .next (s.refuseCmd 0x0306 rMaintainer h .busy)) ∧
  (∀ (s : State) (h : Hdr) (k : Nat), s.Allowed 0x0307 rObserver h → s.segOk k = true →
    ∃ t ws, exec (.balRwRead h k) s = .next t ∧ s.Told t 0x0307 h ws ∧ ws.length = 17 ∧
      ∀ w, w ≤ 16 → s.learned k w = false → ws[w]? = some 0xFFFFFFFF)

/-- The layout of R134 for every list of duties. (Readings of the model: assumption log 71.) -/
def Obligations.BalancingLayoutKeepsItsLimits : Prop :=
  (∀ (mp busy pulse : Nat) (d : List Nat) (i : Nat), 1 ≤ mp → popcount 16 ((layoutRuns mp busy pulse d).1.getD i 0) ≤ mp) ∧
  (∀ (mp : Nat) (d : List Nat), (scaleDuties mp d).1.sum ≤ 64 * mp) ∧
  (∀ (mp : Nat) (d : List Nat), d.sum ≤ 64 * mp → scaleDuties mp d = (d, false)) ∧
  (∀ (die thr : Int), (die ≤ thr → diePauses die thr = 0) ∧ (thr + 8 ≤ die → diePauses die thr = 64) ∧
    (thr ≤ die → die ≤ thr + 8 → (diePauses die thr : Int) = 8 * (die - thr)))

/-- What happens on the cards without a command. (Readings of the model: assumption log 14, 71, 72, 89.) -/
def Obligations.BalancingEventsFollowTheirRules : Prop :=
  (∀ (s : State) (rb : List (Nat × Nat)), ∃ t, exec (.balSlot rb) s = .next t ∧
    ∀ k, s.segOk k = true → k ≤ 26 →
      (t.balCard k).on &&& t.rd (F.BAL_PATH_HELD k) = 0 ∧
      (Tbl.has rb k = true → ∀ j, j < 16 → ((Tbl.get 0 rb k) ^^^ (s.balCard k).on).testBit j = true → (s.balCard k).mis.testBit j = true →
        (s.balCard k).fault = 0 → (t.balCard k).fault.testBit j = true ∧ t.rd Fl.BAL_EVENT_SWITCH_FAULT.bit = 1)) ∧
  (∀ s : State, ∃ t, exec .balPeriod s = .next t ∧ t.bal.mode = s.rd F.BAL_CFG_MODE ∧
    ∀ k, s.segOk k = true → (t.balCard k).received = none ∧ (t.balCard k).duties = (s.balCard k).received.getD (s.balCard k).duties) ∧
  (∀ (s : State) (k : Nat), s.segOk k = true → s.pwr.ctl = true → exec (.balDutiesReceived k) s = .next (s.setBal k { s.balCard k with
    received := some ((numbersFrom 1 16).map fun j => Tbl.get 0 s.bal.want (cellOf k j)), leased := true })) ∧
  (∀ (s : State) (k : Nat), s.segOk k = true → (s.balCard k).leased = true → ∃ t, exec (.leaseExpired k) s = .next t ∧
    (t.balCard k).duties = List.replicate 16 0 ∧ (t.balCard k).received = none ∧ (t.balCard k).on = 0 ∧ (t.balCard k).leased = false ∧
    t.rd Fl.BAL_EVENT_LEASE_EXPIRED.bit = 1) ∧
  (∀ (s : State) (k : Nat), (s.balCard k).leased = false → exec (.leaseExpired k) s = .next s) ∧
  (∀ (s : State) (k j : Nat), s.segOk k = true → 1 ≤ j → j ≤ 16 → s.guardHit k j = false →
    ∃ t, exec (.balGuardRelease k j) s = .next t ∧ (t.balCard k).guard.testBit (j - 1) = false ∧
      t = s.setBal k { s.balCard k with guard := (t.balCard k).guard }) ∧
  (∀ (s : State) (k j : Nat), s.segOk k = true → 1 ≤ j → j ≤ 16 → s.guardHit k j = true →
    ∃ t, exec (.balGuardRelease k j) s = .next t ∧ (t.balCard k).guard.testBit (j - 1) = true ∧ t.rd Fl.BAL_EVENT_CUTOFF.bit = 1) ∧
  (∀ (s : State) (k : Nat), s.segOk k = true →
    exec (.balLearnWindow k false) s = .next (s.setBal k { s.balCard k with window := false })) ∧
  (∀ (s : State) (k : Nat), s.segOk k = true → s.rd F.BAL_CFG_MODE = 1 → (s.segList.any fun c => (s.balCard c).window) = false →
    (k = s.nextTurn → exec (.balLearnWindow k true) s = .next { s.setBal k { s.balCard k with window := true } with bal.turn := k }) ∧
    (k ≠ s.nextTurn → exec (.balLearnWindow k true) s = .next s)) ∧
  (∀ s : State, s.bal.campaign = none → exec .balDutyRecompute s = .next s) ∧
  (∀ (s : State) (c : Campaign), s.bal.campaign = some c → c.kind = 3 → (c.limit = 0 ∨ c.age + 1 < c.limit) →
    exec .balDutyRecompute s = .next { s with bal.campaign := some { c with age := c.age + 1 } }) ∧
  (∀ (s : State) (c : Campaign), s.bal.campaign = some c → 0 < c.limit → c.limit ≤ c.age + 1 →
    ∃ t, exec .balDutyRecompute s = .next t ∧ t.bal.campaign = none ∧ t.rd Fl.BAL_EVENT_CAMPAIGN_END.bit = 1 ∧
      t.rd F.BAL_STATUS_CAMPAIGN_ACTIVE = 0)

/-- The insulation monitor. (Readings of the model: assumption log 73, 74, 75, 144, 176, 177.) -/
def Obligations.InsulationCommandsAndResults : Prop :=
  (∀ (s : State) (h : Hdr), s.Allowed 0x020A rObserver h → ∃ t, exec (.cimStatus h) s = .next t ∧
    s.Told t 0x020A h (s.words [0x60010, 0x60014, 0x60018, 0x6001C, 0x60020, 0x60030, 0x60034, 0x60040, 0x60044, 0x60048, 0x6004C, 0x60050])) ∧
  (∀ (s : State) (h : Hdr), s.Allowed 0x020B rMaintainer h → s.isoInjects = true → ∃ t, exec (.isoMeasureNow h) s = .next t ∧
    ({ s with cim.positive := true, cim.firstHalf := none, cim.discards := 0 } : State).Done t 0x020B h .ok []) ∧
  (∀ (s : State) (h : Hdr), s.Allowed 0x020B rMaintainer h → s.isoInjects = false →
    exec (.isoMeasureNow h) s = .next (s.refuseCmd 0x020B rMaintainer h .busy)) ∧
  (∀ (s : State) (h : Hdr) (w a : Nat), s.Allowed 0x020C rOperator h → 10 ≤ a → a ≤ w → w ≤ 50000 →
    ∃ t, exec (.isoSetThresh h w a) s = .next t ∧
      ((s.wrKeep F.CIM_ISO_CFG_WARN_KOHM w).wrKeep F.CIM_ISO_CFG_ALARM_KOHM a).Done t 0x020C h .ok []) ∧
  (∀ (s : State) (dv : Int) (rp ce : Nat) (vp vn : Int) (f : Bool), s.isOn F.CIM_ISO_CTRL_ENABLE = false →
    exec (.isoHalfPeriodEnd dv rp ce vp vn f) s = .next s) ∧
  (∀ (s : State) (dv : Int) (rp ce : Nat) (vp vn : Int) (f : Bool), s.isoInjects = true → 5000 < dv.natAbs →
    exec (.isoHalfPeriodEnd dv rp ce vp vn f) s = .next (({ s with cim.discards := s.cim.discards + 1 } : State).wrB F.CIM_ISO_STATUS_STALE
      (s.isOn F.CIM_ISO_STATUS_STALE || decide (10 ≤ s.cim.discards + 1)))) ∧
  (∀ (s : State) (dv : Int) (rp ce : Nat) (vp vn : Int) (f : Bool), s.isoInjects = true → dv.natAbs ≤ 5000 → s.cim.firstHalf = none →
    exec (.isoHalfPeriodEnd dv rp ce vp vn f) s =
      .next { s with cim.discards := 0, cim.positive := !s.cim.positive, cim.firstHalf := some (rp : Int) }) ∧
  (∀ (s : State) (dv x : Int) (rp ce : Nat) (vp vn : Int) (f : Bool), s.isoInjects = true → dv.natAbs ≤ 5000 → s.cim.firstHalf = some x →
    ∃ t, exec (.isoHalfPeriodEnd dv rp ce vp vn f) s = .next t ∧ t.cim.firstHalf = none ∧ t.rd F.CIM_ISO_RP_VALUE = max 10 (min rp 50000) ∧
      t.isOn F.CIM_ISO_STATUS_BELOW_RANGE = decide (rp < 10) ∧ t.isOn F.CIM_ISO_STATUS_ABOVE_RANGE = decide (50000 < rp) ∧
      t.rd F.CIM_ISO_STATUS_STALE = 0 ∧ t.rd F.CIM_ISO_STATUS_AGE_S = 0 ∧
      (vp + vn < 50000 → t.rd F.CIM_ISO_RPOS_VALUE = 0xFFFFFFFF ∧ t.rd F.CIM_ISO_RNEG_VALUE = 0xFFFFFFFF)) ∧
  (∀ (s : State) (dv : Int) (rp ce : Nat) (vp vn : Int), s.isoMay = true → s.cim.listening = true →
    (∃ t, exec (.isoHalfPeriodEnd dv rp ce vp vn true) s = .next t ∧ t.cim.foreign = true ∧ t.rd F.CIM_ISO_RP_VALUE = 0xFFFFFFFF ∧
      t.rd Fl.CIM_EVENT_FOREIGN_INJ.bit = 1) ∧
    (∃ t, exec (.isoHalfPeriodEnd dv rp ce vp vn false) s = .next t ∧ t.cim.foreign = false ∧ t.cim.listening = false ∧
      t.cim.firstHalf = none ∧ t.rd F.CIM_ISO_STATUS_ROLE = 1)) ∧
  (∀ s : State, ∃ t, exec .isoResultAge s = .next t ∧ t.rd F.CIM_ISO_RP_VALUE = 0xFFFFFFFF ∧ t.rd F.CIM_ISO_RPOS_VALUE = 0xFFFFFFFF ∧
    t.rd F.CIM_ISO_RNEG_VALUE = 0xFFFFFFFF ∧ t.rd F.CIM_ISO_STATUS_ALARM = s.rd F.CIM_ISO_STATUS_ALARM ∧ t.rd F.CIM_ISO_STATUS_WARN = s.rd F.CIM_ISO_STATUS_WARN) ∧
  (∀ s : State, s.isoBank = true → s.bankPos ≠ 0 →
    (s.bankFresh = true → exec .bankIsoTimeout s = .next s) ∧
    (s.bankFresh = false → ∃ t, exec .bankIsoTimeout s = .next t ∧ t.rd F.CIM_ISO_RP_VALUE = 0xFFFFFFFF ∧
      (s.lowestFollower = true → t.cim.candidate = true ∧ t.cim.listening = (s.isOn F.CIM_ISO_CTRL_ENABLE && s.rd F.PWR_STATE_STATE != 4)))) ∧
  (∀ (s : State) (rp : Nat), 1 ≤ s.cim.belowAlarm → rp < s.rd F.CIM_ISO_CFG_ALARM_KOHM → (s.isoJudge rp).rd F.CIM_ISO_STATUS_ALARM = 1) ∧
  (∀ (s : State) (rp : Nat), 1 ≤ s.cim.belowWarn → rp < s.rd F.CIM_ISO_CFG_WARN_KOHM → (s.isoJudge rp).rd F.CIM_ISO_STATUS_WARN = 1) ∧
  (∀ (s : State) (rp : Nat), 1 ≤ s.cim.aboveAlarm → 5 * s.rd F.CIM_ISO_CFG_ALARM_KOHM < 4 * rp →
    (s.isoJudge rp).rd F.CIM_ISO_STATUS_ALARM = 0)

/-- Charge, Hall sensor, string voltage, power cards. (Readings of the model: assumption log 16, 55, 68, 75, 175.) -/
def Obligations.CurrentVoltageAndSupplies : Prop :=
  (∀ s : State, ∃ t, exec .chargeCounterSave s = .next t ∧ t.cim.charge = s.cim.charge ∧
    t.cim.sfc = { value := s.cim.charge, gen := max s.cim.sfc.gen s.cim.mram.gen + 1, valid := true } ∧
    t.cim.mram = (if s.pwr.ctl then t.cim.sfc else s.cim.mram) ∧ t = { s with cim.sfc := t.cim.sfc, cim.mram := t.cim.mram }) ∧
  (∀ (s : State) (mv : Int) (p n span move : Nat),
    (10200 < mv.natAbs ∨ p < 5 ∨ 100 < p ∨ n < 5 ∨ 100 < n ∨ (span ≤ 1 ∧ 50 * s.rd F.CIM_HALL_PARAM_FS_A < move) →
      exec (.hallFault mv p n span move) s =
        .next (((s.wr F.CIM_STATUS_HALL_FAULT 1).raiseCause .hallFault 2).flag Fl.CIM_EVENT_HALL_FAULT { stfP := true })) ∧
    (mv.natAbs ≤ 10200 → 5 ≤ p → p ≤ 100 → 5 ≤ n → n ≤ 100 → 1 < span ∨ move ≤ 50 * s.rd F.CIM_HALL_PARAM_FS_A →
      exec (.hallFault mv p n span move) s = .next s)) ∧
  (∀ (s : State) (sum code : Int), ∃ t, exec (.xcheckCompare sum code) s = .next t ∧
    t.rdI F.CIM_HALL_CURRENT_MA = max (-2147483647) (min 2147483647 (roundDiv (s.hallHalf (max (-2048) (min 2047 code))) 2))) ∧
  (∀ (s : State) (sum code : Int), s.safe.blockA ≠ [] →
    (|s.shuntMean2 - (s.hallHalf (clampI (-20480000) 20470000 sum) : Rat) / 10000| ≤ ((40 * pHallFs s.safe.blockA : Nat) : Rat) →
      ∃ t, exec (.xcheckCompare sum code) s = .next t ∧ t.cim.xBad = 0 ∧ t.cim.xGood = s.cim.xGood + 1 ∧
        t.isOn F.SAFE_STATUS_XCHECK_ACTIVE = (s.isOn F.SAFE_STATUS_XCHECK_ACTIVE && decide (s.cim.xGood + 1 < 10000))) ∧
    (((40 * pHallFs s.safe.blockA : Nat) : Rat) < |s.shuntMean2 - (s.hallHalf (clampI (-20480000) 20470000 sum) : Rat) / 10000| →
      ∃ t, exec (.xcheckCompare sum code) s = .next t ∧ t.cim.xBad = s.cim.xBad + 1 ∧ t.cim.xGood = 0 ∧
        (s.cim.xBad = 999 → s.isOn F.SAFE_STATUS_XCHECK_ACTIVE = false → t.isOn F.SAFE_STATUS_XCHECK_ACTIVE = true ∧
          t.rd Fl.CIM_EVENT_XCHECK.bit = 1 ∧ t.cim.xFor = 0))) ∧
  (∀ s : State, (s.isOn F.SAFE_STATUS_XCHECK_ACTIVE = true → 1000 * u8 s.safe.blockA 89 ≤ s.cim.xFor →
      exec .xcheckCause s = .next (s.raiseCause .xcheck 1)) ∧
    (s.isOn F.SAFE_STATUS_XCHECK_ACTIVE = false ∨ s.cim.xFor < 1000 * u8 s.safe.blockA 89 → exec .xcheckCause s = .next s)) ∧
  (∀ (s : State) (a b : Option Int), exec (.vstringUpdate a b) s = .next (({ s with cim.vA := a, cim.vB := b } : State).wr F.CIM_VSTRING_MV
    (match (if s.isOn F.PWR_AUX_STATUS_PSU_A_OK then a else b) with | some v => satS 32 v | none => 0x80000000))) ∧
  (∀ (s : State) (b : Bool), ∃ t, exec (.psuOutOfTolerance b) s = .next t ∧
    t.rd (if b then F.PWR_AUX_STATUS_PSU_B_OK else F.PWR_AUX_STATUS_PSU_A_OK) = 0 ∧ t.rd Fl.UC_EVENT_SUBSTITUTED.bit = 1 ∧
    ((6, 0) ∈ t.recorder.spent) ∧ ((6, 0) ∉ s.recorder.spent → t.poolOut 6 = true ∧ t.rd Fl.UC_EVENT_EXHAUSTED.bit = 1) ∧
    (b = false → t.cim.listening = s.isoMay ∧ t.cim.firstHalf = none)) ∧
  (∀ (s : State) (b : Bool) (n : Nat), ∃ t, exec (.psuInTolerance b n) s = .next t ∧
    t.rd (if b then F.PWR_AUX_STATUS_PSU_B_OK else F.PWR_AUX_STATUS_PSU_A_OK) = 1 ∧ Tbl.get 0 t.recorder.serials (if b then 3 else 2) = n ∧
    (b = false → t.rd F.CIM_ISO_STATUS_SOURCE_PSU_B = 0 ∧ t.cim.listening = s.isoMay))

/-- The commands of R243. (Readings of the model: assumption log 85, 88, 144, 168.) -/
def Obligations.EstimationCommandsComplete : Prop :=
  (∀ (s : State) (h : Hdr), s.Allowed 0x0401 rObserver h → ∃ t ws, exec (.estStatus h) s = .next t ∧ s.Told t 0x0401 h ws ∧ ws.length = 29 ∧
    ws.take 22 = s.words ([0x80010, 0x80040, 0x80044, 0x80048] ++ (numbersFrom 0 16).map (fun i => 0x80060 + 4 * i) ++ [0x800A0, 0x800A4])) ∧
  (∀ (s : State) (h : Hdr) (c n : Nat), s.Allowed 0x0402 rObserver h → 1 ≤ c → 1 ≤ n → n ≤ 64 → c + n - 1 ≤ 16 * s.segs →
    ∃ t ws, exec (.estCellRead h c n) s = .next t ∧ s.Told t 0x0402 h ws ∧ ws.length = 11 * n ∧
      (s.estRec c = none → ws.take 11 = [0xFFFF, 0xFFFF, -32768, -32768, 0xFFFF, 0, 0x80000000, 0xFFFF, 0xFFFF, -2147483648, 3])) ∧
  (∀ (s : State) (h : Hdr) (b : List Byte), s.Allowed 0x0403 rMaintainer h →
    ∃ t, exec (.estOcvLoad h b) s = .next t ∧
      (if ocvParamBad b then t = s.refuseCmd 0x0403 rMaintainer h .param
       else if ocvRangeBad b then t = s.refuseCmd 0x0403 rMaintainer h .range
       else if (s.opOf 0x0403 0).isSome then t = s.refuseCmd 0x0403 rMaintainer h .busy
       else ({ s with est.ocvNext := b } : State).Accepted t 0x0403 h 0 [])) ∧
  (∀ (s : State) (h : Hdr) (b : List Byte), s.Allowed 0x0409 rMaintainer h →
    ∃ t, exec (.estChemLoad h b) s = .next t ∧
      (if chemParamBad b then t = s.refuseCmd 0x0409 rMaintainer h .param
       else if chemRangeBad b then t = s.refuseCmd 0x0409 rMaintainer h .range
       else if (s.opOf 0x0409 0).isSome then t = s.refuseCmd 0x0409 rMaintainer h .busy
       else ({ s with est.chemNext := b } : State).Accepted t 0x0409 h 0 [])) ∧
  (∀ (s : State) (h : Hdr) (b k r : Nat), s.Allowed 0x0404 rOperator h → b ≤ 1000 → k ≤ 255 → r ≤ 1000 →
    ∃ t, exec (.estSetReserve h b k r) s = .next t ∧
      (s.wrs [(F.EST_RESERVE_BASE, b), (F.EST_RESERVE_K, k), (F.EST_RESERVE_R_HIGH, r)]).Done t 0x0404 h .ok []) ∧
  (∀ (s : State) (h : Hdr) (r : Nat), s.Allowed 0x0405 rMaintainer h → r ≤ 1 → s.opOf 0x0405 0 = none →
    ∃ t, exec (.estSetRate h r) s = .next t ∧ (s.wrKeep F.EST_CFG_RATE r).Accepted t 0x0405 h 0 []) ∧
  (∀ (s : State) (h : Hdr) (r : Nat), s.Allowed 0x0405 rMaintainer h → r ≤ 1 → s.opOf 0x0405 0 ≠ none →
    exec (.estSetRate h r) s = .next (s.refuseCmd 0x0405 rMaintainer h .busy)) ∧
  (∀ (s : State) (h : Hdr) (lo hi pk ct : Nat) (tm tc : Int), s.Allowed 0x0406 rMaintainer h → lo < hi → hi ≤ 0xFFFF → pk ≤ 0xFFFF →
    ct ≤ 0xFFFF → -128 ≤ tm → tm ≤ 127 → -128 ≤ tc → tc ≤ 127 →
    (s.limitsBad lo hi pk ct = false → ∃ t, exec (.estSetLimits h lo hi pk ct tm tc) s = .next t ∧
      ((((((s.wrKeep F.EST_VLIM_V_LO lo).wrKeep F.EST_VLIM_V_HI hi).wrKeep F.EST_ILIM_PEAK_A pk).wrKeep F.EST_ILIM_CONT_A ct).wrKeep
        F.EST_TLIM_TMAX (ofSigned 8 tm)).wrKeep F.EST_TLIM_TMIN_CHG (ofSigned 8 tc)).Done t 0x0406 h .ok []) ∧
    (s.limitsBad lo hi pk ct = true →
      exec (.estSetLimits h lo hi pk ct tm tc) s = .next (s.refuseCmd 0x0406 rMaintainer h .range))) ∧
  (∀ (s : State) (h : Hdr) (c : Nat), s.Allowed 0x0407 rMaintainer h → s.cellOk c = true →
    ∃ t u : State, exec (.estCellReset h c) s = .next t ∧ u.Done t 0x0407 h .ok [] ∧ u.estCell c = { counter := s.cim.charge, fresh := false } ∧
      ∀ r, s.estRec c = some r → u.estRec c = some { r with x := (r.x.set 3 0).set 7 0 }) ∧
  (∀ (s : State) (h : Hdr), s.Allowed 0x0408 rMaintainer h → s.est.pending = false → s.isOn F.EST_STATUS_WRITE_DEFERRED = false →
    ∃ t, exec (.estLearnWrite h) s = .next t ∧ s.learnTrigger.Accepted t 0x0408 h (if s.est.writing.isSome then 1 else 0) []) ∧
  (∀ (s : State) (h : Hdr), s.Allowed 0x0408 rMaintainer h → s.est.pending = true ∨ s.isOn F.EST_STATUS_WRITE_DEFERRED = true →
    exec (.estLearnWrite h) s = .next (s.refuseCmd 0x0408 rMaintainer h .busy))

/-- The refresh and the reported SOC. (Readings of the model: assumption log 83, 84, 86, 164, 165, 166, 167, 168.) -/
def Obligations.EstimatesFollowTheCharge : Prop :=
  (∀ (s : State) (i : Nat) (r : SeInst), s.cellOk i = true → s.estRec i = some r → (s.seSlot 0).committing = false → r.frozen = false →
    r.corrupt = false →
    ∃ t q, exec (.estRefresh [i]) s = .next t ∧ t.estRec i = some q ∧ (∀ j ∈ [1, 2, 6], q.x[j]? = r.x[j]?) ∧ q.par = r.par ∧
      (t.estCell i).counter = s.cim.charge ∧ (t.estCell i).bled = 0 ∧ (t.estCell i).pSum = 0 ∧ (t.estCell i).pN = 0 ∧
      (t.estCell i).bledAll = (s.estCell i).bledAll ∧ t.cim = s.cim) ∧
  (∀ (s : State) (i : Nat) (r : SeInst), s.cellOk i = true → s.estRec i = some r → (s.seSlot 0).committing = false →
    r.frozen = true ∨ r.corrupt = true →
    ∃ t, exec (.estRefresh [i]) s = .next t ∧ t.estRec i = some (s.restoreCell s.newestRec i).1 ∧ t.estCell i = (s.restoreCell s.newestRec i).2) ∧
  (∀ (s : State) (i : Nat), (s.seSlot 0).committing = true →
    ∃ t, exec (.estRefresh [i]) s = .next t ∧ t.estRec i = s.estRec i ∧ t.estCell i = s.estCell i) ∧
  (∀ (s : State) (ev i : Nat) (knee : Rat) (r : SeInst), s.estRec i = some r → s.cellGated i r = true → s.refCell ev i knee = (s, false)) ∧
  (∀ s : State, ∃ t, exec .estResistanceRegression s = .next t ∧ ∀ i ∈ s.cellList, (t.estCell i).secs = 0 ∧ (t.estCell i).uI = 0 ∧
    (t.estCell i).ii = 0 ∧ ((s.estCell i).secs < 600 → (t.estCell i).dR = (s.estCell i).dR) ∧
    (600 ≤ (s.estCell i).secs → (s.estCell i).ii ≠ 0 → (t.estCell i).dR =
      (s.estCell i).dR + (1000000 * (s.estCell i).uI / (s.estCell i).ii - (s.estCell i).dR) / 5)) ∧
  (∀ rep t dq span im c200 act rest : Rat, 0 ≤ socStep rep t dq span im c200 act rest ∧ socStep rep t dq span im c200 act rest ≤ 100) ∧
  (∀ rep t dq span im c200 act rest : Rat, 0 ≤ rep → im < -c200 → socStep rep t dq span im c200 act rest ≤ rep) ∧
  (∀ s : State, (∀ i ∈ s.cellList, s.estRec i = none) → s.estWaits = false →
    exec .estSocUpdate s = .next (({ s with est.prev := s.cim.charge, est.iSum := 0, est.iN := 0, est.qStr := 0, est.raw := 0
                                            est.rLow := 0 } : State).wrs
      [(F.EST_SOC_REPORTED, 0xFFFF), (F.EST_SOC_RAW, 0xFFFF), (F.EST_SIGMA_NOW_SIGMA, 0xFFFF), (F.EST_SIGMA_NOW_R_LOW, 0xFFFF),
       (F.EST_SOH_SOH, 0xFFFF), (F.EST_SOH_RG, 0xFFFF)])) ∧
  (∀ (s : State) (i : Nat), i ∈ s.cellList → s.estRec i ≠ none → s.estWaits = false → s.est.full = true →
    ∃ t, exec .estSocUpdate s = .next t ∧ t.rd F.EST_SOC_REPORTED = 10000 ∧ t.est.full = false ∧ t.est.prev = s.cim.charge) ∧
  (∀ (qr qi k : Rat) (a : RefPoint) (b sb dq bl k1 : Rat) (u : Bool), capSample qr qi k a b sb dq bl = some (k1, u) → |k1 - k| ≤ 1 / 200)

/-- R220, R236–R240. (Readings of the model: assumption log 86, 87, 88, 152, 153, 164.) -/
def Obligations.LimitsParkingAndLearnedState : Prop :=
  (∀ s : State, s.estFresh = true → ∃ t, exec .estLimits s = .next t ∧
    ∀ i, i < 4 → 0 ≤ t.rdI (F.EST_ICHG_MA i) ∧ t.rdI (F.EST_IDIS_MA i) ≤ 0) ∧
  (∀ s : State, s.estFresh = false → ∃ t, exec .estLimits s = .next t ∧ t.rd F.EST_LIMIT_WHY_CHG = 0x8888 ∧ t.rd F.EST_LIMIT_WHY_DIS = 0x8888 ∧
    ∀ i, i < 4 → t.rd (F.EST_ICHG_MA i) = 0 ∧ t.rd (F.EST_IDIS_MA i) = 0 ∧ t.rd (F.EST_PCHG_W i) = 0 ∧ t.rd (F.EST_PDIS_W i) = 0) ∧
  (∀ s : State, s.closed = false → s.safe.closing = .idle → s.seEnabled 0 = true → s.est.parked = false →
    2 ≤ powerFloor s.mode (s.rd F.PWR_LAT_TOL_TOL_US) → (∀ i ∈ s.cellList, 60 ≤ (s.estCell i).restS) →
    ∃ t, exec .estSlot0Park s = .next t ∧ t.est.parked = true ∧ t.est.carried = s.seInsts 0 ∧ (t.seSlot 0).disabling = true) ∧
  (∀ s : State, s.closed = true ∨ s.safe.closing ≠ .idle ∨ (∃ i ∈ s.cellList, (s.estCell i).restS < 60) ∨ powerFloor s.mode (s.rd F.PWR_LAT_TOL_TOL_US) ≤ 1 → exec .estSlot0Park s = .next s) ∧
  (∀ s : State, s.newest = none → exec .learnWriteHourly s = .next s.learnTrigger) ∧
  (∀ s : State, s.newest ≠ none → s.time.count - s.est.lastWrite < 15000000000 → exec .learnWriteHourly s = .next s) ∧
  (∀ (s : State) (k : Nat) (r : LearnRec), s.est.writing = some (k, r) → k ≤ 1 → s.est.pending = false →
    ∃ t, exec (.writeDone true) s = .next t ∧ (if k = 0 then t.est.slotA else t.est.slotB) = { r with valid := true } ∧
      t.est.writing = none ∧ t.rd F.EST_STATUS_SLOT = k ∧ t.rd F.EST_LEARN_GEN_GENERATION = r.gen % 2 ^ 32 ∧
      t.rd F.EST_STATUS_WRITE_DEFERRED = 0 ∧ t.rd Fl.EST_EVENT_WRITE_DONE.bit = 1) ∧
  (∀ (s : State) (k : Nat) (r : LearnRec), s.est.writing = some (k, r) → s.est.pending = false →
    ∃ t, exec (.writeDone false) s = .next t ∧ t.est.slotA = s.est.slotA ∧ t.est.slotB = s.est.slotB ∧ t.est.writing = none ∧
      t.rd Fl.EST_EVENT_WRITE_FAIL.bit = 1) ∧
  (∀ (s : State) (b : Bool), s.est.writing = none → exec (.writeDone b) s = .next s)

/-- The commands of R212, with the firmware owning none of the units. (Readings of the model: assumption log 81, 144, 178.) -/
def Obligations.StateEngineCommandsComplete : Prop :=
  (∀ (s : State) (h : Hdr) (k : Nat) (b : List Byte), s.Allowed 0x0F01 rMaintainer h → descBad b = false →
    b.length = 64 + 8 * (parseDesc b).coefs + 128 * (parseDesc b).instances → coefBad b (parseKernel b).1 = false → instBad b (parseDesc b) = false →
    hostSlot k = true → s.descRange k (parseDesc b) = false → s.fwOwns = false → (s.seSlot k).committing = false → s.isOn F.SE_STATUS_LANE_FAULT = false → s.seRoom k (parseDesc b) = true →
    s.admits k (parseDesc b) = true →
    ∃ t, exec (.seKernelLoad h k b) s = .next t ∧
      ((s.setSeSlot k { s.seSlot k with shadow := some (parseKernel b) }).wr (F.SE_KSTAT_SHADOW k) 1).Done t 0x0F01 h .ok []) ∧
  (∀ (s : State) (h : Hdr) (k : Nat), s.Allowed 0x0F02 rMaintainer h → hostSlot k = true → (s.seSlot k).shadow = none →
    exec (.seKernelCommit h k) s = .next (s.refuseCmd 0x0F02 rMaintainer h .state)) ∧
  (∀ (s : State) (h : Hdr) (k : Nat) (q : SeKernel) (l : List SeInst), s.Allowed 0x0F02 rMaintainer h → hostSlot k = true → s.fwOwns = false →
    (s.seSlot k).shadow = some (q, l) → s.admits k q.desc = true → (s.seSlot k).committing = false →
    ∃ t, exec (.seKernelCommit h k) s = .next t ∧
      (s.setSeSlot k { s.seSlot k with committing := true }).Accepted t 0x0F02 h k []) ∧
  (∀ (s : State) (h : Hdr) (k : Nat), s.Allowed 0x0F02 rMaintainer h → hostSlot k = true → (s.seSlot k).shadow ≠ none →
    (s.seSlot k).committing = true → exec (.seKernelCommit h k) s = .next (s.refuseCmd 0x0F02 rMaintainer h .busy)) ∧
  (∀ (s : State) (h : Hdr) (k : Nat), s.Allowed 0x0F03 rMaintainer h → hostSlot k = true → s.fwOwns = false →
    ∃ t, exec (.seKernelDisable h k) s = .next t ∧ (s.seDisable k).Done t 0x0F03 h .ok [] ∧ (t.seSlot k).disabling = true ∧
      (t.seSlot k).committing = false) ∧
  (∀ (s : State) (h : Hdr) (tab l : Nat) (idx : List Nat) (b1 b2 g : List Int), s.Allowed 0x0F04 rMaintainer h → b1.length = 32 → b2.length = 16 →
    g.length = 512 * idx.length → ascending b1 = true → ascending b2 = true → 6 ≤ tab → tab ≤ 7 → 6 ≤ l → l ≤ 7 → 1 ≤ idx.length → idx.length ≤ 64 →
    s.listBad l idx = false → s.fwOwns = false →
    ((Tbl.get ({} : SeTab) s.se.tables tab).next ≠ none → exec (.seTableLoad h tab l idx b1 b2 g) s = .next (s.refuseCmd 0x0F04 rMaintainer h .busy)) ∧
    ((Tbl.get ({} : SeTab) s.se.tables tab).next = none → s.otherTables tab + idx.length ≤ 512 → ∃ t, exec (.seTableLoad h tab l idx b1 b2 g) s = .next t ∧
      ({ s with se.tables := Tbl.put s.se.tables tab { Tbl.get ({} : SeTab) s.se.tables tab with
        next := some { bp1 := b1, bp2 := b2, s := idx.length, grid := g }, nextList := (l, idx) } } : State).Accepted t 0x0F04 h tab []) ∧
    ((Tbl.get ({} : SeTab) s.se.tables tab).next = none → 512 < s.otherTables tab + idx.length →
      exec (.seTableLoad h tab l idx b1 b2 g) s = .next (s.refuseCmd 0x0F04 rMaintainer h .noResource))) ∧
  (∀ (s : State) (h : Hdr) (k f n : Nat), s.Allowed 0x0F05 rObserver h → k ≤ 15 → 1 ≤ n → n ≤ 64 → f + n ≤ (s.seInsts k).length →
    ∃ t, exec (.seInstanceRead h k f n) s = .next t ∧ s.Told t 0x0F05 h ((s.seBank k : Int) :: (cut (s.seInsts k) f n).flatMap SeInst.words)) ∧
  (∀ (s : State) (h : Hdr) (k i : Nat) (x p : Option (List Int)), s.Allowed 0x0F06 rMaintainer h → (x.isSome || p.isSome) = true →
    (∀ l, x = some l → l.length = 16) → (∀ l, p = some l → l.length = 4) → hostSlot k = true → i < (s.seInsts k).length → s.fwOwns = false →
    ∃ t, exec (.seInstanceWrite h k i x p) s = .next t ∧ (s.setSeInsts k ((s.seInsts k).set i
      { (s.seInsts k).getD i {} with x := (x.map (usedWords (match (s.seSlot k).kern with | some q => q.desc.n | none => 16))).getD ((s.seInsts k).getD i {}).x, par := p.getD ((s.seInsts k).getD i {}).par,
                                     frozen := false, corrupt := false })).Done t 0x0F06 h .ok []) ∧
  (∀ (s : State) (h : Hdr) (w : Nat) (a : Int) (k k2 len chip st : Nat) (r : Bool), s.Allowed 0x0F07 rMaintainer h → w ≤ 4 →
    (w = 1 ∨ w = 2 → freqOk k = true) → (w = 2 → freqOk k2 = true ∧ 0 < len) → (w = 3 → 1 ≤ chip ∧ chip ≤ 256) → s.plumbIdx + 2 ≤ st → s.fwOwns = false →
    (s.isOn F.SE_STATUS_INJ_RUNNING = false → ∃ t, exec (.seInjectStart h w a k k2 len chip st r) s = .next t ∧
      (s.genLoad 3 w a k k2 len (max 1 chip) st r).Accepted t 0x0F07 h 0 []) ∧
    (s.isOn F.SE_STATUS_INJ_RUNNING = true →
      exec (.seInjectStart h w a k k2 len chip st r) s = .next (s.refuseCmd 0x0F07 rMaintainer h .busy))) ∧
  (∀ (s : State) (h : Hdr), s.Allowed 0x0F08 rMaintainer h → s.fwOwns = false →
    ∃ t, exec (.seInjectStop h) s = .next t ∧
      (if s.isOn F.SE_STATUS_INJ_RUNNING then s.genStopAsk else s).Done t 0x0F08 h .ok []) ∧
  (∀ (s : State) (h : Hdr) (sel : List Nat) (p tr ti pre : Nat), s.Allowed 0x0F09 rMaintainer h → (∀ w ∈ sel, w < 524288) → tr ≤ 2 →
    1 ≤ sel.length → sel.length ≤ 8 → p ≤ 15 → pre < capRows sel.length → (tr = 1 → s.plumbIdx + 2 ≤ ti) → s.fwOwns = false →
    s.isOn F.SE_STATUS_CAP_ARMED = false → ∃ t, exec (.seCaptureArm h sel p tr ti pre) s = .next t ∧
      (s.capArm { sel := sel, pace := p, trig := tr, trigIdx := ti, pre := pre }).Accepted t 0x0F09 h 0 []) ∧
  (∀ (s : State) (h : Hdr), s.Allowed 0x0F0A rObserver h → s.isOn F.SE_STATUS_CAP_ARMED = false →
    ∃ t, exec (.seCaptureRead h) s = .next t ∧ s.AnsweredBulk t 0x0F0A h (s.se.cap.rows.flatMap (·.2))) ∧
  (∀ (s : State) (h : Hdr), s.Allowed 0x0F0A rObserver h → s.isOn F.SE_STATUS_CAP_ARMED = true →
    exec (.seCaptureRead h) s = .next (s.refuseCmd 0x0F0A rObserver h .busy)) ∧
  (∀ (s : State) (h : Hdr) (m : Nat) (ks : List Nat) (ti im st : Nat), s.Allowed 0x0F0B rMaintainer h → 1 ≤ m → m ≤ 255 →
    (∀ b, b < 8 → m / 2 ^ b % 2 = 1 → freqOk (ks.getD b 0) = true ∧ 4 ≤ corrPeriods (ks.getD b 0) ti) → 1 ≤ ti → ti ≤ 3600 → im ≤ 4095 → s.plumbIdx + 2 ≤ st → s.fwOwns = false → s.isOn F.SE_STATUS_CORR_RUNNING = false →
    ∃ t, exec (.seCorrStart h m ks ti im st) s = .next t ∧ t.rd F.SE_STATUS_CORR_RUNNING = 1 ∧ t.rd F.SE_CORR_CFG_BIN_EN = m ∧
      t.rd F.SE_CORR_CFG_T_INT = ti ∧ t.rd F.SE_CORR_CFG_IMIN = im ∧ t.se.corr.map (·.1) = (numbersFrom 0 8).filter (fun b => decide (m / 2 ^ b % 2 = 1)) ∧ t.se.corrOut = [] ∧ t.se.corrStart = st ∧
      ∃ o, o.opcode = 0x0F0B ∧ o.tag = h.tag ∧ t.hrt.ops = s.hrt.ops ++ [o]) ∧
  (∀ (s : State) (h : Hdr) (b c n : Nat), s.Allowed 0x0F0C rObserver h → b ≤ 7 → s.cellOk c = true → 1 ≤ n → c + n - 1 ≤ 16 * s.segs →
    ∃ t ws, exec (.seCorrRead h b c n) s = .next t ∧ s.Told t 0x0F0C h ws ∧ ws.length = 1 + 3 * n) ∧
  (∀ (s : State) (h : Hdr), s.Allowed 0x0F0D rObserver h → ∃ t, exec (.seStatus h) s = .next t ∧
    s.Told t 0x0F0D h (s.words ([0x70000, 0x70004, 0x70008] ++ (numbersFrom 0 16).map fun k => 0x70100 + 4 * k)))

/-- The events of the state engine. (Readings of the model: assumption log 77, 80, 82.) -/
def Obligations.StateEngineStepsAndUnits : Prop :=
  (∀ (s : State) (b : Bool), ∃ t, exec (.sePowerUp b) s = .next t ∧ t.rd F.SE_STATUS_ENABLED = 0 ∧
    t.rd F.SE_STATUS_POWERED = (if b then 1 else 0) ∧ (b = true → t.rd F.SE_STATUS_LANE_FAULT = 0) ∧ (b = false → t.rd F.SE_STATUS_LANE_FAULT = 1)) ∧
  (∀ s : State, s.isOn F.SE_STATUS_POWERED = true → s.plumbIdx < 2 ^ 64 →
    ∃ t, exec .seStep s = .next t ∧ t.rd64 F.SE_STEP_IDX_LO_IDX F.SE_STEP_IDX_HI_IDX = s.seInstant) ∧
  (∀ (s : State) (d : Nat), s.isOn F.SE_STATUS_POWERED = true →
    ∃ t, exec (.seStepOverrun d) s = .next t ∧ t.rd Fl.SE_EVENT_OVERRUN.bit = 1) ∧
  (∀ (s : State) (d : Nat), s.isOn F.SE_STATUS_POWERED = false → exec .seStep s = .next s ∧ exec (.seStepOverrun d) s = .next s) ∧
  (∀ (s : State) (k n : Nat) (q : SeKernel), k < 16 → (s.seSlot k).kern = some q →
    (s.seKernelStep s k n).seBank k = 1 - s.seBank k ∧ ((s.seKernelStep s k n).seInsts k).length = (s.seInsts k).length ∧
    (∀ j, j ≠ k → j < 16 → (s.seKernelStep s k n).seInsts j = s.seInsts j)) ∧
  (∀ (s : State) (q : SeKernel) (i n j : Nat) (r : SeInst), r.frozen = false → r.corrupt = false → j < q.desc.n → q.desc.tableEn = false →
    (q.coef.getD (q.desc.offLo + j) (0, 0)).1 ≤ (q.coef.getD (q.desc.offHi + j) (0, 0)).1 → (s.seRun q i n r).frozen = false →
    (q.coef.getD (q.desc.offLo + j) (0, 0)).1 ≤ (s.seRun q i n r).x.getD j 0 ∧
    (s.seRun q i n r).x.getD j 0 ≤ (q.coef.getD (q.desc.offHi + j) (0, 0)).1) ∧
  (∀ (s : State) (q : SeKernel) (i n : Nat) (r : SeInst), r.frozen = true ∨ r.corrupt = true → s.seRun q i n r = r) ∧
  (∀ (s : State) (k n : Nat), k < 16 → (s.seSlot k).disabling = true → (s.seSlot k).shadow = none →
    (s.seStepStart n).seEnabled k = false) ∧
  (∀ s : State, s.isOn F.SE_STATUS_INJ_RUNNING = true → s.se.gen.running = false → exec .injectStartIndex s = .next s.genStart) ∧
  (∀ s : State, s.se.gen.running = true → s.rd F.SE_INJ_CFG_WAVE = 2 → s.rd F.SE_INJ_LEN_VALUE ≤ s.se.gen.i →
    ∃ t, exec .chirpEnd s = .next t ∧ t.se.gen = {} ∧ t.rd F.SE_STATUS_INJ_RUNNING = 0 ∧ t.rd F.SE_STATUS_INJ_OWNER = 0) ∧
  (∀ s : State, s.isOn F.SE_STATUS_CAP_ARMED = true → exec .captureTrigger s = .next (s.wr F.SE_CAP_STATUS_TRIGGERED 1)) ∧
  (∀ s : State, s.isOn F.SE_STATUS_CAP_ARMED = true → s.isOn F.SE_CAP_STATUS_TRIGGERED = true →
    capRows s.se.cap.sel.length ≤ s.se.cap.rows.length →
    ∃ t, exec .capDone s = .next t ∧ t.rd F.SE_STATUS_CAP_ARMED = 0 ∧ t.rd Fl.SE_EVENT_CAP_DONE.bit = 1 ∧ t.se.cap = s.se.cap) ∧
  (∀ s : State, s.isOn F.SE_STATUS_CAP_ARMED = false → exec .captureTrigger s = .next s ∧ exec .capDone s = .next s) ∧
  (∀ s : State, s.isOn F.SE_STATUS_CORR_RUNNING = true → (∀ p ∈ s.se.corr, p.2.total ≤ p.2.done) →
    ∃ t, exec .corrDone s = .next t ∧ t.rd F.SE_STATUS_CORR_RUNNING = 0 ∧ t.rd Fl.SE_EVENT_CORR_DONE.bit = 1 ∧
      t.se.corrOut = s.se.corr.map fun p => (p.1, p.2.result (s.rd F.SE_CORR_CFG_IMIN))) ∧
  (∀ s : State, s.isOn F.SE_STATUS_CORR_RUNNING = false → exec .corrDone s = .next s)

/-- The dispatch commands of R265. (Readings of the model: assumption log 120, 121, 122, 144.) -/
def Obligations.DispatchCommandsComplete : Prop :=
  (∀ (s : State) (h : Hdr), s.Allowed 0x0501 rObserver h → ∃ t, exec (.dspStatus h) s = .next t ∧
    s.Told t 0x0501 h (s.words ((numbersFrom 0 16).map (fun i => 0x130060 + 4 * i) ++ [0x13000C, 0x130010]))) ∧
  (∀ (s : State) (h : Hdr) (d : List Byte), s.Allowed 0x0502 rOperator h → schedBad d = false → 16 ≤ d.length → d.length ≤ 16384 →
    (∀ e ∈ schedEntries d, e.ramp ≤ 60000) →
    (∀ r i, s.dsp.running = some r → s.dsp.starting = some (1 - r, i) →
      exec (.dspScheduleLoad h d) s = .next (s.refuseCmd 0x0502 rOperator h .busy)) ∧
    (∀ b, (s.dsp.running = none → s.dsp.starting = none → b = s.rd F.BANK_SCHED_STATUS_RUNNING_BUF) →
      (∀ r, s.dsp.running = some r → b = 1 - r) → (∀ r i, s.dsp.running = none → s.dsp.starting = some (r, i) → b = 1 - r) →
      (∀ r i, s.dsp.starting = some (r, i) → r ≠ b) →
      (s.follower = false → ∃ t, exec (.dspScheduleLoad h d) s = .next t ∧ t.dsp.loaded = some b ∧
        t.sched b = withEnd (schedEntries d) ∧ (∀ c, c ≠ b → t.sched c = s.sched c) ∧ t.dsp.running = s.dsp.running ∧
        t.dsp.starting = s.dsp.starting ∧ t.dsp.out = s.dsp.out ∧ t.hrt.ops = s.hrt.ops) ∧
      (s.follower = true → exec (.dspScheduleLoad h d) s = .next (s.refuseCmd 0x0502 rOperator h .noResource)))) ∧
  (∀ (s : State) (h : Hdr), s.Allowed 0x0503 rOperator h → s.dsp.loaded = none →
    exec (.dspScheduleStart h) s = .next (s.refuseCmd 0x0503 rOperator h (if s.follower then .noResource else .state))) ∧
  (∀ (s : State) (h : Hdr) (b n : Nat), s.Allowed 0x0503 rOperator h → s.dsp.loaded = some b →
    n = ((s.sched b).filter fun e => !e.implied && decide (e.tag < s.plumbIdx + s.lead)).length →
    (((s.sched b).filter fun e => !e.implied).length ≤ n → exec (.dspScheduleStart h) s = .next (s.refuseCmd 0x0503 rOperator h .range)) ∧
    (n < ((s.sched b).filter fun e => !e.implied).length → s.dsp.starting ≠ none →
      exec (.dspScheduleStart h) s = .next (s.refuseCmd 0x0503 rOperator h .busy)) ∧
    (n < ((s.sched b).filter fun e => !e.implied).length → s.dsp.starting = none → s.follower = true ∨ s.profile = 1 →
      exec (.dspScheduleStart h) s = .next (s.refuseCmd 0x0503 rOperator h .noResource)) ∧
    (n < ((s.sched b).filter fun e => !e.implied).length → s.dsp.starting = none → s.follower = false → s.profile ≠ 1 →
      ∃ t u : State, exec (.dspScheduleStart h) s = .next t ∧ u.Accepted t 0x0503 h b [(n : Int)] ∧ u.dsp.starting = some (b, n) ∧
        u.dsp.running = s.dsp.running ∧ u.hrt.ops = s.hrt.ops ∧ (s.dsp.running = none → u.rd F.BANK_SCHED_STATUS_STATE = 2))) ∧
  (∀ (s : State) (h : Hdr), s.Allowed 0x0504 rOperator h → s.follower = true →
    exec (.dspScheduleStop h) s = .next (s.refuseCmd 0x0504 rOperator h .noResource)) ∧
  (∀ (s : State) (h : Hdr), s.Allowed 0x0504 rOperator h → s.follower = false →
    ∃ t, exec (.dspScheduleStop h) s = .next t ∧ t.dsp.running = none ∧ t.dsp.starting = none ∧
      (if s.dsp.running.isSome || s.dsp.starting.isSome then s.scheduleAbort.endAction (s.plumbIdx + s.lead) 0 else s.scheduleAbort).Done t 0x0504 h .ok []) ∧
  (∀ (s : State) (h : Hdr) (k : Nat) (v : Int) (r : Nat), s.Allowed 0x0505 rOperator h →
    (1 < k → exec (.dspSetpoint h k v r) s = .next (s.refuseCmd 0x0505 rOperator h .param)) ∧
    (k ≤ 1 → 60000 < r → exec (.dspSetpoint h k v r) s = .next (s.refuseCmd 0x0505 rOperator h .range))) ∧
  (∀ (s : State) (h : Hdr) (k : Nat) (v : Int) (r : Nat), s.Allowed 0x0505 rOperator h → k ≤ 1 → r ≤ 60000 →
    (s.dsp.running ≠ none ∨ s.dsp.starting ≠ none → exec (.dspSetpoint h k v r) s = .next (s.refuseCmd 0x0505 rOperator h .busy)) ∧
    (s.dsp.running = none → s.dsp.starting = none → s.follower = true ∨ s.profile = 1 →
      exec (.dspSetpoint h k v r) s = .next (s.refuseCmd 0x0505 rOperator h .noResource)) ∧
    (s.dsp.running = none → s.dsp.starting = none → s.follower = false → s.profile ≠ 1 → ∃ t, exec (.dspSetpoint h k v r) s = .next t ∧
      (s.setpointQueue { tag := s.plumbIdx + s.lead, value := v, kind := k, ramp := r, single := true } 3).Done t 0x0505 h .ok [])) ∧
  (∀ (s : State) (h : Hdr) (k a d st : Nat), s.Allowed 0x0506 rMaintainer h → freqOk k = false ∨ d = 0 ∨ st < s.plumbIdx + 8000 →
    exec (.dspPerturb h k a d st) s = .next (s.refuseCmd 0x0506 rMaintainer h .range)) ∧
  (∀ (s : State) (h : Hdr) (k a d st m : Nat), s.Allowed 0x0506 rMaintainer h → freqOk k = true → 1 ≤ d → s.plumbIdx + 8000 ≤ st →
    m = min a (min (s.rd F.BANK_PERTURB_MAX_MA) s.headroom) →
    (m < s.rd F.SE_CORR_CFG_IMIN → exec (.dspPerturb h k a d st) s = .next (s.refuseCmd 0x0506 rMaintainer h .range)) ∧
    (s.rd F.SE_CORR_CFG_IMIN ≤ m → s.dsp.perturb ≠ none ∨ s.isOn F.SE_STATUS_INJ_RUNNING = true →
      exec (.dspPerturb h k a d st) s = .next (s.refuseCmd 0x0506 rMaintainer h .busy)) ∧
    (s.rd F.SE_CORR_CFG_IMIN ≤ m → s.dsp.perturb = none → s.isOn F.SE_STATUS_INJ_RUNNING = false → s.follower = true ∨ s.profile = 1 →
      exec (.dspPerturb h k a d st) s = .next (s.refuseCmd 0x0506 rMaintainer h .noResource)) ∧
    (s.rd F.SE_CORR_CFG_IMIN ≤ m → s.dsp.perturb = none → s.isOn F.SE_STATUS_INJ_RUNNING = false → s.follower = false → s.profile ≠ 1 →
      ∃ t u : State, exec (.dspPerturb h k a d st) s = .next t ∧ u.Accepted t 0x0506 h 0 [(m : Int)] ∧ u.rd F.SE_STATUS_INJ_RUNNING = 1 ∧
        u.dsp.perturb = some { k := k, amp := m, dur := d, start := st } ∧ u.rd F.SE_INJ_CFG_WAVE = 1 ∧
        u.rd F.SE_INJ_FREQ_VALUE = k ∧ u.rd64 F.SE_INJ_START_LO_IDX F.SE_INJ_START_HI_IDX = st % 2 ^ 64 ∧ u.hrt.ops = s.hrt.ops)) ∧
  (∀ (s : State) (h : Hdr) (c i m : Nat), s.Allowed 0x0507 rMaintainer h → s.writeCheck 0x130004 c = none → s.writeCheck 0x130014 i = none →
    s.writeCheck 0x130018 m = none → ∃ t, exec (.dspSetCfg h c i m) s = .next t ∧
      (((s.writeStore 0x130004 c).writeStore 0x130014 i).writeStore 0x130018 m).Done t 0x0507 h .ok [])

/-- Dispatch without commands. (Readings of the model: assumption log 14, 119, 122, 188.) -/
def Obligations.DispatchKeepsWithinItsLimits : Prop :=
  (∀ s : State, s.plumbIdx % 400 = 0 → s.pwr.ctl = true → s.mode ≠ mSHELF →
    ∃ t, exec .dspPublish s = .next t ∧ t.dsp.pub = s.pubString ∧ t.dsp.pub.length = 16) ∧
  (∀ s : State, s.plumbIdx % 400 ≠ 0 ∨ s.pwr.ctl = false ∨ s.mode = mSHELF → exec .dspPublish s = .next s) ∧
  (∀ s : State, s.closed = false ∨ s.pwr.orderly ≠ none ∨ s.isOn F.PWR_AUX_STATUS_AUX_LOSS = true ∨ s.isOn F.SAFE_STATUS_SSD_DEMAND = true ∨
    s.safe.ssdDelay = true ∨ (s.mode ≠ mRUN ∧ s.mode ≠ mSERVICE) → ∀ x ∈ s.pubString, x = 0) ∧
  (∀ (s : State) (i : Nat), i < 4 → s.mode = mRUN → s.closed = true → s.pwr.orderly = none → s.isOn F.PWR_AUX_STATUS_AUX_LOSS = false →
    s.isOn F.SAFE_STATUS_SSD_DEMAND = false → s.safe.ssdDelay = false →
    (s.isOn F.SAFE_STATUS_SDI_CHG = false → s.safe.inhChg = false →
      s.pubString.getD i 1 = s.rdI (F.EST_ICHG_MA i) ∧ s.pubString.getD (8 + i) 1 = s.rdI (F.EST_PCHG_W i)) ∧
    (s.isOn F.SAFE_STATUS_SDI_DIS = false → s.safe.inhDis = false →
      s.pubString.getD (4 + i) 1 = s.rdI (F.EST_IDIS_MA i) ∧ s.pubString.getD (12 + i) 1 = s.rdI (F.EST_PDIS_W i))) ∧
  (∀ (s : State) (i : Nat), i < 4 → (s.isOn F.SAFE_STATUS_SDI_CHG = true ∨ s.safe.inhChg = true → s.pubString.getD i 1 = 0 ∧ s.pubString.getD (8 + i) 1 = 0) ∧
    (s.isOn F.SAFE_STATUS_SDI_DIS = true ∨ s.safe.inhDis = true → s.pubString.getD (4 + i) 1 = 0 ∧ s.pubString.getD (12 + i) 1 = 0)) ∧
  (∀ s u : State, u = ({ s with dsp.pub := (narrowed s.dsp.pub s.pubString).2 } : State).ownString →
    (s.pwr.ctl = false ∨ s.mode = mSHELF ∨
        ((∀ i, i < 16 → narrows (s.dsp.pub.getD i 0) (s.pubString.getD i 0) = false) ∧
         (∀ i, i < 16 → narrows (s.bank.pub.getD i 0) (u.bankNow.getD i 0) = false)) → exec .limitNarrowing s = .next s) ∧
    (∀ j, s.pwr.ctl = true → s.mode ≠ mSHELF → j < 16 → narrows (s.dsp.pub.getD j 0) (s.pubString.getD j 0) = true ∨
        narrows (s.bank.pub.getD j 0) (u.bankNow.getD j 0) = true →
      ∃ t, exec .limitNarrowing s = .next t ∧ ∀ i, i < 16 →
        t.dsp.pub.getD i 0 = (if narrows (s.dsp.pub.getD i 0) (s.pubString.getD i 0) then s.pubString.getD i 0 else s.dsp.pub.getD i 0) ∧
        (s.speaks = true → t.bank.pub.getD i 0 =
          (if narrows (s.bank.pub.getD i 0) (u.bankNow.getD i 0) then u.bankNow.getD i 0 else s.bank.pub.getD i 0)))) ∧
  (∀ (s : State) (k h : Nat) (v : Int), (0 ≤ v → 0 ≤ s.dspClamp k v h ∧ s.dspClamp k v h ≤ v ∧
      s.dspClamp k v h ≤ max 0 (if k = 1 then s.pubP true h else s.pubI true h)) ∧
    (v < 0 → s.dspClamp k v h ≤ 0 ∧ v ≤ s.dspClamp k v h ∧ min 0 (if k = 1 then s.pubP false h else s.pubI false h) ≤ s.dspClamp k v h)) ∧
  (∀ s : State, s.mode ≠ mRUN ∨ s.pwr.ctl = false ∨ (s.dsp.starting = none ∧ s.dsp.running = none) → exec .scheduleEntryDue s = .next s) ∧
  (∀ s : State, s.scheduleLeave.dsp.running = none ∧ s.scheduleLeave.dsp.starting = none ∧ (∀ e ∈ s.scheduleLeave.dsp.out, e.single = true) ∧
    s.scheduleLeave.dsp.loaded = s.dsp.loaded ∧ s.scheduleLeave.dsp.bufs = s.dsp.bufs) ∧
  (∀ (s : State) (r : Nat) (e : SchedEntry), s.mode = mRUN → s.pwr.ctl = true → s.dsp.starting = none → s.dsp.running = some r →
    (s.sched r)[s.rd F.BANK_SCHED_STATUS_NEXT]? = some e →
    (e.tag ≤ s.plumbIdx + s.lead → exec .scheduleEntryDue s = .next (s.schedEntry r (s.rd F.BANK_SCHED_STATUS_NEXT))) ∧
    (s.plumbIdx + s.lead < e.tag → exec .scheduleEntryDue s = .next s)) ∧
  (∀ (s : State) (b i : Nat) (e : SchedEntry), s.mode = mRUN → s.pwr.ctl = true → s.dsp.starting = some (b, i) → (s.sched b)[i]? = some e →
    e.tag ≤ s.plumbIdx + s.lead → e.kind ≠ 3 →
    ∃ t, exec .scheduleEntryDue s = .next t ∧ t.dsp.starting = none ∧ t.dsp.running = some b ∧ t.rd F.BANK_SCHED_STATUS_NEXT = (i + 1) % 2048) ∧
  (∀ (s : State) (b i r : Nat) (e f : SchedEntry), s.mode = mRUN → s.pwr.ctl = true → s.dsp.starting = some (b, i) → (s.sched b)[i]? = some e →
    s.plumbIdx + s.lead < e.tag → s.dsp.running = some r → (s.sched r)[s.rd F.BANK_SCHED_STATUS_NEXT]? = some f → f.tag ≤ s.plumbIdx + s.lead →
    exec .scheduleEntryDue s = .next (s.schedEntry r (s.rd F.BANK_SCHED_STATUS_NEXT))) ∧
  (∀ (s : State) (w : Bool), s.dsp.out = [] → exec (.setpointLateCancel w) s = .next s) ∧
  (∀ (s : State) (w : Bool) (e : SchedEntry) (l : List SchedEntry), s.dsp.out = e :: l →
    (s.plumbIdx < e.tag + 400 → exec (.setpointLateCancel w) s = .next s) ∧
    (e.tag + 400 ≤ s.plumbIdx → s.canPend 0 mbSETPOINT = false → exec (.setpointLateCancel w) s = .next (s.setpointEnd none)) ∧
    (e.tag + 400 ≤ s.plumbIdx → s.canPend 0 mbSETPOINT = true → exec (.setpointLateCancel w) s =
      .next (if w then s.wr (F.CAN_MB_CTRL_CANCEL 0 mbSETPOINT) 1 else s.canDone 0 mbSETPOINT .aborted))) ∧
  (∀ (s : State) (e : SchedEntry), s.dsp.out = [e] → ∃ t, s.setpointEnd none = t ∧ t.dsp.out = [] ∧ t.rd Fl.BANK_EVENT_MISSED.bit = 1) ∧
  (∀ (s : State) (e : SchedEntry) (t : Nat), s.dsp.out = [e] → (s.setpointEnd (some t)).dsp.out = [] ∧
    (s.setpointEnd (some t)).rd F.BANK_SETPOINT_VALUE = ofSigned 32 e.value ∧
    (s.setpointEnd (some t)).rd Fl.BANK_EVENT_LATE.bit = if e.tag * 250000 < t then 1 else s.rd Fl.BANK_EVENT_LATE.bit) ∧
  (∀ (s : State) (st k : Nat), s.dsp.perturb = none → exec (.perturbAck st k) s = .next s ∧ exec .perturbAckTimeout s = .next s) ∧
  (∀ (s : State) (st k : Nat) (p : Perturb), s.dsp.perturb = some p → exec (.perturbAck st k) s =
    .next (if p.start = st ∧ p.k = k then { s with dsp.perturb := some { p with acked := true } } else s)) ∧
  (∀ (s : State) (p : Perturb), s.dsp.perturb = some p →
    (p.acked = true → exec .perturbAckTimeout s = .next s) ∧
    (p.acked = false → ∃ t, exec .perturbAckTimeout s = .next t ∧ t.rd Fl.BANK_EVENT_PERTURB_REFUSED.bit = 1 ∧ t.dsp = s.dsp))

/-- R260 and the bank rows of R265. (Readings of the model: assumption log 120, 144.) -/
def Obligations.GrantsAndBankCommands : Prop :=
  (∀ (s : State) (h : Hdr), s.Allowed 0x1001 rObserver h → ∃ t, exec (.bankStatus h) s = .next t ∧
    s.Told t 0x1001 h (s.words (0x130008 :: (numbersFrom 0 8).map (fun p => 0x130100 + 4 * p)) ++
      (if s.speaks then s.bank.pub else if s.inBank then s.bank.heard else s.dsp.pub))) ∧
  (∀ (s : State) (h : Hdr) (n v d : Nat), s.Allowed 0x1002 rMaintainer h → n ≤ 7 → 5 ≤ v → v ≤ 200 → 10 ≤ d → d ≤ 100 →
    ∃ t, exec (.bankSetCfg h n v d) s = .next t ∧
      (((s.wrKeep F.BANK_CFG_SIZE_M1 n).wrKeep F.BANK_CFG_VMATCH v).wrKeep F.BANK_CFG_DERATE d).Done t 0x1002 h .ok []) ∧
  (∀ (s : State) (h : Hdr), s.Allowed 0x1003 rOperator h →
    (s.follower = true → exec (.bankOpenAll h) s = .next (s.refuseCmd 0x1003 rOperator h .noResource)) ∧
    (s.follower = false → s.closedPos = [] → s.closed = false → ∃ t, exec (.bankOpenAll h) s = .next t ∧ s.Done t 0x1003 h .ok []) ∧
    (s.follower = false → s.closedPos ≠ [] ∨ s.closed = true → ∃ t, exec (.bankOpenAll h) s = .next t ∧
      (s.closed = true → t.pwr.orderly ≠ none) ∧ t.bank.openAll = true ∧
      ({ (if s.closed then s.startOrderly mSTANDBY byCommand else s).bankSend .openAll with bank.openAll := true } : State).Accepted t 0x1003 h 0
        [])) ∧
  (∀ (s : State) (v : Int), (s.isOn F.BANK_STATUS_DUP_POSITION = true → s.grantJudge v = 3) ∧
    (s.isOn F.BANK_STATUS_DUP_POSITION = false → (∀ p ∈ s.bank.strings, p.2.dup = false) →
      (s.closedPos = [] → s.grantJudge v = 0) ∧
      (s.closedPos ≠ [] → s.bank.vBus = none → s.grantJudge v = 1) ∧
      (s.closedPos ≠ [] → ∀ b, s.bank.vBus = some b → s.grantJudge v = if (v - b).natAbs ≤ 100 * s.rd F.BANK_CFG_VMATCH then 0 else 1))) ∧
  (∀ (s : State) (p q : Nat) (v : Int), s.bankMaster = true → s.pwr.ctl = true → 1 ≤ p → p ≤ 7 → s.bank.granted = some q →
    exec (.parallelReq p v) s = .next { s with bank.waiting := Tbl.put s.bank.waiting p v }) ∧
  (∀ (s : State) (p : Nat) (v : Int), s.bankMaster = true → s.pwr.ctl = true → 1 ≤ p → p ≤ 7 → s.bank.granted = none →
    exec (.parallelReq p v) s = .next { s with bank.granted := if s.grantJudge v = 0 then some p else none
                                               bank.sent := Tbl.put s.bank.sent 4 (.grant p (s.grantJudge v)) }) ∧
  (∀ (s : State) (p : Nat) (v : Int), s.bankMaster = false ∨ p = 0 ∨ 7 < p ∨ s.pwr.ctl = false → exec (.parallelReq p v) s = .next s) ∧
  (∀ (s : State) (r : Nat), s.follower = false ∨ s.pwr.ctl = false ∨ 3 < r → exec (.grant r) s = .next s) ∧
  (∀ (s : State) (r : Nat), s.follower = true → s.pwr.ctl = true → r ≤ 3 → s.bank.asking = false → exec (.grant r) s = .next s) ∧
  (∀ s : State, s.follower = true → s.pwr.ctl = true → s.bank.asking = true →
    exec (.grant 0) s = .next (({ s with bank.asking := false } : State).wr F.BANK_STATUS_GRANT_HELD 1).beginClosing) ∧
  (∀ (s : State) (r : Nat), s.follower = true → s.pwr.ctl = true → 1 ≤ r → r ≤ 3 → s.bank.asking = true →
    ∃ t, exec (.grant r) s = .next t ∧ t.bank.asking = false ∧ t.rd F.BANK_STATUS_LAST_REFUSAL = r ∧ t.rd Fl.BANK_EVENT_GRANT_REFUSED.bit = 1 ∧
      t.pwr.trans = none) ∧
  (∀ (s : State) (p : Nat), s.bankMaster = true → s.pwr.ctl = true → s.bank.granted = some p → s.bank.waiting = [] →
    exec (.closed p) s = .next { s with bank.granted := none }) ∧
  (∀ (s : State) (p q : Nat) (v : Int) (l : List (Nat × Int)), s.bankMaster = true → s.pwr.ctl = true → s.bank.granted = some p →
    s.bank.waiting = (q, v) :: l → q ≠ 0 → s.grantJudge v = 0 →
    exec (.closed p) s = .next { s with bank.granted := some q, bank.waiting := l, bank.sent := Tbl.put s.bank.sent 4 (.grant q 0) }) ∧
  (∀ (s : State) (p : Nat), s.bank.granted ≠ some p ∨ s.bankMaster = false ∨ s.pwr.ctl = false → exec (.closed p) s = .next s) ∧
  (∀ s : State, s.bankMaster = false ∨ s.bank.waiting = [] → exec .grantLapse s = .next
    (if s.bankMaster then { s.wr F.BANK_STATUS_GRANT_HELD 0 with bank.granted := none } else s.wr F.BANK_STATUS_GRANT_HELD 0)) ∧
  (∀ s : State, s.bank.asking = true → ∃ t, exec .grantWaitExpiry s = .next t ∧ t.bank.asking = false ∧ t.rd F.BANK_STATUS_LAST_REFUSAL = 4 ∧
    t.rd Fl.BANK_EVENT_GRANT_REFUSED.bit = 1) ∧
  (∀ s : State, s.bank.asking = false → exec .grantWaitExpiry s = .next s)

/-- The bank ring. (Readings of the model: assumption log 14, 120, 123, 177, 189.) -/
def Obligations.BankRingMessages : Prop :=
  (∀ (s : State) (p : Nat) (m : BankMsg), s.inBank = false ∨ s.pwr.ctl = false ∨ 7 < p → exec (.bankMessageReceived p m) s = .next s) ∧
  (∀ (s : State) (m f : Nat) (c a d : Bool), s.inBank = true → s.pwr.ctl = true → s.bankPos ≤ 7 →
    exec (.bankMessageReceived s.bankPos (.heartbeat m c f a d)) s = .next (s.wr F.BANK_STATUS_DUP_POSITION 1) ∧
    ∀ x : BankMsg, (∀ m' c' f' a' d', x ≠ .heartbeat m' c' f' a' d') → exec (.bankMessageReceived s.bankPos x) s = .next s) ∧
  (∀ (s u : State) (l : List Int) (cs ds : List (Nat × Rat)), s.inBank = true → s.pwr.ctl = true → s.bankPos ≠ 0 →
    u = (s.setBit F.BANK_STATUS_HEARD 0 true).wr F.BANK_STATUS_MASTER_LOST 0 →
    exec (.bankMessageReceived 0 (.bankLimits l cs ds)) s = .next { u with bank.heard := l } ∧
    exec (.bankMessageReceived 0 .openAll) s = .next (if s.closed then u.startOrderly mSTANDBY byCommand else u)) ∧
  (∀ (s : State) (p m f : Nat) (c a d : Bool), s.inBank = true → s.pwr.ctl = true → p ≤ 7 → p ≠ s.bankPos →
    ∃ t, exec (.bankMessageReceived p (.heartbeat m c f a d)) s = .next t ∧ (t.rd F.BANK_STATUS_HEARD).testBit p = true ∧
      (t.rd F.BANK_STATUS_CLOSED).testBit p = c ∧ (t.bankString p).mode = m ∧ (t.bankString p).closed = c ∧ (t.bankString p).dup = d ∧
      (p = 0 → t.rd F.BANK_STATUS_MASTER_LOST = 0)) ∧
  (∀ (s : State) (p i soc sg cap : Nat) (mean volt : Option Int) (u : Bool) (lo hi : Int) (l : List Int), s.inBank = true → s.pwr.ctl = true →
    p ≤ 7 → p ≠ s.bankPos → ∃ t, exec (.bankMessageReceived p (.stringState mean i u volt soc sg cap lo hi l)) s = .next t ∧
      (t.bankString p).mean = mean ∧ (t.bankString p).meanIdx = i ∧ (t.bankString p).unaligned = u ∧ (t.bankString p).volt = volt ∧
      (t.bankString p).limits = l ∧ (t.rd F.BANK_STATUS_HEARD).testBit p = true) ∧
  (∀ (s : State) (p : Nat), p ≤ 7 → p ≠ s.bankPos → s.rd F.BANK_STATUS_HEARD / 2 ^ p % 2 = 1 →
    ∃ t, exec (.bankModuleLost p) s = .next t ∧ (t.rd F.BANK_STATUS_HEARD).testBit p = false ∧ (t.rd F.BANK_STATUS_CLOSED).testBit p = false ∧
      (p = 0 → t.rd F.BANK_STATUS_MASTER_LOST = 1 ∧ t.rd Fl.BANK_EVENT_MASTER_LOST.bit = 1)) ∧
  (∀ (s : State) (p : Nat), s.rd F.BANK_STATUS_HEARD / 2 ^ p % 2 = 0 ∨ p = s.bankPos ∨ 7 < p → exec (.bankModuleLost p) s = .next s) ∧
  (∀ s : State, s.inBank = true → s.isOn F.BANK_STATUS_RING_BREAK = false →
    ∃ t, exec (.bankRingBreak true) s = .next t ∧ t.rd F.BANK_STATUS_RING_BREAK = 1 ∧ t.rd Fl.BANK_EVENT_RING_BREAK.bit = 1) ∧
  (∀ s : State, s.isOn F.BANK_STATUS_RING_BREAK = true ∨ s.inBank = false → exec (.bankRingBreak true) s = .next s) ∧
  (∀ s : State, exec (.bankRingBreak false) s = .next (s.wr F.BANK_STATUS_RING_BREAK 0)) ∧
  (∀ s : State, s.inBank = true → s.pwr.ctl = true → ∃ t, exec .bankHeartbeatSend s = .next t ∧
    Tbl.get .openAll t.bank.sent 0 = .heartbeat s.mode s.closed (s.rd F.UPD_VERSION_RUN_VERSION) (s.isOn F.SEG_ALIGN_ALIGNED)
      (s.isOn F.BANK_STATUS_DUP_POSITION)) ∧
  (∀ s : State, s.inBank = false ∨ s.pwr.ctl = false → exec .bankHeartbeatSend s = .next s) ∧
  (∀ s : State, s.bankMaster = false ∨ s.pwr.ctl = false → exec .bankShareUpdate s = .next s) ∧
  (∀ s : State, s.bankMaster = true → s.pwr.ctl = true → ∃ t, exec .bankShareUpdate s = .next t ∧ t.bank.useChg = (s.shares true).2.2 ∧
    t.bank.useDis = (s.shares false).2.2 ∧ t.bank.chg = (s.shares true).1 ∧ t.bank.dis = (s.shares false).1) ∧
  (∀ (s : State) (chg : Bool), (∀ x ∈ (if chg then s.bank.chg else s.bank.dis), (1 / 100 : Rat) ≤ x.2) →
    ∀ x ∈ (s.shares chg).1, (1 / 100 : Rat) ≤ x.2) ∧
  (∀ (s : State) (chg : Bool) (idx : Nat) (sum : Int), s.closedPos ≠ [] →
    (∀ p ∈ s.closedPos, (s.bankString p).mean ≠ none ∧ (s.bankString p).meanIdx = idx) →
    sum = (s.closedPos.map fun p => (s.bankString p).mean.getD 0).sum → 1000 * s.rd F.EST_ILIM_CONT_A * s.closedPos.length ≤ 20 * sum.natAbs →
    (if chg then 0 < sum else sum < 0) →
    (s.shares chg).1 = s.closedPos.map fun p => (p, max (1 / 100 : Rat) (((s.bankString p).mean.getD 0 : Int) / (sum : Rat)))) ∧
  (∀ (s : State) (chg : Bool), (∃ p ∈ s.closedPos, (s.bankString p).mean = none) →
    (if chg then s.bank.chgSet else s.bank.disSet) = s.rd F.BANK_STATUS_CLOSED → (s.shares chg).1 = if chg then s.bank.chg else s.bank.dis)

/-- The commands of R325. (Readings of the model: assumption log 92, 93, 144.) -/
def Obligations.ThermalCommandsComplete : Prop :=
  (∀ (s : State) (h : Hdr), s.Allowed 0x0601 rObserver h → ∃ t, exec (.thmStatus h) s = .next t ∧
    s.Told t 0x0601 h (s.wordsFrom 0xA0000 10 ++ s.wordsFrom 0xA0030 3 ++ s.wordsFrom 0xA0100 104 ++ wordsOf 16 s.thm.shut.bytes)) ∧
  (∀ (s : State) (h : Hdr) (sp : Int) (sel : Nat) (kc : Int) (ti f : Nat) (ff : Int) (lo hi db : Nat), s.Allowed 0x0602 rMaintainer h →
    hi < lo ∨ 10000 < hi ∨ ti = 0 ∨ 1 < sel ∨ 255 < db ∨ 10000 < f ∨ sp < -32767 ∨ 32767 < sp →
    exec (.thmSetLoop h sp sel kc ti f ff lo hi db) s = .next (s.refuseCmd 0x0602 rMaintainer h .range)) ∧
  (∀ (s : State) (h : Hdr) (sp : Int) (sel : Nat) (kc : Int) (ti f : Nat) (ff : Int) (lo hi db : Nat), s.Allowed 0x0602 rMaintainer h →
    lo ≤ hi → hi ≤ 10000 → 1 ≤ ti → sel ≤ 1 → db ≤ 255 → f ≤ 10000 → -32767 ≤ sp → sp ≤ 32767 →
    ∃ t, exec (.thmSetLoop h sp sel kc ti f ff lo hi db) s = .next t ∧
      (({ ((((s.wrKeep F.THM_SETPOINT_SETPOINT (ofSigned 16 sp)).wrKeep F.THM_SETPOINT_DEADBAND db).wrKeep F.THM_CFG_CTRL_SEL sel).wrKeep
        F.THM_VALVE_LIM_LO lo).wrKeep F.THM_VALVE_LIM_HI hi with thm.loop := { kc := kc, ti := ti, f := f, ff := ff } } : State).reloadLoop).Done
        t 0x0602 h .ok []) ∧
  (∀ (s : State) (h : Hdr) (vo dow : Bool) (v d : Nat), s.Allowed 0x0603 rOperator h → 10000 < v ∨ 10000 < d →
    exec (.thmValveSet h vo dow v d) s = .next (s.refuseCmd 0x0603 rOperator h .range)) ∧
  (∀ (s : State) (h : Hdr) (vo dow : Bool) (v d : Nat), s.Allowed 0x0603 rOperator h → v ≤ 10000 → d ≤ 10000 →
    ∃ t u : State, exec (.thmValveSet h vo dow v d) s = .next t ∧ u.Done t 0x0603 h .ok [] ∧ u.thm.hostValve = v ∧ u.thm.hostDamper = d ∧
      u.isOn F.THM_CFG_VALVE_OWNER = vo ∧ u.isOn F.THM_CFG_DAMPER_OWNER = dow) ∧
  (∀ (s : State) (h : Hdr) (m : List Nat), s.Allowed 0x0604 rMaintainer h →
    (m.length ≠ 512 → exec (.thmNtcMapLoad h m) s = .next (s.refuseCmd 0x0604 rMaintainer h .param)) ∧
    (m.length = 512 → (∃ n ∈ m, 8 * s.segs < n) ∨ (∃ n ∈ m.drop 444, n ≠ 0) →
      exec (.thmNtcMapLoad h m) s = .next (s.refuseCmd 0x0604 rMaintainer h .range))) ∧
  (∀ (s : State) (h : Hdr) (m : List Nat), s.Allowed 0x0604 rMaintainer h → m.length = 512 → (∀ n ∈ m, n ≤ 8 * s.segs) →
    (∀ n ∈ m.drop 444, n = 0) → ∃ t u : State, exec (.thmNtcMapLoad h m) s = .next t ∧ u.Done t 0x0604 h .ok [] ∧ u.ntcMap = m ∧
      (s.isOn F.SE_STATUS_POWERED = true → u.se.ntcMap = m)) ∧
  (∀ (s : State) (h : Hdr) (st : Int) (d : Nat), s.Allowed 0x0605 rMaintainer h → d < 600 ∨ 8000 < d ∨ st < -10000 ∨ 10000 < st →
    exec (.thmTune h st d) s = .next (s.refuseCmd 0x0605 rMaintainer h .range)) ∧
  (∀ (s : State) (h : Hdr) (st : Int) (d : Nat), s.Allowed 0x0605 rMaintainer h → 600 ≤ d → d ≤ 8000 → -10000 ≤ st → st ≤ 10000 →
    (s.thm.tune ≠ none → s.thmForced = false → exec (.thmTune h st d) s = .next (s.refuseCmd 0x0605 rMaintainer h .busy)) ∧
    (s.isOn F.THM_STATUS_LOOP_RUNNING = true → s.thmForced = false →
      s.isOn F.SE_STATUS_INJ_RUNNING = true ∨ s.isOn F.SE_STATUS_CAP_ARMED = true →
      exec (.thmTune h st d) s = .next (s.refuseCmd 0x0605 rMaintainer h .busy)) ∧
    (s.thmForced = true → exec (.thmTune h st d) s = .next (s.refuseCmd 0x0605 rMaintainer h .state)) ∧
    (s.thm.tune = none → s.isOn F.THM_STATUS_LOOP_RUNNING = false →
      exec (.thmTune h st d) s = .next (s.refuseCmd 0x0605 rMaintainer h .state)) ∧
    (s.thm.tune = none → s.isOn F.SE_STATUS_INJ_RUNNING = false → s.isOn F.SE_STATUS_CAP_ARMED = false →
      (s.isOn F.THM_STATUS_LOOP_RUNNING = true → s.thmForced = false → ∃ t u : State, exec (.thmTune h st d) s = .next t ∧
        u.Accepted t 0x0605 h 0 [] ∧ u.thm.tune = some { step := st, dur := d, start := s.plumbIdx + 240000 } ∧ u.rd F.SE_STATUS_INJ_OWNER = 2 ∧
        u.rd F.SE_STATUS_CAP_ARMED = 1 ∧ u.rd F.THM_STATUS_TUNING = 1 ∧ (u.seSlot 2).disabling = true))) ∧
  (∀ (s : State) (h : Hdr), s.Allowed 0x0606 rMaintainer h →
    (s.thm.tuneRes = none → exec (.thmTuneApply h) s = .next (s.refuseCmd 0x0606 rMaintainer h .state)) ∧
    (∀ r, s.thm.tuneRes = some r → ∃ t, exec (.thmTuneApply h) s = .next t ∧
      (({ s with thm.loop := { s.thm.loop with kc := r.kc, ti := r.ti } } : State).reloadLoop).Done t 0x0606 h .ok [])) ∧
  (∀ (s : State) (h : Hdr), s.Allowed 0x0607 rMaintainer h → ∃ t, exec (.thmTuneStop h) s = .next t ∧ t.thm.tune = none ∧
    ((s.tuneEnd .aborted []).thmDrive).Done t 0x0607 h .ok []) ∧
  (∀ (s : State) (h : Hdr), s.Allowed 0x0608 rMaintainer h → ∃ t, exec (.thmShutdownAck h) s = .next t ∧ t.thm.shut.ack = true ∧
    t.thm.shut.valid = s.thm.shut.valid ∧ t.thm.shut.crc = crc32c t.thm.shut.body % 16777216 ∧ t.rd F.THM_STATUS_ACK_PENDING = 0 ∧
    (({ s with thm.shut := ({ s.thm.shut with ack := true } : ShutRec).sealed } : State).wr F.THM_STATUS_ACK_PENDING 0).setReady.Done t 0x0608 h .ok []) ∧
  (∀ (s : State) (h : Hdr) (a b c d ts : Int) (n : Nat), s.Allowed 0x0609 rMaintainer h →
    b ≤ c ∨ (∃ x ∈ [a, b, c, d], x < -127 ∨ 127 < x) ∨ n < 60 ∨ 3600 < n ∨ ts < -32767 ∨ 32767 < ts →
    exec (.thmDieSet h a b c d n ts) s = .next (s.refuseCmd 0x0609 rMaintainer h .range)) ∧
  (∀ (s : State) (h : Hdr) (a b c d ts : Int) (n : Nat), s.Allowed 0x0609 rMaintainer h → c < b → (∀ x ∈ [a, b, c, d], -127 ≤ x ∧ x ≤ 127) →
    60 ≤ n → n ≤ 3600 → -32767 ≤ ts → ts ≤ 32767 → ∃ t, exec (.thmDieSet h a b c d n ts) s = .next t ∧
      ((((((s.wrI F.THM_DIE_CFG_SE_THROTTLE_C a).wrI F.THM_DIE_CFG_SHUTDOWN_C b).wrI F.THM_DIE_CFG_RESTART_C c).wrI F.THM_DIE_CFG_SEG_HOT_C d).wrKeep
        F.THM_COOL_TIME_COOL_S n).wrKeep F.THM_BAL_T_START (ofSigned 16 ts)).Done t 0x0609 h .ok [])

/-- What THM does each second and millisecond. (Readings of the model: assumption log 91, 92, 93, 195.) -/
def Obligations.ThermalReportsAndPositions : Prop :=
  (∀ s : State, ∃ t, exec .thmNtcReport s = .next t ∧ t.thm.sums = [] ∧ ∀ n, 1 ≤ n → n ≤ 8 * s.segs → n ≤ 208 →
    ((Tbl.get ({} : NtcSum) s.thm.sums n).n = 0 → t.thmNtc n = none ∧ Tbl.get 0 t.thm.repQ n = 4) ∧
    ((Tbl.get ({} : NtcSum) s.thm.sums n).n ≠ 0 → Tbl.get 0 t.thm.repQ n = (Tbl.get ({} : NtcSum) s.thm.sums n).qual ∧
      t.rd (if n % 2 = 1 then F.THM_NTC_T_LO ((n - 1) / 2) else F.THM_NTC_T_HI ((n - 1) / 2)) =
        satS 16 (roundDiv (Tbl.get ({} : NtcSum) s.thm.sums n).sum (Tbl.get ({} : NtcSum) s.thm.sums n).n) % 2 ^ 16)) ∧
  (∀ (s : State) (c : Int) (p q m : Option Int), -127 ≤ c → c ≤ 127 → ∃ t, exec (.dieSample (some c) p q m) s = .next t ∧
    t.rdI F.THM_DIE_CTL_STF_C = c ∧ (p = none → t.rd F.THM_DIE_CTL_STF_P = 0x80) ∧ (m = none → t.rd F.THM_DIE_CTL_MOT = 0x80) ∧
    (s.rd F.SE_THROTTLE_PAUSE < throttleFor c (s.rdI F.THM_DIE_CFG_SE_THROTTLE_C) →
      t.rd F.SE_THROTTLE_PAUSE = throttleFor c (s.rdI F.THM_DIE_CFG_SE_THROTTLE_C)) ∧
    (throttleFor c (s.rdI F.THM_DIE_CFG_SE_THROTTLE_C) = s.rd F.SE_THROTTLE_PAUSE → t.rd F.SE_THROTTLE_PAUSE = s.rd F.SE_THROTTLE_PAUSE)) ∧
  (∀ (s : State) (p q m : Option Int), ∃ t, exec (.dieSample none p q m) s = .next t ∧ t.rd F.THM_DIE_CTL_STF_C = 0x80 ∧
    t.rd F.SE_THROTTLE_PAUSE = s.rd F.SE_THROTTLE_PAUSE) ∧
  (∀ s : State, ∃ t, exec .thmBalPauseUpdate s = .next t ∧ t.rd F.BAL_THROTTLE_PAUSE_SLOTS ≤ 64 ∧
    (s.isOn F.THM_STATUS_VALVE_UNAVAIL = true → t.rd F.BAL_THROTTLE_PAUSE_SLOTS = 64) ∧
    (s.isOn F.THM_STATUS_VALVE_UNAVAIL = false → (∀ n, 1 ≤ n → n ≤ 8 * s.segs → n ≠ s.ntcMap.getD 442 0 → n ≠ s.ntcMap.getD 443 0 →
        Tbl.get 4 s.thm.repQ n ≠ 0) →
      t.rd F.BAL_THROTTLE_PAUSE_SLOTS = 0 ∧ t.rd F.THM_STATUS_HOT_NTC = 0 ∧ t.rd F.THM_STATUS_T_HOT = 0x8000)) ∧
  (∀ (s : State) (k : Nat), s.segOk k = false ∨ (∀ c, (s.segOf k).hotAt = some c → s.time.count < c + 2500000000) →
    exec (.segHot k) s = .next s) ∧
  (∀ (s : State) (k c : Nat), s.segOk k = true → (s.segOf k).hotAt = some c → c + 2500000000 ≤ s.time.count → ∃ t, exec (.segHot k) s = .next t ∧ t.rd Fl.THM_EVENT_SEG_HOT.bit = 1 ∧ t.thm = s.thm ∧ t.bal = s.bal) ∧
  (∀ s : State, s.thm.tune = none → exec .tuneDone s = .next s) ∧
  (∀ (s : State) (u : Tune), s.thm.tune = some u → s.plumbIdx < u.start + 4000 * u.dur → exec .tuneDone s = .next s) ∧
  (∀ (s : State) (u : Tune), s.thm.tune = some u → u.start + 4000 * u.dur ≤ s.plumbIdx → ∃ t, exec .tuneDone s = .next t ∧ t.thm.tune = none ∧ t.rd F.THM_STATUS_TUNING = 0 ∧
    t.rd F.SE_STATUS_CAP_ARMED = 0 ∧ t.rd F.SE_STATUS_INJ_OWNER = 0 ∧ t.rd Fl.THM_EVENT_TUNE_DONE.bit = 1) ∧
  (∀ s : State, s.thmForced = true → s.axState 0 ≠ axDISABLED → s.axState 1 ≠ axDISABLED → s.rd F.THM_VALVE_POS_LO ≤ 10000 →
    s.thmDrive.rd F.THM_STATUS_FORCED = 1 ∧ s.thmDrive.rd F.THM_CMD_VALVE = s.rd F.THM_VALVE_POS_LO ∧ s.thmDrive.rd F.THM_CMD_DAMPER = 10000 ∧
    s.thmDrive.thm.tune = none) ∧
  (∀ s : State, s.thmForced = false → s.valveUnavail = true → s.thmDrive.rd F.THM_STATUS_VALVE_UNAVAIL = 1 ∧
    s.thmDrive.rd F.BAL_THROTTLE_PAUSE_SLOTS = 64 ∧ s.thmDrive.rd F.THM_CMD_VALVE = s.rd F.THM_CMD_VALVE ∧
    (s.isOn F.THM_STATUS_VALVE_UNAVAIL = false → s.thmDrive.rd Fl.THM_EVENT_COOL_FAULT.bit = 1)) ∧
  (∀ s : State, s.thmForced = false → s.valveUnavail = false → s.isOn F.THM_CFG_VALVE_OWNER = true → s.thm.hostValve ≤ 10000 →
    s.thmDrive.rd F.THM_STATUS_MANUAL = 1 ∧ s.thmDrive.rd F.THM_CMD_VALVE = s.thm.hostValve) ∧
  (∀ s : State, s.thmForced = false → s.valveUnavail = false → s.isOn F.THM_CFG_VALVE_OWNER = false → s.thm.tune = none → s.loopRuns = false →
    s.rd F.THM_VALVE_POS_HI ≤ 10000 → s.thmDrive.rd F.THM_STATUS_LOOP_RUNNING = 0 ∧ s.thmDrive.rd F.THM_CMD_VALVE = s.rd F.THM_VALVE_POS_HI)

/-- The commands of R346. (Readings of the model: assumption log 94, 97, 98, 144.) -/
def Obligations.MotionCommandsComplete : Prop :=
  (∀ (s : State) (h : Hdr), s.Allowed 0x0701 rObserver h → ∃ t, exec (.motStatus h) s = .next t ∧
    s.Told t 0x0701 h (s.words ([0xB0000, 0xB0004, 0xB0010] ++ (numbersFrom 0 6).map (fun i => 0xB0014 + 4 * i)) ++
      s.wordsFrom 0xB0100 22 ++ s.wordsFrom 0xB0200 22)) ∧
  (∀ (s : State) (h : Hdr) (x : Nat) (r : Bool) (p : Int), s.Allowed 0x0702 rMaintainer h →
    (s.moveRange x r p = true → exec (.motMove h x r p) s = .next (s.refuseCmd 0x0702 rMaintainer h .range)) ∧
    (s.moveRange x r p = false → s.hostOwns x = false ∨ s.axState x = axHOMING → exec (.motMove h x r p) s = .next (s.refuseCmd 0x0702 rMaintainer h .busy)) ∧
    (s.moveRange x r p = false → s.hostOwns x = true → s.axState x ≠ axHOMING → ∃ t, exec (.motMove h x r p) s = .next t ∧
      ((s.finish 0x0702 x .aborted [0]).motSend (.target x (s.moveTarget x r p) true)).Accepted t 0x0702 h x [])) ∧
  (∀ (s : State) (h : Hdr) (x : Nat) (e : Bool), 2 ≤ x →
    (s.Allowed 0x0703 rOperator h → exec (.motStop h x e) s = .next (s.refuseCmd 0x0703 rOperator h .range)) ∧
    (s.Allowed 0x0704 rMaintainer h → exec (.motHome h x) s = .next (s.refuseCmd 0x0704 rMaintainer h .range)) ∧
    (∀ w : List Nat, w.length = 10 → s.Allowed 0x0705 rMaintainer h →
      exec (.motSetCfg h x w) s = .next (s.refuseCmd 0x0705 rMaintainer h .range)) ∧
    (∀ v a d j e', s.Allowed 0x0706 rMaintainer h → exec (.motSetLimits h x v a d j e') s = .next (s.refuseCmd 0x0706 rMaintainer h .range)) ∧
    (∀ b : List Byte, tableBad b = false → s.Allowed 0x0707 rMaintainer h →
      exec (.motTableLoad h x b) s = .next (s.refuseCmd 0x0707 rMaintainer h .range)) ∧
    (s.Allowed 0x0708 rMaintainer h → exec (.motAxisReset h x) s = .next (s.refuseCmd 0x0708 rMaintainer h .range))) ∧
  (∀ (s : State) (h : Hdr) (x : Nat) (e : Bool), s.Allowed 0x0703 rOperator h → x < 2 →
    (s.axIdle x = true → ∃ t, exec (.motStop h x e) s = .next t ∧ s.Done t 0x0703 h .ok []) ∧
    (s.axIdle x = false → ∃ t, exec (.motStop h x e) s = .next t ∧ (s.motSend (.stop x e 2)).Accepted t 0x0703 h x [])) ∧
  (∀ (s : State) (h : Hdr) (x : Nat), s.Allowed 0x0704 rMaintainer h → x < 2 → s.axState x = axDISABLED →
    exec (.motHome h x) s = .next (s.refuseCmd 0x0704 rMaintainer h .range)) ∧
  (∀ (s : State) (h : Hdr) (x : Nat), s.Allowed 0x0704 rMaintainer h → x < 2 → s.axState x ≠ axDISABLED →
    (s.axState x = axHOMING ∨ s.opOf 0x0704 x ≠ none → exec (.motHome h x) s = .next (s.refuseCmd 0x0704 rMaintainer h .busy)) ∧
    (s.axState x ≠ axHOMING → s.opOf 0x0704 x = none → ∃ t, exec (.motHome h x) s = .next t ∧
      (s.motSend (.home x)).Accepted t 0x0704 h x [])) ∧
  (∀ (s u : State) (h : Hdr) (x : Nat) (w : List Nat), s.Allowed 0x0705 rMaintainer h → x < 2 → w.length = 10 →
    s.motWrite x (motWords x cfgOffsets w) = .ok u →
    (s.axStill x = true → ∃ t, exec (.motSetCfg h x w) s = .next t ∧ ((u.axEnable x).setFloor).Done t 0x0705 h .ok []) ∧
    (s.axStill x = false → exec (.motSetCfg h x w) s = .next (s.refuseCmd 0x0705 rMaintainer h .busy))) ∧
  (∀ (s : State) (h : Hdr) (x : Nat) (w : List Nat), s.Allowed 0x0705 rMaintainer h → w.length ≠ 10 →
    exec (.motSetCfg h x w) s = .next (s.refuseCmd 0x0705 rMaintainer h .param)) ∧
  (∀ (s : State) (h : Hdr) (x v a d j e : Nat), s.Allowed 0x0706 rMaintainer h → e < d →
    exec (.motSetLimits h x v a d j e) s = .next (s.refuseCmd 0x0706 rMaintainer h .range)) ∧
  (∀ (s : State) (h : Hdr) (x v a d j e : Nat), s.Allowed 0x0706 rMaintainer h → x < 2 → d ≤ e →
    s.wordsCheck (motWords x [0x10, 0x14, 0x18, 0x1C, 0x20] [v, a, d, j, e]) = none →
    ∃ t, exec (.motSetLimits h x v a d j e) s = .next t ∧
      ((s.wordsStore (motWords x [0x10, 0x14, 0x18, 0x1C, 0x20] [v, a, d, j, e])).motSend (.limits x (s.limits x))).Done t 0x0706 h .ok []) ∧
  (∀ (s : State) (h : Hdr) (x : Nat) (b : List Byte), s.Allowed 0x0707 rMaintainer h → tableBad b = true →
    exec (.motTableLoad h x b) s = .next (s.refuseCmd 0x0707 rMaintainer h .param)) ∧
  (∀ (s : State) (h : Hdr) (x : Nat) (b : List Byte), s.Allowed 0x0707 rMaintainer h → x < 2 → tableBad b = false →
    (s.axStill x = true → ∃ t u : State, exec (.motTableLoad h x b) s = .next t ∧ u.Done t 0x0707 h .ok [] ∧
      u.motTable x = (numbersFrom 0 256).map (fun k => u16 b (2 * k)) ∧ u.rd (F.MOT_TABLE_CRC_CRC x) = u32 b 512 ∧
      ((u.axis x).ia, (u.axis x).ib) = phaseCurrents (u.motTable x) (if s.isOn (F.MOT_CFG_DIR_INVERT x) then -s.axPos x else s.axPos x)) ∧
    (s.axStill x = false → exec (.motTableLoad h x b) s = .next (s.refuseCmd 0x0707 rMaintainer h .busy))) ∧
  (∀ (s : State) (h : Hdr) (x : Nat), s.Allowed 0x0708 rMaintainer h → x < 2 →
    (s.axState x ≠ axFAULT → ∃ t, exec (.motAxisReset h x) s = .next t ∧ s.Done t 0x0708 h .ok []) ∧
    (s.axState x = axFAULT → s.causeThere x = true → exec (.motAxisReset h x) s = .next (s.refuseCmd 0x0708 rMaintainer h .busy)) ∧
    (s.axState x = axFAULT → s.causeThere x = false → s.isOn (F.MOT_CFG_AUTO_HOME x) = false →
      ∃ t u : State, exec (.motAxisReset h x) s = .next t ∧ u.Done t 0x0708 h .ok [] ∧ u.axState x = axATREST) ∧
    (s.axState x = axFAULT → s.causeThere x = false → s.isOn (F.MOT_CFG_AUTO_HOME x) = true → s.mode ≠ mSHELF →
      ∃ t u : State, exec (.motAxisReset h x) s = .next t ∧ u.Done t 0x0708 h .ok [] ∧ u.axState x = axHOMING))

/-- The events of one axis on its way. (Readings of the model: assumption log 14, 96, 97, 98, 193, 194, 195.) -/
def Obligations.MovesAndHomingEndWhereTheyMust : Prop :=
  (∀ (s : State) (x : Nat), x < 2 → s.axState x = axMOVING →
    ∃ t, exec (.moveComplete x) s = .next t ∧ t.axState x = axATREST ∧ t.axPos x = s.rdI (F.MOT_TARGET_VALUE x) ∧ t.rd (F.MOT_VEL_VALUE x) = 0 ∧
      t.rd (F.MOT_STATE_END_CAUSE x) = (if (s.axis x).linkLoss then 10 else 1)) ∧
  (∀ (s : State) (x : Nat), x < 2 → s.axState x = axHOMING → (s.axis x).stage = .back →
    ∃ t, exec (.moveComplete x) s = .next t ∧ t.axState x = axHOMING ∧ t.axPos x = s.rdI (F.MOT_TARGET_VALUE x) ∧ (t.axis x).stage = .approach ∧
      (t.axis x).edges = 0) ∧
  (∀ (s : State) (x : Nat), s.axState x ≠ axMOVING → s.axState x ≠ axHOMING ∨ (s.axis x).stage ≠ .back → exec (.moveComplete x) s = .next s) ∧
  (∀ (s : State) (x : Nat), x < 2 → s.axState x = axATREST → (s.axis x).restAt + 2500000 * s.rd (F.MOT_CURRENT_HOLD_DELAY x) ≤ s.time.count →
    ∃ t, exec (.holdDelayExpiry x) s = .next t ∧ t.isOn (F.MOT_STATE_BRIDGE_ON x) = decide (s.rd (F.MOT_CURRENT_HOLD x) ≠ 0) ∧
      (t.axis x).amps = s.rd (F.MOT_CURRENT_HOLD x) ∧ t.axState x = axATREST) ∧
  (∀ (s : State) (x : Nat), s.axState x ≠ axATREST ∨ s.time.count < (s.axis x).restAt + 2500000 * s.rd (F.MOT_CURRENT_HOLD_DELAY x) →
    exec (.holdDelayExpiry x) s = .next s) ∧
  (∀ (s : State) (x : Nat) (p : Int), x < 2 → s.axState x = axSTOPPING → (s.axis x).stopCause < 16 → -2147483648 ≤ p → p ≤ 2147483647 →
    ∃ t, exec (.axisAtRest x p) s = .next t ∧ t.axState x = axATREST ∧ t.axPos x = p ∧ t.rd (F.MOT_STATE_END_CAUSE x) = (s.axis x).stopCause) ∧
  (∀ (s : State) (x : Nat) (p : Int), x < 2 → s.axState x = axHOMING →
    ((s.axis x).stage = .slow → ∃ t, exec (.axisAtRest x p) s = .next t ∧ t.axState x = axHOMING ∧ (t.axis x).stage = .back ∧
      t.rd (F.MOT_VEL_VALUE x) = 0 ∧ t.rd (F.MOT_TARGET_VALUE x) =
        ofSigned 32 ((s.axis x).edge - s.homeDir x * 256 * s.rd (F.MOT_HOME_CFG_BACKOFF x))) ∧
    ((s.axis x).stage = .latched → ∃ t, exec (.axisAtRest x p) s = .next t ∧ t.axState x = axATREST ∧ t.rd (F.MOT_STATE_HOMED x) = 1 ∧
      t.rd (F.MOT_STATE_END_CAUSE x) = 1 ∧ t.rd (fHomed x).bit = 1)) ∧
  (∀ (s : State) (x : Nat) (p : Int), s.axState x ≠ axSTOPPING →
    s.axState x ≠ axHOMING ∨ ((s.axis x).stage ≠ .slow ∧ (s.axis x).stage ≠ .latched) → exec (.axisAtRest x p) s = .next s) ∧
  (∀ (s : State) (x i n : Nat) (b : Bool) (p : Int), 2 ≤ x ∨ 2 < i → exec (.limitInputEdge x i b p n) s = .next s) ∧
  (∀ (s : State) (x i n : Nat) (b : Bool) (p : Int), x < 2 → i ≤ 2 → s.axState x ≠ axHOMING →
    ∃ t, exec (.limitInputEdge x i b p n) s = .next t ∧ (t.axis x).edges = (s.axis x).edges ∧ t.axState x = s.axState x ∧
      (Tbl.get ({} : MotIn) (t.axis x).inputs i).raw = (b == s.isOn (F.MOT_CFG_LIM_NC x)) ∧
      (Tbl.get ({} : MotIn) (t.axis x).inputs i).changed = some s.time.count ∧ t.rd (motBit x i) = (s.inConfirm x).rd (motBit x i)) ∧
  (∀ (s : State) (x n : Nat) (b : Bool) (p : Int), x < 2 → s.axState x = axHOMING → (s.axis x).stage = .approach → (s.axis x).windowEnd = none →
    (s.rd (F.MOT_HOME_CFG_EDGES_MAX x) ≤ (s.axis x).edges → s.tickOpen x n 2 = true →
      ∃ t, exec (.limitInputEdge x (s.homeInput x) b p n) s = .next t ∧ t.axState x = axSTOPPING ∧ (t.axis x).stopCause = 5 ∧
        (t.axis x).emergency = true ∧ t.rd (F.MOT_STATE_HOMED x) = 0 ∧ t.rd (fChatter x).bit = 1) ∧
    ((s.axis x).edges < s.rd (F.MOT_HOME_CFG_EDGES_MAX x) →
      ∃ t, exec (.limitInputEdge x (s.homeInput x) b p n) s = .next t ∧ t.axState x = axHOMING ∧ (t.axis x).edges = (s.axis x).edges + 1)) ∧
  (∀ (s : State) (x n : Nat) (pos : Bool), 2 ≤ x ∨ s.inStands x (if pos then 1 else 0) true = false ∨ s.tickOpen x n 2 = false →
    exec (.limitTrip x pos n) s = .next s) ∧
  (∀ (s : State) (x n : Nat) (pos : Bool), x < 2 → s.inStands x (if pos then 1 else 0) true = true → s.tickOpen x n 2 = true →
    (s.axState x = axMOVING → s.axDir x = (if pos then 1 else -1) → ∃ t, exec (.limitTrip x pos n) s = .next t ∧ t.axState x = axSTOPPING ∧
      t.rd (F.MOT_STATE_HOMED x) = 0 ∧ (t.axis x).emergency = true ∧ (t.axis x).stopCause = 3 ∧ t.rd (fLimit x).bit = 1) ∧
    (s.axState x = axHOMING → s.homeInput x ≠ (if pos then 1 else 0) → ∃ t, exec (.limitTrip x pos n) s = .next t ∧ t.axState x = axSTOPPING ∧
      t.rd (F.MOT_STATE_HOMED x) = 0 ∧ (t.axis x).emergency = true ∧ (t.axis x).stopCause = 6 ∧ t.rd (fLimit x).bit = 1) ∧
    (s.axStill x = true ∨ (s.axState x = axMOVING ∧ s.axDir x ≠ (if pos then 1 else -1)) ∨
        (s.axState x = axHOMING ∧ s.homeInput x = (if pos then 1 else 0)) →
      exec (.limitTrip x pos n) s = .next (s.wr (if pos then F.MOT_STATE_LIM_POS x else F.MOT_STATE_LIM_NEG x) 1))) ∧
  (∀ (s : State) (x n : Nat), s.axState x ≠ axHOMING → exec (.homeEdge x) s = .next s ∧ exec (.homeSearchTimeout x n) s = .next s) ∧
  (∀ (s : State) (x : Nat), s.inStands x (s.homeInput x) ((s.axis x).stage != .away) = false → exec (.homeEdge x) s = .next s) ∧
  (∀ (s : State) (x : Nat), x < 2 → s.axState x = axHOMING → s.inStands x (s.homeInput x) ((s.axis x).stage != .away) = true →
    ((s.axis x).stage = .away → ∃ t, exec (.homeEdge x) s = .next t ∧ (t.axis x).stage = .back ∧ t.rd (motBit x (s.homeInput x)) = 0) ∧
    ((s.axis x).stage = .search → ∃ t, exec (.homeEdge x) s = .next t ∧ (t.axis x).stage = .slow ∧ t.rd (motBit x (s.homeInput x)) = 1) ∧
    ((s.axis x).stage = .approach → ∃ t, exec (.homeEdge x) s = .next t ∧ (t.axis x).stage = .latched ∧
      (t.axis x).windowEnd = some (s.time.count + 5000000) ∧
      t.rd (F.MOT_LATCH_VALUE x) = ofSigned 32 (Tbl.get ({} : MotIn) (s.axis x).inputs (s.homeInput x)).first)) ∧
  (∀ (s : State) (x n : Nat), x < 2 → s.axState x = axHOMING → (s.axis x).stage = .search →
    (4 * (s.axPos x - (s.axis x).searchFrom).natAbs < 5 * s.rd (F.MOT_TRAVEL_USTEPS x) → exec (.homeSearchTimeout x n) s = .next s) ∧
    (5 * s.rd (F.MOT_TRAVEL_USTEPS x) ≤ 4 * (s.axPos x - (s.axis x).searchFrom).natAbs → s.tickOpen x n 2 = true →
      ∃ t, exec (.homeSearchTimeout x n) s = .next t ∧ t.axState x = axSTOPPING ∧ (t.axis x).stopCause = 7 ∧ (t.axis x).emergency = true ∧
        t.rd (F.MOT_STATE_HOMED x) = 0))

/-- What takes the motion card away and brings it back. (Readings of the model: assumption log 14, 94, 97, 195.) -/
def Obligations.MotionFaultsLinkAndCard : Prop :=
  (∀ (s : State) (x k n : Nat), x < 2 → s.faultThere x k = true → s.axState x ≠ axDISABLED → s.axState x ≠ axFAULT →
    ∃ t, exec (.motorFault x k n) s = .next t ∧ t.axState x = axFAULT ∧ t.rd (F.MOT_STATE_BRIDGE_ON x) = 0 ∧ t.rd (F.MOT_VEL_VALUE x) = 0 ∧
      t.rd (F.MOT_STATE_END_CAUSE x) = (if k = 0 then 8 else 9) ∧ t.rd (fFault x).bit = 1 ∧
      t.rd (F.MOT_STATE_HOMED x) =
        (if s.isOn (F.MOT_CFG_SELF_LOCKING x) && s.axState x != axHOMING then s.rd (F.MOT_STATE_HOMED x) else 0)) ∧
  (∀ (s : State) (x k n : Nat), 2 ≤ x ∨ s.faultThere x k = false → exec (.motorFault x k n) s = .next s) ∧
  (∀ (s : State) (x : Nat), s.faultThere x 1 = true ∧ (s.faultThere x 2 = true ↔ 10 ≤ s.mot.dieMs) ∧
    (s.faultThere x 0 = true ↔ ∃ c, (s.axis x).vmBad = some c ∧ c + 2500000 ≤ s.time.count)) ∧
  (∀ (s : State) (x n : Nat) (p : Int), x < 2 → s.axStill x = false → s.isOn (F.MOT_STATE_STALL_ACTIVE x) = true →
    s.rd (F.MOT_STALL_TICKS x) ≤ (s.axis x).overTicks → s.tickOpen x n 3 = true →
    ∃ t, exec (.stall x p n) s = .next t ∧ t.axState x = axATREST ∧ t.rd (F.MOT_STATE_HOMED x) = 0 ∧ t.rd (F.MOT_STATE_END_CAUSE x) = 4 ∧
      t.rd (fStall x).bit = 1) ∧
  (∀ (s : State) (x n : Nat) (p : Int), s.axStill x = true ∨ s.isOn (F.MOT_STATE_STALL_ACTIVE x) = false ∨
    (s.axis x).overTicks < s.rd (F.MOT_STALL_TICKS x) ∨ s.tickOpen x n 3 = false → exec (.stall x p n) s = .next s) ∧
  (∀ (s : State) (n : Nat) (a b : AxisRead), s.isOn F.MOT_GLOBAL_CARD_PRESENT = false → exec (.motLinkMessage n a b) s = .next s) ∧
  (∀ (s : State) (n : Nat) (a b : AxisRead), s.isOn F.MOT_GLOBAL_CARD_PRESENT = true →
    ∃ t, exec (.motLinkMessage n a b) s = .next t ∧ t.rd F.MOT_GLOBAL_LINK_OK = 1 ∧
      (s.isOn F.MOT_GLOBAL_LINK_OK = true → s.mot.link = [] → t.mot.link = []) ∧
      (∀ m l, s.isOn F.MOT_GLOBAL_LINK_OK = true → s.mot.link = m :: l → ∃ e, t.mot.link = l ++ e) ∧
      ∀ x, x < 2 → (s.axStill x = true → t.axPos x = s.axPos x) ∧
        (s.axStill x = false → -2147483648 ≤ (s.axWithin x (if x = 0 then a else b)).pos → (s.axWithin x (if x = 0 then a else b)).pos ≤ 2147483647 →
          t.axPos x = (s.axWithin x (if x = 0 then a else b)).pos)) ∧
  (∀ s : State, ∃ t, exec .motLinkLoss s = .next t ∧ t.rd F.MOT_GLOBAL_LINK_OK = 0 ∧ ∀ x, x < 2 →
    (s.isOn (F.MOT_LINKLOSS_ACTION x) = false → s.axState x = axMOVING → t.axState x = axMOVING ∧ (t.axis x).linkLoss = true) ∧
    (s.isOn (F.MOT_LINKLOSS_ACTION x) = true → s.isOn (F.MOT_STATE_HOMED x) = true → s.axState x = axATREST → t.axState x = axMOVING ∧
      (t.axis x).linkLoss = true ∧ t.rd (F.MOT_STATE_BRIDGE_ON x) = 1)) ∧
  (∀ s : State, ∃ t, exec .motPowerUp s = .next t ∧ t.rd F.MOT_GLOBAL_CARD_PRESENT = 1 ∧ t.rd F.MOT_GLOBAL_LINK_OK = 1) ∧
  (∀ (s : State) (n : Nat), ∃ t, exec (.motCardInserted n) s = .next t ∧ t.rd F.MOT_GLOBAL_CARD_PRESENT = 1 ∧ t.rd F.MOT_GLOBAL_LINK_OK = 1 ∧
    Tbl.get 0 t.recorder.serials 4 = n ∧ ∀ x, x < 2 → t.rd (F.MOT_STATE_HOMED x) = 0 ∧ t.axPos x = 0) ∧
  (∀ s : State, ∃ t, exec .motCardWithdrawn s = .next t ∧ t.rd F.MOT_GLOBAL_CARD_PRESENT = 0 ∧ t.rd F.MOT_GLOBAL_LINK_OK = 0 ∧
    ∀ x, x < 2 → t.axState x = axDISABLED ∧ t.rd (F.MOT_STATE_HOMED x) = 0 ∧ t.rd (F.MOT_STATE_BRIDGE_ON x) = 0)

/-- The commands of R367 and the registers of R364 and R366. (Readings of the model: assumption log 103, 104, 144.) -/
def Obligations.TimeCommandsComplete : Prop :=
  (∀ (s : State) (h : Hdr), s.Allowed 0x0801 rObserver h → ∃ t, exec (.timeStatus h) s = .next t ∧
    s.latchTime.Told t 0x0801 h (s.latchTime.words timeRegs)) ∧
  (∀ (s : State) (h : Hdr) (cfg ptp servo hold a b : Nat), s.Allowed 0x0802 rMaintainer h →
    (∀ p ∈ [(0x20000, cfg), (0x20004, ptp), (0x20008, servo), (0x2000C, hold), (0x20050, a), (0x20054, b)], s.writeCheck p.1 p.2 = none) →
    ∃ t, exec (.timeSetCfg h cfg ptp servo hold a b) s = .next t ∧
      (((((((s.writeStore 0x20000 cfg).writeStore 0x20004 ptp).writeStore 0x20008 servo).writeStore 0x2000C hold).writeStore 0x20050 a).writeStore
        0x20054 b).timeCfgDone).Done t 0x0802 h .ok []) ∧
  (∀ (s : State) (h : Hdr) (tai : Nat), s.Allowed 0x0803 rMaintainer h →
    (s.timeState ≠ tFREE → exec (.timeSet h tai) s = .next (s.refuseCmd 0x0803 rMaintainer h .busy)) ∧
    (s.timeState = tFREE → 0 ≤ s.timeAt s.time.count → ∃ t, exec (.timeSet h tai) s = .next t ∧ t.now = tai ∧ t.taiValid = s.taiValid ∧
      t.timeState = tFREE ∧ t.rd Fl.TIME_EVENT_STEPPED.bit = 1 ∧ (s.timeStep ((tai : Int) - s.now)).Done t 0x0803 h .ok [])) ∧
  (∀ (s : State) (h : Hdr) (n mode tl start per frac w : Nat), s.Allowed 0x0804 rOperator h → n < 4 → mode ≤ 2 → tl ≤ 1 →
    outOk mode per frac w = true → start < 2 ^ 64 → per < 2 ^ 32 → frac < 2 ^ 32 → w < 2 ^ 32 →
    ((start : Int) < s.lineNow tl + 1000 → exec (.timeToArm h n mode tl start per frac w) s = .next (s.refuseCmd 0x0804 rOperator h .range)) ∧
    (s.lineNow tl + 1000 ≤ (start : Int) → ∃ t u : State, exec (.timeToArm h n mode tl start per frac w) s = .next t ∧ u.Done t 0x0804 h .ok [] ∧
      u.timedOut n = { mode := mode, timeline := tl, polarity := s.rd (F.TIME_TO_CFG_POLARITY n), start := start, period := per * 2 ^ 32 + frac,
                       width := w, next := 0, running := decide (mode ≠ 0), pulseEnd := (s.timedOut n).pulseEnd } ∧
      u.rd (F.TIME_TO_CFG_ARMED n) = (if mode = 0 then 0 else 1) ∧ u.rd64 (F.TIME_TO_START_LO_VALUE n) (F.TIME_TO_START_HI_VALUE n) = start)) ∧
  (∀ (s : State) (h : Hdr) (n mode tl start per frac w : Nat), s.Allowed 0x0804 rOperator h → 4 ≤ n ∨ 2 < mode ∨ 1 < tl ∨ outOk mode per frac w = false →
    exec (.timeToArm h n mode tl start per frac w) s = .next (s.refuseCmd 0x0804 rOperator h .range)) ∧
  (∀ (s : State) (h : Hdr) (n : Nat), s.Allowed 0x0805 rOperator h → 4 ≤ n →
    exec (.timeToDisarm h n) s = .next (s.refuseCmd 0x0805 rOperator h .range)) ∧
  (∀ (s : State) (h : Hdr) (n k : Nat), s.Allowed 0x0806 rObserver h → 2 ≤ n ∨ k = 0 ∨ 16 < k →
    exec (.timeTiRead h n k) s = .next (s.refuseCmd 0x0806 rObserver h .range)) ∧
  (∀ (s : State) (n : Nat) (d : Bool), 4 ≤ n ∨ s.shadowOk n = false → exec (.toArm n d) s = .next s) ∧
  (∀ (s : State) (n : Nat), (4 ≤ n → exec (.toDisarm n) s = .next s) ∧ (2 ≤ n → exec (.tiTimestampRead n) s = .next s)) ∧
  (∀ (s : State) (h : Hdr) (n : Nat), s.Allowed 0x0805 rOperator h → n < 4 → ∃ t, exec (.timeToDisarm h n) s = .next t ∧
    t.timedOut n = { s.timedOut n with running := false } ∧ (s.toDisarm n).Done t 0x0805 h .ok []) ∧
  (∀ (s : State) (h : Hdr) (n k : Nat), s.Allowed 0x0806 rObserver h → n < 2 → 1 ≤ k → k ≤ 16 → ∃ (t u : State) (ws : List Int),
    exec (.timeTiRead h n k) s = .next t ∧ u.Told t 0x0806 h ws ∧ u.tiList n = (s.tiList n).drop k ∧ ws.length = 3 * min k (s.tiList n).length ∧
    u.tiList (1 - n) = s.tiList (1 - n)) ∧
  (∀ (s : State) (n : Nat) (d : Bool), n < 4 → s.shadowOk n = true →
    let start := s.rd64 (F.TIME_TO_START_LO_VALUE n) (F.TIME_TO_START_HI_VALUE n)
    ((start : Int) < s.lineNow (s.rd (F.TIME_TO_CFG_TIMELINE n)) + 1000 → ∃ t, exec (.toArm n d) s = .next t ∧ t.time = s.time ∧
      t.rd Fl.TIME_EVENT_TO_LATE.bit = 1 ∧ t.rd (F.TIME_TO_CFG_ARMED n) = s.rd (F.TIME_TO_CFG_ARMED n)) ∧
    (s.lineNow (s.rd (F.TIME_TO_CFG_TIMELINE n)) + 1000 ≤ (start : Int) → ∃ t, exec (.toArm n d) s = .next t ∧ (t.timedOut n).start = start ∧
      (t.timedOut n).mode = s.rd (F.TIME_TO_CFG_MODE n) ∧ (t.timedOut n).width = s.rd (F.TIME_TO_WIDTH_VALUE n) ∧ (t.timedOut n).next = 0 ∧
      (t.timedOut n).timeline = s.rd (F.TIME_TO_CFG_TIMELINE n) ∧ (t.timedOut n).running = (s.rd (F.TIME_TO_CFG_MODE n) == 1 || s.rd (F.TIME_TO_CFG_MODE n) == 2) ∧
      (t.timedOut n).period = s.rd (F.TIME_TO_PERIOD_VALUE n) * 2 ^ 32 + s.rd (F.TIME_TO_PERIOD_FRAC_VALUE n) ∧
      ∀ m, m ≠ n → t.timedOut m = s.timedOut m)) ∧
  (∀ (s : State) (n : Nat), n < 4 → ∃ t, exec (.toDisarm n) s = .next t ∧ t.timedOut n = { s.timedOut n with running := false } ∧
    t.rd (F.TIME_TO_CFG_ARMED n) = 0 ∧ (∀ m, m ≠ n → t.timedOut m = s.timedOut m) ∧ s.SameRegs t [(F.TIME_TO_CFG_ARMED n).key]) ∧
  (∀ (s : State) (n : Nat) (e : Edge) (rest : List Edge), n < 2 → s.tiList n = e :: rest → ∃ t, exec (.tiTimestampRead n) s = .next t ∧
    t.tiList n = rest ∧ t.lastRead = e.time % 2 ^ 32 ∧ t.rd (F.TIME_TI_TS_HI_VALUE n) = e.time / 2 ^ 32 % 2 ^ 32 ∧
    t.rd (F.TIME_TI_INFO_EDGE n) = (if e.rising then 1 else 0) ∧ t.rd (F.TIME_TI_CFG_LEVEL n) = rest.length % 32) ∧
  (∀ (s : State) (n : Nat), n < 2 → s.tiList n = [] → ∃ t, exec (.tiTimestampRead n) s = .next t ∧
    t = { s with lastRead := s.rd (F.TIME_TI_TS_LO_VALUE n) })

/-- What TIME does on its events. (Readings of the model: assumption log 14, 99, 100, 101, 102, 105.) -/
def Obligations.TimeFollowsItsSources : Prop :=
  (∀ (s : State) (p d : Nat) (vl : Option Nat) (sec udp : Bool) (m : PtpMsg), s.ptpIgnored p vl sec udp d = true →
    exec (.ptpMessage p vl sec udp d m) s = .next s) ∧
  (∀ (s : State) (p d lo hi : Nat) (vl : Option Nat) (sec udp : Bool) (r : List Nat), s.ptpIgnored p vl sec udp d = false → lo < 2 ^ 32 → hi < 2 ^ 32 →
    s.annOn (1 - p) = false → ∃ t, exec (.ptpMessage p vl sec udp d (.announce lo hi r)) s = .next t ∧
      t.ann p = some ⟨lo, hi, r⟩ ∧ t.ann (1 - p) = s.ann (1 - p) ∧ t.rd F.TIME_STATUS_ACTIVE_PORT = p ∧ t.rd F.TIME_GM_ID_LO_ID = lo ∧
      t.rd F.TIME_GM_ID_HI_ID = hi ∧ t.time.offset = s.time.offset ∧ t.rd F.TIME_RATE_VALUE = s.rd F.TIME_RATE_VALUE ∧
      t.timeState = (if s.timeState = tFREE ∨ s.timeState = tHOLDOVER ∨ s.timeState = tBANK ∨ lo ≠ s.rd F.TIME_GM_ID_LO_ID ∨
        hi ≠ s.rd F.TIME_GM_ID_HI_ID then tACQUIRING else s.timeState)) ∧
  (∀ (s : State) (p d lo hi : Nat) (vl : Option Nat) (sec udp : Bool) (r : List Nat) (b : Ann), s.ptpIgnored p vl sec udp d = false →
    s.ann (1 - p) = some b → ∃ t, exec (.ptpMessage p vl sec udp d (.announce lo hi r)) s = .next t ∧ t.ann p = some ⟨lo, hi, r⟩ ∧
      t.rd F.TIME_STATUS_ACTIVE_PORT = (if p = 0 then (if rankBetter b.rank r then 1 else 0) else if rankBetter r b.rank then 1 else 0)) ∧
  (∀ (s : State) (p d o i : Nat) (vl : Option Nat) (sec udp : Bool) (lg : Int), s.ptpIgnored p vl sec udp d = false →
    s.rd F.TIME_STATUS_ACTIVE_PORT ≠ p ∨ s.annOn p = false ∨ s.syncOk lg = false ∨ (s.timeState ≠ tACQUIRING ∧ s.timeState ≠ tLOCKED) →
    exec (.ptpMessage p vl sec udp d (.sync lg o i)) s = .next s) ∧
  (∀ (s : State) (p d o i : Nat) (vl : Option Nat) (sec udp : Bool) (lg ns : Int), s.ptpIgnored p vl sec udp d = false →
    s.rd F.TIME_STATUS_ACTIVE_PORT = p → s.annOn p = true → s.syncOk lg = true → ns = s.syncOffset p o i →
    s.timeState = tACQUIRING ∨ s.timeState = tLOCKED → ∃ t, exec (.ptpMessage p vl sec udp d (.sync lg o i)) s = .next t ∧
      (s.rd F.TIME_SERVO_STEP_NS < ns.natAbs → t.time.offset = s.time.offset + ns * 2 ^ 32 ∧ t.rd Fl.TIME_EVENT_STEPPED.bit = 1 ∧
        t.rd F.TIME_RATE_VALUE = s.rd F.TIME_RATE_VALUE) ∧
      (ns.natAbs ≤ s.rd F.TIME_SERVO_STEP_NS → t.timeAt t.time.count = s.timeAt s.time.count ∧ -rateMax ≤ t.rdI F.TIME_RATE_VALUE ∧
        t.rdI F.TIME_RATE_VALUE ≤ rateMax) ∧
      (s.timeState = tACQUIRING → ns.natAbs ≤ 100 → 7 ≤ s.time.good → t.timeState = tLOCKED ∧ t.taiValid = true ∧
        t.rd F.TIME_STATUS_ALIGN_DEGRADED = 0 ∧ t.time.lockHeld = true ∧ t.time.lastLock = s.time.count ∧ t.rd Fl.TIME_EVENT_LOCKED.bit = 1) ∧
      (s.timeState = tACQUIRING → ns.natAbs ≤ 100 → s.time.good < 7 → t.timeState = tACQUIRING ∧ t.time.good = s.time.good + 1) ∧
      (s.timeState = tACQUIRING → 100 < ns.natAbs → t.timeState = tACQUIRING ∧ t.time.good = 0) ∧
      (s.timeState = tLOCKED → 1000 < ns.natAbs → 3 ≤ s.time.bad → t.timeState = tACQUIRING ∧ t.rd Fl.TIME_EVENT_LOCK_LOST.bit = 1) ∧
      (s.timeState = tLOCKED → 1000 < ns.natAbs → s.time.bad < 3 → t.timeState = tLOCKED ∧ t.time.bad = s.time.bad + 1) ∧
      (s.timeState = tLOCKED → ns.natAbs ≤ 1000 → t.timeState = tLOCKED ∧ t.time.bad = 0)) ∧
  (∀ (s : State) (p d : Nat) (vl : Option Nat) (sec udp p2p : Bool) (a b : Int), s.ptpIgnored p vl sec udp d = false →
    exec (.ptpMessage p vl sec udp d .other) s = .next s ∧
    (p2p ≠ s.isOn F.TIME_PTP_CFG_DELAY_P2P ∨ (p2p = false ∧ s.rd F.TIME_STATUS_ACTIVE_PORT ≠ p) →
      exec (.ptpMessage p vl sec udp d (.delay p2p a b)) s = .next s) ∧
    (p2p = s.isOn F.TIME_PTP_CFG_DELAY_P2P → p2p = true ∨ s.rd F.TIME_STATUS_ACTIVE_PORT = p →
      exec (.ptpMessage p vl sec udp d (.delay p2p a b)) s =
        .next (if p = 0 then { s with time.delayA := roundDiv (a + b) 2 } else { s with time.delayB := roundDiv (a + b) 2 }))) ∧
  (∀ (s : State) (p : Nat), 2 ≤ p ∨ s.annOn p = false → exec (.announceTimeout p) s = .next s) ∧
  (∀ (s : State) (p : Nat), p < 2 → s.annOn p = true → ∃ t, exec (.announceTimeout p) s = .next t ∧ t.annOn p = false ∧ t.ann (1 - p) = s.ann (1 - p) ∧
    (∀ a, s.ann (1 - p) = some a → s.rd F.TIME_STATUS_ACTIVE_PORT = p → t.rd F.TIME_STATUS_ACTIVE_PORT = 1 - p ∧
      t.rd Fl.TIME_EVENT_PORT_SWITCH.bit = 1 ∧ t.time.offset = s.time.offset ∧ t.timeState =
        (if s.timeState = tFREE ∨ s.timeState = tHOLDOVER ∨ s.timeState = tBANK ∨ s.rd F.TIME_GM_ID_LO_ID ≠ a.gmLo % 2 ^ 32 ∨
          s.rd F.TIME_GM_ID_HI_ID ≠ a.gmHi % 2 ^ 32 then tACQUIRING else s.timeState)) ∧
    (s.annOn (1 - p) = true → s.rd F.TIME_STATUS_ACTIVE_PORT ≠ p → t = s.setAnn p none) ∧
    (s.annOn (1 - p) = false → s.timeState = tLOCKED → t.timeState = tHOLDOVER ∧ t.rd Fl.TIME_EVENT_LOCK_LOST.bit = 1) ∧
    (s.annOn (1 - p) = false → s.timeState = tACQUIRING → t.timeState = (if s.time.lockHeld then tHOLDOVER else tFREE) ∧
      t.rd F.TIME_RATE_VALUE = s.rd F.TIME_RATE_VALUE) ∧
    (s.annOn (1 - p) = false → s.timeState ≠ tLOCKED → s.timeState ≠ tACQUIRING → t = s.setAnn p none)) ∧
  (∀ s : State, s.timeState = tHOLDOVER → s.isOn F.TIME_STATUS_ALIGN_DEGRADED = false → (s.rd F.TIME_HOLD_DEGRADE_NS : Int) < s.holdErr →
    ∃ t, exec .degraded s = .next t ∧ t.rd F.TIME_STATUS_ALIGN_DEGRADED = 1 ∧ t.rd Fl.TIME_EVENT_DEGRADED.bit = 1 ∧ t.timeState = tHOLDOVER ∧
      t.rd F.TIME_HOLD_ERR_VALUE = satU 32 s.holdErr) ∧
  (∀ s : State, s.timeState ≠ tHOLDOVER ∨ s.isOn F.TIME_STATUS_ALIGN_DEGRADED = true ∨ s.holdErr ≤ s.rd F.TIME_HOLD_DEGRADE_NS →
    exec .degraded s = .next s) ∧
  (∀ (s : State) (n : Nat), 4 ≤ n ∨ (s.timedOut n).running = false → exec (.toPulse n) s = .next s) ∧
  (∀ (s : State) (n : Nat), n < 4 → (s.timedOut n).running = true → ∃ t, exec (.toPulse n) s = .next t ∧
    (t.timedOut n).next = (s.timedOut n).next + 1 ∧ (t.timedOut n).running = ((s.timedOut n).mode == 2) ∧
    t.rd (F.TIME_TO_COUNT_PULSES n) % 65536 = (if s.pwr.ctl = true ∧ s.timeState ≠ tFREE then s.rd (F.TIME_TO_COUNT_PULSES n) + 1
      else s.rd (F.TIME_TO_COUNT_PULSES n)) % 65536) ∧
  (∀ (s : State) (n ns held : Nat) (r : Bool), n < 2 → s.isOn (F.TIME_TI_CFG_ENABLE n) = true → s.pwr.ctl = true →
    s.rd (F.TIME_TI_CFG_EDGE n) = (if r then 1 else 2) ∨ s.rd (F.TIME_TI_CFG_EDGE n) = 3 → 4 * s.rd (F.TIME_TI_CFG_FILTER n) ≤ held →
    ((s.tiList n).length < 16 → ∃ t, exec (.tiEdge n r ns held) s = .next t ∧ t.tiList n = s.tiList n ++ [⟨ns, r⟩] ∧
      t.rd (F.TIME_TI_CFG_LEVEL n) = (s.tiList n).length + 1) ∧
    (16 ≤ (s.tiList n).length → ∃ t, exec (.tiEdge n r ns held) s = .next t ∧ t.tiList n = s.tiList n ∧ t.rd Fl.TIME_EVENT_TI_OVF.bit = 1)) ∧
  (∀ (s : State) (n ns held : Nat) (r : Bool), 2 ≤ n ∨ s.isOn (F.TIME_TI_CFG_ENABLE n) = false ∨ s.pwr.ctl = false ∨
    s.rd (F.TIME_TI_CFG_EDGE n) = (if r then 2 else 1) ∨ s.rd (F.TIME_TI_CFG_EDGE n) = 0 ∨ held < 4 * s.rd (F.TIME_TI_CFG_FILTER n) →
    exec (.tiEdge n r ns held) s = .next s)

/-- The commands of R417. (Readings of the model: assumption log 107, 115, 118, 142, 144.) -/
def Obligations.CanCommandsComplete : Prop :=
  (∀ (s : State) (h : Hdr) (c : Nat), s.Allowed 0x0901 rObserver h → c < 2 → ∃ t, exec (.canStatus h c) s = .next t ∧ s.Told t 0x0901 h
    (s.words [canBase c + 0x10, canBase c + 0x20, canBase c + 0x24, canBase c + 0x28, canBase c + 0x2C, canBase c + 0x30, canBase c + 0x40])) ∧
  (∀ (s : State) (h : Hdr) (c cfg nbt dbt wake : Nat), s.Allowed 0x0902 rMaintainer h → c < 2 → canCfgBad c cfg nbt dbt = false →
    (∀ p ∈ [(canBase c, cfg), (canBase c + 4, nbt), (canBase c + 8, dbt), (canBase c + 0x50, wake)], s.writeCheck p.1 p.2 = none) →
    let u := (((s.writeStore (canBase c) cfg).writeStore (canBase c + 4) nbt).writeStore (canBase c + 8) dbt).writeStore (canBase c + 0x50) wake
    (u.canCfgKey c = s.canCfgKey c → ∃ t, exec (.canSetCfg h c cfg nbt dbt wake) s = .next t ∧ u.Done t 0x0902 h .ok []) ∧
    (u.canCfgKey c ≠ s.canCfgKey c → ((u.canChanged c).canBus c).integrating = false →
      ∃ t, exec (.canSetCfg h c cfg nbt dbt wake) s = .next t ∧ (u.canChanged c).Done t 0x0902 h .ok []) ∧
    (u.canCfgKey c ≠ s.canCfgKey c → ((u.canChanged c).canBus c).integrating = true →
      ∃ t, exec (.canSetCfg h c cfg nbt dbt wake) s = .next t ∧ t.regs = (u.canChanged c).regs ∧ t.isOn (F.CAN_STATUS_INTEGRATED c) = false ∧
        (t.canBus c).integrating = true ∧ t.hrt.taken.any (fun x => x.opcode == 0x0902) = true)) ∧
  (∀ (s : State) (h : Hdr) (c k id mask target : Nat) (ide en : Bool), s.Allowed 0x0903 rOperator h → c < 2 → 8 ≤ k → k ≤ 31 → id < 2 ^ 29 →
    mask < 2 ^ 29 → 16 ≤ target → target ≤ 63 ∨ target = 65 ∨ target = 66 → ∃ t u : State, exec (.canFilterSet h c k id mask ide target en) s = .next t ∧
      u.Done t 0x0903 h .ok [] ∧ u.rd (F.CAN_FLT_ID_ID c k) = id ∧ u.isOn (F.CAN_FLT_ID_IDE c k) = ide ∧ u.isOn (F.CAN_FLT_ID_EN c k) = en ∧
      u.rd (F.CAN_FLT_MASK_MASK c k) = mask ∧ u.rd (F.CAN_FLT_TGT_TARGET c k) = target ∧
      s.SameRegs u [(F.CAN_FLT_ID_ID c k).key, (F.CAN_FLT_ID_IDE c k).key, (F.CAN_FLT_ID_EN c k).key, (F.CAN_FLT_MASK_MASK c k).key,
        (F.CAN_FLT_TGT_TARGET c k).key]) ∧
  (∀ (s : State) (h : Hdr) (c n dir id fmt : Nat) (r : Option Nat), s.Allowed 0x0904 rOperator h → c < 2 → 16 ≤ n → n ≤ 63 → dir ≤ 3 → id < 2 ^ 31 →
    fmt < 128 → (∀ x, r = some x → x ≤ 255) →
    (s.isOn (F.CAN_MB_CTRL_REQ c n) = true → exec (.canMbSet h c n dir id fmt r) s = .next (s.refuseCmd 0x0904 rOperator h .busy)) ∧
    (s.isOn (F.CAN_MB_CTRL_REQ c n) = false → ∃ t u : State, exec (.canMbSet h c n dir id fmt r) s = .next t ∧ u.Done t 0x0904 h .ok [] ∧
      u.rd (F.CAN_MB_CTRL_DIR c n) = (if dir = 3 then 0 else dir) ∧ u.rd (F.CAN_MB_CTRL_NEW c n) = 0 ∧ u.rd (F.CAN_MB_ID_ID c n) = id % 2 ^ 29 ∧
      u.rd (F.CAN_MB_ID_IDE c n) = id / 2 ^ 29 % 2 ∧ u.rd (F.CAN_MB_ID_RTR c n) = id / 2 ^ 30 ∧ u.rd (F.CAN_MB_FMT_DLC c n) = fmt % 16 ∧
      u.rd (F.CAN_MB_FMT_FDF c n) = fmt / 16 % 2 ∧ u.rd (F.CAN_MB_FMT_BRS c n) = fmt / 32 % 2 ∧ u.rd (F.CAN_MB_FMT_ESI c n) = fmt / 64 ∧
      u.rd (F.CAN_MB_FMT_RETRY c n) = (match r with | some x => x | none => s.rd (F.CAN_CFG_RETRY_DEF c) % 256))) ∧
  (∀ (s : State) (h : Hdr) (c n : Nat) (timed : Option Nat) (data : List Byte), s.Allowed 0x0905 rOperator h → c < 2 → 16 ≤ n → n ≤ 63 →
    s.isOn (F.CAN_CFG_LISTEN_ONLY c) = false → s.rd (F.CAN_MB_CTRL_DIR c n) = 2 →
    (s.isOn (F.CAN_MB_FMT_FDF c n) = true → s.isOn (F.CAN_CFG_FD_EN c) = true) →
    (s.isOn (F.CAN_MB_ID_RTR c n) = false → dlcLen (s.isOn (F.CAN_MB_FMT_FDF c n)) (s.rd (F.CAN_MB_FMT_DLC c n)) ≤ data.length) → (∀ x, timed = some x → x < 2 ^ 64) →
    (s.isOn (F.CAN_MB_CTRL_REQ c n) = true → exec (.canTx h c n timed data) s = .next (s.refuseCmd 0x0905 rOperator h .busy)) ∧
    (s.isOn (F.CAN_MB_CTRL_REQ c n) = false →
      ((∀ x, timed = some x → x ≤ s.now) → s.canOn c = true → ∃ t u : State, exec (.canTx h c n timed data) s = .next t ∧
        u.Accepted t 0x0905 h (64 * c + n) [] ∧ u.canPend c n = true ∧ u.isOn (F.CAN_MB_CTRL_REQ c n) = true ∧
        (∀ w, w < 16 → u.rd (F.CAN_MB_DATA_VALUE c n w) = ofLe (slice data (4 * w) 4) % 2 ^ 32)) ∧
      ((∀ x, timed = some x → x ≤ s.now) → s.canOn c = false → ∃ t u : State, exec (.canTx h c n timed data) s = .next t ∧
        u.Done t 0x0905 h .aborted [] ∧ u.canPend c n = false ∧ u.rd (F.CAN_MB_CTRL_STATUS c n) = 0x20) ∧
      (∀ x, timed = some x → s.now < x → ∃ t u : State, exec (.canTx h c n timed data) s = .next t ∧ u.Accepted t 0x0905 h (64 * c + n) [] ∧
        u.canPend c n = s.canPend c n ∧ u.isOn (F.CAN_MB_CTRL_REQ c n) = true ∧ u.isOn (F.CAN_MB_CTRL_TIMED c n) = true ∧
        u.rd64 (F.CAN_MB_TS_LO_VALUE c n) (F.CAN_MB_TS_HI_VALUE c n) = x))) ∧
  (∀ (s : State) (h : Hdr) (c n : Nat) (timed : Option Nat) (data : List Byte), s.Allowed 0x0905 rOperator h → c < 2 → 16 ≤ n → n ≤ 63 →
    s.isOn (F.CAN_CFG_LISTEN_ONLY c) = true ∨ s.rd (F.CAN_MB_CTRL_DIR c n) ≠ 2 ∨
      (s.isOn (F.CAN_MB_FMT_FDF c n) = true ∧ s.isOn (F.CAN_CFG_FD_EN c) = false) ∨
      (s.isOn (F.CAN_MB_ID_RTR c n) = false ∧ data.length < dlcLen (s.isOn (F.CAN_MB_FMT_FDF c n)) (s.rd (F.CAN_MB_FMT_DLC c n))) →
    exec (.canTx h c n timed data) s = .next (s.refuseCmd 0x0905 rOperator h .param)) ∧
  (∀ (s : State) (h : Hdr) (c n k : Nat), 2 ≤ c ∨ n < 16 ∨ 63 < n →
    (∀ (timed : Option Nat) (data : List Byte), s.Allowed 0x0905 rOperator h →
      exec (.canTx h c n timed data) s = .next (s.refuseCmd 0x0905 rOperator h .range)) ∧
    (∀ won, s.Allowed 0x0906 rOperator h → exec (.canCancel h c n won) s = .next (s.refuseCmd 0x0906 rOperator h .range)) ∧
    (s.Allowed 0x0907 rObserver h → 2 ≤ c ∨ n ≠ 65 → exec (.canRxRead h c n k) s = .next (s.refuseCmd 0x0907 rObserver h .range)) ∧
    (∀ (dir id fmt : Nat) (r : Option Nat), s.Allowed 0x0904 rOperator h → dir ≤ 3 → id < 2 ^ 31 → fmt < 128 →
      exec (.canMbSet h c n dir id fmt r) s = .next (s.refuseCmd 0x0904 rOperator h .range))) ∧
  (∀ (s : State) (h : Hdr) (c : Nat), 2 ≤ c →
    (s.Allowed 0x0901 rObserver h → exec (.canStatus h c) s = .next (s.refuseCmd 0x0901 rObserver h .range)) ∧
    (∀ cfg nbt dbt wake, s.Allowed 0x0902 rMaintainer h → exec (.canSetCfg h c cfg nbt dbt wake) s = .next (s.refuseCmd 0x0902 rMaintainer h .range)) ∧
    (s.Allowed 0x0908 rOperator h → exec (.canRecover h c) s = .next (s.refuseCmd 0x0908 rOperator h .range))) ∧
  (∀ (s : State) (h : Hdr) (c k id mask target : Nat) (ide en : Bool), s.Allowed 0x0903 rOperator h →
    2 ≤ c ∨ k < 8 ∨ 31 < k ∨ 2 ^ 29 ≤ id ∨ 2 ^ 29 ≤ mask ∨ target < 16 ∨ target = 64 ∨ 66 < target →
    exec (.canFilterSet h c k id mask ide target en) s = .next (s.refuseCmd 0x0903 rOperator h .range)) ∧
  (∀ (s : State) (h : Hdr) (c n : Nat) (won : Bool), s.Allowed 0x0906 rOperator h → c < 2 → 16 ≤ n → n ≤ 63 →
    (s.canPend c n = false → ∃ t, exec (.canCancel h c n won) s = .next t ∧ s.Done t 0x0906 h .ok []) ∧
    (s.canPend c n = true → ∃ t u : State, exec (.canCancel h c n won) s = .next t ∧ u.Done t 0x0906 h .ok [] ∧
      (won = true → u.canPend c n = true ∧ u.isOn (F.CAN_MB_CTRL_CANCEL c n) = true) ∧
      (won = false → (s.canBus c).again.contains n = false → u.canPend c n = false ∧ u.rd (F.CAN_MB_CTRL_STATUS c n) = 0x20))) ∧
  (∀ (s : State) (h : Hdr) (c n k : Nat), s.Allowed 0x0907 rObserver h → c < 2 → 16 ≤ n → n ≤ 63 → 1 ≤ k → k ≤ 32 →
    (s.rd (F.CAN_MB_CTRL_DIR c n) = 1 → s.isOn (F.CAN_MB_CTRL_NEW c n) = true → ∃ t u : State, exec (.canRxRead h c n k) s = .next t ∧
      u.AnsweredBulk t 0x0907 h (s.wordsFrom (F.CAN_MB_ID_ID c n).addr 20) ∧ u.isOn (F.CAN_MB_CTRL_NEW c n) = false ∧
      u.isOn (F.CAN_MB_CTRL_LOCKED c n) = false) ∧
    (s.isOn (F.CAN_MB_CTRL_NEW c n) = false → ∃ t, exec (.canRxRead h c n k) s = .next t ∧ s.Done t 0x0907 h .ok [])) ∧
  (∀ (s : State) (h : Hdr) (c k : Nat), s.Allowed 0x0907 rObserver h → c < 2 → 1 ≤ k → k ≤ 32 →
    ((s.canBus c).fifo1 = [] → ∃ t, exec (.canRxRead h c 65 k) s = .next t ∧ s.Done t 0x0907 h .ok []) ∧
    ((s.canBus c).fifo1 ≠ [] → ∃ t u : State, exec (.canRxRead h c 65 k) s = .next t ∧ (u.canBus c).fifo1 = (s.canBus c).fifo1.drop k ∧
      u.AnsweredBulk t 0x0907 h ((((s.canBus c).fifo1.take k).flatMap frameWords).map fun w => (w : Int)))) ∧
  (∀ (s : State) (h : Hdr) (c : Nat), s.Allowed 0x0908 rOperator h → c < 2 →
    (s.rd (F.CAN_STATUS_STATE c) = canOFF → ∃ t u : State, exec (.canRecover h c) s = .next t ∧ u.Done t 0x0908 h .ok [] ∧
      u.rd (F.CAN_STATUS_STATE c) = canRECOVER) ∧
    (s.rd (F.CAN_STATUS_STATE c) ≠ canOFF → ∃ t, exec (.canRecover h c) s = .next t ∧ s.Done t 0x0908 h .ok []))

/-- Buffers, FIFOs and their registers. (Readings of the model: assumption log 115, 116, 117, 198.) -/
def Obligations.CanBuffersAndFifos : Prop :=
  (∀ (s : State) (c n : Nat) (x : CanFrame), s.filterOf c x (numbersFrom 0 32) = some n → n < 64 → s.isOn (F.CAN_MB_CTRL_LOCKED c n) = false) ∧
  (∀ (s : State) (c : Nat) (f : CanFrame), s.canOn c = false → exec (.canFrameReceived c f) s = .next s) ∧
  (∀ (s : State) (c : Nat) (f : CanFrame), c < 2 → s.canOn c = true → f.fdf = true → s.isOn (F.CAN_CFG_FD_EN c) = false →
    (s.isOn (F.CAN_CFG_PXE c) = true → ∃ t, exec (.canFrameReceived c f) s = .next t ∧ t.rd (Fl.CAN_EVENT_PROT_EXC c).bit = 1 ∧ t.can = s.can) ∧
    (s.isOn (F.CAN_CFG_PXE c) = false → ∃ t, exec (.canFrameReceived c f) s = .next t ∧ t.rd (F.CAN_STATUS_LEC c) = 2 ∧
      (t.canBus c).fifo0 = (s.canBus c).fifo0 ∧ (t.canBus c).fifo1 = (s.canBus c).fifo1)) ∧
  (∀ (s : State) (c : Nat) (f : CanFrame), c < 2 → s.canOn c = true → f.fdf = false ∨ s.isOn (F.CAN_CFG_FD_EN c) = true →
    let x := { f with data := (f.data ++ List.replicate 64 0).take (dlcLen f.fdf f.dlc) }
    (s.filterOf c f (numbersFrom 0 32) = some 64 ∨ (s.filterOf c f (numbersFrom 0 32) = none ∧ s.rd (F.CAN_CFG_DEFAULT_TGT c) = 1) → ∃ t, exec (.canFrameReceived c f) s = .next t ∧ (t.canBus c).fifo1 = (s.canBus c).fifo1 ∧
      ((s.canBus c).fifo0.length < 32 → (t.canBus c).fifo0 = (s.canBus c).fifo0 ++ [x]) ∧
      (32 ≤ (s.canBus c).fifo0.length → (t.canBus c).fifo0 = (s.canBus c).fifo0 ∧ t.rd (Fl.CAN_EVENT_RX_OVR0 c).bit = 1)) ∧
    (s.filterOf c f (numbersFrom 0 32) = some 65 ∨ (s.filterOf c f (numbersFrom 0 32) = none ∧ s.rd (F.CAN_CFG_DEFAULT_TGT c) = 2) → ∃ t, exec (.canFrameReceived c f) s = .next t ∧ (t.canBus c).fifo0 = (s.canBus c).fifo0 ∧
      ((s.canBus c).fifo1.length < 32 → (t.canBus c).fifo1 = (s.canBus c).fifo1 ++ [x]) ∧
      (32 ≤ (s.canBus c).fifo1.length → (t.canBus c).fifo1 = (s.canBus c).fifo1 ∧ t.rd (Fl.CAN_EVENT_RX_OVR1 c).bit = 1)) ∧
    ((s.filterOf c f (numbersFrom 0 32) = none ∧ s.rd (F.CAN_CFG_DEFAULT_TGT c) ≠ 1 ∧ s.rd (F.CAN_CFG_DEFAULT_TGT c) ≠ 2) ∨
        (∃ n, s.filterOf c f (numbersFrom 0 32) = some n ∧ n < 64 ∧ s.rd (F.CAN_MB_CTRL_DIR c n) ≠ 1) →
      ∃ t, exec (.canFrameReceived c f) s = .next t ∧ t.rd (Fl.CAN_EVENT_RX_LOST c).bit = 1 ∧
        (t.canBus c).fifo0 = (s.canBus c).fifo0 ∧ (t.canBus c).fifo1 = (s.canBus c).fifo1) ∧
    (∀ n, s.filterOf c f (numbersFrom 0 32) = some n → 66 ≤ n → ∃ t, exec (.canFrameReceived c f) s = .next t ∧
      t.rd (Fl.CAN_EVENT_RX_LOST c).bit = s.rd (Fl.CAN_EVENT_RX_LOST c).bit ∧
      (t.canBus c).fifo0 = (s.canBus c).fifo0 ∧ (t.canBus c).fifo1 = (s.canBus c).fifo1) ∧
    (s.isOn (F.CAN_CFG_LISTEN_ONLY c) = false → ∃ t, exec (.canFrameReceived c f) s = .next t ∧ t.rd (F.CAN_STATUS_NO_PARTNER c) = 0 ∧
      (t.canBus c).tec = (s.canBus c).tec ∧
      ((s.canBus c).rcv ≤ 127 → (t.canBus c).rcv = (s.canBus c).rcv - 1) ∧
      (127 < (s.canBus c).rcv → 119 ≤ (t.canBus c).rcv ∧ (t.canBus c).rcv ≤ 127)) ∧
    (s.isOn (F.CAN_CFG_LISTEN_ONLY c) = true → ∃ t, exec (.canFrameReceived c f) s = .next t ∧ (t.canBus c).rcv = (s.canBus c).rcv ∧
      (t.canBus c).tec = (s.canBus c).tec)) ∧
  (∀ (s : State) (c n : Nat) (f : CanFrame), c < 2 → s.canOn c = true → f.fdf = false ∨ s.isOn (F.CAN_CFG_FD_EN c) = true →
    s.filterOf c f (numbersFrom 0 32) = some n → n < 64 → s.rd (F.CAN_MB_CTRL_DIR c n) = 1 → ∃ t, exec (.canFrameReceived c f) s = .next t ∧
      t.isOn (F.CAN_MB_CTRL_NEW c n) = true ∧ t.isOn (F.CAN_MB_CTRL_OVERWRITE c n) = s.isOn (F.CAN_MB_CTRL_NEW c n) ∧
      (t.canBus c).fifo0 = (s.canBus c).fifo0 ∧ (t.canBus c).fifo1 = (s.canBus c).fifo1) ∧
  (∀ (s : State) (c n : Nat), c < 2 → n < 64 → ∃ t, exec (.canMbIdRead c n) s = .next t ∧ t.lastRead = (s.readWord (F.CAN_MB_ID_ID c n).addr).1 ∧
    (s.rd (F.CAN_MB_CTRL_DIR c n) = 1 → s.isOn (F.CAN_MB_CTRL_NEW c n) = true → t.isOn (F.CAN_MB_CTRL_LOCKED c n) = true ∧
      s.SameRegs t [(F.CAN_MB_CTRL_LOCKED c n).key]) ∧
    (s.isOn (F.CAN_MB_CTRL_NEW c n) = false ∨ s.rd (F.CAN_MB_CTRL_DIR c n) ≠ 1 → t.regs = s.regs)) ∧
  (∀ (s : State) (c f : Nat), c < 2 → f < 2 → s.isOn (F.CAN_FIFO_CTRL_NEW c f) = true → ∃ t, exec (.canMbIdRead c (64 + f)) s = .next t ∧
    t.isOn (F.CAN_FIFO_CTRL_LOCKED c f) = true ∧ t.can = s.can) ∧
  (∀ (s : State) (c n : Nat), c < 2 → n < 64 → s.rd (F.CAN_MB_CTRL_DIR c n) = 1 → ∃ t, exec (.canMbLastWordRead c n) s = .next t ∧
    t.isOn (F.CAN_MB_CTRL_LOCKED c n) = false ∧ t.isOn (F.CAN_MB_CTRL_NEW c n) = false ∧ t.lastRead = (s.readWord (s.canLastAddr c n)).1 ∧
    s.SameRegs t [(F.CAN_MB_CTRL_LOCKED c n).key, (F.CAN_MB_CTRL_NEW c n).key]) ∧
  (∀ (s : State) (c : Nat), c < 2 →
    (∃ t, exec (.canFifoHeadRead c 0) s = .next t ∧ (t.canBus c).fifo0 = (s.canBus c).fifo0.drop 1 ∧ (t.canBus c).fifo1 = (s.canBus c).fifo1) ∧
    (∃ t, exec (.canFifoHeadRead c 1) s = .next t ∧ (t.canBus c).fifo1 = (s.canBus c).fifo1.drop 1 ∧ (t.canBus c).fifo0 = (s.canBus c).fifo0)) ∧
  (∀ (s : State) (c n : Nat) (meet : Bool), c < 2 → n < 64 →
    (s.isOn (F.CAN_MB_CTRL_REQ c n) = true → meet = true → (s.canBus c).again.contains n = false → ∃ t, exec (.req c n meet) s = .next t ∧
      (t.canBus c).again = (s.canBus c).again ++ [n] ∧ t.regs = s.regs) ∧
    (s.isOn (F.CAN_MB_CTRL_REQ c n) = true → meet = false → exec (.req c n meet) s = .next s) ∧
    (s.rd (F.CAN_MB_CTRL_DIR c n) ≠ 2 → s.isOn (F.CAN_MB_CTRL_REQ c n) = false → exec (.req c n meet) s = .next s) ∧
    (s.rd (F.CAN_MB_CTRL_DIR c n) = 2 → s.isOn (F.CAN_MB_CTRL_REQ c n) = false →
      s.isOn (F.CAN_CFG_LISTEN_ONLY c) = true ∨ (s.isOn (F.CAN_MB_FMT_FDF c n) = true ∧ s.isOn (F.CAN_CFG_FD_EN c) = false) →
      ∃ t, exec (.req c n meet) s = .next t ∧ t.rd (F.CAN_MB_CTRL_STATUS c n) = 0x12 ∧ s.SameRegs t [(F.CAN_MB_CTRL_STATUS c n).key]) ∧
    (s.rd (F.CAN_MB_CTRL_DIR c n) = 2 → s.isOn (F.CAN_MB_CTRL_REQ c n) = false → s.isOn (F.CAN_CFG_LISTEN_ONLY c) = false →
      s.isOn (F.CAN_MB_FMT_FDF c n) = false ∨ s.isOn (F.CAN_CFG_FD_EN c) = true →
      (s.isOn (F.CAN_MB_CTRL_TIMED c n) = true → s.now < s.rd64 (F.CAN_MB_TS_LO_VALUE c n) (F.CAN_MB_TS_HI_VALUE c n) →
        ∃ t, exec (.req c n meet) s = .next t ∧ t.canPend c n = s.canPend c n ∧ t.isOn (F.CAN_MB_CTRL_REQ c n) = true ∧ t.hrt = s.hrt) ∧
      (s.isOn (F.CAN_MB_CTRL_TIMED c n) = false ∨ s.rd64 (F.CAN_MB_TS_LO_VALUE c n) (F.CAN_MB_TS_HI_VALUE c n) ≤ s.now →
        (s.canOn c = true → ∃ t, exec (.req c n meet) s = .next t ∧ t.canPend c n = true ∧ t.isOn (F.CAN_MB_CTRL_REQ c n) = true ∧ t.hrt = s.hrt) ∧
        (s.canOn c = false → ∃ t, exec (.req c n meet) s = .next t ∧ t.canPend c n = false ∧ t.rd (F.CAN_MB_CTRL_STATUS c n) = 0x20 ∧
          t.isOn (F.CAN_MB_CTRL_REQ c n) = false)))) ∧
  (∀ (s : State) (c n : Nat) (b : Bool), 2 ≤ c ∨ 64 ≤ n → exec (.req c n b) s = .next s ∧ exec (.cancel c n b) s = .next s ∧
    exec (.canMbLastWordRead c n) s = .next s ∧ (2 ≤ c ∨ 66 ≤ n → exec (.canMbIdRead c n) s = .next s) ∧
    exec (.canFifoHeadRead c n) s = .next s) ∧
  (∀ (s : State) (c n : Nat) (won : Bool), c < 2 → n < 64 →
    (s.canPend c n = false → exec (.cancel c n won) s = .next s) ∧
    (s.canPend c n = true → won = true → ∃ t, exec (.cancel c n won) s = .next t ∧ t.isOn (F.CAN_MB_CTRL_CANCEL c n) = true ∧ t.canPend c n = true) ∧
    (s.canPend c n = true → won = false → c = 1 ∨ n ≠ mbSETPOINT → (s.canBus c).again.contains n = false →
      ∃ t, exec (.cancel c n won) s = .next t ∧ t.rd (F.CAN_MB_CTRL_STATUS c n) = 0x20 ∧ t.canPend c n = false ∧
        t.isOn (F.CAN_MB_CTRL_REQ c n) = false) ∧
    (s.canPend c n = true → won = false → c = 1 ∨ n ≠ mbSETPOINT → (s.canBus c).again.contains n = true → s.canOn c = true →
      s.rd (F.CAN_MB_CTRL_DIR c n) = 2 → s.isOn (F.CAN_CFG_LISTEN_ONLY c) = false → s.isOn (F.CAN_MB_FMT_FDF c n) = false →
      s.isOn (F.CAN_MB_CTRL_TIMED c n) = false → ∃ t, exec (.cancel c n won) s = .next t ∧ t.rd (F.CAN_MB_CTRL_STATUS c n) = 0x20 ∧
        t.canPend c n = true ∧ t.isOn (F.CAN_MB_CTRL_REQ c n) = true ∧ (t.canBus c).again.contains n = false))

/-- Attempts, counters and the states of a controller. (Readings of the model: assumption log 14, 115.) -/
def Obligations.CanFaultConfinement : Prop :=
  (∀ (s : State) (c n : Nat), c < 2 → n < 64 → s.isOn (F.CAN_MB_CTRL_REQ c n) = true → s.isOn (F.CAN_MB_CTRL_TIMED c n) = true → s.canPend c n = false →
    ∃ t, exec (.canTimedRelease c n) s = .next t ∧ t.canPend c n = s.canOn c ∧ (s.canOn c = false → t.rd (F.CAN_MB_CTRL_STATUS c n) = 0x20)) ∧
  (∀ (s : State) (c n : Nat), 2 ≤ c ∨ 64 ≤ n ∨ s.isOn (F.CAN_MB_CTRL_REQ c n) = false ∨ s.isOn (F.CAN_MB_CTRL_TIMED c n) = false ∨
    s.canPend c n = true → exec (.canTimedRelease c n) s = .next s) ∧
  (∀ (s : State) (c n : Nat) (x : Option CanSent), 2 ≤ c ∨ 64 ≤ n ∨ s.canPend c n = false → exec (.canTxComplete c n x) s = .next s) ∧
  (∀ (s : State) (c n sof : Nat) (late : List Nat), s.canOn c = false ∨ s.canFirst c n late = false →
    exec (.canTxComplete c n (some ⟨sof, late⟩)) s = .next s) ∧
  (∀ (s : State) (c n sof : Nat) (late : List Nat), c < 2 → n < 64 → c = 1 ∨ n ≠ mbSETPOINT → s.canPend c n = true → s.canOn c = true →
    s.canFirst c n late = true → s.isOn (F.CAN_CFG_LISTEN_ONLY c) = false → (s.canBus c).again.contains n = false →
    ∃ t, exec (.canTxComplete c n (some ⟨sof, late⟩)) s = .next t ∧ t.rd (F.CAN_MB_CTRL_STATUS c n) = 0 ∧ t.canPend c n = false ∧
      t.rd64 (F.CAN_MB_TS_LO_VALUE c n) (F.CAN_MB_TS_HI_VALUE c n) = sof % 2 ^ 64 ∧ t.rd (F.CAN_STATUS_NO_PARTNER c) = 0 ∧
      t.isOn (F.CAN_MB_CTRL_CANCEL_LATE c n) = decide (s.rd (F.CAN_MB_CTRL_CANCEL c n) % 2 = 1) ∧ t.rd (F.CAN_MB_CTRL_CANCEL c n) = 0 ∧
      t.rd (F.CAN_MB_CTRL_ATTEMPTS c n) = min 255 (Tbl.get 0 (s.canBus c).tries n + 1) ∧ (t.canBus c).tec = (s.canBus c).tec - 1) ∧
  (∀ (s : State) (c n : Nat), c < 2 → n < 64 → c = 1 ∨ n ≠ mbSETPOINT → s.canPend c n = true → (s.canBus c).again.contains n = false →
    ∃ t, exec (.canTxComplete c n none) s = .next t ∧
    (s.isOn (F.CAN_MB_CTRL_CANCEL c n) = true → t.rd (F.CAN_MB_CTRL_STATUS c n) = 0x20 ∧ t.canPend c n = false) ∧
    (s.isOn (F.CAN_MB_CTRL_CANCEL c n) = false → s.rd (F.CAN_MB_FMT_RETRY c n) ≠ 0 → 1 + s.rd (F.CAN_MB_FMT_RETRY c n) ≤ Tbl.get 0 (s.canBus c).tries n →
      t.rd (F.CAN_MB_CTRL_STATUS c n) = (if Tbl.get 0 (s.canBus c).errs n = 3 then 0x22 else 0x20) ∧ t.canPend c n = false) ∧
    (s.isOn (F.CAN_MB_CTRL_CANCEL c n) = false → s.rd (F.CAN_MB_FMT_RETRY c n) = 0 ∨
      Tbl.get 0 (s.canBus c).tries n ≤ s.rd (F.CAN_MB_FMT_RETRY c n) → t = s)) ∧
  (∀ (s : State) (c n : Nat), c < 2 → s.canOn c = true → s.canPend c n = true → s.isOn (F.CAN_CFG_LISTEN_ONLY c) = false →
    ∃ t, exec (.canBusError c 3 (some n) false false false) s = .next t ∧ t.rd (F.CAN_STATUS_LEC c) = 3 ∧ (t.canBus c).acks = (s.canBus c).acks + 1 ∧
      (t.canBus c).tec = (if s.rd (F.CAN_STATUS_STATE c) = canPASSIVE then (s.canBus c).tec else (s.canBus c).tec + 8) ∧
      Tbl.get 0 (t.canBus c).tries n = Tbl.get 0 (s.canBus c).tries n + 1 ∧ Tbl.get 0 (t.canBus c).errs n = 3 ∧
      t.rd (F.CAN_STATUS_TEC c) = min 255 (t.canBus c).tec ∧
      t.rd (F.CAN_STATUS_STATE c) = (if 128 ≤ (t.canBus c).tec ∨ 128 ≤ (t.canBus c).rcv then canPASSIVE else canACTIVE) ∧
      t.rd (F.CAN_STATUS_WARN c) = (if 96 ≤ (t.canBus c).tec ∨ 96 ≤ (t.canBus c).rcv then 1 else 0) ∧
      ((s.canBus c).acks = 2 → t.isOn (F.CAN_STATUS_NO_PARTNER c) = true)) ∧
  (∀ (s : State) (c lec : Nat) (dom arb fl : Bool), c < 2 → s.canOn c = true → 1 ≤ lec → lec ≤ 6 → s.isOn (F.CAN_CFG_LISTEN_ONLY c) = false →
    ∃ t, exec (.canBusError c lec none dom arb fl) s = .next t ∧ (t.canBus c).tec = (s.canBus c).tec ∧ t.rd (F.CAN_STATUS_LEC c) = lec ∧
      (t.canBus c).rcv = (s.canBus c).rcv + (if fl then 8 else if dom then 9 else 1)) ∧
  (∀ (s : State) (c : Nat), c < 2 → s.rd (F.CAN_STATUS_STATE c) < 2 → 255 < (s.canBus c).tec → ∃ t, exec (.busOff c) s = .next t ∧
    t.rd (Fl.CAN_EVENT_BUS_OFF c).bit = 1 ∧
    (c = 1 → t.rd (F.CAN_STATUS_STATE c) = canOFF ∧ t.canOn c = false ∧ ∀ n, n < 64 → t.canPend c n = false)) ∧
  (∀ (s : State) (c lec : Nat) (tx : Option Nat) (dom arb fl : Bool), 2 ≤ c ∨ s.canOn c = false ∨ lec = 0 ∨ 6 < lec ∨
    (∃ n, tx = some n ∧ s.canPend c n = false) → exec (.canBusError c lec tx dom arb fl) s = .next s) ∧
  (∀ (s : State) (c : Nat), (s.canBus c).tec ≤ 255 ∨ 2 ≤ c ∨ 2 ≤ s.rd (F.CAN_STATUS_STATE c) → exec (.busOff c) s = .next s) ∧
  (∀ (s : State) (c : Nat), c < 2 →
    (s.rd (F.CAN_STATUS_STATE c) = canOFF → (∃ t, exec (.recover c) s = .next t ∧ t.rd (F.CAN_STATUS_STATE c) = canRECOVER) ∧
      (s.rd (F.CAN_CFG_RECOVER_MS c) ≠ 0 → s.pwr.ctl = true → ∃ t, exec (.canAutoRecover c) s = .next t ∧ t.rd (F.CAN_STATUS_STATE c) = canRECOVER)) ∧
    (s.rd (F.CAN_STATUS_STATE c) ≠ canOFF → exec (.recover c) s = .next s) ∧
    (s.rd (F.CAN_CFG_RECOVER_MS c) = 0 → exec (.canAutoRecover c) s = .next s)) ∧
  (∀ (s : State) (c : Nat), c < 2 → s.rd (F.CAN_STATUS_STATE c) = canRECOVER → ∃ t, exec (.canRecoveryDone c) s = .next t ∧
    t.rd (F.CAN_STATUS_STATE c) = canACTIVE ∧ (t.canBus c).tec = 0 ∧ (t.canBus c).rcv = 0 ∧ t.rd (F.CAN_STATUS_TEC c) = 0 ∧
    t.rd (F.CAN_STATUS_REC c) = 0 ∧ t.rd (F.CAN_STATUS_WARN c) = 0) ∧
  (∀ (s : State) (c : Nat), c < 2 → (s.canBus c).integrating = true → s.pwr.ctl = true → ∃ t, exec (.canIntegrated c) s = .next t ∧
    t.isOn (F.CAN_STATUS_INTEGRATED c) = true ∧ (t.canBus c).integrating = false ∧
    ∀ x, s.hrt.taken.find? (fun y => y.opcode == 0x0902) = some x → t.hrt.taken = s.hrt.taken.erase x) ∧
  (∀ (s : State) (c : Nat), (s.canBus c).integrating = false → exec (.canIntegrated c) s = .next s ∧ exec (.canIntegrateTimeout c) s = .next s) ∧
  (∀ (s : State) (c : Nat), c < 2 → (s.canBus c).integrating = true → ∃ t, exec (.canIntegrateTimeout c) s = .next t ∧
    t = s.waitEnd 0x0902 .timeout ∧ t.can = s.can ∧
    t.rd (F.CAN_STATUS_INTEGRATED c) = s.rd (F.CAN_STATUS_INTEGRATED c))

/-- The commands of R435. (Readings of the model: assumption log 107, 125, 144.) -/
def Obligations.SensorBusCommandsComplete : Prop :=
  (∀ (s : State) (h : Hdr) (c : Nat), s.Allowed 0x0A01 rObserver h → c < 2 → ∃ t, exec (.sbStatus h c) s = .next t ∧
    s.Told t 0x0A01 h (s.words ([0, 4, 8, 0xC, 0x10, 0x14, 0x20, 0x24, 0x28, 0x2C, 0x30].map fun o => sbBase c + o))) ∧
  (∀ (s : State) (h : Hdr) (c cfg tgt wake : Nat) (r : BusSense), s.Allowed 0x0A02 rMaintainer h → c < 2 → tgt < 65536 →
    tgtAddrOk (tgt % 128) = true → tgtAddrOk (tgt / 256 % 128) = true →
    let w := tgt + 65536 * s.rd (F.SB_TGT_RX_LEVEL c)
    (∀ p ∈ [(sbBase c, cfg), (sbBase c + 8, w), (sbBase c + 12, wake)], s.writeCheck p.1 p.2 = none) →
    (s.isOn (F.SB_STATUS_CLEARING c) = true → exec (.sbSetCfg h c cfg tgt wake r) s = .next (s.refuseCmd 0x0A02 rMaintainer h .busy)) ∧
    (s.isOn (F.SB_STATUS_CLEARING c) = false → s.isOn (F.SB_STATUS_BUS_BUSY c) = false → s.isOn (F.SB_STATUS_XFER_ACTIVE c) = false →
      ∃ t, exec (.sbSetCfg h c cfg tgt wake r) s = .next t ∧ (s.sbApply c [cfg, w, wake] r).Done t 0x0A02 h .ok []) ∧
    (s.isOn (F.SB_STATUS_CLEARING c) = false → s.isOn (F.SB_STATUS_BUS_BUSY c) = true ∨ s.isOn (F.SB_STATUS_XFER_ACTIVE c) = true →
      ∃ t, exec (.sbSetCfg h c cfg tgt wake r) s = .next t ∧
      t.regs = s.regs ∧ (t.sbBus c).cfg = some ([cfg, w, wake], r) ∧ (t.sbBus c).queue = (s.sbBus c).queue)) ∧
  (∀ (s : State) (h : Hdr) (c addr rd : Nat) (ten pec nr : Bool) (data : List Byte), s.Allowed 0x0A03 rOperator h → c < 2 → data.length ≤ 256 → rd ≤ 256 →
    (pec = true → s.isOn (F.SB_CFG_SMBUS c) = true) →
    (ten = true ∧ addr ≤ 1023 ∨ ten = false ∧ addr = 0 ∧ rd = 0 ∨
      ten = false ∧ 8 ≤ addr ∧ addr ≤ 0x77 ∧ addr ≠ s.rd (F.SB_TGT_ADDR c) ∧ addr ≠ s.rd (F.SB_TGT_ADDR2 c)) →
    ((s.sbBus c).queue.length < 16 → s.isOn (F.SB_CFG_ENABLE c) = true → s.isOn (F.SB_STATUS_BUS_FAULT c) = false → ∃ t u : State,
      exec (.sbXfer h c addr ten data rd pec nr) s = .next t ∧ u.Accepted t 0x0A03 h (2 * (s.sbBus c).next + c) [] ∧
      u.rd (F.SB_STATUS_QUEUED c) = (s.sbBus c).queue.length + 1 ∧ (u.sbBus c).next = (s.sbBus c).next + 1 ∧
      (u.sbBus c).queue = (s.sbBus c).queue ++ [{ key := 2 * (s.sbBus c).next + c, addr := addr, tenBit := ten, pec := pec, noRstart := nr,
                                                  wr := data, rd := rd }]) ∧
    (16 ≤ (s.sbBus c).queue.length ∨ s.isOn (F.SB_CFG_ENABLE c) = false ∨ s.isOn (F.SB_STATUS_BUS_FAULT c) = true →
      exec (.sbXfer h c addr ten data rd pec nr) s = .next (s.refuseCmd 0x0A03 rOperator h .noResource))) ∧
  (∀ (s : State) (h : Hdr) (c addr rd : Nat) (data : List Byte) (ten pec nr : Bool), s.Allowed 0x0A03 rOperator h → c < 2 →
    (ten = false ∧ addr ≠ 0 ∧ (addr = s.rd (F.SB_TGT_ADDR c) ∨ addr = s.rd (F.SB_TGT_ADDR2 c))) ∨ (ten = false ∧ addr = 0 ∧ rd ≠ 0) ∨
      (pec = true ∧ s.isOn (F.SB_CFG_SMBUS c) = false) →
    exec (.sbXfer h c addr ten data rd pec nr) s = .next (s.refuseCmd 0x0A03 rOperator h .param)) ∧
  (∀ (s : State) (h : Hdr) (c addr rd : Nat) (data : List Byte) (ten nr : Bool), s.Allowed 0x0A03 rOperator h →
    2 ≤ c ∨ ((256 < data.length ∨ 256 < rd) ∧ ten = true) ∨ (ten = true ∧ 1023 < addr) ∨
      (ten = false ∧ (0 < addr ∧ addr < 8 ∨ 0x77 < addr) ∧ addr ≠ s.rd (F.SB_TGT_ADDR c) ∧ addr ≠ s.rd (F.SB_TGT_ADDR2 c)) →
    exec (.sbXfer h c addr ten data rd false nr) s = .next (s.refuseCmd 0x0A03 rOperator h .range)) ∧
  (∀ (s : State) (h : Hdr) (c : Nat), 2 ≤ c →
    (s.Allowed 0x0A01 rObserver h → exec (.sbStatus h c) s = .next (s.refuseCmd 0x0A01 rObserver h .range)) ∧
    (∀ cfg tgt wake r, tgt < 65536 → s.Allowed 0x0A02 rMaintainer h →
      exec (.sbSetCfg h c cfg tgt wake r) s = .next (s.refuseCmd 0x0A02 rMaintainer h .range)) ∧
    (∀ image : List Byte, image.length = 256 → s.Allowed 0x0A04 rOperator h →
      exec (.sbTgtWrite h c image) s = .next (s.refuseCmd 0x0A04 rOperator h .range)) ∧
    (∀ k, s.Allowed 0x0A05 rObserver h → exec (.sbTgtRead h c k) s = .next (s.refuseCmd 0x0A05 rObserver h .range)) ∧
    (∀ mask r, s.Allowed 0x0A06 rMaintainer h → exec (.sbBranchRestore h c mask r) s = .next (s.refuseCmd 0x0A06 rMaintainer h .range)) ∧
    (∀ r, s.Allowed 0x0A07 rMaintainer h → exec (.sbBusReset h c r) s = .next (s.refuseCmd 0x0A07 rMaintainer h .range)) ∧
    exec (.sbTgtRxRead c) s = .next s) ∧
  (∀ (s : State) (h : Hdr) (c : Nat) (image : List Byte), s.Allowed 0x0A04 rOperator h → image.length ≠ 256 →
    exec (.sbTgtWrite h c image) s = .next (s.refuseCmd 0x0A04 rOperator h .param)) ∧
  (∀ (s : State) (h : Hdr) (c : Nat) (image : List Byte), s.Allowed 0x0A04 rOperator h → c < 2 → image.length = 256 → ∃ t u : State,
    exec (.sbTgtWrite h c image) s = .next t ∧ u.Done t 0x0A04 h .ok [] ∧
    (∀ w, w < 64 → u.rd (F.SB_TGT_IMAGE_BYTES c w) = ofLe (slice image (4 * w) 4) % 2 ^ 32) ∧ u.sb = s.sb) ∧
  (∀ (s : State) (h : Hdr) (c k : Nat), s.Allowed 0x0A05 rObserver h → c < 2 → 1 ≤ k → k ≤ 64 → ∃ t, exec (.sbTgtRead h c k) s = .next t ∧
    (t.sbBus c).fifo = (s.sbBus c).fifo.drop k ∧
    (s.sbFifo c ((s.sbBus c).fifo.drop k)).Told t 0x0A05 h (((s.sbBus c).fifo.take k).map fun w => (w : Int))) ∧
  (∀ (s : State) (h : Hdr) (c mask : Nat) (r : BusSense), s.Allowed 0x0A06 rMaintainer h → c < 2 → mask ≤ 15 →
    (s.isOn (F.SB_STATUS_CLEARING c) = true → exec (.sbBranchRestore h c mask r) s = .next (s.refuseCmd 0x0A06 rMaintainer h .busy)) ∧
    (s.isOn (F.SB_STATUS_CLEARING c) = false → ∃ t u : State, exec (.sbBranchRestore h c mask r) s = .next t ∧
      u.Done t 0x0A06 h .ok [((u.readWord (sbBase c + 0x10)).1 : Int)] ∧
      (busClear (s.rd (F.SB_BRANCH_ISOLATED c) - (s.rd (F.SB_BRANCH_ISOLATED c) &&& mask)) r = .free →
        u.rd (F.SB_BRANCH_ISOLATED c) = s.rd (F.SB_BRANCH_ISOLATED c) - (s.rd (F.SB_BRANCH_ISOLATED c) &&& mask) ∧
        u.isOn (F.SB_STATUS_SDA_IN c) = true ∧ (u.sbBus c).queue = (s.sbBus c).queue))) ∧
  (∀ (s : State) (h : Hdr) (c : Nat) (r : BusSense), s.Allowed 0x0A07 rMaintainer h → c < 2 → (s.sbBus c).cfg = none → ∃ t u : State,
    exec (.sbBusReset h c r) s = .next t ∧ u.Done t 0x0A07 h .ok [] ∧ u.rd (Fl.SB_EVENT_STRETCH_TO c).bit = 1 ∧
    u.isOn (F.SB_STATUS_BUS_BUSY c) = false ∧
    (busClear (s.rd (F.SB_BRANCH_ISOLATED c)) r = .fault → u.isOn (F.SB_STATUS_BUS_FAULT c) = true ∧ (u.sbBus c).queue = []) ∧
    (busClear (s.rd (F.SB_BRANCH_ISOLATED c)) r ≠ .fault → u.isOn (F.SB_STATUS_BUS_FAULT c) = false ∧
      (u.sbBus c).queue = if s.isOn (F.SB_STATUS_XFER_ACTIVE c) then (s.sbBus c).queue.drop 1 else (s.sbBus c).queue)) ∧
  (∀ (s : State) (c : Nat), c < 2 → ∃ t, exec (.sbTgtRxRead c) s = .next t ∧ t.lastRead = (s.readWord (F.SB_TGT_RX_DATA c).addr).1 ∧
    (t.sbBus c).fifo = (s.sbBus c).fifo.drop 1 ∧ t.rd (F.SB_TGT_RX_LEVEL c) = ((s.sbBus c).fifo.drop 1).length % 128 ∧
    t.rd (F.SB_TGT_RX_DATA c) = ((s.sbBus c).fifo.drop 1).headD 0 % 256)

/-- What the bus does. (Readings of the model: assumption log 14, 124, 126, 199.) -/
def Obligations.SensorBusTransfersFollowTheBus : Prop :=
  (∀ (s : State) (c ns : Nat) (stop : Bool), 2 ≤ c ∨ s.isOn (F.SB_STATUS_XFER_ACTIVE c) = true ∨ s.isOn (F.SB_STATUS_BUS_FAULT c) = true ∨
    s.busFree c stop ns = false → exec (.sbXferStart c stop ns) s = .next s) ∧
  (∀ (s : State) (c ns : Nat) (stop : Bool), c < 2 → s.isOn (F.SB_STATUS_XFER_ACTIVE c) = false → s.isOn (F.SB_STATUS_BUS_FAULT c) = false →
    s.busFree c stop ns = true → ∃ t, exec (.sbXferStart c stop ns) s = .next t ∧ (t.sbBus c).cfg = none ∧
      ((s.sbBus c).cfg = none → s.isOn (F.SB_CFG_ENABLE c) = true → ∀ x q, (s.sbBus c).queue = x :: q →
        (t.sbBus c).queue = { x with attempts := x.attempts + 1 } :: q ∧ (t.sbBus c).drove = x.drives ∧
        t.isOn (F.SB_STATUS_XFER_ACTIVE c) = true ∧ t.isOn (F.SB_STATUS_BUS_BUSY c) = true) ∧
      ((s.sbBus c).cfg = none → (s.sbBus c).queue = [] ∨ s.isOn (F.SB_CFG_ENABLE c) = false → t = s.wr (F.SB_STATUS_BUS_BUSY c) 0)) ∧
  (∀ (s : State) (c i b p : Nat) (n : Option Nat) (d : List Byte) (cond : Bool), 2 ≤ c ∨ s.isOn (F.SB_STATUS_XFER_ACTIVE c) = false →
    exec (.sbXferDone c n p d) s = .next s ∧ exec (.arbLost c i b cond) s = .next s) ∧
  (∀ (s : State) (c : Nat) (x : Xfer) (q : List Xfer) (nack : Option Nat) (pec : Byte) (data : List Byte) (o : Op), c < 2 →
    s.isOn (F.SB_STATUS_XFER_ACTIVE c) = true → (s.sbBus c).queue = x :: q → (s.sbBus c).cfg = none → s.opOf 0x0A03 x.key = some o →
    ∃ t, exec (.sbXferDone c nack pec data) s = .next t ∧ (t.sbBus c).queue = q ∧ t.isOn (F.SB_STATUS_XFER_ACTIVE c) = false ∧
      t.isOn (F.SB_STATUS_BUS_BUSY c) = false ∧ t.hrt.ops = s.hrt.ops.erase o ∧
      (s.isOn F.HRT_STATUS_RINGS_RUNNING = true → data.take x.rd = [] → ∃ e, t.handed = s.handed ++ [e] ∧ e.opcode = 0x0A03 ∧ e.tag = o.tag ∧ e.kind = 2 ∧
        (∀ i, nack = some i → e.status = .noAck ∧ e.result = [((i - 1 : Nat) : Int), 0, (i : Int), (x.attempts : Int), 0]) ∧
        (nack = none → e.status = (if x.pec = true ∧ x.rd ≠ 0 ∧ pec % 256 ≠ x.pecOf [] then .integrity else .ok) ∧
          e.result = [(x.wr.length : Int), 0, -1, (x.attempts : Int), 0])) ∧
      (s.isOn F.HRT_STATUS_RINGS_RUNNING = true → data.take x.rd ≠ [] →
        t.sent = s.sent ++ [(0x0A03, o.tag, (data.take x.rd).map fun b => (b : Int))])) ∧
  (∀ (s : State) (c byte bit : Nat) (cond : Bool) (x : Xfer) (q : List Xfer), c < 2 → s.isOn (F.SB_STATUS_XFER_ACTIVE c) = true →
    (s.sbBus c).queue = x :: q → ∃ t, exec (.arbLost c byte bit cond) s = .next t ∧ t.rd (F.SB_ARB_BYTE c) = min 255 byte ∧
      t.rd (F.SB_ARB_BIT c) = min 8 bit ∧ t.isOn (F.SB_STATUS_XFER_ACTIVE c) = false ∧
      (cond = true ∧ s.isOn (F.SB_CFG_ARB_COND c) = true → t.isOn (F.SB_ARB_CONDITION c) = true ∧ (t.sbBus c).queue = q ∧
        t.rd (Fl.SB_EVENT_ARB_LOST_CONDITION c).bit = 1) ∧
      (cond = false ∨ s.isOn (F.SB_CFG_ARB_COND c) = false → t.isOn (F.SB_ARB_CONDITION c) = false ∧ t.rd (Fl.SB_EVENT_ARB_LOST c).bit = 1 ∧
        (t.sbBus c).queue = (if 1 + s.rd (F.SB_CFG_RETRY c) ≤ x.attempts then q else x :: q))) ∧
  (∀ (s : State) (c : Nat), c < 2 → (s.isOn (F.SB_STATUS_XFER_ACTIVE c) = true → exec (.sbStartTimeout c) s = .next s) ∧
    (s.isOn (F.SB_STATUS_XFER_ACTIVE c) = false → ∃ t, exec (.sbStartTimeout c) s = .next t ∧ (t.sbBus c).queue = (s.sbBus c).queue.drop 1)) ∧
  (∀ (s : State) (c : Nat) (k : Stretch) (r : BusSense), 2 ≤ c ∨ s.isOn (F.SB_CFG_ENABLE c) = false → exec (.stretchTo c k r) s = .next s) ∧
  (∀ (s : State) (c us : Nat) (r : BusSense), c < 2 → s.isOn (F.SB_CFG_ENABLE c) = true → (s.sbBus c).cfg = none →
    (∀ k, k = .total us ∧ 25000 < us ∨ k = .byte us ∧ 10000 < us → s.isOn (F.SB_CFG_SMBUS c) = true → s.isOn (F.SB_STATUS_XFER_ACTIVE c) = true →
      ∃ t, exec (.stretchTo c k r) s = .next t ∧ (t.sbBus c).queue = (s.sbBus c).queue.drop 1 ∧
        t.rd (Fl.SB_EVENT_STRETCH_TO c).bit = s.rd (Fl.SB_EVENT_STRETCH_TO c).bit) ∧
    (∀ k, k = .total us ∨ k = .byte us → s.isOn (F.SB_CFG_SMBUS c) = false ∨ s.isOn (F.SB_STATUS_XFER_ACTIVE c) = false →
      exec (.stretchTo c k r) s = .next s) ∧
    (∀ k, k = .total us ∧ us ≤ 25000 ∨ k = .byte us ∧ us ≤ 10000 ∨ k = .held us ∧ us < s.stretchUs c → exec (.stretchTo c k r) s = .next s) ∧
    (s.stretchUs c ≤ us → ∃ t, exec (.stretchTo c (.held us) r) s = .next t ∧ t.rd (Fl.SB_EVENT_STRETCH_TO c).bit = 1 ∧
      t.isOn (F.SB_STATUS_TGT_ACTIVE c) = false ∧ t.rd (F.SB_CFG_RETRY c) = s.rd (F.SB_CFG_RETRY c) ∧
      (∀ w, w < 64 → t.rd (F.SB_TGT_IMAGE_BYTES c w) = s.rd (F.SB_TGT_IMAGE_BYTES c w)) ∧
      (∀ m scl, busClear (s.rd (F.SB_BRANCH_ISOLATED c)) r = .isolated m scl →
        t.rd (F.SB_BRANCH_ISOLATED c) = (s.rd (F.SB_BRANCH_ISOLATED c) ||| m) % 16 ∧
        t.rd (if scl then Fl.SB_EVENT_STUCK_SCL c else Fl.SB_EVENT_STUCK_SDA c).bit = 1) ∧
      (busClear (s.rd (F.SB_BRANCH_ISOLATED c)) r = .fault → t.isOn (F.SB_STATUS_BUS_FAULT c) = true ∧ (t.sbBus c).queue = [] ∧
        t.rd (F.SB_BRANCH_OPEN c) = 15) ∧
      (busClear (s.rd (F.SB_BRANCH_ISOLATED c)) r ≠ .fault →
        (t.sbBus c).queue = if s.isOn (F.SB_STATUS_XFER_ACTIVE c) then (s.sbBus c).queue.drop 1 else (s.sbBus c).queue))) ∧
  (∀ (s : State) (c addr rd : Nat) (bytes : List Byte), 2 ≤ c ∨ s.isOn (F.SB_CFG_ENABLE c) = false ∨ s.isOn (F.SB_CFG_TGT_EN c) = false ∨
    (addr ≠ 0 ∧ addr ≠ s.rd (F.SB_TGT_ADDR c) ∧ addr ≠ s.rd (F.SB_TGT_ADDR2 c)) ∨ (addr = 0 ∧ s.isOn (F.SB_CFG_GCALL_EN c) = false) →
    exec (.sbTargetAddressed c addr bytes rd) s = .next s) ∧
  (∀ (s : State) (c addr rd p b : Nat) (bs : List Byte), c < 2 → s.isOn (F.SB_CFG_ENABLE c) = true → s.isOn (F.SB_CFG_TGT_EN c) = true → addr ≠ 0 →
    addr = s.rd (F.SB_TGT_ADDR c) ∨ addr = s.rd (F.SB_TGT_ADDR2 c) →
    ((s.sbBus c).fifo.length + bs.length + 1 ≤ 64 → ∃ t, exec (.sbTargetAddressed c addr (p :: b :: bs) 0) s = .next t ∧ (t.sbBus c).ptr = p % 256 ∧
      (t.sbBus c).fifo = (s.sbBus c).fifo ++ (b % 256 + 768) :: bs.map (fun x => x % 256 + 256)) ∧
    (64 ≤ (s.sbBus c).fifo.length → ∃ t, exec (.sbTargetAddressed c addr (p :: b :: bs) 0) s = .next t ∧ (t.sbBus c).fifo = (s.sbBus c).fifo ∧
      t.rd (Fl.SB_EVENT_TGT_OVR c).bit = 1) ∧
    (0 < rd → ∃ t, exec (.sbTargetAddressed c addr [p] rd) s = .next t ∧ (t.sbBus c).ptr = (p % 256 + rd) % 256 ∧ (t.sbBus c).served.length = rd ∧
      (∀ i, i < rd → (t.sbBus c).served.getD i 0 =
        s.rd (F.SB_TGT_IMAGE_BYTES c ((p % 256 + i) % 256 / 4)) / 256 ^ ((p % 256 + i) % 256 % 4) % 256) ∧ t.regs = s.regs)) ∧
  (∀ (s : State) (c b : Nat), c < 2 → s.isOn (F.SB_CFG_ENABLE c) = true → s.isOn (F.SB_CFG_TGT_EN c) = true → s.isOn (F.SB_CFG_GCALL_EN c) = true →
    (s.sbBus c).fifo.length < 64 → ∃ t, exec (.sbTargetAddressed c 0 [b] 0) s = .next t ∧ (t.sbBus c).ptr = (s.sbBus c).ptr ∧
      (t.sbBus c).fifo = (s.sbBus c).fifo ++ [b % 256 + 1792])

/-- The exchange, its refusals and resets, for every mailbox and agent. (Readings of the model: assumption log 143, 180, 200.) -/
def Obligations.MailboxExchange : Prop :=
  (∀ (s : State) (a n w : Nat), n < 32 →
    (s.mbxEnabled n = true → a = s.mbxSender n → s.mbxState n = mbEMPTY → s.mbx.inReset / 2 ^ s.mbxReceiver n % 2 = 0 →
      ∃ t, exec (.mbxDataWrite a n w) s = .next t ∧ t.mbxState n = mbFULL ∧ t.isOn (F.MBX_CTRL_FULL n) = true ∧ t.rd (F.MBX_DATA_WORD n) = w % 2 ^ 32 ∧
        t.rd (F.MBX_CTRL_SENDER n) = a % 16 ∧ t.rd (F.MBX_ACK_CODE n) = 0 ∧ t.rd (F.MBX_ACK_DONE n) = 0 ∧
        t.rd (F.MBX_RX_PEND_BITS (s.mbxReceiver n)) = (s.rd (F.MBX_RX_PEND_BITS (s.mbxReceiver n)) ||| 2 ^ n) % 2 ^ 32 ∧
        (∀ m, m < 32 → m ≠ n → t.mbxState m = s.mbxState m ∧ t.rd (F.MBX_DATA_WORD m) = s.rd (F.MBX_DATA_WORD m))) ∧
    (s.mbxEnabled n = true → a = s.mbxSender n → s.mbxState n = mbEMPTY → s.mbx.inReset / 2 ^ s.mbxReceiver n % 2 = 1 →
      ∃ t, exec (.mbxDataWrite a n w) s = .next t ∧ t.mbxState n = mbABORTED ∧ t.rd (F.MBX_ACK_CODE n) = 0x20 ∧ t.rd (F.MBX_ACK_DONE n) = 1 ∧
        t.rd (F.MBX_DATA_WORD n) = 0 ∧ t.rd Fl.MBX_EVENT_ABORT.bit = 1) ∧
    (s.mbxEnabled n = false ∨ a ≠ s.mbxSender n ∨ s.mbxState n ≠ mbEMPTY → ∃ t, exec (.mbxDataWrite a n w) s = .next t ∧
      t.rd Fl.MBX_EVENT_REFUSED.bit = 1 ∧ t.rd F.MBX_ERR_INFO_AGENT = a % 16 ∧ t.rd F.MBX_ERR_INFO_MAILBOX = n ∧ t.rd F.MBX_ERR_INFO_REG = 0 ∧
      (∀ m, m < 32 → t.mbxState m = s.mbxState m ∧ t.rd (F.MBX_DATA_WORD m) = s.rd (F.MBX_DATA_WORD m)))) ∧
  (∀ (s : State) (a n : Nat), n < 32 →
    (a = s.mbxReceiver n → s.mbxEnabled n = true → s.mbxState n = mbFULL → ∃ t, exec (.mbxDataRead a n) s = .next t ∧ t.mbxState n = mbTAKEN ∧
      t.lastRead = s.rd (F.MBX_DATA_WORD n) ∧ t.rd (F.MBX_DATA_WORD n) = s.rd (F.MBX_DATA_WORD n) ∧
      (t.rd (F.MBX_RX_PEND_BITS a)).testBit n = false) ∧
    (a ≠ s.mbxReceiver n ∨ s.mbxEnabled n = false ∨ s.mbxState n ≠ mbFULL → ∃ t, exec (.mbxDataRead a n) s = .next t ∧ t = { s with lastRead := s.rd (F.MBX_DATA_WORD n) })) ∧
  (∀ (s : State) (a n : Nat) (code : Status), n < 32 →
    (s.mbxEnabled n = true → a = s.mbxReceiver n → s.mbxState n = mbFULL ∨ s.mbxState n = mbTAKEN → ∃ t, exec (.mbxAckWrite a n code) s = .next t ∧
      (t.rd (F.MBX_RX_PEND_BITS a)).testBit n = false ∧
      (s.isOn (F.MBX_CTRL_ORPHAN n) = false → t.mbxState n = mbACKED ∧ t.rd (F.MBX_ACK_CODE n) = code.code ∧ t.rd (F.MBX_ACK_DONE n) = 1) ∧
      (s.isOn (F.MBX_CTRL_ORPHAN n) = true → t.mbxState n = mbEMPTY ∧ t.rd (F.MBX_DATA_WORD n) = 0 ∧ t.isOn (F.MBX_CTRL_ORPHAN n) = false)) ∧
    (s.mbxEnabled n = false ∨ a ≠ s.mbxReceiver n ∨ (s.mbxState n ≠ mbFULL ∧ s.mbxState n ≠ mbTAKEN) → ∃ t, exec (.mbxAckWrite a n code) s = .next t ∧
      t.rd Fl.MBX_EVENT_REFUSED.bit = 1 ∧ t.rd F.MBX_ERR_INFO_AGENT = a % 16 ∧ t.rd F.MBX_ERR_INFO_MAILBOX = n ∧ t.rd F.MBX_ERR_INFO_REG = 1 ∧
      t.mbxState n = s.mbxState n ∧ t.rd (F.MBX_ACK_CODE n) = s.rd (F.MBX_ACK_CODE n))) ∧
  (∀ (s : State) (a n : Nat), n < 32 →
    (s.mbxEnabled n = true → a = s.mbxSender n → s.mbxState n = mbACKED ∨ s.mbxState n = mbABORTED → ∃ t, exec (.release a n) s = .next t ∧
      t.mbxState n = mbEMPTY ∧ t.isOn (F.MBX_CTRL_FULL n) = false ∧ t.rd (F.MBX_DATA_WORD n) = 0 ∧ t.rd (F.MBX_ACK_CODE n) = 0 ∧
      t.rd (F.MBX_ACK_DONE n) = 0) ∧
    (s.mbxEnabled n = true → a = s.mbxSender n → s.mbxState n ≠ mbACKED → s.mbxState n ≠ mbABORTED → exec (.release a n) s = .next s) ∧
    (s.mbxEnabled n = false ∨ a ≠ s.mbxSender n → ∃ t, exec (.release a n) s = .next t ∧ t.rd Fl.MBX_EVENT_REFUSED.bit = 1 ∧
      t.rd F.MBX_ERR_INFO_REG = 2 ∧ t.mbxState n = s.mbxState n)) ∧
  (∀ (s : State) (a : Nat) (held : Bool) (ack : Option (Nat × Status)), ∃ t, exec (.mbxReceiverReset a held ack) s = .next t ∧ (t.mbx.inReset / 2 ^ a % 2 = if held then 1 else 0) ∧
    ∀ n, n < 32 → (s.mbxReceiver n = a → s.mbxState n = mbFULL ∨ s.mbxState n = mbTAKEN → t.mbxState n = mbABORTED ∧ t.rd (F.MBX_ACK_CODE n) = 0x20 ∧
        t.rd (F.MBX_ACK_DONE n) = 1 ∧ t.rd (F.MBX_DATA_WORD n) = 0 ∧ t.rd Fl.MBX_EVENT_ABORT.bit = 1) ∧
      (s.mbxReceiver n ≠ a → t.mbxState n = s.mbxState n ∧ t.rd (F.MBX_DATA_WORD n) = s.rd (F.MBX_DATA_WORD n))) ∧
  (∀ (s : State) (a : Nat), ∃ t, exec (.mbxSenderReset a) s = .next t ∧ ∀ n, n < 32 →
    (s.mbxSender n = a → s.mbxState n = mbACKED → t.mbxState n = mbEMPTY) ∧
    (s.mbxSender n = a → s.mbxState n = mbFULL ∨ s.mbxState n = mbTAKEN → t.isOn (F.MBX_CTRL_ORPHAN n) = true ∧ t.mbxState n = s.mbxState n) ∧
    (s.mbxSender n ≠ a → t.mbxState n = s.mbxState n ∧ t.rd (F.MBX_CTRL_ORPHAN n) = s.rd (F.MBX_CTRL_ORPHAN n))) ∧
  (∀ (s : State) (a g bits : Nat), g < 16 →
    ((g = agSTFP → a = s.proxy) → (a = agSTFP → g = s.proxy) → s.agentOk g = true → s.agentOk a = true → ∃ t, exec (.mbxDoorbellSet a g bits) s = .next t ∧
      (∀ b, b < 32 → (t.rd (F.MBX_DB_PEND_BITS g)).testBit b = ((s.rd (F.MBX_DB_PEND_BITS g)).testBit b || bits.testBit b)) ∧ t.mbx = s.mbx) ∧
    ((g = agSTFP ∧ a ≠ s.proxy) ∨ (a = agSTFP ∧ g ≠ s.proxy) ∨ s.agentOk g = false ∨ s.agentOk a = false → ∃ t, exec (.mbxDoorbellSet a g bits) s = .next t ∧
      t.rd Fl.MBX_EVENT_REFUSED.bit = 1 ∧ t.rd F.MBX_ERR_INFO_AGENT = a % 16 ∧ t.rd F.MBX_ERR_INFO_MAILBOX = g ∧ t.rd F.MBX_ERR_INFO_REG = 3 ∧
      (∀ x, 1 ≤ x → x < 16 → t.rd (F.MBX_DB_PEND_BITS x) = s.rd (F.MBX_DB_PEND_BITS x)))) ∧
  (∀ (s : State) (p : Nat), (s.locked = true → exec (.lock p) s = .next s) ∧
    (s.locked = false → ∃ t, exec (.lock p) s = .next t ∧ t.locked = true ∧ t.proxy = p % 16 ∧ s.SameRegs t [F.MBX_LOCK_LOCK.key, F.MBX_LOCK_PROXY.key])) ∧
  (∀ (s : State) (a n w : Nat) (c : Status), 32 ≤ n → exec (.mbxDataWrite a n w) s = .next s ∧ exec (.mbxDataRead a n) s = .next s ∧
    exec (.mbxAckWrite a n c) s = .next s ∧ exec (.release a n) s = .next s) ∧
  (∀ (s : State) (w : List Byte) (cs : List Copy), cs.length < 4 ∨
    (∃ c ∈ cs.take 4, copySingle c ((w ++ List.replicate 32 0).take 32) = true) → exec (.bridgeDown w cs) s = .next s) ∧
  (∀ (s : State) (w : List Byte) (cs : List Copy), 4 ≤ cs.length → (∀ c ∈ cs.take 4, copySingle c ((w ++ List.replicate 32 0).take 32) = false) →
    ∃ t, exec (.bridgeDown w cs) s = .next t ∧ t.mbx.bridgeDown = true ∧ t.rd Fl.MBX_EVENT_BRIDGE_DOWN.bit = 1 ∧ t.bridgeUp = false) ∧
  (∀ s : State, (s.bridgeUp = false → exec .proxyHeartbeat s = .next s) ∧
    (s.bridgeUp = true → s.agentOk s.proxy = true → ∃ t, exec .proxyHeartbeat s = .next t ∧ (t.rd (F.MBX_DB_PEND_BITS agSTFP)).testBit 0 = true))

/-- Posting, writing and reading of records. (Readings of the model: assumption log 48, 128, 129, 130.) -/
def Obligations.RecordsAreKeptInOrder : Prop :=
  (∀ (s : State) (r : Rec), r.fromStfP = false → s.pwr.ctl = false → s.post r = s) ∧
  (∀ (s : State) (r : Rec), (s.pwr.ctl = true ∧ r.fromStfP = false) ∨ s.bridgeUp = true → ∃ q, (s.post r).recorder.queue = s.recorder.queue ++ [q] ∧
    q.kind = r.kind ∧ q.data = r.data ∧ q.status = r.status ∧ q.system = r.system ∧ q.milestone = r.milestone ∧ q.mode = s.mode ∧ q.tai = s.recTai ∧
    q.source = (if r.fromStfP then 8 else r.source) ∧
    (r.system = true → q.opMin = s.rd F.REC_OPTIME_VALUE ∧ q.cycles = s.rd F.REC_POWER_CYCLES_VALUE ∧
      (s.post r).rd F.REC_SEQ_LO_VALUE = (s.rd64 F.REC_SEQ_LO_VALUE F.REC_SEQ_HI_VALUE) % 2 ^ 32) ∧
    (r.system = false → q.seq = s.rd64 F.REC_SEQ_LO_VALUE F.REC_SEQ_HI_VALUE + 1 ∧
      (s.post r).rd64 F.REC_SEQ_LO_VALUE F.REC_SEQ_HI_VALUE = (s.rd64 F.REC_SEQ_LO_VALUE F.REC_SEQ_HI_VALUE + 1) % 2 ^ 64)) ∧
  (∀ (s : State) (r : Rec), r.fromStfP = true → s.bridgeUp = false → (s.post r).recorder.queue = s.recorder.queue ∧
    (s.recorder.stfpQ.length < 1024 → ∃ q, (s.post r).recorder.stfpQ = s.recorder.stfpQ ++ [q] ∧ q.data = r.data ∧
      (s.post r).recorder.omitted = s.recorder.omitted) ∧
    (1024 ≤ s.recorder.stfpQ.length → (s.post r).recorder.omitted = s.recorder.omitted + 1 ∧ ∃ q, q.data = r.data ∧
      (s.post r).recorder.stfpQ = s.recorder.stfpQ.take 512 ++ s.recorder.stfpQ.drop 513 ++ [q])) ∧
  (∀ s : State, s.pwr.ctl = false ∨ s.recorder.queue = [] → exec .recordPost s = .next s) ∧
  (∀ (s : State) (r : Rec) (q : List Rec), s.pwr.ctl = true → s.recorder.queue = r :: q → ∃ t, exec .recordPost s = .next t ∧
    t.recorder.queue = q ∧ t.lastAt s.head = (r.bytes (s.head / 30720 % 65536) true, true) ∧ t.head = (s.head + 1) % 2 ^ 32 ∧
    (t.recorder.first = s.recorder.first ∨ t.recorder.first = s.recorder.first ++ [r]) ∧
    (∀ p, p % 30720 ≠ s.head % 30720 → t.lastAt p = s.lastAt p)) ∧
  (∀ s : State, (s.pwr.ctl = false → exec .bridgeReturn s = .next s) ∧
    (s.pwr.ctl = true → ∃ t, exec .bridgeReturn s = .next t ∧ t.mbx.bridgeDown = false ∧ t.recorder.stfpQ = [] ∧
      t.recorder.queue.length = s.recorder.queue.length + s.recorder.stfpQ.length ∧
      (s.recorder.omitted = 0 → t.recorder.queue = s.recorder.queue ++ s.recorder.stfpQ) ∧
      (∀ r q, s.recorder.stfpQ = r :: q → s.recorder.omitted ≠ 0 → t.recorder.omitted = 0 ∧
        t.recorder.queue = s.recorder.queue ++ { r with data := padTo 32 r.data ++ leBytes 4 s.recorder.omitted } :: q))) ∧
  (∀ s : State, s.rd F.REC_CURSOR_POS_VALUE < 2 ^ 32 → s.head < 2 ^ 32 → ∃ t, exec .read s = .next t ∧ t.rd F.REC_CTRL_READ = 0 ∧
    (∀ r, s.isOn F.REC_CURSOR_AREA = false → s.recorder.first[s.rd F.REC_CURSOR_POS_VALUE]? = some r →
      t.rd F.REC_STATUS_RESULT = (if s.recorder.firstBad.contains (s.rd F.REC_CURSOR_POS_VALUE) then 2 else 0) ∧
      t.rd F.REC_CURSOR_POS_VALUE = (s.rd F.REC_CURSOR_POS_VALUE + 1) % 2 ^ 32 ∧ t.rd F.REC_WIN_POS_VALUE = s.rd F.REC_CURSOR_POS_VALUE ∧
      t.rd F.REC_WIN_GEN_VALUE = 0 ∧
      (∀ w, w < 16 → t.rd (F.REC_WIN_BYTES w) = ofLe (slice (r.bytes 0 true) (4 * w) 4) % 2 ^ 32)) ∧
    (s.isOn F.REC_CURSOR_AREA = false → s.recorder.first.length ≤ s.rd F.REC_CURSOR_POS_VALUE → t.rd F.REC_STATUS_RESULT = 1 ∧
      t.rd F.REC_CURSOR_POS_VALUE = s.rd F.REC_CURSOR_POS_VALUE ∧ t.rd F.REC_WIN_POS_VALUE = s.rd F.REC_WIN_POS_VALUE ∧
      (∀ w, w < 16 → t.rd (F.REC_WIN_BYTES w) = 0)) ∧
    (s.isOn F.REC_CURSOR_AREA = true → s.rd F.REC_CURSOR_POS_VALUE = s.head → t.rd F.REC_STATUS_RESULT = 1 ∧
      t.rd F.REC_CURSOR_POS_VALUE = s.head ∧ t.rd F.REC_WIN_POS_VALUE = s.rd F.REC_WIN_POS_VALUE ∧ (∀ w, w < 16 → t.rd (F.REC_WIN_BYTES w) = 0)) ∧
    (s.isOn F.REC_CURSOR_AREA = true → s.rd F.REC_CURSOR_POS_VALUE ≠ s.head → (s.head + 2 ^ 32 - s.rd F.REC_CURSOR_POS_VALUE) % 2 ^ 32 ≤ 30720 →
      t.rd F.REC_STATUS_RESULT = (if (s.lastAt (s.rd F.REC_CURSOR_POS_VALUE)).2 then 0 else 2) ∧
      t.rd F.REC_CURSOR_POS_VALUE = (s.rd F.REC_CURSOR_POS_VALUE + 1) % 2 ^ 32 ∧ t.rd F.REC_WIN_POS_VALUE = s.rd F.REC_CURSOR_POS_VALUE ∧
      t.rd F.REC_WIN_GEN_VALUE = s.rd F.REC_CURSOR_POS_VALUE / 30720 ∧
      (∀ w, w < 16 → t.rd (F.REC_WIN_BYTES w) = ofLe (slice (s.lastAt (s.rd F.REC_CURSOR_POS_VALUE)).1 (4 * w) 4) % 2 ^ 32)) ∧
    (s.isOn F.REC_CURSOR_AREA = true → 30720 < (s.head + 2 ^ 32 - s.rd F.REC_CURSOR_POS_VALUE) % 2 ^ 32 → t.rd Fl.REC_STATUS_OVERTAKEN.bit = 1 ∧
      t.rd F.REC_SKIPPED_VALUE = (s.head + 2 ^ 33 - 30720 - s.rd F.REC_CURSOR_POS_VALUE) % 2 ^ 32 ∧
      t.rd F.REC_WIN_POS_VALUE = (s.head + 2 ^ 32 - 30720) % 2 ^ 32 ∧ t.rd F.REC_CURSOR_POS_VALUE = (s.head + 2 ^ 32 - 30719) % 2 ^ 32)) ∧
  (∀ (s : State) (h : Hdr) (area pos k : Nat), s.Allowed 0x0B02 rObserver h → area ≤ 1 → 1 ≤ k → k ≤ 4096 → ∃ t,
    exec (.recRead h area pos k) s = .next t ∧ s.AnsweredBulk t 0x0B02 h ((s.recMany (area == 1) k pos).1.map fun b => (b : Int)) ∧
    (s.recMany (area == 1) k pos).1.length = 64 * (s.recMany (area == 1) k pos).2.1 ∧ (s.recMany (area == 1) k pos).2.1 ≤ k ∧
    (s.recMany (area == 1) k pos).2.2.length ≤ (s.recMany (area == 1) k pos).2.1 ∧
    (s.isOn F.HRT_STATUS_RINGS_RUNNING = true → ∃ x ∈ t.hrt.transferred ++ t.hrt.transfers, x.opcode = 0x0B02 ∧ x.tag = h.tag ∧
      x.completion.result = [((s.recRead (area == 1) pos).pos : Int), (s.recMany (area == 1) k pos).2.1,
        ((s.recRead (area == 1) pos).skipped.getD 0 : Nat)] ++ (s.recMany (area == 1) k pos).2.2.map fun p => (p : Int)) ∧
    (t.rd F.REC_CURSOR_POS_VALUE = s.rd F.REC_CURSOR_POS_VALUE ∧ t.rd F.REC_STATUS_RESULT = s.rd F.REC_STATUS_RESULT)) ∧
  (∀ (s : State) (h : Hdr) (area pos k : Nat), s.Allowed 0x0B02 rObserver h → 1 < area ∨ k = 0 ∨ 4096 < k →
    exec (.recRead h area pos k) s = .next (s.refuseCmd 0x0B02 rObserver h .range)) ∧
  (∀ (s : State) (h : Hdr), s.Allowed 0x0B01 rObserver h → ∃ t, exec (.recStatus h) s = .next t ∧ s.Told t 0x0B01 h
    (s.wordsFrom 0xF0000 14 ++ s.wordsFrom 0xF0040 16 ++ s.wordsFrom 0x120000 3 ++ s.wordsFrom 0x120010 3 ++ s.wordsFrom 0x120100 26 ++
      s.wordsFrom 0x120200 2)) ∧
  (∀ (s : State) (h : Hdr) (text : List Byte), s.Allowed 0x0B03 rOperator h → text.length = 32 → s.pwr.ctl = true → ∃ (t u : State) (r : Rec),
    exec (.recNote h text) s = .next t ∧ u.Done t 0x0B03 h .ok [] ∧ u.recorder.queue = s.recorder.queue ++ [r] ∧ r.kind = .detail ∧ r.system = false ∧
    r.data = text) ∧
  (∀ (s : State) (h : Hdr) (text : List Byte), s.Allowed 0x0B03 rOperator h →
    (text.length ≠ 32 → exec (.recNote h text) s = .next (s.refuseCmd 0x0B03 rOperator h .param)) ∧
    (text.length = 32 → s.pwr.ctl = false → ∃ t, exec (.recNote h text) s = .next t ∧ s.Done t 0x0B03 h .ok [])) ∧
  (∀ s : State, ∃ (t : State) (c : SysCounters), exec .sysCounterSave s = .next t ∧ t.rd F.REC_OPTIME_VALUE = (s.rd F.REC_OPTIME_VALUE + 1) % 2 ^ 32 ∧
    c.valid = true ∧ c.head = s.head ∧ c.opMin = (s.rd F.REC_OPTIME_VALUE + 1) % 2 ^ 32 ∧ s.recorder.counters0.gen < c.gen ∧
    s.recorder.counters1.gen < c.gen ∧
    (s.recorder.counters0.valid = true ∧ s.recorder.counters1.gen ≤ s.recorder.counters0.gen → t.recorder.counters1 = c ∧
      t.recorder.counters0 = s.recorder.counters0) ∧
    (s.recorder.counters0.valid = false ∨ s.recorder.counters0.gen < s.recorder.counters1.gen → t.recorder.counters0 = c ∧
      t.recorder.counters1 = s.recorder.counters1))

/-- UNDERCOAT and the cards. (Readings of the model: assumption log 55, 131, 132, 163, 179.) -/
def Obligations.UndercoatUsesSparesOnce : Prop :=
  (∀ (s : State) (m : MemRegion) (ws : List (List (Nat × Nat))) (e n : Nat) (two u f : Bool), scrubbed ws = (n, two, u) →
    ∃ t, exec (.scrub m ws f e) s = .next t ∧
    (∀ a, m = .sram a ∨ m = .dram a none → t.recorder.corrected = s.recorder.corrected + n ∧
      t.recorder.uncorrectable = s.recorder.uncorrectable + (if u then 1 else 0) ∧ s.SameRegs t recordKeys) ∧
    (∀ a g x, m = .dram a (some g) → u = true → s.hrt.transfers.find? (fun y => y.tag == g) = some x →
      t.hrt.transfers = s.hrt.transfers.erase x ∧
      (s.isOn F.HRT_STATUS_RINGS_RUNNING = true → ∃ c, t.handed = s.handed ++ [c] ∧ c.tag = x.completion.tag ∧ c.status = .integrity)) ∧
    (∀ p, m = .safety p → t = if u then ({ s with recorder.corrected := s.recorder.corrected + n } : State).raiseCause .safetyMemory 1
      else { s with recorder.corrected := s.recorder.corrected + n }) ∧
    (∀ a, m = .mram a → u = true →
      (a < 0x20000 → t.recorder.firstBad = s.recorder.firstBad ++ [a / 64] ∧ t.recorder.first = s.recorder.first) ∧
      (0x384540 ≤ a → a < 0x384580 → t.recorder.counters0.valid = false ∧ t.recorder.counters1 = s.recorder.counters1) ∧
      (0x384480 ≤ a → a < 0x3844C0 → t.upd.sw0.valid = false ∧ t.upd.sw1 = s.upd.sw1)) ∧
    (∀ a, m = .mram a → u = false → f = false →
      let life := Tbl.get 0 s.recorder.rowLife (a / 1024) + n
      (n < s.rd F.UC_CFG_MRAM_PASS → life < s.rd F.UC_CFG_MRAM_LIFE → t.recorder.reloc = s.recorder.reloc ∧ t.regs = s.regs) ∧
      (s.rd F.UC_CFG_MRAM_PASS ≤ n ∨ s.rd F.UC_CFG_MRAM_LIFE ≤ life → (2, 0, a / 1024) ∉ s.recorder.relocWait →
        (∀ r ∈ s.recorder.map, (r.pool, r.device, r.resource) ≠ (2, 0, a / 1024)) →
        (s.ctlBusy = true → (∀ r, s.recorder.reloc = some r → (r.pool, r.device, r.resource) ≠ (2, 0, a / 1024)) →
          t.recorder.relocWait = s.recorder.relocWait ++ [(2, 0, a / 1024)] ∧ t.recorder.reloc = s.recorder.reloc) ∧
        (s.ctlBusy = false → s.rd F.UC_SPARES_MRAM_ROWS = 0 → t.recorder.reloc = none ∧ ((2, 0) ∉ s.recorder.spent → t.poolOut 2 = true)) ∧
        (s.ctlBusy = false → s.rd F.UC_SPARES_MRAM_ROWS ≠ 0 → t.isOn F.UC_STATUS_RELOCATING = true ∧
          t.recorder.reloc = some { pool := 2, device := 0, resource := a / 1024, spare := 256 - s.rd F.UC_SPARES_MRAM_ROWS }))) ∧
    (∀ d b, m = .flash d b → u = false → s.ctlBusy = false → (3, d, b) ∉ s.recorder.relocWait →
      (∀ r ∈ s.recorder.map, (r.pool, r.device, r.resource) ≠ (3, d, b)) →
      (f = false → two = false → n ≤ s.rd F.UC_CFG_FLASH_PASS → e < 8000 → t.recorder.reloc = none) ∧
      (f = true ∨ two = true ∨ s.rd F.UC_CFG_FLASH_PASS < n ∨ 8000 ≤ e → s.rd (spareField 3 d) ≠ 0 → ∃ r, t.recorder.reloc = some r ∧
        r.pool = 3 ∧ r.device = d ∧ r.resource = b))) ∧
  (∀ (s : State) (c : Nat) (ws : List (List (Nat × Nat))), (scrubbed ws).2.2 = true →
    (∀ l, l = (s.recorder.coreErr.filter fun p => decide (s.time.count < p.2 + 21600000000000) && p.1 == c).length →
      ∃ t, exec (.scrub (.cache c) ws false 0) s = .next t ∧
      (l < 2 ∨ 2 < c → t.recorder.coreShadow = s.recorder.coreShadow ∧ t.recorder.relocWait = s.recorder.relocWait) ∧
      (2 ≤ l → c ≤ 2 → s.poolOut 1 = false → s.coreDue = false →
        (s.isOn F.UC_CFG_AUTO_CORE = true → (∀ r ∈ s.recorder.map, (r.pool, r.device, r.resource) ≠ (1, 0, c)) →
          (s.ctlBusy = false → t.recorder.coreShadow = some c ∧
            (s.rd F.UPD_STATUS_STATE = 5 → s.upd.step < 5 → t.rd F.UPD_STATUS_STATE = 4)) ∧
          (s.ctlBusy = true → (∀ r, s.recorder.reloc = some r → (r.pool, r.device, r.resource) ≠ (1, 0, c)) →
            t.recorder.coreShadow = none ∧ t.recorder.relocWait = s.recorder.relocWait ++ [(1, 0, c)])) ∧
        (s.isOn F.UC_CFG_AUTO_CORE = false → t.recorder.coreShadow = none ∧ t.rd Fl.UC_EVENT_NEEDED.bit = 1)))) ∧
  (∀ s : State, s.recorder.reloc = none → exec .relocated s = .next s) ∧
  (∀ (s : State) (r : Reloc), s.recorder.reloc = some r → r.pool = 2 → 1 ≤ s.rd F.UC_SPARES_MRAM_ROWS → s.rd F.UC_SPARES_MRAM_ROWS ≤ 256 →
    ∃ t, exec .relocated s = .next t ∧ t.rd F.UC_SPARES_MRAM_ROWS = s.rd F.UC_SPARES_MRAM_ROWS - 1 ∧ t.rd Fl.UC_EVENT_RELOCATED.bit = 1 ∧
      t.recorder.map = s.recorder.map ++ [{ pool := 2, device := r.device, resource := r.resource, spare := r.spare }] ∧
      Tbl.get 0 t.recorder.rowLife r.resource = Tbl.get 0 (Tbl.del s.recorder.rowLife r.resource) r.resource ∧
      (s.rd F.UC_SPARES_MRAM_ROWS = 1 → (2, 0) ∉ s.recorder.spent → t.poolOut 2 = true) ∧
      (s.recorder.relocWait = [] → t.recorder.reloc = none ∧ t.isOn F.UC_STATUS_RELOCATING = false) ∧
      (∀ a l, s.recorder.coreShadow = none → s.recorder.relocWait = (2, 0, a) :: l → s.rd F.UC_SPARES_MRAM_ROWS ≠ 1 → ∃ x,
        t.recorder.reloc = some x ∧ x.resource = a ∧ x.spare = 257 - s.rd F.UC_SPARES_MRAM_ROWS ∧ t.recorder.relocWait = l)) ∧
  (∀ (s : State) (r : Reloc) (d : Nat), s.recorder.reloc = some r → r.pool = 3 → r.device = d → d < 2 → 1 ≤ s.rd (spareField 3 d) →
    s.rd (spareField 3 d) ≤ 32 → s.recorder.relocWait = [] → ∃ t, exec .relocated s = .next t ∧ t.recorder.reloc = none ∧
      t.rd (spareField 3 d) = s.rd (spareField 3 d) - 1 ∧ t.rd (F.UC_FLASH_ERASE_RETIRED d) = (s.rd (F.UC_FLASH_ERASE_RETIRED d) + 1) % 65536 ∧
      (s.rd (spareField 3 d) = 1 → (3, d) ∉ s.recorder.spent → t.poolOut 3 = true)) ∧
  (∀ (s : State) (ag : Bool) (b : Boot), s.recorder.coreShadow = none → exec (.coreShadowEnd ag b) s = .next s) ∧
  (∀ (s : State) (c : Nat) (b : Boot), s.recorder.coreShadow = some c →
    (∀ ag, s.recorder.coreAgreed = true → exec (.coreShadowEnd ag b) s = .next s) ∧
    (s.recorder.coreAgreed = false → exec (.coreShadowEnd true b) s = .next { s with recorder.coreAgreed := true }) ∧
    (s.recorder.coreAgreed = false → ∃ t, exec (.coreShadowEnd false b) s = .next t ∧
      t = ((({ s with recorder.coreShadow := none } : State).sparing 1 3 c 3).finish 0x0B04 coreKey .internal).controllerReset 0 b) ∧
    (∀ x y z, ∃ t, exec (.plumbInstant x y z) s = .next t ∧
      (s.recorder.coreAgreed = false ∨ t.plumbIdx % 4000 ≠ 0 → t.recorder.coreShadow = some c) ∧
      (s.recorder.coreAgreed = true → t.plumbIdx % 4000 = 0 → s.recorder.relocWait = [] → t.recorder.coreShadow = none ∧
        t.rd F.UC_STATUS_CORE_REPLACED = c % 4 ∧ t.rd Fl.UC_EVENT_SUBSTITUTED.bit = 1 ∧ ((1, 0) ∉ s.recorder.spent → t.poolOut 1 = true)))) ∧
  (∀ (s : State) (h : Hdr) (p a j : Nat), s.Allowed 0x0B04 rMaintainer h →
    1 < p ∨ (p = 0 ∧ (s.segOk a = false ∨ j = 0 ∨ 16 < j)) ∨ (p = 1 ∧ 2 < a) →
      exec (.ucSubstitute h p a j) s = .next (s.refuseCmd 0x0B04 rMaintainer h .range)) ∧
  (∀ (s : State) (h : Hdr) (a j : Nat), s.Allowed 0x0B04 rMaintainer h → s.segOk a = true → 1 ≤ j → j ≤ 16 →
    (s.isOn F.UC_CFG_AUTO_CONV = true → exec (.ucSubstitute h 0 a j) s = .next (s.refuseCmd 0x0B04 rMaintainer h .state)) ∧
    (s.isOn F.UC_CFG_AUTO_CONV = false → (s.segOf a).cal ≠ none ∨ (s.segOf a).shadow ≠ none →
      exec (.ucSubstitute h 0 a j) s = .next (s.refuseCmd 0x0B04 rMaintainer h .busy)) ∧
    (s.isOn F.UC_CFG_AUTO_CONV = false → (s.segOf a).cal = none → (s.segOf a).shadow = none →
      (s.segLive a = false ∨ s.spareFree a = false ∨ s.sumFault a = true →
        exec (.ucSubstitute h 0 a j) s = .next (s.refuseCmd 0x0B04 rMaintainer h .noResource)) ∧
      (s.segLive a = true → s.spareFree a = true → s.sumFault a = false → (s.segOf a).needed = j → ∃ t, exec (.ucSubstitute h 0 a j) s = .next t ∧
        (s.substitute a j).Done t 0x0B04 h .ok []) ∧
      (s.segLive a = true → s.spareFree a = true → s.sumFault a = false → (s.segOf a).needed ≠ j → ∃ t u : State,
        exec (.ucSubstitute h 0 a j) s = .next t ∧ u.Accepted t 0x0B04 h a [] ∧ (u.segOf a).shadow = some (j, true)))) ∧
  (∀ (s : State) (h : Hdr) (c j : Nat), s.Allowed 0x0B04 rMaintainer h → c ≤ 2 →
    (s.isOn F.UC_CFG_AUTO_CORE = true → exec (.ucSubstitute h 1 c j) s = .next (s.refuseCmd 0x0B04 rMaintainer h .state)) ∧
    (s.isOn F.UC_CFG_AUTO_CORE = false → s.coreDue = true → exec (.ucSubstitute h 1 c j) s = .next (s.refuseCmd 0x0B04 rMaintainer h .busy)) ∧
    (s.isOn F.UC_CFG_AUTO_CORE = false → s.coreDue = false → s.poolOut 1 = true →
      exec (.ucSubstitute h 1 c j) s = .next (s.refuseCmd 0x0B04 rMaintainer h .noResource)) ∧
    (s.isOn F.UC_CFG_AUTO_CORE = false → s.coreDue = false → s.poolOut 1 = false →
      (∀ r ∈ s.recorder.map, (r.pool, r.device, r.resource) ≠ (1, 0, c)) →
      (∀ r, s.recorder.reloc = some r → (r.pool, r.device, r.resource) ≠ (1, 0, c)) → ∃ t u : State,
      exec (.ucSubstitute h 1 c j) s = .next t ∧ u.Accepted t 0x0B04 h coreKey [] ∧ u.coreDue = true ∧
        (s.ctlBusy = false → u.recorder.coreShadow = some c))) ∧
  (∀ (s : State) (h : Hdr), s.Allowed 0x0B05 rMaintainer h →
    (∃ t, exec (.cardPrepare h 1) s = .next t ∧ ({ s.learnNow.saveCounters with recorder.prepared := [1] } : State).Done t 0x0B05 h .ok []) ∧
    (s.isOn F.PWR_AUX_STATUS_PSU_B_OK = true → ∃ t, exec (.cardPrepare h 2) s = .next t ∧ s.Done t 0x0B05 h .ok []) ∧
    (s.isOn F.PWR_AUX_STATUS_PSU_B_OK = false → exec (.cardPrepare h 2) s = .next (s.refuseCmd 0x0B05 rMaintainer h .safety)) ∧
    (s.isOn F.PWR_AUX_STATUS_PSU_A_OK = true → ∃ t, exec (.cardPrepare h 3) s = .next t ∧ s.Done t 0x0B05 h .ok []) ∧
    (s.isOn F.PWR_AUX_STATUS_PSU_A_OK = false → exec (.cardPrepare h 3) s = .next (s.refuseCmd 0x0B05 rMaintainer h .safety)) ∧
    (s.axStill 0 = true → s.axStill 1 = true → ∃ t, exec (.cardPrepare h 4) s = .next t ∧ s.Done t 0x0B05 h .ok []) ∧
    (s.axStill 0 = false ∨ s.axStill 1 = false → ∃ t u : State, exec (.cardPrepare h 4) s = .next t ∧ u.Accepted t 0x0B05 h 4 [] ∧
      u.mot.preparing = true ∧ (∀ x, x < 2 → s.axStill x = false → u.axState x = axSTOPPING)) ∧
    (∀ k, k = 0 ∨ 4 < k → exec (.cardPrepare h k) s = .next (s.refuseCmd 0x0B05 rMaintainer h .range)))

/-- The commands of a download. (Readings of the model: assumption log 127, 135, 136, 202.) -/
def Obligations.UpdateDownloadAndVerification : Prop :=
  (∀ (s : State) (h : Hdr), s.Allowed 0x0C01 rObserver h → ∃ t, exec (.updStatus h) s = .next t ∧ s.Told t 0x0C01 h
    (s.wordsFrom 0x100000 13 ++ s.wordsFrom 0x100040 1 ++ s.wordsFrom 0x100100 33 ++ wordsOf 16 s.switch.bytes)) ∧
  (∀ (s : State) (h : Hdr) (b : List Byte) (ec ml : Bool), s.isOn F.SEC_STATUS_TAMPER_LATCHED = true →
    exec (.updBegin h b ec ml) s = .next (s.refuseCmd 0x0C02 rUpdate h .auth)) ∧
  (∀ (s : State) (h : Hdr) (b : List Byte) (ec ml : Bool), s.Allowed 0x0C02 rUpdate h → b.length ≠ 4096 →
    exec (.updBegin h b ec ml) s = .next (s.refuseCmd 0x0C02 rUpdate h .param)) ∧
  (∀ (s : State) (h : Hdr) (b : List Byte) (ec ml : Bool), s.Allowed 0x0C02 rUpdate h → b.length = 4096 →
    ((ec && ml) = false → s.beginBad b (ec && ml) = some (1, .auth)) ∧
    (∀ n st, s.beginBad b (ec && ml) = some (n, st) → n < 8 ∧ ∃ t u : State, exec (.updBegin h b ec ml) s = .next t ∧ u.upd = s.upd ∧
      u.rd Fl.UPD_EVENT_HEADER_REFUSED.bit = 1 ∧ u.rd F.UPD_LAST_ERR_STATUS = st.code ∧ u.rd F.UPD_LAST_ERR_STAGE = n ∧
      u.rd F.UPD_STATUS_STATE = s.rd F.UPD_STATUS_STATE ∧ (n ≤ 3 → t = u.refuseCmd 0x0C02 rUpdate h st) ∧ (3 < n → u.Done t 0x0C02 h st [])) ∧
    (s.beginBad b (ec && ml) = none → s.upd.pkg = none → ∃ t u : State, exec (.updBegin h b ec ml) s = .next t ∧ u.Done t 0x0C02 h .ok [0] ∧
      u.upd.pkg = some { head := parseSkim b, raw := b } ∧ u.rd F.UPD_STATUS_STATE = 1 ∧ u.rd F.UPD_STATUS_CHUNKS_HELD = 0 ∧
      (∀ w, w < 33 → u.rd (F.UPD_BITMAP_BITS w) = 0) ∧ u.rd F.UPD_STATUS_TARGET = (parseSkim b).target % 4) ∧
    (∀ p, s.beginBad b (ec && ml) = none → s.upd.pkg = some p → ∃ t, exec (.updBegin h b ec ml) s = .next t ∧
      s.Done t 0x0C02 h .ok [(p.chunks.length : Int)])) ∧
  (∀ (s : State) (h : Hdr) (c crc : Nat) (data : List Byte), s.Allowed 0x0C03 rUpdate h → s.upd.pkg = none →
    exec (.updChunk h c crc data) s = .next (s.refuseCmd 0x0C03 rUpdate h .state)) ∧
  (∀ (s : State) (h : Hdr) (c crc : Nat) (data : List Byte) (p : Package), s.Allowed 0x0C03 rUpdate h → s.upd.pkg = some p →
    (c < p.head.chunkCount → data.length ≠ p.head.chunkLen c ∨ (Tbl.has p.chunks c = true ∧ (Tbl.get (0, []) p.chunks c).1 ≠ crc) ∨
        (c = 0 ∧ Tbl.has p.chunks c = false ∧ crc32c data = crc ∧ data.take 4096 ≠ p.raw) →
      exec (.updChunk h c crc data) s = .next (s.refuseCmd 0x0C03 rUpdate h .param)) ∧
    (c < p.head.chunkCount → data.length = p.head.chunkLen c → (Tbl.has p.chunks c = true → (Tbl.get (0, []) p.chunks c).1 = crc) →
      (c ≠ 0 ∨ Tbl.has p.chunks c = true ∨ crc32c data ≠ crc ∨ data.take 4096 = p.raw) →
      (3 ≤ s.rd F.UPD_STATUS_STATE → exec (.updChunk h c crc data) s = .next (s.refuseCmd 0x0C03 rUpdate h .busy)) ∧
      (s.rd F.UPD_STATUS_STATE < 3 → crc32c data ≠ crc → ∃ t u : State, exec (.updChunk h c crc data) s = .next t ∧ u.Done t 0x0C03 h .integrity [] ∧
        u.upd = s.upd ∧ u.rd Fl.UPD_EVENT_CHUNK_BAD.bit = 1) ∧
      (s.rd F.UPD_STATUS_STATE < 3 → crc32c data = crc → Tbl.has p.chunks c = true → ∃ t, exec (.updChunk h c crc data) s = .next t ∧
        s.Done t 0x0C03 h .ok []) ∧
      (s.rd F.UPD_STATUS_STATE < 3 → crc32c data = crc → Tbl.has p.chunks c = false → ∃ (t u : State) (q : Package),
        exec (.updChunk h c crc data) s = .next t ∧ u.Done t 0x0C03 h .ok [] ∧ u.upd.pkg = some q ∧ q.head = p.head ∧ q.raw = p.raw ∧
        Tbl.get (0, []) q.chunks c = (crc, data) ∧ (∀ d, d ≠ c → Tbl.get (0, []) q.chunks d = Tbl.get (0, []) p.chunks d) ∧
        u.rd F.UPD_STATUS_STATE = (if q.chunks.length = p.head.chunkCount then 2 else s.rd F.UPD_STATUS_STATE) ∧
        (p.head.target = 1 → p.head.kind = 0 → s.rd F.UPD_STATUS_ACTIVE_BANK < 2 →
          (u.ctlBank (1 - s.rd F.UPD_STATUS_ACTIVE_BANK)).valid = false))) ∧
    (p.head.chunkCount ≤ c → exec (.updChunk h c crc data) s = .next (s.refuseCmd 0x0C03 rUpdate h .range))) ∧
  (∀ (s : State) (h : Hdr), s.Allowed 0x0C04 rUpdate h →
    (s.rd F.UPD_STATUS_STATE ≠ 2 → exec (.updVerify h) s = .next (s.refuseCmd 0x0C04 rUpdate h .state)) ∧
    (s.rd F.UPD_STATUS_STATE = 2 → ∃ t u : State, exec (.updVerify h) s = .next t ∧ u.Accepted t 0x0C04 h 0 [] ∧ u.rd F.UPD_STATUS_STATE = 3)) ∧
  (∀ s : State, s.upd.pkg = none ∨ s.rd F.UPD_STATUS_STATE ≠ 3 → exec .updVerifyDone s = .next s) ∧
  (∀ (s : State) (p : Package), s.upd.pkg = some p → s.rd F.UPD_STATUS_STATE = 3 → s.rd F.UPD_STATUS_ACTIVE_BANK < 2 → ∃ t, exec .updVerifyDone s = .next t ∧
    (sha384 p.bodyBytes ≠ p.head.body → t.upd.pkg = some { p with chunks := [] } ∧ t.rd F.UPD_STATUS_STATE = 1 ∧ t.rd Fl.UPD_EVENT_VERIFY_FAIL.bit = 1 ∧
      t.rd F.UPD_LAST_ERR_STATUS = 0x40 ∧ t.rd F.UPD_LAST_ERR_STAGE = 1 ∧ t.upd.ctl0 = s.upd.ctl0 ∧ t.upd.ctl1 = s.upd.ctl1) ∧
    (sha384 p.bodyBytes = p.head.body → sha384 (s.rebuilt p) = p.head.image → t.upd.pkg = some p ∧ t.rd F.UPD_STATUS_STATE = 4 ∧
      t.rd F.UPD_PROGRESS_PERMILLE = 1000 ∧
      (p.head.target = 1 → t.ctlBank (1 - s.rd F.UPD_STATUS_ACTIVE_BANK) = p.head.bank (s.rebuilt p)) ∧
      (p.head.target ≠ 1 → t.upd.staged = s.rebuilt p ∧ t.upd.ctl0 = s.upd.ctl0 ∧ t.upd.ctl1 = s.upd.ctl1)) ∧
    (sha384 p.bodyBytes = p.head.body → sha384 (s.rebuilt p) ≠ p.head.image → t.rd F.UPD_STATUS_STATE = 1 ∧ t.rd F.UPD_LAST_ERR_STAGE = 4 ∧
      t.rd Fl.UPD_EVENT_VERIFY_FAIL.bit = 1 ∧ t.upd.pkg = some { p with chunks := [] } ∧
      (p.head.target = 1 → (t.ctlBank (1 - s.rd F.UPD_STATUS_ACTIVE_BANK)).valid = false) ∧
      (p.head.target ≠ 1 → t.upd.staged = [] ∧ t.upd.ctl0 = s.upd.ctl0 ∧ t.upd.ctl1 = s.upd.ctl1))) ∧
  (∀ (s : State) (h : Hdr), s.Allowed 0x0C08 rUpdate h →
    (s.inTrial = true → exec (.updAbort h) s = .next (s.refuseCmd 0x0C08 rUpdate h .state)) ∧
    (s.inTrial = false → s.rd F.UPD_STATUS_STATE = 3 → exec (.updAbort h) s = .next (s.refuseCmd 0x0C08 rUpdate h .busy)) ∧
    (s.inTrial = false → s.rd F.UPD_STATUS_STATE ∉ [3, 5, 7, 8] →
      ∃ t, exec (.updAbort h) s = .next t ∧ t.upd.pkg = none ∧ t.rd F.UPD_STATUS_STATE = 0 ∧ s.dropPackage.Done t 0x0C08 h .ok []) ∧
    (s.inTrial = false → s.rd F.UPD_STATUS_STATE = 5 ∨ s.rd F.UPD_STATUS_STATE = 7 ∨ s.rd F.UPD_STATUS_STATE = 8 →
      ∃ t u : State, exec (.updAbort h) s = .next t ∧ u.Done t 0x0C08 h .ok [] ∧ u.upd.pkg = none ∧ u.rd F.UPD_STATUS_STATE = 0 ∧
        (∀ p, s.rd F.UPD_STATUS_STATE = 7 → s.rd F.UPD_PROGRESS_SEG_SLOT ≠ 0 → s.upd.pkg = some p →
          u.upd.card = some (s.rd F.UPD_PROGRESS_SEG_SLOT, p.head.image))))

/-- What activates, confirms and takes back images. (Readings of the model: assumption log 14, 23, 133, 134, 135, 201, 203.) -/
def Obligations.UpdateActivationAndTrial : Prop :=
  (∀ (s : State) (r : SwitchRec), (s.writeSwitch r).switch = { r with gen := s.switch.gen + 1, valid := true }) ∧
  (∀ (s : State) (h : Hdr) (mig : Bool) (b : Boot), s.Allowed 0x0C05 rUpdate h →
    (s.upd.pkg = none → exec (.updActivate h mig b) s = .next (s.refuseCmd 0x0C05 rUpdate h .state)) ∧
    (∀ p, s.upd.pkg = some p →
      (s.rd F.UPD_STATUS_STATE = 3 → exec (.updActivate h mig b) s = .next (s.refuseCmd 0x0C05 rUpdate h .busy)) ∧
      (s.rd F.UPD_STATUS_STATE ≠ 3 → s.rd F.UPD_STATUS_STATE ≠ 4 → exec (.updActivate h mig b) s = .next (s.refuseCmd 0x0C05 rUpdate h .state)) ∧
      (s.rd F.UPD_STATUS_STATE = 4 → p.head.target = 1 → s.byRestart = false →
        (s.coreDue = true → exec (.updActivate h mig b) s = .next (s.refuseCmd 0x0C05 rUpdate h .noResource)) ∧
        (s.coreDue = false → mig = false → ∃ t, exec (.updActivate h mig b) s = .next t ∧ t.rd F.UPD_STATUS_STATE = 4 ∧ t.upd.step = 0 ∧
          t.rd F.UPD_LAST_ERR_STATUS = 0x43 ∧ t.rd F.UPD_LAST_ERR_STAGE = 3) ∧
        (s.coreDue = false → mig = true → ∃ t, exec (.updActivate h mig b) s = .next t ∧ t.upd.step = 4 ∧ t.rd F.UPD_STATUS_STATE = 5 ∧
          t.upd.pkg = some p ∧ t.upd.other.valid = true ∧ t.upd.shadowFrom = s.time.count ∧ t.mode = s.mode)) ∧
      (s.rd F.UPD_STATUS_STATE = 4 → p.head.target = 1 → s.byRestart = true →
        (s.mode ≠ mSTANDBY → s.mode ≠ mSERVICE ∨ s.closed = true → exec (.updActivate h mig b) s = .next (s.refuseCmd 0x0C05 rUpdate h .noResource)) ∧
        (s.mode = mSTANDBY ∨ (s.mode = mSERVICE ∧ s.closed = false) → ∃ t, exec (.updActivate h mig b) s = .next t ∧
          t = (s.answer 0x0C05 rUpdate h (.accept s 0 [])).restartAct b)) ∧
      (s.rd F.UPD_STATUS_STATE = 4 → p.head.target = 2 →
        (s.mode ≠ mSERVICE ∨ s.closed = true → exec (.updActivate h mig b) s = .next (s.refuseCmd 0x0C05 rUpdate h .state)) ∧
        (s.mode = mSERVICE → s.closed = false → ∃ t u : State, exec (.updActivate h mig b) s = .next t ∧ u.Accepted t 0x0C05 h 0 [] ∧
          u.rd F.UPD_STATUS_STATE = 8)) ∧
      (s.rd F.UPD_STATUS_STATE = 4 → p.head.target = 3 →
        (s.mode ≠ mSERVICE → exec (.updActivate h mig b) s = .next (s.refuseCmd 0x0C05 rUpdate h .state)) ∧
        (s.mode = mSERVICE → s.segMayGo = false → exec (.updActivate h mig b) s = .next (s.refuseCmd 0x0C05 rUpdate h .safety)) ∧
        (s.mode = mSERVICE → s.segMayGo = true → s.wdSlot ≠ 0 → exec (.updActivate h mig b) s = .next (s.refuseCmd 0x0C05 rUpdate h .busy)) ∧
        (s.mode = mSERVICE → s.segMayGo = true → s.wdSlot = 0 → ∃ t, exec (.updActivate h mig b) s = .next t ∧
          (s.segsLeft p.head = [] → t.upd.pkg = none ∧ t.rd F.UPD_STATUS_STATE = 0) ∧
          (∀ c l, s.segsLeft p.head = c :: l → t.rd F.UPD_STATUS_STATE = 7 ∧ t.upd.pkg = some p ∧ t.rd F.UPD_PROGRESS_SEG_SLOT = c ∧
            t.rd F.SAFE_WITHDRAW_SLOT = c ∧ t.rd (F.SEG_STATE_STATE c) = segISOLATED))))) ∧
  (∀ s : State, (s.rd F.UPD_STATUS_STATE = 5 → s.upd.step = 4 → s.upd.shadowFrom + 250000000 * s.rd F.UPD_CFG_SHADOW_S ≤ s.time.count →
      ∃ t, exec .shadowRunEnd s = .next t ∧ t.upd.step = 5 ∧
      t.rd F.UPD_PROGRESS_PERMILLE = 1000 ∧ t.switch.bank = 1 - s.switch.bank ∧ t.switch.state = 1 ∧ t.switch.left = 3 ∧
      t.switch.gen = s.switch.gen + 1 ∧ t.switch.copy = 1 - s.rd F.UPD_STATUS_SETTINGS_COPY) ∧
    (s.rd F.UPD_STATUS_STATE ≠ 5 ∨ s.upd.step ≠ 4 ∨ s.time.count < s.upd.shadowFrom + 250000000 * s.rd F.UPD_CFG_SHADOW_S →
      exec .shadowRunEnd s = .next s)) ∧
  (∀ (s : State) (q : Nat) (v : Int), s.rd F.UPD_STATUS_STATE ≠ 5 ∨ s.upd.step ≠ 4 ∨ s.shadowBeyond q v = false →
    exec (.shadowBreach q v) s = .next s) ∧
  (∀ (s : State) (q : Nat) (v : Int), s.rd F.UPD_STATUS_STATE = 5 → s.upd.step = 4 → s.shadowBeyond q v = true → ∃ t, exec (.shadowBreach q v) s = .next t ∧ t.rd F.UPD_STATUS_STATE = 4 ∧
    t.upd.step = 0 ∧ t.upd.pkg = s.upd.pkg ∧ t.rd F.UPD_LAST_ERR_STATUS = 0xFF ∧ t.switch = s.switch) ∧
  (∀ s : State, (s.rd F.UPD_STATUS_STATE = 5 → s.upd.step = 5 → ∃ t, exec .updHandover s = .next t ∧ t.rd F.UPD_STATUS_STATE = 6 ∧ t.upd.step = 0 ∧
      t.upd.resident = true ∧ t.rd Fl.UPD_EVENT_ACTIVATED.bit = 1 ∧ t.switch = s.switch ∧ t.upd.pkg = s.upd.pkg) ∧
    (s.rd F.UPD_STATUS_STATE ≠ 5 ∨ s.upd.step ≠ 5 → exec .updHandover s = .next s)) ∧
  (∀ (s : State) (c : Nat) (b : Boot),
    (s.switch.state ≠ 1 ∨ s.pwr.ctl = false → exec (.handbackCause c b) s = .next s) ∧
    (s.switch.state = 1 → s.pwr.ctl = true → s.upd.resident = true ∨ s.upd.step = 5 → ∃ t, exec (.handbackCause c b) s = .next t ∧ t.rd F.UPD_STATUS_STATE = 4 ∧
      t.upd.resident = false ∧ t.rd Fl.UPD_EVENT_HANDBACK.bit = 1 ∧ t.switch.bank = 1 - s.switch.bank ∧ t.switch.state = 2 ∧ t.switch.left = 0 ∧
      t.switch.copy = 1 - s.switch.copy) ∧
    (s.switch.state = 1 → s.pwr.ctl = true → s.upd.resident = false → s.upd.step ≠ 5 → ∃ t, exec (.handbackCause c b) s = .next t ∧
      t = s.handbackReset c b)) ∧
  (∀ (s : State) (h : Hdr) (p : Package), s.Allowed 0x0C06 rUpdate h → s.upd.pkg = some p → p.head.keyId < 4 → p.head.epoch < 65536 →
    p.head.revokeMask < 16 → s.rd F.UPD_EPOCH_EPOCH < 65536 → s.rd F.UPD_EPOCH_REVOKED / 2 ^ p.head.keyId % 2 = 0 →
    (s.switch.state = 1 → s.rd F.UPD_STATUS_STATE = 6 → ∃ t u : State, exec (.updConfirm h 1) s = .next t ∧ u.Done t 0x0C06 h .ok [] ∧
      u.switch.state = 0 ∧ u.switch.bank = s.switch.bank ∧ u.upd.pkg = none ∧ u.rd F.UPD_STATUS_STATE = 0 ∧ u.upd.resident = false ∧
      u.rd F.UPD_EPOCH_EPOCH = max p.head.epoch (s.rd F.UPD_EPOCH_EPOCH) ∧ u.rd F.UPD_EPOCH_REVOKED / 2 ^ p.head.keyId % 2 = 0 ∧
      u.rd Fl.UPD_EVENT_CONFIRMED.bit = 1) ∧
    (s.switch.state ≠ 1 ∨ s.rd F.UPD_STATUS_STATE ≠ 6 → exec (.updConfirm h 1) s = .next (s.refuseCmd 0x0C06 rUpdate h .state)) ∧
    (s.upd.safeSw.state = 1 → ∃ t u : State, exec (.updConfirm h 2) s = .next t ∧ u.Done t 0x0C06 h .ok [] ∧ u.upd.safeSw.state = 0 ∧
      u.rd F.UPD_STATUS_SAFE_STATE = 0 ∧ u.rd F.UPD_EPOCH_EPOCH = max p.head.epoch (s.rd F.UPD_EPOCH_EPOCH)) ∧
    (s.upd.safeSw.state ≠ 1 → exec (.updConfirm h 2) s = .next (s.refuseCmd 0x0C06 rUpdate h .state)) ∧
    exec (.updConfirm h 3) s = .next (s.refuseCmd 0x0C06 rUpdate h .state)) ∧
  (∀ (s : State) (h : Hdr) (k : Nat) (b : Boot), k = 0 ∨ 3 < k →
    (s.Allowed 0x0C06 rUpdate h → exec (.updConfirm h k) s = .next (s.refuseCmd 0x0C06 rUpdate h .range)) ∧
    (s.Allowed 0x0C07 rUpdate h → exec (.updHandback h k b) s = .next (s.refuseCmd 0x0C07 rUpdate h .range))) ∧
  (∀ (s : State) (h : Hdr) (b : Boot), s.Allowed 0x0C07 rUpdate h →
    (s.switch.state = 1 → s.rd F.UPD_STATUS_STATE = 6 → s.upd.resident = true → ∃ t, exec (.updHandback h 1 b) s = .next t ∧
      (s.handback 0).Done t 0x0C07 h .ok [] ∧ t.rd F.UPD_STATUS_STATE = 4) ∧
    (s.switch.state = 1 → s.rd F.UPD_STATUS_STATE = 6 → s.upd.resident = false → ∃ t u : State, exec (.updHandback h 1 b) s = .next t ∧
      s.Done u 0x0C07 h .ok [] ∧ t = u.handbackReset 0 b) ∧
    (s.switch.state ≠ 1 ∨ s.rd F.UPD_STATUS_STATE ≠ 6 → exec (.updHandback h 1 b) s = .next (s.refuseCmd 0x0C07 rUpdate h .state)) ∧
    (s.upd.safeSw.state = 1 → s.mode = mSERVICE → s.closed = false → ∃ t u : State, exec (.updHandback h 2 b) s = .next t ∧ u.Done t 0x0C07 h .ok [] ∧
      u.rd F.UPD_STATUS_SAFE_STATE = 2 ∧ u.rd F.UPD_STATUS_STATE = 4) ∧
    (s.upd.safeSw.state ≠ 1 ∨ s.mode ≠ mSERVICE ∨ s.closed = true → exec (.updHandback h 2 b) s = .next (s.refuseCmd 0x0C07 rUpdate h .state)) ∧
    exec (.updHandback h 3 b) s = .next (s.refuseCmd 0x0C07 rUpdate h .state)) ∧
  (∀ (s : State) (im : List Byte) (e g f p : Bool) (n : Nat), s.rd F.UPD_STATUS_STATE ≠ 8 ∨ s.upd.pkg = none →
    exec (.safeImageTransfer im e g f p n) s = .next s) ∧
  (∀ (s : State) (im : List Byte) (e g f p : Bool) (n : Nat) (k : Package), s.rd F.UPD_STATUS_STATE = 8 → s.upd.pkg = some k →
    ∃ t, exec (.safeImageTransfer im e g f p n) s = .next t ∧
    (sha384 im ≠ k.head.image → t.rd F.UPD_STATUS_STATE = 4 ∧ t.rd F.UPD_LAST_ERR_STATUS = 0x40 ∧ t.upd.safeSw = s.upd.safeSw) ∧
    (sha384 im = k.head.image → (e && g) = false → t.rd F.UPD_STATUS_STATE = 4 ∧ t.rd F.UPD_LAST_ERR_STATUS = 0x41 ∧ t.upd.safeSw = s.upd.safeSw) ∧
    (sha384 im = k.head.image → e = true → g = true → f = false → t.rd F.UPD_STATUS_STATE = 4 ∧ t.rd Fl.UPD_EVENT_FALLBACK.bit = 1 ∧
      t.rd F.UPD_LAST_ERR_STATUS = 0xFF ∧ (s.upd.safeSw.bank < 2 → t.upd.safeSw.bank = s.upd.safeSw.bank)) ∧
    (sha384 im = k.head.image → e = true → g = true → f = true →
      (p = true → t.rd F.UPD_STATUS_STATE = 6 ∧ t.rd F.UPD_STATUS_SAFE_STATE = 1 ∧ t.rd F.UPD_PROGRESS_PERMILLE = 1000 ∧
        t.upd.safeSw.bank = 1 - s.upd.safeSw.bank ∧ t.safeImage = k.head.bank im) ∧
      (p = false → t.hasCause .param = true))) ∧
  (∀ (s : State) (ok : Bool), s.upd.card = none → s.upd.pkg = none ∨ s.rd F.UPD_STATUS_STATE ≠ 7 ∨ s.rd F.UPD_PROGRESS_SEG_SLOT = 0 →
    exec (.segUpdateCardDone ok) s = .next s) ∧
  (∀ (s : State) (p : Package), s.upd.card = none → s.upd.pkg = some p → s.rd F.UPD_STATUS_STATE = 7 → s.rd F.UPD_PROGRESS_SEG_SLOT ≠ 0 →
    (∃ t, exec (.segUpdateCardDone false) s = .next t ∧ t.rd Fl.UPD_EVENT_SEG_FAIL.bit = 1 ∧ t.rd F.UPD_STATUS_STATE = 4 ∧ t.upd.seg = s.upd.seg ∧
      t.rd F.UPD_LAST_ERR_STATUS = 0xFF) ∧
    (∃ t, exec (.segUpdateCardDone true) s = .next t ∧ Tbl.get 0 t.upd.seg (s.rd F.UPD_PROGRESS_SEG_SLOT) = p.head.image)) ∧
  (∀ (s : State) (k d : Nat) (ok : Bool), s.upd.card = some (k, d) → ∃ t, exec (.segUpdateCardDone ok) s = .next t ∧ t.upd.card = none ∧
    (ok = true → Tbl.get 0 t.upd.seg k = d) ∧ (ok = false → t.upd.seg = s.upd.seg ∧ t.rd Fl.UPD_EVENT_SEG_FAIL.bit = 1)) ∧
  (∀ (s : State) (hd body : List Byte) (ec ml sig : Bool) (b : Boot), sig = (ec && ml) →
    (s.pwr.phase ≠ .recovery ∨ hd.length ≠ 4096 ∨ (parseSkim hd).target ≠ 1 ∨ (parseSkim hd).kind ≠ 0 →
      exec (.imageRecovery hd body ec ml b) s = .next s) ∧
    (s.pwr.phase = .recovery → hd.length = 4096 → (parseSkim hd).target = 1 → (parseSkim hd).kind = 0 →
      (∀ n st, s.headerBad hd sig = some (n, st) → n < 8 → ∃ t, exec (.imageRecovery hd body ec ml b) s = .next t ∧ t.upd = s.upd ∧ t.pwr = s.pwr ∧
        t.rd Fl.UPD_EVENT_HEADER_REFUSED.bit = 1 ∧ t.rd F.UPD_LAST_ERR_STATUS = st.code) ∧
      (s.headerBad hd sig = none → sha384 body ≠ (parseSkim hd).body → ∃ t, exec (.imageRecovery hd body ec ml b) s = .next t ∧ t.upd = s.upd ∧
        t.pwr = s.pwr ∧ t.rd Fl.UPD_EVENT_VERIFY_FAIL.bit = 1) ∧
      (s.headerBad hd sig = none → sha384 body = (parseSkim hd).body → sha384 body ≠ (parseSkim hd).image → ∃ t,
        exec (.imageRecovery hd body ec ml b) s = .next t ∧ t.upd = s.upd ∧ t.pwr = s.pwr ∧ t.rd Fl.UPD_EVENT_VERIFY_FAIL.bit = 1 ∧
        t.rd F.UPD_LAST_ERR_STAGE = 4) ∧
      (s.headerBad hd sig = none → sha384 body = (parseSkim hd).body → sha384 body = (parseSkim hd).image → ∃ t u : State,
        exec (.imageRecovery hd body ec ml b) s = .next t ∧ t = u.afterRecovery b ∧ u.rd F.UPD_STATUS_STATE = 6 ∧ u.rd F.UPD_STATUS_TARGET = 1 ∧
        u.pwr.phase = .up ∧ u.switch.state = 1 ∧ u.switch.left = 3)))

/-- Identity, claiming, anchors and tamper. (Readings of the model: assumption log 12, 137, 138, 139, 141.) -/
def Obligations.SecurityCommandsAndTamper : Prop :=
  (∀ (s : State) (h : Hdr), s.Allowed 0x0D01 rObserver h → ∃ t, exec (.secStatus h) s = .next t ∧ s.Told t 0x0D01 h
    (s.wordsFrom 0x110000 2 ++ s.wordsFrom 0x110010 3 ++ s.wordsFrom 0x110020 2 ++ s.wordsFrom 0x110040 4)) ∧
  (∀ (s : State) (h : Hdr), s.Allowed 0x0D03 rObserver h → ∃ t, exec (.secCertRead h) s = .next t ∧
    s.AnsweredBulk t 0x0D03 h (Config.deviceCert.map fun x => (x : Int))) ∧
  (∀ (s : State) (h : Hdr) (nonce : List Byte), s.Allowed 0x0D02 rObserver h →
    (nonce.length ≠ 32 → exec (.secQuote h nonce) s = .next (s.refuseCmd 0x0D02 rObserver h .param)) ∧
    (nonce.length = 32 → s.isOn F.SEC_STATUS_ID_FAULT = true → ∃ t, exec (.secQuote h nonce) s = .next t ∧ s.Done t 0x0D02 h .internal []) ∧
    (nonce.length = 32 → s.isOn F.SEC_STATUS_ID_FAULT = false → ∃ (t : State) (q : List Byte), exec (.secQuote h nonce) s = .next t ∧
      s.AnsweredBulk t 0x0D02 h ((q ++ padTo 96 (Config.quoteSign q)).map fun x => (x : Int)) ∧ q.length = 256 ∧
      q.take 8 = [0x54, 0x4F, 0x55, 0x51, 1, 0, 0x60, 1] ∧ slice q 8 32 = nonce ∧ slice q 56 48 = leBytes 48 s.running.digest ∧
      slice q 104 48 = leBytes 48 s.safeImage.digest ∧ u8 q 206 = s.switch.state ∧
      u8 q 207 = (if s.isOn F.SEC_STATUS_LID_OPEN then 1 else 0) + (if s.isOn F.SEC_STATUS_TAMPER_LATCHED then 2 else 0) +
        (if s.isOn F.SEC_STATUS_TAMPER_UNPOWERED then 4 else 0) ∧ slice q 208 4 = leBytes 4 (s.rd F.SAFE_PARAM_GEN_VALUE) ∧
      slice q 224 4 = leBytes 4 (s.rd F.REC_POWER_CYCLES_VALUE) ∧ q.drop 240 = List.replicate 16 0)) ∧
  (∀ (s : State) (h : Hdr) (slot : Nat) (cert code : List Byte), h.port = 2 → s.sec.claiming = true → s.isOn F.SEC_STATUS_CLAIMED = false →
    (code = Config.claimCode → s.sec.shut = false → slot ≤ 3 → s.mode ≠ mSHELF → ∃ t, exec (.secAnchorSet h slot cert code) s = .next t ∧
      if Config.isCaCert cert then t.isOn F.SEC_STATUS_CLAIMED = true ∧ Tbl.get { ca := [] } t.sec.anchors slot = { ca := cert } ∧ t.sec.wrong = 0 ∧
        t.rd Fl.SEC_EVENT_ANCHOR_CHANGE.bit = 1 ∧ t.hrt.serviceResp = [(0, .ok)] ∧ t.mode = s.mode
      else t = { s with hrt.serviceResp := [(0, .param)] }) ∧
    (code = Config.claimCode → s.sec.shut = false → 3 < slot → exec (.secAnchorSet h slot cert code) s =
      .next { s with hrt.serviceResp := [(0, if Config.isCaCert cert then .range else .param)] }) ∧
    (code = Config.claimCode → s.sec.shut = false → slot ≤ 3 → s.mode = mSHELF → exec (.secAnchorSet h slot cert code) s =
      .next { s with hrt.serviceResp := [(0, if Config.isCaCert cert then .state else .param)] }) ∧
    (code ≠ Config.claimCode ∨ s.sec.shut = true → ∃ t, exec (.secAnchorSet h slot cert code) s = .next t ∧ t.sec.anchors = s.sec.anchors ∧
      t.isOn F.SEC_STATUS_CLAIMED = false ∧ t.hrt.serviceResp = [(0, .auth)] ∧ t.rd Fl.SEC_EVENT_AUTH_FAIL.bit = 1 ∧
      (s.sec.shut = true → t.sec = s.sec) ∧
      (s.sec.shut = false → t.sec.wrong = s.sec.wrong + 1 ∧ t.sec.shut = decide (3 ≤ s.sec.wrong + 1)))) ∧
  (claimShut 3 = 10 ∧ ∀ n, 3 ≤ n → claimShut (n + 1) = min 1440 (2 * claimShut n)) ∧
  (∀ (s : State) (m : Nat), (m < claimShut s.sec.wrong → exec (.claimLockoutExpiry m) s = .next s) ∧
    (claimShut s.sec.wrong ≤ m → exec (.claimLockoutExpiry m) s = .next { s with sec.shut := false })) ∧
  (∀ (s : State) (h : Hdr) (slot : Nat) (cert code : List Byte), s.Allowed 0x0D04 rMaintainer h → h.port ≠ 2 ∨ s.isOn F.SEC_STATUS_CLAIMED = true →
    (3 < slot → exec (.secAnchorSet h slot cert code) s = .next (s.refuseCmd 0x0D04 rMaintainer h (if Config.isCaCert cert then .range else .param))) ∧
    (slot ≤ 3 → ∃ t, exec (.secAnchorSet h slot cert code) s = .next t ∧
      if Config.isCaCert cert then ∃ u : State, u.Done t 0x0D04 h .ok [] ∧ Tbl.get { ca := [] } u.sec.anchors slot = { ca := cert } ∧
        (∀ k, k ≠ slot → Tbl.get { ca := [] } u.sec.anchors k = Tbl.get { ca := [] } s.sec.anchors k) ∧
        (u.rd F.SEC_STATUS_ANCHORS).testBit slot = true ∧ u.rd Fl.SEC_EVENT_ANCHOR_CHANGE.bit = 1
      else t = s.refuseCmd 0x0D04 rMaintainer h .param)) ∧
  (∀ (s : State) (h : Hdr) (slot : Nat), s.Allowed 0x0D05 rMaintainer h →
    (3 < slot → exec (.secAnchorDelete h slot) s = .next (s.refuseCmd 0x0D05 rMaintainer h .range)) ∧
    (slot ≤ 3 → s.anchorOf h.port = some slot → exec (.secAnchorDelete h slot) s = .next (s.refuseCmd 0x0D05 rMaintainer h .state)) ∧
    (slot ≤ 3 → s.anchorOf h.port ≠ some slot → Tbl.has s.sec.anchors slot = true → Tbl.sorted s.sec.anchors = true → ∃ t u : State,
      exec (.secAnchorDelete h slot) s = .next t ∧ u.Done t 0x0D05 h .ok [] ∧ Tbl.has u.sec.anchors slot = false ∧
      (∀ k, k ≠ slot → Tbl.get { ca := [] } u.sec.anchors k = Tbl.get { ca := [] } s.sec.anchors k) ∧
      (u.rd F.SEC_STATUS_ANCHORS).testBit slot = false ∧ u.rd Fl.SEC_EVENT_ANCHOR_CHANGE.bit = 1) ∧
    (slot ≤ 3 → s.anchorOf h.port ≠ some slot → Tbl.has s.sec.anchors slot = false → ∃ t, exec (.secAnchorDelete h slot) s = .next t ∧
      s.Done t 0x0D05 h .ok [])) ∧
  (∀ (s : State) (h : Hdr) (slot serial : Nat), s.Allowed 0x0D06 rMaintainer h →
    (2 ^ 160 ≤ serial → exec (.secDenyAdd h slot serial) s = .next (s.refuseCmd 0x0D06 rMaintainer h .param)) ∧
    (serial < 2 ^ 160 → 3 < slot ∨ Tbl.has s.sec.anchors slot = false →
      exec (.secDenyAdd h slot serial) s = .next (s.refuseCmd 0x0D06 rMaintainer h .range)) ∧
    (∀ a : Anchor, a = Tbl.get { ca := [] } s.sec.anchors slot → serial < 2 ^ 160 → slot ≤ 3 → Tbl.has s.sec.anchors slot = true →
      (256 ≤ a.deny.length → exec (.secDenyAdd h slot serial) s = .next (s.refuseCmd 0x0D06 rMaintainer h .noResource)) ∧
      (a.deny.length < 256 → serial ∈ a.deny → ∃ t, exec (.secDenyAdd h slot serial) s = .next t ∧ s.Done t 0x0D06 h .ok []) ∧
      (a.deny.length < 256 → serial ∉ a.deny → ∃ t u : State, exec (.secDenyAdd h slot serial) s = .next t ∧ u.Done t 0x0D06 h .ok [] ∧
        (Tbl.get { ca := [] } u.sec.anchors slot).deny = a.deny ++ [serial] ∧ (Tbl.get { ca := [] } u.sec.anchors slot).ca = a.ca ∧
        u.rd Fl.SEC_EVENT_ANCHOR_CHANGE.bit = 1 ∧
        (∀ p x, p < 3 → s.session p = some x → x.anchor = slot → x.cert = serial ∨ serial ∈ x.chain → u.session p = none) ∧
        (∀ p x, p < 3 → s.session p = some x → x.anchor ≠ slot ∨ (x.cert ≠ serial ∧ serial ∉ x.chain) → u.session p = some x)))) ∧
  (∀ (s : State) (h : Hdr), s.Allowed 0x0D07 rMaintainer h →
    (s.isOn F.SEC_STATUS_LID_OPEN = true → exec (.secTamperClear h) s = .next (s.refuseCmd 0x0D07 rMaintainer h .state)) ∧
    (s.isOn F.SEC_STATUS_LID_OPEN = false → ∃ t u : State, exec (.secTamperClear h) s = .next t ∧ u.Done t 0x0D07 h .ok [] ∧ u.sec.latch = false ∧
      u.sec.note = none ∧ u.rd F.SEC_STATUS_TAMPER_LATCHED = 0 ∧ u.rd F.SEC_STATUS_TAMPER_UNPOWERED = 0)) ∧
  (∀ (s : State) (lid : Bool),
    (s.pwr.phase = .cold ∨ s.pwr.phase = .unpowered → exec (.tamper lid) s = .next { s with sec.latch := true }) ∧
    (s.pwr.phase ≠ .cold → s.pwr.phase ≠ .unpowered → ∃ t, exec (.tamper lid) s = .next t ∧ t.sec.latch = true ∧ t.isOn F.SEC_STATUS_LID_OPEN = lid ∧
      t.mode = s.mode ∧ t.switches = s.switches ∧
      (s.sec.latch = true → t = s.wrB F.SEC_STATUS_LID_OPEN lid) ∧
      (s.sec.latch = false → s.pwr.phase = .up → s.pwr.ctl = true → s.mode ≠ mSHELF → t.isOn F.SEC_STATUS_TAMPER_LATCHED = true ∧
        t.rd Fl.SEC_EVENT_TAMPER.bit = 1 ∧ t.safe.pendingBlock = [] ∧ t.sec.note = none ∧
        (s.rd F.UPD_STATUS_STATE = 5 → s.upd.step < 5 → t.rd F.UPD_STATUS_STATE = 4 ∧ t.upd.step = 0) ∧
        (s.isOn F.SEC_CFG_TAMPER_ACTION = true → ∀ p, p < 3 → t.session p = none) ∧
        (s.isOn F.SEC_CFG_TAMPER_ACTION = false → ∀ p, t.session p = s.session p)) ∧
      (s.sec.latch = false → s.pwr.phase ≠ .up ∨ s.pwr.ctl = false ∨ s.mode = mSHELF →
        t.sec.note = some (if s.taiValid then s.now else s.rd F.REC_OPTIME_VALUE) ∧ t.safe = s.safe ∧
        t.rd F.SEC_STATUS_TAMPER_LATCHED = s.rd F.SEC_STATUS_TAMPER_LATCHED))) ∧
  (∀ (s : State) (h : Hdr) (w : Nat), s.Allowed 0x0D08 rMaintainer h →
    (∀ st, s.writeCheck 0x110004 w = some st → exec (.secSetCfg h w) s = .next (s.refuseCmd 0x0D08 rMaintainer h st)) ∧
    (s.writeCheck 0x110004 w = none → ∃ t u : State, exec (.secSetCfg h w) s = .next t ∧ u.Done t 0x0D08 h .ok [] ∧
      u.rd F.SEC_CFG_TAMPER_ACTION = w % 2 ∧ u.rd F.SEC_CFG_SVC_IDLE_MIN = w / 256 % 256)) ∧
  (∀ s : State, (s.taiValid = false ∨ s.now < s.rd64 F.SEC_TIME_FLOOR_LO_NS F.SEC_TIME_FLOOR_HI_NS + 3600000000000 →
      exec .timeFloorSave s = .next s) ∧
    (s.taiValid = true → s.rd64 F.SEC_TIME_FLOOR_LO_NS F.SEC_TIME_FLOOR_HI_NS + 3600000000000 ≤ s.now → ∃ t, exec .timeFloorSave s = .next t ∧ t.rd64 F.SEC_TIME_FLOOR_LO_NS F.SEC_TIME_FLOOR_HI_NS = s.now % 2 ^ 64))

/-- Commands of the safety card and the timers they start. (Readings of the model: assumption log 14, 64, 140.) -/
def Obligations.SafetyCommandsComplete : Prop :=
  (∀ (s : State) (h : Hdr), s.Allowed 0x0E04 rObserver h → ∃ t, exec (.safeStatus h) s = .next t ∧ s.Told t 0x0E04 h (s.wordsFrom 0x90000 15)) ∧
  (∀ (s : State) (h : Hdr), s.Allowed 0x0E03 rObserver h → ∃ t, exec (.safeParamRead h) s = .next t ∧ s.AnsweredBulk t 0x0E03 h
    (bytesOut (s.safe.blockA ++ (if s.safe.pendingBlock = [] then [] else s.safe.pendingBlock ++ echoBytes s.safe.pendingBlock)))) ∧
  (∀ (s : State) (h : Hdr) (b : List Byte) (g : Nat), s.Allowed 0x0E01 rSafety h → g = (if s.safe.blockA = [] then 1 else pGeneration s.safe.blockA + 1) →
    exec (.safeParamLoad h b false) s = .next (s.refuseCmd 0x0E01 rSafety h .auth) ∧
    (blockParamBad b (16 * s.segs) g = true → exec (.safeParamLoad h b true) s = .next (s.refuseCmd 0x0E01 rSafety h .param)) ∧
    (blockParamBad b (16 * s.segs) g = false → blockRangeBad b s.segs = true →
      exec (.safeParamLoad h b true) s = .next (s.refuseCmd 0x0E01 rSafety h .range)) ∧
    (blockParamBad b (16 * s.segs) g = false → blockRangeBad b s.segs = false → ∃ t u : State, exec (.safeParamLoad h b true) s = .next t ∧
      u.AnsweredBulk t 0x0E01 h (bytesOut (echoBytes b)) ∧ u = { s with safe := u.safe } ∧ u.safe.pendingBlock = b ∧
      u.safe.pendingCert = s.portCert h.port ∧ u.safe.blockA = s.safe.blockA ∧ u.safe.blockB = s.safe.blockB)) ∧
  (∀ (s : State) (h : Hdr) (g crc : Nat) (e : List (Nat × CmpEcho)), s.Allowed 0x0E02 rSafety h →
    (s.safe.pendingBlock = [] → exec (.safeParamConfirm h g crc e) s = .next (s.refuseCmd 0x0E02 rSafety h .state)) ∧
    (s.safe.pendingBlock ≠ [] → s.safe.pendingCert ≠ 0 → s.safe.pendingCert ≠ s.portCert h.port →
      exec (.safeParamConfirm h g crc e) s = .next (s.refuseCmd 0x0E02 rSafety h .auth)) ∧
    (s.safe.pendingBlock ≠ [] → s.safe.pendingCert = 0 ∨ s.safe.pendingCert = s.portCert h.port →
      (g ≠ pGeneration s.safe.pendingBlock ∨ crc ≠ crc32c (echoBytes s.safe.pendingBlock) →
        exec (.safeParamConfirm h g crc e) s = .next (s.refuseCmd 0x0E02 rSafety h .param)) ∧
      (g = pGeneration s.safe.pendingBlock → crc = crc32c (echoBytes s.safe.pendingBlock) → ∃ t u : State,
        exec (.safeParamConfirm h g crc e) s = .next t ∧ u.Done t 0x0E02 h .ok [] ∧ u.safe.blockA = s.safe.pendingBlock ∧
        u.safe.blockB = s.safe.pendingBlock ∧ u.safe.copy0 = s.safe.pendingBlock ∧ u.safe.copy1 = s.safe.pendingBlock ∧ u.safe.pendingBlock = [] ∧
        u.isOn F.SAFE_STATUS_PARAM_VALID = true ∧ u.rd F.SAFE_PARAM_GEN_VALUE = g % 2 ^ 32 ∧
        u.rd F.SEG_CMP_PARAM_OV_CODE = u8 s.safe.pendingBlock 38 % 256 ∧ u.rd F.CIM_HALL_PARAM_FS_A = pHallFs s.safe.pendingBlock % 65536 ∧
        ((∀ k ∈ s.segList, s.segLive k = true → Tbl.has e k = true → Tbl.get ⟨0, 0, 31⟩ e k = u.cmpConfig k) → u.safe.causes = s.safe.causes) ∧
        (∀ k ∈ s.segList, s.segLive k = true → Tbl.has e k = true → Tbl.get ⟨0, 0, 31⟩ e k ≠ u.cmpConfig k → u.hasCause .cmpEcho = true)))) ∧
  (∀ s : State, exec .paramPendingExpiry s = .next { s with safe.pendingBlock := [], safe.pendingCert := 0 }) ∧
  (∀ s : State,
    (blockBad s.safe.blockA = true ∨ blockBad s.safe.blockB = true → ∃ t, exec .paramCrcCompare s = .next t ∧ t.hasCause .safetyMemory = true) ∧
    (blockBad s.safe.blockA = false → blockBad s.safe.blockB = false →
      (u32 s.safe.blockA 400 ≠ u32 s.safe.blockB 400 ∨ s.safe.blockA.isEmpty ≠ s.safe.blockB.isEmpty →
        ∃ t, exec .paramCrcCompare s = .next t ∧ s.LockedBy t .param 3 ∧ t.isOn F.SAFE_STATUS_PARAM_VALID = false) ∧
      (u32 s.safe.blockA 400 = u32 s.safe.blockB 400 → s.safe.blockA ≠ [] → s.safe.blockB ≠ [] → exec .paramCrcCompare s =
        .next { s with safe.copy0 := s.safe.blockA, safe.copy1 := s.safe.blockA }) ∧
      (s.safe.blockA = [] → s.safe.blockB = [] → exec .paramCrcCompare s = .next s))) ∧
  (∀ (s : State) (h : Hdr), s.Allowed 0x0E06 rOperator h → ∃ t u : State, exec (.safeStop h) s = .next t ∧ s.LockedBy u .hostStop 1 ∧
    u.Done t 0x0E06 h .ok []) ∧
  (∀ (s : State) (h : Hdr) (m : ResetRead), s.Allowed 0x0E05 rSafety h →
    (s.mode = mSTANDBY → ∃ t, exec (.safeReset h m) s = .next t ∧ s.Done t 0x0E05 h .ok []) ∧
    (s.mode ≠ mSTANDBY → s.isOn F.SAFE_RST_CMD_SEEN = true → exec (.safeReset h m) s = .next (s.refuseCmd 0x0E05 rSafety h .busy)) ∧
    (s.mode ≠ mSTANDBY → s.isOn F.SAFE_RST_CMD_SEEN = false → s.isOn F.SAFE_RST_PULSE_SEEN = false → ∃ t u : State,
      exec (.safeReset h m) s = .next t ∧ u.Accepted t 0x0E05 h 0 [] ∧ u.isOn F.SAFE_STATUS_RESET_WINDOW = true ∧
      u.isOn F.SAFE_RST_CMD_SEEN = true ∧ u.rd F.SAFE_RST_WINDOW_MS = 10000 ∧ u.mode = s.mode ∧
      u.safe = { s.safe with windowAt := s.time.count }) ∧
    (s.mode ≠ mSTANDBY → s.isOn F.SAFE_RST_CMD_SEEN = false → s.isOn F.SAFE_RST_PULSE_SEEN = true →
      (s.othersCleared m = true → s.hasCause .weldKn = false → ∃ t u : State, exec (.safeReset h m) s = .next t ∧ u.Done t 0x0E05 h .ok [] ∧
        u.mode = mSTANDBY ∧ u.safe.causes = 0 ∧ u.isOn F.SAFE_STATUS_LOCKOUT = false ∧ u.isOn F.SAFE_STATUS_RESET_WINDOW = false) ∧
      (s.othersCleared m = false ∨ (s.hasCause .weldKn = true ∧ (s.fbHealthy 5 = false ∨ s.isOn F.SAFE_OUT_COIL_SUPPLY = false)) → ∃ t u : State,
        exec (.safeReset h m) s = .next t ∧ u.Done t 0x0E05 h .safety [] ∧ u.isOn F.SAFE_STATUS_RESET_WINDOW = false ∧
        u.isOn F.SAFE_RST_CMD_SEEN = false ∧ u.isOn F.SAFE_RST_PULSE_SEEN = false ∧ u.safe.causes = s.safe.causes ∧ u.mode = s.mode) ∧
      (s.othersCleared m = true → s.hasCause .weldKn = true → s.fbHealthy 5 = true → s.isOn F.SAFE_OUT_COIL_SUPPLY = true → ∃ t u : State,
        exec (.safeReset h m) s = .next t ∧ u.Accepted t 0x0E05 h 0 [] ∧ u.safe.weldTest = true ∧ u.outOn 2 = true ∧ u.mode = s.mode))) ∧
  (∀ (s : State) (h : Hdr) (k : Nat), s.Allowed 0x0E07 rMaintainer h →
    (s.segOk k = false → exec (.withdrawAnnounce h k) s = .next (s.refuseCmd 0x0E07 rMaintainer h .range)) ∧
    (s.segOk k = true → s.paramValid = false ∨ s.currentValid = false ∨ 1000 * pSvcMax s.safe.blockA < s.current.natAbs →
      exec (.withdrawAnnounce h k) s = .next (s.refuseCmd 0x0E07 rMaintainer h .safety)) ∧
    (s.segOk k = true → s.paramValid = true → s.currentValid = true → s.current.natAbs ≤ 1000 * pSvcMax s.safe.blockA →
      (s.wdSlot ≠ 0 → exec (.withdrawAnnounce h k) s = .next (s.refuseCmd 0x0E07 rMaintainer h .busy)) ∧
      (s.wdSlot = 0 → k ≤ 26 → ∃ t u : State, exec (.withdrawAnnounce h k) s = .next t ∧ u.Done t 0x0E07 h .ok [] ∧ u.wdSlot = k ∧
        u.rd F.SAFE_WITHDRAW_REMAIN_S = pWithdrawS s.safe.blockA % 65536 ∧ u.isOn F.SAFE_STATUS_WITHDRAW_ACTIVE = true ∧
        u.rd F.SEG_TONE_BYPASS = 2 ^ (k - 1) ∧ u.safe = { s.safe with wdAt := s.time.count } ∧ u.mode = s.mode ∧ u.causeCardLost k = u))) ∧
  (∀ (s : State) (h : Hdr), s.Allowed 0x0E08 rMaintainer h →
    (s.wdSlot = 0 → ∃ t, exec (.withdrawCancel h) s = .next t ∧ s.Done t 0x0E08 h .ok []) ∧
    (s.wdSlot ≠ 0 → ∃ t u : State, exec (.withdrawCancel h) s = .next t ∧ u.Done t 0x0E08 h .ok [] ∧ u.wdSlot = 0 ∧
      u.isOn F.SAFE_STATUS_WITHDRAW_ACTIVE = false ∧ u.rd F.SEG_TONE_BYPASS = 0 ∧
      ((s.segOf s.wdSlot).present = true → s.seg.armed = false ∨ s.endWithdrawal.toneThrough = true → u.safe = s.safe ∧ u.mode = s.mode) ∧
      ((s.segOf s.wdSlot).present = true → s.seg.armed = true → s.endWithdrawal.toneThrough = false → u.hasCause .tone = true) ∧
      ((s.segOf s.wdSlot).present = false → u.hasCause .cardLost = true ∧ s.wdSlot ∈ u.safe.withdraw.lost ∧ s.SwitchedOff u ∧
        (s.seg.armed = false → s.LockedBy u .cardLost 1)))) ∧
  (∀ s : State, (s.wdSlot = 0 → exec .withdrawTimeout s = .next s) ∧
    (s.wdSlot ≠ 0 → ∃ t, exec .withdrawTimeout s = .next t ∧ t.hasCause .withdraw = true ∧ s.wdSlot ∈ t.safe.withdraw.raised ∧ t.wdSlot = 0 ∧
      t.rd F.SEG_TONE_BYPASS = 0 ∧ s.SwitchedOff t ∧ (s.safe.modeEntered = true → s.mode ≠ mSHELF → t.mode = mLOCKOUT) ∧
      (s.segLive s.wdSlot = false → t.hasCause .tone = true) ∧
      ((s.segOf s.wdSlot).present = false → t.hasCause .cardLost = true ∧ s.wdSlot ∈ t.safe.withdraw.lost)))

/-- What raises a cause, and what a cause does. (Readings of the model: assumption log 14, 31, 35, 64, 190, 191.) -/
def Obligations.LockoutLatchesAndStops : Prop :=
  (∀ (s : State) (c : Cause) (ch : Nat), (c ≠ .inputDemand ∧ c ≠ .stwLow) ∨ s.closed = true → s.LockedBy (s.raiseCause c ch) c ch) ∧
  (∀ (s : State) (ch : Nat), s.closed = false →
    s.raiseCause .inputDemand ch = s.wr F.SYS_MODE_READY_BLOCK (s.rd F.SYS_MODE_READY_BLOCK ||| 0x20) ∧
    s.raiseCause .stwLow ch = s.wr F.SYS_MODE_READY_BLOCK (s.rd F.SYS_MODE_READY_BLOCK ||| 0x80)) ∧
  (∀ (s : State) (p : Int), (p.natAbs ≤ 20000 → exec (.clock p) s = .next s) ∧
    (20000 < p.natAbs → ∃ t, exec (.clock p) s = .next t ∧ s.LockedBy t .clock 2)) ∧
  (∀ s : State, ∃ t, exec .xlinkLost s = .next t ∧ s.LockedBy t .xlink 3 ∧ t.isOn F.SAFE_STATUS_XLINK_OK = false) ∧
  (∀ (s : State) (ch : Nat), ∃ t, exec (.xlinkDemand ch) s = .next t ∧ t.switches &&& (if ch = 0 then 0x111 else 0x444) = 0 ∧
    t.switches &&& (if ch = 0 then 0xEEE else 0xBBB) = s.switches &&& (if ch = 0 then 0xEEE else 0xBBB) ∧ t.mode = s.mode ∧ t.safe = s.safe ∧
    (∀ o, o < 3 → t.outOn o = false)) ∧
  (∀ (s : State) (i : Nat),
    ((s.inClass i = 1 ∨ s.inClass i = 2) → ((s.input i).st = .demand ∧ (s.input i).both = false) ∨ (s.input i).st = .back →
      ∃ t, exec (.discrepancy i) s = .next t ∧ s.LockedBy t .discrepancy 3 ∧ (t.input i).disc = true ∧ t.inDemand i = true) ∧
    ((s.inClass i ≠ 1 ∧ s.inClass i ≠ 2) ∨ (s.input i).st = .healthy ∨ ((s.input i).st = .demand ∧ (s.input i).both = true) →
      exec (.discrepancy i) s = .next s)) ∧
  (∀ s : State, (s.safe.ssdDelay = false → exec .ssdDelayExpiry s = .next s) ∧
    (s.safe.ssdDelay = true → s.closed = true → ∃ t, exec .ssdDelayExpiry s = .next t ∧ s.LockedBy t .inputDemand 3 ∧ t.safe.ssdDelay = false) ∧
    (s.safe.ssdDelay = true → s.closed = false → ∃ t, exec .ssdDelayExpiry s = .next t ∧ t.mode = s.mode ∧ t.safe = { s.safe with ssdDelay := false } ∧
      (t.rd F.SYS_MODE_READY_BLOCK).testBit 5 = true)) ∧
  (∀ (s : State) (i : Nat), 1 ≤ i → i ≤ 8 →
    (s.inClass i = 3 → s.fbAgrees i = false → ∃ t, exec (.feedbackTimeout i) s = .next t ∧ s.LockedBy t .feedback 3 ∧
      (t.rd F.SAFE_IN_FAULT_FEEDBACK_FAULT).testBit (i - 1) = true) ∧
    (s.inClass i ≠ 3 ∨ s.fbAgrees i = true → exec (.feedbackTimeout i) s = .next s)) ∧
  (∀ (s : State) (o : Nat),
    (o ≤ 2 → s.outOn o = true → s.safe.closing = .idle → s.safe.closedAt + 50000000 ≤ s.time.count → ∃ t,
      exec (.outputTestPulse o false) s = .next t ∧ s.LockedBy t .output (s.plumbIdx / 4000 % 2 + 1) ∧
      (t.rd F.SAFE_OUT_TEST_FAIL).testBit o = true) ∧
    (2 < o ∨ s.outOn o = false ∨ s.safe.closing ≠ .idle ∨ s.time.count < s.safe.closedAt + 50000000 →
      exec (.outputTestPulse o false) s = .next s) ∧
    exec (.outputTestPulse o true) s = .next s) ∧
  (∀ (s : State) (k j ch x : Nat) (hi : Bool) (v : Int), s.safe.blockA = [] → exec (.svwCountExpiry k j hi v) s = .next s ∧
    exec (.svwFrame k j hi) s = .next s ∧ exec (.slcPeak ch x) s = .next s ∧ exec (.slcTime ch x) s = .next s ∧
    exec (.sdiTrip hi ch x) s = .next s ∧ exec .stwSensor s = .next s ∧ exec (.stwTrip k ch) s = .next s) ∧
  (∀ (s : State) (k j : Nat) (hi : Bool) (v : Int), s.safe.blockA ≠ [] →
    (s.segOk k = true → 1 ≤ j → j ≤ 16 →
      (if s.wdSlot = k then shadowOut s.safe.blockA v hi = true else 4 * u8 s.safe.blockA 36 ≤ s.svwFor k j hi) → ∃ t,
      exec (.svwCountExpiry k j hi v) s = .next t ∧ s.LockedBy t (if hi then .svwHigh else .svwLow) 1 ∧ t.isOn F.SAFE_STATUS_SVW_DEMAND = true) ∧
    (s.segOk k = false ∨ j = 0 ∨ 16 < j ∨ (if s.wdSlot = k then shadowOut s.safe.blockA v hi = false else s.svwFor k j hi < 4 * u8 s.safe.blockA 36) →
      exec (.svwCountExpiry k j hi v) s = .next s) ∧
    (s.segOk k = true → 1 ≤ j → j ≤ 16 → 4 * u8 s.safe.blockA 40 ≤ s.svwFor k j hi → ∃ t, exec (.svwFrame k j hi) s = .next t ∧
      s.LockedBy t .svwFrame 2 ∧ t.isOn F.SAFE_STATUS_SVW_DEMAND = true) ∧
    (s.segOk k = false ∨ j = 0 ∨ 16 < j ∨ s.svwFor k j hi < 4 * u8 s.safe.blockA 40 → exec (.svwFrame k j hi) s = .next s)) ∧
  (∀ (s : State) (ch x : Nat) (chg : Bool), s.safe.blockA ≠ [] →
    (∀ p : Prop, p = (if ch = 1 then 2 ≤ s.cim.slcPk else ((1000 * pHallPeak s.safe.blockA : Nat) : Rat) < s.hallMa x) →
      (p → ∃ t, exec (.slcPeak ch x) s = .next t ∧ s.LockedBy t .slcPeak ch) ∧ (¬p → exec (.slcPeak ch x) s = .next s)) ∧
    (∀ p : Prop, p = (if ch = 1 then 4 * u16 s.safe.blockA 48 ≤ s.cim.slcTm else
        ((1000 * (if s.safe.svcSignal = true ∨ s.isOn F.SAFE_STATUS_XLINK_OK = false then pSvcMax s.safe.blockA else pHallMax s.safe.blockA) : Nat) : Rat) <
          s.hallMa x) →
      (p → ∃ t, exec (.slcTime ch x) s = .next t ∧ s.LockedBy t .slcTime ch) ∧ (¬p → exec (.slcTime ch x) s = .next s)) ∧
    (∀ p : Prop, p = (s.isOn (if chg then F.SAFE_STATUS_SDI_CHG else F.SAFE_STATUS_SDI_DIS) = true ∧
        if ch = 1 then 4 * u16 s.safe.blockA 60 ≤ (if chg then s.cim.sdiChg else s.cim.sdiDis) else
          ((max (100 * pSdiTol s.safe.blockA) (10 * pHallFs s.safe.blockA) : Nat) : Rat) < s.hallMa x) →
      (p → ∃ t, exec (.sdiTrip chg ch x) s = .next t ∧ s.LockedBy t (if chg then .sdiChg else .sdiDis) ch) ∧
      (¬p → exec (.sdiTrip chg ch x) s = .next s)) ∧
    (s.ntcFaulty = true → ∃ t, exec .stwSensor s = .next t ∧ s.LockedBy t .stwSensor 1) ∧
    (s.ntcFaulty = false → exec .stwSensor s = .next s)) ∧
  (∀ (s : State) (ch : Nat), s.safe.blockA ≠ [] →
    (∀ k, s.stwHolds k ch = false → exec (.stwTrip k ch) s = .next s) ∧
    (s.stwHolds 0 ch = true → ∃ t, exec (.stwTrip 0 ch) s = .next t ∧ s.LockedBy t .stwHigh ch ∧ t.isOn F.SAFE_STATUS_STW_DEMAND = true) ∧
    (s.stwHolds 1 ch = true → s.closed = true → ∃ t, exec (.stwTrip 1 ch) s = .next t ∧ s.LockedBy t .stwLow ch) ∧
    (s.stwHolds 1 ch = true → s.closed = false → ∃ t, exec (.stwTrip 1 ch) s = .next t ∧ t.safe = { s.safe with lowOpen := true } ∧ t.mode = s.mode ∧
      (t.rd F.SYS_MODE_READY_BLOCK).testBit 7 = true) ∧
    (s.stwHolds 2 ch = true → ∃ t, exec (.stwTrip 2 ch) s = .next t ∧ t.isOn F.SAFE_STATUS_SDI_CHG = true ∧ t.switches = s.switches ∧
      t.mode = s.mode ∧ t.safe = { s.safe with stwInhibit := true }) ∧
    (∀ k, 3 ≤ k → s.stwHolds k ch = true → (s.closed = true → exec (.stwTrip k ch) s = .next s) ∧
      (s.closed = false → ∃ t, exec (.stwTrip k ch) s = .next t ∧ t.safe = { s.safe with startOut := true } ∧ t.mode = s.mode ∧
        (t.rd F.SYS_MODE_READY_BLOCK).testBit 7 = true)))

/-- Inputs, reset parts and readbacks. (Readings of the model: assumption log 14, 34, 140, 192.) -/
def Obligations.SafetyInputsAndReset : Prop :=
  (∀ (s : State) (i ch : Nat) (d : Bool), i = 0 ∨ 8 < i → exec (.safetyInputChange i ch d) s = .next s) ∧
  (∀ (s : State) (i ch : Nat), 1 ≤ i → i ≤ 8 → s.inClass i = 1 ∨ s.inClass i = 2 →
    ((s.input i).st = .healthy → ∃ t, exec (.safetyInputChange i ch true) s = .next t ∧ (t.input i).st = .demand ∧ t.inDemand i = true ∧
      (t.rd F.SAFE_IN_DEMAND).testBit (i - 1) = true ∧ t.switches = s.switches ∧ t.mode = s.mode ∧ t.safe.causes = s.safe.causes ∧
      (s.inFn i = 1 → t.isOn F.SAFE_STATUS_SSD_DEMAND = true ∧
        (s.closed = true → s.isOn F.SAFE_STATUS_SSD_DEMAND = false → t.safe.ssdDelay = true)) ∧
      (s.inFn i = 2 → t.isOn F.SAFE_STATUS_SDI_CHG = true) ∧ (s.inFn i = 3 → t.isOn F.SAFE_STATUS_SDI_DIS = true)) ∧
    ((s.input i).st = .back → (s.input i).disc = false → (if ch = 0 then (s.input i).b else (s.input i).a) = false → ∃ t,
      exec (.safetyInputChange i ch false) s = .next t ∧ (t.input i).st = .healthy ∧ t.inDemand i = false ∧
      (t.rd F.SAFE_IN_DEMAND).testBit (i - 1) = false) ∧
    ((s.input i).st ≠ .healthy → (s.input i).disc = true → (s.input i).both = true → (if ch = 0 then (s.input i).b else (s.input i).a) = false → ∃ t,
      exec (.safetyInputChange i ch false) s = .next t ∧ (t.input i).st = .healthy ∧ (t.input i).disc = false ∧
      (t.rd F.SAFE_IN_DISCREPANCY).testBit (i - 1) = false)) ∧
  (∀ (s : State) (i ch : Nat) (d : Bool), 1 ≤ i → i ≤ 8 → s.inClass i = 3 →
    (d ≠ s.outOn (s.inFn i - 4) → ∃ t, exec (.safetyInputChange i ch d) s = .next t ∧ s.LockedBy t .feedback 3) ∧
    (d = s.outOn (s.inFn i - 4) → ∃ t, exec (.safetyInputChange i ch d) s = .next t ∧ t.switches = s.switches ∧ t.mode = s.mode ∧
      (if ch = 0 then (t.input i).a else (t.input i).b) = d)) ∧
  (∀ (s : State) (src la lb ha hb i : Nat), 1 ≤ i → i ≤ 8 → s.inClass i = 2 → ∃ t, exec (.inputTestPulse src la lb ha hb) s = .next t ∧
    t.isOn (if src = 0 then F.SAFE_IN_FAULT_TP1_OK else F.SAFE_IN_FAULT_TP2_OK) = true ∧
    (ha / 2 ^ (i - 1) % 2 = 1 → (s.input i).a = false →
      (src = 0 → (t.input i).ownA = (if la / 2 ^ (i - 1) % 2 = 1 then 0 else (s.input i).ownA + 1)) ∧
      (src ≠ 0 → (t.input i).otherA = (if la / 2 ^ (i - 1) % 2 = 1 then (s.input i).otherA + 1 else 0)) ∧
      ((src = 0 ∧ la / 2 ^ (i - 1) % 2 = 0 ∧ 1 ≤ (s.input i).ownA) ∨ (src ≠ 0 ∧ la / 2 ^ (i - 1) % 2 = 1 ∧ 1 ≤ (s.input i).otherA) →
        t.hasCause .pulse = true ∧ (t.rd F.SAFE_IN_FAULT_PULSE_FAULT).testBit (i - 1) = true ∧ s.SwitchedOff t)) ∧
    (hb / 2 ^ (i - 1) % 2 = 1 → (s.input i).b = false →
      (src ≠ 0 → (t.input i).ownB = (if lb / 2 ^ (i - 1) % 2 = 1 then 0 else (s.input i).ownB + 1)) ∧
      (src = 0 → (t.input i).otherB = (if lb / 2 ^ (i - 1) % 2 = 1 then (s.input i).otherB + 1 else 0)) ∧
      ((src ≠ 0 ∧ lb / 2 ^ (i - 1) % 2 = 0 ∧ 1 ≤ (s.input i).ownB) ∨ (src = 0 ∧ lb / 2 ^ (i - 1) % 2 = 1 ∧ 1 ≤ (s.input i).otherB) →
        t.hasCause .pulse = true ∧ (t.rd F.SAFE_IN_FAULT_PULSE_FAULT).testBit (i - 1) = true ∧ s.SwitchedOff t)) ∧
    (ha / 2 ^ (i - 1) % 2 = 1 → (s.input i).a = false → hb / 2 ^ (i - 1) % 2 = 1 → (s.input i).b = false → src = 0 →
      la / 2 ^ (i - 1) % 2 = 1 → lb / 2 ^ (i - 1) % 2 = 0 → (s.input i).otherA < 2 → (s.input i).ownB < 2 → 9 ≤ (s.input i).passed →
      (t.rd F.SAFE_IN_FAULT_PULSE_FAULT).testBit (i - 1) = false) ∧
    (ha / 2 ^ (i - 1) % 2 = 0 ∨ (s.input i).a = true → (t.input i).ownA = (s.input i).ownA ∧ (t.input i).otherA = (s.input i).otherA)) ∧
  (∀ (s : State) (cs os w : Nat) (m : ResetRead),
    (20000 < cs ∨ 20000 < os → ∃ t, exec (.rstPulse cs os w m) s = .next t ∧ t.isOn F.SAFE_RST_RST_DISC = true ∧ t.mode = s.mode ∧ t.safe = s.safe ∧
      t.rd F.SAFE_RST_PULSE_SEEN = s.rd F.SAFE_RST_PULSE_SEEN) ∧
    (cs ≤ 20000 → os ≤ 20000 → 2000000 < w → ∃ t, exec (.rstPulse cs os w m) s = .next t ∧ t.isOn F.SAFE_RST_RST_STUCK = true ∧ t.mode = s.mode ∧
      t.safe = s.safe ∧ t.rd F.SAFE_RST_PULSE_SEEN = s.rd F.SAFE_RST_PULSE_SEEN) ∧
    (cs ≤ 20000 → os ≤ 20000 → w < 100000 ∨ (w ≤ 2000000 ∧ (s.mode ≠ mLOCKOUT ∨ s.isOn F.SAFE_RST_PULSE_SEEN = true)) → ∃ t,
      exec (.rstPulse cs os w m) s = .next t ∧ t.mode = s.mode ∧ t.safe = s.safe ∧ t.rd F.SAFE_RST_PULSE_SEEN = s.rd F.SAFE_RST_PULSE_SEEN ∧
      t.rd F.SAFE_RST_WINDOW_MS = s.rd F.SAFE_RST_WINDOW_MS) ∧
    (cs ≤ 20000 → os ≤ 20000 → 100000 ≤ w → w ≤ 2000000 → s.mode = mLOCKOUT → s.isOn F.SAFE_RST_PULSE_SEEN = false →
      (s.isOn F.SAFE_RST_CMD_SEEN = false → ∃ t, exec (.rstPulse cs os w m) s = .next t ∧ t.isOn F.SAFE_RST_PULSE_SEEN = true ∧
        t.isOn F.SAFE_STATUS_RESET_WINDOW = true ∧ t.rd F.SAFE_RST_WINDOW_MS = 10000 ∧ t.mode = mLOCKOUT ∧
        t.safe = { s.safe with windowAt := s.time.count }) ∧
      (s.isOn F.SAFE_RST_CMD_SEEN = true → s.othersCleared m = true → s.hasCause .weldKn = false → ∃ t, exec (.rstPulse cs os w m) s = .next t ∧
        t.mode = mSTANDBY ∧ t.safe.causes = 0 ∧ t.isOn F.SAFE_STATUS_LOCKOUT = false ∧ t.isOn F.SAFE_STATUS_RESET_WINDOW = false ∧
        (∀ k, 1 ≤ k → k ≤ s.segs → k ≤ 26 → s.rd (F.SEG_CMP_OV_LATCH k) < 65536 → s.rd (F.SEG_CMP_UV_LATCH k) < 65536 →
          t.rd (F.SEG_CMP_OV_LATCH k) = s.rd (F.SEG_CMP_OV_LATCH k) - (s.clearable m.rel k).1 ∧
          t.rd (F.SEG_CMP_UV_LATCH k) = s.rd (F.SEG_CMP_UV_LATCH k) - (s.clearable m.rel k).2)) ∧
      (s.isOn F.SAFE_RST_CMD_SEEN = true → s.othersCleared m = false ∨
          (s.hasCause .weldKn = true ∧ (s.fbHealthy 5 = false ∨ s.isOn F.SAFE_OUT_COIL_SUPPLY = false)) → ∃ t, exec (.rstPulse cs os w m) s = .next t ∧
        t.mode = mLOCKOUT ∧ t.safe.causes = s.safe.causes ∧ t.isOn F.SAFE_STATUS_RESET_WINDOW = false ∧ t.isOn F.SAFE_RST_CMD_SEEN = false ∧
        (∀ o, s.opOf 0x0E05 0 = some o → t.hrt.ops = s.hrt.ops.erase o ∧ (s.isOn F.HRT_STATUS_RINGS_RUNNING = true →
          ∃ c, c.opcode = 0x0E05 ∧ c.tag = o.tag ∧ c.kind = 2 ∧ c.status = .safety ∧ t.handed = s.handed ++ [c]))) ∧
      (s.isOn F.SAFE_RST_CMD_SEEN = true → s.othersCleared m = true → s.hasCause .weldKn = true → s.fbHealthy 5 = true →
        s.isOn F.SAFE_OUT_COIL_SUPPLY = true → ∃ t, exec (.rstPulse cs os w m) s = .next t ∧ t.mode = mLOCKOUT ∧ t.safe.weldTest = true ∧
        t.outOn 2 = true ∧ t.safe.causes = s.safe.causes))) ∧
  (∀ s : State, (s.isOn F.SAFE_STATUS_RESET_WINDOW = false ∨ (s.isOn F.SAFE_RST_PULSE_SEEN = true ∧ s.isOn F.SAFE_RST_CMD_SEEN = true) →
      exec .resetWindowExpiry s = .next s) ∧
    (s.isOn F.SAFE_STATUS_RESET_WINDOW = true → s.isOn F.SAFE_RST_PULSE_SEEN = false ∨ s.isOn F.SAFE_RST_CMD_SEEN = false → ∃ t,
      exec .resetWindowExpiry s = .next t ∧ t.isOn F.SAFE_STATUS_RESET_WINDOW = false ∧ t.isOn F.SAFE_RST_PULSE_SEEN = false ∧
      t.isOn F.SAFE_RST_CMD_SEEN = false ∧ t.safe.causes = s.safe.causes ∧ t.mode = s.mode ∧
      (∀ o, s.opOf 0x0E05 0 = some o → t.hrt.ops = s.hrt.ops.erase o ∧ (s.isOn F.HRT_STATUS_RINGS_RUNNING = true →
        ∃ c, c.opcode = 0x0E05 ∧ c.tag = o.tag ∧ c.kind = 2 ∧ c.status = .timeout ∧ t.handed = s.handed ++ [c])))) ∧
  (∀ (s : State) (rel : List (Nat × Nat)), (s.safe.weldTest = false → exec (.weldTestCloseEnd rel) s = .next s) ∧
    (s.safe.weldTest = true → s.safe.peak < 10 * pPcWeld s.safe.blockA → ∃ t, exec (.weldTestCloseEnd rel) s = .next t ∧ t.mode = mSTANDBY ∧
      t.safe.causes = 0 ∧ t.outOn 2 = false) ∧
    (s.safe.weldTest = true → 10 * pPcWeld s.safe.blockA ≤ s.safe.peak → ∃ t, exec (.weldTestCloseEnd rel) s = .next t ∧ t.mode = s.mode ∧
      t.safe.causes = s.safe.causes ∧ t.outOn 2 = false ∧ t.safe.weldTest = false ∧ t.isOn F.SAFE_STATUS_RESET_WINDOW = false)) ∧
  (∀ s : State, exec .rstStuckClear s = .next (s.wr F.SAFE_RST_RST_STUCK 0)) ∧
  (∀ (s : State) (rb low : Nat) (sup supLow beats : Bool), ∃ t, exec (.outputReadback rb low sup supLow beats) s = .next t ∧
    t.isOn F.SAFE_OUT_COIL_SUPPLY = sup ∧ t.isOn F.SAFE_STATUS_XLINK_OK = beats ∧
    (∀ o, o ≤ 2 → (Tbl.get {} t.safe.outs o).stuckHs = (if hasBit rb (2 ^ (2 * o)) && !hasBit s.switches (cmdBit o 0) then
        (Tbl.get {} s.safe.outs o).stuckHs + 1 else 0) ∧
      (Tbl.get {} t.safe.outs o).stuckLs = (if hasBit rb (2 ^ (2 * o + 1)) && !hasBit s.switches (cmdBit o 1) then
        (Tbl.get {} s.safe.outs o).stuckLs + 1 else 0) ∧
      (hasBit rb (2 ^ (2 * o)) = true → hasBit s.switches (cmdBit o 0) = false → (Tbl.get {} s.safe.outs o).stuckHs = 2 →
        t.hasCause .output = true ∧ t.switches &&& allCmds = 0) ∧
      (hasBit rb (2 ^ (2 * o + 1)) = true → hasBit s.switches (cmdBit o 1) = false → (Tbl.get {} s.safe.outs o).stuckLs = 2 →
        t.hasCause .output = true ∧ t.switches &&& allCmds = 0)) ∧
    ((∀ o d, o ≤ 2 → d ≤ 1 → hasBit rb (2 ^ (2 * o + d)) = true → hasBit s.switches (cmdBit o d) = true) →
      ((∀ o, o ≤ 2 → s.outOn o = true → hasBit low (2 ^ o) = false ∧ supLow = false) → t.mode = s.mode ∧ t.safe.causes = s.safe.causes ∧
        ∀ o d, o ≤ 2 → d ≤ 1 → hasBit t.switches (rbBit o d) = hasBit rb (2 ^ (2 * o + d)) ∧
          hasBit t.switches (cmdBit o d) = hasBit s.switches (cmdBit o d)) ∧
      (∀ o, o ≤ 2 → s.outOn o = true → hasBit low (2 ^ o) = true ∨ supLow = true → t.hasCause .coil = true ∧ t.switches &&& allCmds = 0 ∧
        (s.safe.modeEntered = true → s.mode ≠ mSHELF → t.mode = mLOCKOUT))) ∧
    t.closed = (s.closed && (numbersFrom 0 6).any fun i => hasBit rb (2 ^ i)) ∧
    (∀ a, s.safe.reactAt = some a → (∀ i, i < 6 → hasBit rb (2 ^ i) = false) → t.safe.reactAt = none ∧
      t.rd F.SAFE_REACT_LAST = satU 16 ((s.time.count - a) / 2500)))

/-- The steps of R281 and the early ends of R282. (Readings of the model: assumption log 14, 53.) -/
def Obligations.ClosingTheString : Prop :=
  (∀ s : State, (s.safe.closing ≠ .weldCheck → exec .weldCheckEnd s = .next s) ∧
    (s.safe.closing = .weldCheck → 10 * pPcWeld s.safe.blockA ≤ s.safe.peak → ∃ t, exec .weldCheckEnd s = .next t ∧ s.LockedBy t .weldKn 1 ∧
      t.rd F.SAFE_PRECHARGE_RESULT = 4) ∧
    (s.safe.closing = .weldCheck → s.safe.peak < 10 * pPcWeld s.safe.blockA → ∃ t, exec .weldCheckEnd s = .next t ∧ t.safe.closing = .precharge ∧
      t.safe.energy = 0 ∧ t.safe.instants = 0 ∧ t.safe.low = 0 ∧ t.outOn 1 = true ∧ t.outOn 2 = s.outOn 2 ∧ t.mode = s.mode ∧
      t.safe.causes = s.safe.causes ∧ t.closed = true)) ∧
  (∀ s : State, (s.safe.closing ≠ .precharge ∨ s.safe.instants < 800 ∨ s.safe.low < 400 → exec .prechargeDone s = .next s) ∧
    (s.safe.closing = .precharge → 800 ≤ s.safe.instants → 400 ≤ s.safe.low → ∃ t, exec .prechargeDone s = .next t ∧ t.safe.closing = .confirm ∧
      t.outOn 0 = true ∧ t.outOn 1 = s.outOn 1 ∧ t.rd F.SAFE_PRECHARGE_DURATION = s.safe.instants / 40 % 65536 ∧
      t.rd F.SAFE_PC_ENERGY_J = s.pcEnergy % 2 ^ 32 ∧ t.mode = s.mode)) ∧
  (∀ s : State, (s.safe.closing ≠ .confirm → exec .closeConfirm s = .next s) ∧
    (s.safe.closing = .confirm → s.fbAll = false → ∃ t, exec .closeConfirm s = .next t ∧ s.LockedBy t .feedback 3 ∧ t.rd F.SAFE_PRECHARGE_RESULT = 5) ∧
    (s.safe.closing = .confirm → s.fbAll = true → s.safe.confirmAt ≠ none → exec .closeConfirm s = .next s) ∧
    (s.safe.closing = .confirm → s.fbAll = true → s.safe.confirmAt = none → s.reloadOpen = true →
      exec .closeConfirm s = .next { s with safe.confirmAt := some s.time.count }) ∧
    (s.safe.closing = .confirm → s.fbAll = true → s.safe.confirmAt = none → s.reloadOpen = false → ∃ t, exec .closeConfirm s = .next t ∧
      t.mode = mRUN ∧ t.safe.closing = .idle ∧ t.outOn 2 = false ∧
      t.outOn 0 = s.outOn 0 ∧ t.outOn 1 = s.outOn 1 ∧ t.rd F.SAFE_STATUS_CLOSING = 0 ∧ t.rd F.SAFE_PRECHARGE_RESULT = 1) ∧
    (∀ a x y z, s.safe.confirmAt = some a → a + 2500000 ≤ s.time.count → ∃ t, exec (.plumbInstant x y z) s = .next t ∧ t.mode = mRUN ∧
      t.safe.closing = .idle ∧ t.safe.confirmAt = none)) ∧
  (∀ s : State, (s.safe.closing ≠ .precharge ∨ s.safe.instants < 4 * u16 s.safe.blockA 124 → exec .prechargeTimeout s = .next s) ∧
    (s.safe.closing = .precharge → 4 * u16 s.safe.blockA 124 ≤ s.safe.instants → ∃ t, exec .prechargeTimeout s = .next t ∧ s.SwitchedOff t ∧
      t.safe.closing = .idle ∧ t.rd F.SAFE_PRECHARGE_RESULT = 2 ∧ t.rd F.SAFE_PRECHARGE_DURATION = s.safe.instants / 40 % 65536 ∧
      t.mode = s.mode ∧ t.safe.causes = s.safe.causes ∧ t.safe.coolUntil = s.time.count + 15000000000 ∧
      (∀ o, s.opOf 0x0101 0 = some o → t.hrt.ops = s.hrt.ops.erase o ∧ (s.isOn F.HRT_STATUS_RINGS_RUNNING = true →
        ∃ c, c.opcode = 0x0101 ∧ c.tag = o.tag ∧ c.kind = 2 ∧ c.status = .safety ∧ t.handed = s.handed ++ [c]))))

/-- Host formats, for every width. -/
def Obligations.ValuesRoundAndKeepOffMarkers : Prop :=
  (∀ (a : Int) (b : Nat), 0 < b → 2 * (a - roundDiv a b * b).natAbs ≤ b ∧
    (2 * (a - roundDiv a b * b).natAbs = b → a.natAbs < (roundDiv a b).natAbs * b)) ∧
  (∀ (w : Nat) (x : Int), 2 ≤ w → satU w x ≠ markU w ∧ satU w x ≤ 2 ^ w - 2 ∧ (0 ≤ x → x ≤ 2 ^ w - 2 → (satU w x : Int) = x) ∧
    (x < 0 → satU w x = 0) ∧ ((2 : Int) ^ w - 2 < x → satU w x = 2 ^ w - 2)) ∧
  (∀ (w : Nat) (x : Int), 2 ≤ w → satS w x ≠ markS w ∧ (1 - 2 ^ (w - 1) ≤ x → x ≤ 2 ^ (w - 1) - 1 → toSigned w (satS w x) = x) ∧
    (x < 1 - 2 ^ (w - 1) → toSigned w (satS w x) = 1 - 2 ^ (w - 1)) ∧
    ((2 : Int) ^ (w - 1) - 1 < x → toSigned w (satS w x) = 2 ^ (w - 1) - 1)) ∧
  (∀ (w : Nat) (x : Int), 1 ≤ w → -2 ^ (w - 1) ≤ x → x < 2 ^ (w - 1) → toSigned w (ofSigned w x) = x ∧ ofSigned w x < 2 ^ w) ∧
  (∀ (w n : Nat), 1 ≤ w → n < 2 ^ w → ofSigned w (toSigned w n) = n)
end

