-- ==== Sys2Proof/Laws/Tables.lean ====
section
/-! SUPPORT. The laws of the tables and of the register file: what a read after a write gives, and that writing keeps the keys rising. -/

namespace Sys2Proof.Machine

theorem Tbl.get_put_same {α : Type} (d : α) (m : List (Nat × α)) (k : Nat) (x : α) : Tbl.get d (Tbl.put m k x) k = x := by
  induction m with
  | nil => simp [Tbl.put, Tbl.get]
  | cons p m ih =>
    obtain ⟨q, v⟩ := p
    unfold Tbl.put
    split
    · simp [Tbl.get]
    · split
      · simp [Tbl.get]
      · simp only [Tbl.get]; rw [if_neg (by omega)]; exact ih

theorem Tbl.get_put_ne {α : Type} (d : α) (m : List (Nat × α)) (k q : Nat) (x : α) (h : q ≠ k) :
    Tbl.get d (Tbl.put m k x) q = Tbl.get d m q := by
  induction m with
  | nil => simp [Tbl.put, Tbl.get, Ne.symm h]
  | cons p m ih =>
    obtain ⟨r, v⟩ := p
    unfold Tbl.put
    split
    · simp [Tbl.get, Ne.symm h]
    · split
      · subst r; simp [Tbl.get, Ne.symm h]
      · simp only [Tbl.get, ih]

/-- A table whose first key, if it has one, lies above `k` stays rising below a new entry `k`. -/
theorem Tbl.sorted_cons {α : Type} (k : Nat) (x : α) (m : List (Nat × α)) :
    Tbl.sorted ((k, x) :: m) = true ↔ (∀ p ∈ m.head?, k < p.1) ∧ Tbl.sorted m = true := by
  cases m with
  | nil => simp [Tbl.sorted]
  | cons p m => obtain ⟨q, v⟩ := p; simp [Tbl.sorted]

theorem Tbl.head_put {α : Type} (m : List (Nat × α)) (k : Nat) (x : α) :
    ∀ p ∈ (Tbl.put m k x).head?, p.1 = k ∨ ∃ q ∈ m.head?, p.1 = q.1 := by
  cases m with
  | nil => simp [Tbl.put]
  | cons q m => obtain ⟨q, v⟩ := q; unfold Tbl.put; split <;> (try split) <;> simp

theorem Tbl.sorted_put {α : Type} (m : List (Nat × α)) (k : Nat) (x : α) (h : Tbl.sorted m = true) :
    Tbl.sorted (Tbl.put m k x) = true := by
  induction m with
  | nil => simp [Tbl.put, Tbl.sorted]
  | cons p m ih =>
    obtain ⟨q, v⟩ := p
    rw [Tbl.sorted_cons] at h
    unfold Tbl.put
    split
    · rw [Tbl.sorted_cons, Tbl.sorted_cons]; exact ⟨by simpa, h⟩
    · split
      · subst q; rw [Tbl.sorted_cons]; exact h
      · rw [Tbl.sorted_cons]
        refine ⟨fun p hp => ?_, ih h.2⟩
        rcases Tbl.head_put m k x p hp with e | ⟨r, hr, e⟩
        · omega
        · have := h.1 r hr; omega

theorem Tbl.sorted_tail {α : Type} (p : Nat × α) (m : List (Nat × α)) (h : Tbl.sorted (p :: m) = true) : Tbl.sorted m = true := by
  obtain ⟨k, x⟩ := p; exact ((Tbl.sorted_cons k x m).1 h).2

/-- In a rising table every later key lies above the first. -/
theorem Tbl.sorted_lt {α : Type} (k : Nat) (x : α) (m : List (Nat × α)) (h : Tbl.sorted ((k, x) :: m) = true) :
    ∀ p ∈ m, k < p.1 := by
  induction m generalizing k x with
  | nil => simp
  | cons q m ih =>
    obtain ⟨q, v⟩ := q
    rw [Tbl.sorted_cons] at h
    intro p hp
    rcases List.mem_cons.1 hp with rfl | hp
    · simpa using h.1
    · have h1 := ih q v h.2 p hp
      have h2 : k < q := by simpa using h.1
      omega

theorem Tbl.sorted_filter {α : Type} (m : List (Nat × α)) (f : Nat × α → Bool) (h : Tbl.sorted m = true) :
    Tbl.sorted (m.filter f) = true := by
  induction m with
  | nil => simp [Tbl.sorted]
  | cons p m ih =>
    have ht := ih (Tbl.sorted_tail p m h)
    rw [List.filter_cons]
    split
    · obtain ⟨k, x⟩ := p
      rw [Tbl.sorted_cons]
      refine ⟨fun q hq => ?_, ht⟩
      have hm : q ∈ m.filter f := List.mem_of_mem_head? hq
      exact Tbl.sorted_lt k x m h q (List.mem_of_mem_filter hm)
    · exact ht

theorem Tbl.sorted_putAll (a m : List (Nat × Nat)) (h : Tbl.sorted m = true) : Tbl.sorted (Tbl.putAll m a) = true := by
  induction a generalizing m with
  | nil => exact h
  | cons p a ih => obtain ⟨k, v⟩ := p; exact ih _ (Tbl.sorted_put m k v h)

/-! ### The register file -/

/-- A field reads what was stored in it, modulo its width. -/
theorem State.rd_wr_same (s : State) (f : Field) (v : Nat) : (s.wr f v).rd f = v % 2 ^ f.width :=
  Tbl.get_put_same _ _ _ _

/-- Storing one field leaves every other field as it was. -/
theorem State.rd_wr_ne (s : State) (f g : Field) (v : Nat) (h : g.key ≠ f.key) : (s.wr f v).rd g = s.rd g :=
  Tbl.get_put_ne _ _ _ _ _ h

theorem State.rd_keep (s : State) (f g : Field) : (s.keep f).rd g = s.rd g := rfl

theorem State.rd_wrKeep_same (s : State) (f : Field) (v : Nat) : (s.wrKeep f v).rd f = v % 2 ^ f.width :=
  State.rd_wr_same s f v

theorem State.rd_wrKeep_ne (s : State) (f g : Field) (v : Nat) (h : g.key ≠ f.key) : (s.wrKeep f v).rd g = s.rd g :=
  State.rd_wr_ne s f g v h

/-- Storing a field keeps the register file's keys rising. -/
theorem State.sorted_wr (s : State) (f : Field) (v : Nat) (h : Tbl.sorted s.regs = true) : Tbl.sorted (s.wr f v).regs = true :=
  Tbl.sorted_put _ _ _ h

theorem State.sorted_resetRegs (s : State) (lo hi : Nat) (h : Tbl.sorted s.regs = true) :
    Tbl.sorted (s.resetRegs lo hi).regs = true :=
  Tbl.sorted_putAll _ _ (Tbl.sorted_filter _ _ h)

end Sys2Proof.Machine
end

