-- ==== Sys2Proof/Laws/Answer.lean ====
section
/-! SUPPORT. What carrying a record, an entry or a completion to the host may touch, once for every operation that does it. -/

namespace Sys2Proof.Machine

/-- `t` differs from `s` at most in what an answer moves. -/
structure State.Quiet (s t : State) : Prop where
  rest : s.SameRest t
  regs : s.SameRegs t answerKeys
  log : s.SameLog t
  ports : s.SamePorts t
  ops : t.hrt.ops = s.hrt.ops

theorem State.Quiet.refl (s : State) : s.Quiet s := ⟨rfl, fun _ _ => rfl, rfl, ⟨rfl, rfl, rfl, rfl, rfl, rfl⟩, rfl⟩

theorem State.SameRest.trans {s t u : State} (h : s.SameRest t) (k : t.SameRest u) : s.SameRest u := by
  unfold State.SameRest at *; rw [k, h]

theorem State.Quiet.trans {s t u : State} (h : s.Quiet t) (k : t.Quiet u) : s.Quiet u := by
  obtain ⟨h1, h2, h3, ⟨a1, a2, a3, a4, a5, a6⟩, h5⟩ := h
  obtain ⟨k1, k2, k3, ⟨b1, b2, b3, b4, b5, b6⟩, k5⟩ := k
  refine ⟨h1.trans k1, fun f hf => (k2 f hf).trans (h2 f hf), ?_, ⟨b1.trans a1, b2.trans a2, b3.trans a3, b4.trans a4,
    b5.trans a5, b6.trans a6⟩, k5.trans h5⟩
  unfold State.SameLog at *; rw [k3, h3]

/-- Storing a register that an answer moves is quiet. -/
theorem State.quiet_wr (s : State) (f : Field) (v : Nat) (hf : f.key ∈ answerKeys) : s.Quiet (s.wr f v) :=
  ⟨rfl, fun g hg => State.rd_wr_ne s f g v (fun e => hg (e ▸ hf)), rfl, ⟨rfl, rfl, rfl, rfl, rfl, rfl⟩, rfl⟩

theorem State.quiet_ring (s : State) (k : Nat) (r : Ring) : s.Quiet (s.setRing k r) :=
  ⟨rfl, fun _ _ => rfl, rfl, ⟨rfl, rfl, rfl, rfl, rfl, rfl⟩, rfl⟩

theorem State.quiet_sendFrame (s : State) (b : FrameBody) : s.Quiet (s.sendFrame b) :=
  ⟨rfl, fun _ _ => rfl, rfl, ⟨rfl, rfl, rfl, rfl, rfl, rfl⟩, rfl⟩

theorem State.quiet_sendFrames (s : State) (bs : List FrameBody) : s.Quiet (s.sendFrames bs) :=
  ⟨rfl, fun _ _ => rfl, rfl, ⟨rfl, rfl, rfl, rfl, rfl, rfl⟩, rfl⟩

theorem State.quiet_notify (s : State) (k : Nat) : s.Quiet (s.notify k) :=
  (State.quiet_ring s k _).trans (State.quiet_sendFrame _ _)

theorem mod_idx_mem {k : Nat} (h : k = 1 ∨ k = 4 ∨ k = 5) : (F.HRT_RING_MOD_IDX_INDEX k).key ∈ answerKeys := by
  rcases h with rfl | rfl | rfl <;> simp [answerKeys]

theorem State.quiet_publish (s : State) (k n : Nat) (h : k = 1 ∨ k = 4 ∨ k = 5) : s.Quiet (s.publish k n) := by
  unfold State.publish
  simp only []
  split
  · exact ((((State.quiet_sendFrames s _).trans (State.quiet_wr _ _ _ (mod_idx_mem h))).trans (State.quiet_sendFrame _ _)).trans
      (State.quiet_ring _ _ _)).trans (State.quiet_notify _ _)
  · exact (((State.quiet_sendFrames s _).trans (State.quiet_wr _ _ _ (mod_idx_mem h))).trans (State.quiet_sendFrame _ _)).trans
      (State.quiet_ring _ _ _)

theorem State.quiet_post (s : State) (r : Rec) : s.Quiet (s.post r) := by
  have h : ∀ v, s.Quiet (s.wr64 F.REC_SEQ_LO_VALUE F.REC_SEQ_HI_VALUE v) := fun v =>
    (State.quiet_wr s F.REC_SEQ_LO_VALUE v (by simp [answerKeys])).trans
      (State.quiet_wr _ F.REC_SEQ_HI_VALUE (v / two32) (by simp [answerKeys]))
  unfold State.post
  extract_lets _ _ s1
  by_cases c1 : r.fromStfP = false ∧ s.pwr.ctl = false
  · rw [if_pos c1]; exact State.Quiet.refl s
  · rw [if_neg c1]
    by_cases c2 : r.fromStfP = true ∧ s.bridgeUp = false
    · rw [if_pos c2]
      by_cases c3 : s1.recorder.stfpQ.length < 1024
      · rw [if_pos c3]; exact (h _).trans ⟨rfl, fun _ _ => rfl, rfl, ⟨rfl, rfl, rfl, rfl, rfl, rfl⟩, rfl⟩
      · rw [if_neg c3]; exact (h _).trans ⟨rfl, fun _ _ => rfl, rfl, ⟨rfl, rfl, rfl, rfl, rfl, rfl⟩, rfl⟩
    · rw [if_neg c2]; exact (h _).trans ⟨rfl, fun _ _ => rfl, rfl, ⟨rfl, rfl, rfl, rfl, rfl, rfl⟩, rfl⟩

/-- Posting a record leaves the host transport alone. -/
theorem State.post_hrt (s : State) (r : Rec) : (s.post r).hrt = s.hrt := by
  unfold State.post
  extract_lets _ _ s1
  by_cases c1 : r.fromStfP = false ∧ s.pwr.ctl = false
  · rw [if_pos c1]
  · rw [if_neg c1]
    by_cases c2 : r.fromStfP = true ∧ s.bridgeUp = false
    · rw [if_pos c2]
      by_cases c3 : s1.recorder.stfpQ.length < 1024
      · rw [if_pos c3]; rfl
      · rw [if_neg c3]; rfl
    · rw [if_neg c2]; rfl

theorem State.quiet_flush (n : Nat) (s : State) : s.Quiet (s.flushCompletions n) := by
  induction n generalizing s with
  | zero => exact State.Quiet.refl s
  | succ n ih =>
    unfold State.flushCompletions
    split
    · exact State.Quiet.refl s
    · split
      · refine State.Quiet.trans ?_ (ih _)
        refine State.Quiet.trans ?_ (State.quiet_publish _ 1 1 (.inl rfl))
        exact ⟨rfl, fun _ _ => rfl, rfl, ⟨rfl, rfl, rfl, rfl, rfl, rfl⟩, rfl⟩
      · exact State.Quiet.refl s

theorem State.publish_handed (s : State) (k n : Nat) : (s.publish k n).handed = s.handed := by
  unfold State.publish
  simp only []
  split <;> rfl

theorem State.publish_sent (s : State) (k n : Nat) : (s.publish k n).sent = s.sent := by
  unfold State.publish
  simp only []
  split <;> rfl

theorem State.flush_handed (n : Nat) (s : State) : (s.flushCompletions n).handed = s.handed := by
  induction n generalizing s with
  | zero => rfl
  | succ n ih =>
    unfold State.flushCompletions
    split
    · rfl
    · rename_i c t e
      split
      · rw [ih, State.publish_handed]; simp [State.handed, e]
      · rfl

theorem State.flush_sent (n : Nat) (s : State) : (s.flushCompletions n).sent = s.sent := by
  induction n generalizing s with
  | zero => rfl
  | succ n ih =>
    unfold State.flushCompletions
    split
    · rfl
    · split
      · rw [ih, State.publish_sent]; rfl
      · rfl

theorem State.quiet_emit (s : State) (c : Completion) : s.Quiet (s.emit c) := by
  unfold State.emit
  split
  · refine State.Quiet.trans ?_ (State.quiet_flush _ _)
    exact ⟨rfl, fun _ _ => rfl, rfl, ⟨rfl, rfl, rfl, rfl, rfl, rfl⟩, rfl⟩
  · exact State.quiet_post s _

/-- While the rings run a completion follows those before it; while they are off none is handed over (R377, R384). -/
theorem State.emit_handed (s : State) (c : Completion) :
    (s.emit c).handed = if s.isOn F.HRT_STATUS_RINGS_RUNNING then s.handed ++ [c] else s.handed := by
  unfold State.emit
  split
  · simp only []; rw [State.flush_handed]; simp [State.handed]
  · simp only [State.handed, State.post_hrt]

theorem State.emit_sent (s : State) (c : Completion) : (s.emit c).sent = s.sent := by
  unfold State.emit
  split
  · simp only []; rw [State.flush_sent]; rfl
  · simp only [State.sent, State.post_hrt]

theorem State.quiet_bulkConsume (s : State) (n : Nat) : s.Quiet (s.bulkConsume n) := by
  unfold State.bulkConsume
  simp only []
  split
  · exact ⟨rfl, fun _ _ => rfl, rfl, ⟨rfl, rfl, rfl, rfl, rfl, rfl⟩, rfl⟩
  · refine State.Quiet.trans (State.Quiet.trans ?_ (State.quiet_wr _ _ _ (mod_idx_mem (.inr (.inl rfl))))) (State.quiet_sendFrame _ _)
    exact ⟨rfl, fun _ _ => rfl, rfl, ⟨rfl, rfl, rfl, rfl, rfl, rfl⟩, rfl⟩

theorem State.quiet_untake (s : State) (op tag : Nat) : s.Quiet (s.untake op tag) := by
  unfold State.untake
  split
  · exact State.Quiet.refl s
  · simp only []
    split
    · exact ⟨rfl, fun _ _ => rfl, rfl, ⟨rfl, rfl, rfl, rfl, rfl, rfl⟩, rfl⟩
    · refine State.Quiet.trans ?_ (State.quiet_bulkConsume _ _)
      exact ⟨rfl, fun _ _ => rfl, rfl, ⟨rfl, rfl, rfl, rfl, rfl, rfl⟩, rfl⟩

theorem State.untake_lists (s : State) (op tag : Nat) : (s.untake op tag).handed = s.handed ∧ (s.untake op tag).sent = s.sent := by
  unfold State.untake State.bulkConsume
  split
  · exact ⟨rfl, rfl⟩
  · simp only []
    split
    · exact ⟨rfl, rfl⟩
    · split <;> exact ⟨rfl, rfl⟩

theorem State.quiet_pump (n : Nat) (s : State) : s.Quiet (s.pumpBulk n) := by
  induction n generalizing s with
  | zero => exact State.Quiet.refl s
  | succ n ih =>
    unfold State.pumpBulk
    split
    · exact State.Quiet.refl s
    · rename_i t ts e
      simp only []
      split
      · split
        · refine State.Quiet.trans (State.Quiet.trans ?_ (State.quiet_emit _ _)) (ih _)
          exact ⟨rfl, fun _ _ => rfl, rfl, ⟨rfl, rfl, rfl, rfl, rfl, rfl⟩, rfl⟩
        · refine State.Quiet.trans ((State.quiet_publish s 5 (min (s.ringFree 5) (t.entries - t.written)) (.inr (.inr rfl))).trans ?_) (ih _)
          refine State.Quiet.trans ?_ (State.quiet_emit _ _)
          exact ⟨rfl, fun _ _ => rfl, rfl, ⟨rfl, rfl, rfl, rfl, rfl, rfl⟩, rfl⟩
      · split
        · exact ⟨rfl, fun _ _ => rfl, rfl, ⟨rfl, rfl, rfl, rfl, rfl, rfl⟩, rfl⟩
        · refine State.Quiet.trans (State.quiet_publish s 5 (min (s.ringFree 5) (t.entries - t.written)) (.inr (.inr rfl))) ?_
          exact ⟨rfl, fun _ _ => rfl, rfl, ⟨rfl, rfl, rfl, rfl, rfl, rfl⟩, rfl⟩

theorem State.publish_transferred (s : State) (k n : Nat) : (s.publish k n).hrt.transferred = s.hrt.transferred := by
  unfold State.publish
  simp only []
  split <;> rfl

theorem State.pump_sent (n : Nat) (s : State) : (s.pumpBulk n).sent = s.sent := by
  induction n generalizing s with
  | zero => rfl
  | succ n ih =>
    unfold State.pumpBulk
    split
    · rfl
    · rename_i t ts e
      simp only []
      split
      · rw [ih, State.emit_sent]
        split <;> simp [State.sent, e, State.publish_transferred s 5 _]
      · split <;> simp [State.sent, e, State.publish_transferred s 5 _]

theorem State.quiet_complete (s : State) (op tag kind : Nat) (st : Status) (res : List Int) (i : Nat) :
    s.Quiet (s.complete op tag kind st res i) := State.quiet_emit s _

/-- While the rings run, a completion is handed to the host after those before it (R384). -/
theorem State.complete_told (s : State) (op tag kind : Nat) (st : Status) (res : List Int) (i : Nat)
    (on : s.isOn F.HRT_STATUS_RINGS_RUNNING = true) :
    ∃ c : Completion, c.opcode = op ∧ c.tag = tag ∧ c.kind = kind ∧ c.status = st ∧ c.result = res ∧
      (s.complete op tag kind st res i).handed = s.handed ++ [c] := by
  refine ⟨Completion.mk op st s.mode tag i kind s.now 0 0 res, rfl, rfl, rfl, rfl, rfl, ?_⟩
  unfold State.complete
  rw [State.emit_handed, if_pos on]

theorem State.quiet_cmdRec (s : State) (op : Nat) (h : Hdr) (st : Status) (sys : Bool) (d : List Byte) (m : Bool) :
    s.Quiet (s.cmdRec op h st sys d m) := State.quiet_post s _

theorem State.quiet_raise_free (s : State) (h : s.isOn F.HRT_STATUS_RINGS_RUNNING = true) {t : State} (q : s.Quiet t) :
    t.isOn F.HRT_STATUS_RINGS_RUNNING = true := by
  unfold State.isOn at *
  rw [q.regs F.HRT_STATUS_RINGS_RUNNING (by decide)]
  exact h

/-- The answer to a command done at once (R384). -/
theorem State.answer_done (s s1 : State) (op role : Nat) (h : Hdr) (res : List Int) :
    s1.Done (s.answer op role h (.done s1 res)) op h .ok res := by
  simp only [State.answer]
  generalize e : (if audited role = true then s1.cmdRec op h .ok else s1) = s2
  have q2 : s1.Quiet s2 := by
    subst e; split
    · exact State.quiet_cmdRec _ _ _ _ _ _ _
    · exact State.Quiet.refl _
  have h2 : s2.hrt = s1.hrt := by
    subst e; split
    · exact State.post_hrt _ _
    · rfl
  have q3 := q2.trans (State.quiet_untake s2 op h.tag)
  have q4 := q3.trans (State.quiet_complete _ op h.tag 0 .ok res (s.cmdIndex op h.tag))
  refine ⟨⟨q4.rest, q4.regs, q4.log, q4.ports, fun on => ?_⟩, q4.ops⟩
  have e1 := State.complete_told (s2.untake op h.tag) op h.tag 0 .ok res (s.cmdIndex op h.tag) (State.quiet_raise_free s1 on q3)
  obtain ⟨c, c1, c2, c3, c4, c5, c6⟩ := e1
  refine ⟨c, c1, c2, c3, c4, c5, ?_⟩
  rw [c6, (State.untake_lists _ _ _).1]
  unfold State.handed
  rw [h2]

/-- The answer ACCEPTED to a command (R44). -/
theorem State.answer_accept (s s1 : State) (op role : Nat) (h : Hdr) (key : Nat) (res : List Int) :
    s1.Accepted (s.answer op role h (.accept s1 key res)) op h key res := by
  simp only [State.answer]
  generalize e : (if audited role = true then s1.cmdRec op h .accepted else s1) = s2
  have q2 : s1.Quiet s2 := by
    subst e; split
    · exact State.quiet_cmdRec _ _ _ _ _ _ _
    · exact State.Quiet.refl _
  have h2 : s2.hrt = s1.hrt := by
    subst e; split
    · exact State.post_hrt _ _
    · rfl
  have q3 := q2.trans (State.quiet_untake s2 op h.tag)
  let o : Op := { opcode := op, tag := h.tag, index := s.cmdIndex op h.tag, port := h.port, key := key }
  let s3 : State := { s2.untake op h.tag with hrt.ops := (s2.untake op h.tag).hrt.ops ++ [o] }
  have q4 : s3.Quiet (s3.complete op h.tag 1 .accepted res (s.cmdIndex op h.tag)) := State.quiet_complete _ _ _ _ _ _ _
  have r3 : s1.SameRest s3 := q3.rest.trans rfl
  have l3 : s1.SameLog s3 := q3.log
  refine ⟨⟨r3.trans q4.rest, fun f hf => (q4.regs f hf).trans (q3.regs f hf), ?_, ?_, fun on => ?_⟩, o, rfl, rfl, rfl, ?_⟩
  · have := q4.log
    unfold State.SameLog at *
    rw [this, l3]
  · obtain ⟨a1, a2, a3, a4, a5, a6⟩ := q3.ports
    obtain ⟨b1, b2, b3, b4, b5, b6⟩ := q4.ports
    exact ⟨b1.trans a1, b2.trans a2, b3.trans a3, b4.trans a4, b5.trans a5, b6.trans a6⟩
  · have on3 : s3.isOn F.HRT_STATUS_RINGS_RUNNING = true :=
      (State.quiet_raise_free s1 on q3 : (s2.untake op h.tag).isOn F.HRT_STATUS_RINGS_RUNNING = true)
    obtain ⟨c, c1, c2, c3, c4, c5, c6⟩ := State.complete_told s3 op h.tag 1 .accepted res (s.cmdIndex op h.tag) on3
    refine ⟨c, c1, c2, c3, c4, c5, ?_⟩
    show (s3.complete op h.tag 1 .accepted res (s.cmdIndex op h.tag)).handed = _
    have : s3.handed = s1.handed := ((State.untake_lists s2 op h.tag).1).trans (by unfold State.handed; rw [h2])
    rw [c6, this]
  · exact q4.ops.trans (by show (s2.untake op h.tag).hrt.ops ++ [o] = _; rw [q3.ops])

theorem State.AnsweredBulk.of_quiet {s t : State} {op : Nat} {h : Hdr} {data : List Int} (q : s.Quiet t)
    (k : s.isOn F.HRT_STATUS_RINGS_RUNNING = true → t.sent = s.sent ++ [(op, h.tag, data)]) : s.AnsweredBulk t op h data :=
  ⟨q.rest, q.regs, q.log, q.ports, k⟩

/-- The answer with a bulk-out transfer (R385). -/
theorem State.answer_bulk (s s1 : State) (op role : Nat) (h : Hdr) (res : List Int) (len : Nat) (data : List Int) :
    s1.AnsweredBulk (s.answer op role h (.bulk s1 res len data)) op h data := by
  simp only [State.answer]
  generalize e : (if audited role = true then s1.cmdRec op h .ok else s1) = s2
  have q2 : s1.Quiet s2 := by
    subst e; split
    · exact State.quiet_cmdRec _ _ _ _ _ _ _
    · exact State.Quiet.refl _
  have h2 : s2.hrt = s1.hrt := by
    subst e; split
    · exact State.post_hrt _ _
    · rfl
  have q3 := q2.trans (State.quiet_untake s2 op h.tag)
  have hs : (s2.untake op h.tag).sent = s1.sent := ((State.untake_lists s2 op h.tag).2).trans (by unfold State.sent; rw [h2])
  unfold State.completeBulk
  simp only []
  split
  · rename_i on
    generalize hc : Transfer.mk op h.tag len data 0 _ = x
    let s3 : State := { s2.untake op h.tag with hrt.transfers := (s2.untake op h.tag).hrt.transfers ++ [x] }
    have q4 : s3.Quiet (s3.pumpBulk s3.hrt.transfers.length) := State.quiet_pump _ _
    have q5 : (s2.untake op h.tag).Quiet s3 := ⟨rfl, fun _ _ => rfl, rfl, ⟨rfl, rfl, rfl, rfl, rfl, rfl⟩, rfl⟩
    have q6 := (q3.trans q5).trans q4
    refine ⟨q6.rest, q6.regs, q6.log, q6.ports, fun _ => ?_⟩
    show (s3.pumpBulk s3.hrt.transfers.length).sent = _
    rw [State.pump_sent, ← hs]
    subst hc
    simp [State.sent, s3]
  · rename_i off
    refine State.AnsweredBulk.of_quiet ?_ (fun on => absurd (State.quiet_raise_free s1 on q3) off)
    exact q3.trans (State.quiet_emit _ _)

/-- An answer with words (R384, R385). -/
theorem State.answer_ret (s s1 : State) (op role : Nat) (h : Hdr) (ws : List Int) :
    s1.Told (s.answer op role h (ret s1 ws)) op h ws := by
  unfold State.Told ret
  split
  · exact State.answer_done _ _ _ _ _ _
  · exact State.answer_bulk _ _ _ _ _ _ _ _

/-! ### The checks that every host command shares -/

theorem firstRefusal_none (l : List (Bool × Status)) : firstRefusal l = none ↔ ∀ p ∈ l, p.1 = false := by
  induction l with
  | nil => simp [firstRefusal]
  | cons p l ih => obtain ⟨b, st⟩ := p; cases b <;> simp [firstRefusal, ih]

/-- An allowed command whose own checks all pass is not refused. -/
theorem State.refusal_none (s : State) (op role : Nat) (h : Hdr) (pre : List (Bool × Status)) (a : s.Allowed op role h)
    (p : ∀ x ∈ pre, x.1 = false) : s.refusal op role h pre = none := by
  obtain ⟨h1, h2, h3⟩ := a
  rw [State.refusal, firstRefusal_none]
  intro x hx
  simp only [List.mem_append, List.mem_cons, List.mem_filter, List.not_mem_nil, or_false] at hx
  rcases hx with ((((rfl | rfl) | hx) | hx) | hx) | rfl
  · cases ht : s.isOn F.SEC_STATUS_TAMPER_LATCHED
    · simp
    · have := h1 ht
      simp [this.1, this.2]
  · simp [h2]
  · exact p x hx.1
  · exact p x hx.1
  · exact p x hx.1
  · simp [h3]

/-- An allowed command whose own checks pass runs its own part. -/
theorem State.command_run (s : State) (op role : Nat) (h : Hdr) (pre : List (Bool × Status)) (body : State → CmdRes)
    (a : s.Allowed op role h) (p : ∀ x ∈ pre, x.1 = false) : s.command op role h pre body = s.answer op role h (body s) := by
  unfold State.command
  rw [State.refusal_none s op role h pre a p]

end Sys2Proof.Machine
end

