-- ==== Sys2Proof/Laws/State.lean ====
section
/-! SUPPORT. What each elementary update of the state does to each of its fields: one lemma for each field, true by unfolding the
update once, so that no later proof unfolds it. -/

namespace Sys2Proof.Machine

/-! ### Storing a register field -/

@[simp] theorem State.wr_regs (s : State) (f : Field) (v : Nat) : (s.wr f v).regs = Tbl.put s.regs f.key (v % 2 ^ f.width) := rfl
@[simp] theorem State.wr_settings (s : State) (f : Field) (v : Nat) : (s.wr f v).settings = s.settings := rfl
@[simp] theorem State.wr_latches (s : State) (f : Field) (v : Nat) : (s.wr f v).latches = s.latches := rfl
@[simp] theorem State.wr_free (s : State) (f : Field) (v : Nat) : (s.wr f v).free = s.free := rfl
@[simp] theorem State.wr_lastRead (s : State) (f : Field) (v : Nat) : (s.wr f v).lastRead = s.lastRead := rfl
@[simp] theorem State.wr_recorder (s : State) (f : Field) (v : Nat) : (s.wr f v).recorder = s.recorder := rfl
@[simp] theorem State.wr_hrt (s : State) (f : Field) (v : Nat) : (s.wr f v).hrt = s.hrt := rfl
@[simp] theorem State.wr_pwr (s : State) (f : Field) (v : Nat) : (s.wr f v).pwr = s.pwr := rfl
@[simp] theorem State.wr_time (s : State) (f : Field) (v : Nat) : (s.wr f v).time = s.time := rfl
@[simp] theorem State.wr_seg (s : State) (f : Field) (v : Nat) : (s.wr f v).seg = s.seg := rfl
@[simp] theorem State.wr_bal (s : State) (f : Field) (v : Nat) : (s.wr f v).bal = s.bal := rfl
@[simp] theorem State.wr_cim (s : State) (f : Field) (v : Nat) : (s.wr f v).cim = s.cim := rfl
@[simp] theorem State.wr_se (s : State) (f : Field) (v : Nat) : (s.wr f v).se = s.se := rfl
@[simp] theorem State.wr_est (s : State) (f : Field) (v : Nat) : (s.wr f v).est = s.est := rfl
@[simp] theorem State.wr_dsp (s : State) (f : Field) (v : Nat) : (s.wr f v).dsp = s.dsp := rfl
@[simp] theorem State.wr_bank (s : State) (f : Field) (v : Nat) : (s.wr f v).bank = s.bank := rfl
@[simp] theorem State.wr_can (s : State) (f : Field) (v : Nat) : (s.wr f v).can = s.can := rfl
@[simp] theorem State.wr_sb (s : State) (f : Field) (v : Nat) : (s.wr f v).sb = s.sb := rfl
@[simp] theorem State.wr_safe (s : State) (f : Field) (v : Nat) : (s.wr f v).safe = s.safe := rfl
@[simp] theorem State.wr_mbx (s : State) (f : Field) (v : Nat) : (s.wr f v).mbx = s.mbx := rfl
@[simp] theorem State.wr_thm (s : State) (f : Field) (v : Nat) : (s.wr f v).thm = s.thm := rfl
@[simp] theorem State.wr_mot (s : State) (f : Field) (v : Nat) : (s.wr f v).mot = s.mot := rfl
@[simp] theorem State.wr_sec (s : State) (f : Field) (v : Nat) : (s.wr f v).sec = s.sec := rfl
@[simp] theorem State.wr_upd (s : State) (f : Field) (v : Nat) : (s.wr f v).upd = s.upd := rfl
@[simp] theorem State.wr_pending (s : State) (f : Field) (v : Nat) : (s.wr f v).pending = s.pending := rfl

/-! ### Storing a signed value -/

@[simp] theorem State.wrI_regs (s : State) (f : Field) (i : Int) : (s.wrI f i).regs =
    Tbl.put s.regs f.key (ofSigned f.width i % 2 ^ f.width) := rfl
@[simp] theorem State.wrI_settings (s : State) (f : Field) (i : Int) : (s.wrI f i).settings = s.settings := rfl
@[simp] theorem State.wrI_latches (s : State) (f : Field) (i : Int) : (s.wrI f i).latches = s.latches := rfl
@[simp] theorem State.wrI_free (s : State) (f : Field) (i : Int) : (s.wrI f i).free = s.free := rfl
@[simp] theorem State.wrI_lastRead (s : State) (f : Field) (i : Int) : (s.wrI f i).lastRead = s.lastRead := rfl
@[simp] theorem State.wrI_recorder (s : State) (f : Field) (i : Int) : (s.wrI f i).recorder = s.recorder := rfl
@[simp] theorem State.wrI_hrt (s : State) (f : Field) (i : Int) : (s.wrI f i).hrt = s.hrt := rfl
@[simp] theorem State.wrI_pwr (s : State) (f : Field) (i : Int) : (s.wrI f i).pwr = s.pwr := rfl
@[simp] theorem State.wrI_time (s : State) (f : Field) (i : Int) : (s.wrI f i).time = s.time := rfl
@[simp] theorem State.wrI_seg (s : State) (f : Field) (i : Int) : (s.wrI f i).seg = s.seg := rfl
@[simp] theorem State.wrI_bal (s : State) (f : Field) (i : Int) : (s.wrI f i).bal = s.bal := rfl
@[simp] theorem State.wrI_cim (s : State) (f : Field) (i : Int) : (s.wrI f i).cim = s.cim := rfl
@[simp] theorem State.wrI_se (s : State) (f : Field) (i : Int) : (s.wrI f i).se = s.se := rfl
@[simp] theorem State.wrI_est (s : State) (f : Field) (i : Int) : (s.wrI f i).est = s.est := rfl
@[simp] theorem State.wrI_dsp (s : State) (f : Field) (i : Int) : (s.wrI f i).dsp = s.dsp := rfl
@[simp] theorem State.wrI_bank (s : State) (f : Field) (i : Int) : (s.wrI f i).bank = s.bank := rfl
@[simp] theorem State.wrI_can (s : State) (f : Field) (i : Int) : (s.wrI f i).can = s.can := rfl
@[simp] theorem State.wrI_sb (s : State) (f : Field) (i : Int) : (s.wrI f i).sb = s.sb := rfl
@[simp] theorem State.wrI_safe (s : State) (f : Field) (i : Int) : (s.wrI f i).safe = s.safe := rfl
@[simp] theorem State.wrI_mbx (s : State) (f : Field) (i : Int) : (s.wrI f i).mbx = s.mbx := rfl
@[simp] theorem State.wrI_thm (s : State) (f : Field) (i : Int) : (s.wrI f i).thm = s.thm := rfl
@[simp] theorem State.wrI_mot (s : State) (f : Field) (i : Int) : (s.wrI f i).mot = s.mot := rfl
@[simp] theorem State.wrI_sec (s : State) (f : Field) (i : Int) : (s.wrI f i).sec = s.sec := rfl
@[simp] theorem State.wrI_upd (s : State) (f : Field) (i : Int) : (s.wrI f i).upd = s.upd := rfl
@[simp] theorem State.wrI_pending (s : State) (f : Field) (i : Int) : (s.wrI f i).pending = s.pending := rfl

/-! ### Storing a bit -/

@[simp] theorem State.wrB_regs (s : State) (f : Field) (b : Bool) : (s.wrB f b).regs =
    Tbl.put s.regs f.key ((if b then 1 else 0) % 2 ^ f.width) := rfl
@[simp] theorem State.wrB_settings (s : State) (f : Field) (b : Bool) : (s.wrB f b).settings = s.settings := rfl
@[simp] theorem State.wrB_latches (s : State) (f : Field) (b : Bool) : (s.wrB f b).latches = s.latches := rfl
@[simp] theorem State.wrB_free (s : State) (f : Field) (b : Bool) : (s.wrB f b).free = s.free := rfl
@[simp] theorem State.wrB_lastRead (s : State) (f : Field) (b : Bool) : (s.wrB f b).lastRead = s.lastRead := rfl
@[simp] theorem State.wrB_recorder (s : State) (f : Field) (b : Bool) : (s.wrB f b).recorder = s.recorder := rfl
@[simp] theorem State.wrB_hrt (s : State) (f : Field) (b : Bool) : (s.wrB f b).hrt = s.hrt := rfl
@[simp] theorem State.wrB_pwr (s : State) (f : Field) (b : Bool) : (s.wrB f b).pwr = s.pwr := rfl
@[simp] theorem State.wrB_time (s : State) (f : Field) (b : Bool) : (s.wrB f b).time = s.time := rfl
@[simp] theorem State.wrB_seg (s : State) (f : Field) (b : Bool) : (s.wrB f b).seg = s.seg := rfl
@[simp] theorem State.wrB_bal (s : State) (f : Field) (b : Bool) : (s.wrB f b).bal = s.bal := rfl
@[simp] theorem State.wrB_cim (s : State) (f : Field) (b : Bool) : (s.wrB f b).cim = s.cim := rfl
@[simp] theorem State.wrB_se (s : State) (f : Field) (b : Bool) : (s.wrB f b).se = s.se := rfl
@[simp] theorem State.wrB_est (s : State) (f : Field) (b : Bool) : (s.wrB f b).est = s.est := rfl
@[simp] theorem State.wrB_dsp (s : State) (f : Field) (b : Bool) : (s.wrB f b).dsp = s.dsp := rfl
@[simp] theorem State.wrB_bank (s : State) (f : Field) (b : Bool) : (s.wrB f b).bank = s.bank := rfl
@[simp] theorem State.wrB_can (s : State) (f : Field) (b : Bool) : (s.wrB f b).can = s.can := rfl
@[simp] theorem State.wrB_sb (s : State) (f : Field) (b : Bool) : (s.wrB f b).sb = s.sb := rfl
@[simp] theorem State.wrB_safe (s : State) (f : Field) (b : Bool) : (s.wrB f b).safe = s.safe := rfl
@[simp] theorem State.wrB_mbx (s : State) (f : Field) (b : Bool) : (s.wrB f b).mbx = s.mbx := rfl
@[simp] theorem State.wrB_thm (s : State) (f : Field) (b : Bool) : (s.wrB f b).thm = s.thm := rfl
@[simp] theorem State.wrB_mot (s : State) (f : Field) (b : Bool) : (s.wrB f b).mot = s.mot := rfl
@[simp] theorem State.wrB_sec (s : State) (f : Field) (b : Bool) : (s.wrB f b).sec = s.sec := rfl
@[simp] theorem State.wrB_upd (s : State) (f : Field) (b : Bool) : (s.wrB f b).upd = s.upd := rfl
@[simp] theorem State.wrB_pending (s : State) (f : Field) (b : Bool) : (s.wrB f b).pending = s.pending := rfl

/-! ### Storing a pair of words -/

@[simp] theorem State.wr64_settings (s : State) (lo hi : Field) (v : Nat) : (s.wr64 lo hi v).settings = s.settings := rfl
@[simp] theorem State.wr64_latches (s : State) (lo hi : Field) (v : Nat) : (s.wr64 lo hi v).latches = s.latches := rfl
@[simp] theorem State.wr64_free (s : State) (lo hi : Field) (v : Nat) : (s.wr64 lo hi v).free = s.free := rfl
@[simp] theorem State.wr64_lastRead (s : State) (lo hi : Field) (v : Nat) : (s.wr64 lo hi v).lastRead = s.lastRead := rfl
@[simp] theorem State.wr64_recorder (s : State) (lo hi : Field) (v : Nat) : (s.wr64 lo hi v).recorder = s.recorder := rfl
@[simp] theorem State.wr64_hrt (s : State) (lo hi : Field) (v : Nat) : (s.wr64 lo hi v).hrt = s.hrt := rfl
@[simp] theorem State.wr64_pwr (s : State) (lo hi : Field) (v : Nat) : (s.wr64 lo hi v).pwr = s.pwr := rfl
@[simp] theorem State.wr64_time (s : State) (lo hi : Field) (v : Nat) : (s.wr64 lo hi v).time = s.time := rfl
@[simp] theorem State.wr64_seg (s : State) (lo hi : Field) (v : Nat) : (s.wr64 lo hi v).seg = s.seg := rfl
@[simp] theorem State.wr64_bal (s : State) (lo hi : Field) (v : Nat) : (s.wr64 lo hi v).bal = s.bal := rfl
@[simp] theorem State.wr64_cim (s : State) (lo hi : Field) (v : Nat) : (s.wr64 lo hi v).cim = s.cim := rfl
@[simp] theorem State.wr64_se (s : State) (lo hi : Field) (v : Nat) : (s.wr64 lo hi v).se = s.se := rfl
@[simp] theorem State.wr64_est (s : State) (lo hi : Field) (v : Nat) : (s.wr64 lo hi v).est = s.est := rfl
@[simp] theorem State.wr64_dsp (s : State) (lo hi : Field) (v : Nat) : (s.wr64 lo hi v).dsp = s.dsp := rfl
@[simp] theorem State.wr64_bank (s : State) (lo hi : Field) (v : Nat) : (s.wr64 lo hi v).bank = s.bank := rfl
@[simp] theorem State.wr64_can (s : State) (lo hi : Field) (v : Nat) : (s.wr64 lo hi v).can = s.can := rfl
@[simp] theorem State.wr64_sb (s : State) (lo hi : Field) (v : Nat) : (s.wr64 lo hi v).sb = s.sb := rfl
@[simp] theorem State.wr64_safe (s : State) (lo hi : Field) (v : Nat) : (s.wr64 lo hi v).safe = s.safe := rfl
@[simp] theorem State.wr64_mbx (s : State) (lo hi : Field) (v : Nat) : (s.wr64 lo hi v).mbx = s.mbx := rfl
@[simp] theorem State.wr64_thm (s : State) (lo hi : Field) (v : Nat) : (s.wr64 lo hi v).thm = s.thm := rfl
@[simp] theorem State.wr64_mot (s : State) (lo hi : Field) (v : Nat) : (s.wr64 lo hi v).mot = s.mot := rfl
@[simp] theorem State.wr64_sec (s : State) (lo hi : Field) (v : Nat) : (s.wr64 lo hi v).sec = s.sec := rfl
@[simp] theorem State.wr64_upd (s : State) (lo hi : Field) (v : Nat) : (s.wr64 lo hi v).upd = s.upd := rfl
@[simp] theorem State.wr64_pending (s : State) (lo hi : Field) (v : Nat) : (s.wr64 lo hi v).pending = s.pending := rfl

/-! ### Keeping a field in settings -/

@[simp] theorem State.keep_regs (s : State) (f : Field) : (s.keep f).regs = s.regs := rfl
@[simp] theorem State.keep_settings (s : State) (f : Field) : (s.keep f).settings = Tbl.put s.settings f.key (s.rd f) := rfl
@[simp] theorem State.keep_latches (s : State) (f : Field) : (s.keep f).latches = s.latches := rfl
@[simp] theorem State.keep_free (s : State) (f : Field) : (s.keep f).free = s.free := rfl
@[simp] theorem State.keep_lastRead (s : State) (f : Field) : (s.keep f).lastRead = s.lastRead := rfl
@[simp] theorem State.keep_recorder (s : State) (f : Field) : (s.keep f).recorder = s.recorder := rfl
@[simp] theorem State.keep_hrt (s : State) (f : Field) : (s.keep f).hrt = s.hrt := rfl
@[simp] theorem State.keep_pwr (s : State) (f : Field) : (s.keep f).pwr = s.pwr := rfl
@[simp] theorem State.keep_time (s : State) (f : Field) : (s.keep f).time = s.time := rfl
@[simp] theorem State.keep_seg (s : State) (f : Field) : (s.keep f).seg = s.seg := rfl
@[simp] theorem State.keep_bal (s : State) (f : Field) : (s.keep f).bal = s.bal := rfl
@[simp] theorem State.keep_cim (s : State) (f : Field) : (s.keep f).cim = s.cim := rfl
@[simp] theorem State.keep_se (s : State) (f : Field) : (s.keep f).se = s.se := rfl
@[simp] theorem State.keep_est (s : State) (f : Field) : (s.keep f).est = s.est := rfl
@[simp] theorem State.keep_dsp (s : State) (f : Field) : (s.keep f).dsp = s.dsp := rfl
@[simp] theorem State.keep_bank (s : State) (f : Field) : (s.keep f).bank = s.bank := rfl
@[simp] theorem State.keep_can (s : State) (f : Field) : (s.keep f).can = s.can := rfl
@[simp] theorem State.keep_sb (s : State) (f : Field) : (s.keep f).sb = s.sb := rfl
@[simp] theorem State.keep_safe (s : State) (f : Field) : (s.keep f).safe = s.safe := rfl
@[simp] theorem State.keep_mbx (s : State) (f : Field) : (s.keep f).mbx = s.mbx := rfl
@[simp] theorem State.keep_thm (s : State) (f : Field) : (s.keep f).thm = s.thm := rfl
@[simp] theorem State.keep_mot (s : State) (f : Field) : (s.keep f).mot = s.mot := rfl
@[simp] theorem State.keep_sec (s : State) (f : Field) : (s.keep f).sec = s.sec := rfl
@[simp] theorem State.keep_upd (s : State) (f : Field) : (s.keep f).upd = s.upd := rfl
@[simp] theorem State.keep_pending (s : State) (f : Field) : (s.keep f).pending = s.pending := rfl

/-! ### Storing and keeping a field -/

@[simp] theorem State.wrKeep_regs (s : State) (f : Field) (v : Nat) : (s.wrKeep f v).regs = (s.wr f v).regs := rfl
@[simp] theorem State.wrKeep_settings (s : State) (f : Field) (v : Nat) : (s.wrKeep f v).settings =
    Tbl.put s.settings f.key ((s.wr f v).rd f) := rfl
@[simp] theorem State.wrKeep_latches (s : State) (f : Field) (v : Nat) : (s.wrKeep f v).latches = s.latches := rfl
@[simp] theorem State.wrKeep_free (s : State) (f : Field) (v : Nat) : (s.wrKeep f v).free = s.free := rfl
@[simp] theorem State.wrKeep_lastRead (s : State) (f : Field) (v : Nat) : (s.wrKeep f v).lastRead = s.lastRead := rfl
@[simp] theorem State.wrKeep_recorder (s : State) (f : Field) (v : Nat) : (s.wrKeep f v).recorder = s.recorder := rfl
@[simp] theorem State.wrKeep_hrt (s : State) (f : Field) (v : Nat) : (s.wrKeep f v).hrt = s.hrt := rfl
@[simp] theorem State.wrKeep_pwr (s : State) (f : Field) (v : Nat) : (s.wrKeep f v).pwr = s.pwr := rfl
@[simp] theorem State.wrKeep_time (s : State) (f : Field) (v : Nat) : (s.wrKeep f v).time = s.time := rfl
@[simp] theorem State.wrKeep_seg (s : State) (f : Field) (v : Nat) : (s.wrKeep f v).seg = s.seg := rfl
@[simp] theorem State.wrKeep_bal (s : State) (f : Field) (v : Nat) : (s.wrKeep f v).bal = s.bal := rfl
@[simp] theorem State.wrKeep_cim (s : State) (f : Field) (v : Nat) : (s.wrKeep f v).cim = s.cim := rfl
@[simp] theorem State.wrKeep_se (s : State) (f : Field) (v : Nat) : (s.wrKeep f v).se = s.se := rfl
@[simp] theorem State.wrKeep_est (s : State) (f : Field) (v : Nat) : (s.wrKeep f v).est = s.est := rfl
@[simp] theorem State.wrKeep_dsp (s : State) (f : Field) (v : Nat) : (s.wrKeep f v).dsp = s.dsp := rfl
@[simp] theorem State.wrKeep_bank (s : State) (f : Field) (v : Nat) : (s.wrKeep f v).bank = s.bank := rfl
@[simp] theorem State.wrKeep_can (s : State) (f : Field) (v : Nat) : (s.wrKeep f v).can = s.can := rfl
@[simp] theorem State.wrKeep_sb (s : State) (f : Field) (v : Nat) : (s.wrKeep f v).sb = s.sb := rfl
@[simp] theorem State.wrKeep_safe (s : State) (f : Field) (v : Nat) : (s.wrKeep f v).safe = s.safe := rfl
@[simp] theorem State.wrKeep_mbx (s : State) (f : Field) (v : Nat) : (s.wrKeep f v).mbx = s.mbx := rfl
@[simp] theorem State.wrKeep_thm (s : State) (f : Field) (v : Nat) : (s.wrKeep f v).thm = s.thm := rfl
@[simp] theorem State.wrKeep_mot (s : State) (f : Field) (v : Nat) : (s.wrKeep f v).mot = s.mot := rfl
@[simp] theorem State.wrKeep_sec (s : State) (f : Field) (v : Nat) : (s.wrKeep f v).sec = s.sec := rfl
@[simp] theorem State.wrKeep_upd (s : State) (f : Field) (v : Nat) : (s.wrKeep f v).upd = s.upd := rfl
@[simp] theorem State.wrKeep_pending (s : State) (f : Field) (v : Nat) : (s.wrKeep f v).pending = s.pending := rfl

/-! ### Resetting a window of registers -/

@[simp] theorem State.resetRegs_settings (s : State) (lo hi : Nat) : (s.resetRegs lo hi).settings = s.settings := rfl
@[simp] theorem State.resetRegs_latches (s : State) (lo hi : Nat) : (s.resetRegs lo hi).latches = s.latches := rfl
@[simp] theorem State.resetRegs_free (s : State) (lo hi : Nat) : (s.resetRegs lo hi).free = s.free := rfl
@[simp] theorem State.resetRegs_lastRead (s : State) (lo hi : Nat) : (s.resetRegs lo hi).lastRead = s.lastRead := rfl
@[simp] theorem State.resetRegs_recorder (s : State) (lo hi : Nat) : (s.resetRegs lo hi).recorder = s.recorder := rfl
@[simp] theorem State.resetRegs_hrt (s : State) (lo hi : Nat) : (s.resetRegs lo hi).hrt = s.hrt := rfl
@[simp] theorem State.resetRegs_pwr (s : State) (lo hi : Nat) : (s.resetRegs lo hi).pwr = s.pwr := rfl
@[simp] theorem State.resetRegs_time (s : State) (lo hi : Nat) : (s.resetRegs lo hi).time = s.time := rfl
@[simp] theorem State.resetRegs_seg (s : State) (lo hi : Nat) : (s.resetRegs lo hi).seg = s.seg := rfl
@[simp] theorem State.resetRegs_bal (s : State) (lo hi : Nat) : (s.resetRegs lo hi).bal = s.bal := rfl
@[simp] theorem State.resetRegs_cim (s : State) (lo hi : Nat) : (s.resetRegs lo hi).cim = s.cim := rfl
@[simp] theorem State.resetRegs_se (s : State) (lo hi : Nat) : (s.resetRegs lo hi).se = s.se := rfl
@[simp] theorem State.resetRegs_est (s : State) (lo hi : Nat) : (s.resetRegs lo hi).est = s.est := rfl
@[simp] theorem State.resetRegs_dsp (s : State) (lo hi : Nat) : (s.resetRegs lo hi).dsp = s.dsp := rfl
@[simp] theorem State.resetRegs_bank (s : State) (lo hi : Nat) : (s.resetRegs lo hi).bank = s.bank := rfl
@[simp] theorem State.resetRegs_can (s : State) (lo hi : Nat) : (s.resetRegs lo hi).can = s.can := rfl
@[simp] theorem State.resetRegs_sb (s : State) (lo hi : Nat) : (s.resetRegs lo hi).sb = s.sb := rfl
@[simp] theorem State.resetRegs_safe (s : State) (lo hi : Nat) : (s.resetRegs lo hi).safe = s.safe := rfl
@[simp] theorem State.resetRegs_mbx (s : State) (lo hi : Nat) : (s.resetRegs lo hi).mbx = s.mbx := rfl
@[simp] theorem State.resetRegs_thm (s : State) (lo hi : Nat) : (s.resetRegs lo hi).thm = s.thm := rfl
@[simp] theorem State.resetRegs_mot (s : State) (lo hi : Nat) : (s.resetRegs lo hi).mot = s.mot := rfl
@[simp] theorem State.resetRegs_sec (s : State) (lo hi : Nat) : (s.resetRegs lo hi).sec = s.sec := rfl
@[simp] theorem State.resetRegs_upd (s : State) (lo hi : Nat) : (s.resetRegs lo hi).upd = s.upd := rfl
@[simp] theorem State.resetRegs_pending (s : State) (lo hi : Nat) : (s.resetRegs lo hi).pending = s.pending := rfl

/-! ### Setting a W1C flag -/

@[simp] theorem State.raise_settings (s : State) (fl : Flag) : (s.raise fl).settings = s.settings := rfl
@[simp] theorem State.raise_latches (s : State) (fl : Flag) : (s.raise fl).latches = s.latches := rfl
@[simp] theorem State.raise_free (s : State) (fl : Flag) : (s.raise fl).free = s.free := rfl
@[simp] theorem State.raise_lastRead (s : State) (fl : Flag) : (s.raise fl).lastRead = s.lastRead := rfl
@[simp] theorem State.raise_recorder (s : State) (fl : Flag) : (s.raise fl).recorder = s.recorder := rfl
@[simp] theorem State.raise_hrt (s : State) (fl : Flag) : (s.raise fl).hrt = s.hrt := rfl
@[simp] theorem State.raise_pwr (s : State) (fl : Flag) : (s.raise fl).pwr = s.pwr := rfl
@[simp] theorem State.raise_time (s : State) (fl : Flag) : (s.raise fl).time = s.time := rfl
@[simp] theorem State.raise_seg (s : State) (fl : Flag) : (s.raise fl).seg = s.seg := rfl
@[simp] theorem State.raise_bal (s : State) (fl : Flag) : (s.raise fl).bal = s.bal := rfl
@[simp] theorem State.raise_cim (s : State) (fl : Flag) : (s.raise fl).cim = s.cim := rfl
@[simp] theorem State.raise_se (s : State) (fl : Flag) : (s.raise fl).se = s.se := rfl
@[simp] theorem State.raise_est (s : State) (fl : Flag) : (s.raise fl).est = s.est := rfl
@[simp] theorem State.raise_dsp (s : State) (fl : Flag) : (s.raise fl).dsp = s.dsp := rfl
@[simp] theorem State.raise_bank (s : State) (fl : Flag) : (s.raise fl).bank = s.bank := rfl
@[simp] theorem State.raise_can (s : State) (fl : Flag) : (s.raise fl).can = s.can := rfl
@[simp] theorem State.raise_sb (s : State) (fl : Flag) : (s.raise fl).sb = s.sb := rfl
@[simp] theorem State.raise_safe (s : State) (fl : Flag) : (s.raise fl).safe = s.safe := rfl
@[simp] theorem State.raise_mbx (s : State) (fl : Flag) : (s.raise fl).mbx = s.mbx := rfl
@[simp] theorem State.raise_thm (s : State) (fl : Flag) : (s.raise fl).thm = s.thm := rfl
@[simp] theorem State.raise_mot (s : State) (fl : Flag) : (s.raise fl).mot = s.mot := rfl
@[simp] theorem State.raise_sec (s : State) (fl : Flag) : (s.raise fl).sec = s.sec := rfl
@[simp] theorem State.raise_upd (s : State) (fl : Flag) : (s.raise fl).upd = s.upd := rfl
@[simp] theorem State.raise_pending (s : State) (fl : Flag) : (s.raise fl).pending = s.pending := rfl

/-! ### A ring of the transport -/

@[simp] theorem State.setRing_regs (s : State) (k : Nat) (r : Ring) : (s.setRing k r).regs = s.regs := rfl
@[simp] theorem State.setRing_settings (s : State) (k : Nat) (r : Ring) : (s.setRing k r).settings = s.settings := rfl
@[simp] theorem State.setRing_latches (s : State) (k : Nat) (r : Ring) : (s.setRing k r).latches = s.latches := rfl
@[simp] theorem State.setRing_free (s : State) (k : Nat) (r : Ring) : (s.setRing k r).free = s.free := rfl
@[simp] theorem State.setRing_lastRead (s : State) (k : Nat) (r : Ring) : (s.setRing k r).lastRead = s.lastRead := rfl
@[simp] theorem State.setRing_recorder (s : State) (k : Nat) (r : Ring) : (s.setRing k r).recorder = s.recorder := rfl
@[simp] theorem State.setRing_hrt (s : State) (k : Nat) (r : Ring) : (s.setRing k r).hrt =
    { s.hrt with rings := Tbl.put s.hrt.rings k r } := rfl
@[simp] theorem State.setRing_pwr (s : State) (k : Nat) (r : Ring) : (s.setRing k r).pwr = s.pwr := rfl
@[simp] theorem State.setRing_time (s : State) (k : Nat) (r : Ring) : (s.setRing k r).time = s.time := rfl
@[simp] theorem State.setRing_seg (s : State) (k : Nat) (r : Ring) : (s.setRing k r).seg = s.seg := rfl
@[simp] theorem State.setRing_bal (s : State) (k : Nat) (r : Ring) : (s.setRing k r).bal = s.bal := rfl
@[simp] theorem State.setRing_cim (s : State) (k : Nat) (r : Ring) : (s.setRing k r).cim = s.cim := rfl
@[simp] theorem State.setRing_se (s : State) (k : Nat) (r : Ring) : (s.setRing k r).se = s.se := rfl
@[simp] theorem State.setRing_est (s : State) (k : Nat) (r : Ring) : (s.setRing k r).est = s.est := rfl
@[simp] theorem State.setRing_dsp (s : State) (k : Nat) (r : Ring) : (s.setRing k r).dsp = s.dsp := rfl
@[simp] theorem State.setRing_bank (s : State) (k : Nat) (r : Ring) : (s.setRing k r).bank = s.bank := rfl
@[simp] theorem State.setRing_can (s : State) (k : Nat) (r : Ring) : (s.setRing k r).can = s.can := rfl
@[simp] theorem State.setRing_sb (s : State) (k : Nat) (r : Ring) : (s.setRing k r).sb = s.sb := rfl
@[simp] theorem State.setRing_safe (s : State) (k : Nat) (r : Ring) : (s.setRing k r).safe = s.safe := rfl
@[simp] theorem State.setRing_mbx (s : State) (k : Nat) (r : Ring) : (s.setRing k r).mbx = s.mbx := rfl
@[simp] theorem State.setRing_thm (s : State) (k : Nat) (r : Ring) : (s.setRing k r).thm = s.thm := rfl
@[simp] theorem State.setRing_mot (s : State) (k : Nat) (r : Ring) : (s.setRing k r).mot = s.mot := rfl
@[simp] theorem State.setRing_sec (s : State) (k : Nat) (r : Ring) : (s.setRing k r).sec = s.sec := rfl
@[simp] theorem State.setRing_upd (s : State) (k : Nat) (r : Ring) : (s.setRing k r).upd = s.upd := rfl
@[simp] theorem State.setRing_pending (s : State) (k : Nat) (r : Ring) : (s.setRing k r).pending = s.pending := rfl

/-! ### Queuing a frame -/

@[simp] theorem State.sendFrame_regs (s : State) (b : FrameBody) : (s.sendFrame b).regs = s.regs := rfl
@[simp] theorem State.sendFrame_settings (s : State) (b : FrameBody) : (s.sendFrame b).settings = s.settings := rfl
@[simp] theorem State.sendFrame_latches (s : State) (b : FrameBody) : (s.sendFrame b).latches = s.latches := rfl
@[simp] theorem State.sendFrame_free (s : State) (b : FrameBody) : (s.sendFrame b).free = s.free := rfl
@[simp] theorem State.sendFrame_lastRead (s : State) (b : FrameBody) : (s.sendFrame b).lastRead = s.lastRead := rfl
@[simp] theorem State.sendFrame_recorder (s : State) (b : FrameBody) : (s.sendFrame b).recorder = s.recorder := rfl
@[simp] theorem State.sendFrame_hrt (s : State) (b : FrameBody) : (s.sendFrame b).hrt =
    { s.hrt with frames := s.hrt.frames ++ [{ seq := s.hrt.seq, body := b }], seq := (s.hrt.seq + 1) % two32 } := rfl
@[simp] theorem State.sendFrame_pwr (s : State) (b : FrameBody) : (s.sendFrame b).pwr = s.pwr := rfl
@[simp] theorem State.sendFrame_time (s : State) (b : FrameBody) : (s.sendFrame b).time = s.time := rfl
@[simp] theorem State.sendFrame_seg (s : State) (b : FrameBody) : (s.sendFrame b).seg = s.seg := rfl
@[simp] theorem State.sendFrame_bal (s : State) (b : FrameBody) : (s.sendFrame b).bal = s.bal := rfl
@[simp] theorem State.sendFrame_cim (s : State) (b : FrameBody) : (s.sendFrame b).cim = s.cim := rfl
@[simp] theorem State.sendFrame_se (s : State) (b : FrameBody) : (s.sendFrame b).se = s.se := rfl
@[simp] theorem State.sendFrame_est (s : State) (b : FrameBody) : (s.sendFrame b).est = s.est := rfl
@[simp] theorem State.sendFrame_dsp (s : State) (b : FrameBody) : (s.sendFrame b).dsp = s.dsp := rfl
@[simp] theorem State.sendFrame_bank (s : State) (b : FrameBody) : (s.sendFrame b).bank = s.bank := rfl
@[simp] theorem State.sendFrame_can (s : State) (b : FrameBody) : (s.sendFrame b).can = s.can := rfl
@[simp] theorem State.sendFrame_sb (s : State) (b : FrameBody) : (s.sendFrame b).sb = s.sb := rfl
@[simp] theorem State.sendFrame_safe (s : State) (b : FrameBody) : (s.sendFrame b).safe = s.safe := rfl
@[simp] theorem State.sendFrame_mbx (s : State) (b : FrameBody) : (s.sendFrame b).mbx = s.mbx := rfl
@[simp] theorem State.sendFrame_thm (s : State) (b : FrameBody) : (s.sendFrame b).thm = s.thm := rfl
@[simp] theorem State.sendFrame_mot (s : State) (b : FrameBody) : (s.sendFrame b).mot = s.mot := rfl
@[simp] theorem State.sendFrame_sec (s : State) (b : FrameBody) : (s.sendFrame b).sec = s.sec := rfl
@[simp] theorem State.sendFrame_upd (s : State) (b : FrameBody) : (s.sendFrame b).upd = s.upd := rfl
@[simp] theorem State.sendFrame_pending (s : State) (b : FrameBody) : (s.sendFrame b).pending = s.pending := rfl

/-! ### Queuing several frames -/

@[simp] theorem State.sendFrames_regs (s : State) (bs : List FrameBody) : (s.sendFrames bs).regs = s.regs := rfl
@[simp] theorem State.sendFrames_settings (s : State) (bs : List FrameBody) : (s.sendFrames bs).settings = s.settings := rfl
@[simp] theorem State.sendFrames_latches (s : State) (bs : List FrameBody) : (s.sendFrames bs).latches = s.latches := rfl
@[simp] theorem State.sendFrames_free (s : State) (bs : List FrameBody) : (s.sendFrames bs).free = s.free := rfl
@[simp] theorem State.sendFrames_lastRead (s : State) (bs : List FrameBody) : (s.sendFrames bs).lastRead = s.lastRead := rfl
@[simp] theorem State.sendFrames_recorder (s : State) (bs : List FrameBody) : (s.sendFrames bs).recorder = s.recorder := rfl
@[simp] theorem State.sendFrames_hrt (s : State) (bs : List FrameBody) : (s.sendFrames bs).hrt =
    { s.hrt with frames := s.hrt.frames ++ bs.zipIdx.map (fun p => { seq := (s.hrt.seq + p.2) % two32, body := p.1 }), seq := (s.hrt.seq + bs.length) % two32 } := rfl
@[simp] theorem State.sendFrames_pwr (s : State) (bs : List FrameBody) : (s.sendFrames bs).pwr = s.pwr := rfl
@[simp] theorem State.sendFrames_time (s : State) (bs : List FrameBody) : (s.sendFrames bs).time = s.time := rfl
@[simp] theorem State.sendFrames_seg (s : State) (bs : List FrameBody) : (s.sendFrames bs).seg = s.seg := rfl
@[simp] theorem State.sendFrames_bal (s : State) (bs : List FrameBody) : (s.sendFrames bs).bal = s.bal := rfl
@[simp] theorem State.sendFrames_cim (s : State) (bs : List FrameBody) : (s.sendFrames bs).cim = s.cim := rfl
@[simp] theorem State.sendFrames_se (s : State) (bs : List FrameBody) : (s.sendFrames bs).se = s.se := rfl
@[simp] theorem State.sendFrames_est (s : State) (bs : List FrameBody) : (s.sendFrames bs).est = s.est := rfl
@[simp] theorem State.sendFrames_dsp (s : State) (bs : List FrameBody) : (s.sendFrames bs).dsp = s.dsp := rfl
@[simp] theorem State.sendFrames_bank (s : State) (bs : List FrameBody) : (s.sendFrames bs).bank = s.bank := rfl
@[simp] theorem State.sendFrames_can (s : State) (bs : List FrameBody) : (s.sendFrames bs).can = s.can := rfl
@[simp] theorem State.sendFrames_sb (s : State) (bs : List FrameBody) : (s.sendFrames bs).sb = s.sb := rfl
@[simp] theorem State.sendFrames_safe (s : State) (bs : List FrameBody) : (s.sendFrames bs).safe = s.safe := rfl
@[simp] theorem State.sendFrames_mbx (s : State) (bs : List FrameBody) : (s.sendFrames bs).mbx = s.mbx := rfl
@[simp] theorem State.sendFrames_thm (s : State) (bs : List FrameBody) : (s.sendFrames bs).thm = s.thm := rfl
@[simp] theorem State.sendFrames_mot (s : State) (bs : List FrameBody) : (s.sendFrames bs).mot = s.mot := rfl
@[simp] theorem State.sendFrames_sec (s : State) (bs : List FrameBody) : (s.sendFrames bs).sec = s.sec := rfl
@[simp] theorem State.sendFrames_upd (s : State) (bs : List FrameBody) : (s.sendFrames bs).upd = s.upd := rfl
@[simp] theorem State.sendFrames_pending (s : State) (bs : List FrameBody) : (s.sendFrames bs).pending = s.pending := rfl

/-! ### Announcing a ring -/

@[simp] theorem State.notify_regs (s : State) (k : Nat) : (s.notify k).regs = s.regs := rfl
@[simp] theorem State.notify_settings (s : State) (k : Nat) : (s.notify k).settings = s.settings := rfl
@[simp] theorem State.notify_latches (s : State) (k : Nat) : (s.notify k).latches = s.latches := rfl
@[simp] theorem State.notify_free (s : State) (k : Nat) : (s.notify k).free = s.free := rfl
@[simp] theorem State.notify_lastRead (s : State) (k : Nat) : (s.notify k).lastRead = s.lastRead := rfl
@[simp] theorem State.notify_recorder (s : State) (k : Nat) : (s.notify k).recorder = s.recorder := rfl
@[simp] theorem State.notify_pwr (s : State) (k : Nat) : (s.notify k).pwr = s.pwr := rfl
@[simp] theorem State.notify_time (s : State) (k : Nat) : (s.notify k).time = s.time := rfl
@[simp] theorem State.notify_seg (s : State) (k : Nat) : (s.notify k).seg = s.seg := rfl
@[simp] theorem State.notify_bal (s : State) (k : Nat) : (s.notify k).bal = s.bal := rfl
@[simp] theorem State.notify_cim (s : State) (k : Nat) : (s.notify k).cim = s.cim := rfl
@[simp] theorem State.notify_se (s : State) (k : Nat) : (s.notify k).se = s.se := rfl
@[simp] theorem State.notify_est (s : State) (k : Nat) : (s.notify k).est = s.est := rfl
@[simp] theorem State.notify_dsp (s : State) (k : Nat) : (s.notify k).dsp = s.dsp := rfl
@[simp] theorem State.notify_bank (s : State) (k : Nat) : (s.notify k).bank = s.bank := rfl
@[simp] theorem State.notify_can (s : State) (k : Nat) : (s.notify k).can = s.can := rfl
@[simp] theorem State.notify_sb (s : State) (k : Nat) : (s.notify k).sb = s.sb := rfl
@[simp] theorem State.notify_safe (s : State) (k : Nat) : (s.notify k).safe = s.safe := rfl
@[simp] theorem State.notify_mbx (s : State) (k : Nat) : (s.notify k).mbx = s.mbx := rfl
@[simp] theorem State.notify_thm (s : State) (k : Nat) : (s.notify k).thm = s.thm := rfl
@[simp] theorem State.notify_mot (s : State) (k : Nat) : (s.notify k).mot = s.mot := rfl
@[simp] theorem State.notify_sec (s : State) (k : Nat) : (s.notify k).sec = s.sec := rfl
@[simp] theorem State.notify_upd (s : State) (k : Nat) : (s.notify k).upd = s.upd := rfl
@[simp] theorem State.notify_pending (s : State) (k : Nat) : (s.notify k).pending = s.pending := rfl

/-! ### A segment card -/

@[simp] theorem State.setSeg_regs (s : State) (k : Nat) (x : Seg) : (s.setSeg k x).regs = s.regs := rfl
@[simp] theorem State.setSeg_settings (s : State) (k : Nat) (x : Seg) : (s.setSeg k x).settings = s.settings := rfl
@[simp] theorem State.setSeg_latches (s : State) (k : Nat) (x : Seg) : (s.setSeg k x).latches = s.latches := rfl
@[simp] theorem State.setSeg_free (s : State) (k : Nat) (x : Seg) : (s.setSeg k x).free = s.free := rfl
@[simp] theorem State.setSeg_lastRead (s : State) (k : Nat) (x : Seg) : (s.setSeg k x).lastRead = s.lastRead := rfl
@[simp] theorem State.setSeg_recorder (s : State) (k : Nat) (x : Seg) : (s.setSeg k x).recorder = s.recorder := rfl
@[simp] theorem State.setSeg_hrt (s : State) (k : Nat) (x : Seg) : (s.setSeg k x).hrt = s.hrt := rfl
@[simp] theorem State.setSeg_pwr (s : State) (k : Nat) (x : Seg) : (s.setSeg k x).pwr = s.pwr := rfl
@[simp] theorem State.setSeg_time (s : State) (k : Nat) (x : Seg) : (s.setSeg k x).time = s.time := rfl
@[simp] theorem State.setSeg_seg (s : State) (k : Nat) (x : Seg) : (s.setSeg k x).seg =
    { s.seg with segs := Tbl.put s.seg.segs k x } := rfl
@[simp] theorem State.setSeg_bal (s : State) (k : Nat) (x : Seg) : (s.setSeg k x).bal = s.bal := rfl
@[simp] theorem State.setSeg_cim (s : State) (k : Nat) (x : Seg) : (s.setSeg k x).cim = s.cim := rfl
@[simp] theorem State.setSeg_se (s : State) (k : Nat) (x : Seg) : (s.setSeg k x).se = s.se := rfl
@[simp] theorem State.setSeg_est (s : State) (k : Nat) (x : Seg) : (s.setSeg k x).est = s.est := rfl
@[simp] theorem State.setSeg_dsp (s : State) (k : Nat) (x : Seg) : (s.setSeg k x).dsp = s.dsp := rfl
@[simp] theorem State.setSeg_bank (s : State) (k : Nat) (x : Seg) : (s.setSeg k x).bank = s.bank := rfl
@[simp] theorem State.setSeg_can (s : State) (k : Nat) (x : Seg) : (s.setSeg k x).can = s.can := rfl
@[simp] theorem State.setSeg_sb (s : State) (k : Nat) (x : Seg) : (s.setSeg k x).sb = s.sb := rfl
@[simp] theorem State.setSeg_safe (s : State) (k : Nat) (x : Seg) : (s.setSeg k x).safe = s.safe := rfl
@[simp] theorem State.setSeg_mbx (s : State) (k : Nat) (x : Seg) : (s.setSeg k x).mbx = s.mbx := rfl
@[simp] theorem State.setSeg_thm (s : State) (k : Nat) (x : Seg) : (s.setSeg k x).thm = s.thm := rfl
@[simp] theorem State.setSeg_mot (s : State) (k : Nat) (x : Seg) : (s.setSeg k x).mot = s.mot := rfl
@[simp] theorem State.setSeg_sec (s : State) (k : Nat) (x : Seg) : (s.setSeg k x).sec = s.sec := rfl
@[simp] theorem State.setSeg_upd (s : State) (k : Nat) (x : Seg) : (s.setSeg k x).upd = s.upd := rfl
@[simp] theorem State.setSeg_pending (s : State) (k : Nat) (x : Seg) : (s.setSeg k x).pending = s.pending := rfl

/-! ### Changing a segment card -/

@[simp] theorem State.modSeg_regs (s : State) (k : Nat) (g : Seg → Seg) : (s.modSeg k g).regs = s.regs := rfl
@[simp] theorem State.modSeg_settings (s : State) (k : Nat) (g : Seg → Seg) : (s.modSeg k g).settings = s.settings := rfl
@[simp] theorem State.modSeg_latches (s : State) (k : Nat) (g : Seg → Seg) : (s.modSeg k g).latches = s.latches := rfl
@[simp] theorem State.modSeg_free (s : State) (k : Nat) (g : Seg → Seg) : (s.modSeg k g).free = s.free := rfl
@[simp] theorem State.modSeg_lastRead (s : State) (k : Nat) (g : Seg → Seg) : (s.modSeg k g).lastRead = s.lastRead := rfl
@[simp] theorem State.modSeg_recorder (s : State) (k : Nat) (g : Seg → Seg) : (s.modSeg k g).recorder = s.recorder := rfl
@[simp] theorem State.modSeg_hrt (s : State) (k : Nat) (g : Seg → Seg) : (s.modSeg k g).hrt = s.hrt := rfl
@[simp] theorem State.modSeg_pwr (s : State) (k : Nat) (g : Seg → Seg) : (s.modSeg k g).pwr = s.pwr := rfl
@[simp] theorem State.modSeg_time (s : State) (k : Nat) (g : Seg → Seg) : (s.modSeg k g).time = s.time := rfl
@[simp] theorem State.modSeg_seg (s : State) (k : Nat) (g : Seg → Seg) : (s.modSeg k g).seg =
    { s.seg with segs := Tbl.put s.seg.segs k (g (s.segOf k)) } := rfl
@[simp] theorem State.modSeg_bal (s : State) (k : Nat) (g : Seg → Seg) : (s.modSeg k g).bal = s.bal := rfl
@[simp] theorem State.modSeg_cim (s : State) (k : Nat) (g : Seg → Seg) : (s.modSeg k g).cim = s.cim := rfl
@[simp] theorem State.modSeg_se (s : State) (k : Nat) (g : Seg → Seg) : (s.modSeg k g).se = s.se := rfl
@[simp] theorem State.modSeg_est (s : State) (k : Nat) (g : Seg → Seg) : (s.modSeg k g).est = s.est := rfl
@[simp] theorem State.modSeg_dsp (s : State) (k : Nat) (g : Seg → Seg) : (s.modSeg k g).dsp = s.dsp := rfl
@[simp] theorem State.modSeg_bank (s : State) (k : Nat) (g : Seg → Seg) : (s.modSeg k g).bank = s.bank := rfl
@[simp] theorem State.modSeg_can (s : State) (k : Nat) (g : Seg → Seg) : (s.modSeg k g).can = s.can := rfl
@[simp] theorem State.modSeg_sb (s : State) (k : Nat) (g : Seg → Seg) : (s.modSeg k g).sb = s.sb := rfl
@[simp] theorem State.modSeg_safe (s : State) (k : Nat) (g : Seg → Seg) : (s.modSeg k g).safe = s.safe := rfl
@[simp] theorem State.modSeg_mbx (s : State) (k : Nat) (g : Seg → Seg) : (s.modSeg k g).mbx = s.mbx := rfl
@[simp] theorem State.modSeg_thm (s : State) (k : Nat) (g : Seg → Seg) : (s.modSeg k g).thm = s.thm := rfl
@[simp] theorem State.modSeg_mot (s : State) (k : Nat) (g : Seg → Seg) : (s.modSeg k g).mot = s.mot := rfl
@[simp] theorem State.modSeg_sec (s : State) (k : Nat) (g : Seg → Seg) : (s.modSeg k g).sec = s.sec := rfl
@[simp] theorem State.modSeg_upd (s : State) (k : Nat) (g : Seg → Seg) : (s.modSeg k g).upd = s.upd := rfl
@[simp] theorem State.modSeg_pending (s : State) (k : Nat) (g : Seg → Seg) : (s.modSeg k g).pending = s.pending := rfl

/-! ### The balancing of a card -/

@[simp] theorem State.setBal_regs (s : State) (k : Nat) (b : BalCard) : (s.setBal k b).regs = s.regs := rfl
@[simp] theorem State.setBal_settings (s : State) (k : Nat) (b : BalCard) : (s.setBal k b).settings = s.settings := rfl
@[simp] theorem State.setBal_latches (s : State) (k : Nat) (b : BalCard) : (s.setBal k b).latches = s.latches := rfl
@[simp] theorem State.setBal_free (s : State) (k : Nat) (b : BalCard) : (s.setBal k b).free = s.free := rfl
@[simp] theorem State.setBal_lastRead (s : State) (k : Nat) (b : BalCard) : (s.setBal k b).lastRead = s.lastRead := rfl
@[simp] theorem State.setBal_recorder (s : State) (k : Nat) (b : BalCard) : (s.setBal k b).recorder = s.recorder := rfl
@[simp] theorem State.setBal_hrt (s : State) (k : Nat) (b : BalCard) : (s.setBal k b).hrt = s.hrt := rfl
@[simp] theorem State.setBal_pwr (s : State) (k : Nat) (b : BalCard) : (s.setBal k b).pwr = s.pwr := rfl
@[simp] theorem State.setBal_time (s : State) (k : Nat) (b : BalCard) : (s.setBal k b).time = s.time := rfl
@[simp] theorem State.setBal_seg (s : State) (k : Nat) (b : BalCard) : (s.setBal k b).seg = s.seg := rfl
@[simp] theorem State.setBal_bal (s : State) (k : Nat) (b : BalCard) : (s.setBal k b).bal =
    { s.bal with cards := Tbl.put s.bal.cards k b } := rfl
@[simp] theorem State.setBal_cim (s : State) (k : Nat) (b : BalCard) : (s.setBal k b).cim = s.cim := rfl
@[simp] theorem State.setBal_se (s : State) (k : Nat) (b : BalCard) : (s.setBal k b).se = s.se := rfl
@[simp] theorem State.setBal_est (s : State) (k : Nat) (b : BalCard) : (s.setBal k b).est = s.est := rfl
@[simp] theorem State.setBal_dsp (s : State) (k : Nat) (b : BalCard) : (s.setBal k b).dsp = s.dsp := rfl
@[simp] theorem State.setBal_bank (s : State) (k : Nat) (b : BalCard) : (s.setBal k b).bank = s.bank := rfl
@[simp] theorem State.setBal_can (s : State) (k : Nat) (b : BalCard) : (s.setBal k b).can = s.can := rfl
@[simp] theorem State.setBal_sb (s : State) (k : Nat) (b : BalCard) : (s.setBal k b).sb = s.sb := rfl
@[simp] theorem State.setBal_safe (s : State) (k : Nat) (b : BalCard) : (s.setBal k b).safe = s.safe := rfl
@[simp] theorem State.setBal_mbx (s : State) (k : Nat) (b : BalCard) : (s.setBal k b).mbx = s.mbx := rfl
@[simp] theorem State.setBal_thm (s : State) (k : Nat) (b : BalCard) : (s.setBal k b).thm = s.thm := rfl
@[simp] theorem State.setBal_mot (s : State) (k : Nat) (b : BalCard) : (s.setBal k b).mot = s.mot := rfl
@[simp] theorem State.setBal_sec (s : State) (k : Nat) (b : BalCard) : (s.setBal k b).sec = s.sec := rfl
@[simp] theorem State.setBal_upd (s : State) (k : Nat) (b : BalCard) : (s.setBal k b).upd = s.upd := rfl
@[simp] theorem State.setBal_pending (s : State) (k : Nat) (b : BalCard) : (s.setBal k b).pending = s.pending := rfl

/-! ### The estimates of a cell -/

@[simp] theorem State.setEst_regs (s : State) (i : Nat) (c : EstCell) : (s.setEst i c).regs = s.regs := rfl
@[simp] theorem State.setEst_settings (s : State) (i : Nat) (c : EstCell) : (s.setEst i c).settings = s.settings := rfl
@[simp] theorem State.setEst_latches (s : State) (i : Nat) (c : EstCell) : (s.setEst i c).latches = s.latches := rfl
@[simp] theorem State.setEst_free (s : State) (i : Nat) (c : EstCell) : (s.setEst i c).free = s.free := rfl
@[simp] theorem State.setEst_lastRead (s : State) (i : Nat) (c : EstCell) : (s.setEst i c).lastRead = s.lastRead := rfl
@[simp] theorem State.setEst_recorder (s : State) (i : Nat) (c : EstCell) : (s.setEst i c).recorder = s.recorder := rfl
@[simp] theorem State.setEst_hrt (s : State) (i : Nat) (c : EstCell) : (s.setEst i c).hrt = s.hrt := rfl
@[simp] theorem State.setEst_pwr (s : State) (i : Nat) (c : EstCell) : (s.setEst i c).pwr = s.pwr := rfl
@[simp] theorem State.setEst_time (s : State) (i : Nat) (c : EstCell) : (s.setEst i c).time = s.time := rfl
@[simp] theorem State.setEst_seg (s : State) (i : Nat) (c : EstCell) : (s.setEst i c).seg = s.seg := rfl
@[simp] theorem State.setEst_bal (s : State) (i : Nat) (c : EstCell) : (s.setEst i c).bal = s.bal := rfl
@[simp] theorem State.setEst_cim (s : State) (i : Nat) (c : EstCell) : (s.setEst i c).cim = s.cim := rfl
@[simp] theorem State.setEst_se (s : State) (i : Nat) (c : EstCell) : (s.setEst i c).se = s.se := rfl
@[simp] theorem State.setEst_est (s : State) (i : Nat) (c : EstCell) : (s.setEst i c).est =
    { s.est with cells := Tbl.put s.est.cells i c } := rfl
@[simp] theorem State.setEst_dsp (s : State) (i : Nat) (c : EstCell) : (s.setEst i c).dsp = s.dsp := rfl
@[simp] theorem State.setEst_bank (s : State) (i : Nat) (c : EstCell) : (s.setEst i c).bank = s.bank := rfl
@[simp] theorem State.setEst_can (s : State) (i : Nat) (c : EstCell) : (s.setEst i c).can = s.can := rfl
@[simp] theorem State.setEst_sb (s : State) (i : Nat) (c : EstCell) : (s.setEst i c).sb = s.sb := rfl
@[simp] theorem State.setEst_safe (s : State) (i : Nat) (c : EstCell) : (s.setEst i c).safe = s.safe := rfl
@[simp] theorem State.setEst_mbx (s : State) (i : Nat) (c : EstCell) : (s.setEst i c).mbx = s.mbx := rfl
@[simp] theorem State.setEst_thm (s : State) (i : Nat) (c : EstCell) : (s.setEst i c).thm = s.thm := rfl
@[simp] theorem State.setEst_mot (s : State) (i : Nat) (c : EstCell) : (s.setEst i c).mot = s.mot := rfl
@[simp] theorem State.setEst_sec (s : State) (i : Nat) (c : EstCell) : (s.setEst i c).sec = s.sec := rfl
@[simp] theorem State.setEst_upd (s : State) (i : Nat) (c : EstCell) : (s.setEst i c).upd = s.upd := rfl
@[simp] theorem State.setEst_pending (s : State) (i : Nat) (c : EstCell) : (s.setEst i c).pending = s.pending := rfl

/-! ### A kernel slot -/

@[simp] theorem State.setSeSlot_regs (s : State) (k : Nat) (x : SeSlot) : (s.setSeSlot k x).regs = s.regs := rfl
@[simp] theorem State.setSeSlot_settings (s : State) (k : Nat) (x : SeSlot) : (s.setSeSlot k x).settings = s.settings := rfl
@[simp] theorem State.setSeSlot_latches (s : State) (k : Nat) (x : SeSlot) : (s.setSeSlot k x).latches = s.latches := rfl
@[simp] theorem State.setSeSlot_free (s : State) (k : Nat) (x : SeSlot) : (s.setSeSlot k x).free = s.free := rfl
@[simp] theorem State.setSeSlot_lastRead (s : State) (k : Nat) (x : SeSlot) : (s.setSeSlot k x).lastRead = s.lastRead := rfl
@[simp] theorem State.setSeSlot_recorder (s : State) (k : Nat) (x : SeSlot) : (s.setSeSlot k x).recorder = s.recorder := rfl
@[simp] theorem State.setSeSlot_hrt (s : State) (k : Nat) (x : SeSlot) : (s.setSeSlot k x).hrt = s.hrt := rfl
@[simp] theorem State.setSeSlot_pwr (s : State) (k : Nat) (x : SeSlot) : (s.setSeSlot k x).pwr = s.pwr := rfl
@[simp] theorem State.setSeSlot_time (s : State) (k : Nat) (x : SeSlot) : (s.setSeSlot k x).time = s.time := rfl
@[simp] theorem State.setSeSlot_seg (s : State) (k : Nat) (x : SeSlot) : (s.setSeSlot k x).seg = s.seg := rfl
@[simp] theorem State.setSeSlot_bal (s : State) (k : Nat) (x : SeSlot) : (s.setSeSlot k x).bal = s.bal := rfl
@[simp] theorem State.setSeSlot_cim (s : State) (k : Nat) (x : SeSlot) : (s.setSeSlot k x).cim = s.cim := rfl
@[simp] theorem State.setSeSlot_se (s : State) (k : Nat) (x : SeSlot) : (s.setSeSlot k x).se =
    { s.se with slots := Tbl.put s.se.slots k x } := rfl
@[simp] theorem State.setSeSlot_est (s : State) (k : Nat) (x : SeSlot) : (s.setSeSlot k x).est = s.est := rfl
@[simp] theorem State.setSeSlot_dsp (s : State) (k : Nat) (x : SeSlot) : (s.setSeSlot k x).dsp = s.dsp := rfl
@[simp] theorem State.setSeSlot_bank (s : State) (k : Nat) (x : SeSlot) : (s.setSeSlot k x).bank = s.bank := rfl
@[simp] theorem State.setSeSlot_can (s : State) (k : Nat) (x : SeSlot) : (s.setSeSlot k x).can = s.can := rfl
@[simp] theorem State.setSeSlot_sb (s : State) (k : Nat) (x : SeSlot) : (s.setSeSlot k x).sb = s.sb := rfl
@[simp] theorem State.setSeSlot_safe (s : State) (k : Nat) (x : SeSlot) : (s.setSeSlot k x).safe = s.safe := rfl
@[simp] theorem State.setSeSlot_mbx (s : State) (k : Nat) (x : SeSlot) : (s.setSeSlot k x).mbx = s.mbx := rfl
@[simp] theorem State.setSeSlot_thm (s : State) (k : Nat) (x : SeSlot) : (s.setSeSlot k x).thm = s.thm := rfl
@[simp] theorem State.setSeSlot_mot (s : State) (k : Nat) (x : SeSlot) : (s.setSeSlot k x).mot = s.mot := rfl
@[simp] theorem State.setSeSlot_sec (s : State) (k : Nat) (x : SeSlot) : (s.setSeSlot k x).sec = s.sec := rfl
@[simp] theorem State.setSeSlot_upd (s : State) (k : Nat) (x : SeSlot) : (s.setSeSlot k x).upd = s.upd := rfl
@[simp] theorem State.setSeSlot_pending (s : State) (k : Nat) (x : SeSlot) : (s.setSeSlot k x).pending = s.pending := rfl

/-! ### The generator -/

@[simp] theorem State.setGen_regs (s : State) (g : SeGen) : (s.setGen g).regs = s.regs := rfl
@[simp] theorem State.setGen_settings (s : State) (g : SeGen) : (s.setGen g).settings = s.settings := rfl
@[simp] theorem State.setGen_latches (s : State) (g : SeGen) : (s.setGen g).latches = s.latches := rfl
@[simp] theorem State.setGen_free (s : State) (g : SeGen) : (s.setGen g).free = s.free := rfl
@[simp] theorem State.setGen_lastRead (s : State) (g : SeGen) : (s.setGen g).lastRead = s.lastRead := rfl
@[simp] theorem State.setGen_recorder (s : State) (g : SeGen) : (s.setGen g).recorder = s.recorder := rfl
@[simp] theorem State.setGen_hrt (s : State) (g : SeGen) : (s.setGen g).hrt = s.hrt := rfl
@[simp] theorem State.setGen_pwr (s : State) (g : SeGen) : (s.setGen g).pwr = s.pwr := rfl
@[simp] theorem State.setGen_time (s : State) (g : SeGen) : (s.setGen g).time = s.time := rfl
@[simp] theorem State.setGen_seg (s : State) (g : SeGen) : (s.setGen g).seg = s.seg := rfl
@[simp] theorem State.setGen_bal (s : State) (g : SeGen) : (s.setGen g).bal = s.bal := rfl
@[simp] theorem State.setGen_cim (s : State) (g : SeGen) : (s.setGen g).cim = s.cim := rfl
@[simp] theorem State.setGen_se (s : State) (g : SeGen) : (s.setGen g).se = { s.se with gen := g } := rfl
@[simp] theorem State.setGen_est (s : State) (g : SeGen) : (s.setGen g).est = s.est := rfl
@[simp] theorem State.setGen_dsp (s : State) (g : SeGen) : (s.setGen g).dsp = s.dsp := rfl
@[simp] theorem State.setGen_bank (s : State) (g : SeGen) : (s.setGen g).bank = s.bank := rfl
@[simp] theorem State.setGen_can (s : State) (g : SeGen) : (s.setGen g).can = s.can := rfl
@[simp] theorem State.setGen_sb (s : State) (g : SeGen) : (s.setGen g).sb = s.sb := rfl
@[simp] theorem State.setGen_safe (s : State) (g : SeGen) : (s.setGen g).safe = s.safe := rfl
@[simp] theorem State.setGen_mbx (s : State) (g : SeGen) : (s.setGen g).mbx = s.mbx := rfl
@[simp] theorem State.setGen_thm (s : State) (g : SeGen) : (s.setGen g).thm = s.thm := rfl
@[simp] theorem State.setGen_mot (s : State) (g : SeGen) : (s.setGen g).mot = s.mot := rfl
@[simp] theorem State.setGen_sec (s : State) (g : SeGen) : (s.setGen g).sec = s.sec := rfl
@[simp] theorem State.setGen_upd (s : State) (g : SeGen) : (s.setGen g).upd = s.upd := rfl
@[simp] theorem State.setGen_pending (s : State) (g : SeGen) : (s.setGen g).pending = s.pending := rfl

/-! ### A CAN controller -/

@[simp] theorem State.setCan_regs (s : State) (c : Nat) (b : CanBus) : (s.setCan c b).regs = s.regs := rfl
@[simp] theorem State.setCan_settings (s : State) (c : Nat) (b : CanBus) : (s.setCan c b).settings = s.settings := rfl
@[simp] theorem State.setCan_latches (s : State) (c : Nat) (b : CanBus) : (s.setCan c b).latches = s.latches := rfl
@[simp] theorem State.setCan_free (s : State) (c : Nat) (b : CanBus) : (s.setCan c b).free = s.free := rfl
@[simp] theorem State.setCan_lastRead (s : State) (c : Nat) (b : CanBus) : (s.setCan c b).lastRead = s.lastRead := rfl
@[simp] theorem State.setCan_recorder (s : State) (c : Nat) (b : CanBus) : (s.setCan c b).recorder = s.recorder := rfl
@[simp] theorem State.setCan_hrt (s : State) (c : Nat) (b : CanBus) : (s.setCan c b).hrt = s.hrt := rfl
@[simp] theorem State.setCan_pwr (s : State) (c : Nat) (b : CanBus) : (s.setCan c b).pwr = s.pwr := rfl
@[simp] theorem State.setCan_time (s : State) (c : Nat) (b : CanBus) : (s.setCan c b).time = s.time := rfl
@[simp] theorem State.setCan_seg (s : State) (c : Nat) (b : CanBus) : (s.setCan c b).seg = s.seg := rfl
@[simp] theorem State.setCan_bal (s : State) (c : Nat) (b : CanBus) : (s.setCan c b).bal = s.bal := rfl
@[simp] theorem State.setCan_cim (s : State) (c : Nat) (b : CanBus) : (s.setCan c b).cim = s.cim := rfl
@[simp] theorem State.setCan_se (s : State) (c : Nat) (b : CanBus) : (s.setCan c b).se = s.se := rfl
@[simp] theorem State.setCan_est (s : State) (c : Nat) (b : CanBus) : (s.setCan c b).est = s.est := rfl
@[simp] theorem State.setCan_dsp (s : State) (c : Nat) (b : CanBus) : (s.setCan c b).dsp = s.dsp := rfl
@[simp] theorem State.setCan_bank (s : State) (c : Nat) (b : CanBus) : (s.setCan c b).bank = s.bank := rfl
@[simp] theorem State.setCan_can (s : State) (c : Nat) (b : CanBus) : (s.setCan c b).can = Tbl.put s.can c b := rfl
@[simp] theorem State.setCan_sb (s : State) (c : Nat) (b : CanBus) : (s.setCan c b).sb = s.sb := rfl
@[simp] theorem State.setCan_safe (s : State) (c : Nat) (b : CanBus) : (s.setCan c b).safe = s.safe := rfl
@[simp] theorem State.setCan_mbx (s : State) (c : Nat) (b : CanBus) : (s.setCan c b).mbx = s.mbx := rfl
@[simp] theorem State.setCan_thm (s : State) (c : Nat) (b : CanBus) : (s.setCan c b).thm = s.thm := rfl
@[simp] theorem State.setCan_mot (s : State) (c : Nat) (b : CanBus) : (s.setCan c b).mot = s.mot := rfl
@[simp] theorem State.setCan_sec (s : State) (c : Nat) (b : CanBus) : (s.setCan c b).sec = s.sec := rfl
@[simp] theorem State.setCan_upd (s : State) (c : Nat) (b : CanBus) : (s.setCan c b).upd = s.upd := rfl
@[simp] theorem State.setCan_pending (s : State) (c : Nat) (b : CanBus) : (s.setCan c b).pending = s.pending := rfl

/-! ### A sensor bus -/

@[simp] theorem State.setSb_regs (s : State) (c : Nat) (b : SbBus) : (s.setSb c b).regs = s.regs := rfl
@[simp] theorem State.setSb_settings (s : State) (c : Nat) (b : SbBus) : (s.setSb c b).settings = s.settings := rfl
@[simp] theorem State.setSb_latches (s : State) (c : Nat) (b : SbBus) : (s.setSb c b).latches = s.latches := rfl
@[simp] theorem State.setSb_free (s : State) (c : Nat) (b : SbBus) : (s.setSb c b).free = s.free := rfl
@[simp] theorem State.setSb_lastRead (s : State) (c : Nat) (b : SbBus) : (s.setSb c b).lastRead = s.lastRead := rfl
@[simp] theorem State.setSb_recorder (s : State) (c : Nat) (b : SbBus) : (s.setSb c b).recorder = s.recorder := rfl
@[simp] theorem State.setSb_hrt (s : State) (c : Nat) (b : SbBus) : (s.setSb c b).hrt = s.hrt := rfl
@[simp] theorem State.setSb_pwr (s : State) (c : Nat) (b : SbBus) : (s.setSb c b).pwr = s.pwr := rfl
@[simp] theorem State.setSb_time (s : State) (c : Nat) (b : SbBus) : (s.setSb c b).time = s.time := rfl
@[simp] theorem State.setSb_seg (s : State) (c : Nat) (b : SbBus) : (s.setSb c b).seg = s.seg := rfl
@[simp] theorem State.setSb_bal (s : State) (c : Nat) (b : SbBus) : (s.setSb c b).bal = s.bal := rfl
@[simp] theorem State.setSb_cim (s : State) (c : Nat) (b : SbBus) : (s.setSb c b).cim = s.cim := rfl
@[simp] theorem State.setSb_se (s : State) (c : Nat) (b : SbBus) : (s.setSb c b).se = s.se := rfl
@[simp] theorem State.setSb_est (s : State) (c : Nat) (b : SbBus) : (s.setSb c b).est = s.est := rfl
@[simp] theorem State.setSb_dsp (s : State) (c : Nat) (b : SbBus) : (s.setSb c b).dsp = s.dsp := rfl
@[simp] theorem State.setSb_bank (s : State) (c : Nat) (b : SbBus) : (s.setSb c b).bank = s.bank := rfl
@[simp] theorem State.setSb_can (s : State) (c : Nat) (b : SbBus) : (s.setSb c b).can = s.can := rfl
@[simp] theorem State.setSb_sb (s : State) (c : Nat) (b : SbBus) : (s.setSb c b).sb = Tbl.put s.sb c b := rfl
@[simp] theorem State.setSb_safe (s : State) (c : Nat) (b : SbBus) : (s.setSb c b).safe = s.safe := rfl
@[simp] theorem State.setSb_mbx (s : State) (c : Nat) (b : SbBus) : (s.setSb c b).mbx = s.mbx := rfl
@[simp] theorem State.setSb_thm (s : State) (c : Nat) (b : SbBus) : (s.setSb c b).thm = s.thm := rfl
@[simp] theorem State.setSb_mot (s : State) (c : Nat) (b : SbBus) : (s.setSb c b).mot = s.mot := rfl
@[simp] theorem State.setSb_sec (s : State) (c : Nat) (b : SbBus) : (s.setSb c b).sec = s.sec := rfl
@[simp] theorem State.setSb_upd (s : State) (c : Nat) (b : SbBus) : (s.setSb c b).upd = s.upd := rfl
@[simp] theorem State.setSb_pending (s : State) (c : Nat) (b : SbBus) : (s.setSb c b).pending = s.pending := rfl

/-! ### A safety input -/

@[simp] theorem State.setInput_regs (s : State) (i : Nat) (x : SafeInput) : (s.setInput i x).regs = s.regs := rfl
@[simp] theorem State.setInput_settings (s : State) (i : Nat) (x : SafeInput) : (s.setInput i x).settings = s.settings := rfl
@[simp] theorem State.setInput_latches (s : State) (i : Nat) (x : SafeInput) : (s.setInput i x).latches = s.latches := rfl
@[simp] theorem State.setInput_free (s : State) (i : Nat) (x : SafeInput) : (s.setInput i x).free = s.free := rfl
@[simp] theorem State.setInput_lastRead (s : State) (i : Nat) (x : SafeInput) : (s.setInput i x).lastRead = s.lastRead := rfl
@[simp] theorem State.setInput_recorder (s : State) (i : Nat) (x : SafeInput) : (s.setInput i x).recorder = s.recorder := rfl
@[simp] theorem State.setInput_hrt (s : State) (i : Nat) (x : SafeInput) : (s.setInput i x).hrt = s.hrt := rfl
@[simp] theorem State.setInput_pwr (s : State) (i : Nat) (x : SafeInput) : (s.setInput i x).pwr = s.pwr := rfl
@[simp] theorem State.setInput_time (s : State) (i : Nat) (x : SafeInput) : (s.setInput i x).time = s.time := rfl
@[simp] theorem State.setInput_seg (s : State) (i : Nat) (x : SafeInput) : (s.setInput i x).seg = s.seg := rfl
@[simp] theorem State.setInput_bal (s : State) (i : Nat) (x : SafeInput) : (s.setInput i x).bal = s.bal := rfl
@[simp] theorem State.setInput_cim (s : State) (i : Nat) (x : SafeInput) : (s.setInput i x).cim = s.cim := rfl
@[simp] theorem State.setInput_se (s : State) (i : Nat) (x : SafeInput) : (s.setInput i x).se = s.se := rfl
@[simp] theorem State.setInput_est (s : State) (i : Nat) (x : SafeInput) : (s.setInput i x).est = s.est := rfl
@[simp] theorem State.setInput_dsp (s : State) (i : Nat) (x : SafeInput) : (s.setInput i x).dsp = s.dsp := rfl
@[simp] theorem State.setInput_bank (s : State) (i : Nat) (x : SafeInput) : (s.setInput i x).bank = s.bank := rfl
@[simp] theorem State.setInput_can (s : State) (i : Nat) (x : SafeInput) : (s.setInput i x).can = s.can := rfl
@[simp] theorem State.setInput_sb (s : State) (i : Nat) (x : SafeInput) : (s.setInput i x).sb = s.sb := rfl
@[simp] theorem State.setInput_safe (s : State) (i : Nat) (x : SafeInput) : (s.setInput i x).safe =
    { s.safe with inputs := Tbl.put s.safe.inputs i x } := rfl
@[simp] theorem State.setInput_mbx (s : State) (i : Nat) (x : SafeInput) : (s.setInput i x).mbx = s.mbx := rfl
@[simp] theorem State.setInput_thm (s : State) (i : Nat) (x : SafeInput) : (s.setInput i x).thm = s.thm := rfl
@[simp] theorem State.setInput_mot (s : State) (i : Nat) (x : SafeInput) : (s.setInput i x).mot = s.mot := rfl
@[simp] theorem State.setInput_sec (s : State) (i : Nat) (x : SafeInput) : (s.setInput i x).sec = s.sec := rfl
@[simp] theorem State.setInput_upd (s : State) (i : Nat) (x : SafeInput) : (s.setInput i x).upd = s.upd := rfl
@[simp] theorem State.setInput_pending (s : State) (i : Nat) (x : SafeInput) : (s.setInput i x).pending = s.pending := rfl

/-! ### An axis -/

@[simp] theorem State.setAxis_regs (s : State) (x : Nat) (a : MotAxis) : (s.setAxis x a).regs = s.regs := rfl
@[simp] theorem State.setAxis_settings (s : State) (x : Nat) (a : MotAxis) : (s.setAxis x a).settings = s.settings := rfl
@[simp] theorem State.setAxis_latches (s : State) (x : Nat) (a : MotAxis) : (s.setAxis x a).latches = s.latches := rfl
@[simp] theorem State.setAxis_free (s : State) (x : Nat) (a : MotAxis) : (s.setAxis x a).free = s.free := rfl
@[simp] theorem State.setAxis_lastRead (s : State) (x : Nat) (a : MotAxis) : (s.setAxis x a).lastRead = s.lastRead := rfl
@[simp] theorem State.setAxis_recorder (s : State) (x : Nat) (a : MotAxis) : (s.setAxis x a).recorder = s.recorder := rfl
@[simp] theorem State.setAxis_hrt (s : State) (x : Nat) (a : MotAxis) : (s.setAxis x a).hrt = s.hrt := rfl
@[simp] theorem State.setAxis_pwr (s : State) (x : Nat) (a : MotAxis) : (s.setAxis x a).pwr = s.pwr := rfl
@[simp] theorem State.setAxis_time (s : State) (x : Nat) (a : MotAxis) : (s.setAxis x a).time = s.time := rfl
@[simp] theorem State.setAxis_seg (s : State) (x : Nat) (a : MotAxis) : (s.setAxis x a).seg = s.seg := rfl
@[simp] theorem State.setAxis_bal (s : State) (x : Nat) (a : MotAxis) : (s.setAxis x a).bal = s.bal := rfl
@[simp] theorem State.setAxis_cim (s : State) (x : Nat) (a : MotAxis) : (s.setAxis x a).cim = s.cim := rfl
@[simp] theorem State.setAxis_se (s : State) (x : Nat) (a : MotAxis) : (s.setAxis x a).se = s.se := rfl
@[simp] theorem State.setAxis_est (s : State) (x : Nat) (a : MotAxis) : (s.setAxis x a).est = s.est := rfl
@[simp] theorem State.setAxis_dsp (s : State) (x : Nat) (a : MotAxis) : (s.setAxis x a).dsp = s.dsp := rfl
@[simp] theorem State.setAxis_bank (s : State) (x : Nat) (a : MotAxis) : (s.setAxis x a).bank = s.bank := rfl
@[simp] theorem State.setAxis_can (s : State) (x : Nat) (a : MotAxis) : (s.setAxis x a).can = s.can := rfl
@[simp] theorem State.setAxis_sb (s : State) (x : Nat) (a : MotAxis) : (s.setAxis x a).sb = s.sb := rfl
@[simp] theorem State.setAxis_safe (s : State) (x : Nat) (a : MotAxis) : (s.setAxis x a).safe = s.safe := rfl
@[simp] theorem State.setAxis_mbx (s : State) (x : Nat) (a : MotAxis) : (s.setAxis x a).mbx = s.mbx := rfl
@[simp] theorem State.setAxis_thm (s : State) (x : Nat) (a : MotAxis) : (s.setAxis x a).thm = s.thm := rfl
@[simp] theorem State.setAxis_mot (s : State) (x : Nat) (a : MotAxis) : (s.setAxis x a).mot =
    { s.mot with axes := Tbl.put s.mot.axes x a } := rfl
@[simp] theorem State.setAxis_sec (s : State) (x : Nat) (a : MotAxis) : (s.setAxis x a).sec = s.sec := rfl
@[simp] theorem State.setAxis_upd (s : State) (x : Nat) (a : MotAxis) : (s.setAxis x a).upd = s.upd := rfl
@[simp] theorem State.setAxis_pending (s : State) (x : Nat) (a : MotAxis) : (s.setAxis x a).pending = s.pending := rfl

/-! ### Changing an axis -/

@[simp] theorem State.modAxis_regs (s : State) (x : Nat) (g : MotAxis → MotAxis) : (s.modAxis x g).regs = s.regs := rfl
@[simp] theorem State.modAxis_settings (s : State) (x : Nat) (g : MotAxis → MotAxis) : (s.modAxis x g).settings = s.settings := rfl
@[simp] theorem State.modAxis_latches (s : State) (x : Nat) (g : MotAxis → MotAxis) : (s.modAxis x g).latches = s.latches := rfl
@[simp] theorem State.modAxis_free (s : State) (x : Nat) (g : MotAxis → MotAxis) : (s.modAxis x g).free = s.free := rfl
@[simp] theorem State.modAxis_lastRead (s : State) (x : Nat) (g : MotAxis → MotAxis) : (s.modAxis x g).lastRead = s.lastRead := rfl
@[simp] theorem State.modAxis_recorder (s : State) (x : Nat) (g : MotAxis → MotAxis) : (s.modAxis x g).recorder = s.recorder := rfl
@[simp] theorem State.modAxis_hrt (s : State) (x : Nat) (g : MotAxis → MotAxis) : (s.modAxis x g).hrt = s.hrt := rfl
@[simp] theorem State.modAxis_pwr (s : State) (x : Nat) (g : MotAxis → MotAxis) : (s.modAxis x g).pwr = s.pwr := rfl
@[simp] theorem State.modAxis_time (s : State) (x : Nat) (g : MotAxis → MotAxis) : (s.modAxis x g).time = s.time := rfl
@[simp] theorem State.modAxis_seg (s : State) (x : Nat) (g : MotAxis → MotAxis) : (s.modAxis x g).seg = s.seg := rfl
@[simp] theorem State.modAxis_bal (s : State) (x : Nat) (g : MotAxis → MotAxis) : (s.modAxis x g).bal = s.bal := rfl
@[simp] theorem State.modAxis_cim (s : State) (x : Nat) (g : MotAxis → MotAxis) : (s.modAxis x g).cim = s.cim := rfl
@[simp] theorem State.modAxis_se (s : State) (x : Nat) (g : MotAxis → MotAxis) : (s.modAxis x g).se = s.se := rfl
@[simp] theorem State.modAxis_est (s : State) (x : Nat) (g : MotAxis → MotAxis) : (s.modAxis x g).est = s.est := rfl
@[simp] theorem State.modAxis_dsp (s : State) (x : Nat) (g : MotAxis → MotAxis) : (s.modAxis x g).dsp = s.dsp := rfl
@[simp] theorem State.modAxis_bank (s : State) (x : Nat) (g : MotAxis → MotAxis) : (s.modAxis x g).bank = s.bank := rfl
@[simp] theorem State.modAxis_can (s : State) (x : Nat) (g : MotAxis → MotAxis) : (s.modAxis x g).can = s.can := rfl
@[simp] theorem State.modAxis_sb (s : State) (x : Nat) (g : MotAxis → MotAxis) : (s.modAxis x g).sb = s.sb := rfl
@[simp] theorem State.modAxis_safe (s : State) (x : Nat) (g : MotAxis → MotAxis) : (s.modAxis x g).safe = s.safe := rfl
@[simp] theorem State.modAxis_mbx (s : State) (x : Nat) (g : MotAxis → MotAxis) : (s.modAxis x g).mbx = s.mbx := rfl
@[simp] theorem State.modAxis_thm (s : State) (x : Nat) (g : MotAxis → MotAxis) : (s.modAxis x g).thm = s.thm := rfl
@[simp] theorem State.modAxis_mot (s : State) (x : Nat) (g : MotAxis → MotAxis) : (s.modAxis x g).mot =
    { s.mot with axes := Tbl.put s.mot.axes x (g (s.axis x)) } := rfl
@[simp] theorem State.modAxis_sec (s : State) (x : Nat) (g : MotAxis → MotAxis) : (s.modAxis x g).sec = s.sec := rfl
@[simp] theorem State.modAxis_upd (s : State) (x : Nat) (g : MotAxis → MotAxis) : (s.modAxis x g).upd = s.upd := rfl
@[simp] theorem State.modAxis_pending (s : State) (x : Nat) (g : MotAxis → MotAxis) : (s.modAxis x g).pending = s.pending := rfl

/-! ### Another queue -/

@[simp] theorem State.withPending_regs (s : State) (q : List Instr) : (s.withPending q).regs = s.regs := rfl
@[simp] theorem State.withPending_settings (s : State) (q : List Instr) : (s.withPending q).settings = s.settings := rfl
@[simp] theorem State.withPending_latches (s : State) (q : List Instr) : (s.withPending q).latches = s.latches := rfl
@[simp] theorem State.withPending_free (s : State) (q : List Instr) : (s.withPending q).free = s.free := rfl
@[simp] theorem State.withPending_lastRead (s : State) (q : List Instr) : (s.withPending q).lastRead = s.lastRead := rfl
@[simp] theorem State.withPending_recorder (s : State) (q : List Instr) : (s.withPending q).recorder = s.recorder := rfl
@[simp] theorem State.withPending_hrt (s : State) (q : List Instr) : (s.withPending q).hrt = s.hrt := rfl
@[simp] theorem State.withPending_pwr (s : State) (q : List Instr) : (s.withPending q).pwr = s.pwr := rfl
@[simp] theorem State.withPending_time (s : State) (q : List Instr) : (s.withPending q).time = s.time := rfl
@[simp] theorem State.withPending_seg (s : State) (q : List Instr) : (s.withPending q).seg = s.seg := rfl
@[simp] theorem State.withPending_bal (s : State) (q : List Instr) : (s.withPending q).bal = s.bal := rfl
@[simp] theorem State.withPending_cim (s : State) (q : List Instr) : (s.withPending q).cim = s.cim := rfl
@[simp] theorem State.withPending_se (s : State) (q : List Instr) : (s.withPending q).se = s.se := rfl
@[simp] theorem State.withPending_est (s : State) (q : List Instr) : (s.withPending q).est = s.est := rfl
@[simp] theorem State.withPending_dsp (s : State) (q : List Instr) : (s.withPending q).dsp = s.dsp := rfl
@[simp] theorem State.withPending_bank (s : State) (q : List Instr) : (s.withPending q).bank = s.bank := rfl
@[simp] theorem State.withPending_can (s : State) (q : List Instr) : (s.withPending q).can = s.can := rfl
@[simp] theorem State.withPending_sb (s : State) (q : List Instr) : (s.withPending q).sb = s.sb := rfl
@[simp] theorem State.withPending_safe (s : State) (q : List Instr) : (s.withPending q).safe = s.safe := rfl
@[simp] theorem State.withPending_mbx (s : State) (q : List Instr) : (s.withPending q).mbx = s.mbx := rfl
@[simp] theorem State.withPending_thm (s : State) (q : List Instr) : (s.withPending q).thm = s.thm := rfl
@[simp] theorem State.withPending_mot (s : State) (q : List Instr) : (s.withPending q).mot = s.mot := rfl
@[simp] theorem State.withPending_sec (s : State) (q : List Instr) : (s.withPending q).sec = s.sec := rfl
@[simp] theorem State.withPending_upd (s : State) (q : List Instr) : (s.withPending q).upd = s.upd := rfl
@[simp] theorem State.withPending_pending (s : State) (q : List Instr) : (s.withPending q).pending = q := rfl

/-! ### What is read back -/

/-- A signed field reads the integer stored in it, as its width holds it. -/
theorem State.rdI_wrI_same (s : State) (f : Field) (i : Int) :
    (s.wrI f i).rdI f = toSigned f.width (ofSigned f.width i % 2 ^ f.width) := by
  unfold State.rdI State.wrI; rw [State.rd_wr_same]

theorem State.rd_wrB_same (s : State) (f : Field) (b : Bool) : (s.wrB f b).rd f = (if b then 1 else 0) % 2 ^ f.width :=
  State.rd_wr_same s f _

theorem State.rd_wrB_ne (s : State) (f g : Field) (b : Bool) (h : g.key ≠ f.key) : (s.wrB f b).rd g = s.rd g :=
  State.rd_wr_ne s f g _ h

theorem State.rd_wrI_ne (s : State) (f g : Field) (i : Int) (h : g.key ≠ f.key) : (s.wrI f i).rd g = s.rd g :=
  State.rd_wr_ne s f g _ h

/-- A segment card reads what was put into its place, and every other card is as it was. -/
@[simp] theorem State.segOf_setSeg (s : State) (k : Nat) (x : Seg) : (s.setSeg k x).segOf k = x := Tbl.get_put_same _ _ _ _

theorem State.segOf_setSeg_ne (s : State) (k q : Nat) (x : Seg) (h : q ≠ k) : (s.setSeg k x).segOf q = s.segOf q :=
  Tbl.get_put_ne _ _ _ _ _ h

@[simp] theorem State.balCard_setBal (s : State) (k : Nat) (b : BalCard) : (s.setBal k b).balCard k = b := Tbl.get_put_same _ _ _ _

theorem State.balCard_setBal_ne (s : State) (k q : Nat) (b : BalCard) (h : q ≠ k) : (s.setBal k b).balCard q = s.balCard q :=
  Tbl.get_put_ne _ _ _ _ _ h

@[simp] theorem State.axis_setAxis (s : State) (x : Nat) (a : MotAxis) : (s.setAxis x a).axis x = a := Tbl.get_put_same _ _ _ _

theorem State.axis_setAxis_ne (s : State) (x y : Nat) (a : MotAxis) (h : y ≠ x) : (s.setAxis x a).axis y = s.axis y :=
  Tbl.get_put_ne _ _ _ _ _ h

@[simp] theorem State.ring_setRing (s : State) (k : Nat) (r : Ring) : (s.setRing k r).ring k = r := Tbl.get_put_same _ _ _ _

theorem State.ring_setRing_ne (s : State) (k q : Nat) (r : Ring) (h : q ≠ k) : (s.setRing k r).ring q = s.ring q :=
  Tbl.get_put_ne _ _ _ _ _ h

end Sys2Proof.Machine
end

