-- ==== Sys2Proof/Tests/Slice0.lean ====
section
/-! SUPPORT. Checks of the model on small values: well-formedness, single steps with values worked out by hand from the spec, and for every
hypothesis of a statement a state and operands that meet it. -/

namespace Sys2Proof.Tests

open Sys2Proof.Machine

set_option maxRecDepth 4000
set_option Elab.async false

/-- A frame with these cell results and nothing else of note. -/
def frameOf (cells : List Int) : SampleFrame :=
  { seq := 0, aligned := false, provisional := false, spareSubst := false, timingB := false, ovAny := false, uvAny := false
    selftest := false, cells := cells, sum := 0, spare := 0, ntc := 0, sparePos := 0, die := 0, balMap := 0 }

/-- A module in READY whose conditions all hold: every card IN_SERVICE, a block without safety inputs, the coil supply there. -/
def readyState : State :=
  let s := ((numbersFrom 1 26).foldl (fun s k => s.setSegState k segSERVICE) State.reset).wrs [(F.SYS_MODE_MODE, mREADY), (F.SAFE_OUT_COIL_SUPPLY, 1)]
  { s with safe.blockA := [0], safe.blockB := [0], safe.selfTest := true }

/-- A state whose card 26 is in service. -/
def liveState : State := State.reset.wr (F.SEG_STATE_STATE 26) segSERVICE

/-! ### Well-formedness refuses an ill-formed operand of each kind -/

theorem test_wf_ok : (Instr.readStatus ⟨1, 0⟩).wf = true := by decide

theorem test_wf_tag : (Instr.readStatus ⟨4294967296, 0⟩).wf = false := by decide

theorem test_wf_port : (Instr.readStatus ⟨1, 4⟩).wf = false := by decide

theorem test_wf_nat : (Instr.setLatencyTolerance ⟨1, 0⟩ (2 ^ 64)).wf = false := by decide

theorem test_wf_int : (Instr.injectStartIndex).wf = true ∧ (Instr.thmTune ⟨1, 0⟩ (2 ^ 63) 10).wf = false := by decide

theorem test_wf_bytes : (Instr.recNote ⟨1, 0⟩ [256]).wf = false := by decide

theorem test_wf_setup : (Instr.serviceSetupOp { addr := 4294967296, value := 0, write := false }).wf = false := by decide

theorem test_wf_bus : (Instr.sbBusReset ⟨1, 0⟩ 0 { sda := 16 }).wf = false := by decide

theorem test_wf_entry : (Instr.commandTake (List.replicate 63 0)).wf = false := by decide

theorem test_wf_can : (Instr.canFrameReceived 0 { id := 2048, ide := false, rtr := false, fdf := false, brs := false, esi := false, dlc := 0, data := [], time := 0 }).wf = false := by decide

theorem test_wf_boot : (Instr.powerOn { banks := 4 }).wf = false := by decide

theorem test_wf_copy : (Instr.frameReceived 1 (.hit [(72, 1)]) .absent { cells := List.replicate 16 0, sum := 0, spare := 0, ntc := 0, die := 25 }).wf = false := by decide

theorem test_wf_frame : (Instr.frameReceived 1 .absent .absent { cells := [], sum := 0, spare := 0, ntc := 0, die := 25 }).wf = false := by decide

theorem test_wf_ptp : (Instr.ptpMessage 0 none true true 0 (.announce 4294967296 0 [])).wf = false := by decide

theorem test_wf_cert : (Instr.serviceSessionOpen (some { serial := 2 ^ 160, chain := [], anchor := none, roles := 0, notAfter := 0, notBefore := 0 })).wf
    = false := by decide

theorem test_wf_eap : (Instr.eapolReceive 0 (.certificate { serial := 2 ^ 160, chain := [], anchor := none, roles := 0, notAfter := 0, notBefore := 0 })).wf = false := by decide

theorem test_wf_mem : (Instr.scrub (.safety 4) [] false 0).wf = false := by decide

theorem test_wf_bank : (Instr.bankMessageReceived 0 (.heartbeat 8 false 0 false false)).wf = false := by decide

theorem test_wf_axis : (Instr.motLinkMessage 0 ⟨2 ^ 63, 0, 0, 0, 0, 0, 0, 0, 0, 0⟩ ⟨0, 0, 0, 0, 0, 0, 0, 0, 0, 0⟩).wf = false := by decide

theorem test_wf_list : (Instr.thmNtcMapLoad ⟨1, 0⟩ [2 ^ 64]).wf = false := by decide

theorem test_wf_option : (Instr.canTx ⟨1, 0⟩ 0 0 (some (2 ^ 64)) []).wf = false := by decide

theorem test_wf_pairs : (Instr.toneArmingDeadline [(0, 2 ^ 64)]).wf = false := by decide

/-! ### Values worked out in the spec's examples -/

/-- R5: ties away from zero. -/
theorem test_round_half : roundDiv 5 2 = 3 ∧ roundDiv (-5) 2 = -3 ∧ roundDiv 7 3 = 2 := by decide

/-- R6: saturation stops short of the marker. -/
theorem test_marker : satU 16 70000 = 65534 ∧ satS 16 (-40000) = 0x8001 ∧ markU 16 = 0xFFFF ∧ markS 32 = 0x80000000 := by decide

/-- The table of R192's example: breakpoints 500 and 1000 apart, four corner values. -/
def exTable : SeTable :=
  { bp1 := (numbersFrom 0 32).map fun i => 500 * (i : Int) - 2000, bp2 := (numbersFrom 0 16).map fun i => 1000 * (i : Int) - 2500, s := 1
    grid := List.replicate 138 0 ++ [1000000, 1200000] ++ List.replicate 30 0 ++ [800000, 900000] ++ List.replicate 340 0 }

/-- R192's example: weights 26 214 and 40 632, value 931 200. -/
theorem test_gain_table : breakAt exTable.bp1 3200 = (10, 26214, false) ∧ breakAt exTable.bp2 2120 = (4, 40632, false) ∧
    exTable.gains 3200 2120 = ([931200], false, false) := by decide +kernel

/-- R198's example: cycles of the three kernels at PAUSE 0 and 7. -/
theorem test_se_cycles :
    ({ form := 2, n := 8, m := 2, p := 2, instances := 416, tableEn := true } : SeDesc).cycles 12 0 = 11296 ∧
    ({ form := 2, n := 8, m := 2, p := 2, instances := 416, tableEn := true } : SeDesc).cycles 12 7 = 17120 ∧
    ({ form := 2, n := 4, m := 3, p := 1, instances := 26 } : SeDesc).cycles 0 7 = 756 ∧
    ({ form := 1, n := 3, m := 2, p := 1, instances := 1 } : SeDesc).cycles 0 0 = 104 := by decide

/-- R177: the shifted product rounds away from zero, the term saturates at 2^79 - 1. -/
theorem test_se_term : (seTerm 3 (-1) 1).1 = 2 ∧ (seTerm 3 (-1) (-1)).1 = -2 ∧ seTerm (2 ^ 31 - 1) 31 (2 ^ 31 - 1) = (2 ^ 79 - 1, true) := by decide

/-- R309's example: code 26 712 of a 10 kΩ NTC with β 3435 K is 35.00 °C. -/
theorem test_ntc : ntcTemp 3435 1000 26712 = 3500 := by decide +kernel

/-- R329: the middle of the quarter wave is 4095 · sin 45°, its last entry 4095 · sin(89.65°). -/
theorem test_microstep : microstep 0 = 0 ∧ microstep 128 = 2896 ∧ microstep 255 = 4095 := by decide +kernel

/-- R329: phase currents by quadrant at the quarter points of the electrical period. -/
theorem test_phase : phaseCurrents (numbersFrom 0 256) 0 = (0, 4095) ∧ phaseCurrents (numbersFrom 0 256) 256 = (4095, 0) ∧
    phaseCurrents (numbersFrom 0 256) 513 = (-1, -255) ∧ phaseCurrents (numbersFrom 0 256) 770 = (-254, 2) := by decide

/-- R168's example: 300 kΩ in all at 1331.2 V with 998.4 V and 332.8 V to the poles are 400 kΩ and 1200 kΩ. -/
theorem test_iso_poles : poleShare 300 13312 9984 = some 400 ∧ poleShare 300 13312 3328 = some 1200 := by decide +kernel

/-- R317's example: Kc -37.04 % per °C, Ti 300 s and f 40 % as coefficients and bounds of the integral. -/
theorem test_loop_coefs : (loopCoefs { kc := -3704, ti := 300, f := 4000 }).getD 21 (0, 0) = (-1242856161, 7) ∧
    (loopCoefs { kc := -3704, ti := 300, f := 4000 }).getD 18 (0, 0) = (-265142648, 1) ∧
    (loopCoefs { kc := -3704, ti := 300, f := 4000 }).getD 24 (0, 0) = (-48596, 0) ∧
    (loopCoefs { kc := -3704, ti := 300, f := 4000 }).getD 27 (0, 0) = (32397, 0) := by decide +kernel

/-- R379's example: 21 entries across the wrap. -/
theorem test_ring_used : used 5 0xFFFFFFF0 = 0x15 := by decide

/-- R402's example: the reset values of CAN_NBT and CAN_DBT. -/
theorem test_can_bit_times : (State.reset.readWord 0xC0004).1 = 0x00F1E7C1 ∧ (State.reset.readWord 0xC0008).1 = 0x00F511A1 := by decide +kernel

/-- R495's example: the cursor at 1 000 001 with HEAD at 1 030 740 loads 1 000 020 and skips 19. -/
theorem test_overtaken : ((State.reset.wr F.REC_HEAD_VALUE 1030740).recRead true 1000001).pos = 1000020 ∧
    ((State.reset.wr F.REC_HEAD_VALUE 1030740).recRead true 1000001).next = 1000021 ∧
    ((State.reset.wr F.REC_HEAD_VALUE 1030740).recRead true 1000001).skipped = some 19 := by decide +kernel

/-- R359's example: e(12.25 s) = 100 ns with the reset values of TIME_HOLD. -/
theorem test_hold_error : ({ State.reset with time.count := 3062500000, time.lastLock := 0 } : State).holdErr = 100 := by decide +kernel

/-- R34's example, cycles 200 and 300: a set in the cycle of the clear wins and counts, a clear alone leaves the counter. -/
theorem test_flag_cycle : ((State.reset.raise Fl.UPD_EVENT_ACTIVATED).clearFlag Fl.UPD_EVENT_ACTIVATED true).rd Fl.UPD_EVENT_ACTIVATED.bit = 1 ∧
    ((State.reset.raise Fl.UPD_EVENT_ACTIVATED).clearFlag Fl.UPD_EVENT_ACTIVATED true).rd Fl.UPD_EVENT_ACTIVATED.cnt = 2 ∧
    ((State.reset.raise Fl.UPD_EVENT_ACTIVATED).clearFlag Fl.UPD_EVENT_ACTIVATED false).rd Fl.UPD_EVENT_ACTIVATED.cnt = 1 := by decide

/-- R35: the counter wraps from 0xFFFF to 0. -/
theorem test_counter_wraps : ((State.reset.wr Fl.UPD_EVENT_ACTIVATED.cnt 0xFFFF).raise Fl.UPD_EVENT_ACTIVATED).rd Fl.UPD_EVENT_ACTIVATED.cnt = 0 := by decide

/-- The check value of CRC-32C for "123456789" (CRC catalogue). -/
theorem test_crc32c : crc32c [0x31, 0x32, 0x33, 0x34, 0x35, 0x36, 0x37, 0x38, 0x39] = 0xE3069283 := by decide +kernel

/-- The digest of "abc" in FIPS 180-4's example of SHA-384, first and last bytes. -/
theorem test_sha384 : (sha384Bytes [0x61, 0x62, 0x63]).take 4 = [0xCB, 0x00, 0x75, 0x3F] ∧
    (sha384Bytes [0x61, 0x62, 0x63]).drop 44 = [0x34, 0xC8, 0x25, 0xA7] := by decide +kernel

/-- R273, R274's example: channel a demands at once; the other channel at tick 101 is too late, and the cure needs both. -/
theorem test_input_machine : (({ st := .healthy, both := false, a := true, b := false } : SafeInput).eval).st = .demand ∧
    (({ st := .demand, both := false, disc := true, a := true, b := true } : SafeInput).eval).both = true ∧
    (({ st := .demand, both := true, disc := true, a := false, b := false } : SafeInput).eval).st = .healthy ∧
    (({ st := .demand, both := false, disc := true, a := false, b := false } : SafeInput).eval).st = .demand := by decide

/-- R134: three full duties on a card that may conduct two paths at a time are scaled to what fits. -/
theorem test_duty_scale : (scaleDuties 2 [64, 64, 64]).1 = [42, 42, 42] ∧ (scaleDuties 3 [64, 64, 64]).1 = [64, 64, 64] := by decide

/-- R42: SAFE_STOP is legal in RUN and not in LOCKOUT, BAL_STATUS in READY and not in LOCKOUT. -/
theorem test_legal : legal 0x0E06 mRUN false = true ∧ legal 0x0E06 mLOCKOUT false = false ∧ legal 0x0305 mREADY false = true ∧
    legal 0x0305 mLOCKOUT false = false ∧ legal 0x0901 mSHELF false = false := by decide +kernel

/-- R91: the generator multiplied out by hand from its four roots 1, 2, 4, 8; two symbols in error come back. -/
theorem test_rs : rsGen = [1, 15, 54, 120, 64] ∧
    rsDecode (flipAt (flipAt (rsEncode (List.replicate 32 7)) 3 5) 30 9) = some (List.replicate 32 7, 2) := by decide +kernel

/-- R107: the sequence of x^7 + x^6 + 1 from all ones begins with seven ones, six zeros and a one, eight instants to a chip. -/
theorem test_prbs7 : (List.range 14).map (fun n => chipAt (8 * n)) = List.replicate 7 true ++ List.replicate 6 false ++ [true] ∧
    chipAt 7 = chipAt 0 ∧ chipAt 1016 = chipAt 0 := by decide +kernel

/-- R427: the check value of the CRC-8 of x^8 + x^2 + x + 1 for "123456789" (CRC catalogue). -/
theorem test_crc8 : crc8 [0x31, 0x32, 0x33, 0x34, 0x35, 0x36, 0x37, 0x38, 0x39] = 0xF4 := by decide +kernel

/-! ### StepRunsTheFrontCommand -/

theorem wit_step : ∃ (c : Instr) (rest : List Instr) (s : State), s.pending = c :: rest :=
  ⟨.frameIntake, [], State.reset.withPending [.frameIntake], rfl⟩

theorem wit_step_empty : State.reset.pending = [] := rfl

/-! ### QueueIsTakenInOrder -/

theorem wit_queue : ∃ (c : Instr) (rest : List Instr) (s t : State), s.pending = c :: rest ∧ step s = .next t :=
  ⟨.frameIntake, [], State.reset.withPending [.frameIntake], _, rfl, rfl⟩

/-! ### RegisterFileStaysCanonical -/

theorem wit_canonical : ∃ s t : State, s.Canonical ∧ step s = .next t :=
  ⟨State.reset.withPending [.frameIntake], _, ⟨rfl, rfl, rfl, rfl⟩, rfl⟩

/-! ### ChecksComeInOrder -/

theorem wit_auth : ∃ (s : State), s.isOn F.SEC_STATUS_TAMPER_LATCHED = true := ⟨State.reset.wr F.SEC_STATUS_TAMPER_LATCHED 1, by decide⟩

theorem wit_role : ∃ (s : State) (h : Hdr), s.isOn F.SEC_STATUS_TAMPER_LATCHED = false ∧ hasRole (s.cmdRoles 0x0101 h) rOperator = false :=
  ⟨State.reset, ⟨1, 0⟩, by decide, by decide⟩

theorem wit_param : ∃ (s : State) (h : Hdr) (pre : List (Bool × Status)), s.isOn F.SEC_STATUS_TAMPER_LATCHED = false ∧
    hasRole (s.cmdRoles 0x0101 h) rOperator = true ∧ (∀ x ∈ pre, x.2 ≠ .auth) ∧ (true, Status.param) ∈ pre :=
  ⟨State.reset, ⟨1, 3⟩, [(true, .range), (true, .param)], by decide, by decide, by decide, by decide⟩

theorem wit_range : ∃ (s : State) (h : Hdr) (pre : List (Bool × Status)), s.isOn F.SEC_STATUS_TAMPER_LATCHED = false ∧
    hasRole (s.cmdRoles 0x0101 h) rOperator = true ∧ (∀ x ∈ pre, x.2 ≠ .auth) ∧ (true, Status.param) ∉ pre ∧ (true, Status.range) ∈ pre :=
  ⟨State.reset, ⟨1, 3⟩, [(true, .range), (false, .param)], by decide, by decide, by decide, by decide, by decide⟩

theorem wit_state : ∃ (s : State) (h : Hdr), s.isOn F.SEC_STATUS_TAMPER_LATCHED = false ∧ hasRole (s.cmdRoles 0x0505 h) rOperator = true ∧
    legal 0x0505 (s.cmdMode 0x0505 h) s.closed = false :=
  ⟨State.reset, ⟨1, 3⟩, by decide, by decide, by decide⟩

theorem wit_allowed : State.reset.Allowed 0x0104 rObserver ⟨1, 3⟩ := by unfold State.Allowed; decide

/-! ### ModeRequestsTakeEffect -/

theorem wit_mode_service : ∃ (s : State) (h : Hdr) (t : Nat), s.Allowed 0x0101 (if t = mSERVICE then rMaintainer else rOperator) h ∧ t ≤ 5 ∧
    s.askRefusal t = none ∧ (t = mRUN → s.closed = true) ∧ (t = mSTANDBY → s.closed = false) :=
  ⟨State.reset, ⟨1, 3⟩, mSERVICE, by unfold State.Allowed; decide, by decide, by decide +kernel, by decide, by decide⟩

theorem wit_mode_standby : ∃ (s : State) (h : Hdr), s.Allowed 0x0101 rOperator h ∧ s.askRefusal mSTANDBY = none ∧ s.closed = true :=
  ⟨(State.reset.wr F.SYS_MODE_MODE mRUN).wr F.SAFE_STATUS_STRING_CLOSED 1, ⟨1, 3⟩, by unfold State.Allowed; decide, by decide +kernel, by decide⟩

theorem wit_mode_run : ∃ (s : State) (h : Hdr), s.Allowed 0x0101 rOperator h ∧ s.askRefusal mRUN = none ∧ s.closed = false ∧ s.inBank = false ∧
    s.canClose = true :=
  ⟨readyState, ⟨1, 3⟩, by unfold State.Allowed; decide +kernel, by decide +kernel, by decide +kernel, by decide +kernel, by decide +kernel⟩

theorem wit_mode_refused : ∃ (s : State) (h : Hdr) (t : Nat) (st : Status),
    s.Allowed 0x0101 (if t = mSERVICE then rMaintainer else rOperator) h ∧ t ≤ 5 ∧ s.askRefusal t = some st :=
  ⟨State.reset, ⟨1, 3⟩, mRUN, .state, by unfold State.Allowed; decide, by decide, by decide +kernel⟩

theorem wit_tol : State.reset.Allowed 0x0102 rOperator ⟨1, 3⟩ ∧ 0xFFFFFFFF < two32 := by unfold State.Allowed; decide

theorem wit_restart : State.reset.Allowed 0x0103 rMaintainer ⟨1, 3⟩ := by unfold State.Allowed; decide

/-! ### PowerEventsFollowTheRules -/

theorem wit_awake : ∃ s : State, s.awake = true ∧ s.thm.heldOff = false := ⟨{ State.reset with pwr.phase := .up }, by decide, rfl⟩

theorem wit_island : State.reset.segOk 1 = true ∧ State.reset.segOk 26 = true := by decide

theorem wit_aux_few : ∃ s : State, s.powered = true ∧ (s.pwr.dips.filter fun t => decide (s.time.count < t + 250000000)).length < 10 :=
  ⟨{ State.reset with pwr.phase := .up, pwr.dips := [0, 0, 0, 0, 0, 0, 0, 0, 0] }, by decide, by decide⟩

theorem wit_aux_many : ∃ s : State, s.powered = true ∧ 10 ≤ (s.pwr.dips.filter fun t => decide (s.time.count < t + 250000000)).length :=
  ⟨{ State.reset with pwr.phase := .up, pwr.dips := [0, 0, 0, 0, 0, 0, 0, 0, 0, 0] }, by decide, by decide⟩

theorem wit_aux_dip : ∃ s : State, s.powered = true ∧ s.pwr.auxLow = true := ⟨{ State.reset with pwr.phase := .up, pwr.auxLow := true }, by decide, rfl⟩

theorem wit_orderly : ∃ (s : State) (o : OrderlyOpen), s.pwr.orderly = some o ∧ o.dest ≤ 5 ∧ s.thm.shutting = false ∧
    ({ s with thm.shutting := true } : State).thm.shutting = true ∧ State.reset.pwr.orderly = none :=
  ⟨{ State.reset with pwr.orderly := some { dest := mSTANDBY, cause := byCommand } }, _, rfl, by decide, rfl, rfl, rfl⟩

theorem wit_hold : ∃ s : State, s.mode = mREADY ∧ s.pwr.holdRun = true ∧ s.safe.closing = .idle ∧ State.reset.mode ≠ mREADY :=
  ⟨{ State.reset.wr F.SYS_MODE_MODE mREADY with pwr.holdRun := true }, by decide, rfl, rfl, by decide⟩

theorem wit_ready_lost : ∃ s : State, s.mode = mREADY ∧ s.setReady.readyBits ≠ 0 ∧ readyState.setReady.readyBits = 0 :=
  ⟨State.reset.wr F.SYS_MODE_MODE mREADY, by decide, by decide +kernel, by decide +kernel⟩

/-! ### StartsSayTheirKind -/

theorem wit_power_on : State.reset.powered = false ∧ ({} : Boot).ctl = true ∧ ({ ctl := false } : Boot).ctl = false ∧ -25 ≤ ({} : Boot).die ∧
    ({ die := -26 } : Boot).die < -25 ∧ -25 ≤ ({ die := -25 } : Boot).die := by decide

theorem wit_primer : ∃ s : State, s.pwr.phase = .primer ∧ s.powered = true ∧ ({ s with pwr.phase := .up } : State).powered = true ∧
    ({ s with pwr.phase := .up } : State).pwr.phase ≠ .primer := ⟨{ State.reset with pwr.phase := .primer }, rfl, by decide, by decide, by decide⟩

theorem wit_aux_return : ∃ s : State, s.pwr.phase = .unpowered := ⟨{ State.reset with pwr.phase := .unpowered }, rfl⟩

theorem wit_wakes : ∃ s : State, s.isOn (F.SB_WAKE_EN 0) = true ∧ 0 = s.rd (F.SB_WAKE_ADDR 0) ∧ s.rd (F.SB_BRANCH_ISOLATED 0) / 2 ^ 3 % 2 = 0 ∧
    s.isOn (F.CAN_WAKE_EN 0) = true ∧ (5 &&& s.rd (F.CAN_WAKE_MASK 0)) = s.rd (F.CAN_WAKE_ID 0) ∧
    ([] : List Byte).headD (s.rd (F.CAN_WAKE_DATA0 0)) = s.rd (F.CAN_WAKE_DATA0 0) ∧ s.pwr.phase = .up ∧ s.mode = mSHELF :=
  ⟨{ State.reset.wrs [(F.SYS_MODE_MODE, 0), (F.SB_WAKE_EN 0, 1), (F.SB_WAKE_ADDR 0, 0), (F.CAN_WAKE_EN 0, 1), (F.CAN_WAKE_MASK 0, 7), (F.CAN_WAKE_ID 0, 5)]
     with pwr.phase := .up }, by decide, by decide, by decide, by decide, by decide, by decide, rfl, by decide⟩

theorem wit_later_wake : ∃ s : State, s.pwr.phase = .up ∧ s.mode ≠ mSHELF ∧ 0 < s.pwr.wakes ∧ s.thm.heldOff = false :=
  ⟨{ State.reset with pwr.phase := .up, pwr.wakes := 1 }, rfl, by decide, by decide, rfl⟩

theorem wit_ctl_back : ∃ s : State, s.pwr.ctl = false ∧ s.powered = true ∧ s.thm.heldOff = false :=
  ⟨{ State.reset with pwr.ctl := false, pwr.phase := .up }, rfl, by decide, rfl⟩

theorem wit_cool : ∃ s : State, s.thm.heldOff = true ∧ s.thm.stuck = false := ⟨{ State.reset with thm.heldOff := true }, rfl, rfl⟩

/-! ### CardsComeAndGo -/

theorem wit_heartbeat : ∃ s : State, s.pwr.phase = .up ∧ s.pwr.ctl = true ∧ s.mode ≠ mSHELF := ⟨{ State.reset with pwr.phase := .up }, rfl, rfl, by decide⟩

theorem wit_ctl_absent : ∃ s : State, s.pwr.ctl = false ∧ s.mode ≠ mSERVICE ∧ s.closed = true ∧ s.thm.heldOff = false :=
  ⟨{ (State.reset.wr F.SYS_MODE_MODE mRUN).wr F.SAFE_STATUS_STRING_CLOSED 1 with pwr.ctl := false }, rfl, by decide, by decide, rfl⟩

theorem wit_ctl_service : ∃ s : State, s.pwr.ctl = false ∧ s.mode = mSERVICE := ⟨{ State.reset.wr F.SYS_MODE_MODE mSERVICE with pwr.ctl := false }, rfl, by decide⟩

theorem wit_sfc_out : State.reset.safe.present = true := by decide

theorem wit_sfc_in : ∃ s : State, s.safe.present = false ∧ s.powered = true := ⟨{ State.reset with safe.present := false, pwr.phase := .up }, rfl, by decide⟩

theorem wit_seg_out : ∃ s : State, (s.segOf 26).present = true ∧ s.wdSlot = 26 ∧ (s.segOf 1).present = true ∧ s.wdSlot ≠ 1 ∧ s.segOk 1 = true ∧
    (s.segOf 1).blank = false ∧ s.seg.armed = true ∧ s.bypassed 1 = false :=
  ⟨{ ((State.reset.setSeg 26 { present := true }).setSeg 1 { present := true }).wr F.SAFE_WITHDRAW_SLOT 26 with seg.armed := true },
    by decide, by decide, by decide, by decide, by decide, by decide, rfl, by decide⟩

theorem wit_shutdown : ∃ s : State, s.awake = true ∧ s.thm.shutting = false ∧ s.thm.heldOff = false ∧ 1000 ≤ s.thm.hotMs ∧ s.safe.closing = .idle ∧
    s.closed = false ∧ (s.wr F.SAFE_STATUS_STRING_CLOSED 1).closed = true :=
  ⟨{ State.reset with pwr.phase := .up, thm.hotMs := 1000 }, by decide, rfl, rfl, by decide, rfl, by decide, by decide⟩

/-! ### PortsKeyAndFail -/

theorem wit_link_up : State.reset.pwr.ctl = true ∧ State.reset.mode ≠ mSHELF ∧ State.reset.isOn F.HRT_PORT_CFG_ALLOW_100 = true ∧
    (State.reset.wr F.HRT_PORT_CFG_ALLOW_100 0).isOn F.HRT_PORT_CFG_ALLOW_100 = false ∧ (State.reset.wr F.HRT_PORT_CFG_ALLOW_100 0).mode ≠ mSHELF := by decide

theorem wit_eap : ∃ (s : State) (c d : Cert), (s.port 1).stage = .waitEap ∧ s.certOk c = true ∧ s.certOk d = false :=
  ⟨{ State.reset with hrt.portB := { stage := .waitEap }, sec.anchors := [(0, { ca := [] })] },
   { serial := 5, chain := [5], anchor := some 0, roles := 2, notAfter := 9, notBefore := 0 },
   { serial := 5, chain := [5], anchor := some 1, roles := 2, notAfter := 9, notBefore := 0 }, by decide, by decide +kernel, by decide +kernel⟩

theorem wit_stages : ∃ s t : State, (s.port 0).stage = .eapDone ∧ (s.port 1).stage = .retryWait ∧ (t.port 0).stage = .mka ∧ (t.port 1).stage = .keyed :=
  ⟨{ State.reset with hrt.portA := { stage := .eapDone }, hrt.portB := { stage := .retryWait } },
   { State.reset with hrt.portA := { stage := .mka }, hrt.portB := { stage := .keyed } }, by decide, by decide, by decide, by decide⟩

theorem wit_wait : (if 5 ≤ ([1, 2, 3, 4, 5] : List Nat).length then 60 else 30) ≤ 60 ∧ 29 < (if 5 ≤ ([] : List Nat).length then 60 else 30) := by decide

theorem wit_link_down : ∃ s : State, s.isOn (F.HRT_PORT_STATUS_LINK 1) = true := ⟨State.reset.wr (F.HRT_PORT_STATUS_LINK 1) 1, by decide⟩

theorem wit_service : ∃ (s : State) (x : Session), s.sec.service = some x ∧ s.rd F.SEC_CFG_SVC_IDLE_MIN ≤ 255 ∧ 0 < s.rd F.SEC_CFG_SVC_IDLE_MIN :=
  ⟨{ State.reset with sec.service := some { cert := 5, roles := 3, anchor := 0 } }, _, rfl, by decide, by decide⟩

theorem wit_service_open : State.reset.sec.service = none ∧ State.reset.sec.claiming = false ∧ State.reset.pwr.ctl = true ∧
    State.reset.isOn F.SEC_STATUS_ID_FAULT = false := by decide

/-! ### IndicesFollowTheAcceptanceRules -/

/-- A frame of packet number 1 from the key server at address 0. -/
def goodFrame : FrameIn := { vlan := none, source := 0, icvOk := true, length := 64, version := 1 }

theorem wit_doorbell : ∃ (s : State), s.ringsOn = true ∧ s.activePort = 0 ∧ s.frameOk 0 goodFrame = true ∧ s.frameOk 1 goodFrame = false ∧
    s.keyed 0 = true ∧ s.hrt.dbSeq = some 4294967295 ∧
    (1 ≤ (0 + two32 - 4294967295) % two32 ∧ (0 + two32 - 4294967295) % two32 ≤ 2147483648) ∧ s.rd F.HRT_CFG_POLL_MS ≠ 0 ∧
    s.isOn (F.HRT_RING_CFG_ENABLE 15) = true ∧ ((4294967295 + two32 - 4294967295) % two32 = 0) :=
  ⟨{ State.reset.wrs [(F.HRT_STATUS_RINGS_RUNNING, 1), (F.HRT_RING_CFG_ENABLE 15, 1)] with
     hrt.portA := { stage := .keyed }, hrt.dbSeq := some 4294967295 }, by decide, by decide, by decide, by decide, by decide, rfl, by decide, by decide,
   by decide, by decide⟩

theorem wit_poll_off : ∃ s : State, s.rd F.HRT_CFG_POLL_MS = 0 ∧ s.hrt.reread = false := ⟨State.reset.wr F.HRT_CFG_POLL_MS 0, by decide, rfl⟩

/-! ### RingsCarryInOrder -/

theorem wit_rings_bad : State.reset.isOn F.HRT_CFG_RINGS_ON = false ∧ State.reset.cfgErr ≠ 0 := by decide +kernel

theorem wit_rings_good : ∃ s : State, s.isOn F.HRT_CFG_RINGS_ON = false ∧ s.cfgErr = 0 :=
  ⟨{ State.reset.wrs [(F.HRT_REGION_LEN_VALUE 0, 4), (F.HRT_REGION_CFG_READ 0, 1), (F.HRT_REGION_CFG_WRITE 0, 1), (F.HRT_RING_CFG_ENABLE 0, 1),
       (F.HRT_RING_CFG_ENABLE 1, 1), (F.HRT_RING_CFG_SIZE_LOG2 0, 4), (F.HRT_RING_CFG_SIZE_LOG2 1, 5), (F.HRT_RING_BASE_LO_VALUE 0, 4096),
       (F.HRT_RING_BASE_LO_VALUE 1, 8192)] with hrt.portA := { stage := .keyed } }, by decide +kernel, by decide +kernel⟩

theorem wit_rings_running : ∃ s : State, s.isOn F.HRT_CFG_RINGS_ON = true := ⟨State.reset.wr F.HRT_CFG_RINGS_ON 1, by decide⟩

theorem wit_take : ∃ (s : State) (b : List Byte), s.ringOn 0 = true ∧ s.rd (F.HRT_RING_HOST_IDX_INDEX 0) ≠ s.rd (F.HRT_RING_MOD_IDX_INDEX 0) ∧
    2 ≤ s.ringFree 1 ∧ s.hrt.compWait = [] ∧ s.hrt.taken = [] ∧ s.hrt.switching = none ∧ s.hrt.transfers = [] ∧ ((cmdEntry b).fence = true → s.hrt.ops = []) ∧
    opcodeKnown (cmdEntry b).opcode = true ∧ (cmdEntry b).reserved = false ∧
    ((cmdEntry b).bulkLen ≠ 0 → (cmdEntry b).bulkIndex = (s.rd (F.HRT_RING_MOD_IDX_INDEX 4) + s.hrt.bulkSkip) % two32) :=
  ⟨State.reset.wrs [(F.HRT_STATUS_RINGS_RUNNING, 1), (F.HRT_RING_CFG_ENABLE 0, 1), (F.HRT_RING_HOST_IDX_INDEX 0, 1), (F.HRT_RING_CFG_SIZE_LOG2 1, 4)],
   leBytes 2 0x0403 ++ [1, 0] ++ leBytes 4 7 ++ leBytes 4 64 ++ leBytes 52 0, by decide, by decide, by decide, rfl, rfl, rfl, rfl, by decide, by decide,
   by decide, by decide⟩

theorem wit_no_room : ∃ s : State, s.ringFree 1 < 2 := ⟨State.reset.wr (F.HRT_RING_MOD_IDX_INDEX 1) 15, by decide⟩

theorem wit_bulk_late : ∃ (s : State) (x : Taken), s.takenOf 0x0403 9 = some x ∧ x.bulkLen ≠ 0 :=
  ⟨{ State.reset with hrt.taken := [{ opcode := 0x0403, tag := 9, index := 0, mode := 1, roles := 7, port := 0, bulkLen := 64 }] }, _, rfl, by decide⟩

theorem wit_reads : ∃ (s : State) (r : ReadReq), s.frameOk 0 goodFrame = true ∧ s.hrt.switching = none ∧ s.pwr.dropping = false ∧ s.ringsOn = true ∧
    (s.hrt.reads.find? fun r => r.tag == 3) = some r ∧ r.retries < s.rd F.HRT_RETX_RETX_MAX :=
  ⟨{ State.reset.wr F.HRT_STATUS_RINGS_RUNNING 1 with hrt.portA := { stage := .keyed }, hrt.reads := [{ tag := 3, ring := 0 }] }, _, by decide, rfl, rfl,
   by decide, rfl, by decide⟩

theorem wit_frames : ∃ (s t : State) (f g : Frame), s.ringsOn = true ∧ s.hrt.frames = [f] ∧ f.retries < s.rd F.HRT_RETX_RETX_MAX ∧
    t.ringsOn = true ∧ t.hrt.frames = [g] ∧ t.rd F.HRT_RETX_RETX_MAX ≤ g.retries :=
  ⟨{ State.reset.wr F.HRT_STATUS_RINGS_RUNNING 1 with hrt.frames := [{ seq := 0, body := .modIdx 0 1, retries := 7 }] },
   { State.reset.wr F.HRT_STATUS_RINGS_RUNNING 1 with hrt.frames := [{ seq := 0, body := .modIdx 0 1, retries := 8 }] }, _, _, by decide, rfl,
   by decide, by decide, rfl, by decide⟩

theorem wit_notify : ∃ s : State, s.ringOn 15 = true ∧ (s.ring 15).unannounced ≠ 0 ∧ s.rd (F.HRT_RING_CFG_COAL_CNT 15) ≠ 0 :=
  ⟨(State.reset.wrs [(F.HRT_STATUS_RINGS_RUNNING, 1), (F.HRT_RING_CFG_ENABLE 15, 1), (F.HRT_RING_CFG_COAL_CNT 15, 4)]).setRing 15 { unannounced := 1 },
   by decide, by decide, by decide⟩

theorem wit_events : ∃ (s t : State) (e : Ev), s.recorder.evq = [e] ∧ s.ringOn 2 = true ∧ s.recorder.hold = [] ∧ 0 < s.ringFree 2 ∧
    t.recorder.evq = [e] ∧ t.ringOn 2 = false ∧ t.recorder.hold.length < 16384 :=
  ⟨{ State.reset.wrs [(F.HRT_STATUS_RINGS_RUNNING, 1), (F.HRT_RING_CFG_ENABLE 2, 1)] with
     recorder.evq := [{ addr := 0, bit := 0, status := .ok, mode := 1, system := false, seq := 0, time := 0 }] },
   { State.reset with recorder.evq := [{ addr := 0, bit := 0, status := .ok, mode := 1, system := false, seq := 0, time := 0 }] }, _, rfl, by decide, rfl,
   by decide, rfl, by decide, by decide⟩

theorem wit_telemetry : ∃ s t : State, s.ringOn 6 = true ∧ s.rd (F.HRT_RING_TLM_KIND 6) = 2 ∧ kindWords 2 ≠ 0 ∧ s.tlmDue 6 2 = true ∧
    s.rd (F.HRT_RING_TLM_DIV 6) ≤ (s.ring 6).skipped + 1 ∧ t.ringOn 15 = true ∧ kindWords (t.rd (F.HRT_RING_TLM_KIND 15)) ≠ 0 ∧ t.tlmDue 15 6 = true ∧
    (t.ring 15).skipped + 1 < t.rd (F.HRT_RING_TLM_DIV 15) ∧ t.ringOn 3 = true ∧ t.plumbIdx % (4000 / max 1 (t.rd F.HRT_SUMMARY_RATE_HZ)) = 0 ∧
    (t.setRing 15 { last := some 0 }).tlmDue 15 6 = false :=
  ⟨State.reset.wrs [(F.HRT_STATUS_RINGS_RUNNING, 1), (F.HRT_RING_CFG_ENABLE 6, 1), (F.HRT_RING_TLM_KIND 6, 2), (F.HRT_RING_TLM_DIV 6, 1)],
   State.reset.wrs [(F.HRT_STATUS_RINGS_RUNNING, 1), (F.HRT_RING_CFG_ENABLE 15, 1), (F.HRT_RING_CFG_ENABLE 3, 1), (F.HRT_RING_TLM_KIND 15, 6),
     (F.HRT_RING_TLM_DIV 15, 3)], by decide, by decide, by decide, by decide, by decide, by decide, by decide, by decide, by decide, by decide, by decide,
   by decide⟩

theorem wit_summary_off : (State.reset.wr F.SEG_PLUMB_IDX_LO_IDX_LO 1).plumbIdx % (4000 / max 1 (State.reset.rd F.HRT_SUMMARY_RATE_HZ)) ≠ 0 := by decide

/-! ### HostTransportCommandsComplete -/

theorem wit_hrt_status : State.reset.Allowed 0x0105 rObserver ⟨1, 3⟩ ∧ State.reset.Allowed 0x0108 rOperator ⟨1, 3⟩ := by unfold State.Allowed; decide

theorem wit_switch_done : ∃ s : State, s.Allowed 0x0106 rOperator ⟨1, 3⟩ ∧ s.keyed 0 = true ∧ s.activePort = 0 ∧ s.keyed 1 = false :=
  ⟨{ State.reset with hrt.portA := { stage := .keyed } }, by unfold State.Allowed; decide, by decide, by decide, by decide⟩

theorem wit_switch_wait : ∃ s : State, s.Allowed 0x0106 rOperator ⟨1, 3⟩ ∧ s.keyed 1 = true ∧ s.activePort ≠ 1 ∧ s.ringsOn = true ∧
    s.takenOf 0x0106 1 ≠ none ∧ s.hrt.frames ≠ [] ∧ ({ s with hrt.frames := [] } : State).hrt.frames = [] :=
  ⟨{ State.reset.wr F.HRT_STATUS_RINGS_RUNNING 1 with
     hrt.portB := { stage := .keyed }, hrt.frames := [{ seq := 0, body := .modIdx 0 1 }]
     hrt.taken := [{ opcode := 0x0106, tag := 1, index := 0, mode := 1, roles := 31, port := 0 }] }, by unfold State.Allowed; decide, by decide, by decide,
   by decide, by decide, by decide, rfl⟩

theorem wit_tlm_set : State.reset.Allowed 0x0107 rOperator ⟨1, 3⟩ ∧ State.reset.rangeOk 2 1 416 = true ∧ State.reset.rd (F.HRT_RING_TLM_KIND 15) ≠ 5 ∧
    (State.reset.wr (F.HRT_RING_TLM_KIND 15) 5).rd (F.HRT_RING_TLM_KIND 15) = 5 := by unfold State.Allowed; decide

/-! ### RegistersAreWrittenWhole -/

theorem wit_write_bad : ∃ (o : SetupOp) (st : Status), State.reset.writeCheck o.addr o.value = some st ∧ (State.reset.hostWrite o).2 ≠ .ok :=
  ⟨{ addr := 2, value := 0, write := true }, .param, by decide +kernel, by decide +kernel⟩

theorem wit_write_role : ∃ s t : State, hasRole (s.portRoles 1) rMaintainer = true ∧ hasRole (t.portRoles 1) rMaintainer = false :=
  ⟨{ State.reset with hrt.portB := { stage := .keyed, session := some { cert := 1, roles := 7, anchor := 0 } } }, State.reset, by decide, by decide⟩

theorem wit_setup : ∃ s t : State, s.pwr.ctl = true ∧ s.mode ≠ mSHELF ∧ s.frameOk 0 goodFrame = true ∧ s.hrt.setupSeq ≠ some (5 % two32) ∧
    t.hrt.setupSeq = some (5 % two32) :=
  ⟨{ State.reset with hrt.portA := { stage := .keyed } }, { State.reset with hrt.setupSeq := some 5 }, rfl, by decide, by decide, by decide, by decide⟩

theorem wit_service_op : ∃ s : State, s.sec.service ≠ none ∧ s.pwr.ctl = true ∧ s.mode ≠ mSHELF :=
  ⟨{ State.reset with sec.service := some { cert := 5, roles := 3, anchor := 0 } }, by decide, rfl, by decide⟩

theorem wit_latch : Tbl.has State.reset.latches (latchKey agHRT F.REC_SEQ_LO_VALUE.addr) = false := by decide

/-! ### MeasurementCommandsComplete -/

theorem wit_avg : State.reset.Allowed 0x0201 rOperator ⟨1, 3⟩ := by unfold State.Allowed; decide

theorem wit_raw : ∃ s t : State, s.Allowed 0x0202 rMaintainer ⟨1, 3⟩ ∧ s.isOn (F.HRT_RING_CFG_ENABLE 15) = true ∧ 67108863 < 2 ^ s.segs ∧
    s.seg.rawRing = 0 ∧ t.Allowed 0x0203 rMaintainer ⟨1, 3⟩ ∧ t.seg.rawRing ≠ 0 :=
  ⟨State.reset.wr (F.HRT_RING_CFG_ENABLE 15) 1, { State.reset with seg.rawRing := 6 }, by unfold State.Allowed; decide, by decide, by decide, rfl,
   by unfold State.Allowed; decide, by decide⟩

theorem wit_cal : ∃ s : State, s.Allowed 0x0204 rMaintainer ⟨1, 3⟩ ∧ s.Allowed 0x0206 rMaintainer ⟨1, 3⟩ ∧ s.segOk 26 = true ∧ s.segLive 26 = true ∧
    s.spareFree 26 = true ∧ s.sumFault 26 = false ∧ (s.segOf 26).cal = none ∧ (s.segOf 26).shadow = none ∧ s.segLive 1 = false ∧ s.segOk 1 = true :=
  ⟨State.reset.wr (F.SEG_STATE_STATE 26) segPROVISIONAL, by unfold State.Allowed; decide, by unfold State.Allowed; decide, by decide, by decide, by decide,
   by decide, by decide, by decide, by decide, by decide⟩

theorem wit_seg_status : State.reset.Allowed 0x0205 rObserver ⟨1, 3⟩ ∧ State.reset.Allowed 0x0208 rObserver ⟨1, 3⟩ ∧ State.reset.segArgBad 0 = false ∧
    State.reset.segArgBad 26 = false := by unfold State.Allowed; decide

theorem wit_seg_reset : ∃ s : State, s.Allowed 0x0207 rMaintainer ⟨1, 3⟩ ∧ (s.segOf 1).present = true ∧ (s.segOf 2).present = false :=
  ⟨State.reset.setSeg 2 { present := false }, by unfold State.Allowed; decide, by decide, by decide⟩

theorem wit_wire_clear : ∃ s : State, s.Allowed 0x0209 rMaintainer ⟨1, 3⟩ ∧ s.segOk 1 = true ∧
    s.rd F.SEG_WIRE_PARAM_DETECT_BLOCKS ≤ (s.segOf 1).clean ∧ (s.segOf 2).clean < s.rd F.SEG_WIRE_PARAM_DETECT_BLOCKS :=
  ⟨State.reset.setSeg 1 { clean := 5 }, by unfold State.Allowed; decide, by decide, by decide, by decide⟩

/-! ### InstantsReachEveryUser -/

theorem wit_instant : State.reset.pwr.ctl = false ∨ State.reset.pwr.ctl = true := by decide

theorem wit_no_ctl : ∃ s : State, s.pwr.ctl = false ∧ s.plumbIdx + 1 < 2 ^ 64 ∧ s.seg.phase.natAbs ≤ 500000 ∧ s.segOk 26 = true ∧
    80000000 < (-80000001 : Int).natAbs := ⟨{ State.reset with pwr.ctl := false }, rfl, by decide, by decide, by decide, by decide⟩

theorem wit_frame : liveState.segOk 26 = true ∧ (liveState.segOf 26).present = true ∧ (liveState.segOf 26).blank = false ∧
    (liveState.segOf 26).cut = false ∧ liveState.cim.fresh = false ∧ liveState.segLive 26 = true ∧ liveState.segState 26 ≠ segJOINING := by decide

theorem wit_heard : ∃ f, heard (liveState.copiesOf 26 (.hit []) .absent { cells := [], sum := 0, spare := 0, ntc := 0, die := 25 }) = some f :=
  Option.isSome_iff_exists.mp (by decide +kernel)

theorem wit_bad : liveState.copiesOf 26 (.hit [(0, 1), (1, 1), (2, 1)]) (.hit [(0, 1), (1, 1), (2, 1)])
    { cells := [], sum := 0, spare := 0, ntc := 0, die := 25 } = (.bad, .bad) := by decide +kernel

theorem wit_no_card : (({ State.reset with seg.segs := [(1, { present := false })] } : State).segOf 1).present = false := by decide

theorem wit_intake : State.reset.plumbIdx < State.reset.filtLag ∧ ∃ s : State, s.filtLag ≤ s.plumbIdx ∧ s.cim.fresh = false ∧
    s.intakeDue (s.plumbIdx - s.filtLag) = true :=
  ⟨by decide, State.reset.wr F.SEG_PLUMB_IDX_LO_IDX_LO 1, by decide, by decide, by decide⟩

theorem wit_window : ∃ a b : Avg, 2 * a.n < 9 ∧ 8 ≤ 2 * b.n ∧ 0 < b.n ∧ b.affected = false := ⟨{ n := 4 }, { n := 4 }, by decide, by decide, by decide, rfl⟩

/-! ### RsWordsReadBackWhole -/

theorem wit_code_data : (List.replicate 32 255).length = 32 ∧ ∀ b ∈ List.replicate 32 255, b < 256 := by decide

/-! ### CardsJoinAndLeaveTheRing -/

theorem wit_slots : State.reset.segOk 1 = true ∧ State.reset.segOk 26 = true ∧ State.reset.segOk 27 = false ∧ State.reset.segOk 0 = false ∧
    (State.reset.segOf 26).present = true := by decide

theorem wit_short : ∃ s : State, s.segOk 13 = true ∧ s.segOk 14 = false := ⟨State.reset.wr F.SYS_ID_SEG_FITTED 13, by decide, by decide⟩

theorem wit_stable : ∃ s : State, s.segOk 26 = true ∧ (s.segOf 26).present = true ∧ (s.segOf 26).blank = false ∧ 1 ≤ (s.segOf 26).join ∧
    (s.segOf 26).join ≤ 4 := ⟨State.reset.setSeg 26 { join := 1 }, by decide, by decide, by decide, by decide, by decide⟩

theorem wit_joining : ∃ s : State, s.segOk 26 = true ∧ (s.segOf 26).present = true ∧ s.segLive 26 = false ∧ (s.segOf 26).join = 5 :=
  ⟨State.reset.setSeg 26 { join := 5 }, by decide, by decide, by decide, by decide⟩

theorem wit_checks : ∃ c d : JoinCheck, JoinCheck.failed c = 0 ∧ JoinCheck.failed d ≠ 0 ∧ c.echo ≠ State.reset.cmpConfig 26 ∧
    10 * State.reset.rd F.SEG_SPARE_CFG_DRIFT_LIMIT < (c.ref - (State.reset.segOf 26).fac.ref).natAbs :=
  ⟨{ echo := ⟨7, 7, 31⟩, ref := 0 }, { echo := ⟨0, 0, 31⟩, self := false }, by decide, by decide, by decide, by decide⟩

theorem wit_provisional : ∃ s : State, s.segOk 26 = true ∧ s.segState 26 = segPROVISIONAL ∧ (s.segOf 26).refSeen = true :=
  ⟨(State.reset.wr (F.SEG_STATE_STATE 26) segPROVISIONAL).setSeg 26 { refSeen := true }, by decide, by decide, by decide⟩

theorem wit_lost : ∃ s u : State, s.segLive 26 = true ∧ 4 ≤ (s.segOf 26).missed ∧ s.wdSlot ≠ 26 ∧ u.segLive 26 = true ∧ (u.segOf 26).missed < 4 :=
  ⟨liveState.setSeg 26 { missed := 4 }, liveState, by decide, by decide, by decide, by decide, by decide⟩

theorem wit_degraded : ∃ s : State, s.isOn F.LATH_STATUS_A_WHOLE = true ∧ s.isOn F.LATH_STATUS_B_WHOLE = true ∧
    s.isOn F.LATH_STATUS_B_DEGRADED = false ∧ s.segOk 26 = true :=
  ⟨State.reset.wrs [(F.LATH_STATUS_A_WHOLE, 1), (F.LATH_STATUS_B_WHOLE, 1)], by decide, by decide, by decide, by decide⟩

/-! ### SenseWiresComparatorsAndTone -/

theorem wit_spare : ∃ s : State, s.segOk 26 = true ∧ s.segLive 26 = true ∧ s.spareFree 26 = true ∧ (s.segOf 26).shadow = none ∧
    (s.segOf 26).cal = none ∧ (s.segOf 26).rot = 16 ∧ meanOf (s.segOf 26).dwSum (s.segOf 26).dwN = some 301 ∧ Tbl.get 0 (s.segOf 26).drift 16 = 1 ∧
    s.isOn F.UC_CFG_AUTO_CONV = true ∧ (liveState.segOf 26).rot = 0 :=
  ⟨(liveState.wr F.UC_CFG_AUTO_CONV 1).setSeg 26 { rot := 16, dwSum := 1204, dwN := 4, drift := [(16, 1)] }, by decide, by decide, by decide,
   by decide, by decide, by decide, by decide +kernel, by decide, by decide, by decide⟩

theorem wit_spare_limits : (10 * State.reset.rd F.SEG_SPARE_CFG_DRIFT_LIMIT) = 300 := by decide

theorem wit_shadow : ∃ s u : State, s.segLive 26 = true ∧ s.spareFree 26 = true ∧ (s.segOf 26).shadow = some (16, true) ∧ s.shadowAgrees 26 = true ∧
    u.segLive 26 = true ∧ u.spareFree 26 = true ∧ (u.segOf 26).shadow = some (16, true) ∧ u.shadowAgrees 26 = false :=
  ⟨liveState.setSeg 26 { shadow := some (16, true), shSum := 0, shN := 4 }, liveState.setSeg 26 { shadow := some (16, true) }, by decide, by decide,
   by decide, by decide +kernel, by decide, by decide, by decide, by decide +kernel⟩

theorem wit_cal_last : ∃ s : State, s.segLive 26 = true ∧ s.spareFree 26 = true ∧ (s.segOf 26).shadow = none ∧
    (s.segOf 26).cal = some (List.replicate 16 0) ∧ meanOf (s.segOf 26).dwSum (s.segOf 26).dwN = some 2 :=
  ⟨liveState.setSeg 26 { cal := some (List.replicate 16 0), rot := 16, dwSum := 4, dwN := 2 }, by decide, by decide, by decide, by decide, by decide +kernel⟩

theorem wit_block : ∃ (s : State) (b : Blk), s.segOk 26 = true ∧ s.segLive 26 = true ∧ (s.segOf 26).blkDone = some b ∧ (s.segOf 26).verdict = .none ∧
    verdictOf (1000 * s.rd F.SEG_WIRE_PARAM_AMP_THRESH) (2000 * s.rd F.SEG_WIRE_PARAM_SUM_MISMATCH) (b.amps.take 16) (b.amps.getD 16 0)
      (b.amps.getD 17 0) = (.none, 0) :=
  ⟨(liveState.wr F.SEG_WIRE_PARAM_AMP_THRESH 50).setSeg 26 { blkDone := some { vs := List.replicate 16 0, cvs := List.replicate 16 0 } },
   { vs := List.replicate 16 0, cvs := List.replicate 16 0 }, by decide, by decide, by decide, by decide, by decide +kernel⟩

theorem wit_wire : ∃ (s : State) (b : Blk), s.segLive 26 = true ∧ (s.segOf 26).blkDone = some b ∧ (s.segOf 26).verdict = .wire 16 ∧
    s.rd F.SEG_WIRE_PARAM_DETECT_BLOCKS ≤ (s.segOf 26).vcount + 1 ∧ s.rd (F.SEG_WIRE_WIRE_MAP 26) / 2 ^ 16 % 2 = 0 ∧
    verdictOf (1000 * s.rd F.SEG_WIRE_PARAM_AMP_THRESH) (2000 * s.rd F.SEG_WIRE_PARAM_SUM_MISMATCH) (b.amps.take 16) (b.amps.getD 16 0)
      (b.amps.getD 17 0) = (.wire 16, 32768) :=
  ⟨(liveState.wr F.SEG_WIRE_PARAM_AMP_THRESH 50).setSeg 26 { verdict := .wire 16, vcount := 5
                                                             blkDone := some { vs := List.replicate 16 0, cvs := List.replicate 15 0 ++ [101600000], s := 101600000 } },
   { vs := List.replicate 16 0, cvs := List.replicate 15 0 ++ [101600000], s := 101600000 }, by decide, by decide, by decide, by decide, by decide, by decide +kernel⟩

theorem wit_verdict : (20 : Int) ≤ 21 ∧ (-20 : Int) ≤ -(20 : Int) ∧ (3 : Int).natAbs ≤ 3 := by decide

theorem wit_comparator : ∃ s : State, s.cmpWorks 26 16 false = true ∧ s.cmpWorks 26 16 true = true ∧
    ((s.segOf 26).counts.find? fun p => p.1 == cmpBit 16 true) = some (cmpBit 16 true, 7) ∧
    ((s.segOf 26).counts.any fun p => p.1 == cmpBit 16 false) = false :=
  ⟨(State.reset.wr F.SEG_CMP_PARAM_UV_CODE 1).setSeg 26 { counts := [(31, 7)] }, by decide, by decide, by decide, by decide⟩

theorem wit_cmp_test : ∃ s : State, s.segOk 26 = true ∧ (s.segOf 26).present = true ∧ (s.segOf 26).blank = false ∧ s.onAux 26 = true ∧
    s.testRuns 26 (s.segOf 26).testPos false = true :=
  ⟨((liveState.wr F.PWR_SEG_ON_ISLAND (2 ^ 25)).setSeg 26 { frame := some { seq := 0, aligned := true, provisional := false, spareSubst := false
                                                                            timingB := false, ovAny := false, uvAny := false, selftest := false
                                                                            cells := List.replicate 16 3000000, sum := 0, spare := 0, ntc := 0, sparePos := 0
                                                                            die := 0, balMap := 0 } }), by decide, by decide, by decide, by decide, by decide⟩

theorem wit_keepalive : ∃ s : State, s.segOk 26 = true ∧ s.onAux 26 = false ∧ s.mode ≠ mSHELF ∧ s.pwr.phase = .up :=
  ⟨(({ State.reset with pwr.phase := .up } : State).wr F.SYS_MODE_MODE mSTANDBY).wr F.PWR_SEG_ON_ISLAND 0, by decide, by decide, by decide, rfl⟩

theorem wit_tone : ∃ s u : State, s.seg.armed = true ∧ s.toneThrough = false ∧ u.toneThrough = true ∧ s.seg.deadline = true :=
  ⟨{ State.reset with seg.armed := true, seg.deadline := true }, State.reset.wr F.SEG_TONE_BYPASS (2 ^ 26 - 1), rfl, by decide, by decide, rfl⟩

theorem wit_tone_deadline : State.reset.seg.deadline = false ∧ State.reset.seg.latchCheck = false ∧ State.reset.seg.armed = false := by decide

/-! ### BalancingCommandsComplete -/

theorem wit_bal_set_mode : State.reset.Allowed 0x0301 rOperator ⟨1, 3⟩ ∧ State.reset.Allowed 0x0303 rOperator ⟨1, 3⟩ ∧
    State.reset.Allowed 0x0302 rMaintainer ⟨1, 3⟩ ∧ State.reset.bal.campaign = none ∧ State.reset.Allowed 0x0302 rOperator ⟨1, 3⟩ := by
  unfold State.Allowed; decide

theorem wit_bal_busy : ∃ s : State, s.Allowed 0x0302 rOperator ⟨1, 3⟩ ∧ s.bal.campaign ≠ none ∧ s.Allowed 0x0304 rMaintainer ⟨1, 3⟩ ∧
    s.cellOk 416 = true ∧ s.bal.campaign = some { kind := 3, target := 0, deadband := 50, limit := 0 } :=
  ⟨{ State.reset with bal.campaign := some { kind := 3, target := 0, deadband := 50, limit := 0 } }, by unfold State.Allowed; decide, by decide,
   by unfold State.Allowed; decide, by decide, rfl⟩

theorem wit_bal_learn_twice : ∃ s : State, s.Allowed 0x0306 rMaintainer ⟨1, 3⟩ ∧ s.segArgBad 26 = false ∧ s.opOf 0x0306 26 ≠ none :=
  ⟨{ State.reset with hrt.ops := [{ opcode := 0x0306, tag := 9, key := 26, index := 0, port := 3 }] }, by unfold State.Allowed; decide, by decide, by decide⟩

theorem wit_bal_kind : ∃ s : State, s.Allowed 0x0304 rMaintainer ⟨1, 3⟩ ∧ s.cellOk 1 = true ∧
    s.bal.campaign = some { kind := 2, target := 10000, deadband := 50, limit := 3600000 } :=
  ⟨{ State.reset with bal.campaign := some { kind := 2, target := 10000, deadband := 50, limit := 3600000 } }, by unfold State.Allowed; decide, by decide, rfl⟩

theorem wit_bal_reads : State.reset.Allowed 0x0305 rObserver ⟨1, 3⟩ ∧ State.reset.Allowed 0x0307 rObserver ⟨1, 3⟩ ∧
    State.reset.Allowed 0x0306 rMaintainer ⟨1, 3⟩ ∧ State.reset.segArgBad 0 = false ∧ State.reset.segArgBad 26 = false ∧
    State.reset.segOk 26 = true ∧ State.reset.opOf 0x0306 0 = none ∧ State.reset.learned 26 16 = false := by
  unfold State.Allowed; decide

/-! ### BalancingLayoutKeepsItsLimits -/

theorem wit_layout : (1 : Nat) ≤ 8 ∧ ([64, 64] : List Nat).sum ≤ 64 * 2 ∧ (80 : Int) ≤ 82 ∧ (82 : Int) ≤ 80 + 8 := by decide

/-! ### BalancingEventsFollowTheirRules -/

theorem wit_bal_slot : ∃ s : State, s.segOk 26 = true ∧ Tbl.has [(26, 1)] 26 = true ∧ ((Tbl.get 0 [(26, 1)] 26) ^^^ (s.balCard 26).on).testBit 0 = true ∧
    (s.balCard 26).mis.testBit 0 = true ∧ (s.balCard 26).fault = 0 :=
  ⟨State.reset.setBal 26 { mis := 1 }, by decide, by decide, by decide, by decide, by decide⟩

theorem wit_bal_lease : ∃ s : State, s.segOk 1 = true ∧ s.pwr.ctl = true ∧ (s.balCard 1).leased = true ∧ (s.balCard 2).leased = false :=
  ⟨({ State.reset with pwr.ctl := true } : State).setBal 1 { leased := true }, by decide, by decide, by decide, by decide⟩

theorem wit_bal_turn : ∃ s : State, s.segOk 26 = true ∧ s.rd F.BAL_CFG_MODE = 1 ∧ (s.segList.any fun c => (s.balCard c).window) = false ∧
    26 = s.nextTurn ∧ 25 ≠ s.nextTurn := ⟨liveState.wr F.BAL_CFG_MODE 1, by decide, by decide, by decide, by decide, by decide⟩

theorem wit_bal_guard : State.reset.guardHit 26 16 = false ∧ ∃ s : State, s.segOk 1 = true ∧ s.guardHit 1 1 = true ∧ s.rd F.BAL_CFG_MODE = 1 :=
  ⟨by decide, (State.reset.wr F.BAL_CFG_MODE 1).setSeg 1 { frame := some (frameOf [4999999]) }, by decide, by decide, by decide⟩

theorem wit_bal_campaigns : ∃ a b c : Campaign, a.kind = 3 ∧ a.limit = 0 ∧ b.kind = 1 ∧ 0 < b.limit ∧ b.limit ≤ b.age + 1 ∧ c.kind = 3 ∧ c.age + 1 < c.limit :=
  ⟨{ kind := 3, target := 0, deadband := 50, limit := 0 }, { kind := 1, target := 0, deadband := 50, limit := 3600, age := 3599 },
   { kind := 3, target := 0, deadband := 50, limit := 3600, age := 3598 }, by decide⟩

/-! ### InsulationCommandsAndResults -/

theorem wit_iso_cmds : State.reset.Allowed 0x020A rObserver ⟨1, 3⟩ ∧ State.reset.Allowed 0x020B rMaintainer ⟨1, 3⟩ ∧
    State.reset.Allowed 0x020C rOperator ⟨1, 3⟩ ∧ State.reset.isoInjects = true := by
  unfold State.Allowed; decide

theorem wit_iso_off : ∃ s : State, s.Allowed 0x020B rMaintainer ⟨1, 3⟩ ∧ s.isoInjects = false ∧ s.isOn F.CIM_ISO_CTRL_ENABLE = false :=
  ⟨State.reset.wr F.CIM_ISO_CTRL_ENABLE 0, by unfold State.Allowed; decide, by decide, by decide⟩

theorem wit_iso_half : (5001 : Int).natAbs > 5000 ∧ (-5000 : Int).natAbs ≤ 5000 ∧ State.reset.cim.firstHalf = none ∧
    ∃ s : State, s.isoInjects = true ∧ s.cim.firstHalf = some 300 :=
  ⟨by decide, by decide, rfl, { State.reset with cim.firstHalf := some 300 }, by decide, rfl⟩

theorem wit_iso_listen : ∃ s : State, s.isoMay = true ∧ s.cim.listening = true :=
  ⟨{ State.reset with cim.listening := true }, by decide, rfl⟩
/-- The lowest closed follower of a bank of eight. -/
def followerState : State :=
  State.reset.wrs [(F.SAFE_STATUS_STRING_CLOSED, 1), (F.BANK_CFG_SIZE_M1, 7), (F.BANK_CFG_POSITION, 7), (F.BANK_STATUS_CLOSED, 129)]

theorem wit_iso_bank : followerState.isoBank = true ∧ followerState.bankPos ≠ 0 ∧ followerState.bankFresh = false ∧ followerState.lowestFollower = true ∧
    ({ followerState with cim.bankRes := some (0, []) } : State).bankFresh = true := by decide

theorem wit_iso_judge : ∃ s : State, 1 ≤ s.cim.belowAlarm ∧ 1 ≤ s.cim.belowWarn ∧ 99 < s.rd F.CIM_ISO_CFG_ALARM_KOHM ∧ 1 ≤ s.cim.aboveAlarm ∧
    99 < s.rd F.CIM_ISO_CFG_WARN_KOHM ∧ 5 * s.rd F.CIM_ISO_CFG_ALARM_KOHM < 4 * 126 :=
  ⟨{ State.reset with cim.belowAlarm := 1, cim.belowWarn := 1, cim.aboveAlarm := 1 }, by decide, by decide, by decide, by decide, by decide, by decide⟩

/-! ### CurrentVoltageAndSupplies -/

theorem wit_hall : (-10201 : Int).natAbs > 10200 ∧ (5 : Nat) ≤ 100 ∧ (1 : Nat) < 2 := by decide

theorem wit_xcheck : ∃ s : State, s.safe.blockA ≠ [] ∧
    |s.shuntMean2 - (s.hallHalf (clampI (-20480000) 20470000 0) : Rat) / 10000| ≤ ((40 * pHallFs s.safe.blockA : Nat) : Rat) ∧
    ((40 * pHallFs s.safe.blockA : Nat) : Rat) < |s.shuntMean2 - (s.hallHalf (clampI (-20480000) 20470000 20480000) : Rat) / 10000| ∧
    s.cim.xBad = 999 ∧ s.isOn F.SAFE_STATUS_XCHECK_ACTIVE = false :=
  ⟨{ State.reset.wr F.CIM_HALL_PARAM_FS_A 2000 with safe.blockA := List.replicate 86 0 ++ [208, 7], cim.xBad := 999 }, by decide, by decide +kernel,
   by decide +kernel, rfl, by decide⟩

theorem wit_xcheck_cause : ∃ s u : State, s.isOn F.SAFE_STATUS_XCHECK_ACTIVE = true ∧ 1000 * u8 s.safe.blockA 89 ≤ s.cim.xFor ∧
    u.isOn F.SAFE_STATUS_XCHECK_ACTIVE = false :=
  ⟨State.reset.wr F.SAFE_STATUS_XCHECK_ACTIVE 1, State.reset, by decide, by decide, by decide⟩

theorem wit_psu : (6, 0) ∉ State.reset.recorder.spent := by decide

/-! ### EstimationCommandsComplete -/

theorem wit_est_reads : State.reset.Allowed 0x0401 rObserver ⟨1, 3⟩ ∧ State.reset.Allowed 0x0402 rObserver ⟨1, 3⟩ ∧
    353 + 64 - 1 ≤ 16 * State.reset.segs ∧ State.reset.estRec 353 = none := by unfold State.Allowed; decide

theorem wit_est_loads : State.reset.Allowed 0x0403 rMaintainer ⟨1, 3⟩ ∧ State.reset.opOf 0x0403 0 = none ∧
    State.reset.Allowed 0x0409 rMaintainer ⟨1, 3⟩ ∧ State.reset.opOf 0x0409 0 = none ∧ State.reset.Allowed 0x0404 rOperator ⟨1, 3⟩ ∧
    State.reset.Allowed 0x0405 rMaintainer ⟨1, 3⟩ ∧ State.reset.opOf 0x0405 0 = none := by unfold State.Allowed; decide

theorem wit_est_busy : ∃ s : State, s.Allowed 0x0405 rMaintainer ⟨1, 3⟩ ∧ s.opOf 0x0405 0 ≠ none :=
  ⟨{ State.reset with hrt.ops := [{ opcode := 0x0405, tag := 4, key := 0, index := 2, port := 3 }] }, by unfold State.Allowed; decide, by decide⟩

theorem wit_est_limits : State.reset.Allowed 0x0406 rMaintainer ⟨1, 3⟩ ∧ State.reset.limitsBad 25000 36500 625 312 = false ∧
    ∃ s : State, s.Allowed 0x0406 rMaintainer ⟨1, 3⟩ ∧ s.limitsBad 25000 36500 625 312 = true :=
  ⟨by unfold State.Allowed; decide, by decide, { State.reset with safe.blockA := List.replicate 512 0 }, by unfold State.Allowed; decide, by decide⟩

theorem wit_est_cell : ∃ s : State, s.Allowed 0x0407 rMaintainer ⟨1, 3⟩ ∧ s.cellOk 416 = true ∧ ∃ r, s.estRec 416 = some r :=
  ⟨{ State.reset with est.parked := true, est.carried := List.replicate 416 {} }, by unfold State.Allowed; decide, by decide, {}, by decide⟩

theorem wit_est_write : State.reset.Allowed 0x0408 rMaintainer ⟨1, 3⟩ ∧ State.reset.est.pending = false ∧ State.reset.isOn F.EST_STATUS_WRITE_DEFERRED = false ∧
    ∃ s : State, s.Allowed 0x0408 rMaintainer ⟨1, 3⟩ ∧ s.est.pending = true :=
  ⟨by unfold State.Allowed; decide, rfl, by decide, { State.reset with est.pending := true }, by unfold State.Allowed; decide, rfl⟩

/-! ### EstimatesFollowTheCharge -/

theorem wit_refresh : ∃ (s : State) (r : SeInst), s.cellOk 1 = true ∧ s.estRec 1 = some r ∧ r.frozen = false ∧ r.corrupt = false ∧ s.cellOk 2 = true ∧
    (s.seSlot 0).committing = false ∧ ∃ q, s.estRec 2 = some q ∧ q.frozen = true ∧ ∃ g, s.estRec 3 = some g ∧ s.cellGated 3 g = true :=
  ⟨{ State.reset with est.parked := true, est.carried := [{}, { frozen := true }, {}] }, {}, by decide, rfl, rfl, rfl, by decide, by decide,
   { frozen := true }, rfl, rfl, {}, rfl, by decide⟩

theorem wit_refresh_wait : ∃ s : State, (s.seSlot 0).committing = true := ⟨State.reset.setSeSlot 0 { committing := true }, rfl⟩

theorem wit_regression : ∃ s : State, 1 ∈ s.cellList ∧ 600 ≤ (s.estCell 1).secs ∧ (s.estCell 1).ii ≠ 0 :=
  ⟨State.reset.setEst 1 { secs := 600, ii := 1 }, by decide, by decide, by decide⟩

theorem wit_soc : (0 : Rat) ≤ 50 ∧ (-2 : Rat) < -(1 : Rat) := ⟨by decide, by decide⟩

theorem wit_soc_update : State.reset.estWaits = false ∧ (∀ i ∈ State.reset.cellList, State.reset.estRec i = none) ∧
    ∃ s : State, 1 ∈ s.cellList ∧ s.estRec 1 ≠ none ∧ s.estWaits = false ∧ s.est.full = true :=
  ⟨by decide, by decide +kernel, { State.reset with est.parked := true, est.carried := [{}], est.full := true }, by decide, by decide, by decide, rfl⟩

theorem wit_cap : capSample 625 625 0 { soc := 0, sig := 1 / 2, counter := 0, bleed := 0 } 1 (1 / 2) 625 0 = some (0, true) := by decide +kernel

/-! ### LimitsParkingAndLearnedState -/

theorem wit_limits : State.reset.estFresh = false ∧ ({ State.reset with est.parked := true } : State).estFresh = true := by decide

theorem wit_park : ∃ s : State, s.closed = false ∧ s.safe.closing = .idle ∧ s.seEnabled 0 = true ∧ s.est.parked = false ∧
    2 ≤ powerFloor s.mode (s.rd F.PWR_LAT_TOL_TOL_US) ∧ ∀ i ∈ s.cellList, 60 ≤ (s.estCell i).restS :=
  ⟨({ State.reset with est.cells := (numbersFrom 1 16).map fun i => (i, { restS := 60 }) } : State).wrs
    [(F.SYS_ID_SEG_FITTED, 1), (F.SE_STATUS_ENABLED, 1), (F.PWR_LAT_TOL_TOL_US, 2000)], by decide, rfl, by decide, rfl, by decide, by decide⟩

theorem wit_no_park : powerFloor State.reset.mode (State.reset.rd F.PWR_LAT_TOL_TOL_US) ≤ 1 := by decide
/-- A learned-state record of 416 cells without values. -/
def bareRec : LearnRec :=
  let r : LearnRec := { valid := true, count := 416, schema := State.reset.rd F.UPD_SCHEMA_RUNNING }
  { r with crc := crc32c r.body }

theorem wit_hourly : State.reset.newest = none ∧ ∃ s : State, s.newest ≠ none ∧ s.time.count - s.est.lastWrite < 15000000000 :=
  ⟨by decide, { State.reset with est.slotB := bareRec }, by decide +kernel, by decide⟩

theorem wit_write : ∃ s : State, s.est.writing = some (1, {}) ∧ s.est.pending = false := ⟨{ State.reset with est.writing := some (1, {}) }, rfl, rfl⟩

/-! ### StateEngineCommandsComplete -/

/-- A kernel of one state and one instance: form 1, RATE_DIV 4, PHASE 3, no inputs, A = 0, bounds ±1. -/
def smallKernel : List Byte :=
  [1, 1, 0, 0, 1, 0, 4, 0, 3, 0] ++ List.replicate 50 0 ++ [141, 64, 82, 71] ++ List.replicate 16 0 ++
    [255, 255, 255, 255, 0, 0, 0, 0] ++ [1, 0, 0, 0, 0, 0, 0, 0] ++ List.replicate 128 0


theorem wit_kernel_load : State.reset.Allowed 0x0F01 rMaintainer ⟨1, 3⟩ ∧ descBad smallKernel = false ∧
    smallKernel.length = 64 + 8 * (parseDesc smallKernel).coefs + 128 * (parseDesc smallKernel).instances ∧
    coefBad smallKernel (parseKernel smallKernel).1 = false ∧ hostSlot 15 = true ∧ instBad smallKernel (parseDesc smallKernel) = false ∧ State.reset.descRange 15 (parseDesc smallKernel) = false ∧
    State.reset.fwOwns = false ∧ State.reset.isOn F.SE_STATUS_LANE_FAULT = false ∧ State.reset.seRoom 12 (parseDesc smallKernel) = true ∧
    State.reset.admits 15 (parseDesc smallKernel) = true ∧ (State.reset.seSlot 15).committing = false := by
  unfold State.Allowed; decide +kernel


theorem wit_kernel_commit : State.reset.Allowed 0x0F02 rMaintainer ⟨1, 3⟩ ∧ (State.reset.seSlot 12).shadow = none ∧
    ∃ s : State, s.Allowed 0x0F02 rMaintainer ⟨1, 3⟩ ∧ hostSlot 12 = true ∧ s.fwOwns = false ∧ (s.seSlot 12).shadow = some (parseKernel smallKernel) ∧
      s.admits 12 (parseKernel smallKernel).1.desc = true ∧ (s.seSlot 12).committing = false :=
  ⟨by unfold State.Allowed; decide, by decide, State.reset.setSeSlot 12 { shadow := some (parseKernel smallKernel) }, by unfold State.Allowed; decide,
   by decide, by decide, rfl, by decide +kernel, rfl⟩

theorem wit_commit_twice : ∃ s : State, s.Allowed 0x0F02 rMaintainer ⟨1, 3⟩ ∧ (s.seSlot 12).shadow ≠ none ∧ (s.seSlot 12).committing = true :=
  ⟨State.reset.setSeSlot 12 { shadow := some (parseKernel smallKernel), committing := true }, by unfold State.Allowed; decide,
   Option.some_ne_none (parseKernel smallKernel), rfl⟩

theorem wit_table_waits : State.reset.listBad 6 [0] = false ∧ (Tbl.get ({} : SeTab) State.reset.se.tables 6).next = none ∧
    ∃ s : State, (Tbl.get ({} : SeTab) s.se.tables 6).next ≠ none :=
  ⟨by decide, by decide, { State.reset with se.tables := [(6, { next := some { bp1 := [], bp2 := [], s := 1, grid := [] } })] }, by decide⟩

theorem wit_table_load : State.reset.Allowed 0x0F04 rMaintainer ⟨1, 3⟩ ∧ ((numbersFrom 0 32).map fun n => (n : Int)).length = 32 ∧
    ascending ((numbersFrom 0 32).map fun n => (n : Int)) = true ∧ ((numbersFrom 0 16).map fun n => (n : Int)).length = 16 ∧
    ascending ((numbersFrom 0 16).map fun n => (n : Int)) = true ∧ (List.replicate 512 (0 : Int)).length = 512 * [0].length ∧
    State.reset.otherTables 7 + 64 ≤ 512 ∧ (∃ s : State, 512 < s.otherTables 6 + 1) ∧ State.reset.Allowed 0x0F03 rMaintainer ⟨1, 3⟩ :=
  ⟨by unfold State.Allowed; decide, by decide, by decide, by decide, by decide, by decide +kernel, by decide,
   ⟨{ State.reset with se.tables := [(0, { cur := some { bp1 := [], bp2 := [], s := 512, grid := [] } })] }, by decide⟩, by unfold State.Allowed; decide⟩

theorem wit_instances : ∃ s : State, s.Allowed 0x0F05 rObserver ⟨1, 3⟩ ∧ 1 + 1 ≤ (s.seInsts 15).length ∧ s.Allowed 0x0F06 rMaintainer ⟨1, 3⟩ ∧
    (List.replicate 16 (0 : Int)).length = 16 ∧ hostSlot 15 = true ∧ s.fwOwns = false :=
  ⟨State.reset.setSeSlot 15 { bank0 := [{}, {}] }, by unfold State.Allowed; decide, by decide, by unfold State.Allowed; decide, by decide, by decide, by decide⟩

theorem wit_write_forms : ∀ l, some (List.replicate 4 (0 : Int)) = some l → l.length = 4 := by intro l h; cases h; rfl

theorem wit_inject : State.reset.Allowed 0x0F07 rMaintainer ⟨1, 3⟩ ∧ freqOk 107375 = true ∧ freqOk 1073741824 = true ∧ State.reset.plumbIdx + 2 ≤ 2 ∧
    State.reset.isOn F.SE_STATUS_INJ_RUNNING = false ∧ State.reset.Allowed 0x0F08 rMaintainer ⟨1, 3⟩ ∧
    ∃ s : State, s.Allowed 0x0F07 rMaintainer ⟨1, 3⟩ ∧ s.plumbIdx + 2 ≤ 2 ∧ s.fwOwns = false ∧ s.isOn F.SE_STATUS_INJ_RUNNING = true :=
  ⟨by unfold State.Allowed; decide, by decide, by decide, by decide, by decide, by unfold State.Allowed; decide,
   State.reset.wrs [(F.SE_STATUS_INJ_RUNNING, 1), (F.SE_STATUS_INJ_OWNER, 3)], by unfold State.Allowed; decide, by decide, by decide, by decide⟩

theorem wit_capture : State.reset.Allowed 0x0F09 rMaintainer ⟨1, 3⟩ ∧ 65535 < capRows [524287].length ∧ 8191 < capRows 8 ∧
    State.reset.Allowed 0x0F0A rObserver ⟨1, 3⟩ ∧ State.reset.isOn F.SE_STATUS_CAP_ARMED = false ∧
    ∃ s : State, s.Allowed 0x0F0A rObserver ⟨1, 3⟩ ∧ s.isOn F.SE_STATUS_CAP_ARMED = true :=
  ⟨by unfold State.Allowed; decide, by decide, by decide, by unfold State.Allowed; decide, by decide,
   State.reset.wr F.SE_STATUS_CAP_ARMED 1, by unfold State.Allowed; decide, by decide⟩

theorem wit_corr : State.reset.Allowed 0x0F0B rMaintainer ⟨1, 3⟩ ∧ (255 : Nat) / 2 ^ 7 % 2 = 1 ∧ freqOk 10737418 = true ∧
    4 ≤ corrPeriods 10737418 1 ∧ State.reset.Allowed 0x0F0C rObserver ⟨1, 3⟩ ∧ State.reset.cellOk 416 = true ∧
    State.reset.isOn F.SE_STATUS_CORR_RUNNING = false ∧ State.reset.Allowed 0x0F0D rObserver ⟨1, 3⟩ := by unfold State.Allowed; decide

/-! ### StateEngineStepsAndUnits -/

theorem wit_se_step : ∃ s : State, s.isOn F.SE_STATUS_POWERED = true ∧ s.plumbIdx < 2 ^ 64 ∧ s.isOn F.SE_STATUS_INJ_RUNNING = true ∧
    s.se.gen.running = false ∧ s.isOn F.SE_STATUS_CAP_ARMED = true ∧ s.isOn F.SE_CAP_STATUS_TRIGGERED = true ∧
    capRows s.se.cap.sel.length ≤ s.se.cap.rows.length ∧ s.isOn F.SE_STATUS_CORR_RUNNING = true ∧ (∀ p ∈ s.se.corr, p.2.total ≤ p.2.done) :=
  ⟨State.reset.wrs [(F.SE_STATUS_POWERED, 1), (F.SE_STATUS_INJ_RUNNING, 1), (F.SE_STATUS_CAP_ARMED, 1), (F.SE_CAP_STATUS_TRIGGERED, 1),
    (F.SE_STATUS_CORR_RUNNING, 1)], by decide, by decide, by decide, rfl, by decide, by decide, by decide, by decide, by decide⟩

theorem wit_kernel_step : ∃ s : State, (s.seSlot 15).kern = some (parseKernel smallKernel).1 ∧ (s.seSlot 14).disabling = true ∧
    (s.seSlot 14).shadow = none :=
  ⟨(State.reset.setSeSlot 15 { kern := some (parseKernel smallKernel).1, bank0 := [{}] }).setSeSlot 14 { disabling := true }, rfl, by decide, by decide⟩

theorem wit_bounds : 0 < (parseKernel smallKernel).1.desc.n ∧ (parseKernel smallKernel).1.desc.tableEn = false ∧
    ((parseKernel smallKernel).1.coef.getD ((parseKernel smallKernel).1.desc.offLo + 0) (0, 0)).1 ≤
      ((parseKernel smallKernel).1.coef.getD ((parseKernel smallKernel).1.desc.offHi + 0) (0, 0)).1 ∧
    (State.reset.seRun (parseKernel smallKernel).1 0 3 { x := [5] }).frozen = false := by decide +kernel

theorem wit_chirp : ∃ s : State, s.se.gen.running = true ∧ s.rd F.SE_INJ_CFG_WAVE = 2 ∧ s.rd F.SE_INJ_LEN_VALUE ≤ s.se.gen.i :=
  ⟨{ State.reset.wrs [(F.SE_INJ_CFG_WAVE, 2), (F.SE_INJ_LEN_VALUE, 7)] with se.gen := { running := true, i := 7 } }, rfl, by decide, by decide⟩

theorem wit_se_off : State.reset.isOn F.SE_STATUS_POWERED = false ∧ State.reset.isOn F.SE_STATUS_CAP_ARMED = false ∧
    State.reset.isOn F.SE_STATUS_CORR_RUNNING = false := by decide

/-! ### DispatchCommandsComplete -/

/-- A module in RUN with 5 A of headroom each way. -/
def running : State := State.reset.wrs [(F.SYS_MODE_MODE, 3), (F.BANK_PUB_ICHG_MA 0, 5000), (F.BANK_PUB_IDIS_MA 0, 4294962296)]


theorem wit_schedule : ∃ d : List Byte, schedBad d = false ∧ d.length = 16 ∧ (∀ e ∈ schedEntries d, e.ramp ≤ 60000) ∧
    State.reset.Allowed 0x0502 rOperator ⟨1, 3⟩ ∧ State.reset.dsp.starting = none ∧ State.reset.dsp.running = none ∧ State.reset.follower = false ∧
    ∃ s u : State, s.Allowed 0x0502 rOperator ⟨1, 3⟩ ∧ s.dsp.starting = none ∧ s.dsp.running = some 0 ∧ s.follower = true ∧
      u.Allowed 0x0502 rOperator ⟨1, 3⟩ ∧ u.dsp.running = some 0 ∧ u.dsp.starting = some (1, 0) :=
  ⟨[9, 0, 0, 0, 0, 0, 0, 0, 1, 0, 0, 0, 0, 1, 96, 234], by decide, rfl, by decide, by unfold State.Allowed; decide, rfl, rfl, by decide,
   { State.reset.wrs [(F.BANK_CFG_SIZE_M1, 1), (F.BANK_CFG_POSITION, 7)] with dsp.running := some 0 },
   { State.reset with dsp.running := some 0, dsp.starting := some (1, 0) },
   by unfold State.Allowed; decide, rfl, rfl, by decide, by unfold State.Allowed; decide, rfl, rfl⟩

theorem wit_schedule_start : running.Allowed 0x0503 rOperator ⟨1, 3⟩ ∧ running.dsp.loaded = none ∧ running.follower = false ∧ running.profile ≠ 1 ∧
    ∃ s : State, s.Allowed 0x0503 rOperator ⟨1, 3⟩ ∧ s.dsp.loaded = some 1 ∧ s.dsp.starting = none ∧ s.follower = false ∧ s.profile ≠ 1 ∧
      ((s.sched 1).filter fun e => !e.implied && decide (e.tag < s.plumbIdx + s.lead)).length = 1 ∧
      ((s.sched 1).filter fun e => !e.implied).length = 2 ∧ (s.wr (F.CAN_CFG_PROFILE 0) 1).profile = 1 ∧
      ({ s with dsp.starting := some (1, 1) } : State).Allowed 0x0503 rOperator ⟨1, 3⟩ :=
  ⟨by unfold State.Allowed; decide, rfl, by decide, by decide,
   { running with dsp.loaded := some 1, dsp.bufs := [(1, [{ tag := 79, value := 1, kind := 0 }, { tag := 80, value := 2, kind := 0 }])] },
   by unfold State.Allowed; decide, rfl, rfl, by decide, by decide, by decide, by decide, by decide, by unfold State.Allowed; decide⟩

theorem wit_setpoint : running.Allowed 0x0504 rOperator ⟨1, 3⟩ ∧ running.Allowed 0x0505 rOperator ⟨1, 3⟩ ∧ running.dsp.running = none ∧ running.dsp.starting = none ∧
    ∃ s : State, s.Allowed 0x0505 rOperator ⟨1, 3⟩ ∧ s.dsp.running ≠ none :=
  ⟨by unfold State.Allowed; decide, by unfold State.Allowed; decide, rfl, rfl, { running with dsp.running := some 0 }, by unfold State.Allowed; decide, by decide⟩

theorem wit_perturb : running.Allowed 0x0506 rMaintainer ⟨1, 3⟩ ∧ freqOk 10737418 = true ∧ running.plumbIdx + 8000 ≤ 8000 ∧
    500 = min 500 (min (running.rd F.BANK_PERTURB_MAX_MA) running.headroom) ∧ running.rd F.SE_CORR_CFG_IMIN ≤ 500 ∧ running.dsp.perturb = none ∧
    running.isOn F.SE_STATUS_INJ_RUNNING = false ∧ (running.wr F.SE_STATUS_INJ_RUNNING 1).isOn F.SE_STATUS_INJ_RUNNING = true ∧
    freqOk 107374 = false := by unfold State.Allowed; decide
/-- A follower in RUN with the same headroom. -/

theorem wit_follower_run : ∃ s : State, s.Allowed 0x0503 rOperator ⟨1, 3⟩ ∧ s.Allowed 0x0504 rOperator ⟨1, 3⟩ ∧ s.Allowed 0x0505 rOperator ⟨1, 3⟩ ∧
    s.Allowed 0x0506 rMaintainer ⟨1, 3⟩ ∧ s.follower = true ∧ s.dsp.running = none ∧ s.dsp.starting = none ∧ s.dsp.perturb = none ∧
    500 ≤ s.headroom := ⟨running.wrs [(F.BANK_CFG_SIZE_M1, 1), (F.BANK_CFG_POSITION, 7)], by unfold State.Allowed; decide⟩

theorem wit_dsp_cfg : State.reset.Allowed 0x0507 rMaintainer ⟨1, 3⟩ ∧ State.reset.writeCheck 0x130004 0x140501 = none ∧
    State.reset.writeCheck 0x130014 0x0C5A0000 = none ∧ State.reset.writeCheck 0x130018 65535 = none :=
  ⟨by unfold State.Allowed; decide, by decide +kernel, by decide +kernel, by decide +kernel⟩

/-! ### DispatchKeepsWithinItsLimits -/

theorem wit_publish : ∃ s : State, s.plumbIdx % 400 = 0 ∧ s.pwr.ctl = true ∧ s.mode ≠ mSHELF ∧ State.reset.closed = false ∧
    (State.reset.wr F.SEG_PLUMB_IDX_LO_IDX_LO 399).plumbIdx % 400 ≠ 0 :=
  ⟨{ running with pwr.ctl := true }, by decide, rfl, by decide, by decide, by decide⟩

theorem wit_narrow : ∃ s : State, s.pwr.ctl = true ∧ s.mode ≠ mSHELF ∧ narrows (s.dsp.pub.getD 15 0) (s.pubString.getD 15 0) = true ∧
    (∀ i, i < 16 → narrows (State.reset.dsp.pub.getD i 0) (State.reset.pubString.getD i 0) = false) ∧
    (∀ i, i < 16 → narrows (State.reset.bank.pub.getD i 0)
      (({ State.reset with dsp.pub := (narrowed State.reset.dsp.pub State.reset.pubString).2 } : State).ownString.bankNow.getD i 0) = false) ∧
    (State.reset.wr F.SAFE_STATUS_SDI_CHG 1).isOn F.SAFE_STATUS_SDI_CHG = true :=
  ⟨{ running with pwr.ctl := true, dsp.pub := List.replicate 16 (-1) }, rfl, by decide, by decide, by decide, by decide +kernel, by decide⟩

theorem wit_dsp_limits : ∃ s : State, s.mode = mRUN ∧ s.closed = true ∧ s.pwr.orderly = none ∧ s.isOn F.PWR_AUX_STATUS_AUX_LOSS = false ∧
    s.isOn F.SAFE_STATUS_SSD_DEMAND = false ∧ s.safe.ssdDelay = false ∧ s.isOn F.SAFE_STATUS_SDI_CHG = false ∧ s.safe.inhChg = false ∧
    s.isOn F.SAFE_STATUS_SDI_DIS = false ∧ s.safe.inhDis = false := ⟨running.wr F.SAFE_STATUS_STRING_CLOSED 1, by decide⟩

theorem wit_entry : ∃ s : State, s.mode = mRUN ∧ s.pwr.ctl = true ∧ s.dsp.starting = none ∧ s.dsp.running = some 0 ∧
    (s.sched 0)[s.rd F.BANK_SCHED_STATUS_NEXT]? = some { tag := 80, value := 1, kind := 0 } ∧ 80 ≤ s.plumbIdx + s.lead ∧ s.plumbIdx + s.lead < 81 :=
  ⟨{ running with pwr.ctl := true, dsp.running := some 0, dsp.bufs := [(0, [{ tag := 80, value := 1, kind := 0 }])] }, by decide, rfl, rfl, rfl, by decide,
   by decide, by decide⟩

theorem wit_first_entry : ∃ s : State, s.mode = mRUN ∧ s.pwr.ctl = true ∧ s.dsp.starting = some (1, 0) ∧
    (s.sched 1)[0]? = some { tag := 80, value := 1, kind := 0 } ∧ 80 ≤ s.plumbIdx + s.lead :=
  ⟨{ running with pwr.ctl := true, dsp.starting := some (1, 0), dsp.bufs := [(1, [{ tag := 80, value := 1, kind := 0 }])] }, by decide, rfl, rfl, by decide,
   by decide⟩

theorem wit_replace : ∃ s : State, s.mode = mRUN ∧ s.pwr.ctl = true ∧ s.dsp.starting = some (1, 0) ∧
    (s.sched 1)[0]? = some { tag := 90, value := 1, kind := 0 } ∧ s.plumbIdx + s.lead < 90 ∧ s.dsp.running = some 0 ∧
    (s.sched 0)[s.rd F.BANK_SCHED_STATUS_NEXT]? = some { tag := 80, value := 2, kind := 0 } ∧ 80 ≤ s.plumbIdx + s.lead :=
  ⟨{ running with pwr.ctl := true, dsp.starting := some (1, 0), dsp.running := some 0,
                  dsp.bufs := [(0, [{ tag := 80, value := 2, kind := 0 }]), (1, [{ tag := 90, value := 1, kind := 0 }])] },
   by decide, rfl, rfl, by decide, by decide, rfl, by decide, by decide⟩

theorem wit_late : ∃ s : State, s.dsp.out = [{ tag := 0, value := 0, kind := 0 }] ∧ 0 + 400 ≤ s.plumbIdx ∧ s.canPend 0 mbSETPOINT = false ∧
    ∃ u : State, u.dsp.out = [{ tag := 0, value := 0, kind := 0 }] ∧ 0 + 400 ≤ u.plumbIdx ∧ u.canPend 0 mbSETPOINT = true :=
  ⟨{ State.reset.wr F.SEG_PLUMB_IDX_LO_IDX_LO 400 with dsp.out := [{ tag := 0, value := 0, kind := 0 }] }, rfl, by decide, by decide,
   { State.reset.wrs [(F.SEG_PLUMB_IDX_LO_IDX_LO, 400), (F.CAN_MB_CTRL_PENDING 0 2, 1)] with dsp.out := [{ tag := 0, value := 0, kind := 0 }] }, rfl,
   by decide, by decide⟩

theorem wit_ack : ∃ (s u : State) (p q : Perturb), s.dsp.perturb = some p ∧ p.acked = false ∧ p.start = 8000 ∧ p.k = 10737418 ∧ u.dsp.perturb = some q ∧
    q.acked = true :=
  ⟨{ State.reset with dsp.perturb := some { k := 10737418, amp := 500, dur := 1, start := 8000 } },
   { State.reset with dsp.perturb := some { k := 10737418, amp := 500, dur := 1, start := 8000, acked := true } }, _, _, rfl, rfl, rfl, rfl, rfl, rfl⟩

/-! ### GrantsAndBankCommands -/

theorem wit_bank_cmds : State.reset.Allowed 0x1001 rObserver ⟨1, 3⟩ ∧ State.reset.Allowed 0x1002 rMaintainer ⟨1, 3⟩ ∧
    State.reset.Allowed 0x1003 rOperator ⟨1, 3⟩ ∧ State.reset.follower = false ∧ State.reset.closedPos = [] ∧ State.reset.closed = false ∧
    ∃ s u : State, s.Allowed 0x1003 rOperator ⟨1, 3⟩ ∧ s.follower = true ∧ u.Allowed 0x1003 rOperator ⟨1, 3⟩ ∧ u.follower = false ∧ u.closed = true :=
  ⟨by unfold State.Allowed; decide, by unfold State.Allowed; decide, by unfold State.Allowed; decide, by decide, by decide, by decide,
   State.reset.wrs [(F.BANK_CFG_POSITION, 7), (F.BANK_CFG_SIZE_M1, 7)], State.reset.wr F.SAFE_STATUS_STRING_CLOSED 1, by unfold State.Allowed; decide, by decide,
   by unfold State.Allowed; decide, by decide, by decide⟩
/-- The master of a bank of two, and its follower. -/
def master : State := { State.reset.wr F.BANK_CFG_SIZE_M1 1 with pwr.ctl := true }
def follower7 : State := { State.reset.wrs [(F.BANK_CFG_SIZE_M1, 7), (F.BANK_CFG_POSITION, 7)] with pwr.ctl := true }


theorem wit_judge : master.isOn F.BANK_STATUS_DUP_POSITION = false ∧ (∀ p ∈ master.bank.strings, p.2.dup = false) ∧ master.closedPos = [] ∧
    (master.wr F.BANK_STATUS_CLOSED 128).closedPos ≠ [] := by decide

theorem wit_request : master.bankMaster = true ∧ master.pwr.ctl = true ∧ master.bank.granted = none ∧
    ({ master with bank.granted := some 2 } : State).bankMaster = true ∧ ({ master with bank.granted := some 2 } : State).bank.waiting = [] ∧
    (master.wr F.BANK_STATUS_CLOSED 128).bank.vBus = none ∧
    ({ master with bank.granted := some 2, bank.waiting := [(7, 1331200)] } : State).grantJudge 1331200 = 0 := by decide

theorem wit_grant : follower7.follower = true ∧ follower7.pwr.ctl = true ∧ follower7.bank.asking = false ∧
    ({ follower7 with bank.asking := true } : State).follower = true := by decide

theorem wit_lapse : follower7.bankMaster = false ∧ master.bank.waiting = [] ∧ master.bank.granted ≠ some 3 := by decide

/-! ### BankRingMessages -/

theorem wit_messages : State.reset.inBank = false ∧ follower7.inBank = true ∧ follower7.bankPos = 7 ∧ 0 ≠ follower7.bankPos ∧ master.bankPos = 0 ∧
    master.inBank = true ∧ 7 ≠ master.bankPos := by decide

theorem wit_bank_lost : ∃ s : State, s.rd F.BANK_STATUS_HEARD / 2 ^ 0 % 2 = 1 ∧ 0 ≠ s.bankPos ∧ s.rd F.BANK_STATUS_HEARD / 2 ^ 6 % 2 = 0 :=
  ⟨follower7.wr F.BANK_STATUS_HEARD 129, by decide, by decide, by decide⟩

theorem wit_break : master.isOn F.BANK_STATUS_RING_BREAK = false ∧ (master.wr F.BANK_STATUS_RING_BREAK 1).isOn F.BANK_STATUS_RING_BREAK = true ∧
    master.bankMaster = true ∧ State.reset.bankMaster = false ∧ master.bank.chg = [] := by decide

theorem wit_shares : ∃ s u : State, s.closedPos = [0, 7] ∧ (∀ p ∈ s.closedPos, (s.bankString p).mean ≠ none ∧ (s.bankString p).meanIdx = 4000) ∧
    (s.closedPos.map fun p => (s.bankString p).mean.getD 0).sum = 600000 ∧
    1000 * s.rd F.EST_ILIM_CONT_A * s.closedPos.length ≤ 20 * (600000 : Int).natAbs ∧
    (∃ p ∈ u.closedPos, (u.bankString p).mean = none) ∧ u.bank.chgSet = u.rd F.BANK_STATUS_CLOSED :=
  ⟨{ master.wr F.BANK_STATUS_CLOSED 129 with bank.strings := [(0, { mean := some 250000, meanIdx := 4000 }), (7, { mean := some 350000, meanIdx := 4000 })] },
   { master.wr F.BANK_STATUS_CLOSED 129 with bank.chgSet := 129 }, by decide, by decide, by decide, by decide, by decide, by decide⟩

/-! ### ThermalCommandsComplete -/

theorem wit_thm_cmds : ∀ p ∈ [(0x0601, rObserver), (0x0602, rMaintainer), (0x0603, rOperator), (0x0604, rMaintainer), (0x0605, rMaintainer),
    (0x0606, rMaintainer), (0x0607, rMaintainer), (0x0608, rMaintainer), (0x0609, rMaintainer)], State.reset.Allowed p.1 p.2 ⟨1, 3⟩ := by
  unfold State.Allowed; decide

theorem wit_thm_none : State.reset.thm.tuneRes = none ∧ State.reset.thm.tune = none ∧ State.reset.isOn F.THM_STATUS_LOOP_RUNNING = false ∧
    State.reset.isOn F.SE_STATUS_CAP_ARMED = false ∧ State.reset.isOn F.SE_STATUS_INJ_RUNNING = false := ⟨rfl, rfl, by decide, by decide, by decide⟩

theorem wit_thm_map : (List.replicate 444 208 ++ List.replicate 68 0).length = 512 ∧ 208 ≤ 8 * State.reset.segs := by decide +kernel

theorem wit_thm_tune : ∃ s : State, s.Allowed 0x0605 rMaintainer ⟨1, 3⟩ ∧ s.thm.tune = none ∧ s.isOn F.SE_STATUS_INJ_RUNNING = false ∧
    s.isOn F.SE_STATUS_CAP_ARMED = false ∧ s.isOn F.THM_STATUS_LOOP_RUNNING = true ∧ s.thmForced = false :=
  ⟨State.reset.wr F.THM_STATUS_LOOP_RUNNING 1, by unfold State.Allowed; decide, rfl, by decide, by decide, by decide, by decide⟩

theorem wit_thm_apply : ∃ (s : State) (r : TuneRes), s.Allowed 0x0606 rMaintainer ⟨1, 3⟩ ∧ s.thm.tuneRes = some r ∧ s.thm.tune ≠ none ∧
    s.Allowed 0x0605 rMaintainer ⟨1, 3⟩ ∧ s.thmForced = false :=
  ⟨{ State.reset with thm.tuneRes := some ⟨1, 1, 1, 1, 1⟩, thm.tune := some { step := 0, dur := 600 } }, ⟨1, 1, 1, 1, 1⟩, by unfold State.Allowed; decide,
   rfl, by decide, by unfold State.Allowed; decide, by decide⟩

/-! ### ThermalReportsAndPositions -/

theorem wit_die : State.reset.rd F.SE_THROTTLE_PAUSE < throttleFor 127 (State.reset.rdI F.THM_DIE_CFG_SE_THROTTLE_C) ∧
    throttleFor (-127) (State.reset.rdI F.THM_DIE_CFG_SE_THROTTLE_C) = State.reset.rd F.SE_THROTTLE_PAUSE := by decide

theorem wit_pause : State.reset.isOn F.THM_STATUS_VALVE_UNAVAIL = false ∧ (∀ n, n ≤ 208 → Tbl.get 4 State.reset.thm.repQ n ≠ 0) ∧
    (State.reset.wr F.THM_STATUS_VALVE_UNAVAIL 1).isOn F.THM_STATUS_VALVE_UNAVAIL = true :=
  ⟨by decide, fun _ _ => by simp [State.reset, Tbl.get], by decide⟩

theorem wit_seg_hot : ∃ s : State, s.segOk 1 = true ∧ (s.segOf 1).hotAt = some 0 ∧ 0 + 2500000000 ≤ s.time.count ∧
    State.reset.segOk 27 = false ∧ (State.reset.segOf 1).hotAt = none :=
  ⟨{ State.reset.modSeg 1 fun x => { x with hotAt := some 0 } with time.count := 2500000000 }, by decide, by decide, by decide, by decide, by decide⟩

theorem wit_tune_done : ∃ (s : State) (u : Tune), s.thm.tune = some u ∧ u.start + 4000 * u.dur ≤ s.plumbIdx ∧
    State.reset.plumbIdx < u.start + 4000 * u.dur :=
  ⟨{ State.reset.wr F.SEG_PLUMB_IDX_LO_IDX_LO 2640000 with thm.tune := some { step := 2000, dur := 600, start := 240000 } },
   { step := 2000, dur := 600, start := 240000 }, rfl, by decide, by decide⟩

theorem wit_forced : ∃ s : State, s.thmForced = true ∧ s.axState 0 ≠ axDISABLED ∧ s.axState 1 ≠ axDISABLED ∧ s.rd F.THM_VALVE_POS_LO ≤ 10000 ∧
    s.thm.tune ≠ none :=
  ⟨{ State.reset.wrs [(F.MOT_STATE_STATE 0, 1), (F.MOT_STATE_STATE 1, 1)] with thm.shutting := true, thm.tune := some { step := 0, dur := 600 } },
   by decide, by decide, by decide, by decide, by decide⟩

theorem wit_unavail : State.reset.thmForced = false ∧ State.reset.valveUnavail = true ∧ State.reset.isOn F.THM_STATUS_VALVE_UNAVAIL = false := by decide

theorem wit_host_valve : ∃ s : State, s.thmForced = false ∧ s.valveUnavail = false ∧ s.isOn F.THM_CFG_VALVE_OWNER = true ∧ s.thm.hostValve ≤ 10000 :=
  ⟨State.reset.wrs [(F.MOT_STATE_STATE 0, 1), (F.MOT_STATE_HOMED 0, 1), (F.THM_CFG_VALVE_OWNER, 1)], by decide, by decide, by decide, by decide⟩

theorem wit_idle_valve : ∃ s : State, s.thmForced = false ∧ s.valveUnavail = false ∧ s.isOn F.THM_CFG_VALVE_OWNER = false ∧ s.thm.tune = none ∧
    s.loopRuns = false ∧ s.rd F.THM_VALVE_POS_HI ≤ 10000 :=
  ⟨State.reset.wrs [(F.MOT_STATE_STATE 0, 1), (F.MOT_STATE_HOMED 0, 1)], by decide, by decide, by decide, rfl, by decide, by decide⟩

/-! ### MotionCommandsComplete -/

/-- In SERVICE, axis 0 homed and at rest under the host, axis 1 moving. -/
def axes : State := State.reset.wrs [(F.SYS_MODE_MODE, 4), (F.MOT_STATE_STATE 0, 1), (F.MOT_STATE_HOMED 0, 1), (F.MOT_TRAVEL_USTEPS 0, 1000),
  (F.THM_CFG_VALVE_OWNER, 1), (F.MOT_STATE_STATE 1, 2)]


theorem wit_mot_cmds : ∀ p ∈ [(0x0701, rObserver), (0x0702, rMaintainer), (0x0703, rOperator), (0x0704, rMaintainer), (0x0705, rMaintainer),
    (0x0706, rMaintainer), (0x0707, rMaintainer), (0x0708, rMaintainer)], axes.Allowed p.1 p.2 ⟨1, 3⟩ := by unfold State.Allowed; decide

theorem wit_mot_move : axes.moveRange 0 false 1000 = false ∧ axes.moveRange 0 false 1001 = true ∧ axes.hostOwns 0 = true ∧ axes.hostOwns 1 = false ∧
    axes.moveRange 1 true 5 = false ∧ axes.axState 0 ≠ axHOMING ∧ axes.axStill 0 = true ∧ axes.axStill 1 = false ∧ axes.opOf 0x0704 1 = none ∧
    axes.axState 1 ≠ axDISABLED ∧ (axes.wr (F.MOT_STATE_STATE 1) 4).axState 1 = axHOMING := by decide

theorem wit_mot_cfg_bool : (match axes.motWrite 0 (motWords 0 cfgOffsets (cfgOffsets.map fun o => (axes.readWord (0xB0100 + o)).1)) with
    | .ok _ => true | .error _ => false) = true := by decide +kernel

theorem wit_mot_cfg : ∃ u, axes.motWrite 0 (motWords 0 cfgOffsets (cfgOffsets.map fun o => (axes.readWord (0xB0100 + o)).1)) = .ok u := by
  have h := wit_mot_cfg_bool
  split at h
  · exact ⟨_, ‹_›⟩
  · cases h

theorem wit_mot_limits : axes.wordsCheck (motWords 1 [0x10, 0x14, 0x18, 0x1C, 0x20] ([0x10, 0x14, 0x18, 0x1C, 0x20].map fun o =>
    (axes.readWord (0xB0200 + o)).1)) = none ∧ (axes.readWord 0xB0218).1 ≤ (axes.readWord 0xB0220).1 := by decide +kernel

theorem wit_mot_table : tableBad (List.replicate 512 0 ++ leBytes 4 (crc32c (List.replicate 512 0))) = false := by decide +kernel

theorem wit_mot_reset : (axes.wr (F.MOT_STATE_STATE 0) 5).axState 0 = axFAULT ∧ (axes.wr (F.MOT_STATE_STATE 0) 5).causeThere 0 = true ∧
    axes.axState 0 ≠ axFAULT ∧ ∃ s : State, s.Allowed 0x0708 rMaintainer ⟨1, 3⟩ ∧ s.axState 0 = axFAULT ∧ s.causeThere 0 = false ∧
      s.isOn (F.MOT_CFG_AUTO_HOME 0) = false ∧ s.mode ≠ mSHELF ∧ (s.wr (F.MOT_CFG_AUTO_HOME 0) 1).isOn (F.MOT_CFG_AUTO_HOME 0) = true :=
  ⟨by decide, by decide, by decide, { State.reset.wr (F.MOT_STATE_STATE 0) 5 with time.count := 250000000 }, by unfold State.Allowed; decide, by decide,
   by decide, by decide, by decide, by decide⟩

/-! ### MovesAndHomingEndWhereTheyMust -/

theorem wit_moving : axes.axState 1 = axMOVING ∧ axes.axState 0 = axATREST ∧ axes.axState 0 ≠ axMOVING ∧ axes.axState 1 ≠ axATREST ∧
    (axes.axis 0).restAt + 2500000 * (axes.wr (F.MOT_CURRENT_HOLD_DELAY 0) 0).rd (F.MOT_CURRENT_HOLD_DELAY 0) ≤ axes.time.count ∧
    axes.time.count < (axes.axis 0).restAt + 2500000 * axes.rd (F.MOT_CURRENT_HOLD_DELAY 0) := by decide
/-- Axis 1 moving upwards with its input `i` in its trip state since reset. -/
def tripping (i : Nat) : State := (axes.wr (F.MOT_VEL_VALUE 1) 7).setAxis 1 { inputs := [(i, { raw := true })] }


theorem wit_trip : (tripping 1).axDir 1 = 1 ∧ (tripping 1).axState 1 = axMOVING ∧ (tripping 1).inStands 1 1 true = true ∧
    (tripping 1).tickOpen 1 0 2 = true ∧ (tripping 1).inStands 1 0 true = false ∧ (tripping 0).axDir 1 ≠ -1 ∧ (tripping 0).inStands 1 0 true = true ∧
    ((tripping 1).setAxis 1 { gov := (5, 1) }).tickOpen 1 5 2 = false := by decide

theorem wit_stopping : ∃ s : State, s.axState 1 = axSTOPPING ∧ (s.axis 1).stopCause = 11 := ⟨(axes.wr (F.MOT_STATE_STATE 1) 3).setAxis 1 { stopCause := 11 }, by decide, rfl⟩
/-- Axis 1 homing on HOME in a stage, with one of its inputs in its trip state. -/
def homing1 (g : HomeStage) (i : Nat) : State := (axes.wr (F.MOT_STATE_STATE 1) 4).setAxis 1 { stage := g, edges := 7, inputs := [(i, { raw := true })] }


theorem wit_homing : (∀ g : HomeStage, ∀ i : Nat, (homing1 g i).axState 1 = axHOMING ∧ ((homing1 g i).axis 1).stage = g ∧ (homing1 g i).homeInput 1 = 2 ∧
      ((homing1 g i).axis 1).windowEnd = none) ∧
    (homing1 .search 2).inStands 1 2 true = true ∧ (homing1 .away 0).inStands 1 2 false = true ∧ (homing1 .approach 2).inStands 1 2 true = true ∧
    (homing1 .search 0).inStands 1 2 true = false ∧ (homing1 .search 1).inStands 1 1 true = true ∧
    ((homing1 .approach 2).wr (F.MOT_HOME_CFG_EDGES_MAX 1) 7).rd (F.MOT_HOME_CFG_EDGES_MAX 1) ≤ 7 ∧
    (homing1 .approach 2).tickOpen 1 0 2 = true ∧ 7 < ((homing1 .approach 2).wr (F.MOT_HOME_CFG_EDGES_MAX 1) 8).rd (F.MOT_HOME_CFG_EDGES_MAX 1) :=
  ⟨fun g i => ⟨by rfl, by rfl, by rfl, by rfl⟩, by decide, by decide, by decide, by decide, by decide, by decide, by decide, by decide⟩

theorem wit_search : 4 * ((homing1 .search 0).axPos 1 - ((homing1 .search 0).axis 1).searchFrom).natAbs <
      5 * ((homing1 .search 0).wr (F.MOT_TRAVEL_USTEPS 1) 1).rd (F.MOT_TRAVEL_USTEPS 1) ∧
    5 * (homing1 .search 0).rd (F.MOT_TRAVEL_USTEPS 1) ≤ 4 * ((homing1 .search 0).axPos 1 - ((homing1 .search 0).axis 1).searchFrom).natAbs := by decide

/-! ### MotionFaultsLinkAndCard -/

theorem wit_fault : ∃ s : State, s.axState 1 ≠ axDISABLED ∧ s.axState 1 ≠ axFAULT ∧ s.faultThere 1 0 = true ∧ s.faultThere 1 2 = true ∧
    axes.faultThere 1 0 = false ∧ axes.faultThere 1 2 = false :=
  ⟨{ axes.setAxis 1 { vmBad := some 0 } with time.count := 2500000, mot.dieMs := 10 }, by decide, by decide, by decide, by decide, by decide, by decide⟩

theorem wit_stall : ∃ s : State, s.axStill 1 = false ∧ s.isOn (F.MOT_STATE_STALL_ACTIVE 1) = true ∧ s.rd (F.MOT_STALL_TICKS 1) ≤ (s.axis 1).overTicks ∧
    s.tickOpen 1 9 3 = true ∧ axes.axStill 0 = true ∧ (s.axWithin 1 ⟨1000000, 9, 9, 0, 0, 0, 0, 0, 0, 24000⟩).pos ≤ 2147483647 ∧
    -2147483648 ≤ (s.axWithin 1 ⟨1000000, 9, 9, 0, 0, 0, 0, 0, 0, 24000⟩).pos :=
  ⟨(axes.wr (F.MOT_STATE_STALL_ACTIVE 1) 1).setAxis 1 { overTicks := 65535 }, by decide⟩

theorem wit_link : State.reset.isOn F.MOT_GLOBAL_CARD_PRESENT = false ∧
    (axes.wr F.MOT_GLOBAL_CARD_PRESENT 1).isOn F.MOT_GLOBAL_CARD_PRESENT = true ∧
    (axes.wr (F.MOT_LINKLOSS_ACTION 0) 1).isOn (F.MOT_LINKLOSS_ACTION 0) = true ∧ (axes.wr (F.MOT_LINKLOSS_ACTION 1) 0).isOn (F.MOT_LINKLOSS_ACTION 1) = false ∧
    axes.isOn (F.MOT_STATE_HOMED 0) = true := by decide

/-! ### TimeCommandsComplete -/

theorem wit_time_cmds : ∀ p ∈ [(0x0801, rObserver), (0x0802, rMaintainer), (0x0803, rMaintainer), (0x0804, rOperator), (0x0805, rOperator),
    (0x0806, rObserver)], State.reset.Allowed p.1 p.2 ⟨1, 3⟩ := by unfold State.Allowed; decide

theorem wit_time_cfg : ∀ p ∈ [(0x20000, 3), (0x20004, 0x0005FA2), (0x20008, 100), (0x2000C, 0xFF020032), (0x20050, 0x8000), (0x20054, 0)],
    State.reset.writeCheck p.1 p.2 = none := by decide +kernel

theorem wit_time_set : State.reset.timeState = tFREE ∧ 0 ≤ State.reset.timeAt State.reset.time.count ∧
    (State.reset.wr F.TIME_STATUS_STATE 2).timeState ≠ tFREE := by decide

theorem wit_time_arm : State.reset.shadowOk 3 = true ∧ outOk 2 2 0 1 = false ∧ outOk 2 16 0 8 = true ∧ outOk 1 0 0 1000000000 = true ∧ outOk 0 0 0 0 = true ∧
    State.reset.lineNow 0 + 1000 ≤ (1000 : Int) ∧ (999 : Int) < State.reset.lineNow 1 + 1000 := by decide

theorem wit_time_ti : ∃ (s : State) (e : Edge) (l : List Edge), s.tiList 1 = e :: l ∧ s.tiList 0 = [] :=
  ⟨{ State.reset with time.tis := [(1, [⟨5, true⟩])] }, ⟨5, true⟩, [], rfl, rfl⟩

/-! ### TimeFollowsItsSources -/

/-- The module with one port keyed and its Announce accepted. -/
def timed : State :=
  { State.reset with pwr.ctl := true, hrt.portA := { State.reset.hrt.portA with stage := .keyed }, time.annA := some ⟨0, 0, [1]⟩ }

theorem wit_ptp : timed.ptpIgnored 0 none true false 0 = false ∧ timed.ptpIgnored 1 none true false 0 = true ∧
    timed.ptpIgnored 0 none true false 1 = true ∧ timed.rd F.TIME_STATUS_ACTIVE_PORT = 0 ∧ timed.annOn 0 = true ∧ timed.annOn 1 = false ∧
    timed.timeState = tFREE ∧ timed.syncOk 0 = true ∧ timed.syncOk 2 = false ∧ timed.isOn F.TIME_PTP_CFG_DELAY_P2P = false := by decide

theorem wit_two_ports : ∃ s : State, s.ptpIgnored 0 none true false 0 = false ∧ s.ann 1 = some ⟨5, 0, [2]⟩ ∧ rankBetter [2] [1] = false ∧
    rankBetter [2] [3] = true ∧ s.annOn 0 = true ∧ s.rd F.TIME_STATUS_ACTIVE_PORT = 0 :=
  ⟨{ timed with time.annB := some ⟨5, 0, [2]⟩ }, by decide, rfl, rfl, rfl, rfl, by decide⟩

theorem wit_acquiring : ∃ s : State, s.ptpIgnored 0 none true false 0 = false ∧ s.timeState = tACQUIRING ∧ s.time.good = 7 ∧ s.annOn 0 = true :=
  ⟨{ timed.wr F.TIME_STATUS_STATE 1 with time.good := 7 }, by decide, by decide, rfl, by decide⟩

theorem wit_locked : ∃ s : State, s.ptpIgnored 0 none true false 0 = false ∧ s.timeState = tLOCKED ∧ s.time.bad = 3 ∧ s.annOn 0 = true ∧
    s.rd F.TIME_GM_ID_LO_ID = 0 ∧ s.rd F.TIME_GM_ID_HI_ID = 0 :=
  ⟨{ timed.wr F.TIME_STATUS_STATE 2 with time.bad := 3 }, by decide, by decide, rfl, by decide, by decide, by decide⟩

theorem wit_holdover : ∃ s : State, s.timeState = tHOLDOVER ∧ s.isOn F.TIME_STATUS_ALIGN_DEGRADED = false ∧
    (s.rd F.TIME_HOLD_DEGRADE_NS : Int) < s.holdErr ∧ ∃ u : State, u.timeState = tHOLDOVER ∧ u.holdErr ≤ u.rd F.TIME_HOLD_DEGRADE_NS :=
  ⟨{ timed.wr F.TIME_STATUS_STATE 3 with time.count := 250000000000000 }, by decide, by decide, by decide +kernel,
   timed.wr F.TIME_STATUS_STATE 3, by decide, by decide +kernel⟩

theorem wit_pulse : ∃ s : State, (s.timedOut 3).running = true ∧ (s.timedOut 0).running = false ∧ s.pwr.ctl = true :=
  ⟨{ timed with time.outs := [(3, { mode := 2, running := true })] }, rfl, rfl, rfl⟩

theorem wit_edge : ∃ s : State, s.isOn (F.TIME_TI_CFG_ENABLE 1) = true ∧ s.pwr.ctl = true ∧ s.rd (F.TIME_TI_CFG_EDGE 1) = 1 ∧ (s.tiList 1).length = 16 ∧
    s.isOn (F.TIME_TI_CFG_ENABLE 0) = false ∧ 4 * s.rd (F.TIME_TI_CFG_FILTER 1) ≤ 1000000 ∧ s.rd (F.TIME_TI_CFG_EDGE 0) = 1 :=
  ⟨{ timed.wr (F.TIME_TI_CFG_ENABLE 1) 1 with time.tis := [(1, List.replicate 16 ⟨0, true⟩)] }, by decide, rfl, by decide, by decide, by decide, by decide, by decide⟩

/-! ### CanCommandsComplete -/

theorem wit_can_cmds : ∀ p ∈ [(0x0901, rObserver), (0x0902, rMaintainer), (0x0903, rOperator), (0x0904, rOperator), (0x0905, rOperator),
    (0x0906, rOperator), (0x0907, rObserver), (0x0908, rOperator)], State.reset.Allowed p.1 p.2 ⟨1, 3⟩ := by unfold State.Allowed; decide
/-- The words of the example of R402, and the same with the controller off and on. -/

theorem wit_can_cfg : canCfgBad 0 0x03E810EB 0x00F1E7C1 0x00F511A1 = false ∧ canCfgBad 1 0x03E810EB 0x00F1E7C1 0x00F511A1 = true ∧
    canCfgBad 1 0x03E810CB 0x00F1E7C1 0x00F511A1 = false ∧
    ∀ p ∈ [(canBase 0, 0x03E810EB), (canBase 0 + 4, 0x00F1E7C1), (canBase 0 + 8, 0x00F511A1), (canBase 0 + 0x50, 0x003FF800)],
      State.reset.writeCheck p.1 p.2 = none := by decide +kernel

theorem wit_can_key : (State.reset.writeStore (canBase 0) 0x03E810EB).canCfgKey 0 ≠ State.reset.canCfgKey 0 ∧
    (((State.reset.writeStore (canBase 0) 0x03E810EB).canChanged 0).canBus 0).integrating = true ∧
    (((State.reset.writeStore (canBase 0) 0x03E810EC).canChanged 0).canBus 0).integrating = false ∧
    (State.reset.writeStore (canBase 1 + 0x50) 0).canCfgKey 1 = State.reset.canCfgKey 1 := by decide +kernel
/-- Controller 1 on the bus, with a transmit and a receive buffer. -/
def onBus : State :=
  { ((((State.reset.wr (F.CAN_STATUS_INTEGRATED 1) 1).wr (F.CAN_MB_CTRL_DIR 1 16) 2).wr (F.CAN_MB_CTRL_DIR 1 63) 1).wr (F.CAN_MB_CTRL_NEW 1 63) 1) with
    pwr.ctl := true }

theorem wit_can_tx : onBus.canOn 1 = true ∧ onBus.canOn 0 = false ∧ onBus.rd (F.CAN_MB_CTRL_DIR 1 16) = 2 ∧ onBus.isOn (F.CAN_MB_CTRL_REQ 1 16) = false ∧
    onBus.isOn (F.CAN_CFG_LISTEN_ONLY 1) = false ∧ onBus.isOn (F.CAN_MB_FMT_FDF 1 16) = false ∧ dlcLen false 0 ≤ ([] : List Byte).length ∧
    onBus.now = 0 ∧ (onBus.wr (F.CAN_MB_CTRL_REQ 1 16) 1).isOn (F.CAN_MB_CTRL_REQ 1 16) = true ∧ onBus.canPend 1 16 = false ∧
    (onBus.wr (F.CAN_MB_CTRL_PENDING 1 16) 1).canPend 1 16 = true := by decide

theorem wit_can_rx : onBus.rd (F.CAN_MB_CTRL_DIR 1 63) = 1 ∧ onBus.isOn (F.CAN_MB_CTRL_NEW 1 63) = true ∧ onBus.isOn (F.CAN_MB_CTRL_NEW 1 16) = false ∧
    (onBus.canBus 0).fifo1 = [] ∧ onBus.rd (F.CAN_STATUS_STATE 1) ≠ canOFF ∧ (onBus.wr (F.CAN_STATUS_STATE 1) 2).rd (F.CAN_STATUS_STATE 1) = canOFF := by
  decide
/-- A short frame. -/
def frame11 : CanFrame := { id := 5, ide := false, rtr := false, fdf := false, brs := false, esi := false, dlc := 1, data := [7], time := 9 }

theorem wit_can_fifo : (({ onBus with can := [(1, { fifo1 := [frame11] })] } : State).canBus 1).fifo1 ≠ [] := by decide

/-! ### CanBuffersAndFifos -/

theorem wit_can_again : ∃ s : State, s.canPend 1 16 = true ∧ (s.canBus 1).again.contains 16 = true ∧ s.canOn 1 = true ∧ s.rd (F.CAN_MB_CTRL_DIR 1 16) = 2 ∧
    s.isOn (F.CAN_CFG_LISTEN_ONLY 1) = false ∧ s.isOn (F.CAN_MB_FMT_FDF 1 16) = false ∧ s.isOn (F.CAN_MB_CTRL_TIMED 1 16) = false ∧
    (onBus.canBus 1).again.contains 16 = false :=
  ⟨{ onBus.wrs [(F.CAN_MB_CTRL_PENDING 1 16, 1), (F.CAN_MB_CTRL_REQ 1 16, 1)] with can := [(1, { again := [16] })] }, by decide⟩

theorem wit_can_filter : ∃ s : State, s.canOn 1 = true ∧ s.filterOf 1 frame11 (numbersFrom 0 32) = some 63 ∧ s.rd (F.CAN_MB_CTRL_DIR 1 63) = 1 ∧
    onBus.filterOf 1 frame11 (numbersFrom 0 32) = none ∧ onBus.canOn 1 = true ∧ onBus.isOn (F.CAN_CFG_LISTEN_ONLY 1) = false ∧
    frame11.fdf = false ∧ onBus.rd (F.CAN_CFG_DEFAULT_TGT 1) = 3 ∧ onBus.isOn (F.CAN_CFG_FD_EN 1) = true ∧ onBus.isOn (F.CAN_CFG_PXE 1) = true :=
  ⟨((onBus.wr (F.CAN_FLT_ID_ID 1 31) 5).wr (F.CAN_FLT_ID_EN 1 31) 1).wr (F.CAN_FLT_TGT_TARGET 1 31) 63, by decide +kernel⟩

theorem wit_can_tgt : ∃ s : State, s.canOn 1 = true ∧ s.rd (F.CAN_CFG_DEFAULT_TGT 1) = 2 ∧ (s.canBus 1).fifo1.length = 32 ∧ s.isOn (F.CAN_CFG_FD_EN 1) = false ∧
    (s.wr (F.CAN_CFG_DEFAULT_TGT 1) 1).rd (F.CAN_CFG_DEFAULT_TGT 1) = 1 ∧ s.filterOf 1 frame11 (numbersFrom 0 32) = none ∧ (s.canBus 1).rcv = 200 ∧
    s.isOn (F.CAN_FIFO_CTRL_NEW 1 1) = true :=
  ⟨{ ((onBus.wr (F.CAN_CFG_DEFAULT_TGT 1) 2).wr (F.CAN_CFG_FD_EN 1) 0).wr (F.CAN_FIFO_CTRL_NEW 1 1) 1 with
      can := [(1, { fifo1 := List.replicate 32 frame11, rcv := 200 })] }, by decide +kernel⟩

theorem wit_can_req : (onBus.wr (F.CAN_CFG_LISTEN_ONLY 1) 1).isOn (F.CAN_CFG_LISTEN_ONLY 1) = true ∧ onBus.isOn (F.CAN_MB_CTRL_TIMED 1 16) = false ∧
    (onBus.wr (F.CAN_MB_CTRL_DIR 0 16) 2).canOn 0 = false ∧ (onBus.wr (F.CAN_MB_CTRL_DIR 0 16) 2).rd (F.CAN_MB_CTRL_DIR 0 16) = 2 := by decide

/-! ### CanFaultConfinement -/

theorem wit_can_err : ∃ s : State, s.canOn 1 = true ∧ s.canPend 1 16 = true ∧ (s.canBus 1).acks = 2 ∧ s.isOn (F.CAN_CFG_LISTEN_ONLY 1) = false ∧
    Tbl.get 0 (s.canBus 1).tries 16 = 17 ∧ s.rd (F.CAN_MB_FMT_RETRY 1 16) = 16 ∧ s.isOn (F.CAN_MB_CTRL_CANCEL 1 16) = false ∧
    (s.wr (F.CAN_STATUS_STATE 1) 1).canOn 1 = true ∧ s.canFirst 1 16 [] = true ∧ (s.canBus 1).again.contains 16 = false ∧
    (s.wr (F.CAN_MB_CTRL_PENDING 1 17) 1).canFirst 1 17 [] = false :=
  ⟨{ (onBus.wr (F.CAN_MB_CTRL_PENDING 1 16) 1).wr (F.CAN_MB_FMT_RETRY 1 16) 16 with can := [(1, { acks := 2, tries := [(16, 17)] })] }, by decide⟩

theorem wit_can_timed : ∃ s : State, s.isOn (F.CAN_MB_CTRL_REQ 1 16) = true ∧ s.isOn (F.CAN_MB_CTRL_TIMED 1 16) = true ∧ s.canPend 1 16 = false :=
  ⟨(onBus.wr (F.CAN_MB_CTRL_REQ 1 16) 1).wr (F.CAN_MB_CTRL_TIMED 1 16) 1, by decide⟩

theorem wit_can_off : ∃ s : State, s.rd (F.CAN_STATUS_STATE 1) < 2 ∧ (s.canBus 1).tec = 256 ∧ (s.canBus 1).integrating = true ∧ s.pwr.ctl = true ∧
    (s.canBus 0).tec ≤ 255 ∧ (s.wr (F.CAN_STATUS_STATE 1) 3).rd (F.CAN_STATUS_STATE 1) = canRECOVER ∧ s.rd (F.CAN_CFG_RECOVER_MS 1) ≠ 0 ∧
    (s.wr (F.CAN_CFG_RECOVER_MS 1) 0).rd (F.CAN_CFG_RECOVER_MS 1) = 0 :=
  ⟨{ onBus with can := [(1, { tec := 256, integrating := true })] }, by decide⟩

/-! ### SensorBusCommandsComplete -/

theorem wit_sb_cmds : ∀ p ∈ [(0x0A01, rObserver), (0x0A02, rMaintainer), (0x0A03, rOperator), (0x0A04, rOperator), (0x0A05, rObserver),
    (0x0A06, rMaintainer), (0x0A07, rMaintainer)], State.reset.Allowed p.1 p.2 ⟨1, 3⟩ := by unfold State.Allowed; decide

theorem wit_sb_cfg : tgtAddrOk (0x7708 % 128) = true ∧ tgtAddrOk (0x7708 / 256 % 128) = true ∧ tgtAddrOk 0x78 = false ∧ tgtAddrOk 0 = true ∧
    State.reset.rd (F.SB_TGT_RX_LEVEL 1) = 0 ∧
    ∀ p ∈ [(sbBase 1, 0x00190F63), (sbBase 1 + 8, 0x7708), (sbBase 1 + 12, 0x180)], State.reset.writeCheck p.1 p.2 = none := by decide +kernel
/-- Bus 1 enabled, with target address 0x48. -/
def bus1 : State := (State.reset.wr (F.SB_CFG_ENABLE 1) 1).wr (F.SB_TGT_ADDR 1) 0x48

theorem wit_sb_xfer : bus1.isOn (F.SB_CFG_ENABLE 1) = true ∧ bus1.isOn (F.SB_STATUS_BUS_FAULT 1) = false ∧ (bus1.sbBus 1).queue.length < 16 ∧
    bus1.rd (F.SB_TGT_ADDR 1) = 0x48 ∧ bus1.rd (F.SB_TGT_ADDR2 1) = 0 ∧ bus1.isOn (F.SB_CFG_ENABLE 0) = false ∧
    bus1.isOn (F.SB_STATUS_CLEARING 1) = false ∧ bus1.isOn (F.SB_STATUS_BUS_BUSY 1) = false ∧ bus1.isOn (F.SB_STATUS_XFER_ACTIVE 1) = false ∧
    (bus1.wr (F.SB_STATUS_CLEARING 1) 1).isOn (F.SB_STATUS_CLEARING 1) = true ∧ (bus1.sbBus 1).cfg = none := by decide

theorem wit_sb_clear : busClear 0 {} = .free ∧ busClear 0 { scl := 4, sda := 0 } = .isolated 4 true ∧ busClear 4 { sda := 1 } = .isolated 1 false ∧
    busClear 0 { sda := 1, release := some 9 } = .released ∧ busClear 0 { sclOwn := true } = .fault ∧ busClear 15 { sda := 15 } = .free := by decide

theorem wit_sb_busy : (bus1.wr (F.SB_STATUS_BUS_BUSY 1) 1).isOn (F.SB_STATUS_BUS_BUSY 1) = true ∧
    (bus1.wr (F.SB_STATUS_BUS_BUSY 1) 1).isOn (F.SB_STATUS_CLEARING 1) = false := by decide

/-! ### SensorBusTransfersFollowTheBus -/

/-- A transfer waits at the front of bus 1. -/
def busQ (active : Nat) : State :=
  { bus1.wr (F.SB_STATUS_XFER_ACTIVE 1) active with
    sb := [(1, { queue := [{ key := 1, addr := 0x20, tenBit := false, pec := false, noRstart := false, wr := [1], rd := 1, attempts := 4 }] })]
    hrt.ops := [{ opcode := 0x0A03, tag := 9, index := 0, port := 0, key := 1 }] }

theorem wit_sb_run : (busQ 1).isOn (F.SB_STATUS_XFER_ACTIVE 1) = true ∧ (busQ 0).isOn (F.SB_STATUS_XFER_ACTIVE 1) = false ∧
    ((busQ 1).sbBus 1).cfg = none ∧ ((busQ 1).opOf 0x0A03 1).isSome = true ∧ ((busQ 1).sbBus 1).queue.length = 1 ∧
    (busQ 1).isOn (F.SB_STATUS_BUS_FAULT 1) = false ∧ (busQ 1).isOn (F.SB_CFG_ENABLE 1) = true ∧
    ((busQ 1).wr F.HRT_STATUS_RINGS_RUNNING 1).isOn F.HRT_STATUS_RINGS_RUNNING = true ∧ ((busQ 1).wr (F.SB_CFG_ARB_COND 1) 1).isOn (F.SB_CFG_ARB_COND 1) = true ∧
    (busQ 1).isOn (F.SB_CFG_ARB_COND 1) = false ∧ ((busQ 1).wr (F.SB_CFG_SMBUS 1) 1).isOn (F.SB_CFG_SMBUS 1) = true ∧
    (busQ 1).isOn (F.SB_CFG_SMBUS 1) = false ∧ (busQ 0).isOn (F.SB_CFG_ENABLE 0) = false ∧ (busQ 0).busFree 1 true 4700 = true ∧
    (busQ 0).busFree 1 false 49999 = false ∧ 1 ≤ (busQ 0).stretchUs 1 ∧ (busQ 0).stretchUs 1 ≤ 255000 := by decide

theorem wit_sb_target : ∃ s : State, s.isOn (F.SB_CFG_ENABLE 1) = true ∧ s.isOn (F.SB_CFG_TGT_EN 1) = true ∧ s.rd (F.SB_TGT_ADDR 1) = 0x48 ∧
    s.isOn (F.SB_CFG_GCALL_EN 1) = true ∧ (s.sbBus 1).fifo.length = 63 ∧
    64 ≤ (({ s with sb := [(1, { fifo := List.replicate 64 256 })] } : State).sbBus 1).fifo.length :=
  ⟨{ (bus1.wr (F.SB_CFG_TGT_EN 1) 1).wr (F.SB_CFG_GCALL_EN 1) 1 with sb := [(1, { fifo := List.replicate 63 256 })] }, by decide⟩

/-! ### MailboxExchange -/

/-- Mailbox 5 from core 1 to the LATH manager, in a state. -/
def boxed (st : Nat) : State :=
  (((State.reset.wr (F.MBX_OWN_SENDER 5) 2).wr (F.MBX_OWN_RECEIVER 5) 12).wr (F.MBX_OWN_ENABLE 5) 1).wr (F.MBX_CTRL_STATE 5) st

theorem wit_mbx_own : (boxed 0).mbxEnabled 5 = true ∧ (boxed 0).mbxSender 5 = 2 ∧ (boxed 0).mbxReceiver 5 = 12 ∧ (boxed 0).mbxState 5 = mbEMPTY ∧
    (boxed 1).mbxState 5 = mbFULL ∧ (boxed 2).mbxState 5 = mbTAKEN ∧ (boxed 3).mbxState 5 = mbACKED ∧ (boxed 4).mbxState 5 = mbABORTED ∧
    (boxed 0).mbxEnabled 4 = false ∧ (boxed 0).mbxEnabled 31 = true ∧ (boxed 0).mbxSender 31 = agSTFP ∧ (boxed 0).mbxReceiver 28 = agSTFP ∧
    (boxed 1).isOn (F.MBX_CTRL_ORPHAN 5) = false ∧ ((boxed 1).wr (F.MBX_CTRL_ORPHAN 5) 1).isOn (F.MBX_CTRL_ORPHAN 5) = true := by decide

theorem wit_mbx_reset : (boxed 0).mbx.inReset / 2 ^ 12 % 2 = 0 ∧ ({ boxed 0 with mbx.inReset := 4096 } : State).mbx.inReset / 2 ^ 12 % 2 = 1 := by decide

theorem wit_mbx_ring : (boxed 0).proxy = 1 ∧ (boxed 0).agentOk agSTFP = true ∧ (boxed 0).agentOk 15 = false ∧ (boxed 0).agentOk 13 = true ∧ (boxed 0).locked = false ∧
    ((boxed 0).wr F.MBX_LOCK_LOCK 1).locked = true ∧ (boxed 0).bridgeUp = true ∧
    ({ boxed 0 with pwr.ctl := false } : State).bridgeUp = false := by decide


theorem wit_mbx_bridge : (∀ c ∈ (List.replicate 4 Copy.absent).take 4, copySingle c (([7, 0, 0, 0] ++ List.replicate 32 0).take 32) = false) ∧
    copySingle (.hit [(35, 255), (0, 1)]) (([7, 0, 0, 0] ++ List.replicate 32 0).take 32) = true ∧ (boxed 0).agentOk (boxed 0).proxy = true := by
  decide +kernel

/-! ### RecordsAreKeptInOrder -/

theorem wit_rec_cmds : ∀ p ∈ [(0x0B01, rObserver), (0x0B02, rObserver), (0x0B03, rOperator), (0x0B04, rMaintainer), (0x0B05, rMaintainer)],
    State.reset.Allowed p.1 p.2 ⟨1, 3⟩ := by unfold State.Allowed; decide
/-- A record of the host's text. -/
def note1 : Rec := { kind := .detail, data := List.replicate 32 65 }
/-- A state with the controller, one record waiting to be written and the cursor of the example of R495. -/
def recs (area pos head : Nat) : State :=
  { ((State.reset.wr F.REC_CURSOR_AREA area).wr F.REC_CURSOR_POS_VALUE pos).wr F.REC_HEAD_VALUE head with
    pwr.ctl := true, recorder.queue := [note1], recorder.first := [note1] }

theorem wit_rec_more : (recs 0 0 0).pwr.ctl = true ∧ (List.replicate 31 65).length ≠ 32 ∧
    ({ recs 0 0 0 with recorder.firstBad := [0] } : State).recorder.firstBad.contains ((recs 0 0 0).rd F.REC_CURSOR_POS_VALUE) = true ∧
    ({ recs 0 0 0 with recorder.stfpQ := [note1], recorder.omitted := 3 } : State).recorder.stfpQ = [note1] ∧
    (recs 0 0 0).isOn F.HRT_STATUS_RINGS_RUNNING = false ∧ ((recs 0 0 0).wr F.HRT_STATUS_RINGS_RUNNING 1).isOn F.HRT_STATUS_RINGS_RUNNING = true := by
  decide

theorem wit_rec_post : (recs 0 0 0).bridgeUp = true ∧ (recs 0 0 0).pwr.ctl = true ∧ ({ State.reset with pwr.ctl := false } : State).pwr.ctl = false ∧
    ({ State.reset with pwr.ctl := false } : State).bridgeUp = false ∧
    State.reset.recorder.stfpQ.length < 1024 ∧ (List.replicate 1024 note1).length = 1024 ∧ (recs 0 0 0).recorder.omitted = 0 := by
  refine ⟨by decide, by decide, by decide, by decide, by decide, by simp, by decide⟩

theorem wit_rec_read : (recs 0 0 0).isOn F.REC_CURSOR_AREA = false ∧ (recs 0 0 0).recorder.first[(recs 0 0 0).rd F.REC_CURSOR_POS_VALUE]? = some note1 ∧
    (recs 0 1 0).recorder.first.length ≤ (recs 0 1 0).rd F.REC_CURSOR_POS_VALUE ∧ (recs 1 5 5).rd F.REC_CURSOR_POS_VALUE = (recs 1 5 5).head ∧
    ((recs 1 1000001 1030721).head + 2 ^ 32 - (recs 1 1000001 1030721).rd F.REC_CURSOR_POS_VALUE) % 2 ^ 32 = 30720 ∧
    ((recs 1 1000001 1030740).head + 2 ^ 32 - (recs 1 1000001 1030740).rd F.REC_CURSOR_POS_VALUE) % 2 ^ 32 = 30739 ∧
    (recs 1 5 5).isOn F.REC_CURSOR_AREA = true := by decide

/-! ### UndercoatUsesSparesOnce -/

theorem wit_uc_spare : State.reset.recorder.reloc = none ∧ State.reset.rd F.UC_SPARES_MRAM_ROWS = 256 ∧ State.reset.rd F.UC_CFG_MRAM_PASS = 8 ∧
    State.reset.rd F.UC_CFG_MRAM_LIFE = 32 ∧ (State.reset.wr F.UC_SPARES_MRAM_ROWS 0).rd F.UC_SPARES_MRAM_ROWS = 0 ∧
    State.reset.rd (spareField 3 0) = 32 ∧ State.reset.rd (spareField 3 1) = 32 ∧ (State.reset.wr (spareField 3 1) 1).rd (spareField 3 1) = 1 := by decide

theorem wit_uc_scrub : scrubbed [[(0, 1), (5, 255)], []] = (2, true, false) ∧ scrubbed [[(0, 1), (5, 255), (9, 7)]] = (0, false, true) := by
  decide +kernel

theorem wit_uc_wait : ∃ s : State, s.ctlBusy = true ∧ s.recorder.coreShadow = none ∧ s.recorder.relocWait = [(2, 0, 9)] ∧
    s.recorder.map = [] ∧ s.recorder.spent = [] ∧ s.rd F.UC_SPARES_MRAM_ROWS ≠ 1 :=
  ⟨{ State.reset with recorder.reloc := some ⟨2, 0, 7, 0⟩, recorder.relocWait := [(2, 0, 9)] }, by decide⟩

theorem wit_uc_dram : ∃ s : State, ∃ x, s.hrt.transfers.find? (fun y => y.tag == 7) = some x :=
  ⟨{ State.reset with hrt.transfers := [⟨0x0B02, 7, 64, [], 0, { opcode := 0x0B02, status := .ok, mode := 1, tag := 7, index := 0, kind := 0, time := 0 }⟩] },
   _, rfl⟩

theorem wit_uc_reloc : ∃ s : State, ∃ r, s.recorder.reloc = some r ∧ r.pool = 3 ∧ r.device = 1 :=
  ⟨{ State.reset with recorder.reloc := some ⟨3, 1, 7, 0⟩ }, ⟨3, 1, 7, 0⟩, rfl, rfl, rfl⟩

theorem wit_uc_core : ∃ s : State, (s.recorder.coreErr.filter fun p => decide (s.time.count < p.2 + 21600000000000) && p.1 == 2).length = 2 ∧
    s.poolOut 1 = false ∧ s.coreDue = false ∧ s.ctlBusy = false ∧ s.recorder.map = [] ∧ s.isOn F.UC_CFG_AUTO_CORE = true ∧
    (s.wr F.UC_CFG_AUTO_CORE 0).isOn F.UC_CFG_AUTO_CORE = false ∧ (s.wr F.UC_STATUS_EXHAUSTED 2).poolOut 1 = true ∧
    ({ s with recorder.coreShadow := some 0 } : State).coreDue = true ∧ ({ s with upd.step := 2 } : State).upd.step < 5 ∧
    ({ s with recorder.reloc := some ⟨3, 1, 7, 0⟩ } : State).ctlBusy = true ∧ ({ s with recorder.reloc := some ⟨3, 1, 7, 0⟩ } : State).coreDue = false ∧
    ({ s with recorder.coreShadow := some 0, recorder.coreAgreed := true } : State).recorder.coreAgreed = true ∧ s.recorder.coreAgreed = false :=
  ⟨{ State.reset with recorder.coreErr := [(2, 0), (2, 5)] }, by decide⟩

theorem wit_uc_conv : ∃ s : State, s.segOk 26 = true ∧ s.isOn F.UC_CFG_AUTO_CONV = false ∧ (s.segOf 26).cal = none ∧ (s.segOf 26).shadow = none ∧
    s.segLive 26 = true ∧ s.spareFree 26 = true ∧ s.sumFault 26 = false ∧ (s.segOf 26).needed = 0 ∧ s.segLive 25 = false :=
  ⟨(State.reset.wr F.UC_CFG_AUTO_CONV 0).wr (F.SEG_STATE_STATE 26) 5, by decide⟩

theorem wit_uc_cards : State.reset.axStill 0 = true ∧ State.reset.axStill 1 = true ∧ State.reset.isOn F.PWR_AUX_STATUS_PSU_A_OK = false ∧
    State.reset.isOn F.PWR_AUX_STATUS_PSU_B_OK = false ∧ (State.reset.wr F.PWR_AUX_STATUS_PSU_A_OK 1).isOn F.PWR_AUX_STATUS_PSU_A_OK = true ∧
    (State.reset.wr F.PWR_AUX_STATUS_PSU_B_OK 1).isOn F.PWR_AUX_STATUS_PSU_B_OK = true := by decide

/-! ### UpdateDownloadAndVerification -/

theorem wit_upd_cmds : ∀ p ∈ [(0x0C01, rObserver), (0x0C02, rUpdate), (0x0C03, rUpdate), (0x0C04, rUpdate), (0x0C05, rUpdate), (0x0C06, rUpdate),
    (0x0C07, rUpdate), (0x0C08, rUpdate)], State.reset.Allowed p.1 p.2 ⟨1, 3⟩ := by unfold State.Allowed; decide
/-- The header of a full CTL package with an empty image. -/
def skim0 : List Byte := leBytes 4 0x534B494D ++ [1, 0, 1, 0] ++ leBytes 4 4096 ++ List.replicate 4084 0

theorem wit_upd_begin : skim0.length = 4096 ∧ State.reset.beginBad skim0 true = none ∧ State.reset.beginBad (List.replicate 4096 0) true = some (1, .auth) ∧
    State.reset.upd.pkg = none ∧ State.reset.beginBad (skim0.set 6 4) true = some (2, .param) ∧
    State.reset.beginBad (skim0.set 24 1) true = none ∧ State.reset.beginBad (skim0.set 9 8) true = some (3, .range) ∧
    (State.reset.wr F.UPD_SCHEMA_RUNNING 3).beginBad skim0 true = some (6, .version) ∧
    (State.reset.wr F.SEC_STATUS_TAMPER_LATCHED 1).isOn F.SEC_STATUS_TAMPER_LATCHED = true := by decide +kernel
/-- A session for a package of one chunk, in a state. -/
def loaded (st : Nat) (p : Package) : State := { State.reset.wr F.UPD_STATUS_STATE st with upd.pkg := some p }
/-- A package of 4096 + 3 bytes. -/
def pkg1 : Package := { head := { target := 1, len := 4099, imgLen := 3 }, raw := List.replicate 4096 0 }

theorem wit_upd_chunk : pkg1.head.chunkCount = 1 ∧ (List.replicate 4099 0).length = pkg1.head.chunkLen 0 ∧ (List.replicate 4099 0).take 4096 = pkg1.raw ∧
    Tbl.has pkg1.chunks 0 = false ∧ (loaded 1 pkg1).rd F.UPD_STATUS_STATE = 1 ∧ (loaded 4 pkg1).rd F.UPD_STATUS_STATE = 4 ∧
    Tbl.has ({ pkg1 with chunks := [(0, (7, []))] } : Package).chunks 0 = true := by
  refine ⟨by decide, ?_, ?_, by decide, rfl, rfl, by decide⟩
  · rw [List.length_replicate]; rfl
  · rw [List.take_replicate]; rfl
/-- A package whose digests fit, whatever they are. -/
def fits (d : Nat) : Package := { head := { target := 1, body := d, image := d } }

theorem wit_upd_verify : ∃ p : Package, sha384 p.bodyBytes = p.head.body ∧ sha384 ((loaded 3 p).rebuilt p) = p.head.image ∧
    (loaded 3 p).upd.pkg = some p ∧ (loaded 3 p).rd F.UPD_STATUS_STATE = 3 ∧ (loaded 3 p).rd F.UPD_STATUS_ACTIVE_BANK = 0 :=
  ⟨fits (sha384 []), rfl, rfl, rfl, by decide, by decide⟩

theorem wit_upd_unfit : sha384 (fits 0).bodyBytes ≠ (fits 0).head.body := by decide +kernel

theorem wit_upd_abort : State.reset.inTrial = false ∧ (loaded 3 pkg1).rd F.UPD_STATUS_STATE = 3 ∧ (loaded 3 pkg1).inTrial = false ∧ (loaded 7 pkg1).rd F.UPD_STATUS_STATE = 7 ∧ (loaded 7 pkg1).inTrial = false ∧
    ({ State.reset with upd.safeSw := { State.reset.upd.safeSw with state := 1 } } : State).inTrial = true := by decide

/-! ### UpdateActivationAndTrial -/

theorem wit_upd_act : ∃ (s : State) (p : Package), s.upd.pkg = some p ∧ p.head.target = 1 ∧ s.rd F.UPD_STATUS_STATE = 4 ∧ s.byRestart = false ∧
    s.coreDue = false ∧ ({ s with recorder.coreShadow := some 1 } : State).coreDue = true ∧ s.mode = mSTANDBY ∧
    (loaded 4 { pkg1 with head.restartOnly := true }).byRestart = true :=
  ⟨loaded 4 pkg1, pkg1, rfl, rfl, by decide, by decide, by decide, by decide, by decide, by decide⟩

theorem wit_upd_beyond : (loaded 5 pkg1).shadowBeyond 17 100 = true ∧ (loaded 5 pkg1).shadowBeyond 17 99 = false ∧
    (loaded 5 pkg1).shadowBeyond 0 1000 = false ∧ (loaded 5 pkg1).shadowBeyond 0 1001 = true ∧ (loaded 5 pkg1).upd.shadowFrom = 0 ∧
    ({ loaded 5 pkg1 with time.count := 250000000 * 3600 } : State).rd F.UPD_CFG_SHADOW_S ≤ 3600 := by decide
/-- A verified package of a target in SERVICE with a valid current of 0. -/
def inService (p : Package) : State :=
  { ((loaded 4 p).wr F.SYS_MODE_MODE mSERVICE).wr F.CIM_CURRENT_MA 0 with safe.blockA := [0], safe.blockB := [0] }

theorem wit_upd_go : (inService { head := { target := 3, image := 7 } }).segMayGo = true ∧
    (inService { head := { target := 3, image := 7 } }).wdSlot = 0 ∧
    (inService { head := { target := 3, image := 7 } }).rd F.UPD_STATUS_STATE = 4 := by decide

theorem wit_upd_image : sha384 [] = (fits (sha384 [])).head.image ∧ sha384 [] ≠ (fits 0).head.image ∧
    ({ loaded 8 pkg1 with upd.pkg := none } : State).upd.pkg = none ∧ (loaded 8 pkg1).upd.safeSw.bank < 2 := by decide +kernel

theorem wit_upd_seg : ∃ (s : State) (c : Nat) (l : List Nat), s.segsLeft { image := 7 } = c :: l ∧ c = 3 ∧ State.reset.segsLeft { image := 0 } = [] ∧
    ({ s with upd.card := some (3, 7) } : State).upd.card = some (3, 7) :=
  ⟨{ State.reset with upd.seg := [(1, 7), (2, 7)] }, 3, numbersFrom 4 23, by decide, rfl, by decide, rfl⟩

theorem wit_upd_service : ∃ s : State, s.mode = mSERVICE ∧ s.closed = false ∧ s.rd F.UPD_STATUS_STATE = 4 ∧ s.segMayGo = false ∧ s.wdSlot = 0 ∧
    s.Allowed 0x0C05 rUpdate ⟨1, 3⟩ ∧ (s.wr F.SAFE_STATUS_STRING_CLOSED 1).closed = true :=
  ⟨(loaded 4 { pkg1 with head.target := 2 }).wr F.SYS_MODE_MODE mSERVICE, by decide, by decide, by decide, by decide, by decide,
   by unfold State.Allowed; decide, by decide⟩

theorem wit_upd_shadow : ∃ s : State, s.rd F.UPD_STATUS_STATE = 5 ∧ s.upd.step = 4 ∧ ({ s with upd.step := 5 } : State).upd.step = 5 :=
  ⟨{ loaded 5 pkg1 with upd.step := 4 }, by decide, rfl, rfl⟩

theorem wit_upd_trial : ∃ (s : State) (p : Package), s.switch.state = 1 ∧ s.rd F.UPD_STATUS_STATE = 6 ∧ s.upd.pkg = some p ∧ p.head.keyId < 4 ∧
    p.head.epoch < 65536 ∧ p.head.revokeMask < 16 ∧ s.rd F.UPD_EPOCH_EPOCH < 65536 ∧ s.rd F.UPD_EPOCH_REVOKED / 2 ^ p.head.keyId % 2 = 0 ∧
    s.upd.resident = true ∧ s.pwr.ctl = true ∧ s.upd.safeSw.state ≠ 1 :=
  ⟨{ loaded 6 pkg1 with upd.sw0 := { (loaded 6 pkg1).upd.sw0 with state := 1 }, upd.resident := true }, pkg1, by decide, by decide, rfl, by decide,
   by decide, by decide, by decide, by decide, rfl, rfl, by decide⟩

theorem wit_upd_safe : ∃ s : State, s.rd F.UPD_STATUS_STATE = 8 ∧ s.upd.pkg = some pkg1 ∧ (s.wr F.UPD_STATUS_STATE 7).rd F.UPD_STATUS_STATE = 7 ∧
    (s.wr F.UPD_PROGRESS_SEG_SLOT 26).rd F.UPD_PROGRESS_SEG_SLOT = 26 ∧ s.rd F.UPD_PROGRESS_SEG_SLOT = 0 := 
  ⟨loaded 8 pkg1, by decide, rfl, by decide, by decide, by decide⟩
/-- The header of a full CTL package with an empty image, digests included. -/
def skim1 : List Byte := leBytes 4 0x534B494D ++ [1, 0, 1, 0] ++ leBytes 4 4096 ++ List.replicate 68 0 ++ leBytes 48 (sha384 []) ++
  leBytes 48 (sha384 []) ++ List.replicate 3920 0

theorem wit_upd_recover : skim1.length = 4096 ∧ (parseSkim skim1).target = 1 ∧ (parseSkim skim1).kind = 0 ∧ State.reset.headerBad skim1 true = none ∧
    sha384 [] = (parseSkim skim1).body ∧ sha384 [] = (parseSkim skim1).image ∧ sha384 [] ≠ (parseSkim skim0).body ∧
    State.reset.headerBad skim1 false = some (1, .auth) ∧ ({ State.reset with pwr.phase := .recovery } : State).pwr.phase = .recovery := by decide +kernel

/-! ### SecurityCommandsAndTamper -/

theorem wit_sec_cmds : ∀ p ∈ [(0x0D01, rObserver), (0x0D02, rObserver), (0x0D03, rObserver), (0x0D04, rMaintainer), (0x0D05, rMaintainer),
    (0x0D06, rMaintainer), (0x0D07, rMaintainer), (0x0D08, rMaintainer)], State.reset.Allowed p.1 p.2 ⟨1, 3⟩ := by unfold State.Allowed; decide

theorem wit_sec_quote : (List.replicate 32 (7 : Nat)).length = 32 ∧ State.reset.isOn F.SEC_STATUS_ID_FAULT = false ∧
    (State.reset.wr F.SEC_STATUS_ID_FAULT 1).isOn F.SEC_STATUS_ID_FAULT = true := by decide
/-- A claiming session is open. -/
def claimed0 : State := { State.reset with sec.claiming := true }

theorem wit_sec_claim : claimed0.sec.claiming = true ∧ claimed0.isOn F.SEC_STATUS_CLAIMED = false ∧ claimed0.sec.shut = false ∧ claimed0.mode ≠ mSHELF ∧
    (claimed0.wr F.SYS_MODE_MODE mSHELF).mode = mSHELF ∧ (claimed0.wr F.SYS_MODE_MODE mSHELF).sec.claiming = true := by
  exact ⟨rfl, by decide, rfl, by decide, by decide, rfl⟩

theorem wit_sec_code : ∃ c : List Byte, c ≠ Config.claimCode :=
  ⟨0 :: Config.claimCode, fun e => by have := congrArg List.length e; simp at this⟩
/-- Anchor 1 is installed, with a deny list. -/
def anchored (d : List Nat) : State := { State.reset with sec.anchors := [(1, { ca := [9], deny := d })] }

theorem wit_sec_anchor : (anchored []).Allowed 0x0D05 rMaintainer ⟨1, 3⟩ ∧ Tbl.has (anchored []).sec.anchors 1 = true ∧
    Tbl.sorted (anchored []).sec.anchors = true ∧ (anchored []).anchorOf 3 ≠ some 1 ∧ Tbl.has (anchored []).sec.anchors 3 = false := by
  unfold State.Allowed; decide

theorem wit_sec_own : ({ anchored [] with hrt.portB := { session := some { cert := 5, anchor := 1, roles := 4 } } } : State).anchorOf 1 = some 1 := by decide

theorem wit_sec_deny : (5 : Nat) < 2 ^ 160 ∧ 5 ∈ (Tbl.get { ca := [] } (anchored [5]).sec.anchors 1).deny ∧
    6 ∉ (Tbl.get { ca := [] } (anchored [5]).sec.anchors 1).deny ∧
    (Tbl.get { ca := [] } (anchored (List.replicate 256 0)).sec.anchors 1).deny.length = 256 :=
  ⟨by decide, by decide, by decide, by rw [anchored]; simp [Tbl.get]⟩

theorem wit_sec_tamper : State.reset.sec.latch = false ∧ ({ State.reset with pwr.phase := .up } : State).pwr.ctl = true ∧ State.reset.mode ≠ mSHELF ∧
    State.reset.isOn F.SEC_CFG_TAMPER_ACTION = false ∧ (State.reset.wr F.SEC_CFG_TAMPER_ACTION 1).isOn F.SEC_CFG_TAMPER_ACTION = true ∧
    (State.reset.wr F.SEC_STATUS_LID_OPEN 1).isOn F.SEC_STATUS_LID_OPEN = true := by decide

theorem wit_sec_cfg : (∀ w ∈ [0x0F01, 0x0101, 0xF000], State.reset.writeCheck 0x110004 w = none) ∧
    ∀ w ∈ [0x0001, 0xF100], State.reset.writeCheck 0x110004 w = some .range := by decide +kernel
/-- Corrected time is valid, `h` hours after the floor of 0. -/
def floored (h : Int) : State :=
  { State.reset.wr F.TIME_STATUS_TAI_VALID 1 with time.offset := h * 3600000000000 * 4294967296 }

theorem wit_sec_floor : State.reset.taiValid = false ∧ (floored 1).taiValid = true ∧ (floored 0).taiValid = true ∧
    (floored 1).rd64 F.SEC_TIME_FLOOR_LO_NS F.SEC_TIME_FLOOR_HI_NS + 3600000000000 ≤ (floored 1).now ∧
    (floored 0).now < (floored 0).rd64 F.SEC_TIME_FLOOR_LO_NS F.SEC_TIME_FLOOR_HI_NS + 3600000000000 := by decide +kernel

theorem wit_sec_shut : claimShut 3 ≤ 10 ∧ 9 < claimShut 3 ∧ claimShut 12 = 1440 ∧ (State.reset.wr F.UPD_STATUS_STATE 5).rd F.UPD_STATUS_STATE = 5 := by
  decide

/-! ### SafetyCommandsComplete -/

theorem wit_safe_cmds : ∀ p ∈ [(0x0E01, rSafety), (0x0E02, rSafety), (0x0E03, rObserver), (0x0E04, rObserver), (0x0E05, rSafety), (0x0E06, rOperator),
    (0x0E07, rMaintainer), (0x0E08, rMaintainer)], State.reset.Allowed p.1 p.2 ⟨1, 3⟩ := by unfold State.Allowed; decide
/-- The Kessmoor block of R300 up to its CRC, generation 1, 416 cells. -/
def kessHead : List Byte :=
  leBytes 4 0x53414650 ++ leBytes 2 1 ++ leBytes 2 512 ++ leBytes 4 1 ++ leBytes 2 416 ++ leBytes 18 0 ++
  leBytes 2 37000 ++ leBytes 2 24500 ++ [8, 5, 175, 40, 8, 5, 3, 20, 25, 0] ++ leBytes 2 690 ++ leBytes 2 2000 ++ leBytes 2 900 ++
  leBytes 2 760 ++ leBytes 2 2000 ++ leBytes 2 1000 ++ leBytes 2 50 ++ leBytes 2 1000 ++ leBytes 2 30 ++
  leBytes 2 6000 ++ leBytes 2 63536 ++ leBytes 2 0 ++ leBytes 2 4500 ++ leBytes 2 64536 ++ leBytes 2 1000 ++ [15, 0] ++
  leBytes 2 3435 ++ leBytes 2 1000 ++ leBytes 2 250 ++ [2, 20] ++ leBytes 2 2000 ++ [0, 60] ++ leBytes 2 600 ++ leBytes 2 600 ++ leBytes 2 60 ++
  [127] ++ List.replicate 24 255 ++ [127] ++ leBytes 2 500 ++ leBytes 2 10000 ++ leBytes 2 10 ++ leBytes 2 50 ++ leBytes 2 300 ++ leBytes 2 100 ++
  [0, 0, 2, 1, 5, 100, 0, 2, 1, 5, 100, 0, 3, 4, 5, 0, 0, 3, 5, 5, 0, 0, 2, 2, 20, 200, 0] ++ List.replicate 239 0
def kessmoor : List Byte := kessHead ++ leBytes 4 (crc32c kessHead) ++ List.replicate 108 0

theorem wit_safe_block : kessmoor.length = 512 ∧ blockParamBad kessmoor (16 * State.reset.segs) 1 = false ∧ blockRangeBad kessmoor State.reset.segs = false ∧
    blockParamBad [] (16 * State.reset.segs) 1 = true ∧ blockRangeBad kessmoor 25 = true := by decide +kernel
/-- The block is in force. -/
def kess : State := { State.reset with safe.blockA := kessmoor, safe.blockB := kessmoor }

theorem wit_safe_confirm : ∃ s : State, s.safe.pendingBlock ≠ [] ∧ s.safe.pendingCert = 0 ∧ s.Allowed 0x0E02 rSafety ⟨1, 3⟩ ∧
    ({ s with safe.pendingCert := 5 } : State).safe.pendingCert ≠ s.portCert 3 :=
  ⟨{ State.reset with safe.pendingBlock := kessmoor }, by decide, rfl, by unfold State.Allowed; decide, by decide⟩

theorem wit_safe_compare : u32 kess.safe.blockA 400 ≠ u32 State.reset.safe.blockB 400 ∧ kess.safe.blockA ≠ [] ∧ blockBad kess.safe.blockA = false ∧
    blockBad State.reset.safe.blockB = false ∧ blockBad (kessmoor.set 30 1) = true := by decide +kernel

theorem wit_safe_echo : ∃ (s : State) (c : CmpEcho), s.segLive 3 = true ∧ 3 ∈ s.segList ∧ Tbl.has [(3, c)] 3 = true ∧ c ≠ s.cmpConfig 3 ∧
    s.cmpConfig 3 = s.cmpConfig 4 :=
  ⟨State.reset.wr (F.SEG_STATE_STATE 3) 5, ⟨999, 0, 31⟩, by decide, by decide, by decide, by decide +kernel, by decide +kernel⟩

theorem wit_safe_cancel : State.reset.seg.armed = false ∧ ({ State.reset with seg.armed := true } : State).seg.armed = true ∧
    (State.reset.wr F.SAFE_WITHDRAW_SLOT 26).endWithdrawal.toneThrough = false := by decide +kernel
/-- LOCKOUT with cause HOST_STOP. -/
def locked : State := (State.reset.raiseCause .hostStop 1)

theorem wit_safe_reset : ∃ s : State, s.mode = mLOCKOUT ∧ s.isOn F.SAFE_RST_CMD_SEEN = false ∧ s.isOn F.SAFE_RST_PULSE_SEEN = false ∧
    (s.wr F.SAFE_RST_PULSE_SEEN 1).isOn F.SAFE_RST_PULSE_SEEN = true ∧ s.othersCleared ⟨0, []⟩ = true ∧ s.hasCause .weldKn = false ∧
    s.Allowed 0x0E05 rSafety ⟨1, 3⟩ :=
  ⟨{ (State.reset.wr F.SYS_MODE_MODE mLOCKOUT) with safe.causes := 2 ^ 32 }, by decide, by decide, by decide, by decide, by decide +kernel,
   by decide, by unfold State.Allowed; decide⟩

theorem wit_safe_uncleared : ({ (State.reset.wr (F.SEG_CMP_OV_LATCH 1) 1) with safe.causes := 2 } : State).othersCleared ⟨0, []⟩ = false ∧
    ({ State.reset with safe.causes := 2 ^ 21 } : State).othersCleared ⟨0, []⟩ = true ∧ ({ State.reset with safe.causes := 2 ^ 21 } : State).hasCause .weldKn = true ∧
    State.reset.fbHealthy 5 = true ∧ State.reset.isOn F.SAFE_OUT_COIL_SUPPLY = false ∧
    (State.reset.wr F.SAFE_OUT_COIL_SUPPLY 1).isOn F.SAFE_OUT_COIL_SUPPLY = true := by decide +kernel

theorem wit_safe_withdraw : kess.segOk 26 = true ∧ kess.segOk 27 = false ∧ kess.paramValid = true ∧ kess.wdSlot = 0 ∧
    ((kess.wrI F.CIM_CURRENT_MA (-30000)).currentValid = true) ∧ (kess.wrI F.CIM_CURRENT_MA (-30000)).current.natAbs ≤ 1000 * pSvcMax kessmoor ∧
    1000 * pSvcMax kessmoor < (kess.wrI F.CIM_CURRENT_MA 30001).current.natAbs ∧ (kess.wr F.SAFE_WITHDRAW_SLOT 26).wdSlot = 26 := by decide +kernel

theorem wit_safe_slot : (State.reset.segOf 26).present = true ∧ (State.reset.wr (F.SEG_STATE_STATE 26) 5).segLive 26 = true ∧ ({ State.reset with seg.segs := [(26, { present := false })] } : State).segOf 26 =
    { present := false } ∧ State.reset.segLive 26 = false := by decide

/-! ### LockoutLatchesAndStops -/

theorem wit_lock_open : State.reset.closed = false ∧ (State.reset.wr F.SAFE_STATUS_STRING_CLOSED 1).closed = true ∧
    ({ State.reset with safe.modeEntered := true } : State).safe.modeEntered = true ∧ State.reset.mode ≠ mSHELF := by decide

theorem wit_lock_disc : ∃ s : State, s.inClass 2 = 2 ∧ (s.input 2).st = .demand ∧ (s.input 2).both = false ∧
    (State.setInput s 2 { st := .back }).inClass 2 = 2 ∧ ((State.setInput s 2 { st := .back }).input 2).st = .back ∧
    ((State.setInput s 2 { st := .healthy }).input 2).st = .healthy ∧ s.inClass 3 ≠ 1 ∧ s.inClass 3 ≠ 2 :=
  ⟨kess.setInput 2 { both := false }, by decide +kernel, by decide, by decide, by decide +kernel, by decide, by decide, by decide +kernel, by decide +kernel⟩

theorem wit_lock_delay : ({ kess with safe.ssdDelay := true } : State).safe.ssdDelay = true ∧ State.reset.safe.ssdDelay = false := by decide

theorem wit_lock_fb : kess.inClass 3 = 3 ∧ (kess.setInput 3 { st := .healthy, a := false, b := false }).fbAgrees 3 = true ∧
    (kess.setInput 3 { st := .demand, a := true, b := false }).fbAgrees 3 = false ∧ kess.inClass 1 ≠ 3 := by decide +kernel

theorem wit_lock_pulse : (State.reset.outOnSet 2).outOn 2 = true ∧ (State.reset.outOnSet 2).safe.closing = .idle ∧
    ({ State.reset.outOnSet 2 with time.count := 50000000 } : State).safe.closedAt + 50000000 ≤ 50000000 ∧
    (State.reset.outOnSet 2).outOn 0 = false ∧ ({ State.reset with safe.closing := .confirm } : State).safe.closing ≠ .idle := by decide

theorem wit_lock_block : State.reset.safe.blockA = [] ∧ kess.safe.blockA ≠ [] ∧ (kess.wr F.SAFE_STATUS_SDI_CHG 1).isOn F.SAFE_STATUS_SDI_CHG = true ∧
    (kess.wr F.SAFE_STATUS_SDI_DIS 1).isOn F.SAFE_STATUS_SDI_DIS = true ∧ kess.isOn F.SAFE_STATUS_SDI_CHG = false ∧
    kess.isOn F.SAFE_STATUS_SDI_DIS = false := by decide
/-- The block in force, a cell beyond its window for 32 instants, an NTC hot and another open. -/
def beyond : State :=
  { kess with seg.segs := [(3, { beyond := [(32, 0)], ntc := [(1, 900)] })], cim.slcPk := 2, cim.slcTm := 8000, cim.sdiChg := 4000 }

theorem wit_lock_svw : beyond.segOk 3 = true ∧ 4 * u8 beyond.safe.blockA 36 ≤ beyond.svwFor 3 1 true ∧ 4 * u8 beyond.safe.blockA 40 ≤ beyond.svwFor 3 1 true ∧
    beyond.svwFor 3 1 false < 4 * u8 beyond.safe.blockA 36 ∧ beyond.wdSlot ≠ 3 ∧ shadowOut kessmoor 60000 true = true ∧
    shadowOut kessmoor 52000 true = false := by decide +kernel

theorem wit_lock_slc : 2 ≤ beyond.cim.slcPk ∧ 4 * u16 beyond.safe.blockA 48 ≤ beyond.cim.slcTm ∧ 4 * u16 beyond.safe.blockA 60 ≤ beyond.cim.sdiChg ∧
    ((1000 * pHallPeak kessmoor : Nat) : Rat) < (beyond.wr F.CIM_HALL_PARAM_FS_A 2000).hallMa 2047 ∧ beyond.hallMa 0 = 0 := by decide +kernel

theorem wit_lock_ntc : beyond.ntcFaulty = true ∧ kess.ntcFaulty = false ∧
    ({ kess with seg.segs := [(1, { ntc := [(1, 10000)] })] } : State).stwHolds 0 1 = true ∧
    ({ kess with seg.segs := [(1, { ntc := [(1, 64000)] })] } : State).stwHolds 1 1 = true ∧ kess.stwHolds 1 1 = false ∧
    ({ kess with seg.segs := [(1, { ntc := [(1, 64000)] })] } : State).stwHolds 2 1 = true ∧
    ({ kess with seg.segs := [(1, { ntc := [(1, 10000)] })] } : State).stwHolds 3 1 = true := by decide +kernel

/-! ### SafetyInputsAndReset -/

theorem wit_in_guard : kess.inClass 2 = 2 ∧ (kess.setInput 2 { st := .healthy, a := false, b := false }).inClass 2 = 2 ∧
    ((kess.setInput 2 { st := .healthy, a := false, b := false }).input 2).st = .healthy ∧ kess.inFn 2 = 1 ∧ kess.inFn 5 = 2 ∧
    kess.isOn F.SAFE_STATUS_SSD_DEMAND = false := by decide +kernel

theorem wit_in_back : ((kess.setInput 2 { st := .back, a := true, b := false }).input 2).st = .back ∧
    ((kess.setInput 2 { st := .back, a := true, b := false }).input 2).disc = false ∧ ((kess.setInput 2 { st := .back, a := true, b := false }).input 2).b = false ∧
    ((kess.setInput 2 { st := .demand, both := true, disc := true, a := true, b := false }).input 2).disc = true ∧
    ((kess.setInput 2 { st := .demand, both := true, disc := true, a := true, b := false }).input 2).both = true := by decide

theorem wit_in_fb : kess.inClass 3 = 3 ∧ true ≠ kess.outOn (kess.inFn 3 - 4) ∧ false = kess.outOn (kess.inFn 3 - 4) := by decide +kernel

theorem wit_in_pulse : (2 : Nat) / 2 ^ (2 - 1) % 2 = 1 ∧ ((kess.setInput 2 { st := .healthy, a := false, b := false, ownA := 1, otherA := 1 }).input 2).a = false ∧
    ((kess.setInput 2 { st := .healthy, a := false, b := false, ownA := 1, otherA := 1 }).input 2).ownA = 1 ∧
    ((kess.setInput 2 { st := .healthy, a := false, b := false, passed := 9 }).input 2).passed = 9 := by decide

theorem wit_rst : ∃ s : State, s.mode = mLOCKOUT ∧ s.isOn F.SAFE_RST_PULSE_SEEN = false ∧ s.isOn F.SAFE_RST_CMD_SEEN = false ∧
    (s.wr F.SAFE_RST_CMD_SEEN 1).isOn F.SAFE_RST_CMD_SEEN = true ∧ s.othersCleared ⟨0, []⟩ = true ∧ s.hasCause .weldKn = false ∧
    ({ s with hrt.ops := [{ opcode := 0x0E05, tag := 9, index := 0, key := 0, port := 1 }] } : State).opOf 0x0E05 0 ≠ none ∧ 26 ≤ s.segs :=
  ⟨State.reset.wr F.SYS_MODE_MODE mLOCKOUT, by decide, by decide, by decide, by decide, by decide +kernel, by decide, by decide, by decide⟩

theorem wit_rst_window : (State.reset.openWindow F.SAFE_RST_PULSE_SEEN).isOn F.SAFE_STATUS_RESET_WINDOW = true ∧
    (State.reset.openWindow F.SAFE_RST_PULSE_SEEN).isOn F.SAFE_RST_CMD_SEEN = false := by decide

theorem wit_weld_test : ∀ p, p = 499 ∨ p = 500 → ({ kess with safe.weldTest := true, safe.peak := p } : State).safe.weldTest = true ∧
    (({ kess with safe.weldTest := true, safe.peak := p } : State).safe.peak < 10 * pPcWeld kessmoor ↔ p = 499) := by
  intro p hp; rcases hp with h | h <;> subst h <;> decide +kernel

theorem wit_react : ({ State.reset with safe.reactAt := some 0 } : State).safe.reactAt = some 0 ∧ ∀ i, i < 6 → hasBit 0 (2 ^ i) = false := by decide

theorem wit_readback : (State.reset.outOnSet 0).outOn 0 = true ∧ (∀ o, o ≤ 2 → ∀ d, d ≤ 1 → hasBit 3 (2 ^ (2 * o + d)) = true →
    hasBit (State.reset.outOnSet 0).switches (cmdBit o d) = true) ∧ hasBit 32 (2 ^ (2 * 2 + 1)) = true ∧ hasBit State.reset.switches (cmdBit 2 1) = false ∧
    (Tbl.get {} ({ State.reset with safe.outs := [(2, { stuckLs := 2 })] } : State).safe.outs 2).stuckLs = 2 := by decide +kernel

/-! ### ClosingTheString -/

theorem wit_close : ({ kess with safe.closing := .weldCheck, safe.peak := 499 } : State).safe.closing = .weldCheck ∧
    ({ kess with safe.closing := .weldCheck, safe.peak := 499 } : State).safe.peak < 10 * pPcWeld kessmoor ∧
    10 * pPcWeld kessmoor ≤ ({ kess with safe.closing := .weldCheck, safe.peak := 500 } : State).safe.peak ∧
    ({ kess with safe.closing := .precharge, safe.instants := 800, safe.low := 400 } : State).safe.low = 400 ∧
    4 * u16 kessmoor 124 ≤ ({ kess with safe.closing := .precharge, safe.instants := 40000 } : State).safe.instants ∧
    0 < u16 kessmoor 124 ∧
    kess.safe.confirmAt = none ∧ kess.reloadOpen = false ∧ ({ kess with est.parked := true } : State).reloadOpen = true ∧
    ({ kess with safe.confirmAt := some 0 } : State).safe.confirmAt ≠ none ∧
    ({ kess with safe.closing := .confirm } : State).safe.closing = .confirm := by decide +kernel

theorem wit_close_fb : State.reset.fbAll = true ∧ (kess.setInput 3 { st := .demand, a := true, b := false }).fbAll = false := by decide +kernel

/-! ### ValuesRoundAndKeepOffMarkers -/

theorem wit_num : (0 : Nat) < 7 ∧ 2 * ((7 : Int) - roundDiv 7 2 * (2 : Nat)).natAbs = 2 ∧ (2 : Nat) ≤ 16 ∧ (2 : Int) ^ 16 - 2 < 65535 ∧
    (-32768 : Int) < 1 - 2 ^ (16 - 1) ∧ (2 : Int) ^ (16 - 1) - 1 < 32768 ∧ (65535 : Nat) < 2 ^ 16 := by decide

end Sys2Proof.Tests
end

section
/-! PROOFS. The host formats (R5, R6): rounding to the nearest unit, two's complement, and saturation short of the markers. -/

namespace Sys2Proof

/-! ### Rounding (R5) -/

/-- For a dividend of at least 0 the rounded quotient times the divisor lies within half a divisor, a tie above it. -/
theorem roundDiv_bounds {a : Int} {b : Nat} (ha : 0 ≤ a) (hb : 0 < b) :
    2 * (roundDiv a b * b) ≤ 2 * a + b ∧ 2 * a < 2 * (roundDiv a b * b) + b ∧ 0 ≤ roundDiv a b := by
  have hq : roundDiv a b = (2 * a + b) / (2 * b) := if_pos ha
  have hdiv := Int.mul_ediv_add_emod (2 * a + b) (2 * b)
  have hlo := Int.emod_nonneg (2 * a + b) (show (2 * b : Int) ≠ 0 by omega)
  have hhi := Int.emod_lt_of_pos (2 * a + b) (show (0 : Int) < 2 * b by omega)
  rw [← hq] at hdiv
  have hcomm : 2 * (b : Int) * roundDiv a b = 2 * (roundDiv a b * b) := by ring
  rw [hcomm] at hdiv
  refine ⟨by omega, by omega, ?_⟩
  rw [hq]
  exact Int.ediv_nonneg (by omega) (by omega)

theorem roundDiv_neg {a : Int} (b : Nat) (ha : 0 < a) : roundDiv (-a) b = -roundDiv a b := by
  unfold roundDiv
  rw [if_neg (by omega), if_pos (by omega), neg_neg]

/-- A dividend of at least 0 is rounded to the nearest unit, a tie to the larger one. -/
theorem roundDiv_nearest_of_nonneg {a : Int} {b : Nat} (ha : 0 ≤ a) (hb : 0 < b) :
    2 * (a - roundDiv a b * b).natAbs ≤ b ∧
      (2 * (a - roundDiv a b * b).natAbs = b → a.natAbs < (roundDiv a b).natAbs * b) := by
  obtain ⟨hlo, hhi, hq⟩ := roundDiv_bounds ha hb
  have hmag : (((roundDiv a b).natAbs * b : Nat) : Int) = roundDiv a b * b := by
    rw [Nat.cast_mul, Int.natAbs_of_nonneg hq]
  omega

/-- Rounding is to the nearest unit, ties away from zero. -/
theorem roundDiv_nearest (a : Int) {b : Nat} (hb : 0 < b) :
    2 * (a - roundDiv a b * b).natAbs ≤ b ∧
      (2 * (a - roundDiv a b * b).natAbs = b → a.natAbs < (roundDiv a b).natAbs * b) := by
  rcases le_or_gt 0 a with ha | ha
  · exact roundDiv_nearest_of_nonneg ha hb
  · have hpos := roundDiv_nearest_of_nonneg (a := -a) (by omega) hb
    have hneg : roundDiv a b = -roundDiv (-a) b := by
      rw [← roundDiv_neg b (by omega : 0 < -a), neg_neg]
    have hdist : (a - roundDiv a b * b).natAbs = (-a - roundDiv (-a) b * b).natAbs := by
      rw [hneg, ← Int.natAbs_neg]; congr 1; ring
    have hmag : (roundDiv a b).natAbs = (roundDiv (-a) b).natAbs := by rw [hneg, Int.natAbs_neg]
    rwa [hdist, hmag, ← Int.natAbs_neg a]

/-! ### Two's complement (R6) -/

/-- A width of at least one bit: its range is twice that of the bits below the sign. -/
theorem two_pow_eq_double {w : Nat} (hw : 1 ≤ w) : 2 ^ w = 2 * 2 ^ (w - 1) := by
  rw [← pow_succ', Nat.sub_add_cancel hw]

theorem ofSigned_lt (w : Nat) (x : Int) : ofSigned w x < 2 ^ w := by
  have hpos : (0 : Int) < 2 ^ w := by positivity
  have hlo := Int.emod_nonneg x hpos.ne'
  have hhi := Int.emod_lt_of_pos x hpos
  have hcast : ((2 ^ w : Nat) : Int) = 2 ^ w := by norm_cast
  unfold ofSigned
  omega

theorem ofSigned_of_nonneg {w : Nat} {x : Int} (h0 : 0 ≤ x) (hx : x < 2 ^ w) : (ofSigned w x : Int) = x := by
  unfold ofSigned
  rw [Int.emod_eq_of_lt h0 hx, Int.toNat_of_nonneg h0]

theorem ofSigned_of_neg {w : Nat} {x : Int} (hx : x < 0) (hlo : -2 ^ w ≤ x) : (ofSigned w x : Int) = x + 2 ^ w := by
  unfold ofSigned
  rw [← Int.add_emod_right, Int.emod_eq_of_lt (by omega) (by omega), Int.toNat_of_nonneg (by omega)]

/-- A value of the signed range is read back as it was written. -/
theorem toSigned_ofSigned {w : Nat} {x : Int} (hw : 1 ≤ w) (hlo : -2 ^ (w - 1) ≤ x) (hhi : x < 2 ^ (w - 1)) :
    toSigned w (ofSigned w x) = x := by
  have hdouble : (2 : Int) ^ w = 2 * 2 ^ (w - 1) := by exact_mod_cast two_pow_eq_double hw
  have hcast : ((2 ^ (w - 1) : Nat) : Int) = 2 ^ (w - 1) := by norm_cast
  unfold toSigned
  rcases le_or_gt 0 x with h0 | h0
  · have hn := ofSigned_of_nonneg (w := w) h0 (by omega)
    rw [if_pos (by omega), hn]
  · have hn := ofSigned_of_neg (w := w) h0 (by omega)
    rw [if_neg (by omega), hn]
    ring

/-- A pattern is written again as it was read. -/
theorem ofSigned_toSigned {w n : Nat} (hn : n < 2 ^ w) : ofSigned w (toSigned w n) = n := by
  have hcast : ((2 ^ w : Nat) : Int) = 2 ^ w := by norm_cast
  unfold toSigned
  split
  · exact_mod_cast ofSigned_of_nonneg (w := w) (Int.natCast_nonneg n) (by omega)
  · have := ofSigned_of_neg (w := w) (x := (n : Int) - 2 ^ w) (by omega) (by omega)
    omega

/-! ### Saturation (R5, R6) -/

theorem clampI_bounds {lo hi : Int} (h : lo ≤ hi) (x : Int) : lo ≤ clampI lo hi x ∧ clampI lo hi x ≤ hi :=
  ⟨le_max_left _ _, max_le h (min_le_left _ _)⟩

theorem clampI_eq_self {lo hi x : Int} (hlo : lo ≤ x) (hhi : x ≤ hi) : clampI lo hi x = x := by
  unfold clampI
  rw [min_eq_right hhi, max_eq_right hlo]

theorem clampI_below {lo hi x : Int} (hx : x < lo) : clampI lo hi x = lo := by
  unfold clampI
  exact max_eq_left ((min_le_right _ _).trans hx.le)

theorem clampI_above {lo hi x : Int} (h : lo ≤ hi) (hx : hi < x) : clampI lo hi x = hi := by
  unfold clampI
  rw [min_eq_left hx.le, max_eq_right h]

/-- Saturation to an unsigned format keeps the clamped value. -/
theorem satU_cast {w : Nat} (x : Int) (hw : 2 ≤ w) : (satU w x : Int) = clampI 0 (2 ^ w - 2) x :=
  Int.toNat_of_nonneg (clampI_bounds (by have := Nat.pow_le_pow_right (n := 2) two_pos hw; zify at this; omega) x).1

/-- An unsigned format holds what fits, else the nearest of 0 and one step below its marker. -/
theorem satU_spec {w : Nat} (x : Int) (hw : 2 ≤ w) :
    satU w x ≠ markU w ∧ satU w x ≤ 2 ^ w - 2 ∧ (0 ≤ x → x ≤ 2 ^ w - 2 → (satU w x : Int) = x) ∧
      (x < 0 → satU w x = 0) ∧ ((2 : Int) ^ w - 2 < x → satU w x = 2 ^ w - 2) := by
  have hbig : 2 ^ 2 ≤ 2 ^ w := Nat.pow_le_pow_right two_pos hw
  have hcast : ((2 ^ w : Nat) : Int) = 2 ^ w := by norm_cast
  have hrange : (0 : Int) ≤ 2 ^ w - 2 := by omega
  have hval := satU_cast x hw
  have hle := (clampI_bounds hrange x).2
  refine ⟨by unfold markU; omega, by omega, fun h0 h1 => ?_, fun h => ?_, fun h => ?_⟩
  · rw [hval, clampI_eq_self h0 h1]
  · rw [clampI_below h] at hval; omega
  · rw [clampI_above hrange h] at hval; omega

/-- A signed format reads back the clamped value. -/
theorem toSigned_satS {w : Nat} (x : Int) (hw : 2 ≤ w) :
    toSigned w (satS w x) = clampI (1 - 2 ^ (w - 1)) (2 ^ (w - 1) - 1) x := by
  have hpos : (0 : Int) < 2 ^ (w - 1) := by positivity
  obtain ⟨hlo, hhi⟩ := clampI_bounds (show (1 : Int) - 2 ^ (w - 1) ≤ 2 ^ (w - 1) - 1 by omega) x
  exact toSigned_ofSigned (by omega) (by omega) (by omega)

/-- The marker of a signed format reads as the value that saturation keeps off. -/
theorem toSigned_markS {w : Nat} (hw : 1 ≤ w) : toSigned w (markS w) = -2 ^ (w - 1) := by
  have hdouble : (2 : Int) ^ w = 2 * 2 ^ (w - 1) := by exact_mod_cast two_pow_eq_double hw
  unfold toSigned markS
  rw [if_neg (lt_irrefl _), hdouble]
  push_cast
  ring

/-- A signed format holds what fits, else the nearer end one step off its marker. -/
theorem satS_spec {w : Nat} (x : Int) (hw : 2 ≤ w) :
    satS w x ≠ markS w ∧ (1 - 2 ^ (w - 1) ≤ x → x ≤ 2 ^ (w - 1) - 1 → toSigned w (satS w x) = x) ∧
      (x < 1 - 2 ^ (w - 1) → toSigned w (satS w x) = 1 - 2 ^ (w - 1)) ∧
      ((2 : Int) ^ (w - 1) - 1 < x → toSigned w (satS w x) = 2 ^ (w - 1) - 1) := by
  have hpos : (0 : Int) < 2 ^ (w - 1) := by positivity
  have hrange : (1 : Int) - 2 ^ (w - 1) ≤ 2 ^ (w - 1) - 1 := by omega
  rw [toSigned_satS x hw]
  refine ⟨fun hmark => ?_, clampI_eq_self, clampI_below, clampI_above hrange⟩
  have hread := toSigned_satS x hw
  rw [hmark, toSigned_markS (by omega)] at hread
  have := (clampI_bounds hrange x).1
  omega

/-- Settles O60: each clause is the rule of its format, for every width. -/
theorem valuesRoundAndKeepOffMarkers : Obligations.ValuesRoundAndKeepOffMarkers := by
  unfold Obligations.ValuesRoundAndKeepOffMarkers
  exact ⟨fun a _ hb => roundDiv_nearest a hb, fun _ x hw => satU_spec x hw, fun _ x hw => satS_spec x hw,
    fun w x hw hlo hhi => ⟨toSigned_ofSigned hw hlo hhi, ofSigned_lt w x⟩, fun _ _ _ hn => ofSigned_toSigned hn⟩

end Sys2Proof
end

section
/-! PROOFS. What leaves the ring of segment cards as it is: a frame over registers, cards and causes, and that the entry into LOCKOUT
with everything it stops keeps the frame. -/

namespace Sys2Proof.Machine

-- One proof after another: a thread for each would not fit the memory of the check.
set_option Elab.async false

/-! ### The frame -/

/-- A card without its shadow dwell and its calibration check, which an abort from outside may end (R44, R103). -/
def Seg.core (x : Seg) : Seg := { x with shadow := none, cal := none }

/-- `t` comes from `s` with every register in `P`, every card but for an aborted dwell, and every latched cause kept. -/
structure State.KeptOn (P : Nat → Bool) (s t : State) : Prop where
  regs : ∀ f : Field, P f.key = true → t.rd f = s.rd f
  cards : ∀ k, (t.segOf k).core = (s.segOf k).core
  causes : ∀ c, s.hasCause c = true → t.hasCause c = true

/-- The registers in which a join or a loss shows: those of the cards and the ring, without the event counters and the tone, the slots
of the variant, the islands, the reset cause and the announced withdrawal. -/
def ringKey (q : Nat) : Bool :=
  (decide (0x40000 * 32 ≤ q) && decide (q < 0x40014 * 32)) || (decide (0x40030 * 32 ≤ q) && decide (q < 0x40050 * 32)) ||
  (decide (0x40100 * 32 ≤ q) && decide (q < 0x40500 * 32)) ||
  q == F.SYS_ID_SEG_FITTED.key || q == F.PWR_SEG_ON_ISLAND.key || q == F.PWR_RESET_CAUSE_KIND.key || q == F.SAFE_WITHDRAW_SLOT.key

/-- `t` comes from `s` by what leaves the ring alone. -/
abbrev State.RingKept (s t : State) : Prop := State.KeptOn ringKey s t

/-- Nothing of the ring shows beyond the safety card's registers. -/
theorem ringKey_of_addr {f : Field} (h : 0x90040 ≤ f.addr) : ringKey f.key = false := by
  rw [Bool.eq_false_iff]
  intro hk
  simp only [ringKey, Bool.or_eq_true, Bool.and_eq_true, decide_eq_true_eq, beq_iff_eq] at hk
  simp only [Field.key, F.SYS_ID_SEG_FITTED, F.PWR_SEG_ON_ISLAND, F.PWR_RESET_CAUSE_KIND, F.SAFE_WITHDRAW_SLOT] at hk
  omega

namespace State.KeptOn

variable {P : Nat → Bool} {s t u : State}

theorem refl (s : State) : KeptOn P s s := ⟨fun _ _ => rfl, fun _ => rfl, fun _ h => h⟩

theorem trans (h : KeptOn P s t) (k : KeptOn P t u) : KeptOn P s u :=
  ⟨fun f hf => (k.regs f hf).trans (h.regs f hf), fun n => (k.cards n).trans (h.cards n), fun c hc => k.causes c (h.causes c hc)⟩

theorem mono {Q : Nat → Bool} (h : KeptOn P s t) (hQ : ∀ q, Q q = true → P q = true) : KeptOn Q s t :=
  ⟨fun f hf => h.regs f (hQ _ hf), h.cards, h.causes⟩

/-- A step that touches neither registers nor cards nor causes. -/
theorem of_eq (hr : t.regs = s.regs := by rfl) (hs : t.seg.segs = s.seg.segs := by rfl)
    (hc : t.safe.causes = s.safe.causes := by rfl) : KeptOn P s t := by
  refine ⟨fun f _ => ?_, fun k => ?_, fun c h => ?_⟩
  · unfold State.rd; rw [hr]
  · unfold State.segOf; rw [hs]
  · unfold State.hasCause at *; rwa [hc]

theorem ite {c : Prop} [Decidable c] (ht : KeptOn P s t) (hu : KeptOn P s u) : KeptOn P s (if c then t else u) := by
  split
  · exact ht
  · exact hu

theorem foldl {β : Type} (f : State → β → State) (l : List β) (h : ∀ s, ∀ b ∈ l, KeptOn P s (f s b)) (s : State) :
    KeptOn P s (l.foldl f s) := by
  induction l generalizing s with
  | nil => exact refl s
  | cons b l ih =>
    exact (h s b List.mem_cons_self).trans (ih (fun s c hc => h s c (List.mem_cons_of_mem b hc)) _)

theorem wr (s : State) {f : Field} (v : Nat) (hf : P f.key = false) : KeptOn P s (s.wr f v) :=
  ⟨fun g hg => State.rd_wr_ne s f g v (fun e => by rw [e, hf] at hg; cases hg), fun _ => rfl, fun _ h => h⟩

theorem wrs (s : State) (l : List (Field × Nat)) (hl : ∀ p ∈ l, P p.1.key = false) : KeptOn P s (s.wrs l) := by
  induction l generalizing s with
  | nil => exact refl s
  | cons p l ih => exact (wr s p.2 (hl p List.mem_cons_self)).trans (ih _ fun q hq => hl q (List.mem_cons_of_mem p hq))

theorem of_quiet (q : s.Quiet t) (hP : ∀ k ∈ answerKeys, P k = false) : KeptOn P s t := by
  have hrest : t = { s with regs := t.regs, recorder := t.recorder, hrt := t.hrt } := q.rest
  refine ⟨fun f hf => q.regs f fun hm => ?_, fun k => ?_, fun c h => ?_⟩
  · rw [hP _ hm] at hf; cases hf
  · rw [hrest]; rfl
  · rw [hrest]; exact h

theorem modSeg (s : State) (k : Nat) {g : Seg → Seg} (hg : ∀ x, (g x).core = x.core) : KeptOn P s (s.modSeg k g) := by
  refine ⟨fun _ _ => rfl, fun q => ?_, fun _ h => h⟩
  rcases eq_or_ne q k with rfl | hq
  · unfold State.modSeg; rw [State.segOf_setSeg]; exact hg _
  · unfold State.modSeg; rw [State.segOf_setSeg_ne _ _ _ _ hq]

end State.KeptOn

/-! ### Writes, records, flags and completions -/

theorem State.wr_kept (s : State) (f : Field) (v : Nat) (hf : ringKey f.key = false := by decide) : s.RingKept (s.wr f v) := .wr s v hf

theorem State.wrB_kept (s : State) (f : Field) (b : Bool) (hf : ringKey f.key = false := by decide) : s.RingKept (s.wrB f b) := .wr s _ hf

theorem State.wrKeep_kept (s : State) (f : Field) (v : Nat) (hf : ringKey f.key = false := by decide) : s.RingKept (s.wrKeep f v) :=
  (s.wr_kept f v hf).trans .of_eq

/-- Writes to registers of which none shows the ring, as a check that evaluates. -/
theorem State.wrs_kept (s : State) (l : List (Field × Nat))
    (hl : (l.all fun p => !ringKey p.1.key) = true := by simp only [List.all_cons, List.all_nil]; decide) :
    s.RingKept (s.wrs l) :=
  .wrs s l fun p hp => by simpa using List.all_eq_true.1 hl p hp

theorem State.wrs_kept_of_addr (s : State) (l : List (Field × Nat)) (hl : ∀ p ∈ l, 0x90040 ≤ p.1.addr) : s.RingKept (s.wrs l) :=
  .wrs s l fun p hp => ringKey_of_addr (hl p hp)

theorem State.Quiet.kept {s t : State} (q : s.Quiet t) : s.RingKept t := .of_quiet q (by decide)

theorem State.post_kept (s : State) (r : Rec) : s.RingKept (s.post r) := (s.quiet_post r).kept

theorem State.detail_kept (s : State) (sys : Bool) (d : List Byte) (st : Status) (p m : Bool) : s.RingKept (s.detail sys d st p m) :=
  s.post_kept _

theorem State.sparing_kept (s : State) (pool action replaced taken : Nat) (m : Bool) :
    s.RingKept (s.sparing pool action replaced taken m) := s.post_kept _

/-- A flag is its bit set; its counter, record and event leave the ring alone. -/
theorem State.flag_kept_set (s : State) (fl : Flag) (n : Note) (hc : ringKey fl.cnt.key = false := by decide) :
    (s.wr fl.bit 1).RingKept (s.flag fl n) :=
  ((State.wr_kept _ fl.cnt _ hc).trans (State.post_kept _ _)).trans .of_eq

theorem State.flag_kept (s : State) (fl : Flag) (n : Note) (hb : ringKey fl.bit.key = false := by decide)
    (hc : ringKey fl.cnt.key = false := by decide) : s.RingKept (s.flag fl n) :=
  (s.wr_kept fl.bit 1 hb).trans (s.flag_kept_set fl n hc)

theorem State.flagN_kept (s : State) (fl : Flag) (n : Nat) (hb : ringKey fl.bit.key = false := by decide)
    (hc : ringKey fl.cnt.key = false := by decide) : s.RingKept (s.flagN fl n) :=
  .ite (.refl s) ((s.flag_kept fl {} hb hc).trans (State.wr_kept _ _ _ hc))

theorem State.finish_kept (s : State) (op key : Nat) (st : Status) (res : List Int) : s.RingKept (s.finish op key st res) := by
  unfold State.finish
  split
  · exact .refl s
  · exact .trans .of_eq (State.quiet_complete _ _ _ _ _ _ _).kept

/-! ### UNDERCOAT's records -/

theorem State.exhaust_kept (s : State) (pool res : Nat) : s.RingKept (s.exhaust pool res) := by
  unfold State.exhaust
  split
  · exact .refl s
  · refine .trans ?_ ((State.flag_kept _ _ _).trans (State.sparing_kept _ _ _ _ _ _))
    exact .ite .of_eq (.trans .of_eq (State.wr_kept _ _ _))

theorem State.unspend_kept (s : State) (pool res : Nat) : s.RingKept (s.unspend pool res) :=
  .ite (.trans .of_eq (State.wr_kept _ _ _)) .of_eq

theorem State.spareTook_kept (s : State) (pool replaced taken : Nat) : s.RingKept (s.spareTook pool replaced taken) :=
  (s.flag_kept _ _).trans (State.sparing_kept _ _ _ _ _ _)

theorem State.restorePool_kept (s : State) (pool res : Nat) : s.RingKept (s.restorePool pool res) :=
  (s.unspend_kept pool 0).trans (State.sparing_kept _ _ _ _ _ _)

/-! ### Contactors, insulation monitor and power -/

theorem State.isoRole_kept (s : State) : s.RingKept s.isoRole := by
  refine .trans (t := if !s.isoMay then _ else _) ?_ (State.wr_kept _ _ _)
  exact .ite .of_eq (.ite (.refl s) .of_eq)

theorem State.isoReport_kept (s : State) : s.RingKept s.isoReport := by
  unfold State.isoReport
  split
  · exact .ite (s.wrs_kept _) (s.wrs_kept _)
  · exact s.wrs_kept _

theorem State.isoString_kept (s : State) : s.RingKept s.isoString := by
  refine .ite (.trans .of_eq (State.isoRole_kept _)) (.trans ?_ (State.isoRole_kept _))
  have h : s.RingKept (({ s with cim.candidate := false } : State).wr F.CIM_ISO_STATUS_ROLE 2) :=
    .trans .of_eq (State.wr_kept _ _ _)
  exact .ite h (h.trans (State.isoReport_kept _))

theorem State.mirrorSwitches_kept (s : State) : s.RingKept s.mirrorSwitches := by
  unfold State.mirrorSwitches
  extract_lets _ hs ls open_ s1
  have h : s.RingKept s1 := ((s.wrB_kept F.SAFE_STATUS_SS_A _).trans (State.wrB_kept _ F.SAFE_STATUS_SS_B _)).trans (State.wrB_kept _ _ _)
  exact .ite (h.trans (State.isoString_kept _)) h

theorem State.allOff_kept (s : State) : s.RingKept s.allOff := (s.wr_kept _ _).trans (State.mirrorSwitches_kept _)

theorem State.setX19_kept (s : State) : s.RingKept s.setX19 := s.wrB_kept _ _

theorem State.setFloor_kept (s : State) : s.RingKept s.setFloor := s.wr_kept _ _

theorem State.setReady_kept (s : State) : s.RingKept s.setReady := s.wr_kept _ _

theorem State.gateTone_kept (s : State) : s.RingKept s.gateTone := .ite (.refl s) (s.wrB_kept _ _)

theorem State.motSave_kept (s : State) : s.RingKept s.motSave := State.KeptOn.foldl _ _ (fun _ _ _ => .of_eq) s

/-- A power state other than P4 leaves the islands on. -/
theorem State.enterPower_kept (s : State) {p : Nat} (hp : p ≠ 4) : s.RingKept (s.enterPower p) := by
  unfold State.enterPower
  extract_lets on off s0 s1
  rw [if_neg hp]
  have h0 : s.RingKept s0 := .ite s.motSave_kept (.refl s)
  exact ((h0.trans (State.wr_kept _ _ _)).trans (State.wr_kept _ _ _)).trans (State.isoRole_kept _)

/-! ### Balancing -/

theorem State.pathsOff_kept (s : State) (k : Nat) : s.RingKept (s.pathsOff k) := .of_eq

theorem State.allPathsOff_kept (s : State) : s.RingKept s.allPathsOff := State.KeptOn.foldl _ _ (fun s k _ => s.pathsOff_kept k) s

theorem State.zeroDuties_kept (s : State) : s.RingKept s.zeroDuties :=
  .trans .of_eq (State.KeptOn.foldl _ _ (fun _ _ _ => .of_eq) _)

theorem State.endCampaign_kept (s : State) (st : Status) : s.RingKept (s.endCampaign st) := by
  unfold State.endCampaign
  split
  · exact .refl s
  · refine .trans (.trans (.trans ?_ (State.flag_kept _ _ _)) (State.finish_kept _ _ _ _ _)) (State.setFloor_kept _)
    exact (s.zeroDuties_kept.trans .of_eq).trans (State.wrs_kept _ _)

theorem State.autoCampaign_kept (s : State) : s.RingKept s.autoCampaign :=
  .ite (.trans (.trans .of_eq (State.wrs_kept _ _)) (State.setFloor_kept _)) (.refl s)

/-! ### Dispatch -/

theorem State.setPend_kept (s : State) (c n : Nat) (on : Bool) : s.RingKept (s.setPend c n on) := by
  refine .trans (s.wrB_kept _ on (ringKey_of_addr ?_)) (State.wr_kept _ _ _ (ringKey_of_addr ?_))
  · show 0x90040 ≤ 0xc1000 + 32768 * c + 128 * n; omega
  · split
    · show 0x90040 ≤ 0xc0044 + 32768 * c; omega
    · show 0x90040 ≤ 0xc0048 + 32768 * c; omega

theorem State.canTxEnd_kept (s : State) (c n : Nat) (st : Status) : s.RingKept (s.canTxEnd c n st) := by
  refine .trans (.trans ((s.setPend_kept c n false).trans (State.wrs_kept_of_addr _ _ ?_)) .of_eq) (State.finish_kept _ _ _ _ _)
  simp [F.CAN_MB_CTRL_STATUS, F.CAN_MB_CTRL_REQ, F.CAN_MB_CTRL_CANCEL, F.CAN_MB_CTRL_ATTEMPTS]
  omega

theorem State.canRequest_kept (s : State) (c n : Nat) : s.RingKept (s.canRequest c n) := by
  have hreq : ∀ v w, s.RingKept (s.wrs [(F.CAN_MB_CTRL_REQ c n, v), (F.CAN_MB_CTRL_CANCEL_LATE c n, w)]) := fun v w =>
    s.wrs_kept_of_addr _ (by simp [F.CAN_MB_CTRL_REQ, F.CAN_MB_CTRL_CANCEL_LATE]; omega)
  have hst : ∀ v, s.RingKept (s.wr (F.CAN_MB_CTRL_STATUS c n) v) := fun v =>
    s.wr_kept _ v (ringKey_of_addr (by show 0x90040 ≤ 0xc1000 + 32768 * c + 128 * n; omega))
  refine .ite (.refl s) (.ite (hst _) (.ite (hreq 1 0) ((hreq 1 0).trans ?_)))
  exact .ite (State.setPend_kept _ _ _ _) (State.canTxEnd_kept _ _ _ _)

theorem State.canEnd_kept (s : State) (c n : Nat) (st : Status) : s.RingKept (s.canEnd c n st) :=
  .ite (.trans ((s.canTxEnd_kept c n st).trans .of_eq) (State.canRequest_kept _ c n)) (s.canTxEnd_kept c n st)

theorem State.canData_kept (s : State) (c n : Nat) (bs : List Byte) : s.RingKept (s.canData c n bs) :=
  State.KeptOn.foldl _ _ (fun s w _ => s.wr_kept _ _ (ringKey_of_addr (by show 0x90040 ≤ 0xc1014 + 32768 * c + 128 * n + 4 * w; omega))) s

theorem State.canSend_kept (s : State) (n id : Nat) (ide fdf : Bool) (bs : List Byte) : s.RingKept (s.canSend n id ide fdf bs) := by
  refine .ite (.refl s) (.trans (.trans (State.wrs_kept_of_addr _ _ ?_) (State.canData_kept _ _ _ _)) (State.canRequest_kept _ _ _))
  simp [F.CAN_MB_CTRL_DIR, F.CAN_MB_CTRL_TIMED, F.CAN_MB_ID_ID, F.CAN_MB_ID_IDE, F.CAN_MB_ID_RTR, F.CAN_MB_FMT_DLC, F.CAN_MB_FMT_FDF,
    F.CAN_MB_FMT_BRS, F.CAN_MB_FMT_RETRY]
  omega

theorem State.dspSend_kept (s : State) (n : Nat) (bank : Bool) (offset index flags : Nat) (body : List Byte) :
    s.RingKept (s.dspSend n bank offset index flags body) :=
  .ite (.trans .of_eq (State.canSend_kept _ _ _ _ _ _)) (.refl s)

theorem State.setpointLoad_kept (s : State) : s.RingKept s.setpointLoad := by
  unfold State.setpointLoad
  split
  · exact .refl s
  · exact s.dspSend_kept _ _ _ _ _ _

theorem State.scheduleEnd_kept (s : State) (st : Status) : s.RingKept (s.scheduleEnd st) := by
  unfold State.scheduleEnd
  split
  · exact .refl s
  · exact .trans (.trans .of_eq (State.wr_kept _ _ _)) (State.finish_kept _ _ _ _ _)

theorem State.startingEnd_kept (s : State) (st : Status) : s.RingKept (s.startingEnd st) := by
  unfold State.startingEnd
  split
  · exact .refl s
  · exact .trans (.ite .of_eq (.trans .of_eq (State.wr_kept _ _ _))) (State.finish_kept _ _ _ _ _)

theorem State.entriesDrop_kept (s : State) : s.RingKept s.entriesDrop := by
  unfold State.entriesDrop
  extract_lets keep n first s1 _ s2
  have h1 : s.RingKept s1 := .ite (s.canEnd_kept _ _ _) (.refl s)
  have h2 : s.RingKept s2 := h1.trans (.trans .of_eq (State.flagN_kept _ _ _))
  exact .ite (.refl s) (.ite (h2.trans (State.setpointLoad_kept _)) h2)

theorem State.scheduleLeave_kept (s : State) : s.RingKept s.scheduleLeave :=
  ((s.scheduleEnd_kept _).trans (State.startingEnd_kept _ _)).trans (State.entriesDrop_kept _)

theorem State.genStop_kept (s : State) (st : Status) : s.RingKept (s.genStop st) :=
  .trans (.trans .of_eq (State.wrs_kept _ _)) (State.finish_kept _ _ _ _ _)

theorem State.genStopAsk_kept (s : State) : s.RingKept s.genStopAsk := .ite .of_eq (s.genStop_kept _)

theorem State.corrAbort_kept (s : State) : s.RingKept s.corrAbort :=
  .ite (.trans (.trans .of_eq (State.wr_kept _ _ _)) (State.finish_kept _ _ _ _ _)) (.refl s)

theorem State.perturbStop_kept (s : State) : s.RingKept s.perturbStop := by
  unfold State.perturbStop
  split
  · exact .refl s
  · next p _ =>
    extract_lets idx _ s1 s2
    have h1 : s.RingKept s1 := .trans .of_eq (State.dspSend_kept _ _ _ _ _ _ _)
    have h2 : s1.RingKept s2 := .ite ((State.wr_kept _ _ _).trans (State.genStopAsk_kept _)) (.refl s1)
    exact ((h1.trans h2).trans (State.corrAbort_kept _)).trans (State.finish_kept _ _ _ _ _)

/-! ### Motion and thermal management -/

theorem State.axStop_kept (s : State) (x : Nat) (e : Bool) (cause : Nat) : s.RingKept (s.axStop x e cause) :=
  have hw : ringKey (F.MOT_STATE_STATE x).key = false := ringKey_of_addr (by show 0x90040 ≤ 0xb014c + 256 * x; omega)
  .ite (.refl s) (.ite (.refl s) (.trans (s.wr_kept _ _ hw) .of_eq))

theorem State.seLoadFw_kept (s : State) {k : Nat} (q : SeKernel) (l : List SeInst) (hk : ringKey (F.SE_KSTAT_SHADOW k).key = false) :
    s.RingKept (s.seLoadFw k q l) :=
  .ite (.trans .of_eq (State.wr_kept _ _ _ hk)) (.refl s)

theorem State.loadLoop_kept (s : State) : s.RingKept s.loadLoop := s.seLoadFw_kept _ _ rfl

theorem State.seDisable_kept (s : State) (k : Nat) : s.RingKept (s.seDisable k) :=
  .ite (.trans .of_eq (State.finish_kept _ _ _ _ _)) .of_eq

theorem State.thmMode_kept (s : State) : s.RingKept s.thmMode := by
  unfold State.thmMode
  refine .ite ?_ ?_
  · extract_lets s1
    have h1 : s.RingKept s1 := .ite (.refl s) (s.seLoadFw_kept _ _ rfl)
    exact .ite h1 (h1.trans (State.loadLoop_kept _))
  · extract_lets s1
    have h1 : s.RingKept s1 := .ite (s.seDisable_kept 1) (.refl s)
    exact .ite (h1.trans (State.seDisable_kept _ _)) h1

theorem State.tuneEnd_kept (s : State) (st : Status) (res : List Int) : s.RingKept (s.tuneEnd st res) := by
  unfold State.tuneEnd
  split
  · exact .refl s
  · extract_lets _ s1 s2
    have h1 : s.RingKept s1 := .trans (.trans .of_eq (State.genStop_kept _ _)) (State.wrs_kept _ _)
    have h2 : s1.RingKept s2 := .ite (State.loadLoop_kept _) (.refl s1)
    exact ((h1.trans h2).trans (State.flag_kept _ _ _)).trans (State.finish_kept _ _ _ _ _)

theorem State.motSendFrac_kept (s : State) (x p : Nat) : s.RingKept (s.motSendFrac x p) := .ite (.refl s) .of_eq

theorem State.sendValve_kept (s : State) (p db : Nat) : s.RingKept (s.sendValve p db) :=
  .ite (.refl s) (.trans ((s.motSendFrac_kept 0 p).trans .of_eq) (State.wr_kept _ _ _))

theorem State.sendDamper_kept (s : State) (p : Nat) : s.RingKept (s.sendDamper p) :=
  .ite (.refl s) (.trans ((s.motSendFrac_kept 1 p).trans .of_eq) (State.wr_kept _ _ _))

theorem State.thmDrive_kept (s0 : State) : s0.RingKept s0.thmDrive := by
  unfold State.thmDrive
  extract_lets forced s vo dow unavail loop s1 s2 s3 s4 s5
  have h0 : s0.RingKept s := .ite (s0.tuneEnd_kept _ _) (.refl s0)
  have h1 : s.RingKept s1 := s.wrs_kept _
  have h2 : s1.RingKept s2 := .ite (State.flag_kept _ _ _) (.refl s1)
  have h4 : s2.RingKept s4 := .trans (State.wrB_kept _ F.THM_STATUS_VALVE_UNAVAIL _) (.ite (State.wr_kept _ _ _) (.refl s3))
  have h5 : s4.RingKept s5 :=
    .ite (s4.sendValve_kept _ _) (.ite (.refl s4) (.ite (s4.sendValve_kept _ _) (.ite (s4.sendValve_kept _ _)
      (.ite (s4.sendValve_kept _ _) (s4.sendValve_kept _ _)))))
  refine (((h0.trans h1).trans h2).trans h4).trans (h5.trans ?_)
  exact .ite (s5.sendDamper_kept _) (.ite (s5.sendDamper_kept _) (.ite (s5.sendDamper_kept _) (s5.sendDamper_kept _)))

theorem State.thmNewMode_kept (s : State) : s.RingKept s.thmNewMode :=
  ((s.tuneEnd_kept _ _).trans (State.thmMode_kept _)).trans (State.thmDrive_kept _)

/-! ### The mode transition (R40, R44) -/

theorem State.stopOp_kept (s : State) (o : Op) : s.RingKept (s.stopOp o) := by
  unfold State.stopOp
  split
  · exact .modSeg s _ fun _ => rfl
  · exact s.endCampaign_kept _
  · exact .of_eq
  · exact s.wrKeep_kept _ _
  · exact .of_eq
  · exact .ite (s.scheduleEnd_kept _) (s.startingEnd_kept _)
  · exact s.perturbStop_kept
  · extract_lets _ s1
    have h1 : s.RingKept s1 := .of_eq
    exact ((h1.trans (State.axStop_kept _ _ _ _)).trans (State.finish_kept _ _ _ _ _)).trans .of_eq
  · extract_lets _ s1
    have h1 : s.RingKept s1 := .of_eq
    have hw : ringKey (F.MOT_STATE_HOMED o.key).key = false := ringKey_of_addr (by show 0x90040 ≤ 0xb014c + 256 * o.key; omega)
    exact .trans (.ite ((h1.trans (State.axStop_kept _ _ _ _)).trans (State.wr_kept _ _ _ hw)) h1) .of_eq
  · exact .trans .of_eq (State.wrs_kept _ _)
  · exact .of_eq
  · exact .of_eq
  · exact s.genStop_kept _
  · exact s.wr_kept _ _
  · exact s.wr_kept _ _
  · exact .refl s

theorem State.abortIllegal_kept (s : State) (mode : Nat) : s.RingKept (s.abortIllegal mode) :=
  State.KeptOn.foldl _ _ (fun s o _ => (s.stopOp_kept o).trans (State.finish_kept _ _ _ _ _)) s

theorem State.modeFollow_kept (s : State) (new : Nat) : s.RingKept (s.modeFollow new) := by
  unfold State.modeFollow
  extract_lets s1 s2
  have h1 : s.RingKept s1 :=
    .ite ((s.endCampaign_kept _).trans (State.allPathsOff_kept _)) (.ite s.autoCampaign_kept (.refl s))
  have h2 : s1.RingKept s2 := .ite (.refl s1) (s1.scheduleLeave_kept.trans (State.perturbStop_kept _))
  exact (h1.trans h2).trans (State.thmNewMode_kept _)

theorem State.setServiceLimit_kept (s : State) : s.RingKept s.setServiceLimit :=
  .ite ((s.wrB_kept F.SAFE_STATUS_SERVICE_LIMIT _).trans .of_eq) (s.wrB_kept F.SAFE_STATUS_SERVICE_LIMIT _)

theorem State.setMode_kept (s : State) (new cause : Nat) : s.RingKept (s.setMode new cause) := by
  unfold State.setMode
  extract_lets old s1 s2 _ s3 _ s4 s5 s6
  have h2 : s.RingKept s2 := (s.wrs_kept _).trans (State.post_kept _ _)
  have h4 : s2.RingKept s4 := .trans (t := s3) .of_eq (.ite (.refl s3) .of_eq)
  have h5 : s4.RingKept s5 := ((s4.abortIllegal_kept new).trans (State.modeFollow_kept _ _)).trans (State.setServiceLimit_kept _)
  have h6 : s5.RingKept s6 := .ite (.refl s5) (s5.enterPower_kept (by decide))
  exact ((((h2.trans h4).trans h5).trans h6).trans (State.setFloor_kept _)).trans (State.setX19_kept _)

/-! ### The entry into LOCKOUT (R41, R268, R296) -/

/-- Adding a bit that is clear leaves the other bits as they are. -/
theorem add_two_pow_keeps_bit {n i j : Nat} (hi : n / 2 ^ i % 2 ≠ 1) (hj : n / 2 ^ j % 2 = 1) : (n + 2 ^ i) / 2 ^ j % 2 = 1 := by
  rcases lt_trichotomy j i with h | rfl | h
  · obtain ⟨d, rfl⟩ := Nat.exists_eq_add_of_lt h
    have hsplit : 2 ^ (j + d + 1) = 2 ^ j * (2 * 2 ^ d) := by ring
    rw [hsplit, Nat.add_mul_div_left _ _ (by positivity)]
    omega
  · exact absurd hj hi
  · obtain ⟨d, rfl⟩ := Nat.exists_eq_add_of_lt h
    have hsplit : 2 ^ (i + d + 1) = 2 ^ i * 2 * 2 ^ d := by ring
    rw [hsplit, ← Nat.div_div_eq_div_mul, ← Nat.div_div_eq_div_mul] at hj ⊢
    have hhalf : (n + 2 ^ i) / 2 ^ i / 2 = n / 2 ^ i / 2 := by
      rw [Nat.add_div_right _ (by positivity)]
      omega
    rwa [hhalf]

theorem add_two_pow_sets_bit {n i : Nat} (hi : n / 2 ^ i % 2 ≠ 1) : (n + 2 ^ i) / 2 ^ i % 2 = 1 := by
  rw [Nat.add_div_right _ (by positivity)]
  omega

theorem State.latchCause_causes (s : State) (c : Cause) (ch : Nat) :
    (s.latchCause c ch).safe.causes = if s.hasCause c then s.safe.causes else s.safe.causes + 2 ^ c.code := rfl

theorem State.latchCause_hasCause (s : State) (c : Cause) (ch : Nat) : (s.latchCause c ch).hasCause c = true := by
  unfold State.hasCause
  rw [State.latchCause_causes]
  split
  · next h => exact h
  · next h => exact beq_iff_eq.2 (add_two_pow_sets_bit (by simpa [State.hasCause] using h))

theorem State.latchCause_kept (s : State) (c : Cause) (ch : Nat) : s.RingKept (s.latchCause c ch) := by
  have h : ∀ u : State, u.regs = s.regs → u.seg = s.seg → (∀ d, s.hasCause d = true → u.hasCause d = true) → s.RingKept u.mirrorCauses :=
    fun u hr hs hc => .trans ⟨fun f _ => by unfold State.rd; rw [hr], fun k => by unfold State.segOf; rw [hs], hc⟩ (u.wrs_kept _)
  refine h _ rfl rfl fun d hd => ?_
  show ((if s.hasCause c then s.safe.causes else s.safe.causes + 2 ^ c.code) / 2 ^ d.code % 2 == 1) = true
  split
  · exact hd
  · next hc => exact beq_iff_eq.2 (add_two_pow_keeps_bit (by simpa [State.hasCause] using hc) (by simpa [State.hasCause] using hd))

theorem State.endClosing_kept (s : State) (r : Nat) : s.RingKept (s.endClosing r) :=
  .ite (.refl s) (.trans .of_eq (State.wrs_kept _ _))

theorem State.endWindow_kept (s : State) (st : Status) : s.RingKept (s.endWindow st) :=
  .trans (.trans .of_eq (State.wrs_kept _ _)) (State.finish_kept _ _ _ _ _)

theorem State.reactStart_kept (s : State) : s.RingKept s.reactStart := .ite .of_eq (.refl s)

/-- LOCKOUT latches its cause and leaves the ring alone. -/
theorem State.lockout_kept_latches (s : State) (c : Cause) (ch : Nat) : s.RingKept (s.lockout c ch) ∧ (s.lockout c ch).hasCause c = true := by
  unfold State.lockout
  extract_lets s0 s1 s2 s4 s3
  have h0 : s.RingKept s0.reactStart.allOff :=
    .trans (.ite (s.endWindow_kept _) (.refl s)) (s0.reactStart_kept.trans (State.allOff_kept _))
  have h2 : (s0.reactStart.allOff.latchCause c ch).RingKept s2 := (State.endClosing_kept _ _).trans (State.post_kept _ _)
  have h3 : s2.RingKept s3 :=
    .ite (.refl s2) (((s2.setMode_kept _ _).trans (State.finish_kept _ _ _ _ _)).trans (s4.wr_kept _ _))
  have hend : (s0.reactStart.allOff.latchCause c ch).RingKept
      (s3.wr F.SAFE_COUNT_DEMANDS (s3.rd F.SAFE_COUNT_DEMANDS + 1)).setX19 :=
    (h2.trans h3).trans ((State.wr_kept _ _ _).trans (State.setX19_kept _))
  exact ⟨(h0.trans (State.latchCause_kept _ _ _)).trans hend, hend.causes c (State.latchCause_hasCause _ _ _)⟩

theorem State.lockout_kept (s : State) (c : Cause) (ch : Nat) : s.RingKept (s.lockout c ch) := (s.lockout_kept_latches c ch).1

theorem State.raiseCause_kept (s : State) (c : Cause) (ch : Nat) : s.RingKept (s.raiseCause c ch) := by
  unfold State.raiseCause
  split
  · exact .ite (s.lockout_kept _ _) (s.wr_kept _ _)
  · exact .ite (s.lockout_kept _ _) (s.wr_kept _ _)
  · exact s.lockout_kept _ _

theorem State.toneLost_kept (s : State) : s.RingKept s.toneLost := by
  unfold State.toneLost
  extract_lets s2 s3 s4
  have h2 : s.RingKept s2 := (s.wr_kept _ _).trans (State.raiseCause_kept _ _ _)
  have h3 : s2.RingKept s3 := .ite (s2.raiseCause_kept _ _) (.refl s2)
  have h4 : s3.RingKept s4 := .ite (s3.raiseCause_kept _ _) (.refl s3)
  exact ((h2.trans h3).trans h4).trans (State.flag_kept _ _ _)

end Sys2Proof.Machine
end

section
/-! PROOFS. Joins, losses and the two directions of the ring (R72, R95–R101, R136): what each operation writes of the ring, as explicit
writes followed by a step that keeps the frame. -/

namespace Sys2Proof.Machine

-- One proof after another: a thread for each would not fit the memory of the check.
set_option Elab.async false

/-! ### Registers and slots -/

/-- The words of the cards, one row of them at each base, show the ring. -/
theorem ringKey_row {base lo w rst k : Nat} (hk : k ≤ 26) (hfrom : 0x40100 ≤ base := by decide) (hto : base ≤ 0x40400 := by decide)
    (hbit : lo < 32 := by decide) : ringKey (Field.key ⟨base + 4 * (k - 1), lo, w, rst⟩) = true := by
  simp only [ringKey, Bool.or_eq_true, Bool.and_eq_true, decide_eq_true_eq]
  simp only [Field.key]
  omega

theorem ringKey_segState {k : Nat} (hk : k ≤ 26) : ringKey (F.SEG_STATE_STATE k).key = true := ringKey_row hk
theorem ringKey_timingDir {k : Nat} (hk : k ≤ 26) : ringKey (F.SEG_STATE_TIMING_DIR k).key = true := ringKey_row hk
theorem ringKey_spareFailed {k : Nat} (hk : k ≤ 26) : ringKey (F.SEG_STATE_SPARE_FAILED k).key = true := ringKey_row hk
theorem ringKey_delayA {k : Nat} (hk : k ≤ 26) : ringKey (F.LATH_DELAY_DELAY_A k).key = true := ringKey_row hk
theorem ringKey_delayB {k : Nat} (hk : k ≤ 26) : ringKey (F.LATH_DELAY_DELAY_B k).key = true := ringKey_row hk
theorem ringKey_ovLatch {k : Nat} (hk : k ≤ 26) : ringKey (F.SEG_CMP_OV_LATCH k).key = true := ringKey_row hk
theorem ringKey_uvLatch {k : Nat} (hk : k ≤ 26) : ringKey (F.SEG_CMP_UV_LATCH k).key = true := ringKey_row hk

/-- Fields of different words have different keys. -/
theorem Field.key_ne_of_addr {f g : Field} (h : f.addr ≠ g.addr) (hf : f.lo < 32) (hg : g.lo < 32) : f.key ≠ g.key := by
  unfold Field.key
  omega

theorem mem_numbersFrom (a n k : Nat) : k ∈ numbersFrom a n ↔ a ≤ k ∧ k < a + n := by
  induction n generalizing a with
  | zero => simp [numbersFrom]
  | succ n ih =>
    rw [numbersFrom, List.mem_cons, ih]
    omega

theorem State.segOk_bounds {s : State} {k : Nat} (h : s.segOk k = true) : 1 ≤ k ∧ k ≤ 26 := by
  simp only [State.segOk, Bool.and_eq_true, decide_eq_true_eq] at h
  unfold State.segs at h
  omega

theorem State.mem_segList (s : State) (k : Nat) : k ∈ s.segList ↔ s.segOk k = true := by
  simp only [State.segList, mem_numbersFrom, State.segOk, Bool.and_eq_true, decide_eq_true_eq]
  omega

/-- A read after a write: the value written, or what was there. -/
theorem State.rd_wr (s : State) (f g : Field) (v : Nat) : (s.wr f v).rd g = if g.key = f.key then v % 2 ^ f.width else s.rd g := by
  split
  · next h => unfold State.rd; rw [State.wr_regs, h, Tbl.get_put_same]
  · next h => exact State.rd_wr_ne s f g v h

/-- Which slots are fitted hangs on one register. -/
theorem State.segOk_wr (s : State) {f : Field} (v k : Nat) (hf : F.SYS_ID_SEG_FITTED.key ≠ f.key) : (s.wr f v).segOk k = s.segOk k := by
  unfold State.segOk State.segs
  rw [State.rd_wr_ne _ _ _ _ hf]

/-- The same write before and after a kept step. -/
theorem State.KeptOn.wr_congr {P : Nat → Bool} {s t : State} (h : KeptOn P s t) (f : Field) (v : Nat) : KeptOn P (s.wr f v) (t.wr f v) :=
  ⟨fun g hg => by rw [State.rd_wr, State.rd_wr, h.regs g hg], h.cards, h.causes⟩

@[simp] theorem State.segOf_modSeg (s : State) (k : Nat) (g : Seg → Seg) : (s.modSeg k g).segOf k = g (s.segOf k) := State.segOf_setSeg _ _ _

/-! ### The state of a slot -/

theorem State.leaveLive_kept (s : State) (k : Nat) : s.RingKept (s.leaveLive k) := by
  have hcard : s.RingKept (s.modSeg k fun x => { x with shadow := none, cal := none }) := .modSeg s k fun _ => rfl
  exact ((hcard.trans (State.finish_kept _ _ _ _ _)).trans (State.finish_kept _ _ _ _ _)).trans (State.finish_kept _ _ _ _ _)

/-- A slot's new state is one write; the operations it ends and READY_BLOCK leave the ring alone. -/
theorem State.setSegState_kept (s : State) (k st : Nat) : (s.wr (F.SEG_STATE_STATE k) st).RingKept (s.setSegState k st) :=
  .trans (.ite (State.leaveLive_kept _ _) (.refl _)) (State.setReady_kept _)

/-- A slot's new state with its flag. -/
theorem State.setSegState_flag_kept (s : State) (k st : Nat) (fl : Flag) (n : Note) (hc : ringKey fl.cnt.key = false := by decide) :
    ((s.wr (F.SEG_STATE_STATE k) st).wr fl.bit 1).RingKept ((s.setSegState k st).flag fl n) :=
  ((s.setSegState_kept k st).wr_congr fl.bit 1).trans (State.flag_kept_set _ _ _ hc)

/-- ISOLATED after a reset of kind 5, as every reset of a card ends (R58). -/
theorem State.isolated_kept (s : State) (k : Nat) :
    ((s.wr (F.SEG_STATE_STATE k) segISOLATED).wr F.PWR_RESET_CAUSE_KIND 5).RingKept
      ((s.setSegState k segISOLATED).wrs [(F.PWR_RESET_CAUSE_KIND, 5), (F.PWR_RESET_CAUSE_DETAIL, 0)]) :=
  ((s.setSegState_kept k segISOLATED).wr_congr _ _).trans (State.wr_kept _ _ _)

theorem State.KeptOn.segState_of_wr {P : Nat → Bool} {s t : State} {k st : Nat} (h : KeptOn P (s.wr (F.SEG_STATE_STATE k) st) t)
    (hP : P (F.SEG_STATE_STATE k).key = true) (hst : st < 8) : t.segState k = st := by
  have := h.regs _ hP
  rw [State.rd_wr_same] at this
  exact this.trans (Nat.mod_eq_of_lt hst)

theorem State.KeptOn.isolated {s t : State} {k : Nat} (hk : k ≤ 26)
    (h : RingKept ((s.wr (F.SEG_STATE_STATE k) segISOLATED).wr F.PWR_RESET_CAUSE_KIND 5) t) :
    t.segState k = segISOLATED ∧ t.rd F.PWR_RESET_CAUSE_KIND = 5 := by
  refine ⟨?_, (h.regs _ (by decide)).trans (State.rd_wr_same _ _ _)⟩
  have hne : (F.SEG_STATE_STATE k).key ≠ F.PWR_RESET_CAUSE_KIND.key := by
    simp only [Field.key, F.SEG_STATE_STATE, F.PWR_RESET_CAUSE_KIND]; omega
  exact ((h.regs _ (ringKey_segState hk)).trans (State.rd_wr_ne _ _ _ _ hne)).trans (State.rd_wr_same _ _ _)

/-! ### A card is found, restarts or is cut off (R58, R96, R100) -/

theorem State.newSerial_kept (s : State) (key kind slot serial : Nat) : s.RingKept (s.newSerial key kind slot serial) :=
  .ite .of_eq (.trans .of_eq (State.detail_kept _ _ _ _ _ _))

/-- The card's place as `cardIn` leaves it, before the slot's state is shown. -/
def State.cardPut (s : State) (k ov uv : Nat) (blank : Bool) (fac : CardFac) : State :=
  ((((s.cardReset k).clearWires k).setSeg k
    { present := true, blank := blank, fac := fac, join := if blank || !s.segOk k then 0 else 1 }).wr (F.SEG_CMP_OV_LATCH k) ov).wr
      (F.SEG_CMP_UV_LATCH k) uv

theorem State.segOf_cardPut (s : State) (k ov uv : Nat) (blank : Bool) (fac : CardFac) : (s.cardPut k ov uv blank fac).segOf k =
    { present := true, blank := blank, fac := fac, join := if blank || !s.segOk k then 0 else 1 } := State.segOf_setSeg _ _ _

section
variable (s : State) {k : Nat} (serial ov uv : Nat) (fac : CardFac)

theorem State.cardIn_fitted_kept (h : s.segOk k = true) :
    (((s.cardPut k ov uv false fac).wr (F.SEG_STATE_STATE k) segISOLATED).wr F.PWR_RESET_CAUSE_KIND 5).RingKept
      (s.cardIn k serial ov uv false fac) := by
  obtain ⟨h1, h26⟩ := State.segOk_bounds h
  have heq : s.cardIn k serial ov uv false fac = (((s.cardPut k ov uv false fac).newSerial (100 + k) 5 k serial).setSegState k
      segISOLATED).wrs [(F.PWR_RESET_CAUSE_KIND, 5), (F.PWR_RESET_CAUSE_DETAIL, 0)] := by
    unfold State.cardIn
    rw [if_neg (by omega)]
    simp only [h, Bool.false_eq_true, Bool.not_true, if_false]
    unfold State.cardPut
    simp only [h, Bool.not_true, Bool.or_false]
  rw [heq]
  exact (((State.newSerial_kept _ _ _ _ _).wr_congr _ _).wr_congr _ _).trans (State.isolated_kept _ k)

theorem State.cardIn_blank_kept (h1 : 1 ≤ k) (h26 : k ≤ 26) :
    ((s.cardPut k ov uv true fac).wr (F.SEG_STATE_STATE k) segBLANK).RingKept (s.cardIn k serial ov uv true fac) := by
  have heq : s.cardIn k serial ov uv true fac = (s.cardPut k ov uv true fac).setSegState k segBLANK := by
    unfold State.cardIn
    rw [if_neg (by omega)]
    rfl
  rw [heq]
  exact State.setSegState_kept _ _ _

theorem State.cardIn_beyond_kept (h1 : 1 ≤ k) (h26 : k ≤ 26) (h : s.segOk k = false) :
    ((s.cardPut k ov uv false fac).wr (F.SEG_STATE_STATE k) segABSENT).RingKept (s.cardIn k serial ov uv false fac) := by
  have heq : s.cardIn k serial ov uv false fac =
      ((s.cardPut k ov uv false fac).setSegState k segABSENT).detail true ([5, k] ++ leBytes 8 serial) .ok true := by
    unfold State.cardIn
    rw [if_neg (by omega)]
    simp only [h, Bool.false_eq_true, Bool.not_false, if_false, if_true]
    unfold State.cardPut
    simp only [h, Bool.not_false, Bool.or_true, if_true]
  rw [heq]
  exact (State.setSegState_kept _ _ _).trans (State.detail_kept _ _ _ _ _ _)

/-- What the tone makes of a new card leaves the ring alone. -/
theorem execCardPresent_kept (blank : Bool) :
    ∃ t, exec (.cardPresent k serial ov uv blank fac) s = .next t ∧ (s.cardIn k serial ov uv blank fac).RingKept t :=
  ⟨_, rfl, .ite (State.toneLost_kept _) (State.gateTone_kept _)⟩

theorem cardPresent_fitted (h : s.segOk k = true) :
    ∃ t, exec (.cardPresent k serial ov uv false fac) s = .next t ∧ t.segState k = segISOLATED ∧ t.rd (F.SEG_CMP_OV_LATCH k) = ov % 65536 ∧
      t.rd (F.SEG_CMP_UV_LATCH k) = uv % 65536 ∧ t.rd F.PWR_RESET_CAUSE_KIND = 5 ∧ (t.segOf k).present = true ∧ (t.segOf k).blank = false ∧
      (t.segOf k).fac = fac ∧ (t.segOf k).join = 1 := by
  obtain ⟨-, hk⟩ := State.segOk_bounds h
  obtain ⟨t, hexec, htone⟩ := execCardPresent_kept s (k := k) serial ov uv fac false
  have hkept := (s.cardIn_fitted_kept serial ov uv fac h).trans htone
  obtain ⟨hstate, hkind⟩ := hkept.isolated hk
  have hcore : (t.segOf k).core = Seg.core { present := true, blank := false, fac := fac, join := 1 } := by
    refine (hkept.cards k).trans ?_
    show ((s.cardPut k ov uv false fac).segOf k).core = _
    rw [State.segOf_cardPut, h]
    rfl
  have hov : t.rd (F.SEG_CMP_OV_LATCH k) = ov % 65536 := by
    rw [hkept.regs _ (ringKey_ovLatch hk), State.rd_wr_ne _ _ _ _ (by simp only [Field.key, F.SEG_CMP_OV_LATCH, F.PWR_RESET_CAUSE_KIND]; omega),
      State.rd_wr_ne _ _ _ _ (by simp only [Field.key, F.SEG_CMP_OV_LATCH, F.SEG_STATE_STATE]; omega), State.cardPut,
      State.rd_wr_ne _ _ _ _ (by simp only [Field.key, F.SEG_CMP_OV_LATCH, F.SEG_CMP_UV_LATCH]; omega), State.rd_wr_same]
    rfl
  have huv : t.rd (F.SEG_CMP_UV_LATCH k) = uv % 65536 := by
    rw [hkept.regs _ (ringKey_uvLatch hk), State.rd_wr_ne _ _ _ _ (by simp only [Field.key, F.SEG_CMP_UV_LATCH, F.PWR_RESET_CAUSE_KIND]; omega),
      State.rd_wr_ne _ _ _ _ (by simp only [Field.key, F.SEG_CMP_UV_LATCH, F.SEG_STATE_STATE]; omega), State.cardPut, State.rd_wr_same]
    rfl
  exact ⟨t, hexec, hstate, hov, huv, hkind, congrArg Seg.present hcore, congrArg Seg.blank hcore, congrArg Seg.fac hcore,
    congrArg Seg.join hcore⟩

theorem cardPresent_blank (h1 : 1 ≤ k) (h26 : k ≤ 26) :
    ∃ t, exec (.cardPresent k serial ov uv true fac) s = .next t ∧ t.segState k = segBLANK ∧ (t.segOf k).blank = true := by
  obtain ⟨t, hexec, htone⟩ := execCardPresent_kept s (k := k) serial ov uv fac true
  have hkept := (s.cardIn_blank_kept serial ov uv fac h1 h26).trans htone
  have hcore : (t.segOf k).core = ((s.cardPut k ov uv true fac).segOf k).core := hkept.cards k
  rw [State.segOf_cardPut] at hcore
  exact ⟨t, hexec, hkept.segState_of_wr (ringKey_segState h26) (by decide), congrArg Seg.blank hcore⟩

theorem cardPresent_beyond (h1 : 1 ≤ k) (h26 : k ≤ 26) (h : s.segOk k = false) :
    ∃ t, exec (.cardPresent k serial ov uv false fac) s = .next t ∧ t.segState k = segABSENT ∧ (t.segOf k).join = 0 := by
  obtain ⟨t, hexec, htone⟩ := execCardPresent_kept s (k := k) serial ov uv fac false
  have hkept := (s.cardIn_beyond_kept serial ov uv fac h1 h26 h).trans htone
  have hcore : (t.segOf k).core = ((s.cardPut k ov uv false fac).segOf k).core := hkept.cards k
  rw [State.segOf_cardPut, h] at hcore
  exact ⟨t, hexec, hkept.segState_of_wr (ringKey_segState h26) (by decide), congrArg Seg.join hcore⟩

theorem cardPresent_noSlot (blank : Bool) (h : k = 0 ∨ 26 < k) :
    exec (.cardPresent k serial ov uv blank fac) s = .next s.gateTone := by
  have hin : s.cardIn k serial ov uv blank fac = s := if_pos (by omega)
  show Host.Outcome.next _ = _
  rw [hin]
  cases s.toneThrough <;> simp

end

/-- A restart of the card ends ISOLATED with reset kind 5. -/
theorem segCardFault_restarts (s : State) (k : Nat) (h : s.segOk k = true) (hp : (s.segOf k).present = true) :
    ∃ t, exec (.segCardFault k) s = .next t ∧ t.segState k = segISOLATED ∧ t.rd F.PWR_RESET_CAUSE_KIND = 5 := by
  have hexec : exec (.segCardFault k) s = .next (s.segReset k).gateTone := by
    show Host.Outcome.next _ = _
    rw [h, hp]
    rfl
  exact ⟨_, hexec, State.KeptOn.isolated (State.segOk_bounds h).2 ((State.isolated_kept _ k).trans (State.gateTone_kept _))⟩

theorem cardIsolated_cuts (s : State) (k : Nat) (h : s.segOk k = true) :
    exec (.cardIsolated k) s = .next ((s.modSeg k fun x => { x with cut := true, got := false }).pathsOff k).gateTone :=
  congrArg Host.Outcome.next (if_pos h)

theorem balancingHoldExpiry_frees (s : State) (k : Nat) (h : s.segOk k = true) :
    exec (.balancingHoldExpiry k) s = .next (s.modSeg k fun x => { x with hold := false }) :=
  congrArg Host.Outcome.next (if_pos h)

/-! ### Joins (R100, R101) -/

theorem State.loadDelays_single (s : State) (k a b : Nat) (h : s.segOk k = true) : s.loadDelays [(k, (a, b))] =
    ({ s with seg.words := s.seg.words ++ [echoRequest k 1, echoReply k, echoRequest k 0, echoReply k] } : State).wrs
      [(F.LATH_DELAY_DELAY_A k, s.echoDelay k a), (F.LATH_DELAY_DELAY_B k, s.echoDelay k b)] := if_pos h

theorem State.rd_loadDelays_single (s : State) (k a b : Nat) (h : s.segOk k = true) :
    (s.loadDelays [(k, (a, b))]).rd (F.LATH_DELAY_DELAY_A k) = s.echoDelay k a % 65536 ∧
    (s.loadDelays [(k, (a, b))]).rd (F.LATH_DELAY_DELAY_B k) = s.echoDelay k b % 65536 := by
  rw [State.loadDelays_single s k a b h]
  refine ⟨(State.rd_wr_ne _ _ _ _ ?_).trans (State.rd_wr_same _ _ _), State.rd_wr_same _ _ _⟩
  simp only [Field.key, F.LATH_DELAY_DELAY_A, F.LATH_DELAY_DELAY_B]
  omega

theorem echoMeasure_loads (s : State) (k a b : Nat) (h : s.segOk k = true) :
    ∃ t, exec (.echoMeasure [(k, (a, b))]) s = .next t ∧ t.rd (F.LATH_DELAY_DELAY_A k) = (a - (s.segOf k).fac.turn) / 2 % 65536 ∧
      t.rd (F.LATH_DELAY_DELAY_B k) = (b - (s.segOf k).fac.turn) / 2 % 65536 ∧
      t.seg.words = s.seg.words ++ [echoRequest k 1, echoReply k, echoRequest k 0, echoReply k] := by
  obtain ⟨hA, hB⟩ := s.rd_loadDelays_single k a b h
  exact ⟨_, rfl, hA, hB, by rw [State.loadDelays_single s k a b h]; rfl⟩

theorem or_two_pow_mod_sets_bit (n : Nat) {i w : Nat} (h : i < w) : (n ||| 2 ^ i) % 2 ^ w / 2 ^ i % 2 = 1 := by
  rw [← Nat.toNat_testBit, Nat.testBit_mod_two_pow, Nat.testBit_or, Nat.testBit_two_pow_self]
  simp [h]

/-- The state in which a stable card's join stands after step 4 of R100: its island on and its delays loaded. -/
def State.islandOn (s : State) (k : Nat) (trips : List (Nat × (Nat × Nat))) : State :=
  ((s.wr F.PWR_SEG_ON_ISLAND (s.rd F.PWR_SEG_ON_ISLAND ||| 2 ^ (k - 1))).pathsOff k).loadDelays trips

/-- Steps 2–5 of R100 for a card that is found and whose join has not begun to send. -/
theorem State.presentStable_kept (s : State) (k : Nat) (trips : List (Nat × (Nat × Nat))) (h : s.segOk k = true)
    (hp : (s.segOf k).present = true) (hb : (s.segOf k).blank = false) (h1 : 1 ≤ (s.segOf k).join) (h4 : (s.segOf k).join ≤ 4) :
    ∃ d, (((s.islandOn k trips).modSeg k fun x => { x with join := 5, phase := some d, refSeen := false }).wr (F.SEG_STATE_STATE k)
      segJOINING).RingKept (s.presentStable k trips).gateTone := by
  have hgo : (!s.segOk k || !(s.segOf k).present || (s.segOf k).blank || decide ((s.segOf k).join = 0) || decide (4 < (s.segOf k).join)) = false := by
    simp only [h, hp, hb]
    simp
    omega
  unfold State.presentStable
  rw [if_neg (by simpa using hgo)]
  exact ⟨_, (State.setSegState_kept _ _ _).trans (State.gateTone_kept _)⟩

theorem cardPresentStable_joins (s : State) (k a b : Nat) (h : s.segOk k = true) (hp : (s.segOf k).present = true)
    (hb : (s.segOf k).blank = false) (h1 : 1 ≤ (s.segOf k).join) (h4 : (s.segOf k).join ≤ 4) :
    ∃ t, exec (.cardPresentStable k [(k, (a, b))]) s = .next t ∧ t.segState k = segJOINING ∧ (t.segOf k).join = 5 ∧
      t.rd (F.LATH_DELAY_DELAY_A k) = (a - (s.segOf k).fac.turn) / 2 % 65536 ∧
      t.rd (F.LATH_DELAY_DELAY_B k) = (b - (s.segOf k).fac.turn) / 2 % 65536 ∧ (t.segOf k).phase.isSome = true ∧
      t.rd F.PWR_SEG_ON_ISLAND / 2 ^ (k - 1) % 2 = 1 := by
  obtain ⟨h1k, hk⟩ := State.segOk_bounds h
  obtain ⟨d, hkept⟩ := s.presentStable_kept k [(k, (a, b))] h hp hb h1 h4
  let s1 : State := (s.wr F.PWR_SEG_ON_ISLAND (s.rd F.PWR_SEG_ON_ISLAND ||| 2 ^ (k - 1))).pathsOff k
  have hok : s1.segOk k = true := (s.segOk_wr _ k (by decide)).trans h
  obtain ⟨hA, hB⟩ := s1.rd_loadDelays_single k a b hok
  have hcore := hkept.cards k
  rw [show (((s.islandOn k [(k, (a, b))]).modSeg k _).wr _ _).segOf k = _ from State.segOf_modSeg _ k _] at hcore
  have hread : ∀ f, ringKey f.key = true → f.key ≠ (F.SEG_STATE_STATE k).key →
      (s.presentStable k [(k, (a, b))]).gateTone.rd f = (s1.loadDelays [(k, (a, b))]).rd f := fun f hf hne =>
    (hkept.regs f hf).trans (State.rd_wr_ne _ _ _ _ hne)
  have hisland : (s1.loadDelays [(k, (a, b))]).rd F.PWR_SEG_ON_ISLAND = (s.rd F.PWR_SEG_ON_ISLAND ||| 2 ^ (k - 1)) % 2 ^ 26 := by
    rw [State.loadDelays_single s1 k a b hok]
    refine ((State.rd_wr_ne _ _ _ _ ?_).trans (State.rd_wr_ne _ _ _ _ ?_)).trans (State.rd_wr_same _ _ _) <;>
    · simp only [Field.key, F.PWR_SEG_ON_ISLAND, F.LATH_DELAY_DELAY_A, F.LATH_DELAY_DELAY_B]; omega
  refine ⟨_, rfl, hkept.segState_of_wr (ringKey_segState hk) (by decide), congrArg Seg.join hcore, ?_, ?_,
    congrArg (fun x => x.phase.isSome) hcore, ?_⟩
  · rw [hread _ (ringKey_delayA hk) (by simp only [Field.key, F.LATH_DELAY_DELAY_A, F.SEG_STATE_STATE]; omega), hA]; rfl
  · rw [hread _ (ringKey_delayB hk) (by simp only [Field.key, F.LATH_DELAY_DELAY_B, F.SEG_STATE_STATE]; omega), hB]; rfl
  · rw [hread _ (by decide) (by simp only [Field.key, F.PWR_SEG_ON_ISLAND, F.SEG_STATE_STATE]; omega), hisland]
    exact or_two_pow_mod_sets_bit _ (by omega)

theorem provisionalExpiry_serves (s : State) (k : Nat) (h : s.segOk k = true) (hst : s.segState k = segPROVISIONAL)
    (hr : (s.segOf k).refSeen = true) : ∃ t, exec (.provisionalExpiry k) s = .next t ∧ t.segState k = segSERVICE := by
  have hexec : exec (.provisionalExpiry k) s = .next ((s.modSeg k fun x => { x with led := 2 }).setSegState k segSERVICE) := by
    show Host.Outcome.next _ = _
    rw [h, hst, hr]
    rfl
  exact ⟨_, hexec, (State.setSegState_kept _ _ _).segState_of_wr (ringKey_segState (State.segOk_bounds h).2) (by decide)⟩

/-! ### Losses (R95, R287) -/

theorem State.causeCardLost_kept (s : State) (k : Nat) : s.RingKept (s.causeCardLost k) :=
  .ite (.refl s) (.trans .of_eq (State.raiseCause_kept _ _ _))

theorem State.causeCardLost_hasCause (s : State) (k : Nat) (h : s.wdSlot ≠ k) : (s.causeCardLost k).hasCause .cardLost = true := by
  unfold State.causeCardLost
  rw [if_neg h]
  exact (State.lockout_kept_latches _ _ _).2

theorem cardLost_waits (s : State) (k : Nat) (h : (s.segOf k).missed < 4) : exec (.cardLost k) s = .next s :=
  congrArg Host.Outcome.next (if_pos (by simp [h]))

theorem cardLost_declares (s : State) (k : Nat) (h : s.segOk k = true) (hl : s.segLive k = true) (hm : 4 ≤ (s.segOf k).missed) :
    ∃ t, exec (.cardLost k) s = .next t ∧ t.segState k = segLOST ∧ t.rd Fl.SEG_EVENT_CARD_LOST.bit = 1 ∧
      (s.wdSlot ≠ k → t.hasCause .cardLost = true) := by
  obtain ⟨-, hk⟩ := State.segOk_bounds h
  let s0 : State := s.modSeg k fun x => { x with join := 0, frame := none, got := false }
  let s1 : State := s0.setSegState k segLOST
  have hexec : exec (.cardLost k) s = .next ((s1.causeCardLost k).flag Fl.SEG_EVENT_CARD_LOST { system := true, idx := k, stfP := true }) :=
    congrArg Host.Outcome.next (if_neg (by simp [h, hl, hm]))
  have hflag := State.flag_kept_set (s1.causeCardLost k) Fl.SEG_EVENT_CARD_LOST { system := true, idx := k, stfP := true }
  have hkept := ((((s0.setSegState_kept k segLOST).trans (s1.causeCardLost_kept k)).wr_congr _ _).trans hflag)
  have hwd : s1.wdSlot = s.wdSlot := by
    refine ((s0.setSegState_kept k segLOST).regs F.SAFE_WITHDRAW_SLOT (by decide)).trans (State.rd_wr_ne _ _ _ _ ?_)
    simp only [Field.key, F.SAFE_WITHDRAW_SLOT, F.SEG_STATE_STATE]
    omega
  refine ⟨_, hexec, ?_, (hkept.regs _ (by decide)).trans (State.rd_wr_same _ _ _), fun hne => ?_⟩
  · refine ((hkept.regs _ (ringKey_segState hk)).trans (State.rd_wr_ne _ _ _ _ ?_)).trans (State.rd_wr_same _ _ _)
    simp only [Field.key, F.SEG_STATE_STATE, Fl.SEG_EVENT_CARD_LOST, F.SEG_EVENT_CARD_LOST]
    omega
  · exact hflag.causes _ (s1.causeCardLost_hasCause k (by rwa [hwd]))

end Sys2Proof.Machine
end

section
/-! PROOFS. The join check (R82, R86, R100, R101, R113) and the two directions of the ring (R72, R97, R98). -/

namespace Sys2Proof.Machine

-- One proof after another: a thread for each would not fit the memory of the check.
set_option Elab.async false

/-! ### The reference and the first frame -/

/-- The registers of the ring that the latch check of R297 and the end of a withdrawal leave alone. -/
def joinKey (q : Nat) : Bool := ringKey q && decide (q < 0x40400 * 32)

theorem ringKey_of_joinKey {q : Nat} (h : joinKey q = true) : ringKey q = true := (Bool.and_eq_true_iff.1 h).1

theorem State.KeptOn.join {s t : State} (h : RingKept s t) : KeptOn joinKey s t := h.mono fun _ => ringKey_of_joinKey

theorem joinKey_row {base lo w rst k : Nat} (hk : k ≤ 26) (hfrom : 0x40100 ≤ base := by decide) (hto : base ≤ 0x40300 := by decide)
    (hbit : lo < 32 := by decide) : joinKey (Field.key ⟨base + 4 * (k - 1), lo, w, rst⟩) = true := by
  unfold joinKey
  rw [ringKey_row hk hfrom (by omega) hbit, Bool.true_and, decide_eq_true_eq]
  simp only [Field.key]
  omega

/-- Where the reference lies outside DRIFT_LIMIT the spare is marked failed (R82). -/
theorem State.refJudge_failed_kept (s : State) (k : Nat) (dev : Rat) (h : ((10 * s.rd F.SEG_SPARE_CFG_DRIFT_LIMIT : Nat) : Rat) < |dev|) :
    ((s.modSeg k fun x => { x with spareFailed := true, refSeen := true }).wr (F.SEG_STATE_SPARE_FAILED k) 1).RingKept (s.refJudge k dev) := by
  unfold State.refJudge
  rw [if_pos h]
  refine .trans (State.wr_kept _ (F.UC_CONV_FAILED k) 1 (ringKey_of_addr ?_)) (State.exhaust_kept _ _ _)
  show 0x90040 ≤ 0x120100 + 4 * (k - 1)
  omega

theorem State.refJudge_passed (s : State) (k : Nat) (dev : Rat) (h : ¬((10 * s.rd F.SEG_SPARE_CFG_DRIFT_LIMIT : Nat) : Rat) < |dev|) :
    s.refJudge k dev = s.modSeg k fun x => { x with refSeen := true } := if_neg h

/-- Either way the reference is measured, and no register of the ring moves but SPARE_FAILED of the card. -/
theorem State.refJudge_spec (s : State) {k : Nat} (dev : Rat) (hk : k ≤ 26) :
    ((s.refJudge k dev).segOf k).refSeen = true ∧
    (∀ f : Field, ringKey f.key = true → f.key ≠ (F.SEG_STATE_SPARE_FAILED k).key → (s.refJudge k dev).rd f = s.rd f) ∧
    (((10 * s.rd F.SEG_SPARE_CFG_DRIFT_LIMIT : Nat) : Rat) < |dev| → (s.refJudge k dev).rd (F.SEG_STATE_SPARE_FAILED k) = 1) := by
  by_cases h : ((10 * s.rd F.SEG_SPARE_CFG_DRIFT_LIMIT : Nat) : Rat) < |dev|
  · have hkept := s.refJudge_failed_kept k dev h
    have hcore := hkept.cards k
    rw [show (((s.modSeg k _).wr _ _).segOf k) = _ from State.segOf_modSeg s k _] at hcore
    exact ⟨congrArg Seg.refSeen hcore, fun f hf hne => (hkept.regs f hf).trans (State.rd_wr_ne _ _ _ _ hne),
      fun _ => (hkept.regs _ (ringKey_spareFailed hk)).trans (State.rd_wr_same _ _ _)⟩
  · rw [s.refJudge_passed k dev h]
    exact ⟨by rw [State.segOf_modSeg], fun _ _ _ => rfl, fun hlt => absurd hlt h⟩

/-- The card's place once its first frame has come (R100, step 9). -/
def Seg.heard (x : Seg) : Seg := { x with join := 9, hold := true, cut := false, clean := 0, led := 1, missed := 0 }

theorem ringKey_rw {k w : Nat} (hk : k ≤ 26) (hw : w ≤ 16) : ringKey (F.BAL_RW_RW_LO k (w / 2)).key = false ∧
    ringKey (F.BAL_RW_RW_HI k (w / 2)).key = false := by
  constructor <;>
  · rw [Bool.eq_false_iff]
    intro hq
    simp only [ringKey, Bool.or_eq_true, Bool.and_eq_true, decide_eq_true_eq, beq_iff_eq] at hq
    simp only [Field.key, F.SYS_ID_SEG_FITTED, F.PWR_SEG_ON_ISLAND, F.PWR_RESET_CAUSE_KIND, F.SAFE_WITHDRAW_SLOT, F.BAL_RW_RW_LO,
      F.BAL_RW_RW_HI] at hq
    omega

theorem State.unlearn_kept (s : State) {k : Nat} (hk : k ≤ 26) : s.RingKept (s.unlearn k) := by
  refine State.KeptOn.foldl _ _ (fun u w hw => ?_) s
  obtain ⟨hlo, hhi⟩ := ringKey_rw hk (by have := (mem_numbersFrom 0 17 w).1 hw; omega : w ≤ 16)
  exact .ite (.trans .of_eq (State.wr_kept _ _ _ hlo)) (.trans .of_eq (State.wr_kept _ _ _ hhi))

theorem State.endWithdrawal_kept (s : State) : State.KeptOn joinKey s s.endWithdrawal := by
  refine .trans (.wrs s _ ?_) (State.gateTone_kept _).join
  simp only [List.forall_mem_cons]
  decide

/-- The first frame shows the card PROVISIONAL with CARD_JOINED. -/
theorem State.firstFrame_kept (s : State) {k : Nat} (hk : k ≤ 26) :
    State.KeptOn joinKey (((s.modSeg k Seg.heard).wr (F.SEG_STATE_STATE k) segPROVISIONAL).wr Fl.SEG_EVENT_CARD_JOINED.bit 1)
      (s.firstFrame k) := by
  have hset := ((State.setSegState_kept (s.modSeg k Seg.heard) k segPROVISIONAL).trans (State.unlearn_kept _ hk)).wr_congr
    Fl.SEG_EVENT_CARD_JOINED.bit 1
  have hflag := (hset.trans (State.flag_kept_set _ Fl.SEG_EVENT_CARD_JOINED { idx := k, stfP := true })).join
  exact .ite (hflag.trans (State.endWithdrawal_kept _)) hflag

/-! ### The latch check and the echo (R113, R297) -/

theorem joinKey_latches (k : Nat) : joinKey (F.SEG_CMP_OV_LATCH k).key = false ∧ joinKey (F.SEG_CMP_UV_LATCH k).key = false := by
  have hbeyond : ∀ q, 0x40400 * 32 ≤ q → joinKey q = false := fun q hq => by
    unfold joinKey
    rw [decide_eq_false (by omega), Bool.and_false]
  exact ⟨hbeyond _ (by simp only [Field.key, F.SEG_CMP_OV_LATCH]; omega), hbeyond _ (by simp only [Field.key, F.SEG_CMP_UV_LATCH]; omega)⟩

theorem State.latchCheck_kept (s : State) (rel : List (Nat × Nat)) : State.KeptOn joinKey s (s.latchCheck rel) := by
  unfold State.latchCheck
  extract_lets one _ s1 s2
  have hone : ∀ u : State, ∀ k ∈ s.segList, State.KeptOn joinKey u (one u k) := fun u k _ => by
    obtain ⟨hov, huv⟩ := joinKey_latches k
    refine .ite (.refl u) (.trans ?_ (State.detail_kept _ _ _ _ _ _).join)
    exact (State.KeptOn.wr u _ hov).trans (.wr _ _ huv)
  have h1 : State.KeptOn joinKey s s1 := .trans .of_eq (State.KeptOn.foldl one _ hone _)
  have h2 : State.KeptOn joinKey s1 s2 := .ite (State.lockout_kept _ _ _).join (.refl s1)
  exact .ite (.refl s) ((h1.trans h2).trans (.ite (State.lockout_kept _ _ _).join (.refl s2)))

theorem State.echoCheck_kept (s : State) (k : Nat) (e : CmpEcho) : s.RingKept (s.echoCheck k e) :=
  .ite (.refl s) (s.raiseCause_kept _ _)

theorem State.echoCheck_hasCause (s : State) (k : Nat) (e : CmpEcho) (h : e ≠ s.cmpConfig k) : (s.echoCheck k e).hasCause .cmpEcho = true := by
  unfold State.echoCheck
  rw [if_neg h]
  exact (State.lockout_kept_latches _ _ _).2

/-- What a card should echo hangs on four fields only. -/
theorem State.cmpConfig_congr {s t : State} {k : Nat} (hov : t.rd F.SEG_CMP_PARAM_OV_CODE = s.rd F.SEG_CMP_PARAM_OV_CODE)
    (huv : t.rd F.SEG_CMP_PARAM_UV_CODE = s.rd F.SEG_CMP_PARAM_UV_CODE) (hp : t.rd (F.SEG_WIRE_PAIR_MODE k) = s.rd (F.SEG_WIRE_PAIR_MODE k))
    (hw : t.rd (F.SEG_WIRE_WIRE_MAP k) = s.rd (F.SEG_WIRE_WIRE_MAP k)) : t.cmpConfig k = s.cmpConfig k := by
  unfold State.cmpConfig State.isOn State.latchedWire
  rw [hov, huv, hp, hw]

/-! ### The join check (R100 steps 6–9, R101) -/

/-- The card's place before its first frame: its reference judged and the spare back on it. -/
def State.refJudged (s : State) (k : Nat) (c : JoinCheck) : State :=
  (s.refJudge k ((c.ref - (s.segOf k).fac.ref : Int) : Rat)).turnSpare k 0

section
variable {s : State} {k : Nat} {c : JoinCheck} {rel : List (Nat × Nat)}

theorem State.joinDone_eq (h : s.segOk k = true) (hp : (s.segOf k).present = true) (hl : s.segLive k = false) (hj : (s.segOf k).join = 5) :
    s.joinDone k c rel = if JoinCheck.failed c ≠ 0 then s.joinFail k (JoinCheck.failed c) else
      let s2 := ((s.refJudged k c).firstFrame k).echoCheck k c.echo
      if s2.segList.all s2.segLive then s2.latchCheck rel else s2 := by
  unfold State.joinDone
  rw [if_neg (by simp [h, hp, hl, hj])]
  rfl

theorem State.joinDone_passed_kept (h : s.segOk k = true) (hp : (s.segOf k).present = true) (hl : s.segLive k = false)
    (hj : (s.segOf k).join = 5) (hc : JoinCheck.failed c = 0) :
    State.KeptOn joinKey (((s.refJudged k c).firstFrame k).echoCheck k c.echo) (s.joinDone k c rel).gateTone := by
  rw [State.joinDone_eq h hp hl hj, if_neg (by simp [hc])]
  exact .trans (.ite (State.latchCheck_kept _ _) (.refl _)) (State.gateTone_kept _).join

/-- The first frame moves neither the card's marks beside its state nor what the ring shows elsewhere. -/
theorem State.rd_firstFrame (hk : k ≤ 26) {f : Field} (hf : joinKey f.key = true) (hst : f.key ≠ (F.SEG_STATE_STATE k).key)
    (hfl : f.key ≠ Fl.SEG_EVENT_CARD_JOINED.bit.key) : ((s.refJudged k c).firstFrame k).rd f =
      (s.refJudge k ((c.ref - (s.segOf k).fac.ref : Int) : Rat)).rd f :=
  (((s.refJudged k c).firstFrame_kept hk).regs f hf).trans ((State.rd_wr_ne _ _ _ _ hfl).trans (State.rd_wr_ne _ _ _ _ hst))

/-- Outside the card's state word and the events, a first frame leaves a register of the ring as it was before the join check. -/
theorem State.rd_firstFrame_of_addr (hk : k ≤ 26) {f : Field} (hf : joinKey f.key = true) (hlo : f.lo < 32)
    (hst : f.addr ≠ 0x40100 + 4 * (k - 1)) (hev : f.addr ≠ 0x40010) : ((s.refJudged k c).firstFrame k).rd f = s.rd f := by
  obtain ⟨-, hjudged, -⟩ := s.refJudge_spec ((c.ref - (s.segOf k).fac.ref : Int) : Rat) hk
  exact (State.rd_firstFrame hk hf (Field.key_ne_of_addr hst hlo (by simp [F.SEG_STATE_STATE]))
    (Field.key_ne_of_addr hev hlo (by decide))).trans
      (hjudged f (ringKey_of_joinKey hf) (Field.key_ne_of_addr hst hlo (by simp [F.SEG_STATE_SPARE_FAILED])))

/-- The comparators' configuration stands over the join check. -/
theorem State.cmpConfig_firstFrame (hk : k ≤ 26) : ((s.refJudged k c).firstFrame k).cmpConfig k = s.cmpConfig k := by
  apply State.cmpConfig_congr
  · exact State.rd_firstFrame_of_addr hk (by decide) (by decide) (by simp only [F.SEG_CMP_PARAM_OV_CODE]; omega) (by decide)
  · exact State.rd_firstFrame_of_addr hk (by decide) (by decide) (by simp only [F.SEG_CMP_PARAM_UV_CODE]; omega) (by decide)
  · exact State.rd_firstFrame_of_addr hk (joinKey_row hk) (by simp [F.SEG_WIRE_PAIR_MODE]) (by simp only [F.SEG_WIRE_PAIR_MODE]; omega)
      (by simp only [F.SEG_WIRE_PAIR_MODE]; omega)
  · exact State.rd_firstFrame_of_addr hk (joinKey_row hk) (by simp [F.SEG_WIRE_WIRE_MAP]) (by simp only [F.SEG_WIRE_WIRE_MAP]; omega)
      (by simp only [F.SEG_WIRE_WIRE_MAP]; omega)

theorem State.refSeen_refJudged (hk : k ≤ 26) : ((s.refJudged k c).segOf k).refSeen = true := by
  unfold State.refJudged State.turnSpare
  rw [State.segOf_modSeg]
  obtain ⟨hseen, -, -⟩ := s.refJudge_spec ((c.ref - (s.segOf k).fac.ref : Int) : Rat) hk
  exact hseen

theorem joinCheckDone_passed (h : s.segOk k = true) (hp : (s.segOf k).present = true) (hl : s.segLive k = false)
    (hj : (s.segOf k).join = 5) (hc : JoinCheck.failed c = 0) :
    ∃ t, exec (.joinCheckDone k c rel) s = .next t ∧ t.segState k = segPROVISIONAL ∧
      t.rd Fl.SEG_EVENT_CARD_JOINED.bit = 1 ∧ (t.segOf k).refSeen = true ∧ (c.echo ≠ s.cmpConfig k → t.hasCause .cmpEcho = true) ∧
      (10 * s.rd F.SEG_SPARE_CFG_DRIFT_LIMIT < (c.ref - (s.segOf k).fac.ref).natAbs → t.rd (F.SEG_STATE_SPARE_FAILED k) = 1) := by
  obtain ⟨-, hk⟩ := State.segOk_bounds h
  have hend := State.joinDone_passed_kept (rel := rel) h hp hl hj hc
  have hlater := (((s.refJudged k c).firstFrame k).echoCheck_kept k c.echo).join.trans hend
  have hkept := ((s.refJudged k c).firstFrame_kept hk).trans hlater
  refine ⟨_, rfl, ?_, (hkept.regs _ (by decide)).trans (State.rd_wr_same _ _ _), ?_, fun hne => ?_, fun hout => ?_⟩
  · refine ((hkept.regs (F.SEG_STATE_STATE k) (joinKey_row hk)).trans (State.rd_wr_ne _ _ _ _ ?_)).trans (State.rd_wr_same _ _ _)
    simp only [Field.key, F.SEG_STATE_STATE, Fl.SEG_EVENT_CARD_JOINED, F.SEG_EVENT_CARD_JOINED]
    omega
  · have hcore := hkept.cards k
    rw [show ((((s.refJudged k c).modSeg k Seg.heard).wr _ _).wr _ _).segOf k = _ from State.segOf_modSeg _ k _] at hcore
    exact (congrArg Seg.refSeen hcore).trans (State.refSeen_refJudged hk)
  · exact hend.causes _ (State.echoCheck_hasCause _ _ _ (by rwa [State.cmpConfig_firstFrame hk]))
  · have hlimit : ((10 * s.rd F.SEG_SPARE_CFG_DRIFT_LIMIT : Nat) : Rat) < |((c.ref - (s.segOf k).fac.ref : Int) : Rat)| := by
      rw [← Int.cast_abs, Int.abs_eq_natAbs]
      exact_mod_cast hout
    obtain ⟨-, -, hfailed⟩ := s.refJudge_spec ((c.ref - (s.segOf k).fac.ref : Int) : Rat) hk
    refine (hlater.regs (F.SEG_STATE_SPARE_FAILED k) (joinKey_row hk)).trans
      ((State.rd_firstFrame (f := F.SEG_STATE_SPARE_FAILED k) hk (joinKey_row hk) ?_ ?_).trans (hfailed hlimit))
    · simp only [Field.key, F.SEG_STATE_SPARE_FAILED, F.SEG_STATE_STATE]; omega
    · simp only [Field.key, F.SEG_STATE_SPARE_FAILED, Fl.SEG_EVENT_CARD_JOINED, F.SEG_EVENT_CARD_JOINED]; omega

theorem joinCheckDone_failed (h : s.segOk k = true) (hp : (s.segOf k).present = true) (hl : s.segLive k = false)
    (hj : (s.segOf k).join = 5) (hc : JoinCheck.failed c ≠ 0) :
    ∃ t, exec (.joinCheckDone k c rel) s = .next t ∧ t.segState k = segISOLATED ∧ (t.segOf k).join = 0 ∧
      t.rd Fl.SEG_EVENT_JOIN_FAIL.bit = 1 := by
  obtain ⟨-, hk⟩ := State.segOk_bounds h
  have hexec : exec (.joinCheckDone k c rel) s = .next (s.joinFail k (JoinCheck.failed c)).gateTone := by
    show Host.Outcome.next _ = _
    rw [State.joinDone_eq h hp hl hj, if_pos hc]
  have hkept := (State.setSegState_flag_kept (s.modSeg k fun x => { x with join := 0, selftest := x.selftest || JoinCheck.failed c == 6 }) k
    segISOLATED Fl.SEG_EVENT_JOIN_FAIL
    { system := true, idx := k, stfP := true, detail := [JoinCheck.failed c], status := .internal }).trans (State.gateTone_kept _)
  have hcore := hkept.cards k
  rw [show (((s.modSeg k _).wr _ _).wr _ _).segOf k = _ from State.segOf_modSeg s k _] at hcore
  refine ⟨_, hexec, ?_, congrArg Seg.join hcore, (hkept.regs _ (by decide)).trans (State.rd_wr_same _ _ _)⟩
  refine ((hkept.regs _ (ringKey_segState hk)).trans (State.rd_wr_ne _ _ _ _ ?_)).trans (State.rd_wr_same _ _ _)
  simp only [Field.key, F.SEG_STATE_STATE, Fl.SEG_EVENT_JOIN_FAIL, F.SEG_EVENT_JOIN_FAIL]
  omega

end

/-! ### The directions of the ring (R97, R98) -/

/-- The registers of the ring outside its cards. -/
def statusKey (q : Nat) : Bool := ringKey q && decide (q < 0x40100 * 32)

theorem statusKey_card {f : Field} (h : 0x40100 ≤ f.addr) : statusKey f.key = false := by
  unfold statusKey
  rw [decide_eq_false (by unfold Field.key; omega), Bool.and_false]

/-- A card at slot `k` takes its timing from direction B (R97, R98), with the break after hop `hop`. -/
def State.timingB (s : State) (hop k : Nat) : Bool :=
  let lostA := !s.isOn F.LATH_STATUS_A_WHOLE && decide (hop < k)
  let lostB := !s.isOn F.LATH_STATUS_B_WHOLE && decide (k ≤ hop)
  if lostA then true else if lostB then false else s.isOn F.LATH_STATUS_A_DEGRADED && !s.isOn F.LATH_STATUS_B_DEGRADED

/-- One card's part of the new timing. -/
def State.retimeCard (hop : Nat) (s : State) (k : Nat) : State := s.wrB (F.SEG_STATE_TIMING_DIR k) (s.timingB hop k)

theorem State.retime_eq (s : State) : s.retime = s.segList.foldl (State.retimeCard (s.rd F.LATH_STATUS_BREAK_HOP)) s := rfl

theorem State.retimeCard_kept (hop : Nat) (s : State) (k : Nat) : State.KeptOn statusKey s (s.retimeCard hop k) :=
  .wr s _ (statusKey_card (Nat.le_add_right _ _))

theorem State.retime_kept (s : State) : State.KeptOn statusKey s s.retime :=
  .foldl _ _ (fun s k _ => s.retimeCard_kept _ k) s

theorem State.timingB_congr {s t : State} (h : State.KeptOn statusKey s t) (hop k : Nat) : t.timingB hop k = s.timingB hop k := by
  unfold State.timingB State.isOn
  rw [h.regs F.LATH_STATUS_A_WHOLE (by decide), h.regs F.LATH_STATUS_B_WHOLE (by decide), h.regs F.LATH_STATUS_A_DEGRADED (by decide),
    h.regs F.LATH_STATUS_B_DEGRADED (by decide)]

/-- Each card of a list gets its timing once and keeps it. -/
theorem State.rd_retimeCards (hop : Nat) (l : List Nat) (s : State) {k : Nat} (hk : k ∈ l) (hpos : ∀ j ∈ l, 1 ≤ j) :
    (l.foldl (State.retimeCard hop) s).rd (F.SEG_STATE_TIMING_DIR k) = if s.timingB hop k then 1 else 0 := by
  induction l generalizing s with
  | nil => cases hk
  | cons j l ih =>
    by_cases hmem : k ∈ l
    · have := ih (s.retimeCard hop j) hmem fun i hi => hpos i (List.mem_cons_of_mem j hi)
      rwa [State.timingB_congr (s.retimeCard_kept hop j)] at this
    · obtain rfl : k = j := (List.mem_cons.1 hk).resolve_right hmem
      have hstay : State.KeptOn (fun q => q == (F.SEG_STATE_TIMING_DIR k).key) (s.retimeCard hop k)
          (l.foldl (State.retimeCard hop) (s.retimeCard hop k)) := by
        refine .foldl _ l (fun u i hi => .wr u _ ?_) _
        have hne : i ≠ k := fun e => hmem (e ▸ hi)
        have h1 := hpos i (List.mem_cons_of_mem k hi)
        have h2 := hpos k List.mem_cons_self
        simp only [beq_eq_false_iff_ne, Field.key, F.SEG_STATE_TIMING_DIR]
        omega
      refine (hstay.regs _ (by simp)).trans ((State.rd_wr_same _ _ _).trans ?_)
      split <;> rfl

/-- After a new timing every fitted card takes the direction that the ring's state gives it. -/
theorem State.rd_retime (s : State) {k : Nat} (h : s.segOk k = true) :
    s.retime.rd (F.SEG_STATE_TIMING_DIR k) = if s.timingB (s.rd F.LATH_STATUS_BREAK_HOP) k then 1 else 0 := by
  rw [State.retime_eq]
  exact State.rd_retimeCards _ _ s ((s.mem_segList k).2 h) fun j hj => (State.segOk_bounds ((s.mem_segList j).1 hj)).1

/-- A break as LATH_STATUS shows it (R97). -/
def State.breakShown (s : State) (hop : Nat) (a b : Bool) : State :=
  s.wrs [(F.LATH_STATUS_A_WHOLE, if a then 0 else s.rd F.LATH_STATUS_A_WHOLE),
    (F.LATH_STATUS_B_WHOLE, if b then 0 else s.rd F.LATH_STATUS_B_WHOLE), (F.LATH_STATUS_BREAK_HOP, hop)]

theorem State.rd_breakShown (s : State) (hop : Nat) (a b : Bool) (hh : hop ≤ 26) :
    (s.breakShown hop a b).rd F.LATH_STATUS_BREAK_HOP = hop ∧
    (s.breakShown hop a b).rd F.LATH_STATUS_A_WHOLE = (if a then 0 else s.rd F.LATH_STATUS_A_WHOLE % 2) ∧
    (s.breakShown hop a b).rd F.LATH_STATUS_B_WHOLE = (if b then 0 else s.rd F.LATH_STATUS_B_WHOLE % 2) := by
  refine ⟨(State.rd_wr_same _ _ _).trans (Nat.mod_eq_of_lt (by show hop < 64; omega)), ?_, ?_⟩
  · refine ((State.rd_wr_ne _ _ _ _ (by decide)).trans (State.rd_wr_ne _ _ _ _ (by decide))).trans ((State.rd_wr_same _ _ _).trans ?_)
    split <;> rfl
  · refine (State.rd_wr_ne _ _ _ _ (by decide)).trans ((State.rd_wr_same _ _ _).trans ?_)
    split <;> rfl

theorem ringBreak_shows (s : State) (hop : Nat) (a b : Bool) (hh : hop ≤ 26) :
    ∃ t, exec (.ringBreak hop a b) s = .next t ∧ t.rd F.LATH_STATUS_BREAK_HOP = hop ∧ t.rd Fl.SEG_EVENT_RING_BREAK.bit = 1 ∧
      t.rd F.LATH_STATUS_A_WHOLE = (if a then 0 else s.rd F.LATH_STATUS_A_WHOLE % 2) ∧
      t.rd F.LATH_STATUS_B_WHOLE = (if b then 0 else s.rd F.LATH_STATUS_B_WHOLE % 2) ∧
      (a = true → ∀ k, s.segOk k = true → hop < k → t.rd (F.SEG_STATE_TIMING_DIR k) = 1) := by
  let s1 : State := s.breakShown hop a b
  let s2 : State := { s1.retime with seg.hops := s.seg.hops ||| 2 ^ hop }
  obtain ⟨hhop, hA, hB⟩ := s.rd_breakShown hop a b hh
  have hfrom := (State.flag_kept_set s2 Fl.SEG_EVENT_RING_BREAK { system := true, stfP := true, detail := [hop] }).trans
    ((State.spareTook_kept _ 5 (if a then 0 else 1) (if a then 1 else 0)).trans (State.exhaust_kept _ 5 0))
  have hread : ∀ f, ringKey f.key = true → f.key ≠ Fl.SEG_EVENT_RING_BREAK.bit.key → _ = s1.retime.rd f := fun f hf hne =>
    (hfrom.regs f hf).trans (State.rd_wr_ne _ _ _ _ hne)
  have hstatus : ∀ f, statusKey f.key = true → s1.retime.rd f = s1.rd f := s1.retime_kept.regs
  refine ⟨_, rfl, ?_, (hfrom.regs _ (by decide)).trans (State.rd_wr_same _ _ _), ?_, ?_, fun ha k hok hlt => ?_⟩
  · exact (hread _ (by decide) (by decide)).trans ((hstatus _ (by decide)).trans hhop)
  · exact (hread _ (by decide) (by decide)).trans ((hstatus _ (by decide)).trans hA)
  · exact (hread _ (by decide) (by decide)).trans ((hstatus _ (by decide)).trans hB)
  · have hok1 : s1.segOk k = true :=
      ((State.segOk_wr _ _ _ (by decide)).trans ((State.segOk_wr _ _ _ (by decide)).trans (s.segOk_wr _ _ (by decide)))).trans hok
    have hB1 : s1.timingB (s1.rd F.LATH_STATUS_BREAK_HOP) k = true := by
      have hoff : s1.isOn F.LATH_STATUS_A_WHOLE = false := by unfold State.isOn; rw [hA, ha]; rfl
      unfold State.timingB
      rw [hoff, hhop]
      simp [hlt]
    refine (hread _ (ringKey_timingDir (State.segOk_bounds hok).2) ?_).trans ((s1.rd_retime hok1).trans (if_pos hB1))
    simp only [Field.key, F.SEG_STATE_TIMING_DIR, Fl.SEG_EVENT_RING_BREAK, F.SEG_EVENT_RING_BREAK]
    omega

theorem lathDirectionDegraded_moves (s : State) (b : Bool) : ∃ t, exec (.lathDirectionDegraded b) s = .next t ∧
    t.rd (if b then F.LATH_STATUS_B_DEGRADED else F.LATH_STATUS_A_DEGRADED) = 1 ∧
    (s.isOn F.LATH_STATUS_A_WHOLE = true → s.isOn F.LATH_STATUS_B_WHOLE = true → s.isOn F.LATH_STATUS_B_DEGRADED = false → b = false →
      ∀ k, s.segOk k = true → t.rd (F.SEG_STATE_TIMING_DIR k) = 1) := by
  let s1 : State := s.wr (if b then F.LATH_STATUS_B_DEGRADED else F.LATH_STATUS_A_DEGRADED) 1
  have hkept := (State.spareTook_kept s1.retime 5 (if b then 1 else 0) (if b then 0 else 1)).trans (State.exhaust_kept _ 5 0)
  refine ⟨_, rfl, ?_, fun hA hB hBdeg hb k hok => ?_⟩
  · have hset : s1.rd (if b then F.LATH_STATUS_B_DEGRADED else F.LATH_STATUS_A_DEGRADED) = 1 := by
      cases b <;> exact State.rd_wr_same _ _ _
    refine (hkept.regs _ (by cases b <;> decide)).trans ((s1.retime_kept.regs _ (by cases b <;> decide)).trans hset)
  · subst hb
    have hs1 : s1 = s.wr F.LATH_STATUS_A_DEGRADED 1 := rfl
    have hsame : ∀ f, f.key ≠ F.LATH_STATUS_A_DEGRADED.key → s1.isOn f = s.isOn f := fun f hne => by
      unfold State.isOn; rw [hs1, State.rd_wr_ne _ _ _ _ hne]
    have hdeg : s1.isOn F.LATH_STATUS_A_DEGRADED = true := by
      unfold State.isOn; rw [hs1, State.rd_wr_same]; rfl
    have hok1 : s1.segOk k = true := (s.segOk_wr _ _ (by decide)).trans hok
    have hB1 : s1.timingB (s1.rd F.LATH_STATUS_BREAK_HOP) k = true := by
      unfold State.timingB
      rw [hsame _ (by decide), hA, hsame _ (by decide), hB, hsame F.LATH_STATUS_B_DEGRADED (by decide), hBdeg, hdeg]
      rfl
    exact (hkept.regs _ (ringKey_timingDir (State.segOk_bounds hok).2)).trans ((s1.rd_retime hok1).trans (if_pos hB1))

/-! ### A whole ring (R95, R97) -/

theorem State.loadDelays_kept (s : State) (d : List (Nat × (Nat × Nat))) : State.KeptOn statusKey s (s.loadDelays d) := by
  refine .foldl _ d (fun u p _ => .ite (.trans .of_eq (.wrs _ _ ?_)) (.refl u)) s
  simp only [List.forall_mem_cons]
  exact ⟨statusKey_card (by simp only [F.LATH_DELAY_DELAY_A]; omega), statusKey_card (by simp only [F.LATH_DELAY_DELAY_B]; omega), by simp⟩

/-- A LOST card that is heard again goes back to step 4 of R100. -/
def State.backToStep4 (s : State) (k : Nat) : State :=
  if s.segState k == segLOST && (s.segOf k).present then (s.modSeg k fun x => { x with join := 4, cut := false, led := 0 }).pathsOff k else s

theorem State.backToStep4_frame (l : List Nat) (s : State) :
    (l.foldl State.backToStep4 s).regs = s.regs ∧ (l.foldl State.backToStep4 s).seg.hops = s.seg.hops := by
  induction l generalizing s with
  | nil => exact ⟨rfl, rfl⟩
  | cons k l ih =>
    have hone : (s.backToStep4 k).regs = s.regs ∧ (s.backToStep4 k).seg.hops = s.seg.hops := by
      unfold State.backToStep4
      split <;> exact ⟨rfl, rfl⟩
    obtain ⟨hr, hh⟩ := ih (s.backToStep4 k)
    exact ⟨hr.trans hone.1, hh.trans hone.2⟩

theorem State.post_seg (s : State) (r : Rec) : (s.post r).seg = s.seg := by
  have hrest : s.post r = { s with regs := (s.post r).regs, recorder := (s.post r).recorder, hrt := (s.post r).hrt } := (s.quiet_post r).rest
  rw [hrest]

theorem State.flag_seg (s : State) (fl : Flag) (n : Note) : (s.flag fl n).seg = s.seg := State.post_seg _ _

theorem State.restorePool_seg (s : State) (pool res : Nat) : (s.restorePool pool res).seg = s.seg := by
  refine (State.post_seg _ _).trans ?_
  unfold State.unspend
  extract_lets l s1
  split <;> rfl

/-- A whole ring as LATH_STATUS shows it (R97). -/
def State.wholeShown (s : State) : State :=
  s.wrs [(F.LATH_STATUS_A_WHOLE, 1), (F.LATH_STATUS_B_WHOLE, 1), (F.LATH_STATUS_BREAK_HOP, 0x3F)]

theorem ringWhole_shows (s : State) (d : List (Nat × (Nat × Nat))) :
    ∃ t, exec (.ringWhole d) s = .next t ∧ t.rd F.LATH_STATUS_BREAK_HOP = 63 ∧ t.rd F.LATH_STATUS_A_WHOLE = 1 ∧
      t.rd F.LATH_STATUS_B_WHOLE = 1 ∧ t.rd Fl.SEG_EVENT_RING_WHOLE.bit = 1 ∧ t.seg.hops = 0 := by
  let s2 : State := { (s.wholeShown.loadDelays d).retime with seg.hops := 0 }
  let s3 : State := s2.flag Fl.SEG_EVENT_RING_WHOLE { stfP := true }
  let s4 : State := s3.segList.foldl State.backToStep4 s3
  let t : State := if s4.isOn F.LATH_STATUS_A_DEGRADED || s4.isOn F.LATH_STATUS_B_DEGRADED then s4.sparing 5 5 0 0 else s4.restorePool 5 0
  obtain ⟨hregs, hhops⟩ := State.backToStep4_frame s3.segList s3
  have ht : s4.RingKept t := .ite (State.sparing_kept _ _ _ _ _ _) (State.restorePool_kept _ _ _)
  have htseg : t.seg = s4.seg := by
    show (if _ then _ else _ : State).seg = _
    split
    · exact State.post_seg _ _
    · exact State.restorePool_seg _ _ _
  have hflag := State.flag_kept_set s2 Fl.SEG_EVENT_RING_WHOLE { stfP := true }
  have hfrom : ∀ f, ringKey f.key = true → t.rd f = (s2.wr Fl.SEG_EVENT_RING_WHOLE.bit 1).rd f := fun f hf => by
    rw [ht.regs f hf, ← hflag.regs f hf]
    unfold State.rd
    rw [hregs]
  have hshown : ∀ f, ringKey f.key = true → statusKey f.key = true → f.key ≠ Fl.SEG_EVENT_RING_WHOLE.bit.key →
      t.rd f = s.wholeShown.rd f := fun f hf hs hne =>
    ((hfrom f hf).trans (State.rd_wr_ne _ _ _ _ hne)).trans
      (((s.wholeShown.loadDelays_kept d).trans (State.retime_kept _)).regs f hs)
  refine ⟨t, rfl, ?_, ?_, ?_, (hfrom _ (by decide)).trans (State.rd_wr_same _ _ _), ?_⟩
  · exact (hshown _ (by decide) (by decide) (by decide)).trans (State.rd_wr_same _ _ _)
  · exact (hshown _ (by decide) (by decide) (by decide)).trans (((State.rd_wr_ne _ _ _ _ (by decide)).trans
      (State.rd_wr_ne _ _ _ _ (by decide))).trans (State.rd_wr_same _ _ _))
  · exact (hshown _ (by decide) (by decide) (by decide)).trans ((State.rd_wr_ne _ _ _ _ (by decide)).trans (State.rd_wr_same _ _ _))
  · rw [htseg]
    exact hhops.trans (congrArg SegState.hops (State.flag_seg s2 _ _))

/-- Settles O22: each clause is its command's or event's lemma. -/
theorem cardsJoinAndLeaveTheRing : Obligations.CardsJoinAndLeaveTheRing := by
  unfold Obligations.CardsJoinAndLeaveTheRing
  exact ⟨fun s _ serial ov uv fac h => cardPresent_fitted s serial ov uv fac h,
    fun s _ serial ov uv fac h1 h26 => cardPresent_blank s serial ov uv fac h1 h26,
    fun s _ serial ov uv fac h1 h26 h => cardPresent_beyond s serial ov uv fac h1 h26 h,
    fun s _ serial ov uv blank fac h => cardPresent_noSlot s serial ov uv fac blank h,
    cardPresentStable_joins,
    fun _ _ _ _ h hp hl hj => ⟨joinCheckDone_passed h hp hl hj, joinCheckDone_failed h hp hl hj⟩,
    provisionalExpiry_serves, balancingHoldExpiry_frees, segCardFault_restarts,
    fun s k _ _ hm => cardLost_waits s k hm,
    cardLost_declares, cardIsolated_cuts, ringBreak_shows, ringWhole_shows, lathDirectionDegraded_moves, echoMeasure_loads⟩

end Sys2Proof.Machine
end

section
/-! PROOFS. W1C flags and their counters (R34, R35): what a set and a clear do, for every flag of the map. -/

namespace Sys2Proof.Machine

-- One proof after another: a thread for each would not fit the memory of the check.
set_option Elab.async false

/-- What every flag of the map is: a bit and a 16-bit counter at another place, and the first of the map at its address and bit. -/
def Flag.wellPlaced (fl : Flag) : Bool :=
  fl.bit.width == 1 && fl.cnt.width == 16 && fl.cnt.key != fl.bit.key && findFlag fl.bit.addr fl.bit.lo == some fl

theorem flagTable_wellPlaced : ∀ fl ∈ flagTable, fl.wellPlaced = true := by
  rw [← List.all_eq_true]
  decide

theorem State.raise_bit (s : State) {fl : Flag} (hw : fl.bit.width = 1) (hne : fl.cnt.key ≠ fl.bit.key) : (s.raise fl).rd fl.bit = 1 := by
  refine (State.rd_wr_ne _ _ _ _ hne.symm).trans ((State.rd_wr_same _ _ _).trans ?_)
  rw [hw]; rfl

theorem State.raise_cnt (s : State) {fl : Flag} (hw : fl.cnt.width = 16) (hne : fl.cnt.key ≠ fl.bit.key) :
    (s.raise fl).rd fl.cnt = (s.rd fl.cnt + 1) % 65536 := by
  refine (State.rd_wr_same _ _ _).trans ?_
  rw [State.rd_wr_ne _ _ _ _ hne, hw]
  rfl

theorem State.raise_sameRegs (s : State) (fl : Flag) : s.SameRegs (s.raise fl) [fl.bit.key, fl.cnt.key] := by
  intro f hf
  simp only [List.mem_cons, List.not_mem_nil, or_false, not_or] at hf
  exact (State.rd_wr_ne _ _ _ _ hf.2).trans (State.rd_wr_ne _ _ _ _ hf.1)

theorem exec_w1cFlagClear {fl : Flag} (h : findFlag fl.bit.addr fl.bit.lo = some fl) (hw : Bool) (s : State) :
    exec (.w1cFlagClear fl.bit.addr fl.bit.lo hw) s = .next (s.clearFlag fl hw) := by
  show execW1cFlagClear fl.bit.addr fl.bit.lo hw s = _
  unfold execW1cFlagClear
  rw [h]

/-- Settles O9: each clause is a law of `raise` or `clearFlag` at a flag that is well placed. -/
theorem flagsCountAndHardwareWins : Obligations.FlagsCountAndHardwareWins := by
  unfold Obligations.FlagsCountAndHardwareWins
  intro fl hfl s
  obtain ⟨⟨⟨hbit, hcnt⟩, hne⟩, hfind⟩ : ((fl.bit.width = 1 ∧ fl.cnt.width = 16) ∧ fl.cnt.key ≠ fl.bit.key) ∧
      findFlag fl.bit.addr fl.bit.lo = some fl := by
    simpa [Flag.wellPlaced] using flagTable_wellPlaced fl hfl
  have hclear : (s.clearFlag fl false).rd fl.bit = 0 := by
    refine (State.rd_wr_same _ _ _).trans (Nat.zero_mod _)
  refine ⟨s.raise_bit hbit hne, s.raise_cnt hcnt hne, rfl, s.raise_sameRegs fl,
    ⟨_, exec_w1cFlagClear hfind false s, rfl, hclear, State.rd_wr_ne _ _ _ _ hne, ?_⟩, ⟨_, exec_w1cFlagClear hfind true s, rfl⟩⟩
  exact fun f hf => State.rd_wr_ne _ _ _ _ (by simpa using hf)

end Sys2Proof.Machine
end

section
/-! PROOFS. The code RS(36,32) of R91: a codeword is a multiple of its generator, so that it decodes to its own data. -/

namespace Sys2Proof.Machine

-- One proof after another: a thread for each would not fit the memory of the check.
set_option Elab.async false

/-! ### The product is additive in its first factor -/

theorem two_mul_xor (a b : Nat) : 2 * (a ^^^ b) = 2 * a ^^^ 2 * b := by
  simpa [Nat.shiftLeft_eq, mul_comm] using Nat.shiftLeft_xor_distrib (i := 1) (a := a) (b := b)

/-- Times x, with the reduction written as a multiple of the top bit. -/
theorem gfTwice_eq {a : Nat} (ha : a < 256) : gfTwice a = 2 * a ^^^ a / 2 ^ 7 * 0x11D := by
  unfold gfTwice
  split
  · rw [Nat.div_eq_of_lt (by omega), zero_mul, Nat.xor_zero]
  · rw [show a / 2 ^ 7 = 1 by omega, one_mul]

theorem gfTwice_lt {a : Nat} (ha : a < 256) : gfTwice a < 256 := by
  have h : ∀ a : Fin 256, gfTwice a < 256 := by decide +kernel
  exact h ⟨a, ha⟩

theorem gfTwice_xor {a b : Nat} (ha : a < 256) (hb : b < 256) : gfTwice (a ^^^ b) = gfTwice a ^^^ gfTwice b := by
  have hreduce : ∀ p q : Fin 2, (p.val ^^^ q) * 0x11D = p * 0x11D ^^^ q * 0x11D := by decide
  have htop : (a / 2 ^ 7 ^^^ b / 2 ^ 7) * 0x11D = a / 2 ^ 7 * 0x11D ^^^ b / 2 ^ 7 * 0x11D :=
    hreduce ⟨a / 2 ^ 7, by omega⟩ ⟨b / 2 ^ 7, by omega⟩
  rw [gfTwice_eq (Nat.xor_lt_two_pow (n := 8) ha hb), gfTwice_eq ha, gfTwice_eq hb, two_mul_xor, Nat.xor_div_two_pow, htop]
  ac_rfl

theorem gfMulGo_lt (n b : Nat) {a : Nat} (ha : a < 256) : gfMulGo n a b < 256 := by
  induction n generalizing a b with
  | zero => exact Nat.zero_lt_succ _
  | succ n ih =>
    refine Nat.xor_lt_two_pow (n := 8) ?_ (ih _ (gfTwice_lt ha))
    split
    · exact ha
    · exact Nat.zero_lt_succ _

theorem gfMulGo_xor (n c : Nat) {a b : Nat} (ha : a < 256) (hb : b < 256) :
    gfMulGo n (a ^^^ b) c = gfMulGo n a c ^^^ gfMulGo n b c := by
  induction n generalizing a b c with
  | zero => exact (Nat.xor_self 0).symm
  | succ n ih =>
    simp only [gfMulGo]
    rw [gfTwice_xor ha hb, ih _ (gfTwice_lt ha) (gfTwice_lt hb)]
    split
    · ac_rfl
    · simp only [Nat.zero_xor]

theorem gfMul_lt (b : Nat) {a : Nat} (ha : a < 256) : gfMul a b < 256 := gfMulGo_lt 8 b ha

theorem gfMul_xor (c : Nat) {a b : Nat} (ha : a < 256) (hb : b < 256) : gfMul (a ^^^ b) c = gfMul a c ^^^ gfMul b c :=
  gfMulGo_xor 8 c ha hb

theorem gfMul_zero_left (c : Nat) : gfMul 0 c = 0 := by
  have h := gfMul_xor c (a := 0) (b := 0) (by decide) (by decide)
  rwa [Nat.xor_self, Nat.xor_self] at h

/-! ### A word as a polynomial -/

/-- Every symbol of the word is a byte. -/
def bytesOnly (w : List Byte) : Prop := ∀ b ∈ w, b < 256

/-- The word as a polynomial at `x`, after terms that come to `acc`. -/
def horner (x acc : Nat) (w : List Byte) : Nat := w.foldl (fun acc b => gfMul acc x ^^^ b) acc

theorem polyAt_append (x : Nat) (v w : List Byte) : polyAt x (v ++ w) = horner x (polyAt x v) w := List.foldl_append

/-- The sum of two words of one length is the sum of their polynomials. -/
theorem horner_zipWith_xor (x : Nat) {v w : List Byte} {a b : Nat} (hlen : v.length = w.length) (hv : bytesOnly v) (hw : bytesOnly w)
    (ha : a < 256) (hb : b < 256) : horner x (a ^^^ b) (v.zipWith (· ^^^ ·) w) = horner x a v ^^^ horner x b w := by
  induction v generalizing w a b with
  | nil =>
    rw [List.length_nil] at hlen
    rw [List.length_eq_zero_iff.1 hlen.symm]
    rfl
  | cons c v ih =>
    obtain _ | ⟨d, w⟩ := w
    · cases hlen
    · obtain ⟨hc, hv⟩ := List.forall_mem_cons.1 hv
      obtain ⟨hd, hw⟩ := List.forall_mem_cons.1 hw
      have hsum : gfMul (a ^^^ b) x ^^^ (c ^^^ d) = (gfMul a x ^^^ c) ^^^ (gfMul b x ^^^ d) := by
        rw [gfMul_xor x ha hb]; ac_rfl
      show horner x (gfMul (a ^^^ b) x ^^^ (c ^^^ d)) (v.zipWith (· ^^^ ·) w) = _
      rw [hsum]
      exact ih (Nat.succ.inj hlen) hv hw (Nat.xor_lt_two_pow (n := 8) (gfMul_lt x ha) hc) (Nat.xor_lt_two_pow (n := 8) (gfMul_lt x hb) hd)

/-! ### The remainder of the division -/

theorem rsGen_tail_bytesOnly (f : Fin 256) : bytesOnly ((rsGen.drop 1).map (gfMul f)) := fun b hb => by
  obtain ⟨c, -, rfl⟩ := List.mem_map.1 hb
  exact gfMul_lt c f.2

/-- Every multiple of the generator is zero at its four roots. -/
theorem horner_generator (i : Fin 4) (f : Fin 256) : horner (alpha i) f ((rsGen.drop 1).map (gfMul f)) = 0 := by
  revert i f
  decide +kernel

theorem bytesOnly_zipWith_xor {v w : List Byte} (hv : bytesOnly v) (hw : bytesOnly w) : bytesOnly (v.zipWith (· ^^^ ·) w) := fun b hb => by
  rw [← List.map_uncurry_zip_eq_zipWith] at hb
  obtain ⟨⟨c, d⟩, hmem, rfl⟩ := List.mem_map.1 hb
  exact Nat.xor_lt_two_pow (n := 8) (hv _ (List.of_mem_zip hmem).1) (hw _ (List.of_mem_zip hmem).2)

theorem rsGen_tail_length (f : Nat) : ((rsGen.drop 1).map (gfMul f)).length = 4 := by
  rw [List.length_map]
  decide +kernel

/-- Four bytes, as a remainder of the division is. -/
def isRemainder (r : List Nat) : Prop := r.length = 4 ∧ bytesOnly r

theorem isRemainder_zero : isRemainder [0, 0, 0, 0] := ⟨rfl, by unfold bytesOnly; decide⟩

/-- A remainder moves up by a degree: its top byte leaves and a zero comes in. -/
theorem isRemainder_shift {r0 : Nat} {r : List Nat} (hr : isRemainder (r0 :: r)) : isRemainder (r ++ [0]) := by
  obtain ⟨hlen, hbytes⟩ := hr
  refine ⟨by simpa using hlen, fun b hb => ?_⟩
  rcases List.mem_append.1 hb with h | h
  · exact hbytes b (List.mem_cons_of_mem _ h)
  · rw [List.mem_singleton.1 h]; decide

theorem rsStep_isRemainder {r : List Nat} {d : Nat} (hr : isRemainder r) (hd : d < 256) : isRemainder (rsStep r d) := by
  obtain _ | ⟨r0, r⟩ := r
  · cases hr.1
  · obtain ⟨hlen, hbytes⟩ := isRemainder_shift hr
    have hf : d ^^^ r0 < 256 := Nat.xor_lt_two_pow (n := 8) hd (hr.2 r0 List.mem_cons_self)
    refine ⟨?_, bytesOnly_zipWith_xor hbytes (rsGen_tail_bytesOnly ⟨d ^^^ r0, hf⟩)⟩
    show (List.zipWith _ (r ++ [0]) ((rsGen.drop 1).map (gfMul (d ^^^ r0)))).length = 4
    rw [List.length_zipWith, rsGen_tail_length, hlen]
    rfl

/-- A step of the division keeps it that the data so far and the remainder together are zero at each root. -/
theorem horner_rsStep (i : Fin 4) {r : List Nat} {acc d : Nat} (hr : isRemainder r) (hacc : acc < 256) (hd : d < 256)
    (h : horner (alpha i) acc r = 0) : horner (alpha i) (gfMul acc (alpha i) ^^^ d) (rsStep r d) = 0 := by
  obtain _ | ⟨r0, r⟩ := r
  · cases hr.1
  · obtain ⟨hlen, hbytes⟩ := isRemainder_shift hr
    have hr0 : r0 < 256 := hr.2 r0 List.mem_cons_self
    have hf : d ^^^ r0 < 256 := Nat.xor_lt_two_pow (n := 8) hd hr0
    have hsum : gfMul acc (alpha i) ^^^ d = (gfMul acc (alpha i) ^^^ r0) ^^^ (d ^^^ r0) := by
      rw [Nat.xor_assoc, Nat.xor_comm d, ← Nat.xor_assoc r0, Nat.xor_self, Nat.zero_xor]
    have hshift : horner (alpha i) (gfMul acc (alpha i) ^^^ r0) (r ++ [0]) = 0 := by
      have happend : horner (alpha i) acc ((r0 :: r) ++ [0]) = gfMul (horner (alpha i) acc (r0 :: r)) (alpha i) ^^^ 0 := List.foldl_append
      rw [h, gfMul_zero_left] at happend
      exact happend
    have hadd := horner_zipWith_xor (alpha i) (hlen.trans (rsGen_tail_length (d ^^^ r0)).symm) hbytes
      (rsGen_tail_bytesOnly ⟨d ^^^ r0, hf⟩) (Nat.xor_lt_two_pow (n := 8) (gfMul_lt (alpha i) hacc) hr0) hf
    rw [← hsum, hshift, horner_generator i ⟨d ^^^ r0, hf⟩] at hadd
    exact hadd

theorem horner_rsCheck (i : Fin 4) {r : List Nat} {acc : Nat} {data : List Byte} (hr : isRemainder r) (hacc : acc < 256)
    (hdata : bytesOnly data) (h : horner (alpha i) acc r = 0) : horner (alpha i) (horner (alpha i) acc data) (data.foldl rsStep r) = 0 := by
  induction data generalizing r acc with
  | nil => exact h
  | cons d data ih =>
    obtain ⟨hd, hdata⟩ := List.forall_mem_cons.1 hdata
    exact ih (rsStep_isRemainder hr hd) (Nat.xor_lt_two_pow (n := 8) (gfMul_lt _ hacc) hd) hdata (horner_rsStep i hr hacc hd h)

theorem foldl_rsStep_isRemainder {r : List Nat} {data : List Byte} (hr : isRemainder r) (hdata : bytesOnly data) :
    isRemainder (data.foldl rsStep r) := by
  induction data generalizing r with
  | nil => exact hr
  | cons d data ih =>
    obtain ⟨hd, hdata⟩ := List.forall_mem_cons.1 hdata
    exact ih (rsStep_isRemainder hr hd) hdata

theorem rsCheck_length {data : List Byte} (hdata : bytesOnly data) : (rsCheck data).length = 4 :=
  (foldl_rsStep_isRemainder isRemainder_zero hdata).1

/-- A codeword is zero at the four roots of the generator. -/
theorem polyAt_rsEncode (i : Fin 4) {data : List Byte} (hdata : bytesOnly data) : polyAt (alpha i) (rsEncode data) = 0 := by
  unfold rsEncode
  rw [polyAt_append]
  refine horner_rsCheck i isRemainder_zero (by decide) hdata ?_
  revert i
  decide +kernel

/-- Settles O21: an unchanged codeword has four syndromes of zero, and begins with its data. -/
theorem rsWordsReadBackWhole : Obligations.RsWordsReadBackWhole := by
  unfold Obligations.RsWordsReadBackWhole
  intro d hlen hbytes
  have hdata : (rsEncode d).take 32 = d := List.take_left' hlen
  refine ⟨?_, ?_, hdata⟩
  · unfold rsDecode
    rw [if_pos ⟨polyAt_rsEncode 0 hbytes, polyAt_rsEncode 1 hbytes, polyAt_rsEncode 2 hbytes, polyAt_rsEncode 3 hbytes⟩, hdata]
  · rw [rsEncode, List.length_append, hlen, rsCheck_length hbytes]

end Sys2Proof.Machine
end

section
/-! PROOFS. What a record, a flag with its record and a used-up spare move (R29, R30, R34, R488–R490, R501): a frame over registers and recorder. -/

namespace Sys2Proof.Machine

-- One proof after another: a thread for each would not fit the memory of the check.
set_option Elab.async false

/-! ### The frame of a note -/

/-- The recorder without the records and events on their way to it. -/
def RecState.stored (r : RecState) : RecState := { r with queue := [], stfpQ := [], omitted := 0, evq := [], evSeq := 0 }

/-- `t` comes from `s` by registers listed in `ks` and by records and events on their way. -/
structure State.Noted (ks : List Nat) (s t : State) : Prop where
  same : t = { s with regs := t.regs, recorder := t.recorder }
  regs : s.SameRegs t ks
  stored : t.recorder.stored = s.recorder.stored

namespace State.Noted

variable {ks ls : List Nat} {s t u : State}

theorem refl (s : State) : Noted ks s s := ⟨rfl, fun _ _ => rfl, rfl⟩

theorem trans (h : Noted ks s t) (k : Noted ks t u) : Noted ks s u := by
  refine ⟨?_, fun f hf => (k.regs f hf).trans (h.regs f hf), k.stored.trans h.stored⟩
  rw [k.same, h.same]

theorem mono (h : Noted ks s t) (hk : ks ⊆ ls) : Noted ls s t := ⟨h.same, fun f hf => h.regs f fun hm => hf (hk hm), h.stored⟩

theorem wr (s : State) (f : Field) (v : Nat) (hf : f.key ∈ ks) : Noted ks s (s.wr f v) :=
  ⟨rfl, fun g hg => State.rd_wr_ne s f g v fun e => hg (e ▸ hf), rfl⟩

theorem ite {c : Prop} [Decidable c] (ht : Noted ks s t) (hu : Noted ks s u) : Noted ks s (if c then t else u) := by
  split
  · exact ht
  · exact hu

theorem isOn (h : Noted ks s t) (f : Field) (hf : f.key ∉ ks) : t.isOn f = s.isOn f := by
  unfold State.isOn
  rw [h.regs f hf]

theorem cim (h : Noted ks s t) : t.cim = s.cim := by rw [h.same]
theorem hrt (h : Noted ks s t) : t.hrt = s.hrt := by rw [h.same]
theorem pwr (h : Noted ks s t) : t.pwr = s.pwr := by rw [h.same]
theorem seg (h : Noted ks s t) : t.seg = s.seg := by rw [h.same]
theorem safe (h : Noted ks s t) : t.safe = s.safe := by rw [h.same]
theorem upd (h : Noted ks s t) : t.upd = s.upd := by rw [h.same]
theorem time (h : Noted ks s t) : t.time = s.time := by rw [h.same]
theorem spent (h : Noted ks s t) : t.recorder.spent = s.recorder.spent := (congrArg RecState.spent h.stored :)

end State.Noted

/-- Posting a record moves the sequence number only (R489), and what is on its way to the recorder. -/
theorem State.post_noted (s : State) (r : Rec) : State.Noted recordKeys s (s.post r) := by
  have h : ∀ v, State.Noted recordKeys s (s.wr64 F.REC_SEQ_LO_VALUE F.REC_SEQ_HI_VALUE v) := fun v =>
    (State.Noted.wr s F.REC_SEQ_LO_VALUE v (by simp [recordKeys])).trans
      (State.Noted.wr _ F.REC_SEQ_HI_VALUE (v / two32) (by simp [recordKeys]))
  have hq : ∀ (u : State) (q p : List Rec) (n : Nat),
      State.Noted recordKeys u { u with recorder.queue := q, recorder.stfpQ := p, recorder.omitted := n } :=
    fun _ _ _ _ => ⟨rfl, fun _ _ => rfl, rfl⟩
  unfold State.post
  extract_lets seq r1 s1
  exact .ite (.refl s) (.ite (.ite ((h seq).trans (hq s1 _ _ _)) ((h seq).trans (hq s1 _ _ _))) ((h seq).trans (hq s1 _ _ _)))

/-- The registers that a flag with its record moves. -/
def flagKeys (fl : Flag) : List Nat := [fl.bit.key, fl.cnt.key] ++ recordKeys

theorem recordKeys_subset_flagKeys (fl : Flag) : recordKeys ⊆ flagKeys fl := List.subset_append_right _ _

theorem State.raise_noted (s : State) (fl : Flag) : State.Noted (flagKeys fl) s (s.raise fl) :=
  (State.Noted.wr s fl.bit 1 (by simp [flagKeys])).trans (State.Noted.wr _ fl.cnt _ (by simp [flagKeys]))

theorem State.flag_noted (s : State) (fl : Flag) (n : Note) : State.Noted (flagKeys fl) s (s.flag fl n) :=
  ((s.raise_noted fl).trans ((State.post_noted _ _).mono (recordKeys_subset_flagKeys fl))).trans ⟨rfl, fun _ _ => rfl, rfl⟩

/-- A flag's bit reads 1 after its record is posted. -/
theorem State.flag_bit (s : State) (fl : Flag) (n : Note) (hw : fl.bit.width = 1 := by rfl) (hne : fl.cnt.key ≠ fl.bit.key := by decide)
    (hrec : fl.bit.key ∉ recordKeys := by decide) : (s.flag fl n).rd fl.bit = 1 :=
  ((State.post_noted _ _).regs fl.bit hrec).trans (s.raise_bit hw hne)

/-! ### Spares (R29, R30, R501) -/

theorem State.detail_noted (s : State) (sys : Bool) (d : List Byte) (st : Status) (p m : Bool) :
    State.Noted recordKeys s (s.detail sys d st p m) := s.post_noted _

theorem State.sparing_noted (s : State) (pool action replaced taken : Nat) (m : Bool) :
    State.Noted recordKeys s (s.sparing pool action replaced taken m) := s.post_noted _

theorem State.spareTook_noted (s : State) (pool replaced taken : Nat) :
    State.Noted (flagKeys Fl.UC_EVENT_SUBSTITUTED) s (s.spareTook pool replaced taken) :=
  (s.flag_noted _ _).trans ((State.sparing_noted _ _ _ _ _ _).mono (recordKeys_subset_flagKeys _))

theorem State.spareTook_bit (s : State) (pool replaced taken : Nat) : (s.spareTook pool replaced taken).rd Fl.UC_EVENT_SUBSTITUTED.bit = 1 :=
  ((State.sparing_noted _ _ _ _ _ _).regs _ (by decide)).trans (s.flag_bit _ _)

/-- The registers that an exhausted pool moves. -/
def exhaustKeys : List Nat := F.UC_STATUS_EXHAUSTED.key :: flagKeys Fl.UC_EVENT_EXHAUSTED

/-- The state with another list of spares reported as used up. -/
def State.withSpent (s : State) (l : List (Nat × Nat)) : State := { s with recorder.spent := l }

/-- Apart from the list of spares used up, exhausting a pool is a note. -/
theorem State.exhaust_noted (s : State) (pool res : Nat) :
    State.Noted exhaustKeys (s.withSpent (s.exhaust pool res).recorder.spent) (s.exhaust pool res) ∧
      (pool, res) ∈ (s.exhaust pool res).recorder.spent ∧ s.recorder.spent ⊆ (s.exhaust pool res).recorder.spent := by
  by_cases h : s.recorder.spent.contains (pool, res) = true
  · have heq : s.exhaust pool res = s := if_pos h
    rw [heq]
    exact ⟨.refl s, List.contains_iff_mem.1 h, List.Subset.refl _⟩
  · let s1 : State := s.withSpent (s.recorder.spent ++ [(pool, res)])
    let s2 : State := if s1.poolOut pool then s1 else s1.wr F.UC_STATUS_EXHAUSTED (s1.rd F.UC_STATUS_EXHAUSTED + 2 ^ pool)
    have heq : s.exhaust pool res = (s2.flag Fl.UC_EVENT_EXHAUSTED { system := true, idx := pool }).sparing pool 2 res 0 true := if_neg h
    have h2 : State.Noted exhaustKeys s1 s2 := .ite (.refl s1) (.wr s1 _ _ (by simp [exhaustKeys]))
    have hnoted : State.Noted exhaustKeys s1 (s.exhaust pool res) := by
      rw [heq]
      exact (h2.trans ((s2.flag_noted _ _).mono (List.subset_cons_self _ _))).trans ((State.sparing_noted _ _ _ _ _ _).mono (by decide))
    have hspent : (s.exhaust pool res).recorder.spent = s.recorder.spent ++ [(pool, res)] := hnoted.spent
    rw [hspent]
    exact ⟨hnoted, by simp, List.subset_append_left _ _⟩
/-- A bit below the width survives the cut to the width. -/
theorem mod_two_pow_bit {n i w : Nat} (h : i < w) : n % 2 ^ w / 2 ^ i % 2 = n / 2 ^ i % 2 := by
  rw [← Nat.toNat_testBit, ← Nat.toNat_testBit, Nat.testBit_mod_two_pow, decide_eq_true h, Bool.true_and]

theorem State.poolOut_iff (s : State) (pool : Nat) : s.poolOut pool = true ↔ s.rd F.UC_STATUS_EXHAUSTED / 2 ^ pool % 2 = 1 := beq_iff_eq

theorem State.poolOut_congr {s t : State} (pool : Nat) (h : t.rd F.UC_STATUS_EXHAUSTED = s.rd F.UC_STATUS_EXHAUSTED) :
    t.poolOut pool = s.poolOut pool := by
  unfold State.poolOut
  rw [h]

/-- A pool of which a spare was not yet reported as used up shows in EXHAUSTED, with the flag. -/
theorem State.exhaust_shows (s : State) {pool res : Nat} (hp : pool < 7) (h : (pool, res) ∉ s.recorder.spent) :
    (s.exhaust pool res).poolOut pool = true ∧ (s.exhaust pool res).rd Fl.UC_EVENT_EXHAUSTED.bit = 1 := by
  let s1 : State := s.withSpent (s.recorder.spent ++ [(pool, res)])
  let s2 : State := if s1.poolOut pool then s1 else s1.wr F.UC_STATUS_EXHAUSTED (s1.rd F.UC_STATUS_EXHAUSTED + 2 ^ pool)
  have heq : s.exhaust pool res = (s2.flag Fl.UC_EVENT_EXHAUSTED { system := true, idx := pool }).sparing pool 2 res 0 true :=
    if_neg fun hc => h (List.contains_iff_mem.1 hc)
  have hset : s2.poolOut pool = true := by
    by_cases hout : s1.poolOut pool = true
    · exact (congrArg (State.poolOut · pool) (if_pos hout)).trans hout
    · refine (congrArg (State.poolOut · pool) (if_neg hout)).trans ((State.poolOut_iff _ _).2 ?_)
      rw [State.rd_wr_same, show F.UC_STATUS_EXHAUSTED.width = 7 from rfl, mod_two_pow_bit hp]
      exact add_two_pow_sets_bit fun hbit => hout ((s1.poolOut_iff pool).2 hbit)
  have hlast := State.sparing_noted (s2.flag Fl.UC_EVENT_EXHAUSTED { system := true, idx := pool }) pool 2 res 0 true
  rw [heq]
  refine ⟨?_, (hlast.regs _ (by decide)).trans (s2.flag_bit _ _)⟩
  exact (State.poolOut_congr pool ((hlast.regs _ (by decide)).trans ((s2.flag_noted _ _).regs _ (by decide)))).trans hset

end Sys2Proof.Machine
end

section
/-! PROOFS. Charge counter, Hall sensor and cross-check, string voltage and power cards (R157, R160–R163, R168, R170, R291). -/

namespace Sys2Proof.Machine

-- One proof after another: a thread for each would not fit the memory of the check.
set_option Elab.async false

/-! ### Charge counter (R157) -/

theorem chargeCounterSave_saves (s : State) : ∃ t, exec .chargeCounterSave s = .next t ∧ t.cim.charge = s.cim.charge ∧
    t.cim.sfc = { value := s.cim.charge, gen := max s.cim.sfc.gen s.cim.mram.gen + 1, valid := true } ∧
    t.cim.mram = (if s.pwr.ctl then t.cim.sfc else s.cim.mram) ∧ t = { s with cim.sfc := t.cim.sfc, cim.mram := t.cim.mram } := by
  refine ⟨s.saveCharge, rfl, ?_⟩
  unfold State.saveCharge
  cases s.pwr.ctl <;> exact ⟨rfl, rfl, rfl, rfl⟩

/-! ### Hall sensor (R160, R161) -/

theorem inR_iff (lo hi x : Nat) : inR lo hi x = true ↔ lo ≤ x ∧ x ≤ hi := by
  simp [inR]

theorem hallFault_raises (s : State) (mv : Int) (p n span move : Nat)
    (h : 10200 < mv.natAbs ∨ p < 5 ∨ 100 < p ∨ n < 5 ∨ 100 < n ∨ (span ≤ 1 ∧ 50 * s.rd F.CIM_HALL_PARAM_FS_A < move)) :
    exec (.hallFault mv p n span move) s =
      .next (((s.wr F.CIM_STATUS_HALL_FAULT 1).raiseCause .hallFault 2).flag Fl.CIM_EVENT_HALL_FAULT { stfP := true }) := by
  refine congrArg Host.Outcome.next (if_neg fun hok => ?_)
  simp only [inR_iff, Bool.and_eq_false_iff, decide_eq_false_iff_not] at hok
  omega

theorem hallFault_quiet (s : State) (mv : Int) (p n span move : Nat) (hmv : mv.natAbs ≤ 10200) (hp : 5 ≤ p ∧ p ≤ 100)
    (hn : 5 ≤ n ∧ n ≤ 100) (hmove : 1 < span ∨ move ≤ 50 * s.rd F.CIM_HALL_PARAM_FS_A) : exec (.hallFault mv p n span move) s = .next s := by
  refine congrArg Host.Outcome.next (if_pos ⟨hmv, (inR_iff _ _ _).2 hp, (inR_iff _ _ _).2 hn, ?_⟩)
  simp only [Bool.and_eq_false_iff, decide_eq_false_iff_not]
  omega

/-! ### Cross-check (R162, R291) -/

/-- The state in which a comparison shows the Hall current of the latest code. -/
def State.hallShown (s : State) (code : Int) : State :=
  s.wrI F.CIM_HALL_CURRENT_MA (clampI (-2147483647) 2147483647 (roundDiv (s.hallHalf (hallCode code)) 2))

theorem State.rd_hallShown_ne (s : State) (code : Int) (f : Field) (hf : f.key ≠ F.CIM_HALL_CURRENT_MA.key) : (s.hallShown code).rd f = s.rd f :=
  State.rd_wr_ne _ _ _ _ hf

theorem State.rdI_hallShown (s : State) (code : Int) : (s.hallShown code).rdI F.CIM_HALL_CURRENT_MA =
    max (-2147483647) (min 2147483647 (roundDiv (s.hallHalf (max (-2048) (min 2047 code))) 2)) := by
  obtain ⟨hlo, hhi⟩ := clampI_bounds (by decide : (-2147483647 : Int) ≤ 2147483647) (roundDiv (s.hallHalf (hallCode code)) 2)
  have hread : (s.hallShown code).rd F.CIM_HALL_CURRENT_MA = _ := State.rd_wr_same _ _ _
  unfold State.rdI
  rw [hread, Nat.mod_eq_of_lt (ofSigned_lt _ _)]
  exact toSigned_ofSigned (by decide) (by show -2 ^ 31 ≤ _; omega) (by show _ < 2 ^ 31; omega)

/-- A comparison has been counted: those in a row beyond and within the limit (R162). -/
def State.xCounted (s : State) (bad good : Nat) : State := { s with cim.xFor := s.cim.xFor + 1, cim.xBad := bad, cim.xGood := good }

/-- XCHECK is set, and the wait of R291 begins. -/
def State.xSet (s : State) : State :=
  (({ s with cim.xFor := 0 } : State).wr F.SAFE_STATUS_XCHECK_ACTIVE 1).flag Fl.CIM_EVENT_XCHECK { system := true, stfP := true }

/-- A comparison found the means too far apart; `n` such comparisons in a row (R162). -/
def State.xBeyond (s : State) (n : Nat) : State :=
  if n = 1000 ∧ s.isOn F.SAFE_STATUS_XCHECK_ACTIVE = false then (s.xCounted n 0).xSet else s.xCounted n 0

/-- A comparison found the means close; `n` such comparisons in a row (R162). -/
def State.xWithin (s : State) (n : Nat) : State :=
  if 10000 ≤ n then (s.xCounted 0 n).wr F.SAFE_STATUS_XCHECK_ACTIVE 0 else s.xCounted 0 n

theorem State.xSet_spec (s : State) : s.xSet.cim = { s.cim with xFor := 0 } ∧ s.xSet.isOn F.SAFE_STATUS_XCHECK_ACTIVE = true ∧
    s.xSet.rd Fl.CIM_EVENT_XCHECK.bit = 1 ∧ s.xSet.rd F.CIM_HALL_CURRENT_MA = s.rd F.CIM_HALL_CURRENT_MA := by
  have hflag := State.flag_noted (({ s with cim.xFor := 0 } : State).wr F.SAFE_STATUS_XCHECK_ACTIVE 1) Fl.CIM_EVENT_XCHECK
    { system := true, stfP := true }
  refine ⟨hflag.cim, (hflag.isOn F.SAFE_STATUS_XCHECK_ACTIVE (by decide)).trans ?_, State.flag_bit _ _ _,
    (hflag.regs F.CIM_HALL_CURRENT_MA (by decide)).trans (State.rd_wr_ne _ _ _ _ (by decide))⟩
  rw [State.isOn, State.rd_wr_same]
  rfl

theorem State.xBeyond_counts (s : State) (n : Nat) : (s.xBeyond n).cim.xBad = n ∧ (s.xBeyond n).cim.xGood = 0 ∧
    (s.xBeyond n).rd F.CIM_HALL_CURRENT_MA = s.rd F.CIM_HALL_CURRENT_MA := by
  unfold State.xBeyond
  split
  · obtain ⟨hcim, -, -, hhall⟩ := (s.xCounted n 0).xSet_spec
    exact ⟨by rw [hcim]; rfl, by rw [hcim]; rfl, hhall⟩
  · exact ⟨rfl, rfl, rfl⟩

theorem State.xWithin_counts (s : State) (n : Nat) : (s.xWithin n).cim.xBad = 0 ∧ (s.xWithin n).cim.xGood = n ∧
    (s.xWithin n).isOn F.SAFE_STATUS_XCHECK_ACTIVE = (s.isOn F.SAFE_STATUS_XCHECK_ACTIVE && decide (n < 10000)) ∧
    (s.xWithin n).rd F.CIM_HALL_CURRENT_MA = s.rd F.CIM_HALL_CURRENT_MA := by
  unfold State.xWithin
  split
  · next h =>
    refine ⟨rfl, rfl, ?_, State.rd_wr_ne _ _ _ _ (by decide)⟩
    rw [State.isOn, State.rd_wr_same, decide_eq_false (by omega), Bool.and_false]
    rfl
  · next h =>
    refine ⟨rfl, rfl, ?_, rfl⟩
    rw [decide_eq_true (by omega), Bool.and_true]
    rfl

theorem xcheckCompare_noBlock (s : State) (sum code : Int) (h : s.safe.blockA = []) :
    exec (.xcheckCompare sum code) s = .next (s.hallShown code) := by
  refine congrArg Host.Outcome.next (if_pos ?_)
  show s.safe.blockA.isEmpty = true
  rw [h]; rfl

/-- What the Hall mean and the shunt mean differ by, with a parameter set in force. -/
theorem xcheckCompare_eq (s : State) (sum code : Int) (h : s.safe.blockA ≠ []) : exec (.xcheckCompare sum code) s = .next
    (if ((40 * pHallFs s.safe.blockA : Nat) : Rat) < |s.shuntMean2 - (s.hallHalf (clampI (-20480000) 20470000 sum) : Rat) / 10000| then
      (s.hallShown code).xBeyond (s.cim.xBad + 1) else (s.hallShown code).xWithin (s.cim.xGood + 1)) := by
  have hhalf : ∀ c, (s.hallShown code).hallHalf c = s.hallHalf c := fun c => by
    unfold State.hallHalf State.isOn
    rw [State.rd_hallShown_ne _ _ _ (by decide), State.rd_hallShown_ne _ _ _ (by decide)]
  show execXcheckCompare sum code s = _
  unfold execXcheckCompare
  extract_lets s0 hall bad s1 n s2 m s3
  rw [if_neg (by show ¬ s.safe.blockA.isEmpty = true; simpa using h)]
  have hbad : bad = decide (((40 * pHallFs s.safe.blockA : Nat) : Rat) <
      |s.shuntMean2 - (s.hallHalf (clampI (-20480000) 20470000 sum) : Rat) / 10000|) := by
    rw [← hhalf]; rfl
  rw [hbad]
  simp only [decide_eq_true_eq]
  rfl

theorem xcheckCompare_shows (s : State) (sum code : Int) : ∃ t, exec (.xcheckCompare sum code) s = .next t ∧
    t.rdI F.CIM_HALL_CURRENT_MA = max (-2147483647) (min 2147483647 (roundDiv (s.hallHalf (max (-2048) (min 2047 code))) 2)) := by
  by_cases h : s.safe.blockA = []
  · exact ⟨_, xcheckCompare_noBlock s sum code h, s.rdI_hallShown code⟩
  · have hstay : ∀ t : State, t.rd F.CIM_HALL_CURRENT_MA = (s.hallShown code).rd F.CIM_HALL_CURRENT_MA →
        t.rdI F.CIM_HALL_CURRENT_MA = _ := fun t ht => (by unfold State.rdI; rw [ht] : t.rdI _ = _).trans (s.rdI_hallShown code)
    refine ⟨_, xcheckCompare_eq s sum code h, hstay _ ?_⟩
    split
    · exact (State.xBeyond_counts _ _).2.2
    · exact (State.xWithin_counts _ _).2.2.2

theorem State.isOn_hallShown (s : State) (code : Int) :
    (s.hallShown code).isOn F.SAFE_STATUS_XCHECK_ACTIVE = s.isOn F.SAFE_STATUS_XCHECK_ACTIVE := by
  unfold State.isOn
  rw [State.rd_hallShown_ne _ _ _ (by decide)]

theorem xcheckCompare_within (s : State) (sum code : Int) (h : s.safe.blockA ≠ [])
    (hclose : |s.shuntMean2 - (s.hallHalf (clampI (-20480000) 20470000 sum) : Rat) / 10000| ≤ ((40 * pHallFs s.safe.blockA : Nat) : Rat)) :
    ∃ t, exec (.xcheckCompare sum code) s = .next t ∧ t.cim.xBad = 0 ∧ t.cim.xGood = s.cim.xGood + 1 ∧
      t.isOn F.SAFE_STATUS_XCHECK_ACTIVE = (s.isOn F.SAFE_STATUS_XCHECK_ACTIVE && decide (s.cim.xGood + 1 < 10000)) := by
  obtain ⟨hbad, hgood, hon, -⟩ := (s.hallShown code).xWithin_counts (s.cim.xGood + 1)
  refine ⟨_, (xcheckCompare_eq s sum code h).trans (congrArg _ (if_neg (not_lt.2 hclose))), hbad, hgood, ?_⟩
  rw [hon, State.isOn_hallShown]

theorem xcheckCompare_beyond (s : State) (sum code : Int) (h : s.safe.blockA ≠ [])
    (hfar : ((40 * pHallFs s.safe.blockA : Nat) : Rat) < |s.shuntMean2 - (s.hallHalf (clampI (-20480000) 20470000 sum) : Rat) / 10000|) :
    ∃ t, exec (.xcheckCompare sum code) s = .next t ∧ t.cim.xBad = s.cim.xBad + 1 ∧ t.cim.xGood = 0 ∧
      (s.cim.xBad = 999 → s.isOn F.SAFE_STATUS_XCHECK_ACTIVE = false → t.isOn F.SAFE_STATUS_XCHECK_ACTIVE = true ∧
        t.rd Fl.CIM_EVENT_XCHECK.bit = 1 ∧ t.cim.xFor = 0) := by
  obtain ⟨hbad, hgood, -⟩ := (s.hallShown code).xBeyond_counts (s.cim.xBad + 1)
  refine ⟨_, (xcheckCompare_eq s sum code h).trans (congrArg _ (if_pos hfar)), hbad, hgood, fun hlast hoff => ?_⟩
  have heq : (s.hallShown code).xBeyond (s.cim.xBad + 1) = ((s.hallShown code).xCounted (s.cim.xBad + 1) 0).xSet :=
    if_pos ⟨by omega, (s.isOn_hallShown code).trans hoff⟩
  obtain ⟨hcim, hon, hbit, -⟩ := ((s.hallShown code).xCounted (s.cim.xBad + 1) 0).xSet_spec
  rw [heq]
  exact ⟨hon, hbit, by rw [hcim]⟩

theorem xcheckCause_raises (s : State) (hon : s.isOn F.SAFE_STATUS_XCHECK_ACTIVE = true) (hfor : 1000 * u8 s.safe.blockA 89 ≤ s.cim.xFor) :
    exec .xcheckCause s = .next (s.raiseCause .xcheck 1) :=
  congrArg Host.Outcome.next (if_pos (by simp [hon, hfor]))

theorem xcheckCause_waits (s : State) (h : s.isOn F.SAFE_STATUS_XCHECK_ACTIVE = false ∨ s.cim.xFor < 1000 * u8 s.safe.blockA 89) :
    exec .xcheckCause s = .next s := by
  refine congrArg Host.Outcome.next (if_neg ?_)
  rcases h with h | h
  · simp [h]
  · simp [h]

/-! ### String voltage and power cards (R163, R168, R170) -/

theorem State.mirrorVstring_eq (s : State) : s.mirrorVstring =
    s.wr F.CIM_VSTRING_MV (match (if s.isOn F.PWR_AUX_STATUS_PSU_A_OK then s.cim.vA else s.cim.vB) with
      | some v => satS 32 v
      | none => 0x80000000) := by
  unfold State.mirrorVstring
  generalize (if s.isOn F.PWR_AUX_STATUS_PSU_A_OK then s.cim.vA else s.cim.vB) = v
  cases v <;> rfl

theorem vstringUpdate_shows (s : State) (a b : Option Int) : exec (.vstringUpdate a b) s = .next
    (({ s with cim.vA := a, cim.vB := b } : State).wr F.CIM_VSTRING_MV
      (match (if s.isOn F.PWR_AUX_STATUS_PSU_A_OK then a else b) with | some v => satS 32 v | none => 0x80000000)) := by
  refine congrArg Host.Outcome.next ((State.mirrorVstring_eq _).trans ?_)
  rfl

/-- Whether the monitor may inject hangs on these registers and on the candidate of R169. -/
def isoMayKeys : List Nat := [F.CIM_ISO_CTRL_ENABLE.key, F.PWR_STATE_STATE.key, F.SAFE_STATUS_STRING_CLOSED.key, F.CIM_ISO_CTRL_BANK_COORD.key,
  F.BANK_CFG_SIZE_M1.key, F.BANK_CFG_POSITION.key]

theorem State.isoMay_congr {s t : State} (hregs : ∀ f : Field, f.key ∈ isoMayKeys → t.rd f = s.rd f)
    (hcand : t.cim.candidate = s.cim.candidate) : t.isoMay = s.isoMay := by
  unfold State.isoMay State.closed State.isOn
  rw [hcand, hregs F.CIM_ISO_CTRL_ENABLE (by decide), hregs F.PWR_STATE_STATE (by decide), hregs F.SAFE_STATUS_STRING_CLOSED (by decide),
    hregs F.CIM_ISO_CTRL_BANK_COORD (by decide), hregs F.BANK_CFG_SIZE_M1 (by decide), hregs F.BANK_CFG_POSITION (by decide)]

/-- The monitor before its role is shown: one that comes to inject listens first (R170). -/
def State.isoListen (s : State) : State :=
  if !s.isoMay then { s with cim.listening := false, cim.foreign := false }
  else if s.rd F.CIM_ISO_STATUS_ROLE = 1 ∨ s.cim.foreign = true then s
  else { s with cim.listening := true, cim.positive := true, cim.firstHalf := none }

theorem State.isoRole_eq (s : State) : ∃ r, s.isoRole = s.isoListen.wr F.CIM_ISO_STATUS_ROLE r := ⟨_, rfl⟩

theorem State.isoListen_frame (s : State) : s.isoListen.regs = s.regs ∧ s.isoListen.recorder = s.recorder := by
  unfold State.isoListen
  split
  · exact ⟨rfl, rfl⟩
  · split <;> exact ⟨rfl, rfl⟩

/-- The role moves one register and leaves the recorder alone. -/
theorem State.isoRole_frame (s : State) : s.SameRegs s.isoRole [F.CIM_ISO_STATUS_ROLE.key] ∧ s.isoRole.recorder = s.recorder := by
  obtain ⟨r, heq⟩ := s.isoRole_eq
  obtain ⟨hregs, hrec⟩ := s.isoListen_frame
  rw [heq]
  refine ⟨fun f hf => (State.rd_wr_ne _ _ _ _ (by simpa using hf)).trans ?_, hrec⟩
  unfold State.rd
  rw [hregs]

/-- A monitor that has just begun to listen, where it may inject at all, listens on; a half period in hand is not taken up. -/
theorem State.isoRole_listens (s : State) (hlisten : s.isoMay = true → s.cim.listening = true) (hhalf : s.cim.firstHalf = none) :
    s.isoRole.cim.listening = s.isoMay ∧ s.isoRole.cim.firstHalf = none := by
  show s.isoListen.cim.listening = _ ∧ s.isoListen.cim.firstHalf = none
  unfold State.isoListen
  cases hmay : s.isoMay
  · exact ⟨rfl, hhalf⟩
  · simp only [Bool.not_true, Bool.false_eq_true, if_false]
    split
    · exact ⟨hlisten hmay, hhalf⟩
    · exact ⟨rfl, rfl⟩

/-- The registers that the voltage shown and the monitor's role move. -/
def vstringKeys : List Nat := [F.CIM_VSTRING_MV.key, F.CIM_ISO_STATUS_ROLE.key]

theorem State.vstringRole_frame (s : State) :
    s.SameRegs s.mirrorVstring.isoRole vstringKeys ∧ s.mirrorVstring.isoRole.recorder = s.recorder := by
  obtain ⟨hregs, hrec⟩ := s.mirrorVstring.isoRole_frame
  rw [s.mirrorVstring_eq] at hregs hrec ⊢
  refine ⟨fun f hf => ?_, hrec⟩
  simp only [vstringKeys, List.mem_cons, List.not_mem_nil, or_false, not_or] at hf
  exact (hregs f (by simpa using hf.2)).trans (State.rd_wr_ne _ _ _ _ hf.1)

/-- The monitor of a card that begins to listen, after the voltage shown. -/
theorem State.vstringRole_listens (s : State) (hlisten : s.isoMay = true → s.cim.listening = true) (hhalf : s.cim.firstHalf = none) :
    s.mirrorVstring.isoRole.cim.listening = s.isoMay ∧ s.mirrorVstring.isoRole.cim.firstHalf = none := by
  have hmay : s.mirrorVstring.isoMay = s.isoMay := by
    rw [s.mirrorVstring_eq]
    refine State.isoMay_congr (fun f hf => State.rd_wr_ne _ _ _ _ fun e => ?_) rfl
    rw [e] at hf
    revert hf
    decide
  rw [← hmay]
  refine State.isoRole_listens _ (fun h => ?_) ?_
  · rw [s.mirrorVstring_eq]; exact hlisten (hmay ▸ h)
  · rw [s.mirrorVstring_eq]; exact hhalf

theorem State.Noted.isoMay {ks : List Nat} {s t : State} (h : State.Noted ks s t) (hk : ∀ q ∈ isoMayKeys, q ∉ ks := by decide) :
    t.isoMay = s.isoMay := State.isoMay_congr (fun f hf => h.regs f (hk _ hf)) (by rw [h.cim])

/-- The status bit of a power card. -/
def psuField (b : Bool) : Field := if b then F.PWR_AUX_STATUS_PSU_B_OK else F.PWR_AUX_STATUS_PSU_A_OK

theorem State.psuField_noted (s : State) (b : Bool) (v : Nat) : State.Noted [(psuField b).key] s (s.wr (psuField b) v) :=
  .wr s _ v List.mem_cons_self

theorem psuField_not_mem (b : Bool) : (psuField b).key ∉ flagKeys Fl.UC_EVENT_SUBSTITUTED ∧ (psuField b).key ∉ exhaustKeys ∧
    (psuField b).key ∉ vstringKeys ∧ (psuField b).key ∉ recordKeys ∧ ∀ q ∈ isoMayKeys, q ∉ [(psuField b).key] := by
  cases b <;> decide

/-- A power card has left tolerance: the other carries on, and no spare is left (R28, R30). -/
def State.psuOut (s : State) (b : Bool) : State :=
  (((s.wr (psuField b) 0).spareTook 6 (if b then 1 else 0) (if b then 0 else 1))).exhaust 6

theorem State.psuOut_spec (s : State) (b : Bool) : (s.psuOut b).rd (psuField b) = 0 ∧ (s.psuOut b).rd Fl.UC_EVENT_SUBSTITUTED.bit = 1 ∧
    (6, 0) ∈ (s.psuOut b).recorder.spent ∧
    ((6, 0) ∉ s.recorder.spent → (s.psuOut b).poolOut 6 = true ∧ (s.psuOut b).rd Fl.UC_EVENT_EXHAUSTED.bit = 1) ∧
    (s.psuOut b).isoMay = s.isoMay := by
  obtain ⟨hflag, hexh, -, -, hmay⟩ := psuField_not_mem b
  have h1 := s.psuField_noted b 0
  have h2 := (s.wr (psuField b) 0).spareTook_noted 6 (if b then 1 else 0) (if b then 0 else 1)
  obtain ⟨h3, hspent, -⟩ := ((s.wr (psuField b) 0).spareTook 6 (if b then 1 else 0) (if b then 0 else 1)).exhaust_noted 6 0
  refine ⟨?_, (h3.regs _ (by decide)).trans (State.spareTook_bit _ _ _ _), hspent, fun h => ?_, ?_⟩
  · exact (h3.regs _ hexh).trans ((h2.regs _ hflag).trans ((State.rd_wr_same _ _ _).trans (Nat.zero_mod _)))
  · exact State.exhaust_shows _ (by decide) (by rwa [h2.spent])
  · exact h3.isoMay.trans (h2.isoMay.trans (h1.isoMay hmay))

/-- PSU-A's tolerance has changed: the monitor listens where `l`, and starts anew (R170). -/
def State.listenAnew (s : State) (l : Bool) : State := { s with cim.listening := l, cim.positive := true, cim.firstHalf := none }

/-- The string voltage and the monitor's role follow a change of a power card; PSU-A's starts the listening. -/
theorem State.psuFollow_spec (s : State) (b l : Bool) (hl : s.isoMay = true → l = true) :
    s.SameRegs (if b then s else s.listenAnew l).mirrorVstring.isoRole vstringKeys ∧
    (if b then s else s.listenAnew l).mirrorVstring.isoRole.recorder = s.recorder ∧
    (b = false → (if b then s else s.listenAnew l).mirrorVstring.isoRole.cim.listening = s.isoMay ∧
      (if b then s else s.listenAnew l).mirrorVstring.isoRole.cim.firstHalf = none) := by
  cases b
  · obtain ⟨hregs, hrec⟩ := (s.listenAnew l).vstringRole_frame
    exact ⟨hregs, hrec, fun _ => (s.listenAnew l).vstringRole_listens hl rfl⟩
  · obtain ⟨hregs, hrec⟩ := s.vstringRole_frame
    exact ⟨hregs, hrec, fun h => by cases h⟩

theorem psuOutOfTolerance_spec (s : State) (b : Bool) : ∃ t, exec (.psuOutOfTolerance b) s = .next t ∧
    t.rd (if b then F.PWR_AUX_STATUS_PSU_B_OK else F.PWR_AUX_STATUS_PSU_A_OK) = 0 ∧ t.rd Fl.UC_EVENT_SUBSTITUTED.bit = 1 ∧
    ((6, 0) ∈ t.recorder.spent) ∧ ((6, 0) ∉ s.recorder.spent → t.poolOut 6 = true ∧ t.rd Fl.UC_EVENT_EXHAUSTED.bit = 1) ∧
    (b = false → t.cim.listening = s.isoMay ∧ t.cim.firstHalf = none) := by
  obtain ⟨hoff, hbit, hspent, hout, hmay⟩ := s.psuOut_spec b
  obtain ⟨hregs, hrec, hlisten⟩ := (s.psuOut b).psuFollow_spec b true fun _ => rfl
  obtain ⟨-, -, hv, -, -⟩ := psuField_not_mem b
  refine ⟨_, rfl, (hregs (psuField b) hv).trans hoff, (hregs _ (by decide)).trans hbit, ?_, fun h => ?_, fun hb => ?_⟩
  · exact (congrArg (fun r => (6, 0) ∈ r.spent) hrec).mpr hspent
  · obtain ⟨hpool, hflag⟩ := hout h
    exact ⟨(State.poolOut_congr 6 (hregs _ (by decide))).trans hpool, (hregs _ (by decide)).trans hflag⟩
  · rw [← hmay]
    exact hlisten hb

/-- The card's serial number is kept (R505), with a record where it has changed. -/
def State.psuSerial (s : State) (b : Bool) (n : Nat) : State :=
  let key := if b then 3 else 2
  let old := Tbl.get 0 s.recorder.serials key
  let s1 : State := { s with recorder.serials := Tbl.put s.recorder.serials key n }
  if old = 0 ∨ old = n then s1 else s1.detail true ([key, 0] ++ leBytes 8 old ++ leBytes 8 n) .ok true true

/-- The pool of the power cards is whole again, or a card of it is back (action 5). -/
def State.psuRestored (s : State) (b : Bool) : State :=
  if s.isOn F.PWR_AUX_STATUS_PSU_A_OK && s.isOn F.PWR_AUX_STATUS_PSU_B_OK then s.restorePool 6 (if b then 1 else 0)
  else s.sparing 6 5 (if b then 1 else 0) 0

/-- The registers that a power card's return moves before the voltage shown. -/
def psuInKeys : List Nat := F.UC_STATUS_EXHAUSTED.key :: recordKeys

theorem State.psuSerial_spec (s : State) (b : Bool) (n : Nat) : s.SameRegs (s.psuSerial b n) psuInKeys ∧
    Tbl.get 0 (s.psuSerial b n).recorder.serials (if b then 3 else 2) = n ∧ (s.psuSerial b n).cim = s.cim := by
  let s1 : State := { s with recorder.serials := Tbl.put s.recorder.serials (if b then 3 else 2) n }
  have hnote : State.Noted psuInKeys s1 (s.psuSerial b n) :=
    .ite (.refl s1) ((s1.detail_noted _ _ _ _ _).mono (List.subset_cons_self _ _))
  have hserial : (s.psuSerial b n).recorder.serials = s1.recorder.serials := (congrArg RecState.serials hnote.stored :)
  exact ⟨hnote.regs, by rw [hserial]; exact Tbl.get_put_same _ _ _ _, hnote.cim⟩

theorem State.unspend_spec (s : State) (pool res : Nat) : s.SameRegs (s.unspend pool res) [F.UC_STATUS_EXHAUSTED.key] ∧
    (s.unspend pool res).recorder.serials = s.recorder.serials ∧ (s.unspend pool res).cim = s.cim := by
  unfold State.unspend
  extract_lets l s1
  split
  · exact ⟨fun f hf => State.rd_wr_ne _ _ _ _ (by simpa using hf), rfl, rfl⟩
  · exact ⟨fun _ _ => rfl, rfl, rfl⟩

theorem State.psuRestored_spec (s : State) (b : Bool) : s.SameRegs (s.psuRestored b) psuInKeys ∧
    (s.psuRestored b).recorder.serials = s.recorder.serials ∧ (s.psuRestored b).cim = s.cim := by
  unfold State.psuRestored
  split
  · have hnote := (s.unspend 6 0).sparing_noted 6 5 (if b then 1 else 0) 0 false
    obtain ⟨hregs, hserials, hcim⟩ := s.unspend_spec 6 0
    refine ⟨fun f hf => ?_, (congrArg RecState.serials hnote.stored :).trans hserials, hnote.cim.trans hcim⟩
    simp only [psuInKeys, List.mem_cons, not_or] at hf
    exact (hnote.regs f hf.2).trans (hregs f (by simpa using hf.1))
  · have hnote := s.sparing_noted 6 5 (if b then 1 else 0) 0 false
    exact ⟨fun f hf => hnote.regs f fun hm => hf (List.mem_cons_of_mem _ hm), (congrArg RecState.serials hnote.stored :), hnote.cim⟩

/-- PSU-A's return ends the shadow source of the monitor (R168). -/
def State.sourceBack (s : State) (b : Bool) : State := if b then s else s.wr F.CIM_ISO_STATUS_SOURCE_PSU_B 0

theorem psuInTolerance_eq (s : State) (b : Bool) (n : Nat) : exec (.psuInTolerance b n) s = .next
    (let s4 := ((s.wr (psuField b) 1).psuSerial b n).psuRestored b
     (if b then s4.sourceBack b else (s4.sourceBack b).listenAnew s4.isoMay).mirrorVstring.isoRole) := by
  cases b <;> rfl

theorem State.sourceBack_spec (s : State) (b : Bool) : s.SameRegs (s.sourceBack b) [F.CIM_ISO_STATUS_SOURCE_PSU_B.key] ∧
    (s.sourceBack b).recorder = s.recorder ∧ (s.sourceBack b).cim = s.cim ∧ (b = false → (s.sourceBack b).rd F.CIM_ISO_STATUS_SOURCE_PSU_B = 0) := by
  cases b
  · exact ⟨fun f hf => State.rd_wr_ne _ _ _ _ (by simpa using hf), rfl, rfl, fun _ => State.rd_wr_same _ _ _⟩
  · exact ⟨fun _ _ => rfl, rfl, rfl, fun h => by cases h⟩

/-- A step that moves none of the registers of R169 and no candidate leaves it as it was whether the monitor may inject. -/
theorem State.SameRegs.isoMay {s t : State} {ks : List Nat} (h : s.SameRegs t ks) (hcim : t.cim = s.cim)
    (hk : ∀ q ∈ isoMayKeys, q ∉ ks := by decide) : t.isoMay = s.isoMay :=
  State.isoMay_congr (fun f hf => h f (hk _ hf)) (by rw [hcim])

theorem psuInTolerance_spec (s : State) (b : Bool) (n : Nat) : ∃ t, exec (.psuInTolerance b n) s = .next t ∧
    t.rd (if b then F.PWR_AUX_STATUS_PSU_B_OK else F.PWR_AUX_STATUS_PSU_A_OK) = 1 ∧ Tbl.get 0 t.recorder.serials (if b then 3 else 2) = n ∧
    (b = false → t.rd F.CIM_ISO_STATUS_SOURCE_PSU_B = 0 ∧ t.cim.listening = s.isoMay) := by
  let s1 : State := s.wr (psuField b) 1
  let s2 : State := s1.psuSerial b n
  let s4 : State := s2.psuRestored b
  let s5 : State := s4.sourceBack b
  obtain ⟨hregs2, hserial2, hcim2⟩ := s1.psuSerial_spec b n
  obtain ⟨hregs4, hserial4, hcim4⟩ := s2.psuRestored_spec b
  obtain ⟨hregs5, hrec5, hcim5, hsource⟩ := s4.sourceBack_spec b
  obtain ⟨-, -, hvstring, -, hmayKeys⟩ := psuField_not_mem b
  obtain ⟨hin, hback⟩ : (psuField b).key ∉ psuInKeys ∧ (psuField b).key ∉ [F.CIM_ISO_STATUS_SOURCE_PSU_B.key] := by
    cases b <;> decide
  have hmay4 : s4.isoMay = s.isoMay :=
    ((hregs4.isoMay hcim4).trans (hregs2.isoMay hcim2)).trans ((s.psuField_noted b 1).isoMay hmayKeys)
  have hmay5 : s5.isoMay = s4.isoMay := hregs5.isoMay hcim5
  obtain ⟨hregs, hrec, hlisten⟩ := s5.psuFollow_spec b s4.isoMay fun h => hmay5 ▸ h
  have hon : s1.rd (psuField b) = 1 := by
    refine (State.rd_wr_same _ _ _).trans ?_
    cases b <;> rfl
  refine ⟨_, psuInTolerance_eq s b n, ?_, ?_, fun hb => ⟨?_, ?_⟩⟩
  · exact (hregs (psuField b) hvstring).trans ((hregs5 _ hback).trans ((hregs4 _ hin).trans ((hregs2 _ hin).trans hon)))
  · show Tbl.get 0 (if b then s5 else s5.listenAnew s4.isoMay).mirrorVstring.isoRole.recorder.serials _ = n
    rw [hrec, hrec5, hserial4]
    exact hserial2
  · exact (hregs _ (by decide)).trans (hsource hb)
  · exact (hlisten hb).1.trans (hmay5.trans hmay4)

/-- Settles O28: each clause is its event's lemma. -/
theorem currentVoltageAndSupplies : Obligations.CurrentVoltageAndSupplies := by
  unfold Obligations.CurrentVoltageAndSupplies
  exact ⟨chargeCounterSave_saves,
    fun s mv p n span move => ⟨hallFault_raises s mv p n span move,
      fun hmv hp hp' hn hn' hmove => hallFault_quiet s mv p n span move hmv ⟨hp, hp'⟩ ⟨hn, hn'⟩ hmove⟩,
    xcheckCompare_shows,
    fun s sum code h => ⟨xcheckCompare_within s sum code h, xcheckCompare_beyond s sum code h⟩,
    fun s => ⟨xcheckCause_raises s, xcheckCause_waits s⟩,
    vstringUpdate_shows, psuOutOfTolerance_spec, psuInTolerance_spec⟩

end Sys2Proof.Machine
end

section
/-! PROOFS. Records: posting, writing, the bridge's return and the system counters (R488, R489, R491–R494, R499). -/

namespace Sys2Proof.Machine

-- One proof after another: a thread for each would not fit the memory of the check.
set_option Elab.async false

/-! ### Posting (R488, R489, R494) -/

/-- The record as it is posted: with mode and time of its happening, a number or the system stamp, and its writer. -/
def State.stamped (s : State) (r : Rec) : Rec :=
  { r with
    mode := s.mode, tai := s.recTai
    seq := if r.system then 0 else s.rd64 F.REC_SEQ_LO_VALUE F.REC_SEQ_HI_VALUE + (if r.system then 0 else 1)
    opMin := if r.system then s.rd F.REC_OPTIME_VALUE else 0
    cycles := if r.system then s.rd F.REC_POWER_CYCLES_VALUE else 0
    source := if r.fromStfP then 8 else r.source }

/-- The sequence number after a record (R489): a system record takes none. -/
def State.seqAfter (s : State) (r : Rec) : State :=
  s.wr64 F.REC_SEQ_LO_VALUE F.REC_SEQ_HI_VALUE (s.rd64 F.REC_SEQ_LO_VALUE F.REC_SEQ_HI_VALUE + (if r.system then 0 else 1))

theorem State.post_dropped (s : State) (r : Rec) (h : r.fromStfP = false) (hctl : s.pwr.ctl = false) : s.post r = s := if_pos ⟨h, hctl⟩

theorem State.post_queued (s : State) (r : Rec) (h : (s.pwr.ctl = true ∧ r.fromStfP = false) ∨ s.bridgeUp = true) :
    s.post r = { s.seqAfter r with recorder.queue := s.recorder.queue ++ [s.stamped r] } := by
  have hctl : s.pwr.ctl = true := by
    rcases h with ⟨h, -⟩ | h
    · exact h
    · exact (Bool.and_eq_true_iff.1 h).1
  have hnowait : ¬(r.fromStfP = true ∧ s.bridgeUp = false) := by
    rintro ⟨hp, hb⟩
    rcases h with ⟨-, h⟩ | h
    · rw [hp] at h; cases h
    · rw [hb] at h; cases h
  unfold State.post
  extract_lets seq r1 s1
  rw [if_neg (by rw [hctl]; simp), if_neg hnowait]
  rfl

theorem State.post_waits (s : State) (r : Rec) (h : r.fromStfP = true) (hb : s.bridgeUp = false) :
    s.post r = if s.recorder.stfpQ.length < 1024 then { s.seqAfter r with recorder.stfpQ := s.recorder.stfpQ ++ [s.stamped r] }
      else { s.seqAfter r with recorder.stfpQ := s.recorder.stfpQ.take 512 ++ s.recorder.stfpQ.drop 513 ++ [s.stamped r]
                               recorder.omitted := s.recorder.omitted + 1 } := by
  unfold State.post
  extract_lets seq r1 s1
  rw [if_neg (by rw [h]; simp), if_pos ⟨h, hb⟩]
  rfl

/-- A value stored in a pair of words reads modulo 2⁶⁴. -/
theorem State.rd64_wr64 (s : State) {lo hi : Field} (v : Nat) (hne : lo.key ≠ hi.key) (hlo : lo.width = 32) (hhi : hi.width = 32) :
    (s.wr64 lo hi v).rd64 lo hi = v % 2 ^ 64 ∧ (s.wr64 lo hi v).rd lo = v % 2 ^ 32 := by
  have h1 : (s.wr64 lo hi v).rd lo = v % 2 ^ 32 := by
    refine (State.rd_wr_ne _ _ _ _ hne).trans ?_
    rw [State.rd_wr_same, hlo]
  have h2 : (s.wr64 lo hi v).rd hi = v / two32 % 2 ^ 32 := by
    refine (State.rd_wr_same _ _ _).trans ?_
    rw [hhi]
  refine ⟨?_, h1⟩
  unfold State.rd64
  rw [h1, h2]
  simp only [two32]
  omega

theorem State.seqAfter_reads (s : State) (r : Rec) : (s.seqAfter r).rd64 F.REC_SEQ_LO_VALUE F.REC_SEQ_HI_VALUE =
    (s.rd64 F.REC_SEQ_LO_VALUE F.REC_SEQ_HI_VALUE + (if r.system then 0 else 1)) % 2 ^ 64 ∧
    (s.seqAfter r).rd F.REC_SEQ_LO_VALUE = (s.rd64 F.REC_SEQ_LO_VALUE F.REC_SEQ_HI_VALUE + (if r.system then 0 else 1)) % 2 ^ 32 :=
  s.rd64_wr64 _ (by decide) rfl rfl

theorem State.post_queued_spec (s : State) (r : Rec) (h : (s.pwr.ctl = true ∧ r.fromStfP = false) ∨ s.bridgeUp = true) :
    ∃ q, (s.post r).recorder.queue = s.recorder.queue ++ [q] ∧
    q.kind = r.kind ∧ q.data = r.data ∧ q.status = r.status ∧ q.system = r.system ∧ q.milestone = r.milestone ∧ q.mode = s.mode ∧ q.tai = s.recTai ∧
    q.source = (if r.fromStfP then 8 else r.source) ∧
    (r.system = true → q.opMin = s.rd F.REC_OPTIME_VALUE ∧ q.cycles = s.rd F.REC_POWER_CYCLES_VALUE ∧
      (s.post r).rd F.REC_SEQ_LO_VALUE = (s.rd64 F.REC_SEQ_LO_VALUE F.REC_SEQ_HI_VALUE) % 2 ^ 32) ∧
    (r.system = false → q.seq = s.rd64 F.REC_SEQ_LO_VALUE F.REC_SEQ_HI_VALUE + 1 ∧
      (s.post r).rd64 F.REC_SEQ_LO_VALUE F.REC_SEQ_HI_VALUE = (s.rd64 F.REC_SEQ_LO_VALUE F.REC_SEQ_HI_VALUE + 1) % 2 ^ 64) := by
  obtain ⟨hboth, hlow⟩ := s.seqAfter_reads r
  rw [s.post_queued r h]
  refine ⟨s.stamped r, rfl, rfl, rfl, rfl, rfl, rfl, rfl, rfl, rfl, fun hsys => ?_, fun hsys => ?_⟩
  · rw [hsys] at hlow
    exact ⟨if_pos hsys, if_pos hsys, hlow⟩
  · rw [hsys] at hboth
    exact ⟨(if_neg (by rw [hsys]; decide)).trans (by rw [hsys]; rfl), hboth⟩

theorem State.post_waits_spec (s : State) (r : Rec) (h : r.fromStfP = true) (hb : s.bridgeUp = false) :
    (s.post r).recorder.queue = s.recorder.queue ∧
    (s.recorder.stfpQ.length < 1024 → ∃ q, (s.post r).recorder.stfpQ = s.recorder.stfpQ ++ [q] ∧ q.data = r.data ∧
      (s.post r).recorder.omitted = s.recorder.omitted) ∧
    (1024 ≤ s.recorder.stfpQ.length → (s.post r).recorder.omitted = s.recorder.omitted + 1 ∧ ∃ q, q.data = r.data ∧
      (s.post r).recorder.stfpQ = s.recorder.stfpQ.take 512 ++ s.recorder.stfpQ.drop 513 ++ [q]) := by
  rw [s.post_waits r h hb]
  by_cases hlen : s.recorder.stfpQ.length < 1024
  · rw [if_pos hlen]
    exact ⟨rfl, fun _ => ⟨s.stamped r, rfl, rfl, rfl⟩, fun hge => by omega⟩
  · rw [if_neg hlen]
    exact ⟨rfl, fun hlt => absurd hlt hlen, fun _ => ⟨rfl, s.stamped r, rfl, rfl⟩⟩

/-! ### Writing (R491–R494, R499) -/

theorem Tbl.map_put {α β : Type} (f : α → β) (m : List (Nat × α)) (k : Nat) (x : α) :
    (Tbl.put m k x).map (fun p => (p.1, f p.2)) = Tbl.put (m.map fun p => (p.1, f p.2)) k (f x) := by
  induction m with
  | nil => rfl
  | cons p m ih =>
    obtain ⟨q, v⟩ := p
    simp only [Tbl.put, List.map_cons]
    split
    · rfl
    · split
      · rfl
      · rw [List.map_cons, ih]

/-- Refreshing the mirror moves nothing but the mirror (R506). -/
theorem State.mirrorRefresh_frame (s : State) : s.mirrorRefresh.regs = s.regs ∧ s.mirrorRefresh.recorder =
    { s.recorder with mirror := s.mirrorRefresh.recorder.mirror, mirrorSettings := s.mirrorRefresh.recorder.mirrorSettings } := by
  unfold State.mirrorRefresh
  split <;> exact ⟨rfl, rfl⟩

/-- The system counters and the mirror are all that saving them moves. -/
theorem State.saveCounters_frame (s : State) : s.saveCounters.regs = s.regs ∧ s.saveCounters.recorder.queue = s.recorder.queue ∧
    s.saveCounters.recorder.last = s.recorder.last ∧ s.saveCounters.recorder.first = s.recorder.first := by
  unfold State.saveCounters
  extract_lets a b c
  split
  · obtain ⟨hregs, hrec⟩ := ({ s with recorder.counters1 := c } : State).mirrorRefresh_frame
    exact ⟨hregs, by rw [hrec], by rw [hrec], by rw [hrec]⟩
  · obtain ⟨hregs, hrec⟩ := ({ s with recorder.counters0 := c } : State).mirrorRefresh_frame
    exact ⟨hregs, by rw [hrec], by rw [hrec], by rw [hrec]⟩

theorem State.firstShow_head (s : State) : s.firstShow.head = s.head ∧ s.firstShow.recorder = s.recorder :=
  ⟨(State.rd_wr_ne _ _ _ _ (by decide)).trans (State.rd_wr_ne _ _ _ _ (by decide)), rfl⟩

/-- A record that has been written learns its position in LAST (R386). -/
def Ev.learn (r : Rec) (p : Nat) (e : Ev) : Ev := if r.ev = some e.seq ∧ e.pos = none then { e with pos := some p } else e

/-- The record stands in LAST and, where R491 asks for it, in FIRST; HEAD and the counters follow. -/
def State.recWritten (s : State) (r : Rec) : State :=
  { s with
    recorder.last := Tbl.put s.recorder.last (s.head % lastSlots) { pos := s.head, record := r, valid := true }
    recorder.first := if s.toFirst r then s.recorder.first ++ [r] else s.recorder.first
    recorder.replaced := s.recorder.replaced && !r.claims
    sec.auditSeq := if r.audit then r.seq else s.sec.auditSeq
    recorder.evq := s.recorder.evq.map (Ev.learn r s.head)
    recorder.hold := s.recorder.hold.map (Ev.learn r s.head) }

theorem State.writeRec_eq (s : State) (r : Rec) :
    s.writeRec r = ((s.recWritten r).wr F.REC_HEAD_VALUE ((s.head + 1) % two32)).firstShow.saveCounters := rfl

theorem State.head_of_regs {s t : State} (h : t.regs = s.regs) : t.head = s.head := by
  unfold State.head State.rd
  rw [h]

theorem State.writeRec_spec (s : State) (r : Rec) : (s.writeRec r).recorder.queue = s.recorder.queue ∧
    (s.writeRec r).recorder.last = Tbl.put s.recorder.last (s.head % lastSlots) { pos := s.head, record := r, valid := true } ∧
    (s.writeRec r).recorder.first = (if s.toFirst r then s.recorder.first ++ [r] else s.recorder.first) ∧
    (s.writeRec r).head = (s.head + 1) % 2 ^ 32 := by
  let s2 : State := (s.recWritten r).wr F.REC_HEAD_VALUE ((s.head + 1) % two32)
  obtain ⟨hregs, hqueue, hlast, hfirst⟩ := s2.firstShow.saveCounters_frame
  obtain ⟨hhead, hrec⟩ := s2.firstShow_head
  rw [s.writeRec_eq r]
  refine ⟨hqueue.trans (by rw [hrec]; rfl), hlast.trans (by rw [hrec]; rfl), hfirst.trans (by rw [hrec]; rfl), ?_⟩
  refine (State.head_of_regs hregs).trans (hhead.trans ((State.rd_wr_same _ _ _).trans ?_))
  exact Nat.mod_mod _ _

/-- The slot of LAST that holds a position. -/
theorem State.lastAt_of_last {s t : State} {p q : Nat} {x : LastSlot} (h : t.recorder.last = Tbl.put s.recorder.last q x) :
    (p % lastSlots = q → t.lastAt p = (x.record.bytes (x.pos / lastSlots % 65536) x.valid, x.valid)) ∧
    (p % lastSlots ≠ q → t.lastAt p = s.lastAt p) := by
  unfold State.lastAt
  rw [h, Tbl.map_put some]
  refine ⟨fun hp => ?_, fun hp => ?_⟩
  · rw [hp, Tbl.get_put_same]
  · rw [Tbl.get_put_ne _ _ _ _ _ hp]

theorem recordPost_idle (s : State) (h : s.pwr.ctl = false ∨ s.recorder.queue = []) : exec .recordPost s = .next s := by
  refine congrArg Host.Outcome.next ?_
  cases hctl : s.pwr.ctl
  · rfl
  · rcases h with h | h
    · rw [hctl] at h; cases h
    · rw [h]; rfl

theorem recordPost_writes (s : State) (r : Rec) (q : List Rec) (hctl : s.pwr.ctl = true) (hq : s.recorder.queue = r :: q) :
    ∃ t, exec .recordPost s = .next t ∧ t.recorder.queue = q ∧ t.lastAt s.head = (r.bytes (s.head / 30720 % 65536) true, true) ∧
      t.head = (s.head + 1) % 2 ^ 32 ∧ (t.recorder.first = s.recorder.first ∨ t.recorder.first = s.recorder.first ++ [r]) ∧
      (∀ p, p % 30720 ≠ s.head % 30720 → t.lastAt p = s.lastAt p) := by
  let s1 : State := { s with recorder.queue := q }
  obtain ⟨hqueue, hlast, hfirst, hhead⟩ := s1.writeRec_spec r
  have hexec : exec .recordPost s = .next (s1.writeRec r) := by
    refine congrArg Host.Outcome.next ?_
    rw [hctl, hq]
    rfl
  refine ⟨_, hexec, hqueue, (State.lastAt_of_last hlast).1 rfl, hhead, ?_, fun p hp => (State.lastAt_of_last hlast).2 hp⟩
  rw [hfirst]
  split
  · exact .inr rfl
  · exact .inl rfl

/-! ### The bridge's return (R494) -/

theorem State.bridgeFlush_spec (s : State) : s.bridgeFlush.mbx = s.mbx ∧ s.bridgeFlush.recorder.stfpQ = [] ∧
    s.bridgeFlush.recorder.queue.length = s.recorder.queue.length + s.recorder.stfpQ.length ∧
    (s.recorder.omitted = 0 → s.bridgeFlush.recorder.queue = s.recorder.queue ++ s.recorder.stfpQ) ∧
    (∀ r q, s.recorder.stfpQ = r :: q → s.recorder.omitted ≠ 0 → s.bridgeFlush.recorder.omitted = 0 ∧
      s.bridgeFlush.recorder.queue = s.recorder.queue ++ { r with data := padTo 32 r.data ++ leBytes 4 s.recorder.omitted } :: q) := by
  unfold State.bridgeFlush
  cases hq : s.recorder.stfpQ with
  | nil => exact ⟨rfl, rfl, List.length_append, fun _ => rfl, fun r q h => by cases h⟩
  | cons r t =>
    refine ⟨rfl, rfl, List.length_append, fun h0 => ?_, fun r' q h hne => ?_⟩
    · show s.recorder.queue ++ (if s.recorder.omitted = 0 then r else _) :: t = _
      rw [if_pos h0]
    · cases h
      refine ⟨rfl, ?_⟩
      show s.recorder.queue ++ (if s.recorder.omitted = 0 then r else _) :: t = _
      rw [if_neg hne]

theorem bridgeReturn_flushes (s : State) (hctl : s.pwr.ctl = true) : ∃ t, exec .bridgeReturn s = .next t ∧ t.mbx.bridgeDown = false ∧
    t.recorder.stfpQ = [] ∧ t.recorder.queue.length = s.recorder.queue.length + s.recorder.stfpQ.length ∧
    (s.recorder.omitted = 0 → t.recorder.queue = s.recorder.queue ++ s.recorder.stfpQ) ∧
    (∀ r q, s.recorder.stfpQ = r :: q → s.recorder.omitted ≠ 0 → t.recorder.omitted = 0 ∧
      t.recorder.queue = s.recorder.queue ++ { r with data := padTo 32 r.data ++ leBytes 4 s.recorder.omitted } :: q) := by
  obtain ⟨hmbx, hrest⟩ := ({ s with mbx.bridgeDown := false } : State).bridgeFlush_spec
  exact ⟨_, congrArg Host.Outcome.next (if_pos hctl), by rw [hmbx], hrest⟩

/-! ### Saving the system counters (R499) -/

/-- The counters go to the slot that does not hold the newest, and the other stays. -/
theorem State.saveCounters_slots (s : State) :
    let c := s.sysCounters (max s.recorder.counters0.gen s.recorder.counters1.gen + 1)
    (s.recorder.counters0.valid = true ∧ s.recorder.counters1.gen ≤ s.recorder.counters0.gen →
      s.saveCounters.recorder.counters1 = c ∧ s.saveCounters.recorder.counters0 = s.recorder.counters0) ∧
    (s.recorder.counters0.valid = false ∨ s.recorder.counters0.gen < s.recorder.counters1.gen →
      s.saveCounters.recorder.counters0 = c ∧ s.saveCounters.recorder.counters1 = s.recorder.counters1) := by
  intro c
  have hsave : s.saveCounters = (if s.recorder.counters0.valid && decide (s.recorder.counters1.gen ≤ s.recorder.counters0.gen) then
      { s with recorder.counters1 := c } else { s with recorder.counters0 := c }).mirrorRefresh := rfl
  refine ⟨fun ⟨hv, hg⟩ => ?_, fun h => ?_⟩
  · rw [hsave, if_pos (by simp [hv, hg])]
    obtain ⟨-, hrec⟩ := ({ s with recorder.counters1 := c } : State).mirrorRefresh_frame
    exact ⟨by rw [hrec], by rw [hrec]⟩
  · rw [hsave, if_neg (by rcases h with h | h <;> simp [h])]
    obtain ⟨-, hrec⟩ := ({ s with recorder.counters0 := c } : State).mirrorRefresh_frame
    exact ⟨by rw [hrec], by rw [hrec]⟩

theorem sysCounterSave_saves (s : State) : ∃ (t : State) (c : SysCounters), exec .sysCounterSave s = .next t ∧
    t.rd F.REC_OPTIME_VALUE = (s.rd F.REC_OPTIME_VALUE + 1) % 2 ^ 32 ∧
    c.valid = true ∧ c.head = s.head ∧ c.opMin = (s.rd F.REC_OPTIME_VALUE + 1) % 2 ^ 32 ∧ s.recorder.counters0.gen < c.gen ∧
    s.recorder.counters1.gen < c.gen ∧
    (s.recorder.counters0.valid = true ∧ s.recorder.counters1.gen ≤ s.recorder.counters0.gen → t.recorder.counters1 = c ∧
      t.recorder.counters0 = s.recorder.counters0) ∧
    (s.recorder.counters0.valid = false ∨ s.recorder.counters0.gen < s.recorder.counters1.gen → t.recorder.counters0 = c ∧
      t.recorder.counters1 = s.recorder.counters1) := by
  let s1 : State := s.wr F.REC_OPTIME_VALUE (s.rd F.REC_OPTIME_VALUE + 1)
  have hmin : s1.rd F.REC_OPTIME_VALUE = (s.rd F.REC_OPTIME_VALUE + 1) % 2 ^ 32 := State.rd_wr_same _ _ _
  obtain ⟨hregs, -⟩ := s1.saveCounters_frame
  obtain ⟨hone, hzero⟩ := s1.saveCounters_slots
  refine ⟨s1.saveCounters, s1.sysCounters (max s.recorder.counters0.gen s.recorder.counters1.gen + 1), rfl, ?_, rfl,
    State.rd_wr_ne _ _ _ _ (by decide), hmin, ?_, ?_, hone, hzero⟩
  · rw [← hmin]
    unfold State.rd
    rw [hregs]
  · exact Nat.lt_succ_of_le (Nat.le_max_left _ _)
  · exact Nat.lt_succ_of_le (Nat.le_max_right _ _)

end Sys2Proof.Machine
end

section
/-! PROOFS. Records: reading them through the window (R495) and by command (R507). -/

namespace Sys2Proof.Machine

-- One proof after another: a thread for each would not fit the memory of the check.
set_option Elab.async false

/-! ### Writes of a list of fields -/

theorem State.wrs_append (s : State) (l m : List (Field × Nat)) : s.wrs (l ++ m) = (s.wrs l).wrs m := by
  induction l generalizing s with
  | nil => rfl
  | cons p l ih => exact ih _

theorem State.rd_wrs_ne (s : State) (f : Field) (l : List (Field × Nat)) (h : ∀ p ∈ l, f.key ≠ p.1.key) : (s.wrs l).rd f = s.rd f := by
  induction l generalizing s with
  | nil => rfl
  | cons p l ih =>
    obtain ⟨hp, hl⟩ := List.forall_mem_cons.1 h
    exact (ih _ hl).trans (State.rd_wr_ne _ _ _ _ hp)

/-- A row of fields written together: each reads its own value. -/
theorem State.rd_wrs_row (s : State) (F : Nat → Field) (v : Nat → Nat) {l : List Nat} {k : Nat} (hk : k ∈ l)
    (hinj : ∀ i ∈ l, (F k).key = (F i).key → k = i) : (s.wrs (l.map fun i => (F i, v i))).rd (F k) = v k % 2 ^ (F k).width := by
  induction l generalizing s with
  | nil => cases hk
  | cons i l ih =>
    obtain ⟨hi, hl⟩ := List.forall_mem_cons.1 hinj
    by_cases hmem : k ∈ l
    · exact ih _ hmem hl
    · obtain rfl : k = i := (List.mem_cons.1 hk).resolve_right hmem
      refine (State.rd_wrs_ne (s.wr (F k) (v k)) _ (l.map fun i => (F i, v i)) fun p hp => ?_).trans (State.rd_wr_same _ _ _)
      obtain ⟨j, hj, rfl⟩ := List.mem_map.1 hp
      exact fun e => hmem (hl j hj e ▸ hj)

/-! ### What a read finds (R495) -/

theorem State.recRead_first_some (s : State) {pos : Nat} {r : Rec} (h : s.recorder.first[pos]? = some r) : s.recRead false pos =
    { bytes := r.bytes 0 true, result := if s.recorder.firstBad.contains pos then 2 else 0, pos := pos, next := pos + 1 } := by
  unfold State.recRead
  rw [h]
  rfl

theorem State.recRead_first_none (s : State) {pos : Nat} (h : s.recorder.first.length ≤ pos) :
    s.recRead false pos = { bytes := zeroRec, result := 1, pos := pos, next := pos } := by
  unfold State.recRead
  rw [List.getElem?_eq_none h]
  rfl

/-- The distance from a position to HEAD, modulo 2³² (R493). -/
def State.headDist (s : State) (pos : Nat) : Nat := (s.head + two32 - pos % two32) % two32

theorem State.recRead_last_head (s : State) {pos : Nat} (h : s.headDist pos = 0) :
    s.recRead true pos = { bytes := zeroRec, result := 1, pos := pos, next := pos } := by
  unfold State.recRead
  exact (if_neg (by decide)).trans (if_pos h)

theorem State.recRead_last_written (s : State) {pos : Nat} (h0 : s.headDist pos ≠ 0) (h : s.headDist pos ≤ lastSlots) :
    s.recRead true pos = { bytes := (s.lastAt pos).1, result := if (s.lastAt pos).2 then 0 else 2, pos := pos, next := (pos + 1) % two32 } := by
  have hd : ¬ lastSlots < (s.head + two32 - pos % two32) % two32 := by
    unfold State.headDist at h; omega
  unfold State.recRead
  refine (if_neg (by decide)).trans ((if_neg h0).trans ?_)
  simp only [if_neg hd]

/-- A position that has been overwritten: the oldest record that still stands (R495). -/
theorem State.recRead_last_overtaken (s : State) {pos : Nat} (h : lastSlots < s.headDist pos) :
    let p := (s.head + two32 - lastSlots) % two32
    s.recRead true pos = { bytes := (s.lastAt p).1, result := if (s.lastAt p).2 then 0 else 2, pos := p, next := (p + 1) % two32
                           skipped := some ((p + two32 - pos % two32) % two32) } := by
  have hd : lastSlots < (s.head + two32 - pos % two32) % two32 := h
  unfold State.recRead
  refine (if_neg (by decide)).trans ((if_neg (by omega)).trans ?_)
  simp only [if_pos hd]

/-! ### The window takes what a read finds -/

/-- The writes of READ beside the record's bytes. -/
def State.winWrites (s : State) (r : RecRead) : List (Field × Nat) :=
  [(F.REC_CTRL_READ, 0), (F.REC_CURSOR_POS_VALUE, r.next), (F.REC_STATUS_RESULT, r.result)] ++
    (if r.result = 1 then [] else [(F.REC_WIN_POS_VALUE, r.pos), (F.REC_WIN_GEN_VALUE, if s.isOn F.REC_CURSOR_AREA then r.pos / lastSlots else 0)])

/-- The window with the record that a read found. -/
def State.winLoaded (s : State) (r : RecRead) : State :=
  (s.wrs (s.winWrites r)).wrs ((numbersFrom 0 16).map fun w => (F.REC_WIN_BYTES w, ofLe (slice r.bytes (4 * w) 4)))

/-- The positions that a read found overwritten, shown with the flag. -/
def State.skipShown (s : State) : Option Nat → State
  | some n => (s.wr F.REC_SKIPPED_VALUE n).flag Fl.REC_STATUS_OVERTAKEN {}
  | none => s

theorem State.recWindow_eq (s : State) {r : RecRead} (h : s.recRead (s.isOn F.REC_CURSOR_AREA) (s.rd F.REC_CURSOR_POS_VALUE) = r) :
    s.recWindow = (s.winLoaded r).skipShown r.skipped := by
  subst h
  exact congrArg (State.skipShown · _) (State.wrs_append _ _ _)

theorem State.winLoaded_bytes (s : State) (r : RecRead) {w : Nat} (hw : w < 16) :
    (s.winLoaded r).rd (F.REC_WIN_BYTES w) = ofLe (slice r.bytes (4 * w) 4) % 2 ^ 32 :=
  State.rd_wrs_row _ F.REC_WIN_BYTES _ ((mem_numbersFrom 0 16 w).2 (by omega)) fun i _ e => by
    simp only [Field.key, F.REC_WIN_BYTES] at e
    omega

/-- A field below the window's bytes reads as the other writes of READ left it. -/
theorem State.rd_winLoaded (s : State) (r : RecRead) {f : Field} (hf : f.key < (F.REC_WIN_BYTES 0).key) :
    (s.winLoaded r).rd f = (s.wrs (s.winWrites r)).rd f := by
  refine State.rd_wrs_ne _ _ _ fun p hp => ?_
  obtain ⟨w, -, rfl⟩ := List.mem_map.1 hp
  refine (hf.trans_le ?_).ne
  simp only [Field.key, F.REC_WIN_BYTES]
  omega

theorem State.winLoaded_status (s : State) (r : RecRead) : (s.winLoaded r).rd F.REC_CTRL_READ = 0 ∧
    (s.winLoaded r).rd F.REC_CURSOR_POS_VALUE = r.next % 2 ^ 32 ∧ (s.winLoaded r).rd F.REC_STATUS_RESULT = r.result % 4 := by
  let s1 : State := s.wrs [(F.REC_CTRL_READ, 0), (F.REC_CURSOR_POS_VALUE, r.next), (F.REC_STATUS_RESULT, r.result)]
  have hrd : ∀ f : Field, f.key < (F.REC_WIN_BYTES 0).key → f.key ≠ F.REC_WIN_POS_VALUE.key → f.key ≠ F.REC_WIN_GEN_VALUE.key →
      (s.winLoaded r).rd f = s1.rd f := fun f hf hpos hgen => by
    rw [State.rd_winLoaded s r hf, State.winWrites, State.wrs_append]
    split
    · rfl
    · exact State.rd_wrs_ne _ _ _ (by simp [hpos, hgen])
  refine ⟨(hrd _ (by decide) (by decide) (by decide)).trans ?_, (hrd _ (by decide) (by decide) (by decide)).trans ?_,
    (hrd _ (by decide) (by decide) (by decide)).trans (State.rd_wr_same _ _ _)⟩
  · exact ((State.rd_wr_ne _ _ _ _ (by decide)).trans (State.rd_wr_ne _ _ _ _ (by decide))).trans (State.rd_wr_same _ _ _)
  · exact (State.rd_wr_ne _ _ _ _ (by decide)).trans (State.rd_wr_same _ _ _)

/-- At the end of an area the window's position and generation stand. -/
theorem State.winLoaded_empty (s : State) (r : RecRead) (h : r.result = 1) :
    (s.winLoaded r).rd F.REC_WIN_POS_VALUE = s.rd F.REC_WIN_POS_VALUE := by
  rw [State.rd_winLoaded s r (by decide), State.winWrites, if_pos h]
  exact State.rd_wrs_ne _ _ _ (by simp; decide)

theorem State.winLoaded_found (s : State) (r : RecRead) (h : r.result ≠ 1) :
    (s.winLoaded r).rd F.REC_WIN_POS_VALUE = r.pos % 2 ^ 32 ∧
    (s.winLoaded r).rd F.REC_WIN_GEN_VALUE = (if s.isOn F.REC_CURSOR_AREA then r.pos / lastSlots else 0) % 2 ^ 32 := by
  rw [State.rd_winLoaded s r (by decide), State.rd_winLoaded s r (by decide), State.winWrites, if_neg h, State.wrs_append]
  exact ⟨(State.rd_wr_ne _ _ _ _ (by decide)).trans (State.rd_wr_same _ _ _), State.rd_wr_same _ _ _⟩

theorem zeroRec_slice (i : Nat) : ofLe (slice zeroRec i 4) = 0 := by
  have h : ∀ n, ofLe (List.replicate n 0) = 0 := fun n => by
    induction n with
    | zero => rfl
    | succ n ih => simp [List.replicate_succ, ofLe, ih]
  unfold slice zeroRec
  rw [List.drop_replicate, List.take_replicate]
  exact h _

/-- What READ shows where the area ends: EMPTY, with the window's position and a record of zeros. -/
theorem State.recWindow_empty (s : State) {pos : Nat}
    (h : s.recRead (s.isOn F.REC_CURSOR_AREA) (s.rd F.REC_CURSOR_POS_VALUE) = { bytes := zeroRec, result := 1, pos := pos, next := pos }) :
    s.recWindow.rd F.REC_STATUS_RESULT = 1 ∧ s.recWindow.rd F.REC_CURSOR_POS_VALUE = pos % 2 ^ 32 ∧
      s.recWindow.rd F.REC_WIN_POS_VALUE = s.rd F.REC_WIN_POS_VALUE ∧ (∀ w, w < 16 → s.recWindow.rd (F.REC_WIN_BYTES w) = 0) := by
  rw [s.recWindow_eq h]
  obtain ⟨-, hcursor, hresult⟩ := s.winLoaded_status { bytes := zeroRec, result := 1, pos := pos, next := pos }
  refine ⟨hresult, hcursor, s.winLoaded_empty _ rfl, fun w hw => ?_⟩
  refine (s.winLoaded_bytes _ hw).trans ?_
  rw [zeroRec_slice, Nat.zero_mod]

/-- What READ shows of a record that it finds and that was not overtaken. -/
theorem State.recWindow_found (s : State) {b : List Byte} {res pos next : Nat}
    (h : s.recRead (s.isOn F.REC_CURSOR_AREA) (s.rd F.REC_CURSOR_POS_VALUE) = { bytes := b, result := res, pos := pos, next := next })
    (hres : res = 0 ∨ res = 2) :
    s.recWindow.rd F.REC_STATUS_RESULT = res ∧ s.recWindow.rd F.REC_CURSOR_POS_VALUE = next % 2 ^ 32 ∧
      s.recWindow.rd F.REC_WIN_POS_VALUE = pos % 2 ^ 32 ∧
      s.recWindow.rd F.REC_WIN_GEN_VALUE = (if s.isOn F.REC_CURSOR_AREA then pos / lastSlots else 0) % 2 ^ 32 ∧
      (∀ w, w < 16 → s.recWindow.rd (F.REC_WIN_BYTES w) = ofLe (slice b (4 * w) 4) % 2 ^ 32) := by
  rw [s.recWindow_eq h]
  let r : RecRead := { bytes := b, result := res, pos := pos, next := next }
  obtain ⟨-, hcursor, hresult⟩ := s.winLoaded_status r
  obtain ⟨hpos, hgen⟩ := s.winLoaded_found r (by show res ≠ 1; omega)
  exact ⟨hresult.trans (Nat.mod_eq_of_lt (by show res < 4; omega)), hcursor, hpos, hgen, fun w hw => s.winLoaded_bytes r hw⟩

/-- What READ shows beside the record where positions were overwritten: OVERTAKEN with the number skipped. -/
theorem State.recWindow_overtaken (s : State) {b : List Byte} {res pos next n : Nat}
    (h : s.recRead (s.isOn F.REC_CURSOR_AREA) (s.rd F.REC_CURSOR_POS_VALUE) =
      { bytes := b, result := res, pos := pos, next := next, skipped := some n }) (hres : res ≠ 1) :
    s.recWindow.rd Fl.REC_STATUS_OVERTAKEN.bit = 1 ∧ s.recWindow.rd F.REC_SKIPPED_VALUE = n % 2 ^ 32 ∧
      s.recWindow.rd F.REC_WIN_POS_VALUE = pos % 2 ^ 32 ∧ s.recWindow.rd F.REC_CURSOR_POS_VALUE = next % 2 ^ 32 := by
  rw [s.recWindow_eq h]
  let r : RecRead := { bytes := b, result := res, pos := pos, next := next, skipped := some n }
  obtain ⟨-, hcursor, -⟩ := s.winLoaded_status r
  obtain ⟨hpos, -⟩ := s.winLoaded_found r hres
  have hflag := ((s.winLoaded r).wr F.REC_SKIPPED_VALUE n).flag_noted Fl.REC_STATUS_OVERTAKEN {}
  exact ⟨State.flag_bit _ _ _, (hflag.regs _ (by decide)).trans (State.rd_wr_same _ _ _),
    (hflag.regs _ (by decide)).trans ((State.rd_wr_ne _ _ _ _ (by decide)).trans hpos),
    (hflag.regs _ (by decide)).trans ((State.rd_wr_ne _ _ _ _ (by decide)).trans hcursor)⟩

theorem State.recWindow_ctrl (s : State) : s.recWindow.rd F.REC_CTRL_READ = 0 := by
  rw [s.recWindow_eq rfl]
  obtain ⟨hctrl, -⟩ := s.winLoaded_status (s.recRead (s.isOn F.REC_CURSOR_AREA) (s.rd F.REC_CURSOR_POS_VALUE))
  unfold State.skipShown
  split
  · exact ((State.flag_noted _ _ _).regs _ (by decide)).trans ((State.rd_wr_ne _ _ _ _ (by decide)).trans hctrl)
  · exact hctrl

section
variable (s : State)

theorem read_first_found {r : Rec} (hpos : s.rd F.REC_CURSOR_POS_VALUE < 2 ^ 32) (harea : s.isOn F.REC_CURSOR_AREA = false)
    (h : s.recorder.first[s.rd F.REC_CURSOR_POS_VALUE]? = some r) :
    s.recWindow.rd F.REC_STATUS_RESULT = (if s.recorder.firstBad.contains (s.rd F.REC_CURSOR_POS_VALUE) then 2 else 0) ∧
    s.recWindow.rd F.REC_CURSOR_POS_VALUE = (s.rd F.REC_CURSOR_POS_VALUE + 1) % 2 ^ 32 ∧
    s.recWindow.rd F.REC_WIN_POS_VALUE = s.rd F.REC_CURSOR_POS_VALUE ∧ s.recWindow.rd F.REC_WIN_GEN_VALUE = 0 ∧
    (∀ w, w < 16 → s.recWindow.rd (F.REC_WIN_BYTES w) = ofLe (slice (r.bytes 0 true) (4 * w) 4) % 2 ^ 32) := by
  obtain ⟨hresult, hcursor, hwin, hgen, hbytes⟩ := s.recWindow_found
    ((congrArg (s.recRead · _) harea).trans (s.recRead_first_some h)) (by split <;> simp)
  rw [harea] at hgen
  exact ⟨hresult, hcursor, hwin.trans (Nat.mod_eq_of_lt hpos), hgen, hbytes⟩

theorem read_first_empty (hpos : s.rd F.REC_CURSOR_POS_VALUE < 2 ^ 32) (harea : s.isOn F.REC_CURSOR_AREA = false)
    (h : s.recorder.first.length ≤ s.rd F.REC_CURSOR_POS_VALUE) : s.recWindow.rd F.REC_STATUS_RESULT = 1 ∧
    s.recWindow.rd F.REC_CURSOR_POS_VALUE = s.rd F.REC_CURSOR_POS_VALUE ∧
    s.recWindow.rd F.REC_WIN_POS_VALUE = s.rd F.REC_WIN_POS_VALUE ∧ (∀ w, w < 16 → s.recWindow.rd (F.REC_WIN_BYTES w) = 0) := by
  obtain ⟨hresult, hcursor, hrest⟩ := s.recWindow_empty ((congrArg (s.recRead · _) harea).trans (s.recRead_first_none h))
  exact ⟨hresult, hcursor.trans (Nat.mod_eq_of_lt hpos), hrest⟩

theorem read_last_head (hhead : s.head < 2 ^ 32) (harea : s.isOn F.REC_CURSOR_AREA = true) (h : s.rd F.REC_CURSOR_POS_VALUE = s.head) :
    s.recWindow.rd F.REC_STATUS_RESULT = 1 ∧ s.recWindow.rd F.REC_CURSOR_POS_VALUE = s.head ∧
    s.recWindow.rd F.REC_WIN_POS_VALUE = s.rd F.REC_WIN_POS_VALUE ∧ (∀ w, w < 16 → s.recWindow.rd (F.REC_WIN_BYTES w) = 0) := by
  have hdist : s.headDist (s.rd F.REC_CURSOR_POS_VALUE) = 0 := by
    unfold State.headDist
    simp only [h, two32]
    omega
  obtain ⟨hresult, hcursor, hrest⟩ := s.recWindow_empty ((congrArg (s.recRead · _) harea).trans (s.recRead_last_head hdist))
  exact ⟨hresult, hcursor.trans ((Nat.mod_eq_of_lt (h ▸ hhead)).trans h), hrest⟩

/-- Below 2³² the distance to HEAD is the one that the rows of R495 speak of. -/
theorem State.headDist_eq {pos : Nat} (hpos : pos < 2 ^ 32) : s.headDist pos = (s.head + 2 ^ 32 - pos) % 2 ^ 32 := by
  unfold State.headDist
  simp only [two32]
  omega

theorem read_last_written (hpos : s.rd F.REC_CURSOR_POS_VALUE < 2 ^ 32) (hhead : s.head < 2 ^ 32)
    (harea : s.isOn F.REC_CURSOR_AREA = true) (hne : s.rd F.REC_CURSOR_POS_VALUE ≠ s.head)
    (hnear : (s.head + 2 ^ 32 - s.rd F.REC_CURSOR_POS_VALUE) % 2 ^ 32 ≤ 30720) :
    s.recWindow.rd F.REC_STATUS_RESULT = (if (s.lastAt (s.rd F.REC_CURSOR_POS_VALUE)).2 then 0 else 2) ∧
    s.recWindow.rd F.REC_CURSOR_POS_VALUE = (s.rd F.REC_CURSOR_POS_VALUE + 1) % 2 ^ 32 ∧
    s.recWindow.rd F.REC_WIN_POS_VALUE = s.rd F.REC_CURSOR_POS_VALUE ∧
    s.recWindow.rd F.REC_WIN_GEN_VALUE = s.rd F.REC_CURSOR_POS_VALUE / 30720 ∧
    (∀ w, w < 16 → s.recWindow.rd (F.REC_WIN_BYTES w) = ofLe (slice (s.lastAt (s.rd F.REC_CURSOR_POS_VALUE)).1 (4 * w) 4) % 2 ^ 32) := by
  have hdist := s.headDist_eq hpos
  obtain ⟨hresult, hcursor, hwin, hgen, hbytes⟩ := s.recWindow_found
    ((congrArg (s.recRead · _) harea).trans (s.recRead_last_written (by omega) (by rw [hdist]; exact hnear))) (by split <;> simp)
  rw [if_pos harea] at hgen
  refine ⟨hresult, hcursor.trans (Nat.mod_mod _ _), hwin.trans (Nat.mod_eq_of_lt hpos), hgen.trans (Nat.mod_eq_of_lt ?_), hbytes⟩
  exact (Nat.div_le_self _ _).trans_lt hpos

theorem read_last_overtaken (hpos : s.rd F.REC_CURSOR_POS_VALUE < 2 ^ 32) (harea : s.isOn F.REC_CURSOR_AREA = true)
    (hfar : 30720 < (s.head + 2 ^ 32 - s.rd F.REC_CURSOR_POS_VALUE) % 2 ^ 32) : s.recWindow.rd Fl.REC_STATUS_OVERTAKEN.bit = 1 ∧
    s.recWindow.rd F.REC_SKIPPED_VALUE = (s.head + 2 ^ 33 - 30720 - s.rd F.REC_CURSOR_POS_VALUE) % 2 ^ 32 ∧
    s.recWindow.rd F.REC_WIN_POS_VALUE = (s.head + 2 ^ 32 - 30720) % 2 ^ 32 ∧
    s.recWindow.rd F.REC_CURSOR_POS_VALUE = (s.head + 2 ^ 32 - 30719) % 2 ^ 32 := by
  have hdist := s.headDist_eq hpos
  obtain ⟨hflag, hskip, hwin, hcursor⟩ := s.recWindow_overtaken
    ((congrArg (s.recRead · _) harea).trans (s.recRead_last_overtaken (by rw [hdist]; exact hfar))) (by split <;> simp)
  simp only [lastSlots, two32] at hskip hwin hcursor
  refine ⟨hflag, hskip.trans ?_, hwin.trans ?_, hcursor.trans ?_⟩ <;> omega

end

/-! ### Repeated reads (R507) -/

theorem leBytes_length (n v : Nat) : (leBytes n v).length = n := by
  induction n generalizing v with
  | zero => rfl
  | succ n ih => rw [leBytes, List.length_cons, ih]

theorem padTo_length (n : Nat) (b : List Byte) : (padTo n b).length = n := by
  rw [padTo, List.length_append, List.length_take, List.length_replicate]
  omega

theorem Rec.bytes_length (r : Rec) (wrap : Nat) (valid : Bool) : (r.bytes wrap valid).length = 64 := by
  have hbody : (r.body wrap).length = 60 := by
    unfold Rec.body
    simp only [List.length_append, List.length_cons, List.length_nil, leBytes_length, padTo_length]
    split <;> simp only [List.length_append, leBytes_length]
  simp only [Rec.bytes, List.length_append, List.length_cons, List.length_nil, leBytes_length, hbody]

theorem State.lastAt_length (s : State) (p : Nat) : (s.lastAt p).1.length = 64 := by
  unfold State.lastAt
  split
  · exact Rec.bytes_length _ _ _
  · exact List.length_replicate

theorem State.recRead_length (s : State) (last : Bool) (pos : Nat) : (s.recRead last pos).bytes.length = 64 := by
  unfold State.recRead
  extract_lets h d
  split
  · split
    · exact Rec.bytes_length _ _ _
    · exact List.length_replicate
  · split
    · exact List.length_replicate
    · exact s.lastAt_length _

/-- Reads in a row deliver 64 bytes each, at most as many as asked for, and not more INVALID ones than delivered. -/
theorem State.recMany_bounds (s : State) (last : Bool) (k pos : Nat) : (s.recMany last k pos).1.length = 64 * (s.recMany last k pos).2.1 ∧
    (s.recMany last k pos).2.1 ≤ k ∧ (s.recMany last k pos).2.2.length ≤ (s.recMany last k pos).2.1 := by
  induction k generalizing pos with
  | zero => exact ⟨rfl, le_rfl, le_rfl⟩
  | succ k ih =>
    unfold State.recMany
    extract_lets r t
    obtain ⟨hlen, hcount, hbad⟩ : t.1.length = 64 * t.2.1 ∧ t.2.1 ≤ k ∧ t.2.2.length ≤ t.2.1 := ih r.next
    split
    · exact ⟨rfl, Nat.zero_le _, le_rfl⟩
    · refine ⟨?_, Nat.succ_le_succ hcount, ?_⟩
      · show (r.bytes ++ t.1).length = 64 * (t.2.1 + 1)
        rw [List.length_append, s.recRead_length, hlen]
        omega
      · show (if r.result = 2 then r.pos :: t.2.2 else t.2.2).length ≤ t.2.1 + 1
        split
        · exact Nat.succ_le_succ hbad
        · exact hbad.trans (Nat.le_succ _)

/-! ### Commands (R33, R385, R507) -/

theorem firstRefusal_append_of_none {l : List (Bool × Status)} (m : List (Bool × Status)) (h : firstRefusal l = none) :
    firstRefusal (l ++ m) = firstRefusal m := by
  induction l with
  | nil => rfl
  | cons p l ih =>
    obtain ⟨b, st⟩ := p
    cases b
    · exact ih h
    · cases h

/-- An allowed command whose one check fails with PARAM or RANGE is refused with it. -/
theorem State.command_refused (s : State) (op role : Nat) (h : Hdr) {c : Bool} {st : Status} (body : State → CmdRes) (a : s.Allowed op role h)
    (hc : c = true) (hst : st = .param ∨ st = .range) : s.command op role h [(c, st)] body = s.refuseCmd op role h st := by
  have hnone : firstRefusal [(s.isOn F.SEC_STATUS_TAMPER_LATCHED && (role == rSafety || role == rUpdate), .auth),
      (!hasRole (s.cmdRoles op h) role, .role)] = none := by
    obtain ⟨htamper, hrole, -⟩ := a
    rw [firstRefusal_none]
    simp only [List.mem_cons, List.not_mem_nil, or_false, forall_eq_or_imp, forall_eq, hrole, Bool.not_true, and_true]
    cases ht : s.isOn F.SEC_STATUS_TAMPER_LATCHED
    · rfl
    · simp [htamper ht]
  have hrefusal : s.refusal op role h [(c, st)] = some st := by
    unfold State.refusal
    simp only [List.append_assoc]
    rw [firstRefusal_append_of_none _ hnone, hc]
    rcases hst with rfl | rfl <;> rfl
  unfold State.command
  rw [hrefusal]

/-- Bulk-out transfers with the results that their completions carry, in order. -/
def State.owed (s : State) : List (Nat × Nat × List Int) :=
  (s.hrt.transferred ++ s.hrt.transfers).map fun x => (x.opcode, x.tag, x.completion.result)

theorem State.publish_transfers (s : State) (k n : Nat) : (s.publish k n).hrt.transfers = s.hrt.transfers := by
  unfold State.publish
  extract_lets i j s1 u _ s2 c
  have h1 : s1.hrt.transfers = s.hrt.transfers := rfl
  have h2 : s2.hrt.transfers = s1.hrt.transfers := rfl
  split
  · exact h2.trans h1
  · exact h2.trans h1

theorem State.publish_owed (s : State) (k n : Nat) : (s.publish k n).owed = s.owed := by
  unfold State.owed
  rw [State.publish_transferred, State.publish_transfers]

theorem State.flush_owed (n : Nat) (s : State) : (s.flushCompletions n).owed = s.owed := by
  induction n generalizing s with
  | zero => rfl
  | succ n ih =>
    unfold State.flushCompletions
    split
    · rfl
    · split
      · rw [ih, State.publish_owed]; rfl
      · rfl

theorem State.emit_owed (s : State) (c : Completion) : (s.emit c).owed = s.owed := by
  unfold State.emit
  split
  · simp only []; rw [State.flush_owed]; rfl
  · simp only [State.owed, State.post_hrt]

/-- Writing entries of transfers leaves open what each owes the host. -/
theorem State.pump_owed (n : Nat) (s : State) : (s.pumpBulk n).owed = s.owed := by
  induction n generalizing s with
  | zero => rfl
  | succ n ih =>
    unfold State.pumpBulk
    split
    · rfl
    · next t ts e =>
      have hresult : ∀ i, (if t.written = 0 then { t.completion with bulkIndex := i } else t.completion).result = t.completion.result :=
        fun i => by split <;> rfl
      simp only []
      split
      · rw [ih, State.emit_owed]
        split <;> simp [State.owed, e, State.publish_transferred s 5 _, hresult]
      · split <;> simp [State.owed, e, State.publish_transferred s 5 _, hresult]

theorem State.completeBulk_owed (s : State) (op tag kind : Nat) (res : List Int) (i len : Nat) (data : List Int)
    (on : s.isOn F.HRT_STATUS_RINGS_RUNNING = true) :
    (s.completeBulk op tag kind res i len data).owed = s.owed ++ [(op, tag, res)] := by
  unfold State.completeBulk
  rw [if_pos on, State.pump_owed]
  simp [State.owed]

/-- An answer with a transfer owes its result with the completion that follows it (R385). -/
theorem State.answer_bulk_owed (s : State) (op role : Nat) (h : Hdr) (res : List Int) (len : Nat) (data : List Int)
    (on : s.isOn F.HRT_STATUS_RINGS_RUNNING = true) :
    ∃ x ∈ (s.answer op role h (.bulk s res len data)).hrt.transferred ++ (s.answer op role h (.bulk s res len data)).hrt.transfers,
      x.opcode = op ∧ x.tag = h.tag ∧ x.completion.result = res := by
  let s2 : State := if audited role then s.cmdRec op h .ok else s
  have hquiet : s.Quiet (s2.untake op h.tag) :=
    .trans (by show s.Quiet (if _ then _ else _); split; exacts [State.quiet_cmdRec _ _ _ _ _ _ _, State.Quiet.refl _]) (State.quiet_untake _ _ _)
  have howed : (s.answer op role h (.bulk s res len data)).owed = (s2.untake op h.tag).owed ++ [(op, h.tag, res)] :=
    State.completeBulk_owed _ _ _ _ _ _ _ _ (State.quiet_raise_free s on hquiet)
  have hmem : (op, h.tag, res) ∈ (s.answer op role h (.bulk s res len data)).owed := by
    rw [howed]
    exact List.mem_append_right _ List.mem_cons_self
  obtain ⟨x, hx, heq⟩ := List.mem_map.1 hmem
  simp only [Prod.mk.injEq] at heq
  exact ⟨x, hx, heq⟩

theorem recRead_answers (s : State) (h : Hdr) (area pos k : Nat) (a : s.Allowed 0x0B02 rObserver h) (harea : area ≤ 1) (hk1 : 1 ≤ k)
    (hk : k ≤ 4096) : ∃ t,
    exec (.recRead h area pos k) s = .next t ∧ s.AnsweredBulk t 0x0B02 h ((s.recMany (area == 1) k pos).1.map fun b => (b : Int)) ∧
    (s.recMany (area == 1) k pos).1.length = 64 * (s.recMany (area == 1) k pos).2.1 ∧ (s.recMany (area == 1) k pos).2.1 ≤ k ∧
    (s.recMany (area == 1) k pos).2.2.length ≤ (s.recMany (area == 1) k pos).2.1 ∧
    (s.isOn F.HRT_STATUS_RINGS_RUNNING = true → ∃ x ∈ t.hrt.transferred ++ t.hrt.transfers, x.opcode = 0x0B02 ∧ x.tag = h.tag ∧
      x.completion.result = [((s.recRead (area == 1) pos).pos : Int), (s.recMany (area == 1) k pos).2.1,
        ((s.recRead (area == 1) pos).skipped.getD 0 : Nat)] ++ (s.recMany (area == 1) k pos).2.2.map fun p => (p : Int)) ∧
    (t.rd F.REC_CURSOR_POS_VALUE = s.rd F.REC_CURSOR_POS_VALUE ∧ t.rd F.REC_STATUS_RESULT = s.rd F.REC_STATUS_RESULT) := by
  have hrun := State.command_run s 0x0B02 rObserver h [(decide (1 < area) || !inR 1 4096 k, .range)] (fun s =>
    let first := s.recRead (area == 1) pos
    let x := s.recMany (area == 1) k pos
    .bulk s ([(first.pos : Int), x.2.1, (first.skipped.getD 0 : Nat)] ++ x.2.2.map fun p => (p : Int)) x.1.length (x.1.map fun b => (b : Int)))
    a (by simp [inR, harea, hk1, hk])
  have hans := State.answer_bulk s s 0x0B02 rObserver h
    ([((s.recRead (area == 1) pos).pos : Int), (s.recMany (area == 1) k pos).2.1, ((s.recRead (area == 1) pos).skipped.getD 0 : Nat)] ++
      (s.recMany (area == 1) k pos).2.2.map fun p => (p : Int)) (s.recMany (area == 1) k pos).1.length
    ((s.recMany (area == 1) k pos).1.map fun b => (b : Int))
  obtain ⟨hlen, hcount, hbad⟩ := s.recMany_bounds (area == 1) k pos
  exact ⟨_, congrArg Host.Outcome.next hrun, hans, hlen, hcount, hbad, s.answer_bulk_owed _ _ _ _ _ _, hans.regs _ (by decide),
    hans.regs _ (by decide)⟩

theorem recRead_range (s : State) (h : Hdr) (area pos k : Nat) (a : s.Allowed 0x0B02 rObserver h) (hbad : 1 < area ∨ k = 0 ∨ 4096 < k) :
    exec (.recRead h area pos k) s = .next (s.refuseCmd 0x0B02 rObserver h .range) := by
  refine congrArg Host.Outcome.next (s.command_refused _ _ _ _ a ?_ (.inr rfl))
  simp only [inR, Bool.or_eq_true, decide_eq_true_eq, Bool.not_eq_true', Bool.and_eq_false_iff, decide_eq_false_iff_not]
  omega

theorem recStatus_answers (s : State) (h : Hdr) (a : s.Allowed 0x0B01 rObserver h) : ∃ t, exec (.recStatus h) s = .next t ∧
    s.Told t 0x0B01 h (s.wordsFrom 0xF0000 14 ++ s.wordsFrom 0xF0040 16 ++ s.wordsFrom 0x120000 3 ++ s.wordsFrom 0x120010 3 ++
      s.wordsFrom 0x120100 26 ++ s.wordsFrom 0x120200 2) :=
  ⟨_, congrArg Host.Outcome.next (State.command_run s _ _ h [] _ a (by simp)), State.answer_ret _ _ _ _ _ _⟩

theorem recNote_refused (s : State) (h : Hdr) (text : List Byte) (a : s.Allowed 0x0B03 rOperator h) (hlen : text.length ≠ 32) :
    exec (.recNote h text) s = .next (s.refuseCmd 0x0B03 rOperator h .param) :=
  congrArg Host.Outcome.next (s.command_refused _ _ _ _ a (by simpa using hlen) (.inl rfl))

theorem recNote_done (s : State) (h : Hdr) (text : List Byte) (a : s.Allowed 0x0B03 rOperator h) (hlen : text.length = 32) :
    ∃ t, exec (.recNote h text) s = .next t ∧ (s.detail false text).Done t 0x0B03 h .ok [] :=
  ⟨_, congrArg Host.Outcome.next (State.command_run s _ _ h _ _ a (by simp [hlen])), State.answer_done _ _ _ _ _ _⟩

theorem recNote_posts (s : State) (h : Hdr) (text : List Byte) (a : s.Allowed 0x0B03 rOperator h) (hlen : text.length = 32)
    (hctl : s.pwr.ctl = true) : ∃ (t u : State) (r : Rec), exec (.recNote h text) s = .next t ∧ u.Done t 0x0B03 h .ok [] ∧
      u.recorder.queue = s.recorder.queue ++ [r] ∧ r.kind = .detail ∧ r.system = false ∧ r.data = text := by
  obtain ⟨t, hexec, hdone⟩ := recNote_done s h text a hlen
  obtain ⟨q, hqueue, hkind, hdata, -, hsystem, -⟩ :=
    s.post_queued_spec { kind := .detail, system := false, data := text, status := .ok, fromStfP := false, milestone := false } (.inl ⟨hctl, rfl⟩)
  exact ⟨t, _, q, hexec, hdone, hqueue, hkind, hsystem, hdata⟩

/-- Settles O51: each clause is its operation's lemma; READ has one for each row of R495. -/
theorem recordsAreKeptInOrder : Obligations.RecordsAreKeptInOrder := by
  unfold Obligations.RecordsAreKeptInOrder
  refine ⟨State.post_dropped, State.post_queued_spec, State.post_waits_spec, recordPost_idle, recordPost_writes,
    fun s => ⟨fun hctl => congrArg Host.Outcome.next (if_neg (by rw [hctl]; decide)), bridgeReturn_flushes s⟩, fun s hpos hhead => ?_,
    recRead_answers, recRead_range, recStatus_answers, recNote_posts,
    fun s h text a => ⟨recNote_refused s h text a, fun hlen hctl => ?_⟩, sysCounterSave_saves⟩
  · exact ⟨s.recWindow, rfl, s.recWindow_ctrl, fun r => read_first_found s hpos, read_first_empty s hpos, read_last_head s hhead,
      read_last_written s hpos hhead, read_last_overtaken s hpos⟩
  · obtain ⟨t, hexec, hdone⟩ := recNote_done s h text a hlen
    have hsame : s.detail false text = s := State.post_dropped s _ rfl hctl
    rw [hsame] at hdone
    exact ⟨t, hexec, hdone⟩

end Sys2Proof.Machine
end

section
/-! PROOFS. What begins and ends a substitution of the controller card, and what it leaves alone (R502–R504): a frame over registers, recorder and pools. -/

namespace Sys2Proof.Machine

-- One proof after another: a thread for each would not fit the memory of the check.
set_option Elab.async false

/-! ### What a completion and the substitutions of the controller card leave alone -/

/-- Ending an operation moves what an answer moves, and the list of open operations. -/
theorem State.finish_frame (s : State) (op key : Nat) (st : Status) (res : List Int) :
    s.SameRest (s.finish op key st res) ∧ s.SameRegs (s.finish op key st res) answerKeys ∧ s.SameLog (s.finish op key st res) := by
  unfold State.finish
  split
  · exact ⟨rfl, fun _ _ => rfl, rfl⟩
  · next o _ =>
    have hquiet := State.quiet_complete ({ s with hrt.ops := s.hrt.ops.erase o } : State) o.opcode o.tag 2 st res o.index
    exact ⟨State.SameRest.trans (t := { s with hrt.ops := s.hrt.ops.erase o }) rfl hquiet.rest, hquiet.regs, hquiet.log⟩

theorem State.rd_of_regs {s t : State} (h : t.regs = s.regs) (f : Field) : t.rd f = s.rd f := by
  unfold State.rd
  rw [h]

/-- The recorder apart from records on their way and from UNDERCOAT's substitutions of the controller card. -/
def RecState.settled (r : RecState) : RecState :=
  { r.stored with spent := [], reloc := none, relocWait := [], coreShadow := none, coreAgreed := false }

theorem RecState.settled_of_stored {r q : RecState} (h : r.stored = q.stored) : r.settled = q.settled := by
  unfold RecState.settled
  rw [h]

theorem State.SameLog.stored {s t : State} (h : s.SameLog t) : t.recorder.stored = s.recorder.stored := by
  unfold State.SameLog at h
  rw [h]
  rfl

/-- The registers that a substitution of the controller card moves as it begins. -/
def jobKeys : List Nat :=
  [F.UC_STATUS_RELOCATING.key, F.UPD_STATUS_STATE.key, F.UPD_PROGRESS_PERMILLE.key] ++ exhaustKeys ++ answerKeys

/-- `t` comes from `s` by substitutions that begin: the recorder's own state and the switch records stand, and no pool is restored. -/
structure State.JobKept (s t : State) : Prop where
  rest : t = { s with regs := t.regs, recorder := t.recorder, hrt := t.hrt, upd := t.upd }
  regs : s.SameRegs t jobKeys
  settled : t.recorder.settled = s.recorder.settled
  switches : t.upd.sw0 = s.upd.sw0 ∧ t.upd.sw1 = s.upd.sw1
  pools : ∀ p, p < 7 → s.poolOut p = true → t.poolOut p = true

namespace State.JobKept

variable {s t u : State}

theorem refl (s : State) : JobKept s s := ⟨rfl, fun _ _ => rfl, rfl, ⟨rfl, rfl⟩, fun _ _ h => h⟩

theorem trans (h : JobKept s t) (k : JobKept t u) : JobKept s u := by
  refine ⟨?_, fun f hf => (k.regs f hf).trans (h.regs f hf), k.settled.trans h.settled,
    ⟨k.switches.1.trans h.switches.1, k.switches.2.trans h.switches.2⟩, fun p hp hout => k.pools p hp (h.pools p hp hout)⟩
  rw [k.rest, h.rest]

/-- A step that does not touch EXHAUSTED. -/
theorem of_regs {ks : List Nat} (hregs : s.SameRegs t ks) (hk : ks ⊆ jobKeys) (hset : t.recorder.settled = s.recorder.settled)
    (hsw : t.upd.sw0 = s.upd.sw0 ∧ t.upd.sw1 = s.upd.sw1) (hout : F.UC_STATUS_EXHAUSTED.key ∉ ks := by decide)
    (hrest : t = { s with regs := t.regs, recorder := t.recorder, hrt := t.hrt, upd := t.upd } := by rfl) : JobKept s t :=
  ⟨hrest, fun f hf => hregs f fun hm => hf (hk hm), hset, hsw, fun p _ h => (State.poolOut_congr p (hregs _ hout)).trans h⟩

theorem ite {c : Prop} [Decidable c] (ht : JobKept s t) (hu : JobKept s u) : JobKept s (if c then t else u) := by
  split
  · exact ht
  · exact hu

end State.JobKept

/-- A pool that is exhausted stays so when another one is. -/
theorem State.exhaust_pools (s : State) (pool res : Nat) {p : Nat} (hp : p < 7) (h : s.poolOut p = true) : (s.exhaust pool res).poolOut p = true := by
  by_cases hspent : s.recorder.spent.contains (pool, res) = true
  · exact (congrArg (State.poolOut · p) (if_pos hspent)).trans h
  · let s1 : State := s.withSpent (s.recorder.spent ++ [(pool, res)])
    let s2 : State := if s1.poolOut pool then s1 else s1.wr F.UC_STATUS_EXHAUSTED (s1.rd F.UC_STATUS_EXHAUSTED + 2 ^ pool)
    have heq : s.exhaust pool res = (s2.flag Fl.UC_EVENT_EXHAUSTED { system := true, idx := pool }).sparing pool 2 res 0 true := if_neg hspent
    have hstay : s2.poolOut p = true := by
      by_cases hout : s1.poolOut pool = true
      · exact (congrArg (State.poolOut · p) (if_pos hout)).trans h
      · refine (congrArg (State.poolOut · p) (if_neg hout)).trans ((State.poolOut_iff _ _).2 ?_)
        rw [State.rd_wr_same, show F.UC_STATUS_EXHAUSTED.width = 7 from rfl, mod_two_pow_bit hp]
        exact add_two_pow_keeps_bit (fun hbit => hout ((s1.poolOut_iff pool).2 hbit)) ((s1.poolOut_iff p).1 h)
    rw [heq]
    exact (State.poolOut_congr p (((State.sparing_noted _ _ _ _ _ _).regs _ (by decide)).trans ((s2.flag_noted _ _).regs _ (by decide)))).trans
      hstay

theorem State.exhaust_jobKept (s : State) (pool res : Nat) : s.JobKept (s.exhaust pool res) := by
  obtain ⟨hnoted, -, -⟩ := s.exhaust_noted pool res
  refine ⟨by rw [hnoted.same]; rfl, fun f hf => hnoted.regs f fun hm => hf ?_, (RecState.settled_of_stored hnoted.stored).trans rfl, by rw [hnoted.upd]; exact ⟨rfl, rfl⟩,
    fun p hp => s.exhaust_pools pool res hp⟩
  exact List.mem_append_left _ (List.mem_append_right _ hm)

theorem State.finish_jobKept (s : State) (op key : Nat) (st : Status) (res : List Int) : s.JobKept (s.finish op key st res) := by
  obtain ⟨hrest, hregs, hlog⟩ := s.finish_frame op key st res
  exact .of_regs hregs (by decide) (RecState.settled_of_stored hlog.stored) (by rw [hrest]; exact ⟨rfl, rfl⟩)
    (hrest := by rw [hrest])

/-- The shadow run of an update ends, so that core 3 is free (R503). -/
def State.freeCore (s : State) : State :=
  if s.rd F.UPD_STATUS_STATE = 5 ∧ s.upd.step < 5 then
    (({ s with upd.step := 0 } : State).wrs [(F.UPD_STATUS_STATE, 4), (F.UPD_PROGRESS_PERMILLE, 0)]).finish 0x0C05 0 .noResource
  else s

theorem State.startJob_core (s : State) (d c : Nat) :
    s.startJob (1, d, c) = { s.freeCore with recorder.coreShadow := some c, recorder.coreAgreed := false } := rfl

theorem State.startJob_none {s : State} {p d : Nat} (a : Nat) (hp : p ≠ 1) (h : s.rd (spareField p d) = 0) :
    s.startJob (p, d, a) = s.exhaust p (spareRes p d) := (if_neg hp).trans (if_pos h)

theorem State.startJob_spare {s : State} {p d : Nat} (a : Nat) (hp : p ≠ 1) (h : s.rd (spareField p d) ≠ 0) : s.startJob (p, d, a) =
    ({ s with recorder.reloc := some { pool := p, device := d, resource := a, spare := s.nextSpare p d } } : State).wr F.UC_STATUS_RELOCATING 1 :=
  (if_neg hp).trans (if_neg h)

theorem State.freeCore_jobKept (s : State) : s.JobKept s.freeCore := by
  unfold State.freeCore
  split
  · refine .trans (t := ({ s with upd.step := 0 } : State).wrs [(F.UPD_STATUS_STATE, 4), (F.UPD_PROGRESS_PERMILLE, 0)]) ?_ (State.finish_jobKept _ _ _ _ _)
    refine .of_regs (ks := [F.UPD_STATUS_STATE.key, F.UPD_PROGRESS_PERMILLE.key]) (fun f hf => ?_) (by decide) rfl ⟨rfl, rfl⟩
    simp only [List.mem_cons, List.not_mem_nil, or_false, not_or] at hf
    exact (State.rd_wr_ne _ _ _ _ hf.2).trans (State.rd_wr_ne _ _ _ _ hf.1)
  · exact .refl s

theorem State.startJob_jobKept (s : State) (j : Nat × Nat × Nat) : s.JobKept (s.startJob j) := by
  obtain ⟨p, d, a⟩ := j
  by_cases hp : p = 1
  · subst hp
    rw [s.startJob_core]
    exact s.freeCore_jobKept.trans (.of_regs (ks := []) (fun _ _ => rfl) (by simp) rfl ⟨rfl, rfl⟩)
  · by_cases h : s.rd (spareField p d) = 0
    · rw [State.startJob_none a hp h]
      exact s.exhaust_jobKept _ _
    · rw [State.startJob_spare a hp h]
      exact .of_regs (ks := [F.UC_STATUS_RELOCATING.key]) (fun f hf => State.rd_wr_ne _ _ _ _ (by simpa using hf)) (by decide) rfl ⟨rfl, rfl⟩

theorem State.nextJobs_jobKept (l : List (Nat × Nat × Nat)) (s : State) : s.JobKept (s.nextJobs l) := by
  have hwait : ∀ (u : State) w, u.JobKept { u with recorder.relocWait := w } := fun u w =>
    .of_regs (ks := []) (fun _ _ => rfl) (by simp) rfl ⟨rfl, rfl⟩
  induction l generalizing s with
  | nil => exact hwait s _
  | cons j l ih =>
    unfold State.nextJobs
    extract_lets s1
    split
    · exact (s.startJob_jobKept j).trans (hwait _ _)
    · exact (s.startJob_jobKept j).trans (ih _)

/-- A substitution that is not on its way yet: it waits behind the one that runs, or begins. -/
theorem State.queueJob_new (s : State) {j : Nat × Nat × Nat} (hwait : j ∉ s.recorder.relocWait)
    (hmap : ∀ r ∈ s.recorder.map, (r.pool, r.device, r.resource) ≠ j)
    (hreloc : ∀ r, s.recorder.reloc = some r → (r.pool, r.device, r.resource) ≠ j) : s.queueJob j =
      if s.ctlBusy then { s with recorder.relocWait := s.recorder.relocWait ++ [j] } else s.startJob j := by
  have h1 : s.recorder.relocWait.contains j = false := by simpa using hwait
  have h2 : s.recorder.map.any (fun m => (m.pool, m.device, m.resource) == j) = false := by simpa using hmap
  unfold State.queueJob
  rw [h1, h2]
  cases hr : s.recorder.reloc with
  | none => rfl
  | some r =>
    have h3 : ((r.pool, r.device, r.resource) == j) = false := by simpa using hreloc r hr
    show (if (false || false || ((r.pool, r.device, r.resource) == j)) = true then s else _) = _
    rw [h3]
    rfl

theorem State.reloc_of_free {s : State} (hb : s.ctlBusy = false) : s.recorder.reloc = none := by
  cases h : s.recorder.reloc with
  | none => rfl
  | some r =>
    rw [State.ctlBusy, h] at hb
    cases hb

/-- A new substitution begins at once where none is under way. -/
theorem State.queueJob_free (s : State) {j : Nat × Nat × Nat} (hb : s.ctlBusy = false) (hwait : j ∉ s.recorder.relocWait)
    (hmap : ∀ r ∈ s.recorder.map, (r.pool, r.device, r.resource) ≠ j) : s.queueJob j = s.startJob j := by
  have hnone : ∀ r, s.recorder.reloc ≠ some r := fun r hr => by
    rw [State.reloc_of_free hb] at hr
    cases hr
  rw [s.queueJob_new hwait hmap fun r hr => absurd hr (hnone r), hb]
  rfl

theorem State.queueJob_busy (s : State) {j : Nat × Nat × Nat} (hb : s.ctlBusy = true) (hwait : j ∉ s.recorder.relocWait)
    (hmap : ∀ r ∈ s.recorder.map, (r.pool, r.device, r.resource) ≠ j)
    (hreloc : ∀ r, s.recorder.reloc = some r → (r.pool, r.device, r.resource) ≠ j) :
    s.queueJob j = { s with recorder.relocWait := s.recorder.relocWait ++ [j] } := by
  rw [s.queueJob_new hwait hmap hreloc, hb]
  rfl

/-- A substitution without a spare: the pool is exhausted and none is under way. -/
theorem State.startJob_exhausts {s : State} {p d : Nat} (a : Nat) (hp : p ≠ 1) (hp7 : p < 7) (hb : s.ctlBusy = false) (h : s.rd (spareField p d) = 0) :
    (s.startJob (p, d, a)).recorder.reloc = none ∧
      ((p, spareRes p d) ∉ s.recorder.spent → (s.startJob (p, d, a)).poolOut p = true) := by
  rw [State.startJob_none a hp h]
  obtain ⟨hnoted, -, -⟩ := s.exhaust_noted p (spareRes p d)
  exact ⟨(congrArg RecState.reloc hnoted.stored : _).trans (State.reloc_of_free hb), fun hs => (s.exhaust_shows hp7 hs).1⟩

/-- A relocation that begins with the next spare. -/
theorem State.startJob_relocates {s : State} {p d : Nat} (a : Nat) (hp : p ≠ 1) (h : s.rd (spareField p d) ≠ 0) :
    (s.startJob (p, d, a)).isOn F.UC_STATUS_RELOCATING = true ∧
      (s.startJob (p, d, a)).recorder.reloc = some { pool := p, device := d, resource := a, spare := s.nextSpare p d } := by
  rw [State.startJob_spare a hp h]
  refine ⟨?_, rfl⟩
  unfold State.isOn
  rw [State.rd_wr_same]
  rfl

theorem State.queueJob_jobKept (s : State) (j : Nat × Nat × Nat) : s.JobKept (s.queueJob j) := by
  have hwait : s.JobKept { s with recorder.relocWait := s.recorder.relocWait ++ [j] } := .of_regs (ks := []) (fun _ _ => rfl) (by simp) rfl ⟨rfl, rfl⟩
  have hnew : s.JobKept (if s.ctlBusy then { s with recorder.relocWait := s.recorder.relocWait ++ [j] } else s.startJob j) := .ite hwait (s.startJob_jobKept j)
  unfold State.queueJob
  exact .ite (.refl s) hnew

end Sys2Proof.Machine
end

section
/-! PROOFS. Scrubbing: what a pass counts, discards and starts, region by region (R25–R27, R498, R501). -/

namespace Sys2Proof.Machine

-- One proof after another: a thread for each would not fit the memory of the check.
set_option Elab.async false

/-! ### A pass and what it counts (R26, R27) -/

/-- A pass with the symbols that it corrected counted. -/
def State.passCounted (s : State) (m : MemRegion) (n : Nat) : State :=
  { s with recorder.corrected := s.recorder.corrected + n
           recorder.cacheCorr := match m with
             | .cache c => if n = 0 then s.recorder.cacheCorr else Tbl.put s.recorder.cacheCorr c (Tbl.get 0 s.recorder.cacheCorr c + n)
             | _ => s.recorder.cacheCorr }

/-- An uncorrectable codeword outside safety memory, counted with its record. -/
def State.badWord (s : State) (name : List Byte) : State :=
  ({ s with recorder.uncorrectable := s.recorder.uncorrectable + 1 } : State).detail true name .integrity

theorem exec_scrub (s : State) (m : MemRegion) {ws : List (List (Nat × Nat))} (f : Bool) (e : Nat) {n : Nat} {two u : Bool}
    (h : scrubbed ws = (n, two, u)) : exec (.scrub m ws f e) s =
      .next ((if u then (s.passCounted m n).uncorrectable m else s.passCounted m n).wear m n two (u || f) e) := by
  have h1 : n = (scrubbed ws).1 := by rw [h]
  have h2 : two = (scrubbed ws).2.1 := by rw [h]
  have h3 : u = (scrubbed ws).2.2 := by rw [h]
  subst h1 h2 h3
  cases m <;> rfl

theorem State.badWord_frame (s : State) (name : List Byte) :
    State.Noted recordKeys { s with recorder.uncorrectable := s.recorder.uncorrectable + 1 } (s.badWord name) :=
  State.detail_noted _ _ _ _ _ _

/-- A codeword of SRAM, or of DRAM that no transfer holds: it is counted and nothing else. -/
theorem scrub_plain (s : State) {m : MemRegion} {ws : List (List (Nat × Nat))} (f : Bool) (e : Nat) {n : Nat} {two u : Bool}
    (h : scrubbed ws = (n, two, u)) {a : Nat} (hm : m = .sram a ∨ m = .dram a none) : ∃ t, exec (.scrub m ws f e) s = .next t ∧
      t.recorder.corrected = s.recorder.corrected + n ∧ t.recorder.uncorrectable = s.recorder.uncorrectable + (if u then 1 else 0) ∧
      s.SameRegs t recordKeys := by
  have heq : exec (.scrub m ws f e) s = .next (if u then (s.passCounted m n).badWord (regionName m ++ []) else s.passCounted m n) := by
    rw [exec_scrub s m f e h]
    rcases hm with rfl | rfl <;> cases u <;> rfl
  have hpass : s.SameRegs (s.passCounted m n) recordKeys ∧ (s.passCounted m n).recorder.corrected = s.recorder.corrected + n ∧
      (s.passCounted m n).recorder.uncorrectable = s.recorder.uncorrectable := ⟨fun _ _ => rfl, rfl, rfl⟩
  refine ⟨_, heq, ?_⟩
  cases u with
  | false => exact ⟨hpass.2.1, hpass.2.2, hpass.1⟩
  | true =>
    have hbad := (s.passCounted m n).badWord_frame (regionName m ++ [])
    exact ⟨(congrArg RecState.corrected hbad.stored :), (congrArg RecState.uncorrectable hbad.stored :), hbad.regs⟩

theorem State.flush_transfers (n : Nat) (s : State) : (s.flushCompletions n).hrt.transfers = s.hrt.transfers := by
  induction n generalizing s with
  | zero => rfl
  | succ n ih =>
    unfold State.flushCompletions
    split
    · rfl
    · split
      · rw [ih, State.publish_transfers]
      · rfl

theorem State.emit_transfers (s : State) (c : Completion) : (s.emit c).hrt.transfers = s.hrt.transfers := by
  unfold State.emit
  split
  · exact State.flush_transfers _ _
  · rw [State.post_hrt]

theorem State.transferLost_some {s : State} {g : Nat} {x : Transfer} (h : s.hrt.transfers.find? (fun y => y.tag == g) = some x) :
    s.transferLost g = ({ s with hrt.transfers := s.hrt.transfers.erase x } : State).emit
      { x.completion with status := .integrity, bulkLen := 0, result := [] } := by
  unfold State.transferLost
  rw [h]

/-- A bulk-out transfer of which a codeword is lost (R26). -/
theorem scrub_transfer (s : State) {ws : List (List (Nat × Nat))} (f : Bool) (e : Nat) {n : Nat} {two : Bool} (h : scrubbed ws = (n, two, true))
    (a : Nat) {g : Nat} {x : Transfer} (hx : s.hrt.transfers.find? (fun y => y.tag == g) = some x) :
    ∃ t, exec (.scrub (.dram a (some g)) ws f e) s = .next t ∧ t.hrt.transfers = s.hrt.transfers.erase x ∧
      (s.isOn F.HRT_STATUS_RINGS_RUNNING = true → ∃ c, t.handed = s.handed ++ [c] ∧ c.tag = x.completion.tag ∧ c.status = .integrity) := by
  let s1 : State := (s.passCounted (.dram a (some g)) n).badWord (regionName (.dram a (some g)) ++ [])
  have hbad : State.Noted recordKeys _ s1 := State.badWord_frame _ _
  have hhrt : s1.hrt = s.hrt := hbad.hrt
  have heq : exec (.scrub (.dram a (some g)) ws f e) s = .next (s1.transferLost g) := exec_scrub s _ f e h
  rw [State.transferLost_some (by rw [hhrt]; exact hx)] at heq
  refine ⟨_, heq, ?_, fun hon => ⟨{ x.completion with status := .integrity, bulkLen := 0, result := [] }, ?_, rfl, rfl⟩⟩
  · rw [State.emit_transfers, hhrt]
  · have hrings : ({ s1 with hrt.transfers := s1.hrt.transfers.erase x } : State).isOn F.HRT_STATUS_RINGS_RUNNING = true := (hbad.isOn _ (by decide)).trans hon
    rw [State.emit_handed, if_pos hrings]
    show (s1.hrt.completions ++ s1.hrt.compWait) ++ _ = _
    rw [hhrt]
    rfl

theorem scrub_safety (s : State) {ws : List (List (Nat × Nat))} (f : Bool) (e : Nat) {n : Nat} {two u : Bool} (h : scrubbed ws = (n, two, u)) (p : Nat) :
    exec (.scrub (.safety p) ws f e) s = .next (if u then ({ s with recorder.corrected := s.recorder.corrected + n } : State).raiseCause .safetyMemory 1
      else { s with recorder.corrected := s.recorder.corrected + n }) := by
  rw [exec_scrub s _ f e h]
  cases u <;> rfl

/-! ### MRAM rows (R25, R26, R498, R501) -/

/-- A row with the symbols corrected in it added to its life. -/
def State.rowCounted (s : State) (r n : Nat) : State :=
  if n = 0 then s else { s with recorder.rowLife := Tbl.put s.recorder.rowLife r (Tbl.get 0 s.recorder.rowLife r + n) }

theorem State.rowCounted_regs (s : State) (r n : Nat) : (s.rowCounted r n).regs = s.regs := by
  unfold State.rowCounted; split <;> rfl

theorem State.rowCounted_recorder (s : State) (r n : Nat) : ∃ l, (s.rowCounted r n).recorder = { s.recorder with rowLife := l } := by
  unfold State.rowCounted
  split
  · exact ⟨s.recorder.rowLife, rfl⟩
  · exact ⟨_, rfl⟩

theorem State.rowCounted_upd (s : State) (r n : Nat) : (s.rowCounted r n).upd = s.upd := by
  unfold State.rowCounted; split <;> rfl

theorem State.wear_row (s : State) (a n : Nat) (two bad : Bool) (e : Nat) : s.wear (.mram a) n two bad e =
    if decide (s.rd F.UC_CFG_MRAM_PASS ≤ n) || decide (s.rd F.UC_CFG_MRAM_LIFE ≤ Tbl.get 0 s.recorder.rowLife (a / 1024) + n) || bad then
      (s.rowCounted (a / 1024) n).queueJob (2, 0, a / 1024) else s.rowCounted (a / 1024) n := by
  have hrd : ∀ f : Field, (s.rowCounted (a / 1024) n).rd f = s.rd f := State.rd_of_regs (s.rowCounted_regs _ _)
  rw [← hrd F.UC_CFG_MRAM_PASS, ← hrd F.UC_CFG_MRAM_LIFE]
  rfl

/-- What an uncorrectable codeword of MRAM outside or in safety memory leaves of the state before its data are discarded. -/
def State.rowBad (s : State) (a : Nat) : State :=
  if mramSafety a then s.raiseCause .safetyMemory 1 else s.badWord (regionName (.mram a) ++ [])

theorem scrub_row_bad (s : State) {ws : List (List (Nat × Nat))} (f : Bool) (e : Nat) {n : Nat} {two : Bool} (h : scrubbed ws = (n, two, true)) (a : Nat) :
    ∃ t, exec (.scrub (.mram a) ws f e) s = .next t ∧ ∃ u : State, u.JobKept t ∧
      ∃ l, u.recorder = { (((s.passCounted (.mram a) n).rowBad a).mramLost a).recorder with rowLife := l } ∧
        u.upd = (((s.passCounted (.mram a) n).rowBad a).mramLost a).upd := by
  let s1 : State := ((s.passCounted (.mram a) n).rowBad a).mramLost a
  have hun : (s.passCounted (.mram a) n).uncorrectable (.mram a) = s1 := by
    show (if mramSafety a then _ else _) = State.mramLost (if mramSafety a then _ else _) a
    split <;> rfl
  refine ⟨_, exec_scrub s _ f e h, s1.rowCounted (a / 1024) n, ?_, ?_⟩
  · rw [if_pos rfl, hun, State.wear_row, if_pos (by simp)]
    exact State.queueJob_jobKept _ _
  · obtain ⟨l, hl⟩ := s1.rowCounted_recorder (a / 1024) n
    exact ⟨l, hl, s1.rowCounted_upd _ _⟩

theorem State.rowBad_outside {s : State} {a : Nat} (h : a < 0x384000 ∨ 0x38447F < a) : s.rowBad a = s.badWord (regionName (.mram a) ++ []) :=
  if_neg fun hin => by
    have hin := (inR_iff _ _ _).1 hin
    omega

theorem State.mramLost_first {s : State} {a : Nat} (h : a < 0x20000) :
    s.mramLost a = { s with recorder.firstBad := s.recorder.firstBad ++ [a / 64] } := if_pos h

theorem State.mramLost_counters {s : State} {a : Nat} (h : 0x384540 ≤ a) (h' : a < 0x384580) :
    s.mramLost a = { s with recorder.counters0.valid := false } := by
  simp (disch := omega) only [State.mramLost, if_neg, if_pos]

theorem State.mramLost_switch {s : State} {a : Nat} (h : 0x384480 ≤ a) (h' : a < 0x3844C0) :
    s.mramLost a = { s with upd.sw0.valid := false } := by
  simp (disch := omega) only [State.mramLost, if_neg, if_pos]

theorem scrub_row_discards (s : State) {ws : List (List (Nat × Nat))} (f : Bool) (e : Nat) {n : Nat} {two : Bool} (h : scrubbed ws = (n, two, true)) (a : Nat) :
    ∃ t, exec (.scrub (.mram a) ws f e) s = .next t ∧
      (a < 0x20000 → t.recorder.firstBad = s.recorder.firstBad ++ [a / 64] ∧ t.recorder.first = s.recorder.first) ∧
      (0x384540 ≤ a → a < 0x384580 → t.recorder.counters0.valid = false ∧ t.recorder.counters1 = s.recorder.counters1) ∧
      (0x384480 ≤ a → a < 0x3844C0 → t.upd.sw0.valid = false ∧ t.upd.sw1 = s.upd.sw1) := by
  obtain ⟨t, ht, u, hkept, l, hrec, hupd⟩ := scrub_row_bad s f e h a
  have hbad := (s.passCounted (.mram a) n).badWord_frame (regionName (.mram a) ++ [])
  refine ⟨t, ht, fun h1 => ?_, fun h1 h2 => ?_, fun h1 h2 => ?_⟩
  · rw [State.rowBad_outside (by omega), State.mramLost_first h1] at hrec
    have hfirst : t.recorder.first = u.recorder.first := (congrArg RecState.first hkept.settled :)
    have hmarks : t.recorder.firstBad = u.recorder.firstBad := (congrArg RecState.firstBad hkept.settled :)
    rw [hfirst, hmarks, hrec]
    exact ⟨(congrArg (fun r : RecState => r.firstBad ++ [a / 64]) hbad.stored :), (congrArg RecState.first hbad.stored :)⟩
  · rw [State.rowBad_outside (by omega), State.mramLost_counters h1 h2] at hrec
    have h0 : t.recorder.counters0 = u.recorder.counters0 := (congrArg RecState.counters0 hkept.settled :)
    have h1 : t.recorder.counters1 = u.recorder.counters1 := (congrArg RecState.counters1 hkept.settled :)
    rw [h0, h1, hrec]
    exact ⟨rfl, (congrArg RecState.counters1 hbad.stored :)⟩
  · rw [State.rowBad_outside (by omega), State.mramLost_switch h1 h2] at hupd
    rw [hkept.switches.1, hkept.switches.2, hupd]
    refine ⟨rfl, ?_⟩
    show ((s.passCounted (.mram a) n).badWord _).upd.sw1 = _
    rw [hbad.upd]
    rfl

/-- A row whose codewords were corrected: below both thresholds it stays; at one it waits, is relocated, or finds no spare (R501, R502). -/
theorem scrub_row_worn (s : State) {ws : List (List (Nat × Nat))} (e : Nat) {n : Nat} {two : Bool} (h : scrubbed ws = (n, two, false)) (a : Nat) :
    ∃ t, exec (.scrub (.mram a) ws false e) s = .next t ∧
      let life := Tbl.get 0 s.recorder.rowLife (a / 1024) + n
      (n < s.rd F.UC_CFG_MRAM_PASS → life < s.rd F.UC_CFG_MRAM_LIFE → t.recorder.reloc = s.recorder.reloc ∧ t.regs = s.regs) ∧
      (s.rd F.UC_CFG_MRAM_PASS ≤ n ∨ s.rd F.UC_CFG_MRAM_LIFE ≤ life → (2, 0, a / 1024) ∉ s.recorder.relocWait →
        (∀ r ∈ s.recorder.map, (r.pool, r.device, r.resource) ≠ (2, 0, a / 1024)) →
        (s.ctlBusy = true → (∀ r, s.recorder.reloc = some r → (r.pool, r.device, r.resource) ≠ (2, 0, a / 1024)) →
          t.recorder.relocWait = s.recorder.relocWait ++ [(2, 0, a / 1024)] ∧ t.recorder.reloc = s.recorder.reloc) ∧
        (s.ctlBusy = false → s.rd F.UC_SPARES_MRAM_ROWS = 0 → t.recorder.reloc = none ∧ ((2, 0) ∉ s.recorder.spent → t.poolOut 2 = true)) ∧
        (s.ctlBusy = false → s.rd F.UC_SPARES_MRAM_ROWS ≠ 0 → t.isOn F.UC_STATUS_RELOCATING = true ∧
          t.recorder.reloc = some { pool := 2, device := 0, resource := a / 1024, spare := 256 - s.rd F.UC_SPARES_MRAM_ROWS })) := by
  let c : State := s.passCounted (.mram a) n
  let u : State := c.rowCounted (a / 1024) n
  obtain ⟨l, hl⟩ := c.rowCounted_recorder (a / 1024) n
  have hregs : u.regs = s.regs := c.rowCounted_regs _ _
  have hrd : ∀ f : Field, u.rd f = s.rd f := State.rd_of_regs hregs
  have hrec : u.recorder = { c.recorder with rowLife := l } := hl
  have hreloc : u.recorder.reloc = s.recorder.reloc := (congrArg RecState.reloc hrec).trans rfl
  have hwaits : u.recorder.relocWait = s.recorder.relocWait := (congrArg RecState.relocWait hrec).trans rfl
  have hmap : u.recorder.map = s.recorder.map := (congrArg RecState.map hrec).trans rfl
  have hspent : u.recorder.spent = s.recorder.spent := (congrArg RecState.spent hrec).trans rfl
  have hbusy : u.ctlBusy = s.ctlBusy := by
    unfold State.ctlBusy
    rw [hrec]
    rfl
  have heq := exec_scrub s (.mram a) false e h
  rw [if_neg (by decide), State.wear_row] at heq
  refine ⟨_, heq, fun hpass hlife => ?_, fun hworn hwait hmapped => ?_⟩
  · rw [if_neg]
    · exact ⟨hreloc, hregs⟩
    · simpa using ⟨hpass, hlife⟩
  have hworn : c.rd F.UC_CFG_MRAM_PASS ≤ n ∨ c.rd F.UC_CFG_MRAM_LIFE ≤ Tbl.get 0 c.recorder.rowLife (a / 1024) + n := hworn
  rw [if_pos (by simpa using hworn)]
  rw [← hwaits] at hwait
  rw [← hmap] at hmapped
  refine ⟨fun hb hr => ?_, fun hb hnone => ?_, fun hb hsome => ?_⟩
  · rw [u.queueJob_busy (hbusy.trans hb) hwait hmapped (by rw [hreloc]; exact hr)]
    exact ⟨congrArg (· ++ _) hwaits, hreloc⟩
  · rw [u.queueJob_free (hbusy.trans hb) hwait hmapped, ← hspent]
    exact State.startJob_exhausts (p := 2) (d := 0) _ (by decide) (by decide) (hbusy.trans hb) ((hrd _).trans hnone)
  · rw [u.queueJob_free (hbusy.trans hb) hwait hmapped, ← hrd]
    exact State.startJob_relocates (p := 2) (d := 0) _ (by decide) fun h => hsome ((hrd _).symm.trans h)

/-! ### Flash blocks (R501) -/

/-- The erase count of a block as a pass finds it. -/
def State.blockErased (s : State) (d b e : Nat) : State :=
  if Tbl.get 0 s.recorder.eraseCnt (blockKey d b) < e then { s with recorder.eraseCnt := Tbl.put s.recorder.eraseCnt (blockKey d b) e } else s

/-- The same with the highest erase count of its device. -/
def State.blockCounted (s : State) (d b e : Nat) : State :=
  if (s.blockErased d b e).rd (F.UC_FLASH_ERASE_MAX d) < e then (s.blockErased d b e).wr (F.UC_FLASH_ERASE_MAX d) (min 0xFFFF e) else s.blockErased d b e

theorem State.blockErased_frame (s : State) (d b e : Nat) : (s.blockErased d b e).regs = s.regs ∧
    ∃ l, (s.blockErased d b e).recorder = { s.recorder with eraseCnt := l } := by
  unfold State.blockErased
  split
  · exact ⟨rfl, _, rfl⟩
  · exact ⟨rfl, s.recorder.eraseCnt, rfl⟩

theorem State.blockCounted_recorder (s : State) (d b e : Nat) : ∃ l, (s.blockCounted d b e).recorder = { s.recorder with eraseCnt := l } := by
  obtain ⟨-, l, hl⟩ := s.blockErased_frame d b e
  refine ⟨l, ?_⟩
  unfold State.blockCounted
  split <;> exact hl

theorem State.rd_blockCounted (s : State) (d b e : Nat) {f : Field} (hf : f.key < (F.UC_FLASH_ERASE_MAX 0).key) :
    (s.blockCounted d b e).rd f = s.rd f := by
  have hne : f.key ≠ (F.UC_FLASH_ERASE_MAX d).key := by
    simp only [Field.key, F.UC_FLASH_ERASE_MAX] at hf ⊢
    omega
  have herased : (s.blockErased d b e).rd f = s.rd f := State.rd_of_regs (s.blockErased_frame d b e).1 f
  unfold State.blockCounted
  split
  · exact (State.rd_wr_ne _ _ _ _ hne).trans herased
  · exact herased

theorem spareField_key_lt (p d : Nat) : (spareField p d).key < (F.UC_FLASH_ERASE_MAX 0).key := by
  unfold spareField
  split
  · decide
  · split <;> decide

theorem State.wear_block (s : State) (d b n : Nat) (two bad : Bool) (e : Nat) : s.wear (.flash d b) n two bad e =
    if bad || two || decide (s.rd F.UC_CFG_FLASH_PASS < n) || decide (8000 ≤ e) then (s.blockCounted d b e).queueJob (3, d, b) else s.blockCounted d b e := by
  rw [← s.rd_blockCounted d b e (f := F.UC_CFG_FLASH_PASS) (by decide)]
  rfl

theorem scrub_block (s : State) {ws : List (List (Nat × Nat))} (f : Bool) (e : Nat) {n : Nat} {two : Bool} (h : scrubbed ws = (n, two, false)) (d b : Nat)
    (hb : s.ctlBusy = false) (hwait : (3, d, b) ∉ s.recorder.relocWait)
    (hmap : ∀ r ∈ s.recorder.map, (r.pool, r.device, r.resource) ≠ (3, d, b)) : ∃ t, exec (.scrub (.flash d b) ws f e) s = .next t ∧
      (f = false → two = false → n ≤ s.rd F.UC_CFG_FLASH_PASS → e < 8000 → t.recorder.reloc = none) ∧
      (f = true ∨ two = true ∨ s.rd F.UC_CFG_FLASH_PASS < n ∨ 8000 ≤ e → s.rd (spareField 3 d) ≠ 0 → ∃ r, t.recorder.reloc = some r ∧
        r.pool = 3 ∧ r.device = d ∧ r.resource = b) := by
  let c : State := s.passCounted (.flash d b) n
  let u : State := c.blockCounted d b e
  obtain ⟨l, hl⟩ := c.blockCounted_recorder d b e
  have hrec : u.recorder = { c.recorder with eraseCnt := l } := hl
  have hwaits : u.recorder.relocWait = s.recorder.relocWait := (congrArg RecState.relocWait hrec).trans rfl
  have hmaps : u.recorder.map = s.recorder.map := (congrArg RecState.map hrec).trans rfl
  have hbusy : u.ctlBusy = false := by
    rw [← hb]
    unfold State.ctlBusy
    rw [hrec]
    rfl
  have heq := exec_scrub s (.flash d b) f e h
  rw [if_neg (by decide), State.wear_block] at heq
  refine ⟨_, heq, fun hf htwo hpass he => ?_, fun hworn hspare => ?_⟩
  · have hpass : n ≤ c.rd F.UC_CFG_FLASH_PASS := hpass
    rw [if_neg]
    · exact State.reloc_of_free hbusy
    · simpa [hf, htwo] using ⟨hpass, he⟩
  · have hworn : f = true ∨ two = true ∨ c.rd F.UC_CFG_FLASH_PASS < n ∨ 8000 ≤ e := hworn
    rw [if_pos (by simpa [or_assoc] using hworn), u.queueJob_free hbusy (by rw [hwaits]; exact hwait) (by rw [hmaps]; exact hmap)]
    have hleft : u.rd (spareField 3 d) ≠ 0 := by
      rw [c.rd_blockCounted d b e (spareField_key_lt 3 d)]
      exact hspare
    exact ⟨_, (State.startJob_relocates b (by decide) hleft).2, rfl, rfl, rfl⟩

end Sys2Proof.Machine
end

section
/-! PROOFS. Uncorrectable cache errors and the shadow of a core (R501, R503, R504). -/

namespace Sys2Proof.Machine

-- One proof after another: a thread for each would not fit the memory of the check.
set_option Elab.async false

/-! ### Cache errors and the shadow of a core (R501, R503, R504) -/

/-- The uncorrectable cache errors of a core that are less than 24 h old. -/
def State.coreErrors (s : State) (c : Nat) : Nat :=
  (s.recorder.coreErr.filter fun p => decide (s.time.count < p.2 + 21600000000000) && p.1 == c).length

/-- The state with a cache error of a core noted, and those older than 24 h forgotten. -/
def State.coreLogged (s : State) (c : Nat) : State :=
  { s with recorder.coreErr := (c, s.time.count) :: s.recorder.coreErr.filter fun p => decide (s.time.count < p.2 + 21600000000000) }

theorem State.coreError_eq (s : State) (c : Nat) : s.coreError c =
    if s.coreErrors c + 1 < 3 ∨ 2 < c ∨ s.poolOut 1 = true ∨ s.coreDue = true then s.coreLogged c
    else if !s.isOn F.UC_CFG_AUTO_CORE then (s.coreLogged c).flag Fl.UC_EVENT_NEEDED { system := true, idx := c } else (s.coreLogged c).shadowCore c := by
  have hcount : ((s.coreLogged c).recorder.coreErr.filter fun p => p.1 == c).length = s.coreErrors c + 1 := by
    simp [State.coreLogged, State.coreErrors, List.filter_filter, Bool.and_comm]
  rw [← hcount]
  rfl

theorem State.coreDue_iff (s : State) : s.coreDue = false ↔ s.recorder.coreShadow = none ∧ ∀ j ∈ s.recorder.relocWait, j.1 ≠ 1 := by
  simp [State.coreDue]

theorem State.core_not_waiting {s : State} (h : s.coreDue = false) (c : Nat) : (1, 0, c) ∉ s.recorder.relocWait :=
  fun hm => (s.coreDue_iff.1 h).2 _ hm rfl

/-- The activation that the shadow of core 3 takes back is VERIFIED again. -/
theorem State.freeCore_state {s : State} (h : s.rd F.UPD_STATUS_STATE = 5) (hstep : s.upd.step < 5) : s.freeCore.rd F.UPD_STATUS_STATE = 4 := by
  rw [State.freeCore, if_pos ⟨h, hstep⟩]
  obtain ⟨-, hregs, -⟩ := State.finish_frame (({ s with upd.step := 0 } : State).wrs [(F.UPD_STATUS_STATE, 4), (F.UPD_PROGRESS_PERMILLE, 0)])
    0x0C05 0 .noResource []
  refine (hregs _ (by decide)).trans ((State.rd_wr_ne _ _ _ _ (by decide)).trans (State.rd_wr_same _ _ _))

theorem State.shadowCore_starts {s : State} {c : Nat} (hdue : s.coreDue = false) (hb : s.ctlBusy = false)
    (hmap : ∀ r ∈ s.recorder.map, (r.pool, r.device, r.resource) ≠ (1, 0, c)) :
    s.shadowCore c = { s.freeCore with recorder.coreShadow := some c, recorder.coreAgreed := false } :=
  (s.queueJob_free hb (State.core_not_waiting hdue c) hmap).trans (s.startJob_core 0 c)

theorem State.shadowCore_waits {s : State} {c : Nat} (hdue : s.coreDue = false) (hb : s.ctlBusy = true)
    (hmap : ∀ r ∈ s.recorder.map, (r.pool, r.device, r.resource) ≠ (1, 0, c))
    (hreloc : ∀ r, s.recorder.reloc = some r → (r.pool, r.device, r.resource) ≠ (1, 0, c)) :
    s.shadowCore c = { s with recorder.relocWait := s.recorder.relocWait ++ [(1, 0, c)] } :=
  s.queueJob_busy hb (State.core_not_waiting hdue c) hmap hreloc

theorem State.shadowCore_due {s : State} {c : Nat} (hdue : s.coreDue = false)
    (hmap : ∀ r ∈ s.recorder.map, (r.pool, r.device, r.resource) ≠ (1, 0, c))
    (hreloc : ∀ r, s.recorder.reloc = some r → (r.pool, r.device, r.resource) ≠ (1, 0, c)) : (s.shadowCore c).coreDue = true := by
  cases hb : s.ctlBusy with
  | false =>
    rw [State.shadowCore_starts hdue hb hmap]
    rfl
  | true =>
    rw [State.shadowCore_waits hdue hb hmap hreloc]
    simp [State.coreDue]

theorem exec_scrub_cache (s : State) (c : Nat) {ws : List (List (Nat × Nat))} (h : (scrubbed ws).2.2 = true) :
    exec (.scrub (.cache c) ws false 0) s =
      .next (((s.passCounted (.cache c) (scrubbed ws).1).badWord (regionName (.cache c) ++ [])).coreError c) := by
  rw [exec_scrub s (.cache c) (n := (scrubbed ws).1) (two := (scrubbed ws).2.1) (u := true) false 0 (by rw [← h])]
  rfl

theorem scrub_cache (s : State) (c : Nat) (ws : List (List (Nat × Nat))) (h : (scrubbed ws).2.2 = true) (l : Nat) (hl : l = s.coreErrors c) :
    ∃ t, exec (.scrub (.cache c) ws false 0) s = .next t ∧
      (l < 2 ∨ 2 < c → t.recorder.coreShadow = s.recorder.coreShadow ∧ t.recorder.relocWait = s.recorder.relocWait) ∧
      (2 ≤ l → c ≤ 2 → s.poolOut 1 = false → s.coreDue = false →
        (s.isOn F.UC_CFG_AUTO_CORE = true → (∀ r ∈ s.recorder.map, (r.pool, r.device, r.resource) ≠ (1, 0, c)) →
          (s.ctlBusy = false → t.recorder.coreShadow = some c ∧
            (s.rd F.UPD_STATUS_STATE = 5 → s.upd.step < 5 → t.rd F.UPD_STATUS_STATE = 4)) ∧
          (s.ctlBusy = true → (∀ r, s.recorder.reloc = some r → (r.pool, r.device, r.resource) ≠ (1, 0, c)) →
            t.recorder.coreShadow = none ∧ t.recorder.relocWait = s.recorder.relocWait ++ [(1, 0, c)])) ∧
        (s.isOn F.UC_CFG_AUTO_CORE = false → t.recorder.coreShadow = none ∧ t.rd Fl.UC_EVENT_NEEDED.bit = 1)) := by
  let u : State := (s.passCounted (.cache c) (scrubbed ws).1).badWord (regionName (.cache c) ++ [])
  have hbad := (s.passCounted (.cache c) (scrubbed ws).1).badWord_frame (regionName (.cache c) ++ [])
  have hshadow : u.recorder.coreShadow = s.recorder.coreShadow := (congrArg RecState.coreShadow hbad.stored :)
  have hwait : u.recorder.relocWait = s.recorder.relocWait := (congrArg RecState.relocWait hbad.stored :)
  have hmap : u.recorder.map = s.recorder.map := (congrArg RecState.map hbad.stored :)
  have hreloc : u.recorder.reloc = s.recorder.reloc := (congrArg RecState.reloc hbad.stored :)
  have hdue : u.coreDue = s.coreDue := by rw [State.coreDue, hshadow, hwait]; rfl
  have hbusy : u.ctlBusy = s.ctlBusy := by rw [State.ctlBusy, hshadow, hreloc]; rfl
  have hpool : u.poolOut 1 = s.poolOut 1 := State.poolOut_congr 1 (hbad.regs _ (by decide))
  have herrors : u.coreErrors c = l := by
    have hlog : u.recorder.coreErr = s.recorder.coreErr := (congrArg RecState.coreErr hbad.stored :)
    have htime : u.time = s.time := hbad.time
    rw [hl, State.coreErrors, hlog, htime]
    rfl
  refine ⟨_, exec_scrub_cache s c h, fun hfew => ?_, fun hthird hc hp hd => ?_⟩
  · have hbelow : u.coreError c = u.coreLogged c := by
      rw [u.coreError_eq, if_pos (by omega)]
    rw [hbelow]
    exact ⟨hshadow, hwait⟩
  · have hnot : ¬(u.coreErrors c + 1 < 3 ∨ 2 < c ∨ u.poolOut 1 = true ∨ u.coreDue = true) := by
      rw [hpool, hdue, hp, hd, herrors]
      simp
      omega
    have hnone : u.recorder.coreShadow = none := (u.coreDue_iff.1 (hdue.trans hd)).1
    have hcfg : u.isOn F.UC_CFG_AUTO_CORE = s.isOn F.UC_CFG_AUTO_CORE := hbad.isOn _ (by decide)
    refine ⟨fun hauto hmaps => ?_, fun hauto => ?_⟩
    · have heq : u.coreError c = (u.coreLogged c).shadowCore c := by
        rw [u.coreError_eq, if_neg hnot, hcfg, hauto]
        rfl
      rw [← hmap] at hmaps
      rw [heq]
      refine ⟨fun hb => ?_, fun hb hr => ?_⟩
      · rw [State.shadowCore_starts (s := u.coreLogged c) (hdue.trans hd) (hbusy.trans hb) hmaps]
        refine ⟨rfl, fun h5 hstep => State.freeCore_state (s := u.coreLogged c) ((hbad.regs _ (by decide)).trans h5) ?_⟩
        have hupd : u.upd = s.upd := hbad.upd
        show u.upd.step < 5
        rw [hupd]
        exact hstep
      · rw [← hreloc] at hr
        rw [State.shadowCore_waits (s := u.coreLogged c) (hdue.trans hd) (hbusy.trans hb) hmaps hr]
        exact ⟨hnone, congrArg (· ++ _) hwait⟩
    · have heq : u.coreError c = (u.coreLogged c).flag Fl.UC_EVENT_NEEDED { system := true, idx := c } := by
        rw [u.coreError_eq, if_neg hnot, hcfg, hauto]
        rfl
      rw [heq]
      have hflag := (u.coreLogged c).flag_noted Fl.UC_EVENT_NEEDED { system := true, idx := c }
      exact ⟨(congrArg RecState.coreShadow hflag.stored : _).trans hnone, State.flag_bit _ _ _⟩

end Sys2Proof.Machine
end

section
/-! PROOFS. The end of a relocation, of MRAM rows and of flash blocks (R501, R502). -/

namespace Sys2Proof.Machine

-- One proof after another: a thread for each would not fit the memory of the check.
set_option Elab.async false

/-! ### A relocation ends (R502) -/

/-- The resource retired in the map, with its record (R502). -/
def State.mapped (s : State) (r : Reloc) : State :=
  { s with recorder.reloc := none
           recorder.map := s.recorder.map ++ [{ pool := r.pool, device := r.device, resource := r.resource, spare := r.spare }] }

/-- One spare less, and no relocation shown. -/
def State.relocShown (s : State) (r : Reloc) : State :=
  (((s.mapped r).wrs [(spareField r.pool r.device, s.rd (spareField r.pool r.device) - 1), (F.UC_STATUS_RELOCATING, 0)]).flag
    Fl.UC_EVENT_RELOCATED { system := true, idx := r.pool }).sparing r.pool 4 (r.resource + 65536 * r.device) r.spare

/-- What the region forgets of a retired resource. -/
def State.retired (s : State) (r : Reloc) : State :=
  if r.pool = 3 then (s.relocShown r).retireBlock r.device r.resource
  else if r.pool = 2 then { s.relocShown r with recorder.rowLife := Tbl.del (s.relocShown r).recorder.rowLife r.resource } else s.relocShown r

/-- The pool exhausted with its last spare. -/
def State.spareGone (s : State) (r : Reloc) : State :=
  if s.rd (spareField r.pool r.device) - 1 = 0 then (s.retired r).exhaust r.pool (spareRes r.pool r.device) else s.retired r

theorem exec_relocated {s : State} {r : Reloc} (h : s.recorder.reloc = some r) :
    exec .relocated s = .next ((s.spareGone r).nextJobs (s.spareGone r).recorder.relocWait) := by
  show execRelocated s = _
  unfold execRelocated
  rw [h]
  rfl

/-- The registers that the end of a relocation moves, beside what a region forgets. -/
def relocKeys (f : Field) : List Nat := [f.key, F.UC_STATUS_RELOCATING.key] ++ flagKeys Fl.UC_EVENT_RELOCATED

theorem spareField_fresh (p d : Nat) : (spareField p d).key ≠ F.UC_STATUS_RELOCATING.key ∧
    (spareField p d).key ∉ flagKeys Fl.UC_EVENT_RELOCATED ∧ (spareField p d).key ∉ jobKeys ∧ (spareField p d).key ∉ recordKeys := by
  unfold spareField
  split
  · decide
  · split <;> decide

theorem State.relocShown_spec (s : State) (r : Reloc) : s.SameRegs (s.relocShown r) (relocKeys (spareField r.pool r.device)) ∧
    (s.relocShown r).recorder.stored = (s.mapped r).recorder.stored ∧
    (s.relocShown r).rd (spareField r.pool r.device) = (s.rd (spareField r.pool r.device) - 1) % 2 ^ (spareField r.pool r.device).width ∧
    (s.relocShown r).rd F.UC_STATUS_RELOCATING = 0 ∧ (s.relocShown r).rd Fl.UC_EVENT_RELOCATED.bit = 1 := by
  let f : Field := spareField r.pool r.device
  let s1 : State := ((s.mapped r).wr f (s.rd f - 1)).wr F.UC_STATUS_RELOCATING 0
  have hflag : State.Noted (flagKeys Fl.UC_EVENT_RELOCATED) s1 (s1.flag Fl.UC_EVENT_RELOCATED { system := true, idx := r.pool }) := State.flag_noted _ _ _
  have hsparing : State.Noted recordKeys (s1.flag Fl.UC_EVENT_RELOCATED { system := true, idx := r.pool }) (s.relocShown r) := State.sparing_noted _ _ _ _ _ _
  have hnoted := hflag.trans (hsparing.mono (recordKeys_subset_flagKeys _))
  obtain ⟨hne, hfresh, -, hrec⟩ := spareField_fresh r.pool r.device
  refine ⟨fun g hg => ?_, hnoted.stored, ?_, ?_, (hsparing.regs _ (by decide)).trans (State.flag_bit _ _ _)⟩
  · simp only [relocKeys, List.mem_append, List.mem_cons, List.not_mem_nil, or_false, not_or] at hg
    exact (hnoted.regs g hg.2).trans ((State.rd_wr_ne _ _ _ _ hg.1.2).trans (State.rd_wr_ne _ _ _ _ hg.1.1))
  · exact (hnoted.regs _ hfresh).trans ((State.rd_wr_ne _ _ _ _ hne).trans (State.rd_wr_same _ _ _))
  · exact (hnoted.regs _ (by decide)).trans (State.rd_wr_same _ _ _)

/-- The end of a relocation, once the region's own part is known: `u` is what is left of the state before the pool and the next one. -/
theorem State.spareGone_spec {s : State} {r : Reloc} (hp7 : r.pool < 7) :
    (s.spareGone r).recorder.settled = (s.retired r).recorder.settled ∧ (s.retired r).SameRegs (s.spareGone r) exhaustKeys ∧
    (s.spareGone r).recorder.reloc = (s.retired r).recorder.reloc ∧
    (s.spareGone r).recorder.relocWait = (s.retired r).recorder.relocWait ∧
    (s.rd (spareField r.pool r.device) = 1 → (r.pool, spareRes r.pool r.device) ∉ (s.retired r).recorder.spent → (s.spareGone r).poolOut r.pool = true) := by
  unfold State.spareGone
  split
  · obtain ⟨hnoted, -, -⟩ := (s.retired r).exhaust_noted r.pool (spareRes r.pool r.device)
    exact ⟨(RecState.settled_of_stored hnoted.stored).trans rfl, hnoted.regs, (congrArg RecState.reloc hnoted.stored :),
      (congrArg RecState.relocWait hnoted.stored :), fun _ hs => (State.exhaust_shows _ hp7 hs).1⟩
  · next hleft => exact ⟨rfl, fun _ _ => rfl, rfl, rfl, fun h1 => absurd (by omega) hleft⟩

theorem relocated_idle (s : State) (h : s.recorder.reloc = none) : exec .relocated s = .next s := by
  show execRelocated s = _
  unfold execRelocated
  rw [h]

theorem relocated_row (s : State) (r : Reloc) (h : s.recorder.reloc = some r) (hp : r.pool = 2) (h1 : 1 ≤ s.rd F.UC_SPARES_MRAM_ROWS)
    (h256 : s.rd F.UC_SPARES_MRAM_ROWS ≤ 256) :
    ∃ t, exec .relocated s = .next t ∧ t.rd F.UC_SPARES_MRAM_ROWS = s.rd F.UC_SPARES_MRAM_ROWS - 1 ∧ t.rd Fl.UC_EVENT_RELOCATED.bit = 1 ∧
      t.recorder.map = s.recorder.map ++ [{ pool := 2, device := r.device, resource := r.resource, spare := r.spare }] ∧
      Tbl.get 0 t.recorder.rowLife r.resource = Tbl.get 0 (Tbl.del s.recorder.rowLife r.resource) r.resource ∧
      (s.rd F.UC_SPARES_MRAM_ROWS = 1 → (2, 0) ∉ s.recorder.spent → t.poolOut 2 = true) ∧
      (s.recorder.relocWait = [] → t.recorder.reloc = none ∧ t.isOn F.UC_STATUS_RELOCATING = false) ∧
      (∀ a l, s.recorder.coreShadow = none → s.recorder.relocWait = (2, 0, a) :: l → s.rd F.UC_SPARES_MRAM_ROWS ≠ 1 → ∃ x,
        t.recorder.reloc = some x ∧ x.resource = a ∧ x.spare = 257 - s.rd F.UC_SPARES_MRAM_ROWS ∧ t.recorder.relocWait = l) := by
  obtain ⟨p, d, a0, x0⟩ := r
  subst hp
  let r : Reloc := { pool := 2, device := d, resource := a0, spare := x0 }
  obtain ⟨-, hstored, hrows, hshown, hbit⟩ := s.relocShown_spec r
  have hretired : s.retired r = { s.relocShown r with recorder.rowLife := Tbl.del (s.relocShown r).recorder.rowLife a0 } := rfl
  obtain ⟨hset, hregs, hreloc, hwait, hpool⟩ := State.spareGone_spec (s := s) (r := r) (by show 2 < 7; decide)
  have hjob := State.nextJobs_jobKept (s.spareGone r).recorder.relocWait (s.spareGone r)
  have hwaits : (s.spareGone r).recorder.relocWait = s.recorder.relocWait := hwait.trans (congrArg RecState.relocWait hstored :)
  have hnone : (s.spareGone r).recorder.reloc = none := hreloc.trans (congrArg RecState.reloc hstored :)
  have hleft : (s.spareGone r).rd F.UC_SPARES_MRAM_ROWS = s.rd F.UC_SPARES_MRAM_ROWS - 1 :=
    (hregs _ (by decide)).trans (hrows.trans (Nat.mod_eq_of_lt (by show s.rd F.UC_SPARES_MRAM_ROWS - 1 < 512; omega)))
  refine ⟨_, exec_relocated h, ?_, ?_, ?_, ?_, fun hlast hs => ?_, fun hempty => ?_, fun a l hcore hl hmore => ?_⟩
  · exact (hjob.regs _ (by decide)).trans hleft
  · exact (hjob.regs _ (by decide)).trans ((hregs _ (by decide)).trans hbit)
  · exact (congrArg RecState.map (hjob.settled.trans hset) :).trans (congrArg RecState.map hstored :)
  · refine congrArg (Tbl.get 0 · a0) ((congrArg RecState.rowLife (hjob.settled.trans hset) :).trans ?_)
    exact congrArg (Tbl.del · a0) (congrArg RecState.rowLife hstored :)
  · refine hjob.pools 2 (by decide) (hpool hlast ?_)
    have hspent : (s.retired r).recorder.spent = s.recorder.spent := (congrArg RecState.spent hstored :)
    rw [hspent]
    exact hs
  · rw [hwaits, hempty]
    refine ⟨hnone, ?_⟩
    have hoff : (s.spareGone r).rd F.UC_STATUS_RELOCATING = 0 := (hregs _ (by decide)).trans hshown
    show ((s.spareGone r).rd F.UC_STATUS_RELOCATING == 1) = false
    rw [hoff]
    rfl
  · rw [hwaits, hl]
    have hspare : (s.spareGone r).rd (spareField 2 0) ≠ 0 := by
      show (s.spareGone r).rd F.UC_SPARES_MRAM_ROWS ≠ 0
      omega
    obtain ⟨-, hstart⟩ := State.startJob_relocates (s := s.spareGone r) (p := 2) (d := 0) a (by decide) hspare
    have hnext : (s.spareGone r).nextJobs ((2, 0, a) :: l) = { (s.spareGone r).startJob (2, 0, a) with recorder.relocWait := l } := by
      refine if_pos ?_
      show (((s.spareGone r).startJob (2, 0, a)).recorder.reloc.isSome || _) = true
      rw [hstart]
      rfl
    rw [hnext]
    refine ⟨_, hstart, rfl, ?_, rfl⟩
    show 256 - (s.spareGone r).rd F.UC_SPARES_MRAM_ROWS = _
    omega

/-! ### A flash block is retired (R501, R502) -/

/-- The registers that show a package are below those of UNDERCOAT. -/
theorem State.bitmapShow_regs (s : State) {f : Field} (hf : 0x110000 * 32 ≤ f.key) : s.bitmapShow.rd f = s.rd f := by
  unfold State.bitmapShow
  refine (State.rd_wrs_ne _ _ _ fun p hp e => ?_).trans (State.rd_wr_ne _ _ _ _ fun e => ?_)
  · obtain ⟨w, hw, rfl⟩ := List.mem_map.1 hp
    have hlt := (mem_numbersFrom 0 33 w).1 hw
    simp only [Field.key, F.UPD_BITMAP_BITS] at e hf
    omega
  · simp only [Field.key, F.UPD_STATUS_CHUNKS_HELD] at e hf
    omega

theorem State.wrs_recorder (s : State) (l : List (Field × Nat)) : (s.wrs l).recorder = s.recorder := by
  induction l generalizing s with
  | nil => rfl
  | cons p l ih => exact (ih (s.wr p.1 p.2)).trans rfl

theorem State.bitmapShow_recorder (s : State) : s.bitmapShow.recorder = s.recorder := State.wrs_recorder _ _

theorem State.dropChunks_frame (s : State) (l : List Nat) : (∀ f : Field, 0x110000 * 32 ≤ f.key → (s.dropChunks l).rd f = s.rd f) ∧
    (s.dropChunks l).recorder = s.recorder := by
  unfold State.dropChunks
  split
  · exact ⟨fun _ _ => rfl, rfl⟩
  · dsimp only
    split
    · exact ⟨fun _ _ => rfl, rfl⟩
    · split
      · refine ⟨fun f hf => (State.bitmapShow_regs _ hf).trans (State.rd_wr_ne _ _ _ _ fun e => ?_), State.bitmapShow_recorder _⟩
        rw [e] at hf
        exact absurd hf (by decide)
      · exact ⟨fun f hf => State.bitmapShow_regs _ hf, State.bitmapShow_recorder _⟩

theorem State.retireBlock_spec (s : State) (d b : Nat) :
    (∀ f : Field, 0x110000 * 32 ≤ f.key → f.key ≠ (F.UC_FLASH_ERASE_RETIRED d).key → f.key ≠ (F.UC_FLASH_ERASE_MAX d).key →
      (s.retireBlock d b).rd f = s.rd f) ∧
    (s.retireBlock d b).rd (F.UC_FLASH_ERASE_RETIRED d) = (s.rd (F.UC_FLASH_ERASE_RETIRED d) + 1) % 65536 ∧
    (s.retireBlock d b).recorder = { s.recorder with eraseCnt := Tbl.del s.recorder.eraseCnt (blockKey d b) } := by
  obtain ⟨hregs, hrec⟩ := State.dropChunks_frame ((({ s with recorder.eraseCnt := Tbl.del s.recorder.eraseCnt (blockKey d b) } : State)).wrs
    [(F.UC_FLASH_ERASE_RETIRED d, s.rd (F.UC_FLASH_ERASE_RETIRED d) + 1),
      (F.UC_FLASH_ERASE_MAX d, min 0xFFFF (({ s with recorder.eraseCnt := Tbl.del s.recorder.eraseCnt (blockKey d b) } : State).eraseMax d))])
    (s.stagedChunks d b)
  refine ⟨fun f hf h1 h2 => (hregs f hf).trans ((State.rd_wr_ne _ _ _ _ h2).trans (State.rd_wr_ne _ _ _ _ h1)), ?_, hrec⟩
  refine (hregs _ (by simp only [Field.key, F.UC_FLASH_ERASE_RETIRED]; omega)).trans ((State.rd_wr_ne _ _ _ _ ?_).trans (State.rd_wr_same _ _ _))
  simp only [Field.key, F.UC_FLASH_ERASE_RETIRED, F.UC_FLASH_ERASE_MAX]
  omega

theorem flashRetired_fresh {d : Nat} (hd : d < 2) : (F.UC_FLASH_ERASE_RETIRED d).key ∉ relocKeys (spareField 3 d) ∧
    (F.UC_FLASH_ERASE_RETIRED d).key ∉ exhaustKeys := by
  interval_cases d <;> decide

theorem flashSpares_fresh {d : Nat} (hd : d < 2) : (spareField 3 d).key ∉ exhaustKeys ∧ 0x110000 * 32 ≤ (spareField 3 d).key ∧
    (spareField 3 d).key ≠ (F.UC_FLASH_ERASE_RETIRED d).key ∧ (spareField 3 d).key ≠ (F.UC_FLASH_ERASE_MAX d).key ∧
    (spareField 3 d).width = 6 := by
  interval_cases d <;> decide

theorem relocated_block (s : State) (r : Reloc) (d : Nat) (h : s.recorder.reloc = some r) (hp : r.pool = 3) (hdev : r.device = d) (hd : d < 2)
    (h1 : 1 ≤ s.rd (spareField 3 d)) (h32 : s.rd (spareField 3 d) ≤ 32) (hwaits : s.recorder.relocWait = []) :
    ∃ t, exec .relocated s = .next t ∧ t.recorder.reloc = none ∧
      t.rd (spareField 3 d) = s.rd (spareField 3 d) - 1 ∧ t.rd (F.UC_FLASH_ERASE_RETIRED d) = (s.rd (F.UC_FLASH_ERASE_RETIRED d) + 1) % 65536 ∧
      (s.rd (spareField 3 d) = 1 → (3, d) ∉ s.recorder.spent → t.poolOut 3 = true) := by
  obtain ⟨p, d0, b, x0⟩ := r
  dsimp only at hp hdev
  subst hp hdev
  let r : Reloc := { pool := 3, device := d0, resource := b, spare := x0 }
  obtain ⟨hkeep, hstored, hrows, -, -⟩ := s.relocShown_spec r
  obtain ⟨hblock, hcount, hrec⟩ := (s.relocShown r).retireBlock_spec d0 b
  have hretired : s.retired r = (s.relocShown r).retireBlock d0 b := rfl
  obtain ⟨-, hregs, hreloc, hwait, hpool⟩ := State.spareGone_spec (s := s) (r := r) (by show 3 < 7; decide)
  rw [hretired] at hregs hreloc hwait hpool
  rw [hrec] at hreloc hwait hpool
  obtain ⟨hfresh, hexhaust⟩ := flashRetired_fresh hd
  have hnext : (s.spareGone r).nextJobs (s.spareGone r).recorder.relocWait = { s.spareGone r with recorder.relocWait := [] } := by
    have hempty : (s.spareGone r).recorder.relocWait = [] := hwait.trans ((congrArg RecState.relocWait hstored :).trans hwaits)
    rw [hempty]
    rfl
  refine ⟨_, exec_relocated h, ?_⟩
  rw [hnext]
  refine ⟨hreloc.trans (congrArg RecState.reloc hstored :), ?_, ?_, fun hlast hs => hpool hlast ?_⟩
  · obtain ⟨hpool, hlow, hne1, hne2, hw⟩ := flashSpares_fresh hd
    refine (hregs _ hpool).trans ((hblock _ hlow hne1 hne2).trans (hrows.trans (Nat.mod_eq_of_lt ?_)))
    show s.rd (spareField 3 d0) - 1 < 2 ^ (spareField 3 d0).width
    rw [hw]
    omega
  · exact (hregs _ hexhaust).trans (hcount.trans (congrArg (fun v => (v + 1) % 65536) (hkeep _ hfresh)))
  · exact fun hm => hs ((congrArg ((3, d0) ∈ ·.spent) hstored : _ = _).mp hm)

end Sys2Proof.Machine
end

section
/-! PROOFS. The end of a shadow run, UC_SUBSTITUTE and CARD_PREPARE (R346, R503, R504, R507). -/

namespace Sys2Proof.Machine

-- One proof after another: a thread for each would not fit the memory of the check.
set_option Elab.async false

/-! ### The end of a shadow run (R504) -/

theorem coreShadowEnd_none {s : State} (ag : Bool) (b : Boot) (h : s.recorder.coreShadow = none) : exec (.coreShadowEnd ag b) s = .next s := by
  show execCoreShadowEnd ag b s = _
  unfold execCoreShadowEnd
  rw [h]

theorem exec_coreShadowEnd {s : State} {c : Nat} (ag : Bool) (b : Boot) (h : s.recorder.coreShadow = some c) :
    exec (.coreShadowEnd ag b) s = .next (if s.recorder.coreAgreed then s
      else if ag then { s with recorder.coreAgreed := true }
      else ((({ s with recorder.coreShadow := none } : State).sparing 1 3 c 3).finish 0x0B04 coreKey .internal).controllerReset 0 b) := by
  show execCoreShadowEnd ag b s = _
  unfold execCoreShadowEnd
  rw [h]

/-! ### UC_SUBSTITUTE (R503, R507) -/

/-- The operands that UC_SUBSTITUTE checks. -/
def substOut (s : State) (p a j : Nat) : Bool :=
  decide (1 < p) || (p == 0 && (!s.segOk a || decide (j < 1) || decide (16 < j))) || (p == 1 && decide (2 < a))

/-- What UC_SUBSTITUTE does with a module's converter. -/
def substConv (a j : Nat) (s : State) : CmdRes :=
  if s.isOn F.UC_CFG_AUTO_CONV then .refuse .state
  else if (s.segOf a).cal.isSome || (s.segOf a).shadow.isSome then .refuse .busy
  else if !s.segLive a || !s.spareFree a || s.sumFault a then .refuse .noResource
  else if (s.segOf a).needed = j then .done (s.substitute a j) []
  else .accept (s.setSeg a { s.segOf a with shadow := some (j, true) }) a []

/-- What UC_SUBSTITUTE does with a core of the controller. -/
def substCore (c : Nat) (s : State) : CmdRes :=
  if s.isOn F.UC_CFG_AUTO_CORE then .refuse .state
  else if s.coreDue then .refuse .busy
  else if s.poolOut 1 then .refuse .noResource
  else .accept (s.shadowCore c) coreKey []

section
variable (s : State) (h : Hdr) (allow : s.Allowed 0x0B04 rMaintainer h)
include allow

theorem ucSubstitute_range {p a j : Nat} (hbad : 1 < p ∨ (p = 0 ∧ (s.segOk a = false ∨ j = 0 ∨ 16 < j)) ∨ (p = 1 ∧ 2 < a)) :
    exec (.ucSubstitute h p a j) s = .next (s.refuseCmd 0x0B04 rMaintainer h .range) := by
  have hc : substOut s p a j = true := by
    simpa [substOut, or_assoc] using hbad
  exact congrArg _ (s.command_refused _ _ h _ allow hc (.inr rfl))

theorem ucSubstitute_conv {a j : Nat} (hseg : s.segOk a = true) (h1 : 1 ≤ j) (h16 : j ≤ 16) :
    exec (.ucSubstitute h 0 a j) s = .next (s.answer 0x0B04 rMaintainer h (substConv a j s)) := by
  have hc : substOut s 0 a j = false := by
    simp [substOut, hseg]
    omega
  exact congrArg _ (s.command_run 0x0B04 rMaintainer h [(substOut s 0 a j, .range)] (substConv a j) allow (by simpa using hc))

theorem ucSubstitute_core {c : Nat} (j : Nat) (hc : c ≤ 2) :
    exec (.ucSubstitute h 1 c j) s = .next (s.answer 0x0B04 rMaintainer h (substCore c s)) := by
  have hok : substOut s 1 c j = false := by
    simp [substOut]
    omega
  exact congrArg _ (s.command_run 0x0B04 rMaintainer h [(substOut s 1 c j, .range)] (substCore c) allow (by simpa using hok))

end

theorem ucSubstitute_conv_spec (s : State) (h : Hdr) (a j : Nat) (allow : s.Allowed 0x0B04 rMaintainer h) (hseg : s.segOk a = true) (h1 : 1 ≤ j)
    (h16 : j ≤ 16) :
    (s.isOn F.UC_CFG_AUTO_CONV = true → exec (.ucSubstitute h 0 a j) s = .next (s.refuseCmd 0x0B04 rMaintainer h .state)) ∧
    (s.isOn F.UC_CFG_AUTO_CONV = false → (s.segOf a).cal ≠ none ∨ (s.segOf a).shadow ≠ none →
      exec (.ucSubstitute h 0 a j) s = .next (s.refuseCmd 0x0B04 rMaintainer h .busy)) ∧
    (s.isOn F.UC_CFG_AUTO_CONV = false → (s.segOf a).cal = none → (s.segOf a).shadow = none →
      (s.segLive a = false ∨ s.spareFree a = false ∨ s.sumFault a = true →
        exec (.ucSubstitute h 0 a j) s = .next (s.refuseCmd 0x0B04 rMaintainer h .noResource)) ∧
      (s.segLive a = true → s.spareFree a = true → s.sumFault a = false → (s.segOf a).needed = j → ∃ t, exec (.ucSubstitute h 0 a j) s = .next t ∧
        (s.substitute a j).Done t 0x0B04 h .ok []) ∧
      (s.segLive a = true → s.spareFree a = true → s.sumFault a = false → (s.segOf a).needed ≠ j → ∃ t u : State,
        exec (.ucSubstitute h 0 a j) s = .next t ∧ u.Accepted t 0x0B04 h a [] ∧ (u.segOf a).shadow = some (j, true))) := by
  rw [ucSubstitute_conv s h allow hseg h1 h16]
  refine ⟨fun hauto => ?_, fun hauto hbusy => ?_, fun hauto hcal hshadow => ⟨fun hbad => ?_, fun hlive hfree hsum hneed => ?_,
    fun hlive hfree hsum hneed => ?_⟩⟩
  · rw [substConv, if_pos hauto]
    rfl
  · rw [substConv, if_neg (by rw [hauto]; decide), if_pos (by simpa [Option.isSome_iff_ne_none] using hbusy)]
    rfl
  · rw [substConv, if_neg (by rw [hauto]; decide), if_neg (by simp [hcal, hshadow]), if_pos (by simpa [or_assoc] using hbad)]
    rfl
  · have hbody : substConv a j s = .done (s.substitute a j) [] := by
      simp [substConv, hauto, hcal, hshadow, hlive, hfree, hsum, hneed]
    rw [hbody]
    exact ⟨_, rfl, State.answer_done _ _ _ _ _ _⟩
  · have hbody : substConv a j s = .accept (s.setSeg a { s.segOf a with shadow := some (j, true) }) a [] := by
      simp [substConv, hauto, hcal, hshadow, hlive, hfree, hsum, hneed]
    rw [hbody]
    exact ⟨_, _, rfl, State.answer_accept _ _ _ _ _ _ _, by rw [State.segOf_setSeg]⟩

theorem ucSubstitute_core_spec (s : State) (h : Hdr) (c j : Nat) (allow : s.Allowed 0x0B04 rMaintainer h) (hc : c ≤ 2) :
    (s.isOn F.UC_CFG_AUTO_CORE = true → exec (.ucSubstitute h 1 c j) s = .next (s.refuseCmd 0x0B04 rMaintainer h .state)) ∧
    (s.isOn F.UC_CFG_AUTO_CORE = false → s.coreDue = true → exec (.ucSubstitute h 1 c j) s = .next (s.refuseCmd 0x0B04 rMaintainer h .busy)) ∧
    (s.isOn F.UC_CFG_AUTO_CORE = false → s.coreDue = false → s.poolOut 1 = true →
      exec (.ucSubstitute h 1 c j) s = .next (s.refuseCmd 0x0B04 rMaintainer h .noResource)) ∧
    (s.isOn F.UC_CFG_AUTO_CORE = false → s.coreDue = false → s.poolOut 1 = false →
      (∀ r ∈ s.recorder.map, (r.pool, r.device, r.resource) ≠ (1, 0, c)) →
      (∀ r, s.recorder.reloc = some r → (r.pool, r.device, r.resource) ≠ (1, 0, c)) → ∃ t u : State,
      exec (.ucSubstitute h 1 c j) s = .next t ∧ u.Accepted t 0x0B04 h coreKey [] ∧ u.coreDue = true ∧
        (s.ctlBusy = false → u.recorder.coreShadow = some c)) := by
  rw [ucSubstitute_core s h allow j hc]
  refine ⟨fun hauto => ?_, fun hauto hdue => ?_, fun hauto hdue hpool => ?_, fun hauto hdue hpool hmap hreloc => ?_⟩
  · rw [substCore, if_pos hauto]
    rfl
  · rw [substCore, if_neg (by rw [hauto]; decide), if_pos hdue]
    rfl
  · rw [substCore, if_neg (by rw [hauto]; decide), if_neg (by rw [hdue]; decide), if_pos hpool]
    rfl
  · have hbody : substCore c s = .accept (s.shadowCore c) coreKey [] := by
      simp [substCore, hauto, hdue, hpool]
    rw [hbody]
    refine ⟨_, s.shadowCore c, rfl, State.answer_accept _ _ _ _ _ _ _, State.shadowCore_due hdue hmap hreloc, fun hb => ?_⟩
    rw [State.shadowCore_starts hdue hb hmap]

/-! ### CARD_PREPARE (R29, R346, R507) -/

/-- An axis that moves is stopped as planned. -/
def State.restAxis (s : State) (x : Nat) : State := if s.axStill x then s else s.axStop x false 2

/-- What CARD_PREPARE does with the motion card: it waits for the axes to rest. -/
def prepareMot (s : State) : CmdRes :=
  let u := (s.restAxis 0).restAxis 1
  if u.axStill 0 && u.axStill 1 then .done u [] else .accept { u with mot.preparing := true } 4 []

/-- What CARD_PREPARE does, by the kind of the card. -/
def prepareCard (kind : Nat) (s : State) : CmdRes :=
  match kind with
  | 1 => .done ({ s.learnNow.saveCounters with recorder.prepared := [1] } : State) []
  | 2 => if s.isOn F.PWR_AUX_STATUS_PSU_B_OK then .done s [] else .refuse .safety
  | 3 => if s.isOn F.PWR_AUX_STATUS_PSU_A_OK then .done s [] else .refuse .safety
  | _ => prepareMot s

theorem cardPrepare_runs (s : State) (h : Hdr) {kind : Nat} (allow : s.Allowed 0x0B05 rMaintainer h) (h1 : 1 ≤ kind) (h4 : kind ≤ 4) :
    exec (.cardPrepare h kind) s = .next (s.answer 0x0B05 rMaintainer h (prepareCard kind s)) := by
  have hc : (!inR 1 4 kind) = false := by rw [(inR_iff 1 4 kind).2 ⟨h1, h4⟩]; rfl
  refine (congrArg _ (s.command_run 0x0B05 rMaintainer h [(!inR 1 4 kind, .range)] _ allow (by simpa using hc))).trans ?_
  interval_cases kind <;> rfl

theorem cardPrepare_range (s : State) (h : Hdr) {kind : Nat} (allow : s.Allowed 0x0B05 rMaintainer h) (hk : kind = 0 ∨ 4 < kind) :
    exec (.cardPrepare h kind) s = .next (s.refuseCmd 0x0B05 rMaintainer h .range) := by
  have hc : (!inR 1 4 kind) = true := by
    rw [Bool.not_eq_true', Bool.eq_false_iff, Ne, inR_iff]
    omega
  exact congrArg _ (s.command_refused _ _ h _ allow hc (.inr rfl))

/-- A planned stop of an axis that moves, unless an emergency stop runs: it is STOPPING then. -/
theorem State.axStop_state {s : State} {x : Nat} (h : s.axStill x = false) (cause : Nat) :
    (s.axStop x false cause).axState x = axSTOPPING := by
  unfold State.axStop
  rw [h]
  simp only [Bool.false_eq_true, if_false]
  split
  · next hstop =>
      rw [Bool.and_eq_true, decide_eq_true_eq] at hstop
      exact hstop.1
  · exact State.rd_wr_same _ _ _

theorem State.axStop_other (s : State) {x y : Nat} (h : y ≠ x) (emergency : Bool) (cause : Nat) : (s.axStop x emergency cause).axState y = s.axState y := by
  unfold State.axStop
  split
  · rfl
  · dsimp only
    split
    · rfl
    · refine State.rd_wr_ne _ _ _ _ ?_
      simp only [Field.key, F.MOT_STATE_STATE]
      omega

theorem State.restAxis_state (s : State) {x : Nat} (h : s.axStill x = false) : (s.restAxis x).axState x = axSTOPPING := by
  rw [State.restAxis, h]
  exact State.axStop_state h 2

theorem State.restAxis_other (s : State) {x y : Nat} (h : y ≠ x) : (s.restAxis x).axState y = s.axState y := by
  unfold State.restAxis
  split
  · rfl
  · exact s.axStop_other h _ _

theorem State.axStill_congr {s t : State} {x : Nat} (h : t.axState x = s.axState x) : t.axStill x = s.axStill x := by
  unfold State.axStill
  rw [h]

theorem State.axStill_stopping {s : State} {x : Nat} (h : s.axState x = axSTOPPING) : s.axStill x = false := by
  unfold State.axStill
  rw [h]
  rfl

theorem prepareMot_resting {s : State} (h0 : s.axStill 0 = true) (h1 : s.axStill 1 = true) : prepareMot s = .done s [] := by
  have hrest : (s.restAxis 0).restAxis 1 = s := by
    rw [State.restAxis, State.restAxis, if_pos h0, if_pos h1]
  unfold prepareMot
  rw [hrest]
  exact if_pos (by rw [h0, h1]; rfl)

theorem prepareMot_moving {s : State} (h : s.axStill 0 = false ∨ s.axStill 1 = false) :
    prepareMot s = .accept { (s.restAxis 0).restAxis 1 with mot.preparing := true } 4 [] ∧
      (∀ x, x < 2 → s.axStill x = false → ((s.restAxis 0).restAxis 1).axState x = axSTOPPING) := by
  have hstop : ∀ x, x < 2 → s.axStill x = false → ((s.restAxis 0).restAxis 1).axState x = axSTOPPING := by
    intro x hx hs
    obtain rfl | rfl : x = 0 ∨ x = 1 := by omega
    · exact ((s.restAxis 0).restAxis_other (by decide)).trans (s.restAxis_state hs)
    · exact (s.restAxis 0).restAxis_state ((State.axStill_congr (s.restAxis_other (by decide))).trans hs)
  refine ⟨if_neg fun hboth => ?_, hstop⟩
  rw [Bool.and_eq_true] at hboth
  rcases h with h | h
  · rw [State.axStill_stopping (hstop 0 (by decide) h)] at hboth
    cases hboth.1
  · rw [State.axStill_stopping (hstop 1 (by decide) h)] at hboth
    cases hboth.2

theorem cardPrepare_spec (s : State) (h : Hdr) (allow : s.Allowed 0x0B05 rMaintainer h) :
    (∃ t, exec (.cardPrepare h 1) s = .next t ∧ ({ s.learnNow.saveCounters with recorder.prepared := [1] } : State).Done t 0x0B05 h .ok []) ∧
    (s.isOn F.PWR_AUX_STATUS_PSU_B_OK = true → ∃ t, exec (.cardPrepare h 2) s = .next t ∧ s.Done t 0x0B05 h .ok []) ∧
    (s.isOn F.PWR_AUX_STATUS_PSU_B_OK = false → exec (.cardPrepare h 2) s = .next (s.refuseCmd 0x0B05 rMaintainer h .safety)) ∧
    (s.isOn F.PWR_AUX_STATUS_PSU_A_OK = true → ∃ t, exec (.cardPrepare h 3) s = .next t ∧ s.Done t 0x0B05 h .ok []) ∧
    (s.isOn F.PWR_AUX_STATUS_PSU_A_OK = false → exec (.cardPrepare h 3) s = .next (s.refuseCmd 0x0B05 rMaintainer h .safety)) ∧
    (s.axStill 0 = true → s.axStill 1 = true → ∃ t, exec (.cardPrepare h 4) s = .next t ∧ s.Done t 0x0B05 h .ok []) ∧
    (s.axStill 0 = false ∨ s.axStill 1 = false → ∃ t u : State, exec (.cardPrepare h 4) s = .next t ∧ u.Accepted t 0x0B05 h 4 [] ∧
      u.mot.preparing = true ∧ (∀ x, x < 2 → s.axStill x = false → u.axState x = axSTOPPING)) ∧
    (∀ k, k = 0 ∨ 4 < k → exec (.cardPrepare h k) s = .next (s.refuseCmd 0x0B05 rMaintainer h .range)) := by
  have hrun : ∀ k r, 1 ≤ k → k ≤ 4 → prepareCard k s = r → exec (.cardPrepare h k) s = .next (s.answer 0x0B05 rMaintainer h r) :=
    fun k r h1 h4 e => e ▸ cardPrepare_runs s h allow h1 h4
  refine ⟨⟨_, hrun 1 _ (by decide) (by decide) rfl, State.answer_done _ _ _ _ _ _⟩, fun hok => ?_, fun hok => ?_, fun hok => ?_, fun hok => ?_,
    fun h0 h1 => ?_, fun hmoving => ?_, fun k hk => cardPrepare_range s h allow hk⟩
  · exact ⟨_, hrun 2 _ (by decide) (by decide) (if_pos hok), State.answer_done _ _ _ _ _ _⟩
  · exact hrun 2 (.refuse .safety) (by decide) (by decide) (if_neg (by rw [hok]; decide))
  · exact ⟨_, hrun 3 _ (by decide) (by decide) (if_pos hok), State.answer_done _ _ _ _ _ _⟩
  · exact hrun 3 (.refuse .safety) (by decide) (by decide) (if_neg (by rw [hok]; decide))
  · exact ⟨_, hrun 4 _ (by decide) (by decide) (prepareMot_resting h0 h1), State.answer_done _ _ _ _ _ _⟩
  · obtain ⟨hbody, hstop⟩ := prepareMot_moving hmoving
    exact ⟨_, _, hrun 4 _ (by decide) (by decide) hbody, State.answer_accept _ _ _ _ _ _ _, rfl, hstop⟩

end Sys2Proof.Machine
end

section
/-! PROOFS. What leaves an instant's results alone: a frame over registers, cards and the instant, kept by mode transitions and the entry into LOCKOUT. -/

namespace Sys2Proof.Machine

-- One proof after another: a thread for each would not fit the memory of the check.
set_option Elab.async false

/-! ### The frame of an instant -/

/-- What an instant leaves for its users beside registers: the time, the current of the instant, the phase term and the heartbeat, and how far
the substitution of a core has come. -/
structure InstantView where
  time : TimeState
  fresh : Bool
  recent : List (Option Int × Bool)
  phase : Int
  beat : List Byte
  core : Option Nat
  agreed : Bool
  waits : List (Nat × Nat × Nat)
  spent : List (Nat × Nat)

def State.view (s : State) : InstantView :=
  { time := s.time, fresh := s.cim.fresh, recent := s.cim.recent, phase := s.seg.phase, beat := s.seg.beat, core := s.recorder.coreShadow
    agreed := s.recorder.coreAgreed, waits := s.recorder.relocWait, spent := s.recorder.spent }

/-- The fields of a view, read off it. -/
theorem State.of_view {s : State} {v : InstantView} (h : s.view = v) : s.time = v.time ∧ s.cim.fresh = v.fresh ∧ s.cim.recent = v.recent ∧
    s.seg.phase = v.phase ∧ s.seg.beat = v.beat ∧ s.recorder.coreShadow = v.core ∧ s.recorder.coreAgreed = v.agreed ∧
    s.recorder.relocWait = v.waits ∧ s.recorder.spent = v.spent := by
  subst h
  exact ⟨rfl, rfl, rfl, rfl, rfl, rfl, rfl, rfl, rfl⟩

/-- The registers in which an instant and a substitution show: the PLUMB index, the slots of the variant, and those of UNDERCOAT. -/
def instantKey (q : Nat) : Bool :=
  q == F.SEG_PLUMB_IDX_LO_IDX_LO.key || q == F.SEG_PLUMB_IDX_HI_IDX_HI.key || q == F.SYS_ID_SEG_FITTED.key ||
    (decide (0x120000 * 32 ≤ q) && decide (q < 0x120014 * 32))

/-- `t` comes from `s` by what leaves an instant's results alone. -/
structure State.InstantKept (s t : State) : Prop where
  regs : ∀ f : Field, instantKey f.key = true → t.rd f = s.rd f
  view : t.view = s.view
  got : ∀ k, (t.segOf k).got = (s.segOf k).got

theorem instantKey_of_addr {f : Field} (hfrom : 0x40030 ≤ f.addr) (hto : f.addr < 0x120000) (hlo : f.lo < 32) : instantKey f.key = false := by
  rw [Bool.eq_false_iff]
  intro hk
  simp only [instantKey, Bool.or_eq_true, Bool.and_eq_true, decide_eq_true_eq, beq_iff_eq] at hk
  simp only [Field.key, F.SEG_PLUMB_IDX_LO_IDX_LO, F.SEG_PLUMB_IDX_HI_IDX_HI, F.SYS_ID_SEG_FITTED] at hk
  omega

namespace State.InstantKept

variable {s t u : State}

theorem refl (s : State) : InstantKept s s := ⟨fun _ _ => rfl, rfl, fun _ => rfl⟩

theorem trans (h : InstantKept s t) (k : InstantKept t u) : InstantKept s u :=
  ⟨fun f hf => (k.regs f hf).trans (h.regs f hf), k.view.trans h.view, fun n => (k.got n).trans (h.got n)⟩

/-- A step that touches neither registers nor cards nor what the instant leaves. -/
theorem of_eq (hr : t.regs = s.regs := by rfl) (hv : t.view = s.view := by rfl) (hs : t.seg.segs = s.seg.segs := by rfl) : InstantKept s t := by
  refine ⟨fun f _ => ?_, hv, fun k => ?_⟩
  · unfold State.rd; rw [hr]
  · unfold State.segOf; rw [hs]

theorem ite {c : Prop} [Decidable c] (ht : InstantKept s t) (hu : InstantKept s u) : InstantKept s (if c then t else u) := by
  split
  · exact ht
  · exact hu

theorem foldl {β : Type} (f : State → β → State) (l : List β) (h : ∀ s, ∀ b ∈ l, InstantKept s (f s b)) (s : State) : InstantKept s (l.foldl f s) := by
  induction l generalizing s with
  | nil => exact refl s
  | cons b l ih => exact (h s b List.mem_cons_self).trans (ih (fun s c hc => h s c (List.mem_cons_of_mem b hc)) _)

theorem wr (s : State) {f : Field} (v : Nat) (hf : instantKey f.key = false := by decide) : InstantKept s (s.wr f v) :=
  ⟨fun g hg => State.rd_wr_ne s f g v fun e => (by rw [e, hf] at hg; cases hg), rfl, fun _ => rfl⟩

theorem wrB (s : State) {f : Field} (b : Bool) (hf : instantKey f.key = false := by decide) : InstantKept s (s.wrB f b) := wr s _ hf

/-- Writes to registers of which none shows the instant, as a check that evaluates. -/
theorem wrs (s : State) (l : List (Field × Nat))
    (hl : (l.all fun p => !instantKey p.1.key) = true := by simp only [List.all_cons, List.all_nil]; decide) : InstantKept s (s.wrs l) := by
  induction l generalizing s with
  | nil => exact refl s
  | cons p l ih =>
    rw [List.all_cons, Bool.and_eq_true, Bool.not_eq_true'] at hl
    exact (wr s p.2 hl.1).trans (ih _ hl.2)

/-- Writes to registers between those of the ring and those of UNDERCOAT. -/
theorem wrs_of_addr (s : State) (l : List (Field × Nat)) (hl : ∀ p ∈ l, 0x40030 ≤ p.1.addr ∧ p.1.addr < 0x120000 ∧ p.1.lo < 32) :
    InstantKept s (s.wrs l) :=
  .wrs s l (List.all_eq_true.2 fun p hp => by rw [instantKey_of_addr (hl p hp).1 (hl p hp).2.1 (hl p hp).2.2]; rfl)

theorem of_quiet (q : s.Quiet t) : InstantKept s t := by
  have hrest : t = { s with regs := t.regs, recorder := t.recorder, hrt := t.hrt } := q.rest
  have hlog := q.log.stored
  refine ⟨fun f hf => q.regs f fun hm => ?_, ?_, fun k => ?_⟩
  · have hkeys : ∀ k ∈ answerKeys, instantKey k = false := by decide
    rw [hkeys _ hm] at hf
    cases hf
  · have hcore : t.recorder.coreShadow = s.recorder.coreShadow := (congrArg RecState.coreShadow hlog :)
    have hagreed : t.recorder.coreAgreed = s.recorder.coreAgreed := (congrArg RecState.coreAgreed hlog :)
    have hwaits : t.recorder.relocWait = s.recorder.relocWait := (congrArg RecState.relocWait hlog :)
    have hspent : t.recorder.spent = s.recorder.spent := (congrArg RecState.spent hlog :)
    unfold State.view
    rw [hcore, hagreed, hwaits, hspent, hrest]
  · rw [hrest]; rfl

theorem modSeg (s : State) (k : Nat) {g : Seg → Seg} (hg : ∀ x, (g x).got = x.got) : InstantKept s (s.modSeg k g) := by
  refine ⟨fun _ _ => rfl, rfl, fun q => ?_⟩
  rcases eq_or_ne q k with rfl | hq
  · rw [State.segOf_modSeg]; exact hg _
  · unfold State.modSeg; rw [State.segOf_setSeg_ne _ _ _ _ hq]

end State.InstantKept

/-! ### Records, flags and completions -/

theorem State.post_instant (s : State) (r : Rec) : s.InstantKept (s.post r) := .of_quiet (s.quiet_post r)

theorem State.flag_instant (s : State) (fl : Flag) (n : Note) (hb : instantKey fl.bit.key = false := by decide)
    (hc : instantKey fl.cnt.key = false := by decide) : s.InstantKept (s.flag fl n) :=
  (((State.InstantKept.wr s 1 hb).trans (.wr _ _ hc)).trans (State.post_instant _ _)).trans .of_eq

theorem State.finish_instant (s : State) (op key : Nat) (st : Status) (res : List Int) : s.InstantKept (s.finish op key st res) := by
  unfold State.finish
  split
  · exact .refl s
  · exact .trans .of_eq (.of_quiet (State.quiet_complete _ _ _ _ _ _ _))

/-! ### Contactors, insulation monitor and power -/

theorem State.isoRole_instant (s : State) : s.InstantKept s.isoRole :=
  .trans (t := if !s.isoMay then _ else _) (.ite .of_eq (.ite (.refl s) .of_eq)) (.wr _ _)

theorem State.isoReport_instant (s : State) : s.InstantKept s.isoReport := by
  unfold State.isoReport
  split
  · exact .ite (.wrs s _) (.wrs s _)
  · exact .wrs s _

theorem State.isoString_instant (s : State) : s.InstantKept s.isoString := by
  refine .ite (.trans .of_eq (State.isoRole_instant _)) (.trans ?_ (State.isoRole_instant _))
  have h : s.InstantKept (({ s with cim.candidate := false } : State).wr F.CIM_ISO_STATUS_ROLE 2) := .trans .of_eq (.wr _ _)
  exact .ite h (h.trans (State.isoReport_instant _))

theorem State.mirrorSwitches_instant (s : State) : s.InstantKept s.mirrorSwitches := by
  unfold State.mirrorSwitches
  extract_lets _ hs ls open_ s1
  have h : s.InstantKept s1 := ((State.InstantKept.wrB s _).trans (.wrB _ _)).trans (.wrB _ _)
  exact .ite (h.trans (State.isoString_instant _)) h

theorem State.allOff_instant (s : State) : s.InstantKept s.allOff := (State.InstantKept.wr s _).trans (State.mirrorSwitches_instant _)

theorem State.outOffSet_instant (s : State) (o : Nat) : s.InstantKept (s.outOffSet o) :=
  (State.InstantKept.wr s _).trans (State.mirrorSwitches_instant _)

theorem State.motSave_instant (s : State) : s.InstantKept s.motSave := .foldl _ _ (fun _ _ _ => .of_eq) s

/-- A power state other than P4 leaves the islands on. -/
theorem State.enterPower_instant (s : State) {p : Nat} (hp : p ≠ 4) : s.InstantKept (s.enterPower p) := by
  unfold State.enterPower
  extract_lets on off s0 s1
  rw [if_neg hp]
  have h0 : s.InstantKept s0 := .ite s.motSave_instant (.refl s)
  exact ((h0.trans (.wr _ _)).trans (.wr _ _)).trans (State.isoRole_instant _)

/-! ### Balancing -/

theorem State.allPathsOff_instant (s : State) : s.InstantKept s.allPathsOff := .foldl _ _ (fun _ _ _ => .of_eq) s

theorem State.zeroDuties_instant (s : State) : s.InstantKept s.zeroDuties := .trans .of_eq (.foldl _ _ (fun _ _ _ => .of_eq) _)

theorem State.endCampaign_instant (s : State) (st : Status) : s.InstantKept (s.endCampaign st) := by
  unfold State.endCampaign
  split
  · exact .refl s
  · have h : s.InstantKept { s.zeroDuties with bal.campaign := none } := s.zeroDuties_instant.trans .of_eq
    exact (((h.trans (.wrs _ _)).trans (State.flag_instant _ _ _)).trans (State.finish_instant _ _ _ _ _)).trans (.wr _ _)

theorem State.autoCampaign_instant (s : State) : s.InstantKept s.autoCampaign :=
  .ite (.trans (.trans .of_eq (.wrs _ _)) (.wr _ _)) (.refl s)

/-! ### Messages of dispatch, in mailboxes of CAN port 0 -/

theorem State.setPend_instant (s : State) {n : Nat} (hn : n < 64) (on : Bool) : s.InstantKept (s.setPend 0 n on) := by
  refine .trans (.wrB s on (instantKey_of_addr ?_ ?_ (show 5 < 32 by decide))) (.wr _ _ ?_)
  · simp only [F.CAN_MB_CTRL_PENDING]; omega
  · simp only [F.CAN_MB_CTRL_PENDING]; omega
  · split <;> decide

theorem State.canTxEnd_instant (s : State) {n : Nat} (hn : n < 64) (st : Status) : s.InstantKept (s.canTxEnd 0 n st) := by
  refine .trans (.trans ((s.setPend_instant hn false).trans (.wrs_of_addr _ _ ?_)) .of_eq) (State.finish_instant _ _ _ _ _)
  simp [F.CAN_MB_CTRL_STATUS, F.CAN_MB_CTRL_REQ, F.CAN_MB_CTRL_CANCEL, F.CAN_MB_CTRL_ATTEMPTS]
  omega

theorem State.canRequest_instant (s : State) {n : Nat} (hn : n < 64) : s.InstantKept (s.canRequest 0 n) := by
  have hreq : s.InstantKept (s.wrs [(F.CAN_MB_CTRL_REQ 0 n, 1), (F.CAN_MB_CTRL_CANCEL_LATE 0 n, 0)]) :=
    .wrs_of_addr _ _ (by simp [F.CAN_MB_CTRL_REQ, F.CAN_MB_CTRL_CANCEL_LATE]; omega)
  have hst : s.InstantKept (s.wr (F.CAN_MB_CTRL_STATUS 0 n) Status.param.code) :=
    .wrs_of_addr s [(F.CAN_MB_CTRL_STATUS 0 n, _)] (by simp [F.CAN_MB_CTRL_STATUS]; omega)
  exact .ite (.refl s) (.ite hst (.ite hreq (hreq.trans (.ite (State.setPend_instant _ hn _) (State.canTxEnd_instant _ hn _)))))

theorem State.canEnd_instant (s : State) {n : Nat} (hn : n < 64) (st : Status) : s.InstantKept (s.canEnd 0 n st) :=
  .ite (.trans ((s.canTxEnd_instant hn st).trans .of_eq) (State.canRequest_instant _ hn)) (s.canTxEnd_instant hn st)

theorem State.canData_instant (s : State) {n : Nat} (hn : n < 64) (bs : List Byte) : s.InstantKept (s.canData 0 n bs) := by
  refine .foldl _ _ (fun s w hw => ?_) s
  have hw := (mem_numbersFrom 0 16 w).1 hw
  exact .wrs_of_addr s [(F.CAN_MB_DATA_VALUE 0 n w, _)] (by simp [F.CAN_MB_DATA_VALUE]; omega)

theorem State.canSend_instant (s : State) {n : Nat} (hn : n < 64) (id : Nat) (ide fdf : Bool) (bs : List Byte) :
    s.InstantKept (s.canSend n id ide fdf bs) := by
  refine .ite (.refl s) (.trans (.trans (.wrs_of_addr _ _ ?_) (State.canData_instant _ hn _)) (State.canRequest_instant _ hn))
  simp [F.CAN_MB_CTRL_DIR, F.CAN_MB_CTRL_TIMED, F.CAN_MB_ID_ID, F.CAN_MB_ID_IDE, F.CAN_MB_ID_RTR, F.CAN_MB_FMT_DLC, F.CAN_MB_FMT_FDF,
    F.CAN_MB_FMT_BRS, F.CAN_MB_FMT_RETRY]
  omega

theorem State.dspSend_instant (s : State) {n : Nat} (hn : n < 64) (bank : Bool) (offset index flags : Nat) (body : List Byte) :
    s.InstantKept (s.dspSend n bank offset index flags body) :=
  .ite (.trans .of_eq (State.canSend_instant _ hn _ _ _ _)) (.refl s)

theorem State.setpointLoad_instant (s : State) : s.InstantKept s.setpointLoad := by
  unfold State.setpointLoad
  split
  · exact .refl s
  · exact s.dspSend_instant (by decide) _ _ _ _ _

theorem State.scheduleEnd_instant (s : State) (st : Status) : s.InstantKept (s.scheduleEnd st) := by
  unfold State.scheduleEnd
  split
  · exact .refl s
  · exact .trans (.trans .of_eq (.wr _ _)) (State.finish_instant _ _ _ _ _)

theorem State.startingEnd_instant (s : State) (st : Status) : s.InstantKept (s.startingEnd st) := by
  unfold State.startingEnd
  split
  · exact .refl s
  · exact .trans (.ite .of_eq (.trans .of_eq (.wr _ _))) (State.finish_instant _ _ _ _ _)

theorem State.entriesDrop_instant (s : State) : s.InstantKept s.entriesDrop := by
  unfold State.entriesDrop
  extract_lets keep n first s1 _ s2
  have h1 : s.InstantKept s1 := .ite (s.canEnd_instant (by decide) _) (.refl s)
  have h2 : s.InstantKept s2 := h1.trans (.trans .of_eq (.ite (.refl _) ((State.flag_instant _ _ _).trans (.wr _ _))))
  exact .ite (.refl s) (.ite (h2.trans (State.setpointLoad_instant _)) h2)

theorem State.scheduleLeave_instant (s : State) : s.InstantKept s.scheduleLeave :=
  ((s.scheduleEnd_instant _).trans (State.startingEnd_instant _ _)).trans (State.entriesDrop_instant _)

theorem State.genStop_instant (s : State) (st : Status) : s.InstantKept (s.genStop st) :=
  .trans (.trans .of_eq (.wrs _ _)) (State.finish_instant _ _ _ _ _)

theorem State.corrAbort_instant (s : State) : s.InstantKept s.corrAbort :=
  .ite (.trans (.trans .of_eq (.wr _ _)) (State.finish_instant _ _ _ _ _)) (.refl s)

theorem State.perturbStop_instant (s : State) : s.InstantKept s.perturbStop := by
  unfold State.perturbStop
  split
  · exact .refl s
  · next p _ =>
    extract_lets idx _ s1 s2
    have h1 : s.InstantKept s1 := .trans .of_eq (State.dspSend_instant _ (by decide) _ _ _ _ _)
    have h2 : s1.InstantKept s2 := .ite (.trans (.wr _ _) (.ite .of_eq (State.genStop_instant _ _))) (.refl s1)
    exact ((h1.trans h2).trans (State.corrAbort_instant _)).trans (State.finish_instant _ _ _ _ _)

/-! ### Motion and thermal management -/

/-- The state of an axis is the word at 4c of its page. -/
theorem instantKey_axis {x lo w r : Nat} (hlo : lo < 32) : instantKey (Field.key ⟨0xb014c + 256 * x, lo, w, r⟩) = false := by
  rw [Bool.eq_false_iff]
  intro hk
  simp only [instantKey, Bool.or_eq_true, Bool.and_eq_true, decide_eq_true_eq, beq_iff_eq] at hk
  simp only [Field.key, F.SEG_PLUMB_IDX_LO_IDX_LO, F.SEG_PLUMB_IDX_HI_IDX_HI, F.SYS_ID_SEG_FITTED] at hk
  omega

theorem State.axStop_instant (s : State) (x : Nat) (e : Bool) (cause : Nat) : s.InstantKept (s.axStop x e cause) :=
  .ite (.refl s) (.ite (.refl s) (.trans (.wr s _ (instantKey_axis (show 0 < 32 by decide))) .of_eq))

theorem State.seLoadFw_instant (s : State) {k : Nat} (q : SeKernel) (l : List SeInst) (hk : instantKey (F.SE_KSTAT_SHADOW k).key = false) :
    s.InstantKept (s.seLoadFw k q l) :=
  .ite (.trans .of_eq (.wr _ _ hk)) (.refl s)

theorem State.loadLoop_instant (s : State) : s.InstantKept s.loadLoop := s.seLoadFw_instant _ _ (by decide)

theorem State.seDisable_instant (s : State) (k : Nat) : s.InstantKept (s.seDisable k) :=
  .ite (.trans .of_eq (State.finish_instant _ _ _ _ _)) .of_eq

theorem State.thmMode_instant (s : State) : s.InstantKept s.thmMode := by
  unfold State.thmMode
  refine .ite ?_ ?_
  · extract_lets s1
    have h1 : s.InstantKept s1 := .ite (.refl s) (s.seLoadFw_instant _ _ (by decide))
    exact .ite h1 (h1.trans (State.loadLoop_instant _))
  · extract_lets s1
    have h1 : s.InstantKept s1 := .ite (s.seDisable_instant 1) (.refl s)
    exact .ite (h1.trans (State.seDisable_instant _ _)) h1

theorem State.tuneEnd_instant (s : State) (st : Status) (res : List Int) : s.InstantKept (s.tuneEnd st res) := by
  unfold State.tuneEnd
  split
  · exact .refl s
  · extract_lets _ s1 s2
    have h1 : s.InstantKept s1 := .trans (.trans .of_eq (State.genStop_instant _ _)) (.wrs _ _)
    have h2 : s1.InstantKept s2 := .ite (State.loadLoop_instant _) (.refl s1)
    exact ((h1.trans h2).trans (State.flag_instant _ _ _)).trans (State.finish_instant _ _ _ _ _)

theorem State.motSendFrac_instant (s : State) (x p : Nat) : s.InstantKept (s.motSendFrac x p) := .ite (.refl s) .of_eq

theorem State.sendValve_instant (s : State) (p db : Nat) : s.InstantKept (s.sendValve p db) :=
  .ite (.refl s) (.trans ((s.motSendFrac_instant 0 p).trans .of_eq) (.wr _ _))

theorem State.sendDamper_instant (s : State) (p : Nat) : s.InstantKept (s.sendDamper p) :=
  .ite (.refl s) (.trans ((s.motSendFrac_instant 1 p).trans .of_eq) (.wr _ _))

theorem State.thmDrive_instant (s0 : State) : s0.InstantKept s0.thmDrive := by
  unfold State.thmDrive
  extract_lets forced s vo dow unavail loop s1 s2 s3 s4 s5
  have h0 : s0.InstantKept s := .ite (s0.tuneEnd_instant _ _) (.refl s0)
  have h1 : s.InstantKept s1 := .wrs s _
  have h2 : s1.InstantKept s2 := .ite (State.flag_instant _ _ _) (.refl s1)
  have h4 : s2.InstantKept s4 := .trans (.wrB s2 unavail) (.ite (.wr s3 _) (.refl s3))
  have h5 : s4.InstantKept s5 :=
    .ite (s4.sendValve_instant _ _) (.ite (.refl s4) (.ite (s4.sendValve_instant _ _) (.ite (s4.sendValve_instant _ _)
      (.ite (s4.sendValve_instant _ _) (s4.sendValve_instant _ _)))))
  refine (((h0.trans h1).trans h2).trans h4).trans (h5.trans ?_)
  exact .ite (s5.sendDamper_instant _) (.ite (s5.sendDamper_instant _) (.ite (s5.sendDamper_instant _) (s5.sendDamper_instant _)))

theorem State.thmNewMode_instant (s : State) : s.InstantKept s.thmNewMode :=
  ((s.tuneEnd_instant _ _).trans (State.thmMode_instant _)).trans (State.thmDrive_instant _)

/-! ### The mode transition (R40, R44) -/

theorem State.stopOp_instant (s : State) (o : Op) : s.InstantKept (s.stopOp o) := by
  unfold State.stopOp
  split
  · exact .modSeg s _ fun _ => rfl
  · exact s.endCampaign_instant _
  · exact .of_eq
  · exact .trans (.wr s (f := F.EST_CFG_RATE) _) .of_eq
  · exact .of_eq
  · exact .ite (s.scheduleEnd_instant _) (s.startingEnd_instant _)
  · exact s.perturbStop_instant
  · extract_lets _ s1
    have h1 : s.InstantKept s1 := .of_eq
    exact ((h1.trans (State.axStop_instant _ _ _ _)).trans (State.finish_instant _ _ _ _ _)).trans .of_eq
  · extract_lets _ s1
    have h1 : s.InstantKept s1 := .of_eq
    exact .trans (.ite ((h1.trans (State.axStop_instant _ _ _ _)).trans (.wr _ _ (instantKey_axis (show 4 < 32 by decide)))) h1) .of_eq
  · exact .trans .of_eq (.wrs _ _)
  · exact .of_eq
  · exact .of_eq
  · exact s.genStop_instant _
  · exact .wr s _
  · exact .wr s _
  · exact .refl s

theorem State.abortIllegal_instant (s : State) (mode : Nat) : s.InstantKept (s.abortIllegal mode) :=
  .foldl _ _ (fun s o _ => (s.stopOp_instant o).trans (State.finish_instant _ _ _ _ _)) s

theorem State.modeFollow_instant (s : State) (new : Nat) : s.InstantKept (s.modeFollow new) := by
  unfold State.modeFollow
  extract_lets s1 s2
  have h1 : s.InstantKept s1 :=
    .ite ((s.endCampaign_instant _).trans (State.allPathsOff_instant _)) (.ite s.autoCampaign_instant (.refl s))
  have h2 : s1.InstantKept s2 := .ite (.refl s1) (s1.scheduleLeave_instant.trans (State.perturbStop_instant _))
  exact (h1.trans h2).trans (State.thmNewMode_instant _)

theorem State.setMode_instant (s : State) (new cause : Nat) : s.InstantKept (s.setMode new cause) := by
  unfold State.setMode
  extract_lets old s1 s2 _ s3 _ s4 s5 s6
  have h2 : s.InstantKept s2 := (State.InstantKept.wrs s _).trans (State.post_instant _ _)
  have h4 : s2.InstantKept s4 := .trans (t := s3) .of_eq (.ite (.refl s3) .of_eq)
  have hlimit : ∀ u : State, u.InstantKept u.setServiceLimit := fun u =>
    .ite (.trans (.wrB u (f := F.SAFE_STATUS_SERVICE_LIMIT) _) .of_eq) (.wrB u _)
  have h5 : s4.InstantKept s5 := ((s4.abortIllegal_instant new).trans (State.modeFollow_instant _ _)).trans (hlimit _)
  have h6 : s5.InstantKept s6 := .ite (.refl s5) (s5.enterPower_instant (by decide))
  exact ((((h2.trans h4).trans h5).trans h6).trans (.wr _ _)).trans (.wrB _ _)

/-! ### The entry into LOCKOUT (R41, R268, R296) -/

theorem State.endClosing_instant (s : State) (r : Nat) : s.InstantKept (s.endClosing r) :=
  .ite (.refl s) (.trans .of_eq (.wrs _ _))

theorem State.lockout_instant (s : State) (c : Cause) (ch : Nat) : s.InstantKept (s.lockout c ch) := by
  unfold State.lockout
  extract_lets s0 s1 s2 s4 s3
  have h0 : s.InstantKept s0 := .ite (.trans (.trans .of_eq (.wrs _ _)) (State.finish_instant _ _ _ _ _)) (.refl s)
  have hoff : s0.InstantKept s0.reactStart.allOff := .trans (.ite .of_eq (.refl s0)) (State.allOff_instant _)
  have hlatch : ∀ u : State, u.InstantKept (u.latchCause c ch) := fun u => .trans .of_eq (.wrs _ _)
  have h2 : s0.reactStart.allOff.InstantKept s2 := ((hlatch _).trans (State.endClosing_instant _ _)).trans (State.post_instant _ _)
  have h3 : s2.InstantKept s3 :=
    .ite (.refl s2) (((s2.setMode_instant _ _).trans (State.finish_instant _ _ _ _ _)).trans (.wr s4 _))
  exact (((h0.trans hoff).trans h2).trans h3).trans (.trans (.wr _ _) (.wrB _ _))

theorem State.raiseCause_instant (s : State) (c : Cause) (ch : Nat) : s.InstantKept (s.raiseCause c ch) := by
  unfold State.raiseCause
  split
  · exact .ite (s.lockout_instant _ _) (.wr s _)
  · exact .ite (s.lockout_instant _ _) (.wr s _)
  · exact s.lockout_instant _ _

end Sys2Proof.Machine
end

section
/-! PROOFS. What an instant starts beside its cards keeps the same frame: closing into RUN, the bank's grant, generator, estimator and relabelling. -/

namespace Sys2Proof.Machine

-- One proof after another: a thread for each would not fit the memory of the check.
set_option Elab.async false

/-! ### What an instant starts: closing into RUN, the bank's grant, the estimator -/

theorem State.outOnSet_instant (s : State) (o : Nat) : s.InstantKept (s.outOnSet o) := by
  unfold State.outOnSet
  extract_lets _ s1
  have h1 : s.InstantKept s1 := .trans (.trans (.trans .of_eq (.wr _ _)) (.wr _ _)) (State.mirrorSwitches_instant _)
  exact .ite h1 (h1.trans (State.isoString_instant _))

theorem State.bankSend_instant (s : State) (m : BankMsg) : s.InstantKept (s.bankSend m) := .ite .of_eq (.refl s)

theorem State.estCommit_instant (s : State) (l : List SeInst) : s.InstantKept (s.estCommit l) :=
  .ite (.trans .of_eq (State.seLoadFw_instant _ _ _ (by decide))) (.refl s)

theorem State.estUnpark_instant (s : State) : s.InstantKept s.estUnpark := .ite ((s.estCommit_instant _).trans .of_eq) (.refl s)

theorem State.modeFail_instant (s : State) (st : Status) : s.InstantKept (s.modeFail st) :=
  .trans (.trans .of_eq (.wrs _ _)) (State.finish_instant _ _ _ _ _)

theorem State.beginClosing_instant (s : State) : s.InstantKept s.beginClosing := by
  have hstart : ∀ u : State, u.InstantKept u.startClosing := fun u => .trans (.trans .of_eq (.wrs _ _)) (State.outOnSet_instant _ _)
  exact s.estUnpark_instant.trans (.ite (hstart _) (State.modeFail_instant _ _))

theorem State.grantTake_instant (s : State) (reason : Nat) : s.InstantKept (s.grantTake reason) := by
  have hrefused : s.InstantKept (s.grantRefused reason) :=
    .trans (.trans (.trans .of_eq (.wr _ _)) (State.flag_instant _ _ _)) (State.modeFail_instant _ _)
  exact .ite (.refl s) (.ite (.trans (.trans .of_eq (.wr _ _)) (State.beginClosing_instant _)) hrefused)

theorem State.grantAnswer_instant (s : State) (p : Nat) (v : Int) : s.InstantKept (s.grantAnswer p v) := by
  unfold State.grantAnswer
  extract_lets r _ s1 s2
  have h2 : s.InstantKept s2 := .trans (t := s1) (.ite .of_eq (.refl s)) (State.bankSend_instant _ _)
  exact .ite (h2.trans (State.grantTake_instant _ _)) h2

theorem State.grantServe_instant (n : Nat) (s : State) : s.InstantKept (s.grantServe n) := by
  induction n generalizing s with
  | zero => exact .refl s
  | succ n ih =>
    unfold State.grantServe
    split
    · exact .refl s
    · split
      · exact .refl s
      · exact .trans (.trans .of_eq (State.grantAnswer_instant _ _ _)) (ih _)

theorem State.sendClosed_instant (s : State) : s.InstantKept s.sendClosed := by
  unfold State.sendClosed
  extract_lets s1
  have h1 : s.InstantKept s1 := (State.InstantKept.wr s _).trans (State.bankSend_instant _ _)
  exact .ite (.ite (h1.trans (.trans .of_eq (State.grantServe_instant _ _))) h1) (.refl s)

theorem State.enterRun_instant (s : State) : s.InstantKept s.enterRun := by
  unfold State.enterRun
  extract_lets _ s1
  have h1 : s.InstantKept s1 := .trans (.trans .of_eq (State.outOffSet_instant _ _)) (.wrs _ _)
  exact h1.trans (.trans ((s1.setMode_instant _ _).trans (State.finish_instant _ _ _ _ _)) (State.sendClosed_instant _))

theorem State.confirmWait_instant (s : State) : s.InstantKept s.confirmWait := by
  unfold State.confirmWait
  split
  · exact .ite (.refl s) s.enterRun_instant
  · exact .refl s

theorem State.genTick_instant (s : State) : s.InstantKept s.genTick := by
  unfold State.genTick
  exact .ite (.refl s) (.ite (s.genStop_instant _) .of_eq)

theorem State.perturbTick_instant (s : State) : s.InstantKept s.perturbTick := by
  unfold State.perturbTick
  split
  · exact .refl s
  · next p _ =>
    extract_lets _ s1
    have h1 : s.InstantKept s1 := .of_eq
    exact .ite ((h1.trans (.ite (State.genStop_instant _ _) (.refl s1))).trans (State.finish_instant _ _ _ _ _)) (.refl s)

theorem State.sendMarker_instant (s : State) : s.InstantKept s.sendMarker := .ite (s.bankSend_instant _) (.refl s)

theorem State.safeMirror_instant (s : State) : s.InstantKept s.safeMirror := .ite (.refl s) (.trans (.wrB s _) (.wrs _ _))

/-! ### A relabelled index reaches the signal engine's kernels (R78, R189) -/

theorem State.estRecords_instant (s : State) : s.InstantKept s.estRecords.1 := by
  unfold State.estRecords
  extract_lets l bad std
  have h : ∀ (m : List (Nat × SeInst)) (a : State × List SeInst), a.1.InstantKept
      (m.foldl (fun a p => if p.2.frozen || p.2.corrupt then
        let n := s.restoreCell std p.1; (a.1.setEst p.1 n.2, a.2 ++ [n.1]) else (a.1, a.2 ++ [p.2])) a).1 := by
    intro m
    induction m with
    | nil => exact fun a => .refl a.1
    | cons p m ih =>
      intro a
      rw [List.foldl_cons]
      split
      · exact .trans .of_eq (ih _)
      · exact .trans .of_eq (ih (a.1, a.2 ++ [p.2]))
  exact h l (s, [])

theorem State.estRestore_instant (s : State) : s.InstantKept s.estRestore := by
  unfold State.estRestore
  extract_lets std all _ s1 s2 _
  have h1 : s.InstantKept s1 := .of_eq
  exact .ite (.refl s) ((h1.trans (State.estCommit_instant _ _)).trans .of_eq)

theorem State.estApply_instant (s : State) : s.InstantKept s.estApply := by
  unfold State.estApply
  refine .ite (s.estRecords_instant.trans (State.estCommit_instant _ _)) ?_
  extract_lets s1 _ s2
  have h2 : s.InstantKept s2 := .trans (.trans (.trans (.trans .of_eq (.wr _ _)) (State.finish_instant _ _ _ _ _)) (State.finish_instant _ _ _ _ _))
    (State.finish_instant _ _ _ _ _)
  exact .ite h2 (h2.trans (State.estRestore_instant _))

theorem State.recommit_instant (s : State) : s.InstantKept s.recommit := by
  unfold State.recommit
  extract_lets one
  have hone : ∀ (u : State) (k : Nat), instantKey (F.SE_KSTAT_SHADOW k).key = false → u.InstantKept (one u k) := by
    intro u k hk
    unfold one
    split
    · exact .ite (u.seLoadFw_instant _ _ hk) (.refl u)
    · exact .refl u
  exact ((hone s 1 (by decide)).trans (hone _ 2 (by decide))).trans (State.estApply_instant _)

theorem State.plumbRelabel_view (s : State) : s.plumbRelabel.view = s.view ∧ s.plumbRelabel.segs = s.segs := by
  unfold State.plumbRelabel
  extract_lets d k s1 mark _ _ s2
  split
  · exact ⟨rfl, rfl⟩
  · have h : s2.InstantKept (s2.flag Fl.SEG_EVENT_RELABEL { system := true, stfP := true, detail := leBytes 8 (ofSigned 64 k) }).recommit :=
      (State.flag_instant _ _ _).trans (State.recommit_instant _)
    refine ⟨h.view, ?_⟩
    have hslots : s2.rd F.SYS_ID_SEG_FITTED = s.rd F.SYS_ID_SEG_FITTED :=
      (State.rd_wr_ne _ _ _ _ (by decide)).trans ((State.rd_wr_ne _ _ _ _ (by decide)).trans (State.rd_wr_ne _ _ _ _ (by decide)))
    unfold State.segs
    rw [h.regs _ (by decide), hslots]

end Sys2Proof.Machine
end

section
/-! PROOFS. The stages of a PLUMB instant, and the substitution of a core in it (R73, R77, R504). -/

namespace Sys2Proof.Machine

-- One proof after another: a thread for each would not fit the memory of the check.
set_option Elab.async false

/-! ### Core 3 takes the work (R504) -/

/-- Core 3 in the work of core `c`, before the substitutions that wait. -/
def State.coreTaken (s : State) (c : Nat) : State :=
  (((({ s with recorder.coreShadow := none, recorder.coreAgreed := false } : State).spareTook 1 c 3).wr F.UC_STATUS_CORE_REPLACED c).exhaust 1).finish
    0x0B04 coreKey .ok

theorem State.coreTakes_waits {s : State} (h : ∀ c, s.recorder.coreShadow = some c → s.recorder.coreAgreed = false ∨ s.plumbIdx % 4000 ≠ 0) :
    s.coreTakes = s := by
  unfold State.coreTakes
  split
  · next c hc =>
    refine if_neg fun hboth => ?_
    rw [Bool.and_eq_true, decide_eq_true_eq] at hboth
    rcases h c hc with hagreed | hidx
    · rw [hagreed] at hboth
      cases hboth.1
    · exact hidx hboth.2
  · rfl

theorem State.coreTakes_takes {s : State} {c : Nat} (h : s.recorder.coreShadow = some c) (hagreed : s.recorder.coreAgreed = true)
    (hidx : s.plumbIdx % 4000 = 0) : s.coreTakes = (s.coreTaken c).nextJobs (s.coreTaken c).recorder.relocWait := by
  unfold State.coreTakes
  rw [h]
  exact if_pos (by rw [hagreed, hidx]; rfl)

/-- The registers that core 3 moves as it takes the work. -/
def coreKeys : List Nat := F.UC_STATUS_CORE_REPLACED.key :: flagKeys Fl.UC_EVENT_SUBSTITUTED

theorem State.coreTaken_spec (s : State) (c : Nat) : s.SameRegs (s.coreTaken c) (coreKeys ++ jobKeys) ∧
    s.coreTaken c = { s with regs := (s.coreTaken c).regs, recorder := (s.coreTaken c).recorder, hrt := (s.coreTaken c).hrt, upd := (s.coreTaken c).upd } ∧
    (s.coreTaken c).recorder.coreShadow = none ∧ (s.coreTaken c).recorder.relocWait = s.recorder.relocWait ∧
    (s.coreTaken c).rd F.UC_STATUS_CORE_REPLACED = c % 4 ∧ (s.coreTaken c).rd Fl.UC_EVENT_SUBSTITUTED.bit = 1 ∧
    ((1, 0) ∉ s.recorder.spent → (s.coreTaken c).poolOut 1 = true) := by
  let s1 : State := { s with recorder.coreShadow := none, recorder.coreAgreed := false }
  let s2 : State := (s1.spareTook 1 c 3).wr F.UC_STATUS_CORE_REPLACED c
  have htook : State.Noted coreKeys s1 s2 :=
    ((s1.spareTook_noted 1 c 3).mono (List.subset_cons_self _ _)).trans (.wr _ _ _ List.mem_cons_self)
  obtain ⟨hout, -, -⟩ := s2.exhaust_noted 1 0
  have hfinish : s2.JobKept (s.coreTaken c) := (s2.exhaust_jobKept 1 0).trans (State.finish_jobKept _ _ _ _ _)
  obtain ⟨-, -, hlog⟩ := State.finish_frame (s2.exhaust 1) 0x0B04 coreKey .ok []
  have hcore : (s.coreTaken c).recorder.coreShadow = none :=
    (congrArg RecState.coreShadow hlog.stored :).trans ((congrArg RecState.coreShadow hout.stored :).trans (congrArg RecState.coreShadow htook.stored :))
  have hwaits : (s.coreTaken c).recorder.relocWait = s.recorder.relocWait :=
    (congrArg RecState.relocWait hlog.stored :).trans ((congrArg RecState.relocWait hout.stored :).trans (congrArg RecState.relocWait htook.stored :))
  refine ⟨fun f hf => ?_, hfinish.rest.trans (by rw [htook.same]), hcore, hwaits, ?_, ?_, fun hs => ?_⟩
  · simp only [List.mem_append, not_or] at hf
    exact (hfinish.regs f hf.2).trans (htook.regs f hf.1)
  · exact (hfinish.regs _ (by decide)).trans (State.rd_wr_same _ _ _)
  · exact (hfinish.regs _ (by decide)).trans ((State.rd_wr_ne _ _ _ _ (by decide)).trans (s1.spareTook_bit _ _ _))
  · have hshown := (s2.exhaust_shows (pool := 1) (res := 0) (by decide) (by rw [htook.spent]; exact hs)).1
    exact (State.finish_jobKept _ _ _ _ _).pools 1 (by decide) hshown

/-- What a substitution leaves alone wherever core 3 stands. -/
theorem State.coreTakes_frame (s : State) : s.SameRegs s.coreTakes (coreKeys ++ jobKeys) ∧
    s.coreTakes = { s with regs := s.coreTakes.regs, recorder := s.coreTakes.recorder, hrt := s.coreTakes.hrt, upd := s.coreTakes.upd } := by
  by_cases h : ∀ c, s.recorder.coreShadow = some c → s.recorder.coreAgreed = false ∨ s.plumbIdx % 4000 ≠ 0
  · rw [State.coreTakes_waits h]
    exact ⟨fun _ _ => rfl, rfl⟩
  · simp only [not_forall, not_or, Bool.not_eq_false, ne_eq, not_not] at h
    obtain ⟨c, hc, hagreed, hidx⟩ := h
    obtain ⟨hregs, hrest, -⟩ := s.coreTaken_spec c
    have hjob := State.nextJobs_jobKept (s.coreTaken c).recorder.relocWait (s.coreTaken c)
    rw [State.coreTakes_takes hc hagreed hidx]
    refine ⟨fun f hf => (hjob.regs f fun hm => hf (List.mem_append_right _ hm)).trans (hregs f hf), hjob.rest.trans ?_⟩
    rw [hrest]

/-! ### The instant -/

/-- The instant counted: the time of its PLUMB instant and the next index. -/
def State.instantCounted (s : State) : State :=
  ({ s with time.count := max s.time.count (s.instant32 / two32) } : State).wr64 F.SEG_PLUMB_IDX_LO_IDX_LO F.SEG_PLUMB_IDX_HI_IDX_HI (s.plumbIdx + 1)

/-- The instant labelled (R78). -/
def State.instantLabelled (s : State) : State := if s.pwr.ctl then s.instantCounted.plumbRelabel else s.instantCounted

/-- The instant's heartbeat on the ring and the current of the instant (R77, R152). -/
def State.instantMeasured (s : State) (shunt flux : Int) (t : Option Int) : State :=
  (s.instantLabelled.plumbAlign.emitMarker (s.instantLabelled.plumbIdx != s.instantCounted.plumbIdx)).shuntTake shunt flux t

/-- The instant at every card, up to the substitution of a core. -/
def State.instantHead (s : State) (shunt flux : Int) (t : Option Int) : State :=
  ((s.instantMeasured shunt flux t).segList.foldl (fun s k => s.cardInstant k) (s.instantMeasured shunt flux t)).genTick.perturbTick

theorem exec_plumbInstant (s : State) (shunt flux : Int) (t : Option Int) :
    exec (.plumbInstant shunt flux t) s = .next (s.instantHead shunt flux t).coreTakes.confirmWait.sendMarker.safeMirror := rfl

theorem State.instantTail_kept (s : State) : s.InstantKept s.confirmWait.sendMarker.safeMirror :=
  (s.confirmWait_instant.trans (State.sendMarker_instant _)).trans (State.safeMirror_instant _)

theorem State.cardInstant_frame (s : State) (k : Nat) : (s.cardInstant k).regs = s.regs ∧ (s.cardInstant k).view = s.view := by
  unfold State.cardInstant
  extract_lets s1 b
  split <;> exact ⟨rfl, rfl⟩

theorem State.cardInstants_frame (l : List Nat) (s : State) : (l.foldl (fun s k => s.cardInstant k) s).regs = s.regs ∧
    (l.foldl (fun s k => s.cardInstant k) s).view = s.view := by
  induction l generalizing s with
  | nil => exact ⟨rfl, rfl⟩
  | cons k l ih =>
    obtain ⟨hregs, hview⟩ := s.cardInstant_frame k
    obtain ⟨hregs', hview'⟩ := ih (s.cardInstant k)
    exact ⟨hregs'.trans hregs, hview'.trans hview⟩

theorem State.instantLabelled_view (s : State) : s.instantLabelled.view = s.instantCounted.view ∧ s.instantLabelled.segs = s.segs := by
  have hslots : s.instantCounted.segs = s.segs := by
    unfold State.segs
    have h : s.instantCounted.rd F.SYS_ID_SEG_FITTED = s.rd F.SYS_ID_SEG_FITTED :=
      (State.rd_wr_ne _ _ _ _ (by decide)).trans (State.rd_wr_ne _ _ _ _ (by decide))
    rw [h]
  unfold State.instantLabelled
  split
  · obtain ⟨hview, hsegs⟩ := s.instantCounted.plumbRelabel_view
    exact ⟨hview, hsegs.trans hslots⟩
  · exact ⟨rfl, hslots⟩

end Sys2Proof.Machine
end

section
/-! PROOFS. What an instant leaves before its cards: the phase term, the heartbeat, the current (R73, R77, R152). -/

namespace Sys2Proof.Machine

-- One proof after another: a thread for each would not fit the memory of the check.
set_option Elab.async false

/-! ### What the instant leaves before its cards -/

/-- The next value of the phase term (R73). -/
def State.nextPhase (s : State) : Int := phaseNext s.seg.phase (if s.pwr.ctl then s.plumbDiff else 0)

/-- The state with the next phase term and the time of the next instant. -/
def State.phased (s : State) : State :=
  { s with seg.phase := s.nextPhase, seg.nextAt := some (s.instant32 + s.periodCounts s.nextPhase) }

theorem State.plumbAlign_instant (s : State) : s.phased.InstantKept s.plumbAlign := by
  unfold State.plumbAlign
  extract_lets was d ok p _ s0 s1
  have h1 : s0.InstantKept s1 :=
    .trans (.trans (.wr (f := F.TIME_PLUMB_DIFF_VALUE) s0 _) (.wr (f := F.SEG_ALIGN_PHASE_TERM) _ _)) (.wrs _ _)
  exact .ite (h1.trans (State.flag_instant _ _ _)) h1

/-- Without the controller no instant is aligned. -/
theorem State.plumbAlign_unaligned {s : State} (h : s.pwr.ctl = false) : s.plumbAlign.isOn F.SEG_ALIGN_ALIGNED = false := by
  have hlocked : s.timeLocked = false := by
    unfold State.timeLocked
    rw [h]
    rfl
  unfold State.plumbAlign
  extract_lets was d ok p _ s0 s1
  have hok : ok = false := by
    show (s.timeLocked && _) = false
    rw [hlocked]
    rfl
  have h1 : s1.rd F.SEG_ALIGN_ALIGNED = 0 := by
    refine (State.rd_wr_ne _ _ _ _ (by decide)).trans ((State.rd_wr_same _ _ _).trans ?_)
    rw [hok]
    rfl
  have hflag := s1.flag_noted Fl.SEG_EVENT_ALIGN_LOST { stfP := true }
  have hif : (if was && !ok then s1.flag Fl.SEG_EVENT_ALIGN_LOST { stfP := true } else s1).rd F.SEG_ALIGN_ALIGNED = 0 := by
    split
    · exact (hflag.regs _ (by decide)).trans h1
    · exact h1
  unfold State.isOn
  rw [hif]
  rfl

theorem State.plumbIdx_congr {s t : State} (h : s.InstantKept t) : t.plumbIdx = s.plumbIdx := by
  unfold State.plumbIdx State.rd64
  rw [h.regs _ (by decide), h.regs _ (by decide)]

theorem State.plumbIdx_of_regs {s t : State} (h : ∀ f : Field, f.key = F.SEG_PLUMB_IDX_LO_IDX_LO.key ∨ f.key = F.SEG_PLUMB_IDX_HI_IDX_HI.key →
    t.rd f = s.rd f) : t.plumbIdx = s.plumbIdx := by
  unfold State.plumbIdx State.rd64
  rw [h _ (.inl rfl), h _ (.inr rfl)]

/-- The heartbeat of an instant (R77). -/
def State.instantBeat (s : State) : List Byte :=
  heartbeat s.instantLabelled.plumbAlign.plumbIdx (s.instantLabelled.plumbAlign.isOn F.SEG_ALIGN_ALIGNED)
    (s.instantLabelled.plumbIdx != s.instantCounted.plumbIdx)

/-- What an instant leaves of the state before its cards. -/
theorem State.instantMeasured_view (s : State) (shunt flux : Int) (t : Option Int) : ∃ recent,
    (s.instantMeasured shunt flux t).view = { s.view with
      time := { s.time with count := max s.time.count (s.instant32 / two32) }, fresh := true, recent := recent
      phase := s.instantLabelled.nextPhase, beat := s.instantBeat } ∧
    (80000000 < shunt.natAbs → ∃ c, recent.head? = some (none, c)) := by
  let a : State := s.instantLabelled.plumbAlign
  let m : State := a.emitMarker (s.instantLabelled.plumbIdx != s.instantCounted.plumbIdx)
  have halign : a.view = { s.instantLabelled.view with phase := s.instantLabelled.nextPhase } := s.instantLabelled.plumbAlign_instant.view
  have hshunt : (s.instantMeasured shunt flux t).view = { a.view with
      fresh := true, recent := (s.instantMeasured shunt flux t).cim.recent, beat := s.instantBeat } := rfl
  refine ⟨_, by rw [hshunt, halign, s.instantLabelled_view.1]; rfl, fun hbeyond => ?_⟩
  have hhead : ∀ (u : State), ∃ i c l, (u.shuntTake shunt flux t).cim.recent = (i, c) :: l ∧ (80000000 < shunt.natAbs → i = none) := by
    intro u
    refine ⟨_, _, _, rfl, fun h => ?_⟩
    exact if_pos (by rw [decide_eq_true h]; rfl)
  obtain ⟨i, c, l, heq, hi⟩ := hhead m
  refine ⟨c, ?_⟩
  show (m.shuntTake shunt flux t).cim.recent.head? = _
  rw [heq, hi hbeyond]
  rfl

/-- The registers of the instant after its heartbeat and its current are those of its alignment. -/
theorem State.instantMeasured_regs (s : State) (shunt flux : Int) (t : Option Int) (f : Field) (hf : instantKey f.key = true) :
    (s.instantMeasured shunt flux t).rd f = s.instantLabelled.rd f := by
  have hmarker : ∀ (u : State) b, (u.emitMarker b).rd f = u.rd f := fun u b => State.rd_wr_ne _ _ _ _ fun e => by
    rw [e] at hf
    exact absurd hf (by decide)
  have hshunt : ∀ u : State, (u.shuntTake shunt flux t).rd f = u.rd f := fun u => by
    refine (State.rd_wr_ne _ _ _ _ fun e => ?_).trans ((State.rd_wr_ne _ _ _ _ fun e => ?_).trans (State.rd_wr_ne _ _ _ _ fun e => ?_)) <;>
    · rw [e] at hf
      exact absurd hf (by decide)
  exact (hshunt _).trans ((hmarker _ _).trans (s.instantLabelled.plumbAlign_instant.regs f hf))

end Sys2Proof.Machine
end

section
/-! PROOFS. A PLUMB instant as a whole (R73, R77, R78, R152, R504). -/

namespace Sys2Proof.Machine

-- One proof after another: a thread for each would not fit the memory of the check.
set_option Elab.async false

/-! ### The instant as a whole -/

theorem State.instantHead_view (s : State) (shunt flux : Int) (t : Option Int) :
    (s.instantHead shunt flux t).view = (s.instantMeasured shunt flux t).view ∧
    (∀ f : Field, instantKey f.key = true → (s.instantHead shunt flux t).rd f = s.instantLabelled.rd f) := by
  let m : State := s.instantMeasured shunt flux t
  obtain ⟨hregs, hview⟩ := State.cardInstants_frame m.segList m
  have hticks := (State.genTick_instant (m.segList.foldl (fun s k => s.cardInstant k) m)).trans (State.perturbTick_instant _)
  refine ⟨hticks.view.trans hview, fun f hf => (hticks.regs f hf).trans (Eq.trans ?_ (s.instantMeasured_regs shunt flux t f hf))⟩
  exact State.rd_of_regs hregs f

theorem State.cardInstant_got (s : State) (k q : Nat) : ((s.cardInstant k).segOf q).got = if q = k then false else (s.segOf q).got := by
  have hcard : ∀ (u : State) (b : BalCard), (u.setBal k b).segOf q = u.segOf q := fun _ _ => rfl
  unfold State.cardInstant
  extract_lets s1 b
  have h1 : (s1.segOf q).got = if q = k then false else (s.segOf q).got := by
    unfold s1
    split
    · next h => rw [h, State.segOf_modSeg]
    · next h => unfold State.modSeg; rw [State.segOf_setSeg_ne _ _ _ _ h]
  split
  · exact h1
  · rw [hcard]
    exact h1

theorem State.cardInstants_got (l : List Nat) {q : Nat} (s : State) (h : q ∈ l ∨ (s.segOf q).got = false) :
    ((l.foldl (fun s k => s.cardInstant k) s).segOf q).got = false := by
  induction l generalizing s with
  | nil => simpa using h
  | cons k l ih =>
    refine ih _ ?_
    rw [State.cardInstant_got]
    by_cases hk : q = k
    · right
      rw [if_pos hk]
    · rw [if_neg hk]
      simpa [hk] using h

/-- No frame of the instant counts as received yet. -/
theorem State.instantHead_got (s : State) (shunt flux : Int) (t : Option Int) {k : Nat} (hk : s.segOk k = true) :
    ((s.instantHead shunt flux t).segOf k).got = false := by
  let m : State := s.instantMeasured shunt flux t
  have hticks := (State.genTick_instant (m.segList.foldl (fun s k => s.cardInstant k) m)).trans (State.perturbTick_instant _)
  have hsegs : m.segs = s.segs := by
    obtain ⟨-, hlabel⟩ := s.instantLabelled_view
    rw [← hlabel]
    unfold State.segs
    rw [s.instantMeasured_regs shunt flux t _ (by decide)]
  have hmem : k ∈ m.segList := by
    rw [State.mem_segList, ← hk]
    unfold State.segOk
    rw [hsegs]
  exact (hticks.got k).trans (State.cardInstants_got _ _ (.inl hmem))

theorem phaseNext_bounds (old d : Int) : (phaseNext old d - old).natAbs ≤ 25 ∧ (old.natAbs ≤ 500000 → (phaseNext old d).natAbs ≤ 500000) := by
  unfold phaseNext clampI
  extract_lets m want
  have hm : 0 ≤ m ∧ m ≤ 500000 := by
    unfold m
    omega
  have hwant : want.natAbs ≤ 500000 := by
    unfold want
    split <;> omega
  omega

/-- After the cards the instant moves the substitution of a core, closing and what it shows. -/
theorem State.instantEnd_frame (s : State) (k : Nat) :
    let t := s.coreTakes.confirmWait.sendMarker.safeMirror
    t.time = s.time ∧ t.cim.fresh = s.cim.fresh ∧ t.cim.recent = s.cim.recent ∧ t.seg.phase = s.seg.phase ∧ t.seg.beat = s.seg.beat ∧
      t.plumbIdx = s.plumbIdx ∧ (t.segOf k).got = (s.segOf k).got := by
  obtain ⟨hregs, hrest⟩ := s.coreTakes_frame
  have htail := s.coreTakes.instantTail_kept
  have hidx : s.coreTakes.plumbIdx = s.plumbIdx := State.plumbIdx_of_regs fun f hf => hregs f fun hm => by
    rcases hf with hf | hf <;>
    · rw [hf] at hm
      exact absurd hm (by decide)
  have htime : s.coreTakes.time = s.time := by rw [hrest]
  have hcim : s.coreTakes.cim = s.cim := by rw [hrest]
  have hseg : s.coreTakes.seg = s.seg := by rw [hrest]
  obtain ⟨hnow, hfresh, hrecent, hphase, hbeat, -⟩ := State.of_view htail.view
  refine ⟨hnow.trans htime, hfresh.trans (congrArg CimState.fresh hcim), hrecent.trans (congrArg CimState.recent hcim),
    hphase.trans (congrArg SegState.phase hseg), hbeat.trans (congrArg SegState.beat hseg), (State.plumbIdx_congr htail).trans hidx,
    (htail.got k).trans ?_⟩
  unfold State.segOf
  rw [hseg]

/-- Without the controller the index is that of the count. -/
theorem State.instantLabelled_alone {s : State} (h : s.pwr.ctl = false) : s.instantLabelled = s.instantCounted := by
  unfold State.instantLabelled
  rw [h]
  rfl

theorem plumbInstant_passes (s : State) (shunt flux : Int) (ts : Option Int) :
    ∃ t, exec (.plumbInstant shunt flux ts) s = .next t ∧ t.time.count = max s.time.count (s.instant32 / two32) ∧ t.cim.fresh = true ∧
      (s.pwr.ctl = false → s.plumbIdx + 1 < 2 ^ 64 →
        t.plumbIdx = s.plumbIdx + 1 ∧ t.seg.beat = heartbeat (s.plumbIdx + 1) false false) ∧
      (t.seg.phase - s.seg.phase).natAbs ≤ 25 ∧ (s.seg.phase.natAbs ≤ 500000 → t.seg.phase.natAbs ≤ 500000) ∧
      (∀ k, s.segOk k = true → (t.segOf k).got = false) ∧
      (80000000 < shunt.natAbs → ∃ c, t.cim.recent.head? = some (none, c)) := by
  obtain ⟨recent, hmeasured, hrecent⟩ := s.instantMeasured_view shunt flux ts
  obtain ⟨hview, hregs⟩ := s.instantHead_view shunt flux ts
  have hhead := hview.trans hmeasured
  obtain ⟨htime, hfresh, hrec, hphase, hbeat, hidx, -⟩ := (s.instantHead shunt flux ts).instantEnd_frame 0
  obtain ⟨hclock, htaken, hlatest, hnext, hsent, -⟩ := State.of_view hhead
  have hnow : s.instantLabelled.nextPhase = phaseNext s.seg.phase (if s.instantLabelled.pwr.ctl then s.instantLabelled.plumbDiff else 0) := by
    obtain ⟨-, -, -, hold, -⟩ := State.of_view s.instantLabelled_view.1
    have hold : s.instantLabelled.seg.phase = s.seg.phase := hold
    unfold State.nextPhase
    rw [hold]
  obtain ⟨hstep, hrange⟩ := phaseNext_bounds s.seg.phase (if s.instantLabelled.pwr.ctl then s.instantLabelled.plumbDiff else 0)
  refine ⟨_, exec_plumbInstant s shunt flux ts, ?_, ?_, fun hctl hwrap => ?_, ?_, fun h => ?_, fun k hk => ?_, fun hbeyond => ?_⟩
  · rw [htime, hclock]
  · rw [hfresh, htaken]
  · have halone := State.instantLabelled_alone hctl
    have hcount : s.instantLabelled.plumbIdx = s.plumbIdx + 1 := by
      rw [halone]
      refine (State.rd64_wr64 _ _ (by decide) rfl rfl).1.trans (Nat.mod_eq_of_lt hwrap)
    refine ⟨hidx.trans ((State.plumbIdx_of_regs fun f hf => hregs f ?_).trans hcount), hbeat.trans (hsent.trans ?_)⟩
    · rcases hf with hf | hf <;> rw [hf] <;> decide
    · show heartbeat _ _ _ = _
      have halign : s.instantLabelled.plumbAlign.plumbIdx = s.plumbIdx + 1 :=
        (State.plumbIdx_congr s.instantLabelled.plumbAlign_instant).trans hcount
      have hctl' : s.instantLabelled.pwr.ctl = false := by rw [halone]; exact hctl
      rw [halign, State.plumbAlign_unaligned hctl', halone, bne_self_eq_false]
  · rw [hphase, hnext, hnow]
    exact hstep
  · rw [hphase, hnext, hnow]
    exact hrange h
  · obtain ⟨-, -, -, -, -, -, hgot⟩ := (s.instantHead shunt flux ts).instantEnd_frame k
    exact hgot.trans (s.instantHead_got shunt flux ts hk)
  · obtain ⟨c, hc⟩ := hrecent hbeyond
    refine ⟨c, ?_⟩
    rw [hrec, hlatest]
    exact hc

/-- The substitution of a core at the end of an instant. -/
theorem State.instantEnd_core (s : State) {c : Nat} (h : s.recorder.coreShadow = some c) :
    let t := s.coreTakes.confirmWait.sendMarker.safeMirror
    (s.recorder.coreAgreed = false ∨ t.plumbIdx % 4000 ≠ 0 → t.recorder.coreShadow = some c) ∧
      (s.recorder.coreAgreed = true → t.plumbIdx % 4000 = 0 → s.recorder.relocWait = [] → t.recorder.coreShadow = none ∧
        t.rd F.UC_STATUS_CORE_REPLACED = c % 4 ∧ t.rd Fl.UC_EVENT_SUBSTITUTED.bit = 1 ∧ ((1, 0) ∉ s.recorder.spent → t.poolOut 1 = true)) := by
  intro t
  have htail : s.coreTakes.InstantKept t := s.coreTakes.instantTail_kept
  have hidx : t.plumbIdx = s.plumbIdx := (s.instantEnd_frame 0).2.2.2.2.2.1
  obtain ⟨-, -, -, -, -, hshadow, -⟩ := State.of_view htail.view
  have hshadow : t.recorder.coreShadow = s.coreTakes.recorder.coreShadow := hshadow
  rw [hidx, hshadow]
  refine ⟨fun hwait => ?_, fun hagreed h4000 hempty => ?_⟩
  · rw [State.coreTakes_waits fun _ _ => hwait]
    exact h
  · obtain ⟨-, -, hnone, hlist, hreplaced, hbit, hpool⟩ := s.coreTaken_spec c
    have htakes : s.coreTakes = (s.coreTaken c).nextJobs [] := by
      rw [State.coreTakes_takes h hagreed h4000, hlist, hempty]
    have hregs : ∀ f : Field, s.coreTakes.rd f = (s.coreTaken c).rd f := fun f => by
      rw [htakes]
      rfl
    refine ⟨?_, ?_, ?_, fun hs => ?_⟩
    · rw [htakes]
      exact hnone
    · rw [htail.regs _ (by decide), hregs]
      exact hreplaced
    · rw [htail.regs _ (by decide), hregs]
      exact hbit
    · rw [State.poolOut_congr 1 (htail.regs _ (by decide)), State.poolOut_congr 1 (hregs _)]
      exact hpool hs

/-- An instant leaves a substitution of a core as far as it has come, up to the end. -/
theorem State.instantHead_recorder (s : State) (shunt flux : Int) (t : Option Int) :
    (s.instantHead shunt flux t).recorder.coreShadow = s.recorder.coreShadow ∧
    (s.instantHead shunt flux t).recorder.coreAgreed = s.recorder.coreAgreed ∧
    (s.instantHead shunt flux t).recorder.relocWait = s.recorder.relocWait ∧
    (s.instantHead shunt flux t).recorder.spent = s.recorder.spent := by
  obtain ⟨recent, hmeasured, -⟩ := s.instantMeasured_view shunt flux t
  have hhead := (s.instantHead_view shunt flux t).1.trans hmeasured
  obtain ⟨-, -, -, -, -, hcore, hagreed, hwaits, hspent⟩ := State.of_view hhead
  exact ⟨hcore, hagreed, hwaits, hspent⟩

theorem plumbInstant_core (s : State) {c : Nat} (h : s.recorder.coreShadow = some c) (shunt flux : Int) (ts : Option Int) :
    ∃ t, exec (.plumbInstant shunt flux ts) s = .next t ∧
      (s.recorder.coreAgreed = false ∨ t.plumbIdx % 4000 ≠ 0 → t.recorder.coreShadow = some c) ∧
      (s.recorder.coreAgreed = true → t.plumbIdx % 4000 = 0 → s.recorder.relocWait = [] → t.recorder.coreShadow = none ∧
        t.rd F.UC_STATUS_CORE_REPLACED = c % 4 ∧ t.rd Fl.UC_EVENT_SUBSTITUTED.bit = 1 ∧ ((1, 0) ∉ s.recorder.spent → t.poolOut 1 = true)) := by
  obtain ⟨hcore, hagreed, hwaits, hspent⟩ := s.instantHead_recorder shunt flux ts
  have hend := (s.instantHead shunt flux ts).instantEnd_core (hcore.trans h)
  rw [hagreed, hwaits, hspent] at hend
  exact ⟨_, exec_plumbInstant s shunt flux ts, hend⟩

end Sys2Proof.Machine
end

section
/-! PROOFS. UNDERCOAT and the cards (R26–R30, R501–R507). -/

namespace Sys2Proof.Machine

-- One proof after another: a thread for each would not fit the memory of the check.
set_option Elab.async false

/-! ### UNDERCOAT as a whole -/

/-- What a step is said to lead to holds of its outcome. -/
theorem of_exec {i : Instr} {s u : State} (h : exec i s = .next u) {P : State → Prop} (hP : ∃ t, exec i s = .next t ∧ P t) : P u := by
  obtain ⟨t, ht, hp⟩ := hP
  rw [h] at ht
  cases ht
  exact hp

/-- Settles O52: each clause is the rule of its step, read off the state that the step leaves. -/
theorem undercoatUsesSparesOnce : Obligations.UndercoatUsesSparesOnce := by
  unfold Obligations.UndercoatUsesSparesOnce
  refine ⟨fun s m ws e n two u f h => ?_, fun s c ws h l hl => scrub_cache s c ws h l hl, relocated_idle, relocated_row, relocated_block,
    fun s ag b h => coreShadowEnd_none ag b h, fun s c b h => ⟨fun ag hag => ?_, fun hag => ?_, fun hag => ⟨_, ?_, rfl⟩, plumbInstant_core s h⟩,
    fun s h p a j allow hbad => ucSubstitute_range s h allow hbad, fun s h a j allow hseg h1 h16 => ucSubstitute_conv_spec s h a j allow hseg h1 h16,
    fun s h c j allow hc => ucSubstitute_core_spec s h c j allow hc, cardPrepare_spec⟩
  · have heq := exec_scrub s m f e h
    refine ⟨_, heq, fun a hm => of_exec heq (scrub_plain s f e h hm), ?_, ?_, ?_, ?_, ?_⟩
    · rintro a g x rfl rfl hx
      exact of_exec heq (scrub_transfer s f e h a hx)
    · rintro p rfl
      exact of_exec heq ⟨_, scrub_safety s f e h p, rfl⟩
    · rintro a rfl rfl
      exact of_exec heq (scrub_row_discards s f e h a)
    · rintro a rfl rfl rfl
      exact of_exec heq (scrub_row_worn s e h a)
    · rintro d b rfl rfl hb hwait hmap
      exact of_exec heq (scrub_block s f e h d b hb hwait hmap)
  · rw [exec_coreShadowEnd ag b h, hag]
    rfl
  · rw [exec_coreShadowEnd true b h, hag]
    rfl
  · rw [exec_coreShadowEnd false b h, hag]
    rfl

end Sys2Proof.Machine
end

section
/-! PROOFS. The current of the instant and the frames of the cards (R93–R95, R152, R153): what each takes, once. -/

namespace Sys2Proof.Machine

-- One proof after another: a thread for each would not fit the memory of the check.
set_option Elab.async false

/-! ### The current of the instant (R152, R153) -/

theorem State.failClosing_instant (s : State) (r : Nat) : s.InstantKept (s.failClosing r) :=
  (s.allOff_instant.trans (State.endClosing_instant _ _)).trans (State.modeFail_instant _ _)

theorem State.bankCurrent_instant (s : State) (i : Option Int) (n : Nat) : s.InstantKept (s.bankCurrent i n) := .ite .of_eq .of_eq

theorem State.slcWarn_instant (s : State) (c : Option Int × Bool) : s.InstantKept (s.slcWarn c) :=
  .ite (.refl s) (.ite (.trans .of_eq (.wr _ _)) (.ite (.trans .of_eq (.wr _ _)) .of_eq))

theorem State.slcCount_instant (s : State) (c : Option Int × Bool) : s.InstantKept (s.slcCount c) := .of_eq

theorem State.closingWatch_instant (s : State) (c : Option Int) : s.InstantKept (s.closingWatch c) := by
  cases c <;> exact .of_eq

theorem State.weldWatch_instant (s : State) : s.InstantKept s.weldWatch := .ite (s.raiseCause_instant _ _) (.refl s)

theorem State.prechargeInstant_instant (s : State) (c : Option Int) : s.InstantKept (s.prechargeInstant c) := by
  have hfail : ∀ u : State, s.InstantKept u → s.InstantKept (if 100 * pPcEmax u.safe.blockA < u.pcEnergy then u.noteClosing.failClosing 3 else u) :=
    fun u h => .ite ((h.trans (.wrs _ _)).trans (State.failClosing_instant _ _)) h
  refine .ite (.refl s) ?_
  cases c <;> exact hfail _ .of_eq

/-- The state with the current of the instant taken, before anything judges it. -/
def State.currentTaken (s : State) (c : Option Int × Bool) : State :=
  let quiet := match c.1 with | some v => decide (v.natAbs ≤ 1000 * pSvcMax s.safe.blockA) | none => false
  let s1 : State := { s with cim.fresh := false, cim.overRange := if c.1.isSome then none else some c.2
                             cim.last100 := (c.1 :: s.cim.last100).take 400
                             cim.svcQuiet := if quiet then s.cim.svcQuiet + 1 else 0 }
  s1.wr F.CIM_CURRENT_MA (match c.1 with | some v => satS 32 v | none => markS 32)

theorem State.takeCurrent_taken {s : State} (h : s.cim.fresh = true) : (s.currentTaken s.instantCurrent).InstantKept s.takeCurrent := by
  unfold State.takeCurrent
  rw [h]
  refine .trans (.trans (.trans (.trans (.trans (.trans ?_ (State.bankCurrent_instant _ _ _)) (State.slcWarn_instant _ _)) (State.slcCount_instant _ _))
    (State.closingWatch_instant _ _)) (State.weldWatch_instant _)) (State.prechargeInstant_instant _ _)
  generalize s.instantCurrent = c
  obtain ⟨i, b⟩ := c
  cases i <;> exact .of_eq

theorem State.takeCurrent_old {s : State} (h : s.cim.fresh = false) : s.takeCurrent = s := if_pos (by rw [h]; rfl)

/-- The current of the instant is taken once. -/
theorem State.takeCurrent_fresh (s : State) : s.takeCurrent.cim.fresh = false := by
  cases h : s.cim.fresh with
  | false => rw [State.takeCurrent_old h]; exact h
  | true =>
    obtain ⟨-, hfresh, -⟩ := State.of_view (State.takeCurrent_taken h).view
    exact hfresh

/-! ### A frame of a card (R93–R95) -/

/-- The copies of a frame counted, with the current taken. -/
def State.copiesCounted (s : State) (c : CopyRes × CopyRes) : State :=
  (s.takeCurrent.countCopy c.1 F.LATH_ERR_CNT_A_CORRECTED F.LATH_ERR_CNT_A_UNCORR_COPIES).countCopy c.2
    F.LATH_ERR_CNT_B_CORRECTED F.LATH_ERR_CNT_B_UNCORR_COPIES

/-- What a frame that was heard does. -/
def State.frameHeard (s : State) (k : Nat) (f : SampleFrame) (join : Nat) (r : CardRead) : State :=
  if s.segLive k then (s.frameTake k f).clearDemands
  else if s.segState k = segLOST ∧ join = 0 then s.rejoin k
  else if s.segState k = segJOINING then s.modSeg k fun x => x.blockTake s.frameIdx (s.cardFrame k r)
  else s

/-- What a frame that was not heard does. -/
def State.frameMissed (s : State) (k : Nat) (a b : Copy) (r : CardRead) : State :=
  if s.segState k = segJOINING then s.modSeg k fun x => x.blockTake s.frameIdx (s.cardFrame k r)
  else if a = .absent ∧ b = .absent then s
  else (s.raiseCause .safetyMemory 3).detail true [8, k] .integrity true

section
variable {s : State} {k : Nat} (hok : s.segOk k = true) (hpresent : (s.segOf k).present = true) (hblank : (s.segOf k).blank = false)
  (hcut : (s.segOf k).cut = false)
include hok hpresent hblank hcut

theorem frameReceived_heard {a b : Copy} {r : CardRead} {f : SampleFrame} (h : heard (s.copiesOf k a b r) = some f) :
    exec (.frameReceived k a b r) s = .next ((s.copiesCounted (s.copiesOf k a b r)).frameHeard k f (s.segOf k).join r) := by
  show execFrameReceived k a b r s = _
  unfold execFrameReceived
  rw [if_neg (by rw [hok, hpresent, hblank, hcut]; decide)]
  dsimp only
  rw [h]
  rfl

theorem frameReceived_missed {a b : Copy} {r : CardRead} (h : heard (s.copiesOf k a b r) = none) :
    exec (.frameReceived k a b r) s = .next ((s.copiesCounted (s.copiesOf k a b r)).frameMissed k a b r) := by
  show execFrameReceived k a b r s = _
  unfold execFrameReceived
  rw [if_neg (by rw [hok, hpresent, hblank, hcut]; decide)]
  dsimp only
  rw [h]
  rfl

end

theorem frameReceived_empty {s : State} {k : Nat} (h : (s.segOf k).present = false) (a b : Copy) (r : CardRead) :
    exec (.frameReceived k a b r) s = .next s := by
  show execFrameReceived k a b r s = _
  unfold execFrameReceived
  rw [if_pos (by rw [h]; simp)]

theorem State.countCopy_frame (s : State) (c : CopyRes) (corr bad : Field) :
    (s.countCopy c corr bad).cim = s.cim ∧ (s.countCopy c corr bad).seg = s.seg ∧ s.SameRegs (s.countCopy c corr bad) [corr.key, bad.key] := by
  unfold State.countCopy
  split
  · exact ⟨rfl, rfl, fun _ _ => rfl⟩
  · exact ⟨rfl, rfl, fun f hf => State.rd_wr_ne _ _ _ _ fun e => hf (by simp [e])⟩
  · exact ⟨rfl, rfl, fun f hf => State.rd_wr_ne _ _ _ _ fun e => hf (by simp [e])⟩

/-- The counters of copies stand apart from the cards. -/
theorem State.copiesCounted_frame (s : State) (c : CopyRes × CopyRes) : (s.copiesCounted c).cim = s.takeCurrent.cim ∧
    (s.copiesCounted c).seg = s.takeCurrent.seg ∧ (∀ k, (s.copiesCounted c).segState k = s.takeCurrent.segState k) := by
  obtain ⟨hcim, hseg, hregs⟩ := s.takeCurrent.countCopy_frame c.1 F.LATH_ERR_CNT_A_CORRECTED F.LATH_ERR_CNT_A_UNCORR_COPIES
  obtain ⟨hcim', hseg', hregs'⟩ := (s.takeCurrent.countCopy c.1 F.LATH_ERR_CNT_A_CORRECTED F.LATH_ERR_CNT_A_UNCORR_COPIES).countCopy_frame c.2
    F.LATH_ERR_CNT_B_CORRECTED F.LATH_ERR_CNT_B_UNCORR_COPIES
  refine ⟨hcim'.trans hcim, hseg'.trans hseg, fun k => (hregs' _ ?_).trans (hregs _ ?_)⟩ <;>
  · simp [Field.key, F.SEG_STATE_STATE, F.LATH_ERR_CNT_A_CORRECTED, F.LATH_ERR_CNT_A_UNCORR_COPIES, F.LATH_ERR_CNT_B_CORRECTED,
      F.LATH_ERR_CNT_B_UNCORR_COPIES]
    omega

end Sys2Proof.Machine
end

section
/-! PROOFS. Frames of an instant, and the averaging windows (R26, R94, R95, R148). -/

namespace Sys2Proof.Machine

-- One proof after another: a thread for each would not fit the memory of the check.
set_option Elab.async false

/-! ### What a frame moves of its card (R94, R95) -/

theorem Seg.blockTake_frame (x : Seg) (n : Nat) (f : SampleFrame) :
    (x.blockTake n f).frame = x.frame ∧ (x.blockTake n f).got = x.got ∧ (x.blockTake n f).ntc = x.ntc := by
  unfold Seg.blockTake
  extract_lets b
  split <;> exact ⟨rfl, rfl, rfl⟩

theorem Seg.dwellTake_frame (x : Seg) (n : Nat) (f : SampleFrame) :
    (x.dwellTake n f).frame = x.frame ∧ (x.dwellTake n f).got = x.got ∧ (x.dwellTake n f).ntc = x.ntc := by
  unfold Seg.dwellTake
  extract_lets c others y
  have hy : y.frame = x.frame ∧ y.got = x.got ∧ y.ntc = x.ntc := by
    unfold y
    split <;> exact ⟨rfl, rfl, rfl⟩
  split
  · exact ⟨rfl, rfl, rfl⟩
  · split
    · exact ⟨rfl, rfl, rfl⟩
    · split <;> exact hy

theorem State.setReady_gateTone_frame (s : State) : s.setReady.gateTone.seg = s.seg ∧ s.setReady.gateTone.view = s.view := by
  unfold State.gateTone
  split <;> exact ⟨rfl, rfl⟩

theorem State.frameTake_spec (s : State) (k : Nat) (f : SampleFrame) : (s.frameTake k f).view = s.view ∧
    ((s.frameTake k f).segOf k).frame = some f ∧ ((s.frameTake k f).segOf k).got = true ∧
    Tbl.get 0 ((s.frameTake k f).segOf k).ntc (f.seq % 8 + 1) = f.ntc := by
  unfold State.frameTake
  extract_lets n c s0 s1 hot s1' s2
  have hcard : (s2.segOf k).frame = some f ∧ (s2.segOf k).got = true ∧ Tbl.get 0 (s2.segOf k).ntc (f.seq % 8 + 1) = f.ntc := by
    have h0 : (s0.segOf k).frame = some f ∧ (s0.segOf k).got = true ∧ Tbl.get 0 (s0.segOf k).ntc (f.seq % 8 + 1) = f.ntc := by
      unfold s0
      rw [State.segOf_modSeg]
      obtain ⟨hframe, hgot, hntc⟩ := Seg.dwellTake_frame (Seg.blockTake { s.segOf k with
        frame := some f, got := true, ntc := Tbl.put (s.segOf k).ntc (f.seq % 8 + 1) f.ntc, selftest := (s.segOf k).selftest || f.selftest
        free := c.2.1, pulse := c.2.2 } n f) n f
      rw [hframe, hgot, hntc]
      obtain ⟨hframe, hgot, hntc⟩ := Seg.blockTake_frame { s.segOf k with
        frame := some f, got := true, ntc := Tbl.put (s.segOf k).ntc (f.seq % 8 + 1) f.ntc, selftest := (s.segOf k).selftest || f.selftest
        free := c.2.1, pulse := c.2.2 } n f
      rw [hframe, hgot, hntc]
      exact ⟨rfl, rfl, Tbl.get_put_same _ _ _ _⟩
    show (s1'.segOf k).frame = some f ∧ (s1'.segOf k).got = true ∧ Tbl.get 0 (s1'.segOf k).ntc (f.seq % 8 + 1) = f.ntc
    unfold s1' s1
    rw [State.segOf_modSeg, State.segOf_modSeg]
    exact h0
  have hview : s2.view = s.view := rfl
  split
  · obtain ⟨hseg, hend⟩ := s2.setReady_gateTone_frame
    have hsame : s2.setReady.gateTone.segOf k = s2.segOf k := by
      unfold State.segOf
      rw [hseg]
    rw [hsame]
    exact ⟨hend.trans hview, hcard⟩
  · exact ⟨hview, hcard⟩

theorem State.clearDemands_frame (s : State) : s.clearDemands.view = s.view ∧ s.clearDemands.seg = s.seg := by
  have hsvw : ∀ u : State, u = s ∨ u = s.wr F.SAFE_STATUS_SVW_DEMAND 0 → u.view = s.view ∧ u.seg = s.seg := by
    rintro u (rfl | rfl) <;> exact ⟨rfl, rfl⟩
  unfold State.clearDemands
  extract_lets s1 l c hot cold _ s2 s3
  have h1 : s1.view = s.view ∧ s1.seg = s.seg := hsvw s1 (by unfold s1; split; exacts [.inr rfl, .inl rfl])
  have h3 : s3.view = s1.view ∧ s3.seg = s1.seg := by
    unfold s3
    split <;> exact ⟨rfl, rfl⟩
  have hend : ∀ u : State, u.mirrorInputs.setReady.view = u.view ∧ u.mirrorInputs.setReady.seg = u.seg := fun _ => ⟨rfl, rfl⟩
  split
  · exact ⟨rfl, rfl⟩
  · split
    · exact ⟨(hend s3).1.trans (h3.1.trans h1.1), (hend s3).2.trans (h3.2.trans h1.2)⟩
    · exact h1

/-! ### The frames of an instant -/

theorem State.frameHeard_view (s : State) (k : Nat) (f : SampleFrame) (join : Nat) (r : CardRead) : (s.frameHeard k f join r).view = s.view := by
  unfold State.frameHeard
  split
  · exact (State.clearDemands_frame _).1.trans (s.frameTake_spec k f).1
  · split
    · rfl
    · split <;> rfl

theorem State.frameMissed_view (s : State) (k : Nat) (a b : Copy) (r : CardRead) : (s.frameMissed k a b r).view = s.view := by
  unfold State.frameMissed
  split
  · rfl
  · split
    · rfl
    · exact ((s.raiseCause_instant _ _).trans (State.post_instant _ _)).view

theorem State.copiesCounted_fresh (s : State) (c : CopyRes × CopyRes) : (s.copiesCounted c).cim.fresh = false :=
  (congrArg CimState.fresh (s.copiesCounted_frame c).1).trans s.takeCurrent_fresh

section
variable {s : State} {k : Nat} (hok : s.segOk k = true) (hpresent : (s.segOf k).present = true) (hblank : (s.segOf k).blank = false)
  (hcut : (s.segOf k).cut = false)
include hok hpresent hblank hcut

/-- The current of the instant is taken with its first frame. -/
theorem frameReceived_takes (a b : Copy) (r : CardRead) : ∃ t, exec (.frameReceived k a b r) s = .next t ∧ t.cim.fresh = false := by
  have hview : ∀ u : State, u.view = (s.copiesCounted (s.copiesOf k a b r)).view → u.cim.fresh = false := fun u h =>
    (State.of_view h).2.1.trans (s.copiesCounted_fresh _)
  cases h : heard (s.copiesOf k a b r) with
  | some f => exact ⟨_, frameReceived_heard hok hpresent hblank hcut h, hview _ (State.frameHeard_view _ _ _ _ _)⟩
  | none => exact ⟨_, frameReceived_missed hok hpresent hblank hcut h, hview _ (State.frameMissed_view _ _ _ _ _)⟩

/-- A frame heard on either direction is a live card's latest. -/
theorem frameReceived_latest (a b : Copy) (r : CardRead) (f : SampleFrame) (hfresh : s.cim.fresh = false) (hlive : s.segLive k = true)
    (h : heard (s.copiesOf k a b r) = some f) : ∃ t, exec (.frameReceived k a b r) s = .next t ∧ (t.segOf k).frame = some f ∧ (t.segOf k).got = true ∧
      Tbl.get 0 (t.segOf k).ntc (f.seq % 8 + 1) = f.ntc := by
  let u : State := s.copiesCounted (s.copiesOf k a b r)
  obtain ⟨-, -, hstate⟩ := s.copiesCounted_frame (s.copiesOf k a b r)
  have hlive' : u.segLive k = true := by
    rw [← hlive]
    unfold State.segLive
    rw [hstate k, State.takeCurrent_old hfresh]
  obtain ⟨-, hframe, hgot, hntc⟩ := u.frameTake_spec k f
  have heq : u.frameHeard k f (s.segOf k).join r = (u.frameTake k f).clearDemands := if_pos hlive'
  have hsame : (u.frameTake k f).clearDemands.segOf k = (u.frameTake k f).segOf k := by
    unfold State.segOf
    rw [(State.clearDemands_frame _).2]
  refine ⟨_, frameReceived_heard hok hpresent hblank hcut h, ?_⟩
  rw [heq, hsame]
  exact ⟨hframe, hgot, hntc⟩

theorem frameReceived_bad {a b : Copy} (r : CardRead) (hfresh : s.cim.fresh = false) (hstate : s.segState k ≠ segJOINING)
    (h : s.copiesOf k a b r = (.bad, .bad)) :
    exec (.frameReceived k a b r) s = .next ((((s.wr F.LATH_ERR_CNT_A_UNCORR_COPIES (s.rd F.LATH_ERR_CNT_A_UNCORR_COPIES + 1)).wr
      F.LATH_ERR_CNT_B_UNCORR_COPIES (s.rd F.LATH_ERR_CNT_B_UNCORR_COPIES + 1)).raiseCause .safetyMemory 3).detail true [8, k] .integrity true) := by
  have hcounted : s.copiesCounted (.bad, .bad) = (s.wr F.LATH_ERR_CNT_A_UNCORR_COPIES (s.rd F.LATH_ERR_CNT_A_UNCORR_COPIES + 1)).wr
      F.LATH_ERR_CNT_B_UNCORR_COPIES (s.rd F.LATH_ERR_CNT_B_UNCORR_COPIES + 1) := by
    unfold State.copiesCounted
    rw [State.takeCurrent_old hfresh, ← State.rd_wr_ne s F.LATH_ERR_CNT_A_UNCORR_COPIES F.LATH_ERR_CNT_B_UNCORR_COPIES
      (s.rd F.LATH_ERR_CNT_A_UNCORR_COPIES + 1) (by decide)]
    rfl
  obtain ⟨-, -, hsame⟩ := s.copiesCounted_frame (.bad, .bad)
  have habsent : ¬(a = .absent ∧ b = .absent) := by
    rintro ⟨rfl, -⟩
    cases (congrArg Prod.fst h : CopyRes.absent = CopyRes.bad)
  rw [frameReceived_missed hok hpresent hblank hcut (by rw [h]; rfl), h]
  unfold State.frameMissed
  rw [if_neg (by rw [hsame k, State.takeCurrent_old hfresh]; exact hstate), if_neg habsent, hcounted]

theorem frameReceived_absent (r : CardRead) (hfresh : s.cim.fresh = false) (hstate : s.segState k ≠ segJOINING) :
    exec (.frameReceived k .absent .absent r) s = .next s := by
  have hcounted : s.copiesCounted (s.copiesOf k .absent .absent r) = s := State.takeCurrent_old hfresh
  rw [frameReceived_missed hok hpresent hblank hcut (by rfl), hcounted]
  unfold State.frameMissed
  rw [if_neg hstate, if_pos ⟨rfl, rfl⟩]

end

/-! ### The averaging windows (R26, R148) -/

theorem Avg.close_missing (a : Avg) {due : Nat} (h : 2 * a.n < due ∨ a.n = 0) : (a.close due).mean = none ∧ (a.close due).quality = 4 := by
  have hmiss : (decide (2 * a.n < due) || a.n == 0) = true := by simpa using h
  unfold Avg.close
  simp only [hmiss, if_true]
  exact ⟨trivial, trivial⟩

theorem Avg.close_clean (a : Avg) {due : Nat} (h : due ≤ 2 * a.n) (hn : 0 < a.n) (haff : a.affected = false) :
    (a.close due).mean = some (a.raw / a.n) ∧ (a.close due).quality = a.worst := by
  have hmiss : (decide (2 * a.n < due) || a.n == 0) = false := by
    simp
    omega
  unfold Avg.close
  simp only [hmiss, haff]
  exact ⟨rfl, rfl⟩

/-- A change of every card in a list that names none twice is the change of each, once. -/
theorem State.foldl_modSeg (g : Seg → Seg) {k : Nat} (l : List Nat) (hl : l.Nodup) (s : State) :
    (l.foldl (fun s q => s.modSeg q g) s).segOf k = if k ∈ l then g (s.segOf k) else s.segOf k := by
  induction l generalizing s with
  | nil => simp
  | cons q l ih =>
    obtain ⟨hq, hl⟩ := List.nodup_cons.1 hl
    rw [List.foldl_cons, ih hl]
    rcases eq_or_ne k q with rfl | hne
    · rw [if_neg hq, if_pos List.mem_cons_self, State.segOf_modSeg]
    · have hother : (s.modSeg q g).segOf k = s.segOf k := State.segOf_setSeg_ne _ _ _ _ hne
      rw [hother]
      simp [hne]

theorem numbersFrom_nodup (a n : Nat) : (numbersFrom a n).Nodup := by
  induction n generalizing a with
  | zero => exact List.nodup_nil
  | succ n ih =>
    rw [numbersFrom, List.nodup_cons, mem_numbersFrom]
    exact ⟨by omega, ih _⟩

theorem Tbl.get_map_key {α : Type} (d : α) (v : Nat → α) {l : List Nat} {k : Nat} (hk : k ∈ l) : Tbl.get d (l.map fun j => (j, v j)) k = v k := by
  induction l with
  | nil => cases hk
  | cons j l ih =>
    rw [List.map_cons, Tbl.get]
    split
    · next h => rw [h]
    · next h => exact ih ((List.mem_cons.1 hk).resolve_left (Ne.symm h))

/-- The means of a card closed with `due` results due. -/
def Seg.closeMeans (due : Nat) (x : Seg) : Seg :=
  { x with avg := (numbersFrom 1 18).map fun j => (j, (Tbl.get ({} : Avg) x.avg j).close due) }

theorem Seg.closeMeans_get (due : Nat) (x : Seg) {j : Nat} (h1 : 1 ≤ j) (h18 : j ≤ 18) :
    Tbl.get {} (x.closeMeans due).avg j = (Tbl.get ({} : Avg) x.avg j).close due := by
  have havg : (x.closeMeans due).avg = (numbersFrom 1 18).map fun j => (j, (Tbl.get ({} : Avg) x.avg j).close due) := rfl
  rw [havg, Tbl.get_map_key _ _ ((mem_numbersFrom 1 18 j).2 (by omega))]

/-- Every mean of every card closed. -/
def State.meansClosed (s : State) : State := s.segList.foldl (fun u k => u.modSeg k (Seg.closeMeans s.seg.due)) s

/-- The window that ends, and the next with the present length. -/
def State.windowEnded (s : State) : State :=
  let first := s.plumbIdx - s.filtLag + 1
  let big := s.rd F.SEG_AVG_CFG_N_M1 + 1
  { s.meansClosed with
    seg.lastStart := s.seg.winStart, seg.lastLen := first - s.seg.winStart
    seg.lastPartial := s.seg.partialWin || first - s.seg.winStart != s.seg.winLen
    seg.due := 0, seg.winStart := first, seg.winLen := big, seg.partialWin := first % big != 0 }

theorem exec_averagingWindowEnd (s : State) : exec .averagingWindowEnd s = .next s.windowEnded := rfl

theorem State.windowEnded_avg (s : State) {k j : Nat} (hk : s.segOk k = true) (h1 : 1 ≤ j) (h18 : j ≤ 18) :
    Tbl.get {} (s.windowEnded.segOf k).avg j = (Tbl.get ({} : Avg) (s.segOf k).avg j).close s.seg.due := by
  have hsegs : s.windowEnded.segOf k = s.meansClosed.segOf k := rfl
  rw [hsegs, State.meansClosed, State.foldl_modSeg _ s.segList (numbersFrom_nodup _ _), if_pos ((s.mem_segList k).2 hk)]
  exact Seg.closeMeans_get _ _ h1 h18

theorem averagingWindowEnd_closes (s : State) : ∃ t, exec .averagingWindowEnd s = .next t ∧ t.seg.lastStart = s.seg.winStart ∧
    t.seg.lastLen = s.plumbIdx - s.filtLag + 1 - s.seg.winStart ∧ t.seg.lastPartial = (s.seg.partialWin || t.seg.lastLen != s.seg.winLen) ∧
    t.seg.due = 0 ∧ t.seg.winStart = s.plumbIdx - s.filtLag + 1 ∧ t.seg.winLen = s.rd F.SEG_AVG_CFG_N_M1 + 1 ∧
    t.seg.partialWin = ((s.plumbIdx - s.filtLag + 1) % (s.rd F.SEG_AVG_CFG_N_M1 + 1) != 0) ∧
    (∀ k j, s.segOk k = true → 1 ≤ j → j ≤ 18 → Tbl.get {} (t.segOf k).avg j = (Tbl.get ({} : Avg) (s.segOf k).avg j).close s.seg.due) :=
  ⟨s.windowEnded, exec_averagingWindowEnd s, rfl, rfl, rfl, rfl, rfl, rfl, rfl, fun _ _ hk h1 h18 => s.windowEnded_avg hk h1 h18⟩

end Sys2Proof.Machine
end

section
/-! PROOFS. The intake of an instant, and the instant's users as a whole (R14, R26, R73, R93). -/

namespace Sys2Proof.Machine

-- One proof after another: a thread for each would not fit the memory of the check.
set_option Elab.async false

/-! ### The intake (R26, R93) -/

/-- What every step of a fold keeps, the fold keeps. -/
theorem State.foldl_keeps {α β : Type} (g : State → α) (f : State → β → State) (h : ∀ s b, g (f s b) = g s) (l : List β) (s : State) :
    g (l.foldl f s) = g s := by
  induction l generalizing s with
  | nil => rfl
  | cons b l ih => exact (ih _).trans (h s b)

/-- The cards' own state, the power and its state, on which the intake depends. -/
def State.intakeView (s : State) : SegState × PwrState × Nat := (s.seg, s.pwr, s.rd F.PWR_STATE_STATE)

theorem State.cutoff_intakeView (s : State) (k j : Nat) : (s.cutoff k j).intakeView = s.intakeView := by
  have hflag := (s.setBal k { s.balCard k with guard := (s.balCard k).guard ||| 2 ^ (j - 1) }).flag_noted Fl.BAL_EVENT_CUTOFF
    { idx := k, stfP := true, detail := [j] }
  have hseg : (s.cutoff k j).seg = s.seg := hflag.seg
  have hpwr : (s.cutoff k j).pwr = s.pwr := hflag.pwr
  have hstate : (s.cutoff k j).rd F.PWR_STATE_STATE = s.rd F.PWR_STATE_STATE := hflag.regs _ (by decide)
  unfold State.intakeView
  rw [hseg, hpwr, hstate]

theorem State.guardCard_intakeView (s : State) (k : Nat) : (s.guardCard k).intakeView = s.intakeView := by
  unfold State.guardCard
  split
  · rfl
  · refine State.foldl_keeps State.intakeView _ (fun u j => ?_) _ s
    split
    · exact u.cutoff_intakeView k j
    · rfl

theorem State.intakeDue_congr {s t : State} (h : t.intakeView = s.intakeView) (n : Nat) : t.intakeDue n = s.intakeDue n := by
  have hpwr : t.pwr = s.pwr := congrArg (·.2.1) h
  have hstate : t.rd F.PWR_STATE_STATE = s.rd F.PWR_STATE_STATE := congrArg (·.2.2) h
  unfold State.intakeDue
  rw [hpwr, hstate]

theorem State.rwAccept_seg (s : State) (k w : Nat) (e : Rat) : (s.rwAccept k w e).seg = s.seg := by
  have hflag : ∀ (u : State) n, (u.flag Fl.BAL_EVENT_RW_LIMIT n).seg = u.seg := fun u n => (u.flag_noted _ _).seg
  unfold State.rwAccept
  extract_lets r lim before r1 m far _ s1 v s2
  have h1 : s1.seg = s.seg := rfl
  have h2 : s2.seg = s.seg := by
    unfold s2
    split <;> exact h1
  split
  · rfl
  · split
    · exact (hflag _ _).trans h2
    · exact h2

theorem State.learnStep_seg (s : State) (k j : Nat) (c0 c2 c4 : Step) : (s.learnStep k j c0 c2 c4).seg = s.seg := by
  unfold State.learnStep
  extract_lets d est
  split
  · rfl
  · split
    · rfl
    · extract_lets i s1 s2 known s3
      have hest : ∀ (u : State) w x, (est u w x).seg = u.seg := fun u w x => by
        unfold est
        split
        · exact u.rwAccept_seg _ _ _
        · rfl
      have h1 : s1.seg = s.seg := by
        unfold s1
        split
        · exact hest _ _ _
        · rfl
      have h2 : s2.seg = s.seg := by
        unfold s2
        split
        · exact (hest _ _ _).trans h1
        · exact h1
      have h3 : s3.seg = s.seg := by
        unfold s3
        split
        · exact (hest _ _ _).trans h2
        · exact h2
      split
      · exact (hest _ _ _).trans h3
      · exact h3

theorem State.learnCard_seg (s : State) (k n : Nat) (i : Option Int) : (s.learnCard k n i).seg = s.seg := by
  unfold State.learnCard
  split
  · next f _ _ =>
    extract_lets t b h s1 find run
    have h1 : s1.seg = s.seg := rfl
    have hrun : ∀ (u : State) span mid j, (run u span mid j).seg = u.seg := fun u span mid j => by
      unfold run
      split
      · dsimp only
        split
        · exact u.learnStep_seg _ _ _ _ _
        · rfl
      · rfl
    split
    · split
      · exact (hrun _ _ _ _).trans h1
      · exact h1
    · split
      · exact (State.foldl_keeps State.seg _ (fun u j => hrun u 4 2 j) _ s1).trans h1
      · exact h1
  · rfl

/-- The number of instants due in the window. -/
def State.dueCount (s : State) : Nat := s.seg.due

theorem State.ntcTake_due (s : State) (k : Nat) : (s.ntcTake k).dueCount = s.dueCount := by
  unfold State.ntcTake
  split <;> rfl

theorem State.avgCard_due (s : State) (k n : Nat) : (s.avgCard k n).dueCount = s.dueCount := by
  unfold State.avgCard
  split <;> rfl

theorem State.bledCard_due (s : State) (k : Nat) : (s.bledCard k).dueCount = s.dueCount := by
  unfold State.bledCard
  split
  · split
    · rfl
    · refine State.foldl_keeps State.dueCount _ (fun u j => ?_) _ s
      dsimp only
      split <;> rfl
  · rfl

/-- The intake at one card: its temperatures, means, bled charge and learning (R93). -/
def State.cardIntake (s : State) (n : Nat) (i : Option Int) (k : Nat) : State := (((s.ntcTake k).avgCard k n).bledCard k).learnCard k n i

theorem State.cardIntake_due (s : State) (n : Nat) (i : Option Int) (k : Nat) : (s.cardIntake n i k).dueCount = s.dueCount :=
  (congrArg SegState.due (State.learnCard_seg _ _ _ _)).trans ((State.bledCard_due _ _).trans ((State.avgCard_due _ _ _).trans (s.ntcTake_due k)))

/-- A card's own results of the instant. -/
def State.cardResults (s : State) (k : Nat) : State := s.modSeg k fun x => { x with taken := (s.cardTake k).map fun r => (r.1.getD 0, r.2) }

/-- What the signal engine and the cards hold when the intake ends. -/
def State.takenView (s : State) : SegState × List Intake := (s.seg, s.se.hist)

theorem State.of_takenView {s t : State} (h : t.takenView = s.takenView) : t.seg = s.seg ∧ t.se.hist = s.se.hist := Prod.mk.inj h

theorem State.corrTake_takenView (s : State) (n : Nat) (t : Intake) : (s.corrTake n t).takenView = s.takenView := by
  unfold State.corrTake
  split <;> rfl

theorem State.finish_takenView (s : State) (op key : Nat) (st : Status) : (s.finish op key st).takenView = s.takenView := by
  obtain ⟨hrest, -, -⟩ := s.finish_frame op key st []
  unfold State.SameRest at hrest
  unfold State.takenView
  rw [hrest]

theorem State.learnDone_takenView (s : State) : s.learnDone.takenView = s.takenView := by
  unfold State.learnDone
  extract_lets whole s1
  refine (State.foldl_keeps State.takenView _ (fun u o => ?_) _ s : s1.takenView = s.takenView)
  split
  · exact u.finish_takenView _ _ _
  · rfl

/-! ### The intake as a whole -/

/-- The cards of an instant taken in. -/
def State.cardsTaken (s : State) (n : Nat) (i : Option Int) : State := s.segList.foldl (State.cardIntake · n i ·) s

/-- The cards of an instant with their own results. -/
def State.cardsDone (s : State) (n : Nat) (i : Option Int) : State := (s.cardsTaken n i).segList.foldl State.cardResults (s.cardsTaken n i)

theorem State.cardsDone_due (s : State) (n : Nat) (i : Option Int) : (s.cardsDone n i).dueCount = s.dueCount :=
  (State.foldl_keeps State.dueCount State.cardResults (fun _ _ => rfl) _ _).trans
    (State.foldl_keeps State.dueCount (State.cardIntake · n i ·) (fun u k => u.cardIntake_due n i k) s.segList s)

/-- The SE's record of the instant in front of the others, and the window open. -/
def State.recordTaken (s : State) (n : Nat) (t : Intake) : State :=
  { s.openWin n with seg.due := s.seg.due + 1, se.hist := (t :: s.se.hist).take 4096 }

/-- What an instant's intake leaves, once the guards have judged it. -/
def State.intakeEnd (s : State) (n : Nat) (i : Option Int) : State :=
  (((s.cardsDone n i).recordTaken n ((s.cardsDone n i).intakeRec n i)).corrTake n ((s.cardsDone n i).intakeRec n i)).learnDone

/-- The state after the guards of balancing have judged the instant. -/
def State.guarded (s : State) : State := s.segList.foldl State.guardCard s.takeCurrent

theorem exec_frameIntake {s : State} (h : s.filtLag ≤ s.plumbIdx) (hdue : s.guarded.intakeDue (s.plumbIdx - s.filtLag) = true) :
    exec .frameIntake s = .next (s.guarded.intakeEnd (s.plumbIdx - s.filtLag) s.guarded.instantCurrent.1) := by
  have hnot : ¬(!s.guarded.intakeDue (s.plumbIdx - s.filtLag)) = true := by rw [hdue]; decide
  show execFrameIntake s = _
  unfold execFrameIntake
  rw [if_neg (by omega)]
  extract_lets n s1 i s2 s3 t _ _ _ s4
  refine congrArg Host.Outcome.next ((if_neg hnot).trans ?_)
  have h3 : s3 = s1.cardsDone n i := rfl
  -- The results of the cards are a name from here on: nothing of the window hangs on how they came about.
  clear_value s3
  have h4 : s4 = s3.recordTaken n t := rfl
  rw [h4]
  subst h3
  rfl

theorem frameIntake_early {s : State} (h : s.plumbIdx < s.filtLag) : exec .frameIntake s = .next s := by
  show execFrameIntake s = _
  unfold execFrameIntake
  rw [if_pos h]

theorem State.recordTaken_spec (s : State) (n : Nat) (t : Intake) : (s.recordTaken n t).seg.due = s.seg.due + 1 ∧
    (s.recordTaken n t).seg.winOn = true ∧ (s.recordTaken n t).se.hist.head? = some t := by
  refine ⟨rfl, ?_, rfl⟩
  show (s.openWin n).seg.winOn = true
  unfold State.openWin
  split
  · next hon => exact hon
  · rfl

theorem State.intakeEnd_spec (s : State) (n : Nat) (i : Option Int) : (s.intakeEnd n i).seg.due = s.seg.due + 1 ∧
    (s.intakeEnd n i).seg.winOn = true ∧ (s.intakeEnd n i).se.hist.head?.map (·.idx) = some n := by
  obtain ⟨hcount, hopen, hhist⟩ := (s.cardsDone n i).recordTaken_spec n ((s.cardsDone n i).intakeRec n i)
  have hend : (s.intakeEnd n i).takenView = ((s.cardsDone n i).recordTaken n ((s.cardsDone n i).intakeRec n i)).takenView :=
    (State.learnDone_takenView _).trans (State.corrTake_takenView _ _ _)
  obtain ⟨hseg, hlist⟩ := State.of_takenView hend
  have hdue : (s.cardsDone n i).seg.due = s.seg.due := s.cardsDone_due n i
  rw [hseg, hlist, hcount, hopen, hhist, hdue]
  exact ⟨rfl, rfl, rfl⟩

theorem frameIntake_takes (s : State) (h : s.filtLag ≤ s.plumbIdx) (hfresh : s.cim.fresh = false) (hdue : s.intakeDue (s.plumbIdx - s.filtLag) = true) :
    ∃ t, exec .frameIntake s = .next t ∧ t.seg.due = s.seg.due + 1 ∧ t.seg.winOn = true ∧
      t.se.hist.head?.map (·.idx) = some (s.plumbIdx - s.filtLag) := by
  have hguard : s.guarded.intakeView = s.intakeView := by
    unfold State.guarded
    rw [State.takeCurrent_old hfresh]
    exact State.foldl_keeps State.intakeView _ (fun v k => v.guardCard_intakeView k) _ s
  have hseg : s.guarded.seg = s.seg := congrArg Prod.fst hguard
  have hspec := s.guarded.intakeEnd_spec (s.plumbIdx - s.filtLag) s.guarded.instantCurrent.1
  rw [hseg] at hspec
  exact ⟨_, exec_frameIntake h ((State.intakeDue_congr hguard _).trans hdue), hspec⟩

/-- Settles O20: each clause is the rule of one step from the instant to the windows. -/
theorem instantsReachEveryUser : Obligations.InstantsReachEveryUser := by
  unfold Obligations.InstantsReachEveryUser
  refine ⟨plumbInstant_passes, fun s k a b r hok hpresent hblank hcut => ⟨frameReceived_takes hok hpresent hblank hcut a b r,
      fun f hfresh hlive hf => frameReceived_latest hok hpresent hblank hcut a b r f hfresh hlive hf,
      fun hfresh hstate hbad => frameReceived_bad hok hpresent hblank hcut r hfresh hstate hbad,
      fun hfresh hstate => frameReceived_absent hok hpresent hblank hcut r hfresh hstate⟩,
    fun s k a b r h => frameReceived_empty h a b r, fun s h => frameIntake_early h, frameIntake_takes, averagingWindowEnd_closes,
    fun a due => ⟨fun h => a.close_missing h, fun h hn haff => a.close_clean h hn haff⟩⟩

end Sys2Proof.Machine
end

section
/-! PROOFS. What a change of mode leaves alone (R39–R45, R52, R313): a frame over registers and a view of the state, kept by all that a new
mode stops and starts. -/

namespace Sys2Proof.Machine

-- One proof after another: a thread for each would not fit the memory of the check.
set_option Elab.async false

/-! ### A frame over registers and a view -/

/-- `t` comes from `s` with every register in `P`, and the view `v` of the state, as they were. -/
structure State.Stands {α : Type} (P : Nat → Bool) (v : State → α) (s t : State) : Prop where
  regs : ∀ f : Field, P f.key = true → t.rd f = s.rd f
  view : v t = v s

namespace State.Stands

variable {α β : Type} {P : Nat → Bool} {v : State → α} {s t u : State}

theorem refl (s : State) : Stands P v s s := ⟨fun _ _ => rfl, rfl⟩

theorem trans (h : Stands P v s t) (k : Stands P v t u) : Stands P v s u :=
  ⟨fun f hf => (k.regs f hf).trans (h.regs f hf), k.view.trans h.view⟩

/-- Fewer registers and less of the state stand as well. -/
theorem mono {Q : Nat → Bool} {w : State → β} (h : Stands P v s t) (hQ : ∀ q, Q q = true → P q = true) (g : α → β)
    (hw : ∀ s, w s = g (v s) := by intro; rfl) : Stands Q w s t :=
  ⟨fun f hf => h.regs f (hQ _ hf), by rw [hw, hw, h.view]⟩

/-- A step that touches neither registers nor the view. -/
theorem of_eq (hr : t.regs = s.regs := by rfl) (hv : v t = v s := by rfl) : Stands P v s t :=
  ⟨fun f _ => (by unfold State.rd; rw [hr]), hv⟩

theorem ite {c : Prop} [Decidable c] (ht : Stands P v s t) (hu : Stands P v s u) : Stands P v s (if c then t else u) := by
  split
  · exact ht
  · exact hu

theorem foldl {γ : Type} (f : State → γ → State) (l : List γ) (h : ∀ s, ∀ b ∈ l, Stands P v s (f s b)) (s : State) :
    Stands P v s (l.foldl f s) := by
  induction l generalizing s with
  | nil => exact refl s
  | cons b l ih => exact (h s b List.mem_cons_self).trans (ih (fun s c hc => h s c (List.mem_cons_of_mem b hc)) _)

theorem wr (s : State) {f : Field} (n : Nat) (hf : P f.key = false := by decide)
    (hv : ∀ (s : State) f n, v (s.wr f n) = v s := by intros; rfl) : Stands P v s (s.wr f n) :=
  ⟨fun g hg => State.rd_wr_ne s f g n fun e => (by rw [e, hf] at hg; cases hg), hv s f n⟩

theorem wrB (s : State) {f : Field} (b : Bool) (hf : P f.key = false := by decide)
    (hv : ∀ (s : State) f n, v (s.wr f n) = v s := by intros; rfl) : Stands P v s (s.wrB f b) := wr s _ hf hv

/-- Writes to registers outside `P`, as a check that evaluates. -/
theorem wrs (s : State) (l : List (Field × Nat))
    (hl : (l.all fun p => !P p.1.key) = true := by simp only [List.all_cons, List.all_nil]; decide)
    (hv : ∀ (s : State) f n, v (s.wr f n) = v s := by intros; rfl) : Stands P v s (s.wrs l) := by
  induction l generalizing s with
  | nil => exact refl s
  | cons p l ih =>
    rw [List.all_cons, Bool.and_eq_true, Bool.not_eq_true'] at hl
    exact (wr s p.2 hl.1 hv).trans (ih _ hl.2)

theorem of_quiet (q : s.Quiet t) (hP : ∀ k ∈ answerKeys, P k = false := by decide)
    (hv : ∀ r e x, v { s with regs := r, recorder := e, hrt := x } = v s := by intros; rfl) : Stands P v s t := by
  refine ⟨fun f hf => q.regs f fun hm => (by rw [hP _ hm] at hf; cases hf), ?_⟩
  have hrest : t = { s with regs := t.regs, recorder := t.recorder, hrt := t.hrt } := q.rest
  rw [hrest]
  exact hv ..

end State.Stands

/-! ### The frame of a change of mode -/

/-- The registers that what a mode stops and starts leaves alone: SYS_MODE, PWR_RESET_CAUSE, SE_THROTTLE and those of the safety card. -/
def standKey (q : Nat) : Bool :=
  q / 32 == 0x10 || q / 32 == 0x10030 || q / 32 == 0x70014 || (decide (0x90000 * 32 ≤ q) && decide (q < 0x9003C * 32))

/-- What it leaves alone beside registers: the safety card's state, power's, and how far a thermal shutdown has come. -/
def State.heldView (s : State) : SafeState × PwrState × Bool × Bool := (s.safe, s.pwr, s.thm.shutting, s.thm.heldOff)

/-- `t` comes from `s` by what a mode stops and starts. -/
abbrev State.ModeKept (s t : State) : Prop := State.Stands standKey State.heldView s t

theorem standKey_of_addr {f : Field} (h : 0x9003C ≤ f.addr) : standKey f.key = false := by
  rw [Bool.eq_false_iff]
  intro hk
  simp only [standKey, Bool.or_eq_true, Bool.and_eq_true, decide_eq_true_eq, beq_iff_eq] at hk
  simp only [Field.key] at hk
  omega

/-- Writes to registers beyond those of the safety card. -/
theorem State.Stands.wrs_beyond (s : State) (l : List (Field × Nat)) (hl : ∀ p ∈ l, 0x9003C ≤ p.1.addr) : s.ModeKept (s.wrs l) :=
  .wrs s l (List.all_eq_true.2 fun p hp => by rw [standKey_of_addr (hl p hp)]; rfl)

/-! ### Records, flags and completions -/

theorem State.post_modeKept (s : State) (r : Rec) : s.ModeKept (s.post r) := .of_quiet (s.quiet_post r)

theorem State.flag_modeKept (s : State) (fl : Flag) (n : Note) (hb : standKey fl.bit.key = false := by decide)
    (hc : standKey fl.cnt.key = false := by decide) : s.ModeKept (s.flag fl n) :=
  (((State.Stands.wr s 1 hb).trans (.wr _ _ hc)).trans (State.post_modeKept _ _)).trans .of_eq

theorem State.finish_modeKept (s : State) (op key : Nat) (st : Status) (res : List Int) : s.ModeKept (s.finish op key st res) := by
  unfold State.finish
  split
  · exact .refl s
  · exact .trans .of_eq (.of_quiet (State.quiet_complete _ _ _ _ _ _ _))

/-! ### Insulation monitor and power -/

theorem State.isoRole_modeKept (s : State) : s.ModeKept s.isoRole :=
  .trans (t := if !s.isoMay then _ else _) (.ite .of_eq (.ite (.refl s) .of_eq)) (.wr _ _)

theorem State.isoReport_modeKept (s : State) : s.ModeKept s.isoReport := by
  unfold State.isoReport
  split
  · exact .ite (.wrs s _) (.wrs s _)
  · exact .wrs s _

theorem State.isoString_modeKept (s : State) : s.ModeKept s.isoString := by
  refine .ite (.trans .of_eq (State.isoRole_modeKept _)) (.trans ?_ (State.isoRole_modeKept _))
  have h : s.ModeKept (({ s with cim.candidate := false } : State).wr F.CIM_ISO_STATUS_ROLE 2) := .trans .of_eq (.wr _ _)
  exact .ite h (h.trans (State.isoReport_modeKept _))

theorem State.motSave_modeKept (s : State) : s.ModeKept s.motSave := .foldl _ _ (fun _ _ _ => .of_eq) s

theorem State.setFloor_modeKept (s : State) : s.ModeKept s.setFloor := .wr s _

/-- A power state other than P4 leaves the domain faults as they are. -/
theorem State.enterPower_modeKept (s : State) {p : Nat} (hp : p ≠ 4) : s.ModeKept (s.enterPower p) := by
  unfold State.enterPower
  extract_lets on off s0 s1
  rw [if_neg hp]
  have h0 : s.ModeKept s0 := .ite s.motSave_modeKept (.refl s)
  exact ((h0.trans (.wr _ _)).trans (.wr _ _)).trans (State.isoRole_modeKept _)

/-! ### Balancing -/

theorem State.allPathsOff_modeKept (s : State) : s.ModeKept s.allPathsOff := .foldl _ _ (fun _ _ _ => .of_eq) s

theorem State.zeroDuties_modeKept (s : State) : s.ModeKept s.zeroDuties := .trans .of_eq (.foldl _ _ (fun _ _ _ => .of_eq) _)

theorem State.endCampaign_modeKept (s : State) (st : Status) : s.ModeKept (s.endCampaign st) := by
  unfold State.endCampaign
  split
  · exact .refl s
  · have h : s.ModeKept { s.zeroDuties with bal.campaign := none } := s.zeroDuties_modeKept.trans .of_eq
    exact (((h.trans (.wrs _ _)).trans (State.flag_modeKept _ _ _)).trans (State.finish_modeKept _ _ _ _ _)).trans (State.setFloor_modeKept _)

theorem State.autoCampaign_modeKept (s : State) : s.ModeKept s.autoCampaign :=
  .ite (.trans (.trans .of_eq (.wrs _ _)) (State.setFloor_modeKept _)) (.refl s)

/-! ### Dispatch -/

theorem State.setPend_modeKept (s : State) (c n : Nat) (on : Bool) : s.ModeKept (s.setPend c n on) := by
  refine .trans (.wrB s on (standKey_of_addr ?_)) (.wr _ _ (standKey_of_addr ?_))
  · show 0x9003C ≤ 0xc1000 + 32768 * c + 128 * n; omega
  · split
    · show 0x9003C ≤ 0xc0044 + 32768 * c; omega
    · show 0x9003C ≤ 0xc0048 + 32768 * c; omega

theorem State.canTxEnd_modeKept (s : State) (c n : Nat) (st : Status) : s.ModeKept (s.canTxEnd c n st) := by
  refine .trans (.trans ((s.setPend_modeKept c n false).trans (.wrs_beyond _ _ ?_)) .of_eq) (State.finish_modeKept _ _ _ _ _)
  simp [F.CAN_MB_CTRL_STATUS, F.CAN_MB_CTRL_REQ, F.CAN_MB_CTRL_CANCEL, F.CAN_MB_CTRL_ATTEMPTS]
  omega

theorem State.canRequest_modeKept (s : State) (c n : Nat) : s.ModeKept (s.canRequest c n) := by
  have hreq : s.ModeKept (s.wrs [(F.CAN_MB_CTRL_REQ c n, 1), (F.CAN_MB_CTRL_CANCEL_LATE c n, 0)]) :=
    .wrs_beyond s _ (by simp [F.CAN_MB_CTRL_REQ, F.CAN_MB_CTRL_CANCEL_LATE]; omega)
  have hst : s.ModeKept (s.wr (F.CAN_MB_CTRL_STATUS c n) Status.param.code) :=
    .wr s _ (standKey_of_addr (by show 0x9003C ≤ 0xc1000 + 32768 * c + 128 * n; omega))
  exact .ite (.refl s) (.ite hst (.ite hreq (hreq.trans (.ite (State.setPend_modeKept _ _ _ _) (State.canTxEnd_modeKept _ _ _ _)))))

theorem State.canEnd_modeKept (s : State) (c n : Nat) (st : Status) : s.ModeKept (s.canEnd c n st) :=
  .ite (.trans ((s.canTxEnd_modeKept c n st).trans .of_eq) (State.canRequest_modeKept _ c n)) (s.canTxEnd_modeKept c n st)

theorem State.canData_modeKept (s : State) (c n : Nat) (bs : List Byte) : s.ModeKept (s.canData c n bs) :=
  .foldl _ _ (fun s w _ => .wr s _ (standKey_of_addr (by show 0x9003C ≤ 0xc1014 + 32768 * c + 128 * n + 4 * w; omega))) s

theorem State.canSend_modeKept (s : State) (n id : Nat) (ide fdf : Bool) (bs : List Byte) : s.ModeKept (s.canSend n id ide fdf bs) := by
  refine .ite (.refl s) (.trans (.trans (.wrs_beyond _ _ ?_) (State.canData_modeKept _ _ _ _)) (State.canRequest_modeKept _ _ _))
  simp [F.CAN_MB_CTRL_DIR, F.CAN_MB_CTRL_TIMED, F.CAN_MB_ID_ID, F.CAN_MB_ID_IDE, F.CAN_MB_ID_RTR, F.CAN_MB_FMT_DLC, F.CAN_MB_FMT_FDF,
    F.CAN_MB_FMT_BRS, F.CAN_MB_FMT_RETRY]
  omega

theorem State.dspSend_modeKept (s : State) (n : Nat) (bank : Bool) (offset index flags : Nat) (body : List Byte) :
    s.ModeKept (s.dspSend n bank offset index flags body) :=
  .ite (.trans .of_eq (State.canSend_modeKept _ _ _ _ _ _)) (.refl s)

theorem State.setpointLoad_modeKept (s : State) : s.ModeKept s.setpointLoad := by
  unfold State.setpointLoad
  split
  · exact .refl s
  · exact s.dspSend_modeKept _ _ _ _ _ _

theorem State.scheduleEnd_modeKept (s : State) (st : Status) : s.ModeKept (s.scheduleEnd st) := by
  unfold State.scheduleEnd
  split
  · exact .refl s
  · exact .trans (.trans .of_eq (.wr _ _)) (State.finish_modeKept _ _ _ _ _)

theorem State.startingEnd_modeKept (s : State) (st : Status) : s.ModeKept (s.startingEnd st) := by
  unfold State.startingEnd
  split
  · exact .refl s
  · exact .trans (.ite .of_eq (.trans .of_eq (.wr _ _))) (State.finish_modeKept _ _ _ _ _)

theorem State.entriesDrop_modeKept (s : State) : s.ModeKept s.entriesDrop := by
  unfold State.entriesDrop
  extract_lets keep n first s1 _ s2
  have h1 : s.ModeKept s1 := .ite (s.canEnd_modeKept _ _ _) (.refl s)
  have h2 : s.ModeKept s2 := h1.trans (.trans .of_eq (.ite (.refl _) ((State.flag_modeKept _ _ _).trans (.wr _ _))))
  exact .ite (.refl s) (.ite (h2.trans (State.setpointLoad_modeKept _)) h2)

theorem State.scheduleLeave_modeKept (s : State) : s.ModeKept s.scheduleLeave :=
  ((s.scheduleEnd_modeKept _).trans (State.startingEnd_modeKept _ _)).trans (State.entriesDrop_modeKept _)

theorem State.genStop_modeKept (s : State) (st : Status) : s.ModeKept (s.genStop st) :=
  .trans (.trans .of_eq (.wrs _ _)) (State.finish_modeKept _ _ _ _ _)

theorem State.corrAbort_modeKept (s : State) : s.ModeKept s.corrAbort :=
  .ite (.trans (.trans .of_eq (.wr _ _)) (State.finish_modeKept _ _ _ _ _)) (.refl s)

theorem State.perturbStop_modeKept (s : State) : s.ModeKept s.perturbStop := by
  unfold State.perturbStop
  split
  · exact .refl s
  · next p _ =>
    extract_lets idx _ s1 s2
    have h1 : s.ModeKept s1 := .trans .of_eq (State.dspSend_modeKept _ _ _ _ _ _ _)
    have h2 : s1.ModeKept s2 := .ite (.trans (.wr _ _) (.ite .of_eq (State.genStop_modeKept _ _))) (.refl s1)
    exact ((h1.trans h2).trans (State.corrAbort_modeKept _)).trans (State.finish_modeKept _ _ _ _ _)

/-! ### Motion and thermal management -/

/-- The state of an axis is the word at 4c of its page. -/
theorem standKey_axis (x lo w r : Nat) : standKey (Field.key ⟨0xb014c + 256 * x, lo, w, r⟩) = false :=
  standKey_of_addr (by show 0x9003C ≤ 0xb014c + 256 * x; omega)

theorem State.axStop_modeKept (s : State) (x : Nat) (e : Bool) (cause : Nat) : s.ModeKept (s.axStop x e cause) :=
  .ite (.refl s) (.ite (.refl s) (.trans (.wr s _ (standKey_axis x 0 _ _)) .of_eq))

theorem State.seLoadFw_modeKept (s : State) {k : Nat} (q : SeKernel) (l : List SeInst) (hk : standKey (F.SE_KSTAT_SHADOW k).key = false) :
    s.ModeKept (s.seLoadFw k q l) :=
  .ite (.trans .of_eq (.wr _ _ hk)) (.refl s)

theorem State.loadLoop_modeKept (s : State) : s.ModeKept s.loadLoop := s.seLoadFw_modeKept _ _ (by decide)

theorem State.seDisable_modeKept (s : State) (k : Nat) : s.ModeKept (s.seDisable k) :=
  .ite (.trans .of_eq (State.finish_modeKept _ _ _ _ _)) .of_eq

theorem State.thmMode_modeKept (s : State) : s.ModeKept s.thmMode := by
  unfold State.thmMode
  refine .ite ?_ ?_
  · extract_lets s1
    have h1 : s.ModeKept s1 := .ite (.refl s) (s.seLoadFw_modeKept _ _ (by decide))
    exact .ite h1 (h1.trans (State.loadLoop_modeKept _))
  · extract_lets s1
    have h1 : s.ModeKept s1 := .ite (s.seDisable_modeKept 1) (.refl s)
    exact .ite (h1.trans (State.seDisable_modeKept _ _)) h1

theorem State.tuneEnd_modeKept (s : State) (st : Status) (res : List Int) : s.ModeKept (s.tuneEnd st res) := by
  unfold State.tuneEnd
  split
  · exact .refl s
  · extract_lets _ s1 s2
    have h1 : s.ModeKept s1 := .trans (.trans .of_eq (State.genStop_modeKept _ _)) (.wrs _ _)
    have h2 : s1.ModeKept s2 := .ite (State.loadLoop_modeKept _) (.refl s1)
    exact ((h1.trans h2).trans (State.flag_modeKept _ _ _)).trans (State.finish_modeKept _ _ _ _ _)

theorem State.motSendFrac_modeKept (s : State) (x p : Nat) : s.ModeKept (s.motSendFrac x p) := .ite (.refl s) .of_eq

theorem State.sendValve_modeKept (s : State) (p db : Nat) : s.ModeKept (s.sendValve p db) :=
  .ite (.refl s) (.trans ((s.motSendFrac_modeKept 0 p).trans .of_eq) (.wr _ _))

theorem State.sendDamper_modeKept (s : State) (p : Nat) : s.ModeKept (s.sendDamper p) :=
  .ite (.refl s) (.trans ((s.motSendFrac_modeKept 1 p).trans .of_eq) (.wr _ _))

theorem State.thmDrive_modeKept (s0 : State) : s0.ModeKept s0.thmDrive := by
  unfold State.thmDrive
  extract_lets forced s vo dow unavail loop s1 s2 s3 s4 s5
  have h0 : s0.ModeKept s := .ite (s0.tuneEnd_modeKept _ _) (.refl s0)
  have h1 : s.ModeKept s1 := .wrs s _
  have h2 : s1.ModeKept s2 := .ite (State.flag_modeKept _ _ _) (.refl s1)
  have h4 : s2.ModeKept s4 := .trans (.wrB s2 unavail) (.ite (.wr s3 _) (.refl s3))
  have h5 : s4.ModeKept s5 :=
    .ite (s4.sendValve_modeKept _ _) (.ite (.refl s4) (.ite (s4.sendValve_modeKept _ _) (.ite (s4.sendValve_modeKept _ _)
      (.ite (s4.sendValve_modeKept _ _) (s4.sendValve_modeKept _ _)))))
  refine (((h0.trans h1).trans h2).trans h4).trans (h5.trans ?_)
  exact .ite (s5.sendDamper_modeKept _) (.ite (s5.sendDamper_modeKept _) (.ite (s5.sendDamper_modeKept _) (s5.sendDamper_modeKept _)))

theorem State.thmNewMode_modeKept (s : State) : s.ModeKept s.thmNewMode :=
  ((s.tuneEnd_modeKept _ _).trans (State.thmMode_modeKept _)).trans (State.thmDrive_modeKept _)

/-! ### What a new mode stops and starts (R44, R136, R148, R313) -/

theorem State.stopOp_modeKept (s : State) (o : Op) : s.ModeKept (s.stopOp o) := by
  unfold State.stopOp
  split
  · exact .of_eq
  · exact s.endCampaign_modeKept _
  · exact .of_eq
  · exact .trans (.wr s (f := F.EST_CFG_RATE) _) .of_eq
  · exact .of_eq
  · exact .ite (s.scheduleEnd_modeKept _) (s.startingEnd_modeKept _)
  · exact s.perturbStop_modeKept
  · extract_lets _ s1
    have h1 : s.ModeKept s1 := .of_eq
    exact ((h1.trans (State.axStop_modeKept _ _ _ _)).trans (State.finish_modeKept _ _ _ _ _)).trans .of_eq
  · extract_lets _ s1
    have h1 : s.ModeKept s1 := .of_eq
    exact .trans (.ite ((h1.trans (State.axStop_modeKept _ _ _ _)).trans (.wr _ _ (standKey_axis _ 4 _ _))) h1) .of_eq
  · exact .trans .of_eq (.wrs _ _)
  · exact .of_eq
  · exact .of_eq
  · exact s.genStop_modeKept _
  · exact .wr s _
  · exact .wr s _
  · exact .refl s

theorem State.abortIllegal_modeKept (s : State) (mode : Nat) : s.ModeKept (s.abortIllegal mode) :=
  .foldl _ _ (fun s o _ => (s.stopOp_modeKept o).trans (State.finish_modeKept _ _ _ _ _)) s

theorem State.modeFollow_modeKept (s : State) (new : Nat) : s.ModeKept (s.modeFollow new) := by
  unfold State.modeFollow
  extract_lets s1 s2
  have h1 : s.ModeKept s1 :=
    .ite ((s.endCampaign_modeKept _).trans (State.allPathsOff_modeKept _)) (.ite s.autoCampaign_modeKept (.refl s))
  have h2 : s1.ModeKept s2 := .ite (.refl s1) (s1.scheduleLeave_modeKept.trans (State.perturbStop_modeKept _))
  exact (h1.trans h2).trans (State.thmNewMode_modeKept _)

end Sys2Proof.Machine
end

section
/-! PROOFS. The bits of a word that are cleared by masks, and what the contactor switches, a mode transition and the entry into LOCKOUT leave
(R40, R41, R267, R268, R280, R296). -/

namespace Sys2Proof.Machine

-- One proof after another: a thread for each would not fit the memory of the check.
set_option Elab.async false

/-! ### Masks -/

/-- Taking the masked bits off a word clears just them. -/
theorem testBit_sub_and (w m i : Nat) : (w - (w &&& m)).testBit i = (w.testBit i && !m.testBit i) := by
  have hle : w &&& m ≤ w := Nat.and_le_left
  have hpar : (w &&& m) % 2 = (w % 2) &&& (m % 2) := Nat.and_mod_two_pow (n := 1)
  have hlow : (w &&& m) % 2 ≤ w % 2 := hpar ▸ Nat.and_le_left
  induction i generalizing w m with
  | zero =>
    have hbit : (w - (w &&& m)) % 2 = w % 2 - (w &&& m) % 2 := by omega
    simp only [Nat.testBit_zero, hbit, hpar]
    rcases Nat.mod_two_eq_zero_or_one w with hw | hw <;> rcases Nat.mod_two_eq_zero_or_one m with hm | hm <;> simp [hw, hm]
  | succ i ih =>
    have hhalf : (w - (w &&& m)) / 2 = w / 2 - (w / 2 &&& m / 2) := by
      rw [← Nat.and_div_two]
      omega
    rw [Nat.testBit_succ, Nat.testBit_succ, Nat.testBit_succ, hhalf]
    have hnext : (w / 2 &&& m / 2) % 2 = (w / 2 % 2) &&& (m / 2 % 2) := Nat.and_mod_two_pow (n := 1)
    exact ih _ _ Nat.and_le_left hnext (hnext ▸ Nat.and_le_left)

/-- A mask that fits the width does not see the cut to the width. -/
theorem mod_two_pow_and {m n : Nat} (x : Nat) (h : m < 2 ^ n) : x % 2 ^ n &&& m = x &&& m := by
  refine Nat.eq_of_testBit_eq fun i => ?_
  rw [Nat.testBit_and, Nat.testBit_and, Nat.testBit_mod_two_pow]
  by_cases hi : i < n
  · simp [hi]
  · rw [Nat.testBit_lt_two_pow (h.trans_le (Nat.pow_le_pow_right (by decide) (not_lt.1 hi)))]
    simp

theorem sub_and_and_self (w m : Nat) : (w - (w &&& m)) &&& m = 0 := by
  refine Nat.eq_of_testBit_eq fun i => ?_
  rw [Nat.testBit_and, testBit_sub_and]
  cases m.testBit i <;> simp

theorem sub_and_and_of_disjoint (w : Nat) {m k : Nat} (h : m &&& k = 0) : (w - (w &&& m)) &&& k = w &&& k := by
  refine Nat.eq_of_testBit_eq fun i => ?_
  have hi : (m &&& k).testBit i = false := by rw [h, Nat.zero_testBit]
  rw [Nat.testBit_and] at hi
  rw [Nat.testBit_and, testBit_sub_and, Nat.testBit_and]
  cases hk : k.testBit i
  · simp
  · rw [hk, Bool.and_true] at hi
    simp [hi]

theorem and_two_pow_eq_zero (w i : Nat) : w &&& 2 ^ i = 0 ↔ w / 2 ^ i % 2 = 0 := by
  rw [Nat.and_two_pow, Nat.mul_eq_zero]
  simp [← Nat.toNat_testBit]

/-- The readbacks of all six switches are the odd bits of SAFE_OUT.SWITCH. -/
theorem readbacks_eq_zero (w : Nat) : w &&& 0xAAA = 0 ↔
    w / 2 % 2 + w / 32 % 2 + w / 512 % 2 + (w / 8 % 2 + w / 128 % 2 + w / 2048 % 2) = 0 := by
  rw [show 0xAAA = 2 ^ 1 ||| 2 ^ 3 ||| 2 ^ 5 ||| 2 ^ 7 ||| 2 ^ 9 ||| 2 ^ 11 by decide]
  simp only [Nat.and_or_distrib_left, Nat.or_eq_zero_iff, and_two_pow_eq_zero]
  omega

/-! ### Several writes -/

/-- Of several writes, the last one to a field is read back. -/
theorem State.rd_wrs_get (s : State) {l : List (Field × Nat)} (i : Nat) {f : Field} {v : Nat} (hi : l[i]? = some (f, v) := by rfl)
    (hlast : ((l.drop (i + 1)).all fun p => p.1.key != f.key) = true := by
      simp only [List.drop, List.all_cons, List.all_nil, Bool.and_true] <;> decide) : (s.wrs l).rd f = v % 2 ^ f.width := by
  obtain ⟨hlt, hget⟩ := List.getElem?_eq_some_iff.1 hi
  have hsplit : l = l.take i ++ (f, v) :: l.drop (i + 1) := by rw [← hget, List.getElem_cons_drop, List.take_append_drop]
  rw [hsplit, State.wrs_append]
  refine (State.rd_wrs_ne ((s.wrs (l.take i)).wr f v) f (l.drop (i + 1)) fun p hp => ?_).trans (State.rd_wr_same _ _ _)
  exact (by simpa using List.all_eq_true.1 hlast p hp : p.1.key ≠ f.key).symm

/-- The registers in `P` but for those listed. -/
def keysBut (P : Nat → Bool) (ks : List Nat) (q : Nat) : Bool := P q && !ks.contains q

theorem keysBut_le {P : Nat → Bool} {ks : List Nat} (q : Nat) (h : keysBut P ks q = true) : P q = true := (Bool.and_eq_true _ _ ▸ h).1

theorem keysBut_mono {P : Nat → Bool} {ks ls : List Nat} (hsub : ks ⊆ ls) (q : Nat) (h : keysBut P ls q = true) : keysBut P ks q = true := by
  simp only [keysBut, Bool.and_eq_true, Bool.not_eq_true', List.contains_eq_mem, decide_eq_false_iff_not] at h ⊢
  exact ⟨h.1, fun hm => h.2 (hsub hm)⟩

/-! ### Contactor switches (R268, R276, R280) -/

/-- The registers that follow the switches. -/
abbrev mirrorKeys : List Nat := [F.SAFE_STATUS_SS_A.key, F.SAFE_STATUS_SS_B.key, F.SAFE_STATUS_STRING_CLOSED.key]

/-- The mirrors follow the switches; the string stays closed as long as a switch reads on (R268). -/
theorem State.mirrorSwitches_spec (s : State) : State.Stands (keysBut standKey mirrorKeys) State.heldView s s.mirrorSwitches ∧
    s.mirrorSwitches.closed = (s.closed && s.readbacks != 0) := by
  unfold State.mirrorSwitches
  extract_lets w hs ls op s1
  have hmirror : State.Stands (keysBut standKey mirrorKeys) State.heldView s s1 :=
    ((State.Stands.wrB s _).trans (.wrB _ _)).trans (.wrB _ _)
  have hop : (!op && s.closed) = (s.closed && s.readbacks != 0) := by
    have hread : (hs + ls == 0) = (s.readbacks == 0) := by
      rw [Bool.eq_iff_iff, beq_iff_eq, beq_iff_eq]
      exact (readbacks_eq_zero w).symm
    show (!(s.closed && hs + ls == 0) && s.closed) = _
    rw [hread]
    cases s.closed <;> simp [bne]
  have hclosed : s1.closed = (s.closed && s.readbacks != 0) := by
    rw [← hop]
    show ((s1.rd F.SAFE_STATUS_STRING_CLOSED) == 1) = _
    rw [State.rd_wrB_same]
    cases s.closed <;> cases op <;> rfl
  split
  · have hiso := State.isoString_modeKept s1
    exact ⟨hmirror.trans (hiso.mono keysBut_le id), (congrArg (· == 1) (hiso.regs F.SAFE_STATUS_STRING_CLOSED (by decide))).trans hclosed⟩
  · exact ⟨hmirror, hclosed⟩

/-- The registers that a change of the switches moves. -/
abbrev switchKeys : List Nat := F.SAFE_OUT_SWITCH.key :: mirrorKeys

section
variable (s : State) (w : Nat)

/-- The switches change: the mirrors follow. -/
theorem State.setSwitches_stands : State.Stands (keysBut standKey switchKeys) State.heldView s (s.wr F.SAFE_OUT_SWITCH w).mirrorSwitches :=
  (State.Stands.wr s w).trans ((State.mirrorSwitches_spec _).1.mono (keysBut_mono (List.subset_cons_self _ _)) id)

theorem State.setSwitches_switches : (s.wr F.SAFE_OUT_SWITCH w).mirrorSwitches.switches = w % 2 ^ 12 :=
  ((State.mirrorSwitches_spec _).1.regs F.SAFE_OUT_SWITCH (by decide)).trans (State.rd_wr_same _ _ _)

theorem State.setSwitches_closed :
    (s.wr F.SAFE_OUT_SWITCH w).mirrorSwitches.closed = (s.closed && w % 2 ^ 12 &&& 0xAAA != 0) := by
  rw [(State.mirrorSwitches_spec _).2]
  have hsw : (s.wr F.SAFE_OUT_SWITCH w).switches = w % 2 ^ 12 := State.rd_wr_same _ _ _
  have hcl : (s.wr F.SAFE_OUT_SWITCH w).closed = s.closed := congrArg (· == 1) (State.rd_wr_ne _ _ _ _ (by decide))
  unfold State.readbacks
  rw [hsw, hcl]

end

/-- Both channels command every output off. -/
theorem State.allOff_switchedOff (s : State) : s.SwitchedOff s.allOff := by
  unfold State.SwitchedOff State.readbacks State.allOff
  rw [State.setSwitches_switches, State.setSwitches_closed, mod_two_pow_and _ (by decide), mod_two_pow_and _ (by decide), sub_and_and_self,
    sub_and_and_of_disjoint _ (by decide)]
  exact ⟨rfl, rfl, rfl⟩

theorem State.allOff_stands (s : State) : State.Stands (keysBut standKey switchKeys) State.heldView s s.allOff := s.setSwitches_stands _

/-! ### A mode transition takes effect (R40, R52, R280, R288, R302) -/

/-- The registers that a mode transition moves itself. -/
abbrev modeKeys : List Nat :=
  [F.SYS_MODE_MODE.key, F.SYS_MODE_TARGET.key, F.SYS_MODE_TRANSITION.key, F.SAFE_STATUS_SERVICE_LIMIT.key, F.SAFE_STATUS_FAULT_CLOSED.key]

/-- The safety card's state without the pending block and the limit of SERVICE, which follow the mode. -/
def SafeState.settled (x : SafeState) : SafeState := { x with pendingBlock := [], pendingCert := 0, svcSignal := false }

def State.settledView (s : State) : SafeState × Bool × Bool := (s.safe.settled, s.thm.shutting, s.thm.heldOff)

/-- `t` comes from `s` by mode transitions and by what they stop and start. -/
abbrev State.SetKept (s t : State) : Prop := State.Stands (keysBut standKey modeKeys) State.settledView s t

theorem State.Stands.setKept {s t : State} (h : s.ModeKept t) : s.SetKept t := h.mono keysBut_le fun x => (x.1.settled, x.2.2)

/-- `t` is in mode `new`, with no transition under way, and comes from `s` by the transition into it. -/
structure State.InMode (s t : State) (new : Nat) : Prop where
  kept : s.SetKept t
  mode : t.mode = new
  target : t.rd F.SYS_MODE_TARGET = new
  still : t.rd F.SYS_MODE_TRANSITION = 0
  pwr : t.pwr = { s.pwr with trans := none, orderly := none, holdRun := new == mREADY }

/-- What follows the mode keeps the transition. -/
theorem State.InMode.keep {s t u : State} {new : Nat} {α : Type} {P : Nat → Bool} {v : State → α} (h : s.InMode t new) (k : State.Stands P v t u)
    (hkept : t.SetKept u) (hpwr : u.pwr = t.pwr) (hP : ([F.SYS_MODE_MODE, F.SYS_MODE_TARGET, F.SYS_MODE_TRANSITION].all fun f => P f.key) = true := by decide) :
    s.InMode u new := by
  simp only [List.all_cons, List.all_nil, Bool.and_true, Bool.and_eq_true] at hP
  obtain ⟨hm, htarget, htrans⟩ := hP
  exact ⟨h.kept.trans hkept, (k.regs _ hm).trans h.mode, (k.regs _ htarget).trans h.target, (k.regs _ htrans).trans h.still, hpwr.trans h.pwr⟩

theorem State.InMode.modeKept {s t u : State} {new : Nat} (h : s.InMode t new) (k : t.ModeKept u) : s.InMode u new :=
  h.keep k k.setKept (congrArg (fun x : SafeState × PwrState × Bool × Bool => x.2.1) k.view)

theorem State.setServiceLimit_stands (s : State) :
    State.Stands (keysBut standKey [F.SAFE_STATUS_SERVICE_LIMIT.key]) (fun s => (s.safe.settled, s.pwr, s.thm.shutting, s.thm.heldOff)) s
      s.setServiceLimit :=
  .ite (.trans (.wrB s (f := F.SAFE_STATUS_SERVICE_LIMIT) _) .of_eq) (.wrB s _)

/-- The mode, the MODE record and the marks of a transition, before anything stops for it. -/
theorem State.setMode_enters (s : State) {new : Nat} (cause : Nat) (hnew : new < 8) : s.InMode (s.setMode new cause) new := by
  unfold State.setMode
  extract_lets old s1 s2 _ s3 _ s4 s5 s6
  have hwrs : State.Stands (keysBut standKey modeKeys) State.heldView s s1 := .wrs s _
  have hpost : s1.ModeKept s2 := State.post_modeKept _ _
  have hpwr2 : s2.pwr = s.pwr := (congrArg (fun x : SafeState × PwrState × Bool × Bool => x.2.1) hpost.view)
  have hfield : ∀ f : Field, standKey f.key = true → s3.rd f = s1.rd f := hpost.regs
  have h3 : s.InMode s3 new := by
    refine ⟨((hwrs.mono (fun _ h => h) fun x => (x.1.settled, x.2.2)).trans hpost.setKept).trans .of_eq, ?_, ?_, ?_, ?_⟩
    · exact (hfield _ (by decide)).trans ((s.rd_wrs_get 0).trans (Nat.mod_eq_of_lt hnew))
    · exact (hfield _ (by decide)).trans ((s.rd_wrs_get 1).trans (Nat.mod_eq_of_lt hnew))
    · exact (hfield _ (by decide)).trans (State.rd_wr_same _ F.SYS_MODE_TRANSITION 0)
    · show { s2.pwr with trans := none, orderly := none, holdRun := new == mREADY } = _
      rw [hpwr2]
  have h4 : s.InMode s4 new := by
    show s.InMode (if new = mSTANDBY then _ else _) new
    split
    · exact h3
    · exact ⟨h3.kept.trans .of_eq, h3.mode, h3.target, h3.still, h3.pwr⟩
  have h5 : s.InMode s5 new :=
    ((h4.modeKept (State.abortIllegal_modeKept _ _)).modeKept (State.modeFollow_modeKept _ _)).keep (State.setServiceLimit_stands _)
      ((State.setServiceLimit_stands _).mono (keysBut_mono (by decide)) fun x => (x.1, x.2.2))
      (congrArg (fun x : SafeState × PwrState × Bool × Bool => x.2.1) (State.setServiceLimit_stands _).view)
  have h6 : s.InMode s6 new := by
    show s.InMode (if _ then _ else _) new
    split
    · exact h5
    · exact h5.modeKept (State.enterPower_modeKept _ (by decide))
  have hX19 : ∀ u : State, State.Stands (keysBut standKey [F.SAFE_STATUS_FAULT_CLOSED.key]) State.heldView u u.setX19 := fun u => .wrB u _
  exact (h6.modeKept (State.setFloor_modeKept _)).keep (hX19 _)
    ((hX19 _).mono (keysBut_mono (by decide)) fun x => (x.1.settled, x.2.2)) rfl

/-- A requested transition takes effect and its request completes. -/
theorem State.modeDone_enters (s : State) {new : Nat} (cause : Nat) (hnew : new < 8) : s.InMode (s.modeDone new cause) new :=
  (s.setMode_enters cause hnew).modeKept (State.finish_modeKept _ _ _ _ _)

/-- The registers that a request which fails moves. -/
theorem State.modeFail_stands (s : State) (st : Status) :
    State.Stands (keysBut standKey [F.SYS_MODE_TRANSITION.key, F.SYS_MODE_TARGET.key])
      (fun s => (s.safe, { s.pwr with trans := none }, s.thm.shutting, s.thm.heldOff)) s (s.modeFail st) :=
  (State.Stands.trans .of_eq (.wrs ({ s with pwr.trans := none } : State) _)).trans
    ((State.finish_modeKept _ _ _ _ _).mono keysBut_le fun x => (x.1, { x.2.1 with trans := none }, x.2.2))

/-- A mode that no request asked for is entered all the same. -/
theorem State.forceMode_enters (s : State) {new : Nat} (cause : Nat) (st : Status) (hnew : new < 8) : s.InMode (s.forceMode new cause st) new := by
  unfold State.forceMode
  split
  · split
    · exact s.modeDone_enters cause hnew
    · obtain ⟨hkept, hmode, htarget, hstill, hpwr⟩ := (State.modeFail { s with bank.asking := false } st).setMode_enters cause hnew
      have hfail := State.modeFail_stands { s with bank.asking := false } st
      have hview : (_ : SafeState × PwrState × Bool × Bool) = _ := hfail.view
      refine ⟨.trans (.trans .of_eq (hfail.mono (keysBut_mono (by decide)) fun x => (x.1.settled, x.2.2))) hkept, hmode, htarget, hstill, ?_⟩
      have hp : { (State.modeFail { s with bank.asking := false } st).pwr with trans := none } = { s.pwr with trans := none } :=
        congrArg (fun x : SafeState × PwrState × Bool × Bool => x.2.1) hview
      rw [hpwr]
      exact congrArg (fun p : PwrState => { p with orderly := none, holdRun := new == mREADY }) hp
  · exact s.setMode_enters cause hnew

end Sys2Proof.Machine
end

section
/-! PROOFS. The entry into LOCKOUT (R41, R267, R268, R296): what it latches, and what it leaves. -/

namespace Sys2Proof.Machine

-- One proof after another: a thread for each would not fit the memory of the check.
set_option Elab.async false

/-! ### What LOCKOUT leaves -/

/-- The registers that the entry into LOCKOUT moves. -/
abbrev lockKeys : List Nat :=
  modeKeys ++ switchKeys ++
    [F.SAFE_STATUS_RESET_WINDOW.key, F.SAFE_RST_PULSE_SEEN.key, F.SAFE_RST_CMD_SEEN.key, F.SAFE_RST_WINDOW_MS.key, F.SAFE_CAUSE_FIRST.key,
     F.SAFE_CAUSE_FIRST_CH.key, F.SAFE_CAUSE_LAST.key, F.SAFE_CAUSE_COUNT.key, F.SAFE_CAUSE_MAP0_MAP.key, F.SAFE_CAUSE_MAP1_MAP.key,
     F.SAFE_STATUS_LOCKOUT.key, F.SYS_MODE_LOCKOUT_LATCHED.key, F.SAFE_STATUS_CLOSING.key, F.SAFE_PRECHARGE_RESULT.key,
     F.SAFE_COUNT_LOCKOUTS.key, F.SAFE_COUNT_DEMANDS.key]

/-- The safety card's state without what the entry into LOCKOUT sets: the latch, the closing and the reset it ends. -/
def SafeState.unlocked (x : SafeState) : SafeState :=
  { x.settled with causes := 0, first := 0, firstCh := 0, last := 0, sinceBoot := 0, closing := .idle, confirmAt := none, coolUntil := 0
                   weldTest := false, reactAt := none }

def State.unlockedView (s : State) : SafeState := s.safe.unlocked

/-- `t` comes from `s` by entries into LOCKOUT. -/
abbrev State.LockKept (s t : State) : Prop := State.Stands (keysBut standKey lockKeys) State.unlockedView s t

theorem State.SetKept.lockKept {s t : State} (h : s.SetKept t) : s.LockKept t :=
  h.mono (keysBut_mono (List.Subset.trans (List.subset_append_left _ _) (List.subset_append_left _ _))) fun x => x.1.unlocked

theorem State.ModeKept.lockKept {s t : State} (h : s.ModeKept t) : s.LockKept t := State.SetKept.lockKept h.setKept

theorem State.latchCause_lockKept (s : State) (c : Cause) (ch : Nat) : s.LockKept (s.latchCause c ch) :=
  State.Stands.trans .of_eq (.wrs _ _)

theorem State.endClosing_lockKept (s : State) (r : Nat) : s.LockKept (s.endClosing r) := .ite (.refl s) (.trans .of_eq (.wrs _ _))

theorem State.allOff_lockKept (s : State) : s.LockKept s.allOff :=
  s.allOff_stands.mono (keysBut_mono (List.Subset.trans (List.subset_append_right _ _) (List.subset_append_left _ _))) fun x => x.1.unlocked

theorem State.reactStart_lockKept (s : State) : s.LockKept s.reactStart := .ite .of_eq (.refl s)

theorem State.endWindow_lockKept (s : State) (st : Status) : s.LockKept (s.endWindow st) :=
  .trans (.trans .of_eq (.wrs _ _)) (State.ModeKept.lockKept (State.finish_modeKept _ _ _ _ _))

theorem State.setX19_lockKept (s : State) : s.LockKept s.setX19 := .wrB s _

theorem State.setMode_lockKept (s : State) {new : Nat} (cause : Nat) (hnew : new < 8) : s.LockKept (s.setMode new cause) :=
  State.SetKept.lockKept (s.setMode_enters cause hnew).kept

/-! ### What LOCKOUT shows -/

/-- The registers that show the latch, the switches and the mode. -/
def latchKeys : List Nat :=
  [F.SAFE_OUT_SWITCH.key, F.SAFE_STATUS_STRING_CLOSED.key, F.SAFE_STATUS_LOCKOUT.key, F.SYS_MODE_LOCKOUT_LATCHED.key, F.SAFE_CAUSE_LAST.key,
   F.SAFE_CAUSE_MAP0_MAP.key, F.SAFE_PRECHARGE_RESULT.key]

/-- What the safety card holds of the latch and the closing. -/
def State.latchView (s : State) : Nat × Nat × Nat × Nat × Closing × Bool :=
  (s.safe.causes, s.safe.first, s.safe.firstCh, s.safe.last, s.safe.closing, s.safe.modeEntered)

/-- The switches, the latch and the closing stand. -/
abbrev State.LatchStands (s t : State) : Prop := State.Stands latchKeys.contains State.latchView s t

/-- They stand with the mode and X19. -/
abbrev State.LockStands (s t : State) : Prop :=
  State.Stands (latchKeys ++ [F.SYS_MODE_MODE.key, F.SAFE_STATUS_FAULT_CLOSED.key]).contains State.latchView s t

theorem contains_le {ks : List Nat} {P : Nat → Bool} (h : ∀ k ∈ ks, P k = true) (q : Nat) (hq : ks.contains q = true) : P q = true :=
  h q (List.contains_iff_mem.1 hq)

/-- What a cause sets before the mode follows. -/
structure State.LatchedBy (s t : State) (c : Cause) (ch : Nat) : Prop where
  off : s.SwitchedOff t
  latched : t.hasCause c = true ∧ ∀ d, s.hasCause d = true → t.hasCause d = true
  first : t.safe.first = (if s.safe.causes = 0 then c.code else s.safe.first) ∧
    t.safe.firstCh = (if s.safe.causes = 0 then ch else s.safe.firstCh) ∧ t.safe.last = c.code
  shown : t.isOn F.SAFE_STATUS_LOCKOUT = true ∧ t.isOn F.SYS_MODE_LOCKOUT_LATCHED = true ∧ t.rd F.SAFE_CAUSE_LAST = c.code ∧
    t.rd F.SAFE_CAUSE_MAP0_MAP = t.safe.causes % two32
  closing : t.safe.closing = .idle ∧ (s.safe.closing ≠ .idle → t.rd F.SAFE_PRECHARGE_RESULT = closingResult c)

section
variable {s t u : State} {c : Cause} {ch : Nat}

theorem State.SwitchedOff.keep {α : Type} {P : Nat → Bool} {v : State → α} (h : s.SwitchedOff t) (k : State.Stands P v t u)
    (hP : (P F.SAFE_OUT_SWITCH.key && P F.SAFE_STATUS_STRING_CLOSED.key) = true := by decide) : s.SwitchedOff u := by
  obtain ⟨hcmd, hrb, hcl⟩ := h
  obtain ⟨hPsw, hPcl⟩ := Bool.and_eq_true _ _ ▸ hP
  have hsw : u.switches = t.switches := k.regs F.SAFE_OUT_SWITCH hPsw
  have hclosed : u.closed = t.closed := congrArg (· == 1) (k.regs F.SAFE_STATUS_STRING_CLOSED hPcl)
  exact ⟨hsw ▸ hcmd, (congrArg (· &&& 0xAAA) hsw).trans hrb, hclosed.trans hcl⟩

theorem State.SwitchedOff.from (h : t.SwitchedOff u) (k : s.LatchStands t) : s.SwitchedOff u := by
  obtain ⟨hcmd, hrb, hcl⟩ := h
  have hsw : t.readbacks = s.readbacks := congrArg (· &&& 0xAAA) (k.regs F.SAFE_OUT_SWITCH (by decide))
  have hclosed : t.closed = s.closed := congrArg (· == 1) (k.regs F.SAFE_STATUS_STRING_CLOSED (by decide))
  exact ⟨hcmd, hrb.trans hsw, by rw [hcl, hclosed, hsw]⟩

theorem State.Stands.hasCause (k : s.LatchStands t) (d : Cause) : t.hasCause d = s.hasCause d :=
  congrArg (fun x : Nat × Nat × Nat × Nat × Closing × Bool => x.1 / 2 ^ d.code % 2 == 1) k.view

/-- What leaves the latch leaves what a cause has set. -/
theorem State.LatchedBy.keep (h : s.LatchedBy t c ch) (k : t.LatchStands u) : s.LatchedBy u c ch := by
  obtain ⟨hoff, ⟨hlatch, hothers⟩, ⟨hfirst, hfirstCh, hlast⟩, ⟨hlock, hlatched, hcause, hmap⟩, hidle, hresult⟩ := h
  obtain ⟨vcauses, vfirst, vfirstCh, vlast, vclosing, -⟩ : u.safe.causes = t.safe.causes ∧ u.safe.first = t.safe.first ∧
      u.safe.firstCh = t.safe.firstCh ∧ u.safe.last = t.safe.last ∧ u.safe.closing = t.safe.closing ∧ u.safe.modeEntered = t.safe.modeEntered := by
    simpa only [State.latchView, Prod.mk.injEq] using k.view
  have hreg : ∀ f : Field, latchKeys.contains f.key = true → u.rd f = t.rd f := k.regs
  refine ⟨hoff.keep k, ⟨(k.hasCause c).trans hlatch, fun d hd => (k.hasCause d).trans (hothers d hd)⟩,
    ⟨vfirst.trans hfirst, vfirstCh.trans hfirstCh, vlast.trans hlast⟩, ⟨?_, ?_, ?_, ?_⟩, vclosing.trans hidle, fun hne => ?_⟩
  · exact (congrArg (· == 1) (hreg F.SAFE_STATUS_LOCKOUT (by decide))).trans hlock
  · exact (congrArg (· == 1) (hreg F.SYS_MODE_LOCKOUT_LATCHED (by decide))).trans hlatched
  · exact (hreg F.SAFE_CAUSE_LAST (by decide)).trans hcause
  · rw [vcauses]
    exact (hreg F.SAFE_CAUSE_MAP0_MAP (by decide)).trans hmap
  · exact (hreg F.SAFE_PRECHARGE_RESULT (by decide)).trans (hresult hne)

/-- The same for a cause raised after what leaves the latch. -/
theorem State.LatchedBy.from (h : t.LatchedBy u c ch) (k : s.LatchStands t) : s.LatchedBy u c ch := by
  obtain ⟨hoff, ⟨hlatch, hothers⟩, ⟨hfirst, hfirstCh, hlast⟩, hshown, hidle, hresult⟩ := h
  obtain ⟨vcauses, vfirst, vfirstCh, -, vclosing, -⟩ : t.safe.causes = s.safe.causes ∧ t.safe.first = s.safe.first ∧
      t.safe.firstCh = s.safe.firstCh ∧ t.safe.last = s.safe.last ∧ t.safe.closing = s.safe.closing ∧ t.safe.modeEntered = s.safe.modeEntered := by
    simpa only [State.latchView, Prod.mk.injEq] using k.view
  rw [vcauses, vfirst] at hfirst
  rw [vcauses, vfirstCh] at hfirstCh
  exact ⟨hoff.from k, ⟨hlatch, fun d hd => hothers d ((k.hasCause d).trans hd)⟩, ⟨hfirst, hfirstCh, hlast⟩, hshown, hidle,
    fun hne => hresult (vclosing ▸ hne)⟩

theorem State.LockedBy.latchedBy (h : s.LockedBy t c ch) : s.LatchedBy t c ch :=
  ⟨h.off.1, h.latched, h.first, h.shown, h.closing⟩

theorem State.Stands.latchStands (k : s.LockStands t) : s.LatchStands t :=
  k.mono (contains_le (by decide)) id

/-- What leaves the latch, the switches, the mode and X19 leaves LOCKOUT as it is. -/
theorem State.LockedBy.keep (h : s.LockedBy t c ch) (k : t.LockStands u) : s.LockedBy u c ch := by
  obtain ⟨hoff, hlatched, hfirst, hshown, hclosing⟩ := h.latchedBy.keep k.latchStands
  have hx19 : u.isOn F.SAFE_STATUS_FAULT_CLOSED = t.isOn F.SAFE_STATUS_FAULT_CLOSED :=
    congrArg (· == 1) (k.regs F.SAFE_STATUS_FAULT_CLOSED (by decide))
  have hmode : u.mode = t.mode := k.regs F.SYS_MODE_MODE (by decide)
  exact ⟨⟨hoff, hx19.trans h.off.2⟩, hlatched, hfirst, hshown, hclosing, fun he hm => hmode.trans (h.mode he hm)⟩

theorem State.LockedBy.from (h : t.LockedBy u c ch) (k : s.LockStands t) : s.LockedBy u c ch := by
  obtain ⟨hoff, hlatched, hfirst, hshown, hclosing⟩ := h.latchedBy.from k.latchStands
  have hmode : t.mode = s.mode := k.regs F.SYS_MODE_MODE (by decide)
  have hentered : t.safe.modeEntered = s.safe.modeEntered :=
    congrArg (fun x : Nat × Nat × Nat × Nat × Closing × Bool => x.2.2.2.2.2) k.view
  exact ⟨⟨hoff, h.off.2⟩, hlatched, hfirst, hshown, hclosing, fun he hm => h.mode (hentered.trans he) (hmode ▸ hm)⟩

end

/-! ### A cause is latched -/

/-- The mirror shows a latch that is set. -/
theorem State.mirrorCauses_shows (s : State) (hset : s.safe.causes ≠ 0) :
    s.mirrorCauses.isOn F.SAFE_STATUS_LOCKOUT = true ∧ s.mirrorCauses.isOn F.SYS_MODE_LOCKOUT_LATCHED = true ∧
    s.mirrorCauses.rd F.SAFE_CAUSE_LAST = s.safe.last % 256 ∧ s.mirrorCauses.rd F.SAFE_CAUSE_MAP0_MAP = s.safe.causes % two32 := by
  have hlock : s.mirrorCauses.rd F.SAFE_STATUS_LOCKOUT = (if s.safe.causes = 0 then 0 else 1) % 2 := s.rd_wrs_get 6
  have hlatched : s.mirrorCauses.rd F.SYS_MODE_LOCKOUT_LATCHED = (if s.safe.causes = 0 then 0 else 1) % 2 := s.rd_wrs_get 7
  rw [if_neg hset] at hlock hlatched
  have hmap : s.mirrorCauses.rd F.SAFE_CAUSE_MAP0_MAP = s.safe.causes % 2 ^ F.SAFE_CAUSE_MAP0_MAP.width := s.rd_wrs_get 4
  exact ⟨congrArg (· == 1) hlock, congrArg (· == 1) hlatched, s.rd_wrs_get 2, hmap⟩

/-- Safety memory with a cause latched, before the mirror shows it. -/
def State.latchMemory (s : State) (c : Cause) (ch : Nat) : State :=
  { s with
    safe.causes := if s.hasCause c then s.safe.causes else s.safe.causes + 2 ^ c.code
    safe.sinceBoot := if s.safe.sinceBoot / 2 ^ c.code % 2 == 1 then s.safe.sinceBoot else s.safe.sinceBoot + 2 ^ c.code
    safe.first := if s.safe.causes == 0 then c.code else s.safe.first
    safe.firstCh := if s.safe.causes == 0 then ch else s.safe.firstCh
    safe.last := c.code }

/-- The latch takes the cause beside those before it, and shows it. -/
theorem State.latchCause_latchedBy (s : State) (c : Cause) (ch : Nat) :
    ((s.latchCause c ch).hasCause c = true ∧ ∀ d, s.hasCause d = true → (s.latchCause c ch).hasCause d = true) ∧
    ((s.latchCause c ch).safe.first = (if s.safe.causes = 0 then c.code else s.safe.first) ∧
      (s.latchCause c ch).safe.firstCh = (if s.safe.causes = 0 then ch else s.safe.firstCh) ∧ (s.latchCause c ch).safe.last = c.code) ∧
    (s.latchCause c ch).isOn F.SAFE_STATUS_LOCKOUT = true ∧ (s.latchCause c ch).isOn F.SYS_MODE_LOCKOUT_LATCHED = true ∧
    (s.latchCause c ch).rd F.SAFE_CAUSE_LAST = c.code ∧ (s.latchCause c ch).rd F.SAFE_CAUSE_MAP0_MAP = (s.latchCause c ch).safe.causes % two32 := by
  have hhas := s.latchCause_hasCause c ch
  have hset : (s.latchMemory c ch).safe.causes ≠ 0 := fun h0 => by
    have hnone : (s.latchCause c ch).safe.causes = 0 := h0
    simp [State.hasCause, hnone] at hhas
  have hcode : c.code % 256 = c.code := by cases c <;> rfl
  obtain ⟨hlock, hlatched, hlast, hmap⟩ := State.mirrorCauses_shows _ hset
  refine ⟨⟨hhas, (s.latchCause_kept c ch).causes⟩, ⟨?_, ?_, rfl⟩, hlock, hlatched, hlast.trans hcode, hmap⟩
  · show (if (s.safe.causes == 0) = true then c.code else s.safe.first) = _
    simp only [beq_iff_eq]
  · show (if (s.safe.causes == 0) = true then ch else s.safe.firstCh) = _
    simp only [beq_iff_eq]

/-- Switching off leaves the latch and the closing. -/
theorem State.allOff_latchView (s : State) : s.allOff.latchView = s.latchView :=
  congrArg (fun x : SafeState × PwrState × Bool × Bool => (x.1.causes, x.1.first, x.1.firstCh, x.1.last, x.1.closing, x.1.modeEntered))
    s.allOff_stands.view

/-- A closing that runs ends with its result. -/
theorem State.endClosing_ends (s : State) (r : Nat) : (s.endClosing r).safe.closing = .idle ∧
    (s.safe.closing ≠ .idle → (s.endClosing r).rd F.SAFE_PRECHARGE_RESULT = r % 16) := by
  unfold State.endClosing
  split
  · next h => exact ⟨h, fun hne => absurd h hne⟩
  · have hresult : ∀ t : State, (t.wrs [(F.SAFE_STATUS_CLOSING, 0), (F.SAFE_PRECHARGE_RESULT, r)]).rd F.SAFE_PRECHARGE_RESULT = r % 16 :=
      fun t => t.rd_wrs_get 1
    exact ⟨rfl, fun _ => hresult _⟩

/-- The end of a closing leaves the switches and the latch. -/
theorem State.endClosing_stands (s : State) (r : Nat) :
    State.Stands (keysBut standKey [F.SAFE_STATUS_CLOSING.key, F.SAFE_PRECHARGE_RESULT.key])
      (fun s => (s.safe.causes, s.safe.first, s.safe.firstCh, s.safe.last, s.safe.modeEntered)) s (s.endClosing r) :=
  .ite (.refl s) (.trans .of_eq (.wrs _ _))

/-- What both channels do for a cause before the mode follows: outputs off, cause latched, a closing ended (R268, R296). -/
theorem State.disconnect_latchedBy (s : State) (c : Cause) (ch : Nat) :
    s.LatchedBy ((s.allOff.latchCause c ch).endClosing (closingResult c)) c ch := by
  obtain ⟨⟨hhas, hothers⟩, ⟨hfirst, hfirstCh, hlast⟩, hlock, hlatched, hshown, hmap⟩ := s.allOff.latchCause_latchedBy c ch
  have hview := s.allOff_latchView
  have hoff := s.allOff_switchedOff
  have hclosing : (s.allOff.latchCause c ch).safe.closing = s.allOff.safe.closing := rfl
  have hswitches : State.Stands (keysBut standKey [F.SAFE_CAUSE_FIRST.key, F.SAFE_CAUSE_FIRST_CH.key, F.SAFE_CAUSE_LAST.key,
      F.SAFE_CAUSE_COUNT.key, F.SAFE_CAUSE_MAP0_MAP.key, F.SAFE_CAUSE_MAP1_MAP.key, F.SAFE_STATUS_LOCKOUT.key, F.SYS_MODE_LOCKOUT_LATCHED.key])
      (fun _ => ()) s.allOff (s.allOff.latchCause c ch) := .trans .of_eq (.wrs _ _)
  generalize s.allOff = a at *
  generalize a.latchCause c ch = b at *
  have hend := b.endClosing_stands (closingResult c)
  obtain ⟨hidle, hresult⟩ := b.endClosing_ends (closingResult c)
  generalize b.endClosing (closingResult c) = e at *
  simp only [State.latchView, Prod.mk.injEq] at hview
  obtain ⟨vcauses, vfirst, vfirstCh, -, vclosing, -⟩ := hview
  obtain ⟨wcauses, wfirst, wfirstCh, wlast, -⟩ : e.safe.causes = b.safe.causes ∧ e.safe.first = b.safe.first ∧
      e.safe.firstCh = b.safe.firstCh ∧ e.safe.last = b.safe.last ∧ e.safe.modeEntered = b.safe.modeEntered := by
    simpa only [Prod.mk.injEq] using hend.view
  have hkeep : ∀ d, e.hasCause d = b.hasCause d := fun d => by unfold State.hasCause; rw [wcauses]
  have hbefore : ∀ d, a.hasCause d = s.hasCause d := fun d => by unfold State.hasCause; rw [vcauses]
  refine ⟨?_, ⟨(hkeep c).trans hhas, fun d hd => (hkeep d).trans (hothers d ((hbefore d).trans hd))⟩, ⟨?_, ?_, wlast.trans hlast⟩, ⟨?_, ?_, ?_, ?_⟩,
    hidle, fun hne => ?_⟩
  · exact (hoff.keep hswitches).keep hend
  · rw [wfirst, hfirst, vcauses, vfirst]
  · rw [wfirstCh, hfirstCh, vcauses, vfirstCh]
  · exact (congrArg (· == 1) (hend.regs F.SAFE_STATUS_LOCKOUT (by decide))).trans hlock
  · exact (congrArg (· == 1) (hend.regs F.SYS_MODE_LOCKOUT_LATCHED (by decide))).trans hlatched
  · exact (hend.regs F.SAFE_CAUSE_LAST (by decide)).trans hshown
  · rw [wcauses]
    exact (hend.regs F.SAFE_CAUSE_MAP0_MAP (by decide)).trans hmap
  · have hcode : closingResult c % 16 = closingResult c := by cases c <;> rfl
    rw [hresult (by rwa [hclosing, vclosing]), hcode]

/-! ### The entry into LOCKOUT -/

/-- What precedes the entry: the end of a reset window, the start of the reaction time. -/
theorem State.lockoutStart_stands (s : State) (c : Cause) :
    s.LockStands (if s.isOn F.SAFE_STATUS_RESET_WINDOW && !s.hasCause c then s.endWindow .safety else s).reactStart := by
  have hwindow : s.LockStands (s.endWindow .safety) :=
    .trans (.trans .of_eq (.wrs _ _)) ((State.finish_modeKept _ _ _ _ _).mono (contains_le (by decide)) fun x =>
      (x.1.causes, x.1.first, x.1.firstCh, x.1.last, x.1.closing, x.1.modeEntered))
  exact .trans (.ite hwindow (.refl s)) (.ite .of_eq (.refl _))

/-- The mode follows a cause: LOCKOUT with its records, where a mode has been entered. -/
def State.lockMode (s : State) : State :=
  if s.mode = mLOCKOUT ∨ s.safe.modeEntered = false ∨ s.mode = mSHELF then s
  else
    let s4 := (s.setMode mLOCKOUT bySafety).finish 0x0101 0 .safety
    s4.wr F.SAFE_COUNT_LOCKOUTS (s4.rd F.SAFE_COUNT_LOCKOUTS + 1)

theorem State.lockMode_latchStands (s : State) : s.LatchStands s.lockMode := by
  have hset : ∀ {t u : State}, t.SetKept u → t.LatchStands u := fun h =>
    h.mono (contains_le (by decide)) fun x => (x.1.causes, x.1.first, x.1.firstCh, x.1.last, x.1.closing, x.1.modeEntered)
  exact .ite (.refl s) (((hset (s.setMode_enters bySafety (by decide)).kept).trans (hset (State.finish_modeKept _ _ _ _ _).setKept)).trans (.wr _ _))

theorem State.lockMode_mode (s : State) (hentered : s.safe.modeEntered = true) (hshelf : s.mode ≠ mSHELF) : s.lockMode.mode = mLOCKOUT := by
  unfold State.lockMode
  split
  · next h => exact h.resolve_right (by rw [hentered]; simp [hshelf])
  · have hset := s.setMode_enters (new := mLOCKOUT) bySafety (by decide)
    exact (State.rd_wr_ne _ _ _ _ (by decide)).trans (((State.finish_modeKept _ _ _ _ _).regs F.SYS_MODE_MODE (by decide)).trans hset.mode)

theorem State.lockMode_lockKept (s : State) : s.LockKept s.lockMode :=
  .ite (.refl s) (((s.setMode_lockKept bySafety (by decide)).trans (State.ModeKept.lockKept (State.finish_modeKept _ _ _ _ _))).trans (.wr _ _))

/-- X19 is open in LOCKOUT and SHELF, and before a mode has been entered (R280). -/
theorem State.setX19_opens (s : State) (h : s.mode = mLOCKOUT ∨ s.safe.modeEntered = false ∨ s.mode = mSHELF) :
    s.setX19.isOn F.SAFE_STATUS_FAULT_CLOSED = false := by
  unfold State.setX19
  refine (congrArg (· == 1) (State.rd_wrB_same _ _ _)).trans ?_
  rcases h with h | h | h <;> simp [h]

/-- After it the module is in LOCKOUT, or it had entered no mode that a cause ends. -/
theorem State.lockMode_ends (s : State) : s.lockMode.mode = mLOCKOUT ∨ s.lockMode.safe.modeEntered = false ∨ s.lockMode.mode = mSHELF := by
  by_cases h : s.safe.modeEntered = true ∧ s.mode ≠ mSHELF
  · exact .inl (s.lockMode_mode h.1 h.2)
  · have hstay : s.lockMode = s := if_pos (.inr (by simpa [Classical.or_iff_not_imp_left] using h))
    rw [hstay]
    exact .inr (by simpa [Classical.or_iff_not_imp_left] using h)

/-- The record of a cause (R296). -/
def State.lockRecord (s : State) (c : Cause) (ch : Nat) : Rec :=
  { kind := .safety, system := true, fromStfP := true
    data := [c.code, ch, s.rd F.SAFE_CAUSE_COUNT, 0] ++ leBytes 4 (s.rd F.SAFE_CAUSE_MAP0_MAP) ++ leBytes 4 (s.rd F.SAFE_CAUSE_MAP1_MAP)
      ++ leBytes 2 (s.rd F.SAFE_REACT_LAST) }

/-- A demand is counted. -/
def State.countDemand (s : State) : State := s.wr F.SAFE_COUNT_DEMANDS (s.rd F.SAFE_COUNT_DEMANDS + 1)

theorem State.lockout_eq (s : State) (c : Cause) (ch : Nat) : s.lockout c ch =
    let s0 := (if s.isOn F.SAFE_STATUS_RESET_WINDOW && !s.hasCause c then s.endWindow .safety else s).reactStart
    let s1 := (s0.allOff.latchCause c ch).endClosing (closingResult c)
    (s1.post (s1.lockRecord c ch)).lockMode.countDemand.setX19 := by
  unfold State.lockout State.lockMode State.countDemand
  rfl

/-- The registers and the part of the safety card that say whether the mode follows a cause. -/
abbrev State.ModeStands (s t : State) : Prop :=
  State.Stands (· == F.SYS_MODE_MODE.key) (fun s => s.safe.modeEntered) s t

theorem State.lockout_modeStands (s : State) (c : Cause) (ch : Nat) :
    s.ModeStands ((s.allOff.latchCause c ch).endClosing (closingResult c)) := by
  have hoff : s.ModeStands s.allOff := s.allOff_stands.mono (fun q hq => eq_of_beq hq ▸ by decide) fun x => x.1.modeEntered
  exact (hoff.trans (.trans .of_eq (.wrs _ _))).trans (.ite (.refl _) (.trans .of_eq (.wrs _ _)))

/-- LOCKOUT latches its cause and shows it, whatever was under way (R41, R268, R296). -/
theorem State.lockout_lockedBy (s : State) (c : Cause) (ch : Nat) : s.LockedBy (s.lockout c ch) c ch := by
  rw [State.lockout_eq]
  extract_lets s0 s1
  have hstart : s.LockStands s0 := s.lockoutStart_stands c
  refine State.LockedBy.from ?_ hstart
  have hlatched : s0.LatchedBy s1 c ch := s0.disconnect_latchedBy c ch
  have hpost := State.post_modeKept s1 (s1.lockRecord c ch)
  have hmode := (s0.lockout_modeStands c ch).trans (hpost.mono (fun q hq => eq_of_beq hq ▸ by decide) fun x => x.1.modeEntered)
  have h2 := hlatched.keep (hpost.mono (contains_le (by decide)) fun x =>
    (x.1.causes, x.1.first, x.1.firstCh, x.1.last, x.1.closing, x.1.modeEntered))
  generalize s1.post (s1.lockRecord c ch) = s2 at hmode h2 ⊢
  have h3 := h2.keep s2.lockMode_latchStands
  have hends := s2.lockMode_ends
  have hlocked : s0.safe.modeEntered = true → s0.mode ≠ mSHELF → s2.lockMode.mode = mLOCKOUT := fun he hm =>
    s2.lockMode_mode (hmode.view.trans he) fun hs => hm ((hmode.regs F.SYS_MODE_MODE (by decide)).symm.trans hs)
  generalize s2.lockMode = s3 at h3 hends hlocked ⊢
  have hcount : s3.LockStands s3.countDemand := .wr _ _
  have hstay : s3.countDemand.mode = s3.mode := hcount.regs F.SYS_MODE_MODE (by decide)
  obtain ⟨hoff, hlatch, hfirst, hshown, hclosing⟩ := h3.keep (hcount.latchStands.trans (u := State.setX19 _) (.wrB _ _))
  refine ⟨⟨hoff, State.setX19_opens _ ?_⟩, hlatch, hfirst, hshown, hclosing, fun he hm => ?_⟩
  · rw [hstay]
    exact hends
  · exact (State.rd_wr_ne _ _ _ _ (by decide)).trans (hstay.trans (hlocked he hm))

/-- The entry into LOCKOUT leaves every other register of the safety card, SYS_MODE and SE_THROTTLE, and what the card holds beside the latch. -/
theorem State.lockout_lockKept (s : State) (c : Cause) (ch : Nat) : s.LockKept (s.lockout c ch) := by
  rw [State.lockout_eq]
  extract_lets s0 s1
  have h0 : s.LockKept s0 := .trans (.ite (State.endWindow_lockKept _ _) (.refl s)) (State.reactStart_lockKept _)
  have h1 : s0.LockKept s1 := (s0.allOff_lockKept.trans (State.latchCause_lockKept _ _ _)).trans (State.endClosing_lockKept _ _)
  have h3 := (State.ModeKept.lockKept (State.post_modeKept _ _)).trans (State.lockMode_lockKept (s1.post (s1.lockRecord c ch)))
  exact ((h0.trans h1).trans h3).trans (.trans (.wr _ _) (State.setX19_lockKept _))

/-! ### Raising a cause (R268) -/

/-- Two causes only block READY while the string is open; in every other case a cause is LOCKOUT. -/
theorem State.raiseCause_eq (s : State) {c : Cause} (h : (c ≠ .inputDemand ∧ c ≠ .stwLow) ∨ s.closed = true) (ch : Nat) :
    s.raiseCause c ch = s.lockout c ch := by
  unfold State.raiseCause
  split
  · exact if_pos (h.resolve_left (by simp))
  · exact if_pos (h.resolve_left (by simp))
  · rfl

theorem State.raiseCause_lockedBy (s : State) {c : Cause} (h : (c ≠ .inputDemand ∧ c ≠ .stwLow) ∨ s.closed = true) (ch : Nat) :
    s.LockedBy (s.raiseCause c ch) c ch := s.raiseCause_eq h ch ▸ s.lockout_lockedBy c ch

theorem State.raiseCause_lockKept (s : State) {c : Cause} (h : (c ≠ .inputDemand ∧ c ≠ .stwLow) ∨ s.closed = true) (ch : Nat) :
    s.LockKept (s.raiseCause c ch) := s.raiseCause_eq h ch ▸ s.lockout_lockKept c ch

/-- A demand and a low temperature only block READY while the string is open. -/
theorem State.raiseCause_blocks (s : State) (ch : Nat) (hopen : s.closed = false) :
    s.raiseCause .inputDemand ch = s.wr F.SYS_MODE_READY_BLOCK (s.rd F.SYS_MODE_READY_BLOCK ||| 0x20) ∧
    s.raiseCause .stwLow ch = s.wr F.SYS_MODE_READY_BLOCK (s.rd F.SYS_MODE_READY_BLOCK ||| 0x80) := by
  unfold State.raiseCause
  simp [hopen]

/-- The two bits that those causes set in READY_BLOCK. -/
theorem State.blockReady_bit (s : State) {i : Nat} (hi : i < 8) :
    ((s.wr F.SYS_MODE_READY_BLOCK (s.rd F.SYS_MODE_READY_BLOCK ||| 2 ^ i)).rd F.SYS_MODE_READY_BLOCK).testBit i = true := by
  rw [State.rd_wr_same, show F.SYS_MODE_READY_BLOCK.width = 8 from rfl, Nat.testBit_mod_two_pow, Nat.testBit_or, Nat.testBit_two_pow_self]
  simp [hi]

/-- X19 judged anew leaves LOCKOUT, where it stays open. -/
theorem State.LockedBy.setX19 {s t : State} {c : Cause} {ch : Nat} (h : s.LockedBy t c ch)
    (hx : t.setX19.isOn F.SAFE_STATUS_FAULT_CLOSED = false) : s.LockedBy t.setX19 c ch := by
  have k : State.Stands (latchKeys ++ [F.SYS_MODE_MODE.key]).contains State.latchView t t.setX19 := .wrB t _
  obtain ⟨hoff, hlatched, hfirst, hshown, hclosing⟩ := h.latchedBy.keep (k.mono (contains_le (by decide)) id)
  exact ⟨⟨hoff, hx⟩, hlatched, hfirst, hshown, hclosing, fun he hm => (k.regs F.SYS_MODE_MODE (by decide)).trans (h.mode he hm)⟩

/-- A cause raised after one register of the channels is written. -/
theorem State.lockedBy_after_wr (s : State) (f : Field) (n : Nat) {c : Cause} (hc : c ≠ .inputDemand ∧ c ≠ .stwLow) (ch : Nat)
    (hf : (latchKeys ++ [F.SYS_MODE_MODE.key, F.SAFE_STATUS_FAULT_CLOSED.key]).contains f.key = false := by decide)
    (hstand : keysBut standKey lockKeys f.key = true := by decide) :
    s.LockedBy ((s.wr f n).raiseCause c ch) c ch ∧ ((s.wr f n).raiseCause c ch).rd f = n % 2 ^ f.width :=
  ⟨((s.wr f n).raiseCause_lockedBy (.inl hc) ch).from (.wr s n hf),
    (((s.wr f n).raiseCause_lockKept (.inl hc) ch).regs f hstand).trans (State.rd_wr_same _ _ _)⟩

/-! ### The clock, the cross-link and the input delay (R267–R269, R304) -/

/-- The clock is judged against 2 % (R269). -/
theorem clock_locks (s : State) (p : Int) : (p.natAbs ≤ 20000 → exec (.clock p) s = .next s) ∧
    (20000 < p.natAbs → ∃ t, exec (.clock p) s = .next t ∧ s.LockedBy t .clock 2) := by
  have hexec : exec (.clock p) s = .next (if p.natAbs ≤ 20000 then s else s.raiseCause .clock 2) := rfl
  refine ⟨fun h => by rw [hexec, if_pos h], fun h => ⟨_, by rw [hexec, if_neg (by omega)], s.raiseCause_lockedBy (.inl (by decide)) 2⟩⟩

/-- A lost cross-link is a cause of both channels and shows (R304). -/
theorem xlinkLost_locks (s : State) : ∃ t, exec .xlinkLost s = .next t ∧ s.LockedBy t .xlink 3 ∧ t.isOn F.SAFE_STATUS_XLINK_OK = false := by
  obtain ⟨hlock, hread⟩ := s.lockedBy_after_wr F.SAFE_STATUS_XLINK_OK 0 (c := .xlink) (by decide) 3
  generalize ht : (s.wr F.SAFE_STATUS_XLINK_OK 0).raiseCause .xlink 3 = t at *
  refine ⟨t.setX19, ht ▸ rfl, ?_, ?_⟩
  · have hoff : t.isOn F.SAFE_STATUS_XLINK_OK = false := congrArg (· == 1) hread
    refine hlock.setX19 ((congrArg (· == 1) (State.rd_wrB_same t F.SAFE_STATUS_FAULT_CLOSED _)).trans ?_)
    simp [hoff]
  · exact congrArg (· == 1) ((t.setX19_lockKept.regs F.SAFE_STATUS_XLINK_OK (by decide)).trans hread)

end Sys2Proof.Machine
end

section
/-! PROOFS. The causes of LOCKOUT event by event (R267–R293). -/

namespace Sys2Proof.Machine

-- One proof after another: a thread for each would not fit the memory of the check.
set_option Elab.async false

/-! ### A cause without a register, and the block of parameters -/

/-- After a cause the safety card's inputs and its block in force are those before it. -/
theorem State.LockKept.inputs {s t : State} (h : s.LockKept t) :
    t.safe.inputs = s.safe.inputs ∧ t.safe.blockA = s.safe.blockA ∧ t.safe.ssdDelay = s.safe.ssdDelay :=
  have hview : t.safe.unlocked = s.safe.unlocked := h.view
  ⟨(congrArg SafeState.inputs hview :), (congrArg SafeState.blockA hview :), (congrArg SafeState.ssdDelay hview :)⟩

/-- The safety functions of the block do nothing before the first block is confirmed (R300). -/
theorem block_functions_idle (s : State) (k j ch x : Nat) (hi : Bool) (v : Int) (h : s.safe.blockA = []) :
    exec (.svwCountExpiry k j hi v) s = .next s ∧ exec (.svwFrame k j hi) s = .next s ∧ exec (.slcPeak ch x) s = .next s ∧
    exec (.slcTime ch x) s = .next s ∧ exec (.sdiTrip hi ch x) s = .next s ∧ exec .stwSensor s = .next s ∧ exec (.stwTrip k ch) s = .next s := by
  have hb : s.safe.blockA.isEmpty = true := by rw [h]; rfl
  refine ⟨?_, ?_, ?_, ?_, ?_, ?_, ?_⟩
  · show execSvwCountExpiry k j hi v s = _
    simp [execSvwCountExpiry, hb]
  · show execSvwFrame k j hi s = _
    simp [execSvwFrame, hb]
  · show execSlcPeak ch x s = _
    simp [execSlcPeak, hb]
  · show execSlcTime ch x s = _
    simp [execSlcTime, hb]
  · show execSdiTrip hi ch x s = _
    simp [execSdiTrip, hb]
  · show execStwSensor s = _
    simp [execStwSensor, hb]
  · show execStwTrip k ch s = _
    simp [execStwTrip, hb]

/-- The bits of a mask that finds nothing are clear. -/
theorem bit_clear_of_and_eq_zero {w m i : Nat} (h : w &&& m = 0) (hm : m.testBit i = true) : w / 2 ^ i % 2 = 0 := by
  have hbit : (w &&& m).testBit i = false := by rw [h, Nat.zero_testBit]
  rw [Nat.testBit_and, hm, Bool.and_true] at hbit
  rw [← Nat.toNat_testBit, hbit]
  rfl

/-- An output is off once one channel commands its switch off. -/
theorem State.outOn_of_own (s : State) {own o : Nat} (hown : own = 0x111 ∨ own = 0x444) (ho : o < 3) (h : s.switches &&& own = 0) :
    s.outOn o = false := by
  unfold State.outOn
  have hcases : o = 0 ∨ o = 1 ∨ o = 2 := by omega
  rcases hown with rfl | rfl
  · have hhs : s.switches / 16 ^ o % 2 = 0 := by
      rw [show 16 ^ o = 2 ^ (4 * o) by rw [Nat.pow_mul]]
      exact bit_clear_of_and_eq_zero h (by rcases hcases with rfl | rfl | rfl <;> decide)
    rw [hhs]
    rfl
  · have hls : s.switches / (4 * 16 ^ o) % 2 = 0 := by
      rw [show 4 * 16 ^ o = 2 ^ (4 * o + 2) by rw [Nat.pow_add, Nat.pow_mul, Nat.mul_comm]]
      exact bit_clear_of_and_eq_zero h (by rcases hcases with rfl | rfl | rfl <;> decide)
    rw [hls, show ((0 : Nat) == 1) = false from rfl, Bool.and_false]

/-- A demand over the cross-link switches off the receiving channel's own switches alone (R267). -/
theorem xlinkDemand_switches (s : State) (ch : Nat) : ∃ t, exec (.xlinkDemand ch) s = .next t ∧
    t.switches &&& (if ch = 0 then 0x111 else 0x444) = 0 ∧
    t.switches &&& (if ch = 0 then 0xEEE else 0xBBB) = s.switches &&& (if ch = 0 then 0xEEE else 0xBBB) ∧ t.mode = s.mode ∧ t.safe = s.safe ∧
    (∀ o, o < 3 → t.outOn o = false) := by
  obtain ⟨own, other, hown, hother⟩ : ∃ own other : Nat, own = (if ch = 0 then 0x111 else 0x444) ∧ other = (if ch = 0 then 0xEEE else 0xBBB) :=
    ⟨_, _, rfl, rfl⟩
  have hpair : (own = 0x111 ∧ other = 0xEEE) ∨ (own = 0x444 ∧ other = 0xBBB) := by
    by_cases h : ch = 0
    · simp [hown, hother, h]
    · simp [hown, hother, h]
  have hstands := s.setSwitches_stands (s.switches - (s.switches &&& own))
  have hsw := s.setSwitches_switches (s.switches - (s.switches &&& own))
  refine ⟨(s.wr F.SAFE_OUT_SWITCH (s.switches - (s.switches &&& own))).mirrorSwitches, by rw [hown]; rfl, ?_⟩
  rw [← hown, ← hother]
  generalize (s.wr F.SAFE_OUT_SWITCH (s.switches - (s.switches &&& own))).mirrorSwitches = t at *
  have hoff : t.switches &&& own = 0 := by
    rw [hsw, mod_two_pow_and _ (by rcases hpair with ⟨h, -⟩ | ⟨h, -⟩ <;> rw [h] <;> decide), sub_and_and_self]
  have hothers : t.switches &&& other = s.switches &&& other := by
    rw [hsw, mod_two_pow_and _ (by rcases hpair with ⟨-, h⟩ | ⟨-, h⟩ <;> rw [h] <;> decide),
      sub_and_and_of_disjoint _ (by rcases hpair with ⟨h, k⟩ | ⟨h, k⟩ <;> rw [h, k] <;> decide)]
  refine ⟨hoff, hothers, hstands.regs F.SYS_MODE_MODE (by decide), congrArg Prod.fst hstands.view, fun o ho => ?_⟩
  exact t.outOn_of_own (hpair.imp And.left And.left) ho hoff

/-! ### Discrepancy, input delay, feedback, test pulses (R268, R273, R274, R278) -/

/-- A channel that waits for the other raises DISCREPANCY at the end of its time (R273). -/
theorem discrepancy_locks (s : State) (i : Nat) :
    ((s.inClass i = 1 ∨ s.inClass i = 2) → ((s.input i).st = .demand ∧ (s.input i).both = false) ∨ (s.input i).st = .back →
      ∃ t, exec (.discrepancy i) s = .next t ∧ s.LockedBy t .discrepancy 3 ∧ (t.input i).disc = true ∧ t.inDemand i = true) ∧
    ((s.inClass i ≠ 1 ∧ s.inClass i ≠ 2) ∨ (s.input i).st = .healthy ∨ ((s.input i).st = .demand ∧ (s.input i).both = true) →
      exec (.discrepancy i) s = .next s) := by
  constructor
  · intro hclass hwaits
    have hwait : (((s.input i).st == .demand && !(s.input i).both) || (s.input i).st == .back) = true := by
      rcases hwaits with ⟨h1, h2⟩ | h1
      · rw [h1, h2]
        rfl
      · rw [h1]
        rfl
    have hin : (s.inClass i == 1 || s.inClass i == 2) = true := by simpa using hclass
    let x : SafeInput := ({ s.input i with disc := true } : SafeInput).see
    let s1 := (s.setInput i x).mirrorInputs
    have hx : x.disc = true ∧ x.st = (s.input i).st := by
      show (SafeInput.see _).disc = _ ∧ (SafeInput.see _).st = _
      unfold SafeInput.see
      split <;> simp
    have h1 : s.LockStands s1 := .trans .of_eq (.wrs _ _)
    obtain ⟨hinputs, hblock, -⟩ := (s1.raiseCause_lockKept (c := .discrepancy) (.inl (by decide)) 3).inputs
    have hlocked := (s1.raiseCause_lockedBy (c := .discrepancy) (.inl (by decide)) 3).from h1
    have hexec : exec (.discrepancy i) s = .next (s1.raiseCause .discrepancy 3).setReady := by
      exact congrArg Host.Outcome.next (if_pos (Bool.and_eq_true _ _ ▸ ⟨hin, hwait⟩))
    generalize s1.raiseCause .discrepancy 3 = t at *
    have hinput : t.setReady.input i = x := by
      unfold State.input
      rw [show t.setReady.safe.inputs = s1.safe.inputs from hinputs]
      exact Tbl.get_put_same _ _ _ _
    have hclassKept : t.setReady.inClass i = s.inClass i := by
      unfold State.inClass
      rw [show t.setReady.safe.blockA = s.safe.blockA from hblock]
    refine ⟨t.setReady, hexec, hlocked.keep (.wr t _), by rw [hinput]; exact hx.1, ?_⟩
    unfold State.inDemand
    rw [hinput, hx.2, hclassKept, hin]
    rcases hwaits with ⟨h, -⟩ | h <;> rw [h] <;> rfl
  · intro hidle
    show execDiscrepancy i s = _
    unfold execDiscrepancy
    rw [if_neg]
    rcases hidle with ⟨h1, h2⟩ | h | ⟨h1, h2⟩ <;> simp [*]


/-- The end of SSD_DELAY raises INPUT_DEMAND once; with the string open it only blocks READY (R268). -/
theorem ssdDelay_locks (s : State) : (s.safe.ssdDelay = false → exec .ssdDelayExpiry s = .next s) ∧
    (s.safe.ssdDelay = true → s.closed = true → ∃ t, exec .ssdDelayExpiry s = .next t ∧ s.LockedBy t .inputDemand 3 ∧ t.safe.ssdDelay = false) ∧
    (s.safe.ssdDelay = true → s.closed = false → ∃ t, exec .ssdDelayExpiry s = .next t ∧ t.mode = s.mode ∧ t.safe = { s.safe with ssdDelay := false } ∧
      (t.rd F.SYS_MODE_READY_BLOCK).testBit 5 = true) := by
  let s1 : State := { s with safe.ssdDelay := false }
  have hexec : s.safe.ssdDelay = true → exec .ssdDelayExpiry s = .next (s1.raiseCause .inputDemand 3) := fun h =>
    congrArg Host.Outcome.next (if_pos h)
  refine ⟨fun h => congrArg Host.Outcome.next (if_neg (by simp [h])), fun h hcl => ⟨_, hexec h, ?_, ?_⟩, fun h hcl => ⟨_, hexec h, ?_⟩⟩
  · exact (s1.raiseCause_lockedBy (.inr hcl) 3).from .of_eq
  · exact ((s1.raiseCause_lockKept (.inr hcl) 3).inputs).2.2
  · rw [(s1.raiseCause_blocks 3 hcl).1]
    exact ⟨State.rd_wr_ne _ _ _ _ (by decide), rfl, s1.blockReady_bit (i := 5) (by decide)⟩

/-- A feedback that does not follow its contactor is a cause of both channels (R274). -/
theorem feedback_locks (s : State) (i : Nat) (hlow : 1 ≤ i) (hhigh : i ≤ 8) :
    (s.inClass i = 3 → s.fbAgrees i = false → ∃ t, exec (.feedbackTimeout i) s = .next t ∧ s.LockedBy t .feedback 3 ∧
      (t.rd F.SAFE_IN_FAULT_FEEDBACK_FAULT).testBit (i - 1) = true) ∧
    (s.inClass i ≠ 3 ∨ s.fbAgrees i = true → exec (.feedbackTimeout i) s = .next s) := by
  refine ⟨fun hclass hfb => ?_, fun h => congrArg Host.Outcome.next (if_neg (by rcases h with h | h <;> simp [h]))⟩
  obtain ⟨hlock, hread⟩ := s.lockedBy_after_wr F.SAFE_IN_FAULT_FEEDBACK_FAULT
    (s.rd F.SAFE_IN_FAULT_FEEDBACK_FAULT ||| 2 ^ (i - 1)) (c := .feedback) (by decide) 3
  refine ⟨_, congrArg Host.Outcome.next (if_pos (by simp [hclass, hfb])), hlock, ?_⟩
  rw [hread, show F.SAFE_IN_FAULT_FEEDBACK_FAULT.width = 8 from rfl, Nat.testBit_mod_two_pow, Nat.testBit_or, Nat.testBit_two_pow_self]
  simp
  omega

/-- A test pulse that the switch does not follow is a cause of the channel whose turn it is, outside 200 ms of a closing (R278, R279). -/
theorem testPulse_locks (s : State) (o : Nat) :
    (o ≤ 2 → s.outOn o = true → s.safe.closing = .idle → s.safe.closedAt + 50000000 ≤ s.time.count → ∃ t,
      exec (.outputTestPulse o false) s = .next t ∧ s.LockedBy t .output (s.plumbIdx / 4000 % 2 + 1) ∧
      (t.rd F.SAFE_OUT_TEST_FAIL).testBit o = true) ∧
    (2 < o ∨ s.outOn o = false ∨ s.safe.closing ≠ .idle ∨ s.time.count < s.safe.closedAt + 50000000 →
      exec (.outputTestPulse o false) s = .next s) ∧
    exec (.outputTestPulse o true) s = .next s := by
  have hexec : ∀ b, exec (.outputTestPulse o b) s = execOutputTestPulse o b s := fun _ => rfl
  refine ⟨fun ho hon hidle htime => ?_, fun h => ?_, ?_⟩
  · obtain ⟨hlock, hread⟩ := s.lockedBy_after_wr F.SAFE_OUT_TEST_FAIL (s.rd F.SAFE_OUT_TEST_FAIL ||| 2 ^ o) (c := .output) (by decide)
      (s.plumbIdx / 4000 % 2 + 1)
    refine ⟨_, ?_, hlock, ?_⟩
    · rw [hexec]
      exact congrArg Host.Outcome.next (if_neg (by simp [hon, hidle]; omega))
    · rw [hread, show F.SAFE_OUT_TEST_FAIL.width = 3 from rfl, Nat.testBit_mod_two_pow, Nat.testBit_or, Nat.testBit_two_pow_self]
      simp
      omega
  · rw [hexec]
    exact congrArg Host.Outcome.next (if_pos (by tauto))
  · rw [hexec]
    exact congrArg Host.Outcome.next (if_pos (by simp))

/-! ### Voltage, current, direction and temperature (R284–R293) -/

/-- A position beyond the window for its time, and the frame check of channel B, raise their causes (R284, R285). -/
theorem svw_locks (s : State) (k j : Nat) (hi : Bool) (v : Int) (hb : s.safe.blockA ≠ []) :
    (s.segOk k = true → 1 ≤ j → j ≤ 16 →
      (if s.wdSlot = k then shadowOut s.safe.blockA v hi = true else 4 * u8 s.safe.blockA 36 ≤ s.svwFor k j hi) → ∃ t,
      exec (.svwCountExpiry k j hi v) s = .next t ∧ s.LockedBy t (if hi then .svwHigh else .svwLow) 1 ∧ t.isOn F.SAFE_STATUS_SVW_DEMAND = true) ∧
    (s.segOk k = false ∨ j = 0 ∨ 16 < j ∨ (if s.wdSlot = k then shadowOut s.safe.blockA v hi = false else s.svwFor k j hi < 4 * u8 s.safe.blockA 36) →
      exec (.svwCountExpiry k j hi v) s = .next s) ∧
    (s.segOk k = true → 1 ≤ j → j ≤ 16 → 4 * u8 s.safe.blockA 40 ≤ s.svwFor k j hi → ∃ t, exec (.svwFrame k j hi) s = .next t ∧
      s.LockedBy t .svwFrame 2 ∧ t.isOn F.SAFE_STATUS_SVW_DEMAND = true) ∧
    (s.segOk k = false ∨ j = 0 ∨ 16 < j ∨ s.svwFor k j hi < 4 * u8 s.safe.blockA 40 → exec (.svwFrame k j hi) s = .next s) := by
  have hblock : s.safe.blockA.isEmpty = false := by simpa using hb
  have hcount : exec (.svwCountExpiry k j hi v) s = execSvwCountExpiry k j hi v s := rfl
  have hframe : exec (.svwFrame k j hi) s = execSvwFrame k j hi s := rfl
  have hcause : (if hi then Cause.svwHigh else .svwLow) ≠ .inputDemand ∧ (if hi then Cause.svwHigh else .svwLow) ≠ .stwLow := by
    cases hi <;> decide
  have hj : 1 ≤ j → j ≤ 16 → inR 1 16 j = true := fun h1 h2 => by simp [inR, h1, h2]
  have hbeyond : 16 < j → inR 1 16 j = false := fun h => by simp [inR, h]
  refine ⟨fun hk h1 h2 hhit => ?_, fun h => ?_, fun hk h1 h2 hhit => ?_, fun h => ?_⟩
  · obtain ⟨hlock, hread⟩ := s.lockedBy_after_wr F.SAFE_STATUS_SVW_DEMAND 1 hcause 1
    refine ⟨_, ?_, hlock, congrArg (· == 1) hread⟩
    rw [hcount]
    refine congrArg Host.Outcome.next (if_neg ?_)
    split at hhit <;> simp [hj h1 h2, *]
  · rw [hcount]
    refine congrArg Host.Outcome.next (if_pos ?_)
    rcases h with h | rfl | h | h
    · simp [h]
    · simp [inR]
    · simp [hbeyond h]
    · split at h <;> simp [*]
  · obtain ⟨hlock, hread⟩ := s.lockedBy_after_wr F.SAFE_STATUS_SVW_DEMAND 1 (c := .svwFrame) (by decide) 2
    refine ⟨_, ?_, hlock, congrArg (· == 1) hread⟩
    rw [hframe]
    exact congrArg Host.Outcome.next (if_neg (by simp [hblock, hk, hj h1 h2, hhit]))
  · rw [hframe]
    refine congrArg Host.Outcome.next (if_pos ?_)
    rcases h with h | rfl | h | h
    · simp [h]
    · simp [inR]
    · simp [hbeyond h]
    · simp [h]


/-- An event that raises its cause just where a condition holds. -/
theorem locks_iff {s : State} {c : Cause} {ch : Nat} {o : Out} {bad : Bool} {p : Prop} (ho : o = .next (if bad then s else s.raiseCause c ch))
    (hc : c ≠ .inputDemand ∧ c ≠ .stwLow) (hp : p ↔ bad = false) : (p → ∃ t, o = .next t ∧ s.LockedBy t c ch) ∧ (¬p → o = .next s) := by
  cases bad
  · exact ⟨fun _ => ⟨_, ho, s.raiseCause_lockedBy (.inl hc) ch⟩, fun h => absurd (hp.2 rfl) h⟩
  · exact ⟨fun h => absurd (hp.1 h) (by decide), fun _ => ho⟩

/-- The current functions raise their causes by the channel named, and only where their condition holds (R288, R290). -/
theorem current_locks (s : State) (ch x : Nat) (chg : Bool) (hb : s.safe.blockA ≠ []) :
    (∀ p : Prop, p = (if ch = 1 then 2 ≤ s.cim.slcPk else ((1000 * pHallPeak s.safe.blockA : Nat) : Rat) < s.hallMa x) →
      (p → ∃ t, exec (.slcPeak ch x) s = .next t ∧ s.LockedBy t .slcPeak ch) ∧ (¬p → exec (.slcPeak ch x) s = .next s)) ∧
    (∀ p : Prop, p = (if ch = 1 then 4 * u16 s.safe.blockA 48 ≤ s.cim.slcTm else
        ((1000 * (if s.safe.svcSignal = true ∨ s.isOn F.SAFE_STATUS_XLINK_OK = false then pSvcMax s.safe.blockA else pHallMax s.safe.blockA) : Nat) : Rat) <
          s.hallMa x) →
      (p → ∃ t, exec (.slcTime ch x) s = .next t ∧ s.LockedBy t .slcTime ch) ∧ (¬p → exec (.slcTime ch x) s = .next s)) ∧
    (∀ p : Prop, p = (s.isOn (if chg then F.SAFE_STATUS_SDI_CHG else F.SAFE_STATUS_SDI_DIS) = true ∧
        if ch = 1 then 4 * u16 s.safe.blockA 60 ≤ (if chg then s.cim.sdiChg else s.cim.sdiDis) else
          ((max (100 * pSdiTol s.safe.blockA) (10 * pHallFs s.safe.blockA) : Nat) : Rat) < s.hallMa x) →
      (p → ∃ t, exec (.sdiTrip chg ch x) s = .next t ∧ s.LockedBy t (if chg then .sdiChg else .sdiDis) ch) ∧
      (¬p → exec (.sdiTrip chg ch x) s = .next s)) ∧
    (s.ntcFaulty = true → ∃ t, exec .stwSensor s = .next t ∧ s.LockedBy t .stwSensor 1) ∧
    (s.ntcFaulty = false → exec .stwSensor s = .next s) := by
  have hblock : s.safe.blockA.isEmpty = false := by simpa using hb
  refine ⟨fun p hp => locks_iff (c := .slcPeak) rfl (by decide) ?_, fun p hp => locks_iff (c := .slcTime) rfl (by decide) ?_,
    fun p hp => locks_iff (c := if chg then .sdiChg else .sdiDis) rfl (by cases chg <;> decide) ?_, fun h => ?_, fun h => ?_⟩
  · rw [hp]
    split <;> simp [*]
  · rw [hp]
    split <;> simp [*]
  · rw [hp]
    split <;> simp [and_comm, *]
  · exact ⟨_, congrArg Host.Outcome.next (if_neg (by simp [hblock, h])), s.raiseCause_lockedBy (.inl (by decide)) 1⟩
  · exact congrArg Host.Outcome.next (if_pos (by simp [h]))

/-- The mirror of the inputs leaves the switches, the mode and the safety card's state; SDI_CHG shows the demands and STW (R290, R292). -/
theorem State.mirrorInputs_spec (s : State) :
    State.Stands (keysBut standKey [F.SAFE_IN_CH_A.key, F.SAFE_IN_CH_B.key, F.SAFE_IN_DEMAND.key, F.SAFE_IN_DISCREPANCY.key,
      F.SAFE_IN_FAULT_STARTUP_SEEN.key, F.SAFE_STATUS_SSD_DEMAND.key, F.SAFE_STATUS_SDI_CHG.key, F.SAFE_STATUS_SDI_DIS.key]) State.safe
      s s.mirrorInputs ∧ s.mirrorInputs.isOn F.SAFE_STATUS_SDI_CHG = (s.fnDemand 2 || s.safe.stwInhibit) := by
  have hread : s.mirrorInputs.rd F.SAFE_STATUS_SDI_CHG = (if s.fnDemand 2 || s.safe.stwInhibit then 1 else 0) % 2 := s.rd_wrs_get 6
  refine ⟨?_, (congrArg (· == 1) hread).trans ?_⟩
  · unfold State.mirrorInputs
    exact .wrs s _
  · cases s.fnDemand 2 || s.safe.stwInhibit <;> rfl

/-- A temperature outside the start window blocks READY (R46, R292). -/
theorem State.setReady_thermal (s : State) (h : s.safe.startOut = true) : (s.setReady.rd F.SYS_MODE_READY_BLOCK).testBit 7 = true := by
  have hterm : ∀ (c : Bool) (v : Nat), (if c = true then v else 0) ≤ v := fun c v => by cases c <;> simp
  have hlast : (s.isOn F.THM_STATUS_ACK_PENDING || s.safe.startOut || s.safe.lowOpen) = true := by simp [h]
  obtain ⟨x, hx, hbits⟩ : ∃ x, x < 128 ∧ s.readyBits = x + 128 := by
    unfold State.readyBits
    rw [hlast]
    refine ⟨_, ?_, rfl⟩
    have h1 := hterm (!s.safe.selfTest || s.segList.any fun k => (s.segOf k).selftest) 1
    have h2 := hterm (!s.guardDone) 2
    have h3 := hterm (!s.paramValid) 4
    have h4 := hterm ((s.segList.any fun k => s.segState k != segSERVICE) || s.slotEmpty) 8
    have h5 := hterm (s.isOn F.CIM_ISO_STATUS_ALARM) 0x10
    have h6 := hterm (s.isOn F.SAFE_STATUS_SSD_DEMAND || s.isOn F.SAFE_STATUS_SVW_DEMAND || s.rd F.SAFE_IN_DISCREPANCY != 0) 0x20
    have h7 := hterm (!s.isOn F.SAFE_OUT_COIL_SUPPLY) 0x40
    dsimp only
    omega
  unfold State.setReady
  rw [State.rd_wr_same, show F.SYS_MODE_READY_BLOCK.width = 8 from rfl, hbits, Nat.testBit_eq_decide_div_mod_eq]
  simp
  omega

/-- The temperature functions (R292). -/
theorem temperature_locks (s : State) (ch : Nat) (hb : s.safe.blockA ≠ []) :
    (∀ k, s.stwHolds k ch = false → exec (.stwTrip k ch) s = .next s) ∧
    (s.stwHolds 0 ch = true → ∃ t, exec (.stwTrip 0 ch) s = .next t ∧ s.LockedBy t .stwHigh ch ∧ t.isOn F.SAFE_STATUS_STW_DEMAND = true) ∧
    (s.stwHolds 1 ch = true → s.closed = true → ∃ t, exec (.stwTrip 1 ch) s = .next t ∧ s.LockedBy t .stwLow ch) ∧
    (s.stwHolds 1 ch = true → s.closed = false → ∃ t, exec (.stwTrip 1 ch) s = .next t ∧ t.safe = { s.safe with lowOpen := true } ∧ t.mode = s.mode ∧
      (t.rd F.SYS_MODE_READY_BLOCK).testBit 7 = true) ∧
    (s.stwHolds 2 ch = true → ∃ t, exec (.stwTrip 2 ch) s = .next t ∧ t.isOn F.SAFE_STATUS_SDI_CHG = true ∧ t.switches = s.switches ∧
      t.mode = s.mode ∧ t.safe = { s.safe with stwInhibit := true }) ∧
    (∀ k, 3 ≤ k → s.stwHolds k ch = true → (s.closed = true → exec (.stwTrip k ch) s = .next s) ∧
      (s.closed = false → ∃ t, exec (.stwTrip k ch) s = .next t ∧ t.safe = { s.safe with startOut := true } ∧ t.mode = s.mode ∧
        (t.rd F.SYS_MODE_READY_BLOCK).testBit 7 = true)) := by
  have hblock : s.safe.blockA.isEmpty = false := by simpa using hb
  have hidle : ∀ k, s.stwHolds k ch = false → exec (.stwTrip k ch) s = .next s := fun k h =>
    congrArg Host.Outcome.next (if_pos (by simp [h]))
  have hacts : ∀ k, s.stwHolds k ch = true → (s.safe.blockA.isEmpty || !s.stwHolds k ch) = false := fun k h => by rw [hblock, h]; rfl
  refine ⟨hidle, fun h => ?_, fun h hcl => ?_, fun h hcl => ?_, fun h => ?_, fun k hk h => ?_⟩
  · obtain ⟨hlock, hread⟩ := s.lockedBy_after_wr F.SAFE_STATUS_STW_DEMAND 1 (c := .stwHigh) (by decide) ch
    exact ⟨_, congrArg Host.Outcome.next (if_neg (by simp [hacts 0 h])), hlock, congrArg (· == 1) hread⟩
  · have hlow : (s.wr F.SAFE_STATUS_STW_DEMAND 1).closed = true := (congrArg (· == 1) (State.rd_wr_ne _ _ _ _ (by decide))).trans hcl
    refine ⟨_, congrArg Host.Outcome.next ((if_neg (by simp [hacts 1 h])).trans (if_pos hcl)), ?_⟩
    exact ((s.wr F.SAFE_STATUS_STW_DEMAND 1).raiseCause_lockedBy (.inr hlow) ch).from (.wr s 1)
  · let s1 : State := { s.wr F.SAFE_STATUS_STW_DEMAND 1 with safe.lowOpen := true }
    have hlow : s1.closed = false := (congrArg (· == 1) (State.rd_wr_ne s _ _ _ (by decide))).trans hcl
    refine ⟨s1.raiseCause .stwLow ch, congrArg Host.Outcome.next ((if_neg (by simp [hacts 1 h])).trans (if_neg (by simp [hcl]))), ?_⟩
    rw [(s1.raiseCause_blocks ch hlow).2]
    exact ⟨rfl, (State.rd_wr_ne _ _ _ _ (by decide)).trans (State.rd_wr_ne s _ _ _ (by decide)), s1.blockReady_bit (i := 7) (by decide)⟩
  · let s1 : State := { s with safe.stwInhibit := true }
    obtain ⟨hkept, hchg⟩ := s1.mirrorInputs_spec
    refine ⟨s1.mirrorInputs, congrArg Host.Outcome.next (if_neg (by simp [hacts 2 h])), ?_, hkept.regs F.SAFE_OUT_SWITCH (by decide),
      hkept.regs F.SYS_MODE_MODE (by decide), hkept.view⟩
    rw [hchg]
    exact Bool.or_true _
  · have hexec : exec (.stwTrip k ch) s = .next (if s.closed then s else ({ s with safe.startOut := true } : State).setReady) := by
      obtain ⟨n, rfl⟩ : ∃ n, k = n + 3 := ⟨k - 3, by omega⟩
      exact congrArg Host.Outcome.next (if_neg (by simp [hacts _ h]))
    refine ⟨fun hcl => hexec.trans (congrArg _ (if_pos hcl)), fun hcl => ⟨_, hexec.trans (congrArg _ (if_neg (by simp [hcl]))), rfl, ?_, ?_⟩⟩
    · exact State.rd_wr_ne _ _ _ _ (by decide)
    · exact State.setReady_thermal _ rfl


/-- Settles O57: an entry into LOCKOUT does the same from every state, and each event raises its cause just where its condition holds. -/
theorem lockoutLatchesAndStops : Obligations.LockoutLatchesAndStops := by
  unfold Obligations.LockoutLatchesAndStops
  exact ⟨fun s _ ch h => s.raiseCause_lockedBy h ch, fun s ch h => s.raiseCause_blocks ch h, clock_locks, xlinkLost_locks, xlinkDemand_switches,
    discrepancy_locks, ssdDelay_locks, feedback_locks, testPulse_locks, block_functions_idle, svw_locks, current_locks, temperature_locks⟩

end Sys2Proof.Machine
end

section
/-! PROOFS. What else leaves the mode and the switches (R63, R236, R237, R322, R323, R445): learned-state writes, the counters, the links
that go down, a controller card that is gone. -/

namespace Sys2Proof.Machine

-- One proof after another: a thread for each would not fit the memory of the check.
set_option Elab.async false

/-! ### Records and learned state (R236, R237, R471) -/

theorem State.detail_modeKept (s : State) (sys : Bool) (d : List Byte) (st : Status) (p m : Bool) : s.ModeKept (s.detail sys d st p m) :=
  s.post_modeKept _

theorem State.learnStart_modeKept (s : State) : s.ModeKept s.learnStart := .ite .of_eq .of_eq

theorem State.learnTrigger_modeKept (s : State) : s.ModeKept s.learnTrigger :=
  .ite (.refl s) (.ite .of_eq (.ite (.wr s 1) s.learnStart_modeKept))

theorem State.learnEnd_modeKept (s : State) (ok : Bool) : s.ModeKept (s.learnEnd ok) := by
  unfold State.learnEnd
  split
  · exact .refl s
  · next t r _ =>
    have hdone : ∀ u : State, s.ModeKept u →
        s.ModeKept (((u.wrs [(F.EST_STATUS_WRITE_DEFERRED, 0), (F.EST_STATUS_SLOT, t), (F.EST_LEARN_GEN_GENERATION, r.gen)]).flag
          Fl.EST_EVENT_WRITE_DONE {}).finish 0x0408 0 .ok) := fun u h =>
      ((h.trans (.wrs u _)).trans (State.flag_modeKept _ _ _)).trans (State.finish_modeKept _ _ _ _ _)
    have hpend : ∀ u : State, s.ModeKept u → s.ModeKept (if u.est.pending then
        State.learnTrigger { u with est.pending := false, hrt.ops := u.hrt.ops.map fun o => if o.opcode = 0x0408 then { o with key := 0 } else o }
        else u) := fun u h => .ite (h.trans (.trans .of_eq (State.learnTrigger_modeKept _))) h
    refine hpend _ (.ite (hdone _ (.ite ?_ ?_)) ?_)
    · split <;> exact .of_eq
    · refine .trans (t := if t = 0 then _ else _) ?_ .of_eq
      split <;> exact .of_eq
    · exact .trans (.trans .of_eq (State.flag_modeKept _ _ _)) (State.finish_modeKept _ _ _ _ _)

theorem State.learnNow_modeKept (s : State) : s.ModeKept s.learnNow :=
  (s.learnTrigger_modeKept.trans (State.learnEnd_modeKept _ _)).trans (State.learnEnd_modeKept _ _)

theorem State.mirrorRefresh_modeKept (s : State) : s.ModeKept s.mirrorRefresh := .ite (.refl s) .of_eq

theorem State.saveCounters_modeKept (s : State) : s.ModeKept s.saveCounters :=
  .trans (t := if _ then _ else _) (.ite .of_eq .of_eq) (State.mirrorRefresh_modeKept _)

theorem State.shutRecord_modeKept (s : State) : s.ModeKept s.shutRecord := by
  unfold State.shutRecord
  extract_lets r
  have hrecord : s.ModeKept { s with thm.shut := r.sealed } := .of_eq
  exact (hrecord.trans (State.saveCounters_modeKept _)).trans (State.detail_modeKept _ _ _ _ _ _)

/-! ### Links and kernels -/

theorem State.portsDown_modeKept (s : State) : s.ModeKept s.portsDown := by
  have hdrop : ∀ u : State, u.ModeKept { u with hrt := {}, sec.service := none, sec.claiming := false } := fun _ => .of_eq
  refine .trans (.wrs s _ ?_) (hdrop _)
  decide

theorem State.seLost_modeKept (s : State) : s.ModeKept s.seLost := by
  unfold State.seLost
  extract_lets s1
  have h1 : s.ModeKept s1 := .of_eq
  refine h1.trans (.wrs _ _ ?_)
  rw [List.all_append, Bool.and_eq_true]
  constructor
  · simp only [List.all_cons, List.all_nil]
    decide
  · decide

theorem State.setBudget_modeKept (s : State) : s.ModeKept s.setBudget := by
  have hkernel : ∀ (u : State) (k n : Nat), k ∈ numbersFrom 0 16 → u.ModeKept (u.wr (F.SE_KSTAT_CYCLES k) n) := fun u k n hk => .wr u n <| by
    have hk16 := ((mem_numbersFrom 0 16 k).1 hk).2
    rw [Bool.eq_false_iff]
    intro hq
    simp only [standKey, Bool.or_eq_true, Bool.and_eq_true, decide_eq_true_eq, beq_iff_eq] at hq
    simp only [Field.key, F.SE_KSTAT_CYCLES] at hq
    omega
  refine .trans (.wrs s _) (.foldl _ _ (fun u k hk => ?_) _)
  split
  · exact hkernel u k _ hk
  · exact hkernel u k _ hk

/-- What is left of power's state without the controller card's part in it. -/
def State.goneView (s : State) : SafeState × PwrState × Bool × Bool :=
  (s.safe, { s.pwr with ctl := false, idle := false, held := 0 }, s.thm.shutting, s.thm.heldOff)

abbrev State.GoneKept (s t : State) : Prop := State.Stands standKey State.goneView s t

theorem State.ModeKept.gone {s t : State} (h : s.ModeKept t) : s.GoneKept t :=
  h.mono (fun _ hq => hq) fun x => (x.1, { x.2.1 with ctl := false, idle := false, held := 0 }, x.2.2)

/-- A controller card that is gone leaves the mode, the safety card and what stands of a request. -/
theorem State.ctlGone_gone (s : State) : s.GoneKept s.ctlGone ∧ s.ctlGone.pwr.ctl = false := by
  unfold State.ctlGone
  extract_lets _ _ s1
  have hstop : s1.ModeKept ((s1.portsDown.seLost).wrs ([(F.SEG_ALIGN_ALIGNED, 0)] ++ [0, 1].map fun c => (F.CAN_STATUS_INTEGRATED c, 0))) :=
    .trans (.trans (State.portsDown_modeKept _) (State.seLost_modeKept _)) (.wrs _ _ (by decide))
  have hgone : s.GoneKept s1 := .of_eq
  exact ⟨hgone.trans (State.ModeKept.gone hstop), (congrArg (fun x : SafeState × PwrState × Bool × Bool => x.2.1.ctl) hstop.view :)⟩

/-! ### Power states (R49–R53) -/

/-- ROLE is the only register that the role of the insulation monitor moves. -/
theorem State.isoRole_stands (s : State) : State.Stands (· != F.CIM_ISO_STATUS_ROLE.key) State.pwr s s.isoRole :=
  .trans (t := if !s.isoMay then _ else _) (.ite .of_eq (.ite (.refl s) .of_eq)) (.wr _ _)

theorem sub_and_or_and (w d m : Nat) : (w - (w &&& (d ||| m))) &&& m = 0 := by
  refine Nat.eq_of_testBit_eq fun i => ?_
  rw [Nat.testBit_and, testBit_sub_and, Nat.testBit_or]
  cases m.testBit i <;> simp

/-- PWR_STATE shows the state entered; a state other than P4 has the domains of R49 on that came up and are not held. -/
theorem State.enterPower_shows (s : State) (p : Nat) : (s.enterPower p).rd F.PWR_STATE_STATE = p % 8 ∧ (s.enterPower p).pwr.idle = s.pwr.idle ∧
    (p ≠ 4 → (s.enterPower p).rd F.PWR_DOM_ON_DOM =
      (domainsOn p s.motIdle - (domainsOn p s.motIdle &&& (s.pwr.domFault ||| s.pwr.held))) % 8192) := by
  unfold State.enterPower
  extract_lets on off s0 s1
  have hpwr0 : s0.pwr = s.pwr := by
    show (if _ then _ else _ : State).pwr = _
    split <;> rfl
  have hstate1 : s1.rd F.PWR_STATE_STATE = p % 8 := (State.rd_wr_ne _ _ _ _ (by decide)).trans (State.rd_wr_same _ _ _)
  have hdom1 : s1.rd F.PWR_DOM_ON_DOM = (on - (on &&& off)) % 8192 := State.rd_wr_same _ _ _
  have hidle1 : s1.pwr.idle = s.pwr.idle := congrArg PwrState.idle hpwr0
  clear_value s1
  refine ⟨((State.isoRole_stands _).regs _ (by decide)).trans ?_, (congrArg PwrState.idle (State.isoRole_stands _).view).trans ?_, fun hp => ?_⟩
  · split
    · exact (State.rd_wr_ne _ _ _ _ (by decide)).trans hstate1
    · exact hstate1
  · split
    · exact hidle1
    · exact hidle1
  · rw [if_neg hp]
    exact ((State.isoRole_stands _).regs _ (by decide)).trans hdom1

/-- A module that becomes idle goes to the state that FLOOR names (R50). -/
theorem powerStateEntry_idles {s : State} (hawake : s.awake = true) (hheld : s.thm.heldOff = false) :
    ∃ t, exec .powerStateEntry s = .next t ∧ t.pwr.idle = true ∧ t.rd F.PWR_STATE_STATE = s.setFloor.rd F.PWR_STATE_FLOOR := by
  refine ⟨_, congrArg Host.Outcome.next (if_neg (by simp [hawake, hheld])), (State.enterPower_shows _ _).2.1, (State.enterPower_shows _ _).1.trans ?_⟩
  have hfloor : s.setFloor.rd F.PWR_STATE_FLOOR < 8 := by
    unfold State.setFloor
    rw [State.rd_wr_same]
    exact Nat.mod_lt _ (by decide)
  exact Nat.mod_eq_of_lt hfloor

theorem powerStateExit_wakes {s : State} (hawake : s.awake = true) (hheld : s.thm.heldOff = false) :
    ∃ t, exec .powerStateExit s = .next t ∧ t.pwr.idle = false ∧ t.rd F.PWR_STATE_STATE = 0 :=
  ⟨_, congrArg Host.Outcome.next (if_neg (by simp [hawake, hheld])), (State.enterPower_shows _ _).2.1, (State.enterPower_shows _ _).1⟩

/-! ### Domains and islands that do not come up (R55) -/

theorem domainTimeout_records (s : State) (dom : Nat) (hdom : dom ≤ 12) :
    let s1 := ({ s with pwr.domFault := s.pwr.domFault ||| 2 ^ dom } : State).wr F.PWR_DOM_ON_DOM
      (s.rd F.PWR_DOM_ON_DOM - (s.rd F.PWR_DOM_ON_DOM &&& 2 ^ dom))
    exec (.domainPowerTimeout dom) s = .next ((if dom = 1 then s1.raiseCause .selftest 1 else if dom = 2 then s1.raiseCause .selftest 2
      else if dom = 10 then s1.raiseCause .selftest 3 else s1).detail true [1, dom] .internal) := by
  intro s1
  show execDomainPowerTimeout dom s = _
  unfold execDomainPowerTimeout
  rw [if_neg (by omega)]
  refine congrArg (fun u : State => Host.Outcome.next (u.detail true [1, dom] .internal)) ?_
  dsimp only
  split
  · rw [if_pos rfl]
  · rw [if_neg (by decide), if_pos rfl]
  · rw [if_neg (by decide), if_neg (by decide), if_pos rfl]
  · next h1 h2 h10 => rw [if_neg h1, if_neg h2, if_neg h10]

theorem standKey_segState {k : Nat} (hk : k ≤ 26) : standKey (F.SEG_STATE_STATE k).key = false := by
  rw [Bool.eq_false_iff]
  intro hq
  simp only [standKey, Bool.or_eq_true, Bool.and_eq_true, decide_eq_true_eq, beq_iff_eq] at hq
  simp only [Field.key, F.SEG_STATE_STATE] at hq
  omega

theorem State.leaveLive_modeKept (s : State) (k : Nat) : s.ModeKept (s.leaveLive k) :=
  .trans (.trans (.trans .of_eq (State.finish_modeKept _ _ _ _ _)) (State.finish_modeKept _ _ _ _ _)) (State.finish_modeKept _ _ _ _ _)

/-- The registers but READY_BLOCK, which a slot's state enters into. -/
abbrev State.CardKept (s t : State) : Prop := State.Stands (keysBut standKey [F.SYS_MODE_READY_BLOCK.key]) State.heldView s t

theorem State.setReady_cardKept (s : State) : s.CardKept s.setReady := .wr s _

theorem State.setSegState_cardKept (s : State) {k : Nat} (st : Nat) (hk : k ≤ 26) : s.CardKept (s.setSegState k st) := by
  have hwr : ∀ n, s.CardKept (s.wr (F.SEG_STATE_STATE k) n) := fun n => .wr s n (by simp [keysBut, standKey_segState hk])
  exact .trans (t := if _ then _ else _) (.ite ((hwr _).trans ((State.leaveLive_modeKept _ _).mono keysBut_le id)) (hwr _)) (State.setReady_cardKept _)

theorem State.gateTone_modeKept (s : State) : s.ModeKept s.gateTone := .ite (.refl s) (.wrB s _)

theorem State.pathsOff_modeKept (s : State) (k : Nat) : s.ModeKept (s.pathsOff k) := .of_eq

/-- An island that does not come up is off, and its card isolated. -/
theorem islandTimeout_isolates {s : State} {k : Nat} (hok : s.segOk k = true) : ∃ t, exec (.domainPowerTimeout (12 + k)) s = .next t ∧
    t.segState k = segISOLATED ∧ (t.rd F.PWR_SEG_ON_ISLAND).testBit (k - 1) = false ∧ t.mode = s.mode := by
  obtain ⟨hlow, hhigh⟩ := State.segOk_bounds hok
  have hexec : exec (.domainPowerTimeout (12 + k)) s = .next ((((s.pathsOff k).wr F.PWR_SEG_ON_ISLAND
      (s.rd F.PWR_SEG_ON_ISLAND - (s.rd F.PWR_SEG_ON_ISLAND &&& 2 ^ (k - 1)))).setSegState k segISOLATED).gateTone.detail true [1, 12 + k] .internal) := by
    show execDomainPowerTimeout (12 + k) s = _
    unfold execDomainPowerTimeout
    rw [if_pos (by omega), show 12 + k - 12 = k by omega]
    exact congrArg Host.Outcome.next (if_neg (by simp [hok]))
  have hring := (State.setSegState_kept ((s.pathsOff k).wr F.PWR_SEG_ON_ISLAND
    (s.rd F.PWR_SEG_ON_ISLAND - (s.rd F.PWR_SEG_ON_ISLAND &&& 2 ^ (k - 1)))) k segISOLATED).trans
      ((State.gateTone_kept _).trans (State.detail_kept _ true [1, 12 + k] .internal false false))
  refine ⟨_, hexec, hring.segState_of_wr (ringKey_segState hhigh) (by decide), ?_, ?_⟩
  · rw [hring.regs F.PWR_SEG_ON_ISLAND (by decide), State.rd_wr_ne _ _ _ _ (Field.key_ne_of_addr (g := F.SEG_STATE_STATE k)
      (by simp [F.SEG_STATE_STATE, F.PWR_SEG_ON_ISLAND]; omega) (by decide) (show 0 < 32 by decide)), State.rd_wr_same, Nat.testBit_mod_two_pow, testBit_sub_and, Nat.testBit_two_pow_self]
    simp
  · have hcard : s.CardKept (((s.pathsOff k).wr F.PWR_SEG_ON_ISLAND
        (s.rd F.PWR_SEG_ON_ISLAND - (s.rd F.PWR_SEG_ON_ISLAND &&& 2 ^ (k - 1)))).setSegState k segISOLATED) :=
      .trans (.trans .of_eq (.wr _ _)) (State.setSegState_cardKept _ _ hhigh)
    exact (((State.gateTone_modeKept _).trans (State.detail_modeKept _ _ _ _ _ _)).regs F.SYS_MODE_MODE (by decide)).trans
      (hcard.regs F.SYS_MODE_MODE (by decide))

/-! ### Aux (R61) -/

/-- Aux is gone: every domain and island off, X19 open (R61, R280). -/
theorem State.auxLossRun_ends (s : State) : s.auxLossRun.pwr.phase = .unpowered ∧ s.auxLossRun.rd F.PWR_DOM_ON_DOM = 0 ∧
    s.auxLossRun.rd F.PWR_SEG_ON_ISLAND = 0 ∧ s.auxLossRun.rd F.SAFE_STATUS_FAULT_CLOSED = 0 := by
  have hend : ∀ u : State, u.pwr.phase = .unpowered → u.safe.modeEntered = false →
      let t := (u.wrs [(F.PWR_DOM_ON_DOM, 0), (F.PWR_SEG_ON_ISLAND, 0), (F.SYS_MODE_TRANSITION, 0), (F.SEG_TONE_TONE_PRESENT, 0)]).setX19
      t.pwr.phase = .unpowered ∧ t.rd F.PWR_DOM_ON_DOM = 0 ∧ t.rd F.PWR_SEG_ON_ISLAND = 0 ∧ t.rd F.SAFE_STATUS_FAULT_CLOSED = 0 := by
    intro u hphase hentered t
    have hdom : (u.wrs [(F.PWR_DOM_ON_DOM, 0), (F.PWR_SEG_ON_ISLAND, 0), (F.SYS_MODE_TRANSITION, 0),
      (F.SEG_TONE_TONE_PRESENT, 0)]).rd F.PWR_DOM_ON_DOM = 0 % 2 ^ 13 := u.rd_wrs_get 0
    have hseg : (u.wrs [(F.PWR_DOM_ON_DOM, 0), (F.PWR_SEG_ON_ISLAND, 0), (F.SYS_MODE_TRANSITION, 0),
      (F.SEG_TONE_TONE_PRESENT, 0)]).rd F.PWR_SEG_ON_ISLAND = 0 % 2 ^ 26 := u.rd_wrs_get 1
    refine ⟨hphase, (State.rd_wr_ne _ _ _ _ (by decide)).trans hdom, (State.rd_wr_ne _ _ _ _ (by decide)).trans hseg,
      (State.rd_wrB_same _ _ _).trans ?_⟩
    have hoff : (u.wrs [(F.PWR_DOM_ON_DOM, 0), (F.PWR_SEG_ON_ISLAND, 0), (F.SYS_MODE_TRANSITION, 0),
      (F.SEG_TONE_TONE_PRESENT, 0)]).safe.modeEntered = false := hentered
    simp [hoff]
  unfold State.auxLossRun
  extract_lets s1 s2 s5 s6 s7
  exact hend _ rfl rfl

theorem auxBelowLoss_shows {s : State} (mv : Nat) (hpow : s.powered = true)
    (hdips : (s.pwr.dips.filter fun t => decide (s.time.count < t + 250000000)).length < 10) :
    exec (.auxBelowLoss mv) s = .next (({ s with pwr.auxLow := true } : State).wr F.PWR_AUX_STATUS_AUX_MV mv) :=
  congrArg Host.Outcome.next ((if_neg (by simp [hpow])).trans (if_neg (not_le.2 hdips)))

theorem auxBelowLoss_loses {s : State} (mv : Nat) (hpow : s.powered = true)
    (hdips : 10 ≤ (s.pwr.dips.filter fun t => decide (s.time.count < t + 250000000)).length) :
    ∃ t, exec (.auxBelowLoss mv) s = .next t ∧ t.pwr.phase = .unpowered ∧ t.rd F.PWR_DOM_ON_DOM = 0 := by
  obtain ⟨hphase, hdom, -⟩ := (({ s with pwr.auxLow := true } : State).wr F.PWR_AUX_STATUS_AUX_MV mv).auxLossRun_ends
  exact ⟨_, congrArg Host.Outcome.next ((if_neg (by simp [hpow])).trans (if_pos hdips)), hphase, hdom⟩

/-- A flag counts, modulo 2^16. -/
theorem State.flag_cnt (s : State) (fl : Flag) (n : Note) (hw : fl.cnt.width = 16 := by rfl) (hne : fl.cnt.key ≠ fl.bit.key := by decide)
    (hrec : fl.cnt.key ∉ recordKeys := by decide) : (s.flag fl n).rd fl.cnt = (s.rd fl.cnt + 1) % 65536 :=
  ((State.post_noted _ _).regs fl.cnt hrec).trans (s.raise_cnt hw hne)

/-- A dip that ends within 10 ms is a flag and a count. -/
theorem auxDip_counts {s : State} (mv : Nat) (hpow : s.powered = true) (hlow : s.pwr.auxLow = true) :
    ∃ t, exec (.auxDip mv) s = .next t ∧ t.pwr.auxLow = false ∧ t.rd F.PWR_AUX_STATUS_AUX_MV = mv % 65536 ∧
      t.rd F.PWR_AUX_STATUS_AUX_DIP = 1 ∧ t.rd F.PWR_AUX_DIP_CNT_COUNT = (s.rd F.PWR_AUX_DIP_CNT_COUNT + 1) % 65536 ∧
      t.pwr.phase = s.pwr.phase := by
  let s1 : State := { s with pwr.auxLow := false, pwr.dips := (s.pwr.dips.filter fun t => decide (s.time.count < t + 250000000)) ++ [s.time.count] }
  have hflag := (s1.wr F.PWR_AUX_STATUS_AUX_MV mv).flag_noted Fl.PWR_AUX_STATUS_AUX_DIP {}
  have hexec : exec (.auxDip mv) s = .next ((s1.wr F.PWR_AUX_STATUS_AUX_MV mv).flag Fl.PWR_AUX_STATUS_AUX_DIP {}) :=
    congrArg Host.Outcome.next (if_neg (by simp [hpow, hlow]))
  refine ⟨_, hexec, congrArg PwrState.auxLow hflag.pwr, ?_, State.flag_bit _ _ _, ?_,
    (congrArg PwrState.phase hflag.pwr :)⟩
  · exact (hflag.regs F.PWR_AUX_STATUS_AUX_MV (by decide)).trans (State.rd_wr_same _ _ _)
  · refine (State.flag_cnt (s1.wr F.PWR_AUX_STATUS_AUX_MV mv) Fl.PWR_AUX_STATUS_AUX_DIP {}).trans ?_
    rw [State.rd_wr_ne _ _ _ _ (by decide)]
    rfl

theorem auxLoss_ends {s : State} (mv : Nat) (hpow : s.powered = true) :
    ∃ t, exec (.auxLoss mv) s = .next t ∧ t.pwr.phase = .unpowered ∧ t.rd F.PWR_DOM_ON_DOM = 0 ∧ t.rd F.PWR_SEG_ON_ISLAND = 0 ∧
      t.rd F.SAFE_STATUS_FAULT_CLOSED = 0 :=
  ⟨_, congrArg Host.Outcome.next (if_pos hpow), State.auxLossRun_ends _⟩

/-! ### The end of an orderly open, of the READY hold and of a READY condition (R39, R46, R282, R283) -/

theorem State.outsDead_stands (s : State) : State.Stands (keysBut standKey switchKeys) State.heldView s s.outsDead := s.setSwitches_stands 0

theorem State.outsDead_switches (s : State) : s.outsDead.switches = 0 := s.setSwitches_switches 0

theorem State.openAllCheck_modeKept (s : State) : s.ModeKept s.openAllCheck := by
  have hask : s.ModeKept { s with bank.openAll := false } := .of_eq
  exact .ite (hask.trans (State.finish_modeKept _ _ _ _ _)) (.refl s)

theorem State.InMode.switches {s t : State} {new : Nat} (h : s.InMode t new) : t.switches = s.switches :=
  h.kept.regs F.SAFE_OUT_SWITCH (by decide)

/-- Steps 3–5 of R322: the module is held off, its controller card absent, in STANDBY unless in LOCKOUT; the domains of step 5 are off. -/
theorem State.shutFinish_ends (s : State) :
    s.shutFinish.thm.heldOff = true ∧ s.shutFinish.pwr.ctl = false ∧ (s.pwr.orderly = none → s.shutFinish.pwr.orderly = none) ∧
    s.shutFinish.mode = (if s.mode = mLOCKOUT then mLOCKOUT else mSTANDBY) ∧ s.shutFinish.switches = s.switches ∧
    s.shutFinish.safe.closing = s.safe.closing ∧ s.shutFinish.rd F.PWR_DOM_ON_DOM &&& heldDomains = 0 := by
  unfold State.shutFinish
  extract_lets s1 s2
  obtain ⟨horderly1, hmode1, hsw1, hclosing1⟩ : (s.pwr.orderly = none → s1.pwr.orderly = none) ∧ s1.mode = (if s.mode = mLOCKOUT then mLOCKOUT else mSTANDBY) ∧
      s1.switches = s.switches ∧ s1.safe.closing = s.safe.closing := by
    by_cases hstay : s.mode = mLOCKOUT ∨ s.mode = mSTANDBY
    · have h1 : s1 = s := if_pos hstay
      rw [h1]
      refine ⟨id, ?_, rfl, rfl⟩
      split
      · next hl => exact hl
      · next hl => exact hstay.resolve_left hl
    · have h1 : s1 = s.forceMode mSTANDBY byCondition .state := if_neg hstay
      have hin := s.forceMode_enters (new := mSTANDBY) byCondition .state (by decide)
      rw [h1, if_neg fun hl => hstay (.inl hl)]
      exact ⟨fun _ => (congrArg PwrState.orderly hin.pwr :), hin.mode, hin.switches,
        (congrArg (fun x : SafeState × Bool × Bool => x.1.closing) hin.kept.view :)⟩
  obtain ⟨hgone, hctl⟩ := s1.learnNow.shutRecord.motSave.ctlGone_gone
  have h2 : s1.GoneKept s2 := (State.ModeKept.gone ((s1.learnNow_modeKept.trans (State.shutRecord_modeKept _)).trans
    (State.motSave_modeKept _))).trans hgone
  have horderly2 : s2.pwr.orderly = s1.pwr.orderly := (congrArg (fun x : SafeState × PwrState × Bool × Bool => x.2.1.orderly) h2.view :)
  have hclosing2 : s2.safe.closing = s1.safe.closing := (congrArg (fun x : SafeState × PwrState × Bool × Bool => x.1.closing) h2.view :)
  have hmode2 : s2.mode = s1.mode := h2.regs F.SYS_MODE_MODE (by decide)
  have hsw2 : s2.switches = s1.switches := h2.regs F.SAFE_OUT_SWITCH (by decide)
  have hctl2 : s2.pwr.ctl = false := hctl
  clear_value s2
  let s3 : State := { s2 with pwr.held := heldDomains, thm.heldOff := true, thm.shutting := false }
  have hpower : s3.ModeKept (s3.enterPower 0) := s3.enterPower_modeKept (by decide)
  refine ⟨(congrArg (fun x : SafeState × PwrState × Bool × Bool => x.2.2.2) hpower.view :),
    (congrArg (fun x : SafeState × PwrState × Bool × Bool => x.2.1.ctl) hpower.view :).trans hctl2,
    fun h => (congrArg (fun x : SafeState × PwrState × Bool × Bool => x.2.1.orderly) hpower.view :).trans (horderly2.trans (horderly1 h)),
    (hpower.regs F.SYS_MODE_MODE (by decide)).trans (hmode2.trans hmode1), (hpower.regs F.SAFE_OUT_SWITCH (by decide)).trans (hsw2.trans hsw1),
    (congrArg (fun x : SafeState × PwrState × Bool × Bool => x.1.closing) hpower.view :).trans (hclosing2.trans hclosing1), ?_⟩
  rw [(s3.enterPower_shows 0).2.2 (by decide)]
  exact (mod_two_pow_and (n := 13) _ (by decide)).trans (sub_and_or_and _ _ _)

/-- An orderly open ends with every switch off, in its mode or in the thermal shutdown it belongs to. -/
theorem orderlyOpen_ends {s : State} {o : OrderlyOpen} (horderly : s.pwr.orderly = some o) (hdest : o.dest ≤ 5) :
    ∃ t, exec .orderlyOpenComplete s = .next t ∧ t.switches = 0 ∧ t.pwr.orderly = none ∧
      (s.thm.shutting = false → t.mode = o.dest) ∧ (s.thm.shutting = true → t.thm.heldOff = true ∧ t.pwr.ctl = false) := by
  let s1 : State := { s.outsDead with pwr.orderly := none }
  let s2 : State := if s1.thm.shutting then s1.shutFinish else s1.forceMode o.dest o.cause .state
  have hexec : exec .orderlyOpenComplete s = .next s2.setReady.openAllCheck := by
    show execOrderlyOpenComplete s = _
    unfold execOrderlyOpenComplete
    rw [horderly]
  have hshutting : s1.thm.shutting = s.thm.shutting :=
    (congrArg (fun x : SafeState × PwrState × Bool × Bool => x.2.2.1) s.outsDead_stands.view :)
  have hsw1 : s1.switches = 0 := s.outsDead_switches
  have hlast : State.Stands (keysBut standKey [F.SYS_MODE_READY_BLOCK.key]) State.heldView s2 s2.setReady.openAllCheck :=
    s2.setReady_cardKept.trans ((State.openAllCheck_modeKept _).mono keysBut_le id)
  have hsw : s2.setReady.openAllCheck.switches = s2.switches := hlast.regs F.SAFE_OUT_SWITCH (by decide)
  have hmode : s2.setReady.openAllCheck.mode = s2.mode := hlast.regs F.SYS_MODE_MODE (by decide)
  have hpwr : s2.setReady.openAllCheck.pwr = s2.pwr := (congrArg (fun x : SafeState × PwrState × Bool × Bool => x.2.1) hlast.view :)
  have hheld : s2.setReady.openAllCheck.thm.heldOff = s2.thm.heldOff := (congrArg (fun x : SafeState × PwrState × Bool × Bool => x.2.2.2) hlast.view :)
  refine ⟨_, hexec, ?_⟩
  rw [hsw, hmode, hpwr, hheld]
  cases hs : s.thm.shutting
  · have h2 : s2 = s1.forceMode o.dest o.cause .state := if_neg (by simp [hshutting, hs])
    have hin := s1.forceMode_enters o.cause .state (show o.dest < 8 by omega)
    rw [h2]
    exact ⟨hin.switches.trans hsw1, (congrArg PwrState.orderly hin.pwr :), fun _ => hin.mode, nofun⟩
  · have h2 : s2 = s1.shutFinish := if_pos (by simp [hshutting, hs])
    obtain ⟨hoff, hctl, hord, -, hswitch, -⟩ := s1.shutFinish_ends
    rw [h2]
    exact ⟨hswitch.trans hsw1, hord rfl, nofun, fun _ => ⟨hoff, hctl⟩⟩

theorem readyHold_ends (s : State) : (s.mode = mREADY → s.pwr.holdRun = true → s.safe.closing = .idle →
      ∃ t, exec .readyHoldExpiry s = .next t ∧ t.mode = mSTANDBY ∧ t.pwr.trans = none) ∧
    (s.mode ≠ mREADY ∨ s.pwr.holdRun = false ∨ s.safe.closing ≠ .idle → exec .readyHoldExpiry s = .next s) := by
  refine ⟨fun hm hr hi => ?_, fun h => congrArg Host.Outcome.next (if_neg ?_)⟩
  · have hin := s.forceMode_enters (new := mSTANDBY) byHold .state (by decide)
    exact ⟨_, congrArg Host.Outcome.next (if_pos ⟨hm, hr, hi⟩), hin.mode, (congrArg PwrState.trans hin.pwr :)⟩
  · rintro ⟨hm, hr, hi⟩
    rcases h with h | h | h
    · exact h hm
    · rw [hr] at h
      cases h
    · exact h hi

/-- A closing that fails ends, with the mode and the latch as they are (R282). -/
theorem State.failClosing_ends (s : State) (r : Nat) : (s.failClosing r).safe.closing = .idle ∧ (s.failClosing r).mode = s.mode := by
  unfold State.failClosing
  have hfail := (s.allOff.endClosing r).modeFail_stands .safety
  refine ⟨(congrArg (fun x : SafeState × PwrState × Bool × Bool => x.1.closing) hfail.view :).trans (s.allOff.endClosing_ends r).1, ?_⟩
  exact (hfail.regs F.SYS_MODE_MODE (by decide)).trans (((s.allOff.endClosing_stands r).regs F.SYS_MODE_MODE (by decide)).trans
    (s.allOff_stands.regs F.SYS_MODE_MODE (by decide)))

/-- A READY condition that is lost ends a closing, and READY becomes STANDBY. -/
theorem readyCondition_ends (s : State) : (s.setReady.readyBits = 0 → exec .readyConditionLost s = .next s.setReady) ∧
    (s.setReady.readyBits ≠ 0 → ∃ t, exec .readyConditionLost s = .next t ∧ t.safe.closing = .idle ∧
      t.mode = (if s.mode = mREADY then mSTANDBY else s.mode)) := by
  refine ⟨fun h => congrArg Host.Outcome.next (if_pos h), fun h => ⟨_, congrArg Host.Outcome.next (if_neg h), ?_⟩⟩
  have hm1 : s.setReady.mode = s.mode := State.rd_wr_ne _ _ _ _ (by decide)
  generalize s.setReady = s1 at *
  generalize hs2 : (if s1.safe.closing = .idle then s1 else s1.failClosing 7) = s2
  obtain ⟨hidle, hmode⟩ : s2.safe.closing = .idle ∧ s2.mode = s.mode := by
    rw [← hs2]
    split
    · next hi => exact ⟨hi, hm1⟩
    · obtain ⟨hi, hm⟩ := s1.failClosing_ends 7
      exact ⟨hi, hm.trans hm1⟩
  rw [← hmode]
  dsimp only
  split
  · have hin := s2.forceMode_enters (new := mSTANDBY) byCondition .safety (by decide)
    exact ⟨(congrArg (fun x : SafeState × Bool × Bool => x.1.closing) hin.kept.view :).trans hidle, hin.mode⟩
  · exact ⟨hidle, rfl⟩

/-- Settles O11, clause by clause: power states, domains and islands, aux, the ends of an orderly open and of READY. -/
theorem powerEventsFollowTheRules : Obligations.PowerEventsFollowTheRules := by
  unfold Obligations.PowerEventsFollowTheRules
  refine ⟨fun _ => powerStateEntry_idles, fun _ => powerStateExit_wakes, domainTimeout_records, fun _ _ => islandTimeout_isolates,
    fun _ mv => auxBelowLoss_shows mv, fun _ mv => auxBelowLoss_loses mv, fun _ mv => auxDip_counts mv, fun _ mv => auxLoss_ends mv,
    fun _ => rfl, fun s h => ?_, fun _ _ => orderlyOpen_ends, readyHold_ends, readyCondition_ends⟩
  show execOrderlyOpenComplete s = _
  unfold execOrderlyOpenComplete
  rw [h]

end Sys2Proof.Machine
end

section
/-! PROOFS. Cards that come and go, and the thermal shutdown (R63, R64, R125, R280, R294, R322, R505). -/

namespace Sys2Proof.Machine

-- One proof after another: a thread for each would not fit the memory of the check.
set_option Elab.async false

/-! ### The controller card (R63, R64, R445) -/

/-- A controller card that falls silent counts as absent; mode and switches stand. -/
theorem heartbeatLoss_holds {s : State} (hphase : s.pwr.phase = .up) (hctl : s.pwr.ctl = true) (hmode : s.mode ≠ mSHELF) :
    ∃ t, exec .stfCHeartbeatLoss s = .next t ∧ t.pwr.ctl = false ∧ t.mode = s.mode ∧ t.switches = s.switches := by
  obtain ⟨hgone, hoff⟩ := s.ctlGone_gone
  exact ⟨_, congrArg Host.Outcome.next (if_pos ⟨hphase, hctl, hmode⟩), hoff, hgone.regs F.SYS_MODE_MODE (by decide),
    hgone.regs F.SAFE_OUT_SWITCH (by decide)⟩

/-- Its absence opens a closed string and ends a closing; STF-P holds the mode. -/
theorem absence_opens {s : State} (hctl : s.pwr.ctl = false) (hmode : s.mode ≠ mSERVICE) (hclosed : s.closed = true)
    (hheld : s.thm.heldOff = false) :
    ∃ t, exec .ctlAbsenceTimeout s = .next t ∧ s.SwitchedOff t ∧ t.safe.closing = .idle ∧ t.pwr.ctlOpened = true ∧ t.mode = s.mode := by
  have hexec : exec .ctlAbsenceTimeout s =
      .next { s.allOff.endClosing 7 with pwr := { (s.allOff.endClosing 7).pwr with ctlOpened := true, orderly := none } } :=
    congrArg Host.Outcome.next (if_neg (by simp [hctl, hmode, hclosed, hheld]))
  have hend := s.allOff.endClosing_stands 7
  have hoff := s.allOff_switchedOff.keep hend
  refine ⟨_, hexec, hoff, (s.allOff.endClosing_ends 7).1, rfl, ?_⟩
  exact (hend.regs F.SYS_MODE_MODE (by decide)).trans (s.allOff_stands.regs F.SYS_MODE_MODE (by decide))

theorem absence_waits {s : State} (hmode : s.mode = mSERVICE) : exec .ctlAbsenceTimeout s = .next s :=
  congrArg Host.Outcome.next (if_pos (.inr (.inl hmode)))

/-! ### The safety card (R280, R505) -/

/-- Without the safety card no switch is on and X19 is open. -/
theorem sfcWithdrawn_opens {s : State} (hpresent : s.safe.present = true) :
    ∃ t, exec .sfcWithdrawn s = .next t ∧ t.safe.present = false ∧ t.switches = 0 ∧ t.rd F.SAFE_STATUS_FAULT_CLOSED = 0 ∧ t.mode = s.mode := by
  let s1 : State := (if s.safe.closing = .idle then s else s.failClosing 6).outsDead
  let s2 : State := { s1 with safe.present := false, recorder.stfpQ := [], recorder.omitted := 0 }
  have hexec : exec .sfcWithdrawn s = .next s2.setX19 := congrArg Host.Outcome.next (if_neg (by simp [hpresent]))
  have hmode1 : s1.mode = s.mode := by
    refine (State.outsDead_stands _).regs F.SYS_MODE_MODE (by decide) |>.trans ?_
    split
    · rfl
    · exact (s.failClosing_ends 6).2
  have hopen : s2.setX19.rd F.SAFE_STATUS_FAULT_CLOSED = 0 := State.rd_wrB_same _ _ _
  exact ⟨_, hexec, rfl, (State.rd_wr_ne s2 _ _ _ (by decide)).trans (State.outsDead_switches _), hopen,
    (State.rd_wr_ne s2 _ _ _ (by decide)).trans hmode1⟩

/-- The safety card stays in its slot, or out of it. -/
abbrev State.PresentKept (s t : State) : Prop := State.Stands (fun _ => false) (fun s => s.safe.present) s t

theorem State.LockKept.present {s t : State} (h : s.LockKept t) : s.PresentKept t :=
  h.mono (fun _ hq => nomatch hq) SafeState.present

theorem State.raiseCause_present (s : State) (c : Cause) (ch : Nat) : s.PresentKept (s.raiseCause c ch) := by
  have hlock := State.LockKept.present (s.lockout_lockKept c ch)
  unfold State.raiseCause
  split
  · exact .ite hlock (.wr s _)
  · exact .ite hlock (.wr s _)
  · exact hlock

theorem State.blocksChecked_present (s : State) : s.PresentKept s.blocksChecked := by
  unfold State.blocksChecked
  split
  · exact s.raiseCause_present _ _
  · exact s.raiseCause_present _ _
  · exact s.raiseCause_present _ _
  · exact .refl s

/-- A start of the safety card leaves it in its slot. -/
theorem State.sfcStart_present (s : State) (b : Boot) : s.PresentKept (s.sfcStart b) := by
  unfold State.sfcStart
  extract_lets s1 s2 s3 s4
  have hwrs : ∀ (u : State) (l : List (Field × Nat)), u.PresentKept (u.wrs l) := fun u l => .wrs u l (List.all_eq_true.2 fun _ _ => rfl)
  have h1 : s.PresentKept s1 := State.Stands.trans (t := s.resetRegs 0x90000 0xA0000) ⟨nofun, rfl⟩ (.ite (.refl _) (.ite .of_eq .of_eq))
  have h2 : s1.PresentKept s2 := ⟨nofun, rfl⟩
  have h3 : s2.PresentKept s3 := (hwrs s2 _).trans (State.LockKept.present (State.allOff_lockKept _))
  have hparams : s3.PresentKept s3.mirrorParams := .ite (.refl s3) (hwrs s3 _)
  have hinputs : ∀ u : State, u.PresentKept (u.startInputs b.contacts) := fun u => .trans .of_eq (hwrs _ _)
  have h4 : s3.PresentKept s4 := ((hparams.trans (hwrs _ _)).trans (hinputs _)).trans (State.blocksChecked_present _)
  exact ((h1.trans h2).trans h3).trans (h4.trans (.ite (.refl s4) (State.raiseCause_present _ _ _)))

theorem State.newSerial_present (s : State) (key kind slot serial : Nat) : s.PresentKept (s.newSerial key kind slot serial) := by
  unfold State.newSerial
  extract_lets _ _ s1
  have h1 : s.PresentKept s1 := .of_eq
  exact .ite h1 (h1.trans (State.LockKept.present (State.ModeKept.lockKept (State.detail_modeKept _ _ _ _ _ _))))

theorem State.chargeResume_present (s : State) (cyc : Nat) : s.PresentKept (s.chargeResume cyc) := by
  have hcharge : ∀ v, s.PresentKept { s with cim.charge := v } := fun _ => .of_eq
  exact .ite ((hcharge _).trans (State.LockKept.present (State.ModeKept.lockKept (State.detail_modeKept _ _ _ _ _ _))))
    ((hcharge _).trans (State.LockKept.present (State.ModeKept.lockKept (State.flag_modeKept _ _ _))))

theorem State.safeShow_modeKept (s : State) (fell : Bool) : s.ModeKept (s.safeShow fell) := by
  unfold State.safeShow
  extract_lets s1 s2
  have h1 : s.ModeKept s1 := .wr s _
  have h2 : s1.ModeKept s2 := .ite (.wr s1 _) (.refl s1)
  exact (h1.trans h2).trans (.ite (State.flag_modeKept _ _ _) (.refl s2))

/-- The module leaves SERVICE when the safety card is back (R505). -/
theorem sfcInserted_starts {s : State} (serial : Nat) (b : Boot) (habsent : s.safe.present = false) (hpow : s.powered = true) :
    ∃ t, exec (.sfcInserted serial b) s = .next t ∧ t.safe.present = true ∧ t.mode ≠ mSERVICE := by
  have hend : ∀ u : State, u.safe.present = true → u.mode ≠ mSERVICE →
      u.mirrorRefresh.setReady.setX19.safe.present = true ∧ u.mirrorRefresh.setReady.setX19.mode ≠ mSERVICE := by
    intro u hp hm
    have hkept : State.Stands (· == F.SYS_MODE_MODE.key) (fun s => s.safe.present) u u.mirrorRefresh.setReady.setX19 :=
      .trans (u.mirrorRefresh_modeKept.mono (fun q hq => eq_of_beq hq ▸ by decide) fun x => x.1.present) (.trans (.wr _ _) (.wrB _ _))
    exact ⟨hkept.view.trans hp, fun h => hm ((hkept.regs F.SYS_MODE_MODE (by decide)).symm.trans h)⟩
  show ∃ t, execSfcInserted serial b s = .next t ∧ _
  unfold execSfcInserted
  extract_lets old new _ s0 _ _ s1 s2 s3 _ s4
  refine ⟨_, congrArg Host.Outcome.next (if_neg (by simp [habsent, hpow])), hend s4 ?_ ?_⟩
  · have h1 : s1.safe.present = true := by
      show (ite _ _ _ : State).safe.present = true
      split <;> rfl
    have h2 : s1.PresentKept s2 := ((((s1.sfcStart_present b).trans (State.chargeResume_present _ _)).trans (.trans (.wr _ _) (.wr _ _))).trans
      (State.newSerial_present _ _ _ _ _)).trans (State.LockKept.present (State.ModeKept.lockKept (State.safeShow_modeKept _ _)))
    have h3 : s2.PresentKept s3 := .ite (State.LockKept.present (s2.setMode_lockKept _ (by decide))) (.refl s2)
    have h4 : s3.PresentKept s4 := .ite .of_eq (.refl s3)
    exact ((h2.trans h3).trans h4).view.trans h1
  · have h3 : s3.mode ≠ mSERVICE := by
      show (ite _ _ _ : State).mode ≠ mSERVICE
      split
      · rw [(s2.setMode_enters (new := mSTANDBY) byReset (by decide)).mode]
        decide
      · next h => exact h
    have h4 : s4.mode = s3.mode := by
      show (ite _ _ _ : State).mode = _
      split <;> rfl
    rw [h4]
    exact h3

/-! ### Segment cards (R3, R125, R294, R505) -/

/-- The loop opens or stays: the cards and the ring are as they are. -/
theorem State.openLoop_kept (s : State) : s.RingKept s.openLoop := .ite s.toneLost_kept s.gateTone_kept

/-- A tone that is lost is a latched cause (R124). -/
theorem State.toneLost_latches (s : State) : s.toneLost.hasCause .tone = true := by
  unfold State.toneLost
  extract_lets s2 s3 s4
  have h2 : s2.hasCause .tone = true := ((s.wr F.SEG_TONE_TONE_PRESENT 0).raiseCause_lockedBy (c := .tone) (.inl (by decide)) 2).latched.1
  have h3 : s2.RingKept s3 := .ite (s2.raiseCause_kept _ _) (.refl s2)
  have h4 : s3.RingKept s4 := .ite (s3.raiseCause_kept _ _) (.refl s3)
  exact ((h3.trans h4).trans (State.flag_kept _ _ _)).causes .tone h2

/-- A card that is taken out: after its announcement the slot reads ABSENT, else its state stays and an armed loop loses its tone. -/
theorem segCardWithdrawn_leaves {s : State} {k : Nat} (hlow : 1 ≤ k) (hhigh : k ≤ 26) (hpresent : (s.segOf k).present = true) :
    ∃ t, exec (.segCardWithdrawn k) s = .next t ∧
    (t.segOf k).present = false ∧ (s.wdSlot = k → t.segState k = segABSENT) ∧
    (s.wdSlot ≠ k → s.segOk k = true → (s.segOf k).blank = false → t.segState k = s.segState k ∧
      (s.seg.armed = true → s.bypassed k = false → t.hasCause .tone = true)) := by
  let s1 := ((s.modSeg k fun x => { x with present := false, got := false, frame := none, join := 0 }).pathsOff k).wr F.PWR_SEG_ON_ISLAND
    (s.rd F.PWR_SEG_ON_ISLAND - (s.rd F.PWR_SEG_ON_ISLAND &&& 2 ^ (k - 1)))
  let s2 := s1.modSeg k fun x => { x with blank := false }
  have hexec : exec (.segCardWithdrawn k) s = .next (if s.wdSlot = k || !s.segOk k || (s.segOf k).blank then
      (s2.setSegState k segABSENT).openLoop else s1.openLoop.setReady) :=
    congrArg Host.Outcome.next (if_neg (by simp [hpresent]; omega))
  have hcard1 : s1.segOf k = { s.segOf k with present := false, got := false, frame := none, join := 0 } := State.segOf_setSeg _ _ _
  have hcard2 : (s2.segOf k).present = false := by
    rw [show s2.segOf k = { s1.segOf k with blank := false } from State.segOf_setSeg _ _ _, hcard1]
  have habsent : (s2.wr (F.SEG_STATE_STATE k) segABSENT).RingKept (s2.setSegState k segABSENT).openLoop :=
    (s2.setSegState_kept k segABSENT).trans (State.openLoop_kept _)
  have hstays : s1.RingKept s1.openLoop.setReady := s1.openLoop_kept.trans (State.setReady_kept _)
  refine ⟨_, hexec, ?_, fun hwd => ?_, fun hwd hok hblank => ?_⟩
  · split
    · exact (congrArg Seg.present (habsent.cards k) :).trans hcard2
    · exact (congrArg Seg.present (hstays.cards k) :).trans (congrArg Seg.present hcard1)
  · rw [if_pos (by simp [hwd])]
    exact habsent.segState_of_wr (ringKey_segState hhigh) (by decide)
  · rw [if_neg (by simp [hwd, hok, hblank])]
    refine ⟨(hstays.regs _ (ringKey_segState hhigh)).trans (State.rd_wr_ne _ _ _ _ ?_), fun harmed hbypass => ?_⟩
    · exact (Field.key_ne_of_addr (f := F.SEG_STATE_STATE k) (by simp [F.SEG_STATE_STATE, F.PWR_SEG_ON_ISLAND]; omega) (show 0 < 32 by decide) (by decide))
    · have hgate : s1.gatePasses k = false := by
        unfold State.gatePasses
        rw [hcard1]
        rfl
      have hby : s1.bypassed k = false := (congrArg (fun w => w / 2 ^ (k - 1) % 2 == 1) (State.rd_wr_ne _ _ _ _ (by decide))).trans hbypass
      have hthrough : s1.toneThrough = false := by
        rw [Bool.eq_false_iff]
        intro hall
        have hk := List.all_eq_true.1 hall k ((mem_numbersFrom 1 26 k).2 (by omega))
        rw [hby, hgate] at hk
        cases hk
      have hopen : s1.openLoop = s1.toneLost := if_pos (by simp [show s1.seg.armed = true from harmed, hthrough])
      rw [hopen]
      exact (State.setReady_kept _).causes .tone s1.toneLost_latches

/-! ### Thermal shutdown (R322) -/

/-- A shutdown sets its marks, pauses the loads of the state engine and flags itself before the string is judged; the rest stands. -/
theorem shutdown_marks (s : State) : let t := (((s.wr F.SE_THROTTLE_PAUSE 7).setBudget).flag Fl.THM_EVENT_SHUTDOWN { system := true }).thmDrive
    State.Stands (keysBut standKey [F.SE_THROTTLE_PAUSE.key]) State.heldView s t ∧ t.rd F.SE_THROTTLE_PAUSE = 7 := by
  intro t
  have hrest : (s.wr F.SE_THROTTLE_PAUSE 7).ModeKept t :=
    ((State.setBudget_modeKept _).trans (State.flag_modeKept _ _ _)).trans (State.thmDrive_modeKept _)
  exact ⟨.trans (.wr s 7) (hrest.mono keysBut_le id), (hrest.regs F.SE_THROTTLE_PAUSE (by decide)).trans (State.rd_wr_same _ _ _)⟩

theorem State.startOrderly_begins (s : State) (dest cause : Nat) : (s.startOrderly dest cause).regs = s.regs ∧
    (s.startOrderly dest cause).safe = s.safe ∧ (s.startOrderly dest cause).thm = s.thm ∧
    (s.startOrderly dest cause).pwr.orderly = (if s.pwr.orderly.isSome then s.pwr.orderly else some { dest := dest, cause := cause }) := by
  unfold State.startOrderly
  split <;> exact ⟨rfl, rfl, rfl, rfl⟩

/-- The thermal shutdown: an orderly open where the string is closed, else the module is held off at once; a closing ends in either case. -/
theorem thermalShutdown_acts {s : State} (hawake : s.awake = true) (hshut : s.thm.shutting = false) (hheld : s.thm.heldOff = false)
    (hhot : 1000 ≤ s.thm.hotMs) :
    ∃ t, exec .thermalShutdown s = .next t ∧ t.safe.closing = .idle ∧
      (s.safe.closing = .idle → s.closed = true → t.thm.shutting = true ∧ t.mode = s.mode ∧ t.rd F.SE_THROTTLE_PAUSE = 7 ∧
        t.pwr.orderly = (if s.pwr.orderly.isSome then s.pwr.orderly else some { dest := mSTANDBY, cause := byCondition })) ∧
      (s.safe.closing = .idle → s.closed = false → t.thm.heldOff = true ∧ t.pwr.ctl = false ∧
        t.mode = (if s.mode = mLOCKOUT then mLOCKOUT else mSTANDBY) ∧ t.rd F.PWR_DOM_ON_DOM &&& heldDomains = 0) := by
  show ∃ t, execThermalShutdown s = .next t ∧ _
  unfold execThermalShutdown
  extract_lets again s1 _ s2 s3
  refine ⟨_, congrArg Host.Outcome.next (if_neg (by simp [hawake, hshut, hheld, hhot])), ?_⟩
  have h1 : s1.safe.closing = .idle ∧ (s.safe.closing = .idle → s1 = s) := by
    show (ite _ _ _ : State).safe.closing = .idle ∧ (_ → (ite _ _ _ : State) = s)
    split
    · next h => exact ⟨h, fun _ => rfl⟩
    · next h => exact ⟨(s.failClosing_ends 7).1, fun hi => absurd hi h⟩
  obtain ⟨hkept, hpause⟩ : State.Stands (keysBut standKey [F.SE_THROTTLE_PAUSE.key]) State.heldView s2 s3 ∧ s3.rd F.SE_THROTTLE_PAUSE = 7 :=
    shutdown_marks s2
  clear_value s3
  have hclosing3 : s3.safe.closing = .idle := (congrArg (fun x : SafeState × PwrState × Bool × Bool => x.1.closing) hkept.view :).trans h1.1
  have hshut3 : s3.thm.shutting = true := (congrArg (fun x : SafeState × PwrState × Bool × Bool => x.2.2.1) hkept.view :)
  have hpwr3 : s3.pwr = s1.pwr := (congrArg (fun x : SafeState × PwrState × Bool × Bool => x.2.1) hkept.view :)
  have hmode3 : s3.mode = s1.mode := hkept.regs F.SYS_MODE_MODE (by decide)
  have hclosed3 : s3.closed = s1.closed := congrArg (· == 1) (hkept.regs F.SAFE_STATUS_STRING_CLOSED (by decide))
  have hstand : s.safe.closing = .idle → s3.closed = s.closed ∧ s3.mode = s.mode ∧ s3.pwr = s.pwr := fun hi => by
    rw [hclosed3, hmode3, hpwr3, h1.2 hi]
    exact ⟨rfl, rfl, rfl⟩
  obtain ⟨hregs, hsafe, hthm, horderly⟩ := s3.startOrderly_begins mSTANDBY byCondition
  obtain ⟨hoff, hctl, -, hmode, -, hclosing, hdom⟩ := s3.shutFinish_ends
  refine ⟨?_, fun hi hcl => ?_, fun hi hcl => ?_⟩
  · split
    · rw [hsafe]
      exact hclosing3
    · exact hclosing.trans hclosing3
  · obtain ⟨hcl3, hm3, hp3⟩ := hstand hi
    rw [if_pos (hcl3.trans hcl), horderly, hthm, hp3]
    have hrd : ∀ f, (s3.startOrderly mSTANDBY byCondition).rd f = s3.rd f := fun f => by
      unfold State.rd
      rw [hregs]
    exact ⟨hshut3, (hrd _).trans hm3, (hrd _).trans hpause, rfl⟩
  · obtain ⟨hcl3, hm3, -⟩ := hstand hi
    rw [if_neg (by simp [hcl3, hcl]), hmode, hm3]
    exact ⟨hoff, hctl, rfl, hdom⟩

/-- Settles O13, card by card, and the thermal shutdown. -/
theorem cardsComeAndGo : Obligations.CardsComeAndGo := by
  unfold Obligations.CardsComeAndGo
  exact ⟨fun _ => heartbeatLoss_holds, fun _ => absence_opens, fun _ _ => absence_waits, fun _ => sfcWithdrawn_opens,
    fun _ serial b => sfcInserted_starts serial b, fun _ _ => segCardWithdrawn_leaves, fun _ => thermalShutdown_acts⟩

end Sys2Proof.Machine
end

section
/-! PROOFS. The mode commands (R39, R40, R45): what an accepted request finds and where it leads. -/

namespace Sys2Proof.Machine

-- One proof after another: a thread for each would not fit the memory of the check.
set_option Elab.async false

/-! ### A command with a part that follows its answer -/

section
variable {s s1 : State} {op role : Nat} {h : Hdr} {pre : List (Bool × Status)} {body : State → CmdRes} (after : State → State)

theorem State.commandThen_accept (a : s.Allowed op role h) (hp : ∀ x ∈ pre, x.1 = false) {key : Nat} {res : List Int}
    (hbody : body s = .accept s1 key res) :
    s.commandThen op role h pre body after = after (s.answer op role h (.accept s1 key res)) := by
  unfold State.commandThen
  rw [State.refusal_none s op role h pre a hp]
  simp only [hbody]

theorem State.commandThen_done (a : s.Allowed op role h) (hp : ∀ x ∈ pre, x.1 = false) {res : List Int} (hbody : body s = .done s1 res) :
    s.commandThen op role h pre body after = after (s.answer op role h (.done s1 res)) := by
  unfold State.commandThen
  rw [State.refusal_none s op role h pre a hp]
  simp only [hbody]

theorem State.commandThen_refuse (a : s.Allowed op role h) (hp : ∀ x ∈ pre, x.1 = false) {st : Status} (hbody : body s = .refuse st) :
    s.commandThen op role h pre body after = s.refuseCmd op role h st := by
  unfold State.commandThen
  rw [State.refusal_none s op role h pre a hp]
  simp only [hbody]
  rfl

end

/-- What an answer leaves of the state: all but the recorder, the host transport and the registers of the answer. -/
theorem State.Accepted.stands {s t : State} {op key : Nat} {h : Hdr} {res : List Int} (k : s.Accepted t op h key res) :
    State.Stands (fun q => !answerKeys.contains q) (fun s => ({ s with regs := [], recorder := {}, hrt := {} } : State)) s t := by
  obtain ⟨⟨hrest, hregs, -, -, -⟩, -⟩ := k
  have heq : t = { s with regs := t.regs, recorder := t.recorder, hrt := t.hrt } := hrest
  refine ⟨fun f hf => hregs f fun hm => ?_, ?_⟩
  · rw [List.contains_iff_mem.2 hm] at hf
    cases hf
  · rw [heq]

/-! ### The transition into SHELF (R52–R54) -/

/-- The registers and the mark that show a transition. -/
abbrev State.ShownMode (s t : State) : Prop :=
  State.Stands [F.SYS_MODE_MODE.key, F.SYS_MODE_TARGET.key, F.SYS_MODE_TRANSITION.key].contains (fun s => s.pwr.trans) s t

theorem State.ModeKept.shown {s t : State} (h : s.ModeKept t) : s.ShownMode t :=
  h.mono (contains_le (by decide)) fun x => x.2.1.trans

theorem State.CardKept.shown {s t : State} (h : s.CardKept t) : s.ShownMode t :=
  h.mono (contains_le (by decide)) fun x => x.2.1.trans

theorem State.endSession_modeKept (s : State) {p : Nat} (reason : Nat) (hp : p ≤ 2) : s.ModeKept (s.endSession p reason) := by
  have hkey : standKey (F.HRT_PORT_STATUS_ROLES p).key = false := by
    have hcases : p = 0 ∨ p = 1 ∨ p = 2 := by omega
    rcases hcases with rfl | rfl | rfl <;> decide
  have hport : ∀ y, s.ModeKept (s.setPort p y) := fun y => .of_eq (hr := by unfold State.setPort; split <;> rfl) (hv := by unfold State.setPort; split <;> rfl)
  unfold State.endSession
  split
  · exact .ite .of_eq (.refl s)
  · next x _ => exact .trans (t := if p = 2 then _ else _) (.ite .of_eq ((hport _).trans (.wr _ 0 hkey))) (State.post_modeKept _ _)

/-- P4 is entered as any other power state, but for the islands. -/
theorem State.enterPower_shown (s : State) (p : Nat) : s.ShownMode (s.enterPower p) := by
  unfold State.enterPower
  extract_lets on off s0 s1
  have h0 : s.ShownMode s0 := State.ModeKept.shown (.ite s.motSave_modeKept (.refl s))
  have h1 : s0.ShownMode s1 := .trans (.wr _ _) (.wr _ _)
  have h4 : s1.ShownMode (if p = 4 then ({ s1 with pwr.domFault := s.pwr.domFault &&& 0x441 } : State).wr F.PWR_SEG_ON_ISLAND 0 else s1) :=
    .ite (.trans .of_eq (.wr _ _)) (.refl s1)
  exact ((h0.trans h1).trans h4).trans (State.ModeKept.shown (State.isoRole_modeKept _))

theorem State.linksDrop_shown (s : State) : s.ShownMode s.linksDrop := by
  unfold State.linksDrop
  extract_lets s1
  have h1 : s.ModeKept s1 := ((s.endSession_modeKept _ (by decide)).trans (State.endSession_modeKept _ _ (by decide))).trans
    (State.endSession_modeKept _ _ (by decide))
  have hdrop : ∀ u : State, u.ShownMode { u with pwr.dropping := false } := fun _ => .of_eq
  exact ((State.ModeKept.shown (h1.trans s1.portsDown_modeKept)).trans (hdrop _)).trans (State.enterPower_shown _ _)

/-- What follows a transition and leaves its marks. -/
theorem State.InMode.shown {s t u : State} {new : Nat} (h : s.InMode t new) (k : t.ShownMode u) :
    u.mode = new ∧ u.rd F.SYS_MODE_TARGET = new ∧ u.rd F.SYS_MODE_TRANSITION = 0 ∧ u.pwr.trans = none := by
  obtain ⟨-, hmode, htarget, hstill, hpwr⟩ := h
  have htrans : t.pwr.trans = none := (congrArg PwrState.trans hpwr :)
  exact ⟨(k.regs F.SYS_MODE_MODE (by decide)).trans hmode, (k.regs F.SYS_MODE_TARGET (by decide)).trans htarget,
    (k.regs F.SYS_MODE_TRANSITION (by decide)).trans hstill, k.view.trans htrans⟩

/-- Once the request for SHELF is done, what follows it leaves the mode. -/
theorem State.shelfEnter_enters (s : State) : s.shelfEnter.mode = mSHELF ∧ s.shelfEnter.rd F.SYS_MODE_TARGET = mSHELF ∧
    s.shelfEnter.rd F.SYS_MODE_TRANSITION = 0 ∧ s.shelfEnter.pwr.trans = none := by
  unfold State.shelfEnter
  extract_lets s1 s2 s3 s4
  have hin := s1.outsDead.modeDone_enters (new := mSHELF) byCommand (by decide)
  have h2 : State.ShownMode (s1.outsDead.modeDone mSHELF byCommand) s2 := State.ModeKept.shown (State.seLost_modeKept _)
  have hcards : s2.ShownMode (s2.segList.foldl (fun s k => if s.segLive k then s.setSegState k segISOLATED else s) s2) :=
    .foldl _ _ (fun u k hk => .ite (State.CardKept.shown (u.setSegState_cardKept _ (State.segOk_bounds ((State.mem_segList _ _).1 hk)).2)) (.refl u)) s2
  have h3 : s2.ShownMode s3 := hcards.trans (State.ModeKept.shown ((State.allPathsOff_modeKept _).trans (State.zeroDuties_modeKept _)))
  have h4 : s3.ShownMode s4 := .wrs _ _ (by decide)
  have hmarks : ∀ u : State, u.ShownMode
      { u with seg.armed := false, pwr.wakes := 0, pwr.dropping := true
               can := u.can.map fun p => (p.1, { p.2 with integrating := false }) } := fun _ => .of_eq
  have hdrop : ∀ u : State, u.ShownMode u.shelfDrop := fun u => .ite u.linksDrop_shown (.refl u)
  have hall := (((h2.trans h3).trans h4).trans (hmarks s4)).trans (hdrop _)
  exact hin.shown hall

/-! ### The request that runs at once (R39, R40) -/

/-- A request that waits for nothing ends in its mode. -/
theorem State.modeRun_enters (s : State) {t : Nat} (ht : t < 8) (hrun : t = mRUN → s.closed = true) (hstandby : t = mSTANDBY → s.closed = false) :
    (s.modeRun t).mode = t ∧ (s.modeRun t).rd F.SYS_MODE_TARGET = t ∧ (s.modeRun t).rd F.SYS_MODE_TRANSITION = 0 ∧ (s.modeRun t).pwr.trans = none := by
  have hdone : ∀ u : State, (u.modeDone t byCommand).mode = t ∧ (u.modeDone t byCommand).rd F.SYS_MODE_TARGET = t ∧
      (u.modeDone t byCommand).rd F.SYS_MODE_TRANSITION = 0 ∧ (u.modeDone t byCommand).pwr.trans = none := fun u => (u.modeDone_enters byCommand ht).shown (.refl _)
  unfold State.modeRun
  by_cases hshelf : t = mSHELF
  · rw [if_pos hshelf, hshelf]
    exact s.shelfEnter_enters
  rw [if_neg hshelf]
  by_cases hr : t = mRUN
  · rw [if_pos hr, if_pos (hrun hr), ← hr]
    exact hdone _
  rw [if_neg hr, if_neg (by rintro ⟨hs, hc⟩; rw [hstandby hs] at hc; cases hc)]
  exact hdone s

/-! ### The closing that a request for RUN begins (R46, R281) -/

/-- The registers that the conditions of a closing read, the mode and the bank. -/
def closeKey (q : Nat) : Bool :=
  (decide (0x90000 * 32 ≤ q) && decide (q < 0x9003C * 32)) || (decide (0x40100 * 32 ≤ q) && decide (q < 0x40170 * 32)) || q / 32 == 0x60050 ||
  q / 32 == 0xA0020 || q == F.SYS_ID_SEG_FITTED.key || q == F.SYS_MODE_MODE.key || q == F.BANK_CFG_SIZE_M1.key

/-- `t` comes from `s` with what a closing needs as it was. -/
abbrev State.CloseStands (s t : State) : Prop := State.Stands closeKey (fun s => (s.safe, s.seg.segs)) s t

theorem closeKey_segState {k : Nat} (hk : k ≤ 26) : closeKey (F.SEG_STATE_STATE k).key = true := by
  simp only [closeKey, Bool.or_eq_true, Bool.and_eq_true, decide_eq_true_eq]
  refine .inl (.inl (.inl (.inl (.inl (.inr ?_)))))
  simp only [Field.key, F.SEG_STATE_STATE]
  omega

section
variable {s t : State} (h : s.CloseStands t)
include h

theorem State.CloseStands.safe : t.safe = s.safe := congrArg Prod.fst h.view

theorem State.CloseStands.segOf (k : Nat) : t.segOf k = s.segOf k := 
  (congrArg (fun x : SafeState × List (Nat × Seg) => Tbl.get ({} : Seg) x.2 k) h.view :)

theorem State.CloseStands.isOn {f : Field} (hf : closeKey f.key = true) : t.isOn f = s.isOn f := congrArg (· == 1) (h.regs f hf)

theorem State.CloseStands.segs : t.segs = s.segs := congrArg (min 26) (h.regs F.SYS_ID_SEG_FITTED (by decide))

theorem State.CloseStands.inClass (i : Nat) : t.inClass i = s.inClass i := by
  unfold State.inClass
  rw [State.CloseStands.safe h]

theorem State.CloseStands.inFn (i : Nat) : t.inFn i = s.inFn i := by
  unfold State.inFn
  rw [State.CloseStands.safe h]

theorem State.CloseStands.input (i : Nat) : t.input i = s.input i := by
  unfold State.input
  rw [State.CloseStands.safe h]

theorem State.CloseStands.readyBits : t.readyBits = s.readyBits := by
  have hsafe := State.CloseStands.safe h
  have hseg := State.CloseStands.segOf h
  have hsegs := State.CloseStands.segs h
  have hlist : t.segList = s.segList := congrArg (numbersFrom 1) hsegs
  have hstate : (t.segList.any fun k => t.segState k != segSERVICE) = s.segList.any fun k => s.segState k != segSERVICE := by
    rw [hlist, Bool.eq_iff_iff, List.any_eq_true, List.any_eq_true]
    have heq : ∀ k ∈ s.segList, t.segState k = s.segState k := fun k hk =>
      h.regs _ (closeKey_segState (State.segOk_bounds ((State.mem_segList s k).1 hk)).2)
    exact ⟨fun ⟨k, hk, hne⟩ => ⟨k, hk, heq k hk ▸ hne⟩, fun ⟨k, hk, hne⟩ => ⟨k, hk, (heq k hk).symm ▸ hne⟩⟩
  have hempty : t.slotEmpty = s.slotEmpty := by
    unfold State.slotEmpty
    rw [hsegs]
    simp only [hseg]
  have hself : (t.segList.any fun k => (t.segOf k).selftest) = s.segList.any fun k => (s.segOf k).selftest := by
    rw [hlist]
    simp only [hseg]
  have hguard : t.guardDone = s.guardDone := by
    unfold State.guardDone
    simp only [State.CloseStands.inClass h, State.CloseStands.input h]
  have hparam : t.paramValid = s.paramValid := by
    unfold State.paramValid
    rw [hsafe]
  unfold State.readyBits
  rw [hself, hguard, hparam, hstate, hempty, hsafe, State.CloseStands.isOn h (f := F.CIM_ISO_STATUS_ALARM) (by decide),
    State.CloseStands.isOn h (f := F.SAFE_STATUS_SSD_DEMAND) (by decide), State.CloseStands.isOn h (f := F.SAFE_STATUS_SVW_DEMAND) (by decide),
    State.CloseStands.isOn h (f := F.SAFE_OUT_COIL_SUPPLY) (by decide), State.CloseStands.isOn h (f := F.THM_STATUS_ACK_PENDING) (by decide),
    h.regs F.SAFE_IN_DISCREPANCY (by decide)]

theorem State.CloseStands.fbHealthy (fn : Nat) : t.fbHealthy fn = s.fbHealthy fn := by
  unfold State.fbHealthy
  simp only [State.CloseStands.inClass h, State.CloseStands.inFn h, State.CloseStands.input h]

/-- What both channels confirm before a closing depends on those registers and the safety card and cards alone. -/
theorem State.CloseStands.canClose : t.canClose = s.canClose := by
  have hsw : t.switches = s.switches := h.regs F.SAFE_OUT_SWITCH (by decide)
  have hread : t.allRead = s.allRead := by
    unfold State.allRead
    rw [hsw]
  unfold State.canClose
  rw [State.CloseStands.readyBits h, hread, hsw, State.CloseStands.fbHealthy h, State.CloseStands.fbHealthy h, State.CloseStands.fbHealthy h]

end

/-- The reload of slot 0 leaves what a closing needs. -/
theorem State.estUnpark_closeStands (s : State) : s.CloseStands s.estUnpark := by
  have hread : ∀ u : State, u.CloseStands { u with est.readAt := none } := fun _ => .of_eq
  have hload : ∀ (u : State) (q : SeKernel) (l : List SeInst), u.CloseStands (u.seLoadFw 0 q l) := fun u q l =>
    .ite (.trans .of_eq (.wr _ _)) (.refl u)
  have hcommit : ∀ l, s.CloseStands (s.estCommit l) := fun l => by
    unfold State.estCommit
    extract_lets rate ld t _ _ s1 s2
    have h1 : s.CloseStands s1 := .of_eq
    have h2 : s1.CloseStands s2 := hload _ _ _
    exact .ite (h1.trans h2) (.refl s)
  exact .ite ((hcommit _).trans (hread _)) (.refl s)

/-- The bits of a mask that is set read 1. -/
theorem or_bit_set (n : Nat) {m i w : Nat} (hi : i < w) (hm : m.testBit i = true) : (n ||| m) % 2 ^ w / 2 ^ i % 2 = 1 := by
  rw [← Nat.toNat_testBit, Nat.testBit_mod_two_pow, Nat.testBit_or, hm, decide_eq_true hi, Bool.or_true]
  rfl

/-- KPC is on, and the string counts as closed (R268, R276). -/
theorem State.outOnSet_closes (s : State) : (s.outOnSet 2).outOn 2 = true ∧ (s.outOnSet 2).closed = true ∧
    State.Stands (keysBut standKey switchKeys) (fun s => s.safe.closing) s (s.outOnSet 2) := by
  let s1 : State := (({ s with safe.closedAt := s.time.count } : State).wr F.SAFE_OUT_SWITCH (s.switches ||| switchBits 2)).wr F.SAFE_STATUS_STRING_CLOSED 1
  have hlast : State.Stands standKey (fun s => s.safe.closing) s1.mirrorSwitches (s.outOnSet 2) :=
    .ite (.refl _) ((State.isoString_modeKept _).mono (fun _ hq => hq) fun x => x.1.closing)
  obtain ⟨hmirror, hclosed⟩ := s1.mirrorSwitches_spec
  have hsw1 : s1.switches = (s.switches ||| 0xF00) % 2 ^ 12 := (State.rd_wr_ne _ _ _ _ (by decide)).trans (State.rd_wr_same _ _ _)
  have hsw : (s.outOnSet 2).switches = (s.switches ||| 0xF00) % 2 ^ 12 :=
    (hlast.regs F.SAFE_OUT_SWITCH (by decide)).trans ((hmirror.regs F.SAFE_OUT_SWITCH (by decide)).trans hsw1)
  have hclosed1 : s1.closed = true := congrArg (· == 1) (State.rd_wr_same _ F.SAFE_STATUS_STRING_CLOSED 1)
  have hread : (s1.readbacks != 0) = true := by
    rw [bne_iff_ne]
    intro hzero
    have hbit := bit_clear_of_and_eq_zero (i := 9) hzero (by decide)
    rw [hsw1, or_bit_set _ (by decide) (by decide)] at hbit
    cases hbit
  refine ⟨?_, ?_, ?_⟩
  · have hhs := or_bit_set s.switches (m := 0xF00) (i := 8) (w := 12) (by decide) (by decide)
    have hls := or_bit_set s.switches (m := 0xF00) (i := 10) (w := 12) (by decide) (by decide)
    unfold State.outOn
    rw [hsw, show 16 ^ 2 = 2 ^ 8 by decide, show 4 * 2 ^ 8 = 2 ^ 10 by decide, hhs, hls]
    rfl
  · refine (congrArg (· == 1) (hlast.regs F.SAFE_STATUS_STRING_CLOSED (by decide))).trans (hclosed.trans ?_)
    rw [hclosed1, hread]
    rfl
  · have h1 : State.Stands (keysBut standKey switchKeys) (fun s => s.safe.closing) s s1 := .trans (.trans .of_eq (.wr _ _)) (.wr _ _)
    exact (h1.trans (hmirror.mono (keysBut_mono (List.subset_cons_self _ _)) fun x => x.1.closing)).trans (hlast.mono keysBut_le id)

/-- The first steps of a closing: KPC closes, the weld check runs (R281). -/
theorem State.startClosing_begins (s : State) : s.startClosing.safe.closing = .weldCheck ∧ s.startClosing.isOn F.SAFE_STATUS_CLOSING = true ∧
    s.startClosing.outOn 2 = true ∧ s.startClosing.mode = s.mode ∧ s.startClosing.closed = true := by
  have hwrs : ∀ u : State, (u.wrs [(F.SAFE_STATUS_CLOSING, 1), (F.SAFE_PC_ENERGY_J, 0), (F.SAFE_PRECHARGE_DURATION, 0),
      (F.SAFE_PRECHARGE_RESULT, 0)]).rd F.SAFE_STATUS_CLOSING = 1 % 2 ^ 1 := fun u => u.rd_wrs_get 0
  have hmode : ∀ u : State, State.Stands (· == F.SYS_MODE_MODE.key) (fun _ => ()) u (u.wrs [(F.SAFE_STATUS_CLOSING, 1), (F.SAFE_PC_ENERGY_J, 0),
      (F.SAFE_PRECHARGE_DURATION, 0), (F.SAFE_PRECHARGE_RESULT, 0)]) := fun u => .wrs u _
  unfold State.startClosing
  extract_lets _ _ s1
  have hclosing1 : s1.safe.closing = .weldCheck := rfl
  have hshown1 : s1.isOn F.SAFE_STATUS_CLOSING = true := congrArg (· == 1) (hwrs _)
  have hmode1 : s1.mode = s.mode := (hmode _).regs F.SYS_MODE_MODE (by decide)
  clear_value s1
  obtain ⟨hon, hclosed, hkept⟩ := s1.outOnSet_closes
  exact ⟨hkept.view.trans hclosing1, (congrArg (· == 1) (hkept.regs F.SAFE_STATUS_CLOSING (by decide))).trans hshown1, hon,
    (hkept.regs F.SYS_MODE_MODE (by decide)).trans hmode1, hclosed⟩

/-- A request for RUN closes the string where its conditions hold (R281). -/
theorem State.beginClosing_begins (s : State) (hcan : s.canClose = true) :
    s.beginClosing.safe.closing = .weldCheck ∧ s.beginClosing.isOn F.SAFE_STATUS_CLOSING = true ∧ s.beginClosing.outOn 2 = true ∧
    s.beginClosing.mode = s.mode ∧ s.beginClosing.closed = true := by
  have hpark := s.estUnpark_closeStands
  have heq : s.beginClosing = s.estUnpark.startClosing := if_pos ((State.CloseStands.canClose hpark).trans hcan)
  obtain ⟨hclosing, hshown, hon, hmode, hclosed⟩ := s.estUnpark.startClosing_begins
  rw [heq]
  exact ⟨hclosing, hshown, hon, hmode.trans (hpark.regs F.SYS_MODE_MODE (by decide)), hclosed⟩

/-! ### MODE_REQUEST (R39, R40, R45) -/

/-- None of the registers listed is one of `P`. -/
theorem keys_avoid {P Q : Nat → Bool} (ks : List Nat) (h : (ks.all fun q => !P q) = true) (hQ : ∀ q, q ∉ ks → Q q = true := by simp) (q : Nat)
    (hq : P q = true) : Q q = true :=
  hQ q fun hm => by
    have hno := List.all_eq_true.1 h q hm
    rw [hq] at hno
    cases hno

/-- What an accepted request finds: the transition shown, the rest as before. -/
theorem State.asked_stands (s : State) (h : Hdr) (t : Nat) :
    State.Stands (fun q => q != F.SYS_MODE_TRANSITION.key && q != F.SYS_MODE_TARGET.key)
      (fun s => ({ s with regs := [], pwr.trans := none } : State)) s (s.asked h t) := .trans .of_eq (.wrs _ _)

section
variable {s : State} {h : Hdr} {t : Nat}

/-- An accepted request, and the state it runs on. -/
theorem modeRequest_accepts (hallowed : s.Allowed 0x0101 (if t = mSERVICE then rMaintainer else rOperator) h) (ht : t ≤ 5)
    (hask : s.askRefusal t = none) :
    ∃ v, (s.asked h t).Accepted v 0x0101 h 0 [] ∧ exec (.modeRequest h t) s = .next (v.modeRun t) := by
  refine ⟨_, State.answer_accept s _ _ (if t = mSERVICE then rMaintainer else rOperator) _ _ _, ?_⟩
  refine congrArg Host.Outcome.next (State.commandThen_accept _ hallowed (by simpa using ht) ?_)
  simp only [hask]
  rfl

theorem modeRequest_refused {st : Status} (hallowed : s.Allowed 0x0101 (if t = mSERVICE then rMaintainer else rOperator) h) (ht : t ≤ 5)
    (hask : s.askRefusal t = some st) :
    exec (.modeRequest h t) s = .next (s.refuseCmd 0x0101 (if t = mSERVICE then rMaintainer else rOperator) h st) :=
  congrArg Host.Outcome.next (State.commandThen_refuse _ hallowed (by simpa using ht) (by simp only [hask]))

/-- The request runs on a state that shows it, with everything else as before. -/
theorem State.Accepted.found {v : State} (k : (s.asked h t).Accepted v 0x0101 h 0 []) (ht : t ≤ 5) :
    s.CloseStands v ∧ v.mode = s.mode ∧ v.closed = s.closed ∧ v.inBank = s.inBank ∧ v.pwr.orderly = s.pwr.orderly ∧
    v.rd F.SYS_MODE_TRANSITION = 1 ∧ v.rd F.SYS_MODE_TARGET = t := by
  have hasked : s.CloseStands (s.asked h t) := (s.asked_stands h t).mono (keys_avoid [F.SYS_MODE_TRANSITION.key, F.SYS_MODE_TARGET.key] (by decide))
    fun x => (x.safe, x.seg.segs)
  have hanswer : (s.asked h t).CloseStands v := k.stands.mono (keys_avoid answerKeys (by decide)) fun x => (x.safe, x.seg.segs)
  have hstands := hasked.trans hanswer
  have hpwr : v.pwr = (s.asked h t).pwr := (congrArg State.pwr k.stands.view :)
  have hmarks : ∀ u : State, (u.wrs [(F.SYS_MODE_TRANSITION, 1), (F.SYS_MODE_TARGET, t)]).rd F.SYS_MODE_TRANSITION = 1 % 2 ^ 1 ∧
      (u.wrs [(F.SYS_MODE_TRANSITION, 1), (F.SYS_MODE_TARGET, t)]).rd F.SYS_MODE_TARGET = t % 2 ^ 3 := fun u => ⟨u.rd_wrs_get 0, u.rd_wrs_get 1⟩
  refine ⟨hstands, hstands.regs F.SYS_MODE_MODE (by decide), congrArg (· == 1) (hstands.regs F.SAFE_STATUS_STRING_CLOSED (by decide)),
    congrArg (· != 0) (hstands.regs F.BANK_CFG_SIZE_M1 (by decide)), (congrArg PwrState.orderly hpwr :),
    (k.stands.regs F.SYS_MODE_TRANSITION (by decide)).trans (hmarks _).1, (k.stands.regs F.SYS_MODE_TARGET (by decide)).trans ((hmarks _).2.trans ?_)⟩
  exact Nat.mod_eq_of_lt (by omega)

/-- Where an accepted request leads: to its mode, to an orderly open, or to a closing. -/
theorem modeRequest_leads (hallowed : s.Allowed 0x0101 (if t = mSERVICE then rMaintainer else rOperator) h) (ht : t ≤ 5)
    (hask : s.askRefusal t = none) :
    ∃ v u : State, (s.asked h t).Accepted v 0x0101 h 0 [] ∧ exec (.modeRequest h t) s = .next u ∧
      ((t = mRUN → s.closed = true) → (t = mSTANDBY → s.closed = false) →
        u.mode = t ∧ u.rd F.SYS_MODE_TARGET = t ∧ u.rd F.SYS_MODE_TRANSITION = 0 ∧ u.pwr.trans = none) ∧
      (t = mSTANDBY → s.closed = true → u.mode = s.mode ∧ u.rd F.SYS_MODE_TRANSITION = 1 ∧ u.rd F.SYS_MODE_TARGET = mSTANDBY ∧
        u.pwr.orderly = (if s.pwr.orderly.isSome then s.pwr.orderly else some { dest := mSTANDBY, cause := byCommand })) ∧
      (t = mRUN → s.closed = false → s.inBank = false → s.canClose = true → u.safe.closing = .weldCheck ∧ u.isOn F.SAFE_STATUS_CLOSING = true ∧
        u.outOn 2 = true ∧ u.mode = s.mode ∧ u.closed = true) := by
  obtain ⟨v, haccepted, hexec⟩ := modeRequest_accepts hallowed ht hask
  obtain ⟨hstands, hmode, hclosed, hbank, horderly, htrans, htarget⟩ := haccepted.found ht
  refine ⟨v, _, haccepted, hexec, fun hrun hstandby => ?_, fun hstandby hcl => ?_, fun hrun hcl hb hcan => ?_⟩
  · exact v.modeRun_enters (by omega) (fun h => hclosed.trans (hrun h)) fun h => hclosed.trans (hstandby h)
  · have heq : v.modeRun t = v.startOrderly mSTANDBY byCommand := by
      unfold State.modeRun
      rw [if_neg (by rw [hstandby]; decide), if_neg (by rw [hstandby]; decide), if_pos ⟨hstandby, hclosed.trans hcl⟩]
    obtain ⟨hregs, -, -, hopen⟩ := v.startOrderly_begins mSTANDBY byCommand
    have hrd : ∀ f, (v.startOrderly mSTANDBY byCommand).rd f = v.rd f := fun f => by
      unfold State.rd
      rw [hregs]
    rw [heq, hopen, horderly]
    exact ⟨(hrd _).trans hmode, (hrd _).trans htrans, (hrd _).trans (htarget.trans hstandby), rfl⟩
  · have heq : v.modeRun t = v.beginClosing := by
      unfold State.modeRun State.closeNow
      rw [if_neg (by rw [hrun]; decide), if_pos hrun, if_neg (by rw [hclosed, hcl]; decide), if_neg (by rw [hbank, hb]; decide)]
    obtain ⟨hclosing, hshown, hon, hm, hc⟩ := v.beginClosing_begins ((State.CloseStands.canClose hstands).trans hcan)
    rw [heq]
    exact ⟨hclosing, hshown, hon, hm.trans hmode, hc⟩

end

/-! ### Further commands (R45) -/

theorem latencyTolerance_sets {s : State} {h : Hdr} {tol : Nat} (hallowed : s.Allowed 0x0102 rOperator h) (htol : tol < two32) :
    ∃ u, exec (.setLatencyTolerance h tol) s = .next u ∧ (s.wr F.PWR_LAT_TOL_TOL_US tol).setFloor.Done u 0x0102 h .ok [] :=
  ⟨_, congrArg Host.Outcome.next (State.command_run _ _ _ _ _ _ hallowed (by simpa using htol)), State.answer_done _ _ _ _ _ _⟩

theorem readStatus_tells {s : State} {h : Hdr} (hallowed : s.Allowed 0x0104 rObserver h) :
    ∃ u, exec (.readStatus h) s = .next u ∧ s.Told u 0x0104 h (s.words [0x10, 0x10000, 0x10020, 0x10030]) :=
  ⟨_, congrArg Host.Outcome.next (State.command_run _ _ _ _ _ _ hallowed (by simp)), State.answer_ret _ _ _ _ _ _⟩

end Sys2Proof.Machine
end

section
/-! PROOFS. The reset cause (R56–R60, R65): a frame over PWR_RESET_CAUSE, kept by all that follows the reset of the controller card. -/

namespace Sys2Proof.Machine

-- One proof after another: a thread for each would not fit the memory of the check.
set_option Elab.async false

/-! ### The frame -/

/-- The word of PWR_RESET_CAUSE. -/
def causeKey (q : Nat) : Bool := q / 32 == 0x10030

/-- `t` comes from `s` with PWR_RESET_CAUSE as it was. -/
abbrev State.CauseKept (s t : State) : Prop := State.Stands causeKey (fun _ => ()) s t

theorem causeKey_of_addr {f : Field} (h : 0x10034 ≤ f.addr) : causeKey f.key = false := by
  rw [Bool.eq_false_iff]
  intro hk
  simp only [causeKey, beq_iff_eq, Field.key] at hk
  omega

theorem standKey_of_causeKey (q : Nat) (h : causeKey q = true) : standKey q = true := by
  simp only [causeKey] at h
  simp only [standKey, h, Bool.or_true, Bool.true_or]

/-- Registers listed elsewhere do not name the word. -/
theorem keysBut_of_causeKey {ks : List Nat} (hks : ∀ k ∈ ks, k / 32 ≠ 0x10030) (q : Nat) (h : causeKey q = true) : keysBut standKey ks q = true := by
  simp only [keysBut, standKey_of_causeKey q h, Bool.true_and, Bool.not_eq_true', List.contains_eq_mem, decide_eq_false_iff_not]
  exact fun hm => hks q hm (beq_iff_eq.1 h)

theorem State.ModeKept.cause {s t : State} (h : s.ModeKept t) : s.CauseKept t := h.mono standKey_of_causeKey fun _ => ()

theorem State.LockKept.cause {s t : State} (h : s.LockKept t) : s.CauseKept t := h.mono (keysBut_of_causeKey (by decide)) fun _ => ()

theorem State.SetKept.cause {s t : State} (h : s.SetKept t) : s.CauseKept t := State.LockKept.cause (State.SetKept.lockKept h)

namespace State.Stands

/-- Writes to registers beyond the word. -/
theorem wr_past (s : State) {f : Field} (n : Nat) (h : 0x10034 ≤ f.addr) : s.CauseKept (s.wr f n) := .wr s n (causeKey_of_addr h)

theorem wrs_past (s : State) (l : List (Field × Nat)) (h : ∀ p ∈ l, 0x10034 ≤ p.1.addr) : s.CauseKept (s.wrs l) :=
  .wrs s l (List.all_eq_true.2 fun p hp => by rw [causeKey_of_addr (h p hp)]; rfl)

end State.Stands

/-! ### Records, flags, spares and the end of a card's operations (R29, R30, R501, R530) -/

theorem State.post_causeKept (s : State) (r : Rec) : s.CauseKept (s.post r) := State.ModeKept.cause (s.post_modeKept r)

theorem State.flag_causeKept (s : State) (fl : Flag) (n : Note) (hb : 0x10034 ≤ fl.bit.addr := by decide)
    (hc : 0x10034 ≤ fl.cnt.addr := by decide) : s.CauseKept (s.flag fl n) :=
  (((State.Stands.wr_past s 1 hb).trans (.wr_past _ _ hc)).trans (State.post_causeKept _ _)).trans .of_eq

theorem State.finish_causeKept (s : State) (op key : Nat) (st : Status) (res : List Int) : s.CauseKept (s.finish op key st res) :=
  State.ModeKept.cause (s.finish_modeKept op key st res)

theorem State.exhaust_causeKept (s : State) (pool res : Nat) : s.CauseKept (s.exhaust pool res) := by
  unfold State.exhaust
  extract_lets _ s1 s2
  have h1 : s.CauseKept s1 := .of_eq
  have h2 : s1.CauseKept s2 := .ite (.refl s1) (.wr _ _)
  exact .ite (.refl s) (((h1.trans h2).trans (State.flag_causeKept _ _ _)).trans (State.post_causeKept _ _))

theorem State.unspend_causeKept (s : State) (pool res : Nat) : s.CauseKept (s.unspend pool res) := by
  unfold State.unspend
  extract_lets l _ s1
  have h1 : s.CauseKept s1 := .of_eq
  exact .ite (h1.trans (.wr _ _)) h1

theorem State.spareTook_causeKept (s : State) (pool replaced taken : Nat) : s.CauseKept (s.spareTook pool replaced taken) :=
  (s.flag_causeKept _ _).trans (State.post_causeKept _ _)

theorem State.setReady_causeKept (s : State) : s.CauseKept s.setReady := .wr s _

theorem State.setX19_causeKept (s : State) : s.CauseKept s.setX19 := .wrB s _

/-! ### Segment cards (R95, R100, R101, R114, R116, R147, R297) -/

theorem State.setSegState_causeKept (s : State) (k st : Nat) : s.CauseKept (s.setSegState k st) := by
  unfold State.setSegState
  extract_lets s1 s2
  have h1 : s.CauseKept s1 := .wr_past s st (by simp [F.SEG_STATE_STATE]; omega)
  have h2 : s1.CauseKept s2 := .ite (State.ModeKept.cause (s1.leaveLive_modeKept k)) (.refl s1)
  exact (h1.trans h2).trans s2.setReady_causeKept

theorem State.gateTone_causeKept (s : State) : s.CauseKept s.gateTone := State.ModeKept.cause s.gateTone_modeKept

theorem State.unlearn_causeKept (s : State) (k : Nat) : s.CauseKept (s.unlearn k) := by
  refine .foldl _ _ (fun u w _ => ?_) s
  extract_lets _ s1
  have h1 : u.CauseKept s1 := .of_eq
  refine .ite (h1.trans (.wr_past _ _ ?_)) (h1.trans (.wr_past _ _ ?_))
  · simp [F.BAL_RW_RW_LO]; omega
  · simp [F.BAL_RW_RW_HI]; omega

theorem State.clearWires_causeKept (s : State) (k : Nat) : s.CauseKept (s.clearWires k) := by
  refine .trans (.wrs_past s _ ?_) .of_eq
  simp [F.SEG_WIRE_WIRE_MAP, F.SEG_WIRE_S0, F.SEG_WIRE_S16, F.SEG_WIRE_PAIR_MODE, F.SEG_WIRE_INTERMITTENT]
  omega

theorem State.cardReset_causeKept (s : State) (k : Nat) : s.CauseKept (s.cardReset k) := by
  unfold State.cardReset
  extract_lets s1 used s2 _ s3
  have h1 : s.CauseKept s1 := by
    refine .wrs_past s _ ?_
    simp [F.SEG_WIRE_SENSE_LOSS, F.SEG_STATE_SPARE_SUBST, F.SEG_STATE_SPARE_FAILED, F.SEG_STATE_SPARE_POS, F.UC_CONV_POSITION, F.UC_CONV_FAILED]
    omega
  have h2 : s1.CauseKept s2 := .ite (.wr _ _) (.refl s1)
  have h3 : s2.CauseKept s3 := .trans (State.ModeKept.cause (s2.leaveLive_modeKept k)) .of_eq
  have hbal : s3.CauseKept (s3.setBal k {}) := .of_eq
  exact ((((h1.trans h2).trans h3).trans hbal).trans (State.unlearn_causeKept _ _)).trans (State.unspend_causeKept _ _ _)

theorem State.slotStart_causeKept (s : State) (kind k : Nat) : s.CauseKept (s.slotStart kind k) := by
  unfold State.slotStart
  extract_lets x s1
  have h1 : s.CauseKept s1 := s.cardReset_causeKept k
  exact .ite (s.setSegState_causeKept _ _) (.ite ((h1.trans (.ite (.refl s1) (s1.clearWires_causeKept k))).trans (State.setSegState_causeKept _ _ _))
    (s.setSegState_causeKept _ _))

theorem State.segsStart_causeKept (s : State) (kind : Nat) : s.CauseKept (s.segsStart kind) := by
  unfold State.segsStart
  extract_lets s1
  have h1 : s.CauseKept s1 := .foldl _ _ (fun u k _ => u.slotStart_causeKept kind k) s
  have harm : ∀ u : State, u.CauseKept { u with seg.armed := false, seg.deadline := false, seg.loopOpen := false, seg.latchCheck := kind == 2 } :=
    fun _ => .of_eq
  clear_value s1
  refine (h1.trans (harm s1)).trans (.wrs _ _ ?_)
  rw [List.all_append, List.all_append, Bool.and_eq_true, Bool.and_eq_true]
  refine ⟨⟨?_, ?_⟩, ?_⟩
  · simp only [List.all_cons, List.all_nil]
    decide
  · split <;> decide
  · split
    · rfl
    · simp only [List.all_cons, List.all_nil]
      decide

theorem State.endWithdrawal_causeKept (s : State) : s.CauseKept s.endWithdrawal := .trans (.wrs s _) (State.gateTone_causeKept _)

theorem State.firstFrame_causeKept (s : State) (k : Nat) : s.CauseKept (s.firstFrame k) := by
  unfold State.firstFrame
  extract_lets s1 s2
  have hjoin : ∀ g, s.CauseKept (s.modSeg k g) := fun _ => .of_eq
  have h1 : s.CauseKept s1 := ((hjoin _).trans (State.setSegState_causeKept _ _ _)).trans (State.unlearn_causeKept _ _)
  have h2 : s.CauseKept s2 := h1.trans (State.flag_causeKept _ _ _)
  exact .ite (h2.trans (State.endWithdrawal_causeKept _)) h2

theorem State.joinFail_causeKept (s : State) (k step : Nat) : s.CauseKept (s.joinFail k step) := by
  have hjoin : ∀ g, s.CauseKept (s.modSeg k g) := fun _ => .of_eq
  exact ((hjoin _).trans (State.setSegState_causeKept _ _ _)).trans (State.flag_causeKept _ _ _)

theorem State.refJudge_causeKept (s : State) (k : Nat) (dev : Rat) : s.CauseKept (s.refJudge k dev) := by
  have hjudge : ∀ g, s.CauseKept (s.modSeg k g) := fun _ => .of_eq
  refine .ite (((hjudge _).trans (.wrs_past _ _ ?_)).trans (State.exhaust_causeKept _ _ _)) (hjudge _)
  simp [F.SEG_STATE_SPARE_FAILED, F.UC_CONV_FAILED]
  omega

theorem State.echoCheck_causeKept (s : State) (k : Nat) (e : CmpEcho) : s.CauseKept (s.echoCheck k e) :=
  .ite (.refl s) (State.LockKept.cause (s.raiseCause_lockKept (.inl (by decide)) 2))

theorem State.latchCheck_causeKept (s : State) (rel : List (Nat × Nat)) : s.CauseKept (s.latchCheck rel) := by
  unfold State.latchCheck
  extract_lets one _ s1 s2
  have hone : ∀ (u : State) (k : Nat), u.CauseKept (one u k) := fun u k => by
    refine .ite (.refl u) (.trans (.wrs_past u _ ?_) (State.post_causeKept _ _))
    simp [F.SEG_CMP_OV_LATCH, F.SEG_CMP_UV_LATCH]
    omega
  have hcheck : s.CauseKept { s with seg.latchCheck := false } := .of_eq
  have h1 : s.CauseKept s1 := hcheck.trans (.foldl _ _ (fun u k _ => hone u k) _)
  have h2 : s1.CauseKept s2 := .ite (State.LockKept.cause (s1.lockout_lockKept _ _)) (.refl s1)
  exact .ite (.refl s) ((h1.trans h2).trans (.ite (State.LockKept.cause (s2.lockout_lockKept _ _)) (.refl s2)))

theorem State.joinDone_causeKept (s : State) (k : Nat) (c : JoinCheck) (rel : List (Nat × Nat)) : s.CauseKept (s.joinDone k c rel) := by
  unfold State.joinDone
  extract_lets s1 s2
  have hspare : ∀ u : State, u.CauseKept (u.turnSpare k 0) := fun _ => .of_eq
  have h1 : s.CauseKept s1 := (s.refJudge_causeKept k _).trans (hspare _)
  have h2 : s1.CauseKept s2 := (s1.firstFrame_causeKept k).trans (State.echoCheck_causeKept _ _ _)
  exact .ite (.refl s) (.ite (s.joinFail_causeKept _ _) (.ite ((h1.trans h2).trans (State.latchCheck_causeKept _ _)) (h1.trans h2)))

theorem State.loadDelays_causeKept (s : State) (d : List (Nat × (Nat × Nat))) : s.CauseKept (s.loadDelays d) := by
  refine .foldl _ _ (fun u p _ => .ite (.trans .of_eq (.wrs_past _ _ ?_)) (.refl u)) s
  simp [F.LATH_DELAY_DELAY_A, F.LATH_DELAY_DELAY_B]
  omega

theorem State.presentStable_causeKept (s : State) (k : Nat) (trips : List (Nat × (Nat × Nat))) : s.CauseKept (s.presentStable k trips) := by
  unfold State.presentStable
  extract_lets on s1 s2 d
  have h1 : s.CauseKept s1 := .wr s _
  have h2 : s1.CauseKept s2 := (State.ModeKept.cause (s1.pathsOff_modeKept k)).trans (State.loadDelays_causeKept _ _)
  have hjoin : ∀ g, s2.CauseKept (s2.modSeg k g) := fun _ => .of_eq
  exact .ite (.refl s) (((h1.trans h2).trans (hjoin _)).trans (State.setSegState_causeKept _ _ _))

theorem State.joinAll_causeKept (s : State) (first : Bool) (b : Boot) : s.CauseKept (s.joinAll first b) := by
  refine .trans (.foldl _ _ (fun u j _ => ?_) s) (State.gateTone_causeKept _)
  refine .trans (.trans (u.presentStable_causeKept _ _) (.wrs_past _ _ ?_)) (State.joinDone_causeKept _ _ _ _)
  split
  · simp [F.SEG_CMP_OV_LATCH, F.SEG_CMP_UV_LATCH]
    omega
  · exact nofun

end Sys2Proof.Machine
end

section
/-! PROOFS. The start of the controller card (R56–R60, R395, R429, R434, R447, R458, R503): PWR_RESET_CAUSE as its reset sets it. -/

namespace Sys2Proof.Machine

-- One proof after another: a thread for each would not fit the memory of the check.
set_option Elab.async false

/-! ### Host ports and their sessions (R395, R453) -/

theorem State.waitDone_causeKept (s : State) (op : Nat) (st : Status) : s.CauseKept (s.waitDone op st) := by
  unfold State.waitDone
  split
  · exact .trans .of_eq (.of_quiet (State.quiet_emit _ _))
  · exact .refl s

theorem State.setStage_causeKept (s : State) (p : Nat) (k : KeyStage) : s.CauseKept (s.setStage p k) := .ite .of_eq .of_eq

theorem State.startKeying_causeKept (s : State) (p : Nat) : s.CauseKept (s.startKeying p) := s.setStage_causeKept _ _

theorem State.moveRings_causeKept (s : State) (p : Nat) : s.CauseKept (s.moveRings p) := by
  have hrings : s.CauseKept (s.ringsTo p) := by
    unfold State.ringsTo
    extract_lets old _ s1 s2
    have h1 : s.CauseKept s1 := .of_eq
    have h2 : s1.CauseKept s2 := .wrs_past _ _ (by simp [F.HRT_STATUS_ACTIVE_PORT, F.HRT_PORT_STATUS_ACTIVE]; omega)
    exact ((h1.trans h2).trans (State.flag_causeKept _ _ _)).trans (State.spareTook_causeKept _ _ _ _)
  exact hrings.trans (State.waitDone_causeKept _ _ _)

theorem State.failover_causeKept (s : State) (p : Nat) : s.CauseKept (s.failover p) :=
  .ite (.refl s) (.ite ((s.moveRings_causeKept _).trans (State.exhaust_causeKept _ _ _)) (.trans .of_eq (State.exhaust_causeKept _ _ _)))

theorem State.portLost_causeKept (s : State) {p : Nat} (reason : Nat) (hp : p ≤ 2) : s.CauseKept (s.portLost p reason) := by
  unfold State.portLost
  extract_lets s1
  have h1 : s.CauseKept s1 := (State.ModeKept.cause (s.endSession_modeKept reason hp)).trans
    (.wrs_past _ _ (by simp [F.HRT_PORT_STATUS_KEYED, F.HRT_PORT_STATUS_MKA_LIVE, F.HRT_PORT_STATUS_EAP_DONE]; omega))
  exact ((h1.trans (State.setStage_causeKept _ _ _)).trans (State.flag_causeKept _ _ _)).trans (State.failover_causeKept _ _)

theorem State.cutSession_causeKept (s : State) {p : Nat} (hp : p ≤ 2) : s.CauseKept (s.cutSession p) :=
  .ite (.refl s) (.ite (State.ModeKept.cause (s.endSession_modeKept 3 (by decide))) ((s.portLost_causeKept 3 hp).trans (State.startKeying_causeKept _ _)))

/-! ### Sensor buses (R429, R434) -/

theorem State.xferEnd_causeKept (s : State) (x : Xfer) (st : Status) (wrote : Nat) (nack : Int) (detail : Nat) (data : List Byte) :
    s.CauseKept (s.xferEnd x st wrote nack detail data) := by
  refine .ite (s.finish_causeKept _ _ _ _) ?_
  unfold State.finishBulk State.completeBulk
  split
  · exact .refl s
  · exact .trans .of_eq (.ite (.trans .of_eq (.of_quiet (State.quiet_pump _ _))) (.of_quiet (State.quiet_emit _ _)))

theorem State.sbAbortAll_causeKept (s : State) (c : Nat) : s.CauseKept (s.sbAbortAll c) := by
  have hqueue : s.CauseKept (s.setQueue c []) := .trans .of_eq (.wr_past _ _ (by simp [F.SB_STATUS_QUEUED]; omega))
  exact (hqueue.trans (.wr_past _ _ (by simp [F.SB_STATUS_XFER_ACTIVE]; omega))).trans
    (.foldl _ _ (fun u x _ => u.xferEnd_causeKept x _ _ _ _ _) _)

theorem State.sbLines_causeKept (s : State) (c scl sda : Nat) : s.CauseKept (s.sbLines c scl sda) :=
  .wrs_past s _ (by simp [F.SB_STATUS_SCL_IN, F.SB_STATUS_SDA_IN]; omega)

theorem State.sbSample_causeKept (s : State) (c : Nat) (r : BusSense) : s.CauseKept (s.sbSample c r) := by
  unfold State.sbSample
  extract_lets s1
  have h1 : s.CauseKept s1 := .wr_past _ _ (by simp [F.SB_STATUS_BUS_BUSY]; omega)
  have hlines : ∀ a b, s.CauseKept (s1.sbLines c a b) := fun a b => h1.trans (s1.sbLines_causeKept c a b)
  split
  · exact hlines 1 1
  · exact hlines 1 1
  · refine .trans ((hlines 1 1).trans (.wrs_past _ _ (by simp [F.SB_BRANCH_ISOLATED, F.SB_BRANCH_OPEN]; omega))) (State.flag_causeKept _ _ _ ?_ ?_)
    · split
      · simp [Fl.SB_EVENT_STUCK_SCL, F.SB_EVENT_STUCK_SCL]; omega
      · simp [Fl.SB_EVENT_STUCK_SDA, F.SB_EVENT_STUCK_SDA]; omega
    · split
      · simp [Fl.SB_EVENT_STUCK_SCL, F.SB_EVT_CNT2_COUNT_LO]; omega
      · simp [Fl.SB_EVENT_STUCK_SDA, F.SB_EVT_CNT1_COUNT_HI]; omega
  · have hfault := (hlines 0 0).trans (State.Stands.wrs_past _ [(F.SB_STATUS_BUS_FAULT c, 1), (F.SB_BRANCH_OPEN c, 15)]
      (by simp [F.SB_STATUS_BUS_FAULT, F.SB_BRANCH_OPEN]; omega))
    refine (hfault.trans (State.flag_causeKept _ (Fl.SB_EVENT_BUS_FAULT c) _ ?_ ?_)).trans (State.sbAbortAll_causeKept _ _)
    · simp [Fl.SB_EVENT_BUS_FAULT, F.SB_EVENT_BUS_FAULT]; omega
    · simp [Fl.SB_EVENT_BUS_FAULT, F.SB_EVT_CNT2_COUNT_HI]; omega

theorem State.sbRestart_causeKept (s : State) (c : Nat) (r : BusSense) : s.CauseKept (s.sbRestart c r) := by
  unfold State.sbRestart
  extract_lets s1
  have h1 : s.CauseKept s1 := by
    refine .trans .of_eq (.wrs_past _ _ fun p hp => ?_)
    rcases List.mem_append.1 hp with h | h
    · clear hp
      revert p
      simp [F.SB_STATUS_QUEUED, F.SB_STATUS_XFER_ACTIVE, F.SB_STATUS_TGT_ACTIVE, F.SB_TGT_RX_LEVEL, F.SB_TGT_RX_DATA, F.SB_TGT_RX_VALID,
        F.SB_TGT_RX_FIRST, F.SB_TGT_RX_GCALL]
      omega
    · obtain ⟨w, -, rfl⟩ := List.mem_map.1 h
      simp [F.SB_TGT_IMAGE_BYTES]
      omega
  exact .ite (h1.trans (s1.sbSample_causeKept c r)) h1

/-! ### The image starts (R56 step 7, R447, R458, R503) -/

theorem State.tamperAct_causeKept (s : State) (unpowered : Bool) : s.CauseKept (s.tamperAct unpowered) := by
  unfold State.tamperAct
  extract_lets note s1 s2 _ _ s3 s4
  have h1 : s.CauseKept s1 := .trans (.wr _ _) (.wr _ _)
  have h3 : s1.CauseKept s3 := .trans (t := s2) (s1.flag_causeKept _ _) .of_eq
  have h4 : s3.CauseKept s4 := .ite (.trans (.trans .of_eq (.wrs _ _)) (State.finish_causeKept _ _ _ _ _)) (.refl s3)
  have hcut : s4.CauseKept ([0, 1, 2].foldl (fun s p => s.cutSession p) s4) := .foldl _ _ (fun u p hp => u.cutSession_causeKept (by
    simp only [List.mem_cons, List.not_mem_nil, or_false] at hp
    omega)) s4
  exact ((h1.trans h3).trans h4).trans (.ite hcut (.refl s4))

theorem State.learnAtStart_causeKept (s : State) : s.CauseKept s.learnAtStart := by
  unfold State.learnAtStart
  split
  · exact .wrs s _
  · exact .trans (.wr s _) (State.flag_causeKept _ _ _)

theorem State.balReturn_causeKept (s : State) : s.CauseKept s.balReturn := by
  unfold State.balReturn
  extract_lets _ s1
  have h1 : s.CauseKept s1 := .ite (.trans .of_eq (State.post_causeKept _ _)) (.refl s)
  exact h1.trans (State.ModeKept.cause s1.autoCampaign_modeKept)

theorem State.coreAtStart_causeKept (s : State) (b : Boot) : s.CauseKept (s.coreAtStart b) := by
  unfold State.coreAtStart
  split
  · exact .ite (.refl s) (((s.spareTook_causeKept _ _ _).trans (.wr _ _)).trans (State.exhaust_causeKept _ _ _))
  · exact .refl s

theorem State.identity_causeKept (s : State) (b : Boot) : s.CauseKept (s.identity b) := by
  unfold State.identity
  extract_lets s1
  have h1 : s.CauseKept s1 := .wrs s _
  exact .ite h1 (h1.trans (State.post_causeKept _ _))

theorem State.imageStart_causeKept (s : State) (kind : Nat) (b : Boot) : s.CauseKept (s.imageStart kind b) := by
  unfold State.imageStart
  extract_lets s1 latch _ s2 s3 s4 s5 s6
  have h2 : s.CauseKept s2 := .trans (t := s1) (.wrB s _) .of_eq
  have h3 : s2.CauseKept s3 := .ite (s2.tamperAct_causeKept _) (.refl s2)
  have h4 : s3.CauseKept s4 := .wrB s3 _
  have h5 : s4.CauseKept s5 := (s4.learnAtStart_causeKept.trans (State.sbRestart_causeKept _ _ _)).trans (State.sbRestart_causeKept _ _ _)
  have hflush : ∀ u : State, u.CauseKept u.bridgeFlush.thmResend := fun _ => .of_eq
  have h6 : s5.CauseKept s6 := (s5.balReturn_causeKept.trans (hflush _)).trans (State.ModeKept.cause (State.thmDrive_modeKept _))
  exact ((((h2.trans h3).trans h4).trans h5).trans h6).trans
    ((State.ModeKept.cause (State.setFloor_modeKept _)).trans (State.setReady_causeKept _))

theorem State.noImage_causeKept (s : State) (kind : Nat) : s.CauseKept (s.noImage kind) := by
  unfold State.noImage
  extract_lets _ s1
  have h1 : s.CauseKept s1 := .of_eq
  exact (h1.trans (.ite (.refl s1) .of_eq)).trans (State.setX19_causeKept _)

/-! ### What a start shows (R58) -/

/-- PWR_RESET_CAUSE shows a kind with its detail. -/
def State.ShowsStart (t : State) (kind detail : Nat) : Prop := t.rd F.PWR_RESET_CAUSE_KIND = kind ∧ t.rd F.PWR_RESET_CAUSE_DETAIL = detail

theorem State.ShowsStart.keep {s t : State} {kind detail : Nat} (h : s.ShowsStart kind detail) (k : s.CauseKept t) : t.ShowsStart kind detail :=
  ⟨(k.regs F.PWR_RESET_CAUSE_KIND (by decide)).trans h.1, (k.regs F.PWR_RESET_CAUSE_DETAIL (by decide)).trans h.2⟩

theorem State.ctlReset_shows (s : State) {kind : Nat} (detail : Nat) (hkind : kind < 8) : (s.ctlReset kind detail).ShowsStart kind (detail % 256) := by
  have hset : ∀ (u : State) (m o0 o1 : Nat), (u.wrs [(F.PWR_RESET_CAUSE_KIND, kind), (F.PWR_RESET_CAUSE_DETAIL, detail), (F.SYS_MODE_TRANSITION, 0),
      (F.SYS_MODE_TARGET, m), (F.MOT_STATE_OWNER 0, o0), (F.MOT_STATE_OWNER 1, o1)]).ShowsStart kind (detail % 256) := fun u m o0 o1 => by
    have hk : (u.wrs [(F.PWR_RESET_CAUSE_KIND, kind), (F.PWR_RESET_CAUSE_DETAIL, detail), (F.SYS_MODE_TRANSITION, 0),
      (F.SYS_MODE_TARGET, m), (F.MOT_STATE_OWNER 0, o0), (F.MOT_STATE_OWNER 1, o1)]).rd F.PWR_RESET_CAUSE_KIND = kind % 2 ^ 3 := u.rd_wrs_get 0
    exact ⟨hk.trans (Nat.mod_eq_of_lt hkind), u.rd_wrs_get 1⟩
  unfold State.ctlReset
  extract_lets s1 s2 s3
  exact (hset s2 _ _ _).keep (State.ModeKept.cause (s3.enterPower_modeKept (by decide)))

/-- Whatever PRIMER finds, the controller card shows the kind of its reset. -/
theorem State.ctlStart_shows (s : State) {kind : Nat} (detail : Nat) (b : Boot) (hkind : kind < 8) :
    (s.ctlStart kind detail b).ShowsStart kind (detail % 256) := by
  unfold State.ctlStart
  extract_lets b1 p s1 _ s2 s3
  have hreset : s1.ShowsStart kind (detail % 256) := State.ctlReset_shows _ detail hkind
  have h2 : s1.CauseKept s2 := .of_eq
  have h3 : s2.CauseKept s3 := .trans (.ite (State.flag_causeKept _ _ _) (.refl s2)) (State.coreAtStart_causeKept _ _)
  have himage : s3.CauseKept ((s3.identity b).imageStart kind b) := (s3.identity_causeKept b).trans (State.imageStart_causeKept _ _ _)
  split
  · exact hreset.keep (s1.noImage_causeKept kind)
  · exact hreset.keep ((h2.trans h3).trans himage)

end Sys2Proof.Machine
end

section
/-! PROOFS. Starts and resets by their kind (R56–R65, R322, R397, R415, R433, R529), and the mode commands. -/

namespace Sys2Proof.Machine

-- One proof after another: a thread for each would not fit the memory of the check.
set_option Elab.async false

/-! ### The end of a start (R39, R129) -/

theorem State.enterFirst_enters (s : State) (cause : Nat) : s.CauseKept (s.enterFirst cause) ∧
    ((s.enterFirst cause).mode = mSTANDBY ∨ (s.enterFirst cause).mode = mLOCKOUT) := by
  unfold State.enterFirst
  extract_lets _ s1
  have h1 : s.CauseKept s1 := .of_eq
  have hnew : (if s1.safe.causes = 0 then mSTANDBY else mLOCKOUT) < 8 := by split <;> decide
  have hin := s1.setMode_enters cause hnew
  have hmode : ∀ u : State, u.setReady.mode = u.mode := fun u => State.rd_wr_ne _ _ _ _ (by decide)
  refine ⟨(h1.trans (State.SetKept.cause hin.kept)).trans (State.setReady_causeKept _), ?_⟩
  rw [hmode, hin.mode]
  split
  · exact .inl rfl
  · exact .inr rfl

theorem State.reportKeepLow_modeKept (s : State) : s.ModeKept s.reportKeepLow :=
  .foldl _ _ (fun u _ _ => .ite (.trans .of_eq (State.flag_modeKept _ _ _)) (.refl u)) s

/-! ### The reset kinds (R58) -/

theorem State.controllerReset_shows (s : State) (detail : Nat) (b : Boot) : (s.controllerReset detail b).ShowsStart 4 (detail % 256) := by
  unfold State.controllerReset
  extract_lets s1 _ s2
  have hstart : s1.ShowsStart 4 (detail % 256) := s.ctlStart_shows detail b (by decide)
  have hjoin : s1.CauseKept ((s1.segsStart 1).joinAll true b) := (s1.segsStart_causeKept 1).trans (State.joinAll_causeKept _ _ _)
  have h2 : s1.CauseKept s2 := .of_eq
  refine hstart.keep (.ite (.refl s1) (.ite (hjoin.trans (State.enterFirst_enters _ _).1) (.ite (.ite h2 (h2.trans ?_)) (.refl s1))))
  exact State.SetKept.cause (s2.setMode_enters byReset (by decide)).kept

theorem State.moduleRestart_shows (s : State) (b : Boot) : (s.moduleRestart b).ShowsStart 3 0 := by
  unfold State.moduleRestart
  extract_lets _ s1 s2
  have hstart : s1.ShowsStart 3 0 := (State.ctlStart_shows _ 0 b (by decide)).keep (State.segsStart_causeKept _ 3)
  have h2 : s1.CauseKept s2 := s1.joinAll_causeKept false b
  refine hstart.keep (.ite (.refl s1) (h2.trans (.ite (.trans ?_ (State.setReady_causeKept _)) s2.setReady_causeKept)))
  exact State.SetKept.cause (s2.setMode_enters byReset (by decide)).kept

theorem State.shelfWake_shows (s : State) (b : Boot) : (s.shelfWake b).ShowsStart 2 0 := by
  unfold State.shelfWake
  extract_lets _ _ s0 s1
  have hstart : s1.ShowsStart 2 0 := (State.ctlStart_shows _ 0 b (by decide)).keep (State.segsStart_causeKept _ 2)
  have hjoin : s1.CauseKept ((s1.safeShow s.safeFell).joinAll false b) :=
    (State.ModeKept.cause (s1.safeShow_modeKept _)).trans (State.joinAll_causeKept _ _ _)
  exact hstart.keep (.ite (.refl s1) ((hjoin.trans (State.enterFirst_enters _ _).1).trans (State.ModeKept.cause (State.reportKeepLow_modeKept _))))

/-- Where an image runs, a power-on ends in STANDBY or LOCKOUT. -/
theorem State.powerOnPrimer_shows (s : State) (b : Boot) : (s.powerOnPrimer b).ShowsStart 1 0 ∧
    ((s.powerOnPrimer b).pwr.phase = .up → (s.powerOnPrimer b).mode = mSTANDBY ∨ (s.powerOnPrimer b).mode = mLOCKOUT) := by
  unfold State.powerOnPrimer
  extract_lets n s1 s2
  have hstart : s2.ShowsStart 1 0 := (State.ctlStart_shows _ 0 b (by decide)).keep (State.segsStart_causeKept _ 1)
  clear_value s2
  split
  · next hphase => exact ⟨hstart, fun h => absurd h hphase⟩
  · obtain ⟨hfirst, hmode⟩ := ((s2.safeShow s.safeFell).joinAll true b).enterFirst_enters byReset
    have hlow := ((((s2.safeShow s.safeFell).joinAll true b).enterFirst byReset).reportKeepLow_modeKept)
    have hjoin : s2.CauseKept ((s2.safeShow s.safeFell).joinAll true b) :=
      (State.ModeKept.cause (s2.safeShow_modeKept _)).trans (State.joinAll_causeKept _ _ _)
    refine ⟨hstart.keep ((hjoin.trans hfirst).trans (State.ModeKept.cause hlow)), fun _ => ?_⟩
    have hm : State.mode _ = State.mode _ := hlow.regs F.SYS_MODE_MODE (by decide)
    rwa [hm]

/-! ### Power-on (R56, R62, R65, R529) -/

section
variable (s : State) {b : Boot}

theorem State.powerOn_goes (hctl : b.ctl = true) (hdie : -25 ≤ b.die) : ∃ u : State, s.powerOn b = u.powerOnPrimer b := by
  unfold State.powerOn
  extract_lets
  exact ⟨_, (if_neg (by simp [hctl])).trans (if_neg (by omega))⟩

theorem State.powerOn_waits (hctl : b.ctl = true) (hdie : b.die < -25) : (s.powerOn b).pwr.phase = .primer ∧ (s.powerOn b).pwr.ctl = false := by
  unfold State.powerOn
  extract_lets
  rw [if_neg (by simp [hctl]), if_pos hdie]
  exact ⟨rfl, rfl⟩

theorem State.powerOn_stops (hctl : b.ctl = false) : (s.powerOn b).pwr.phase = .noCtl ∧ (s.powerOn b).pwr.ctl = false := by
  unfold State.powerOn
  extract_lets
  rw [if_pos (by simp [hctl])]
  exact ⟨rfl, rfl⟩

end

section
variable {s : State} (b : Boot)

/-- A module without power starts. -/
theorem powerOn_starts (hpow : s.powered = false) : exec (.powerOn b) s = .next (s.powerOn b) := by
  have hprimer : s.pwr.phase ≠ .primer := fun h => by
    unfold State.powered at hpow
    rw [h] at hpow
    cases hpow
  exact congrArg Host.Outcome.next ((if_neg hprimer).trans (if_neg (by simp [hpow])))

theorem powerOn_shows (hpow : s.powered = false) :
    (b.ctl = true → -25 ≤ b.die → ∃ t, exec (.powerOn b) s = .next t ∧ t.rd F.PWR_RESET_CAUSE_KIND = 1 ∧
      (t.pwr.phase = .up → t.mode = mSTANDBY ∨ t.mode = mLOCKOUT)) ∧
    (b.ctl = true → b.die < -25 → ∃ t, exec (.powerOn b) s = .next t ∧ t.pwr.phase = .primer ∧ t.pwr.ctl = false) ∧
    (b.ctl = false → ∃ t, exec (.powerOn b) s = .next t ∧ t.pwr.phase = .noCtl ∧ t.pwr.ctl = false) := by
  have hexec := powerOn_starts b hpow
  refine ⟨fun hctl hdie => ⟨_, hexec, ?_⟩, fun hctl hdie => ⟨_, hexec, s.powerOn_waits hctl hdie⟩, fun hctl => ⟨_, hexec, s.powerOn_stops hctl⟩⟩
  obtain ⟨u, hu⟩ := s.powerOn_goes hctl hdie
  obtain ⟨hshows, hmode⟩ := u.powerOnPrimer_shows b
  rw [hu]
  exact ⟨hshows.1, hmode⟩

/-- A start that waits in PRIMER goes on with a warmer die. -/
theorem powerOn_primer (hphase : s.pwr.phase = .primer) : (b.die < -25 → exec (.powerOn b) s = .next s) ∧
    (-25 ≤ b.die → ∃ t, exec (.powerOn b) s = .next t ∧ t.rd F.PWR_RESET_CAUSE_KIND = 1) :=
  ⟨fun hdie => congrArg Host.Outcome.next ((if_pos hphase).trans (if_pos hdie)),
    fun hdie => ⟨_, congrArg Host.Outcome.next ((if_pos hphase).trans (if_neg (by omega))), (s.powerOnPrimer_shows b).1.1⟩⟩

theorem powerOn_running (hpow : s.powered = true) (hphase : s.pwr.phase ≠ .primer) : exec (.powerOn b) s = .next s :=
  congrArg Host.Outcome.next ((if_neg hphase).trans (if_pos hpow))

theorem auxReturn_shows (hphase : s.pwr.phase = .unpowered) (hctl : b.ctl = true) (hdie : -25 ≤ b.die) :
    ∃ t, exec (.auxReturnStable b) s = .next t ∧ t.rd F.PWR_RESET_CAUSE_KIND = 1 := by
  obtain ⟨u, hu⟩ := s.powerOn_goes hctl hdie
  exact ⟨_, congrArg Host.Outcome.next ((if_pos hphase).trans hu), (u.powerOnPrimer_shows b).1.1⟩

/-! ### Wake from SHELF (R59, R126, R397, R415, R433) -/

theorem State.wake_first (kind : Nat) (hphase : s.pwr.phase = .up) (hmode : s.mode = mSHELF) : s.wake kind b = s.shelfWake b :=
  if_pos ⟨hphase, hmode⟩

theorem State.wake_shows (kind : Nat) (hphase : s.pwr.phase = .up) (hmode : s.mode = mSHELF) : (s.wake kind b).ShowsStart 2 0 :=
  State.wake_first b kind hphase hmode ▸ s.shelfWake_shows b

theorem sbWake_shows {c branch addr : Nat} (hc : c ≤ 1) (hbranch : branch ≤ 3) (hen : s.isOn (F.SB_WAKE_EN c) = true)
    (haddr : addr = s.rd (F.SB_WAKE_ADDR c)) (hiso : s.rd (F.SB_BRANCH_ISOLATED c) / 2 ^ branch % 2 = 0) (hphase : s.pwr.phase = .up)
    (hmode : s.mode = mSHELF) :
    ∃ t, exec (.sbWakeMatch c branch addr b) s = .next t ∧ t.rd F.PWR_RESET_CAUSE_KIND = 2 ∧ t.rd (F.SB_EVENT_WAKE c) = 1 := by
  let s1 := (s.wake 0 b).flag (Fl.SB_EVENT_WAKE c) { idx := c }
  have hexec : exec (.sbWakeMatch c branch addr b) s = .next (s1.setSb c { s1.sbBus c with acked := s.isOn (F.SB_WAKE_ACK c) }) := by
    refine congrArg Host.Outcome.next ((if_neg ?_).trans (if_pos ⟨hmode, hphase⟩))
    rintro (h | h | h | h | h)
    · omega
    · rw [hen] at h
      cases h
    · exact h haddr
    · omega
    · omega
  have hflag : (s.wake 0 b).CauseKept s1 := State.flag_causeKept _ _ _ (by simp [Fl.SB_EVENT_WAKE, F.SB_EVENT_WAKE]; omega)
    (by simp [Fl.SB_EVENT_WAKE, F.SB_EVT_CNT3_COUNT_HI]; omega)
  have hset : ∀ (u : State) (x : SbBus), u.CauseKept (u.setSb c x) := fun _ _ => .of_eq
  refine ⟨_, hexec, ((State.wake_shows b 0 hphase hmode).keep (hflag.trans (hset s1 _))).1, ?_⟩
  have hbit : s1.rd (F.SB_EVENT_WAKE c) = 1 := by
    obtain rfl | rfl : c = 0 ∨ c = 1 := by omega
    · exact State.flag_bit _ (Fl.SB_EVENT_WAKE 0) _
    · exact State.flag_bit _ (Fl.SB_EVENT_WAKE 1) _
  exact hbit

theorem canWake_shows {c id : Nat} {data : List Byte} (hc : c ≤ 1) (hen : s.isOn (F.CAN_WAKE_EN c) = true)
    (hid : (id &&& s.rd (F.CAN_WAKE_MASK c)) = s.rd (F.CAN_WAKE_ID c)) (hdata : data.headD (s.rd (F.CAN_WAKE_DATA0 c)) = s.rd (F.CAN_WAKE_DATA0 c))
    (hphase : s.pwr.phase = .up) (hmode : s.mode = mSHELF) :
    ∃ t, exec (.canWakeFrame c id data b) s = .next t ∧ t.rd F.PWR_RESET_CAUSE_KIND = 2 := by
  refine ⟨_, congrArg Host.Outcome.next (if_neg ?_), (State.wake_shows b 1 hphase hmode).1⟩
  rintro (h | h | h | h)
  · omega
  · rw [hen] at h
    cases h
  · exact h hid
  · exact h hdata

theorem ethWake_shows {port : Nat} (hport : port ≤ 1) (hphase : s.pwr.phase = .up) (hmode : s.mode = mSHELF) :
    ∃ t, exec (.ethWake port b) s = .next t ∧ t.rd F.PWR_RESET_CAUSE_KIND = 2 :=
  ⟨_, congrArg Host.Outcome.next (if_neg (by omega)), (State.wake_shows b 2 hphase hmode).1⟩

theorem burstMissing_shows (hphase : s.pwr.phase = .up) (hmode : s.mode = mSHELF) :
    ∃ t, exec (.shelfBurstMissing b) s = .next t ∧ t.rd F.PWR_RESET_CAUSE_KIND = 2 :=
  ⟨_, rfl, (State.wake_shows b 3 hphase hmode).1⟩

theorem burstMissing_records (hphase : s.pwr.phase = .up) (hmode : s.mode ≠ mSHELF) (hwakes : 0 < s.pwr.wakes) :
    exec (.shelfBurstMissing b) s = .next (({ s with pwr.wakes := s.pwr.wakes + 1 } : State).detail false [12, 3]) :=
  congrArg Host.Outcome.next ((if_neg fun h => hmode h.2).trans (if_pos ⟨hphase, hwakes⟩))

/-! ### Controller resets (R58, R65, R324, R506) -/

theorem watchdog_shows (d : Nat) (hphase : s.pwr.phase = .up ∨ s.pwr.phase = .recovery) (hmode : s.mode ≠ mSHELF) (hheld : s.thm.heldOff = false) :
    ∃ t, exec (.stfCWatchdog d b) s = .next t ∧ t.rd F.PWR_RESET_CAUSE_KIND = 4 ∧ t.rd F.PWR_RESET_CAUSE_DETAIL = d % 256 :=
  ⟨_, congrArg Host.Outcome.next (if_pos ⟨hphase, hmode, hheld⟩), s.controllerReset_shows d b⟩

theorem coolExpiry_shows (hheld : s.thm.heldOff = true) (hstuck : s.thm.stuck = false) :
    ∃ t, exec (.thermalCoolExpiry b) s = .next t ∧ t.rd F.PWR_RESET_CAUSE_KIND = 4 :=
  ⟨_, congrArg Host.Outcome.next (if_neg (by simp [hheld, hstuck])), (State.controllerReset_shows _ 0 b).1⟩

end

/-- Whether the module is held off stands. -/
abbrev State.HeldKept (s t : State) : Prop := State.Stands (fun _ => false) (fun s => s.thm.heldOff) s t

theorem State.HeldKept.of_thm {s t : State} (h : t.thm.heldOff = s.thm.heldOff := by rfl) : s.HeldKept t := ⟨nofun, h⟩

/-- A new card that fills its MRAM from the mirror does not end the hold. -/
theorem State.cardReplaced_heldKept (s : State) (old new : Nat) (migrates : Bool) : s.HeldKept (s.cardReplaced old new migrates) := by
  have hwrs : ∀ (u : State) (l : List (Field × Nat)), u.HeldKept (u.wrs l) := fun u l => .wrs u l (List.all_eq_true.2 fun _ _ => rfl)
  unfold State.cardReplaced
  extract_lets m _ c s1 _ _ _ _ _ _ s2 ex s3 s4
  have h2 : s.HeldKept s2 := State.HeldKept.of_thm
  have h3 : s2.HeldKept s3 := (hwrs _ _).trans State.HeldKept.of_thm
  have h4 : s3.HeldKept s4 :=
    (State.HeldKept.of_thm (t := s3.wr64 F.SEC_TIME_FLOOR_LO_NS F.SEC_TIME_FLOOR_HI_NS m.floor)).trans
      ((State.detail_modeKept _ _ _ _ _ _).mono (fun _ h => nomatch h) fun x => x.2.2.2)
  refine ((h2.trans h3).trans h4).trans ?_
  clear_value s4
  split
  · exact .refl s4
  · exact (State.HeldKept.of_thm (s := s4)).trans (hwrs _ _)

theorem ctlInserted_shows {s : State} (serial : Nat) (b : Boot) (hctl : s.pwr.ctl = false) (hpow : s.powered = true) (hheld : s.thm.heldOff = false) :
    ∃ t, exec (.ctlInserted serial b) s = .next t ∧ t.rd F.PWR_RESET_CAUSE_KIND = 4 := by
  show ∃ t, execCtlInserted serial b s = .next t ∧ t.rd F.PWR_RESET_CAUSE_KIND = 4
  unfold execCtlInserted
  extract_lets old new _ s1 s2 _ s3
  have h1 : s.HeldKept s1 := State.HeldKept.of_thm
  have h2 : s1.HeldKept s2 := .ite (s1.cardReplaced_heldKept _ _ _) (.refl s1)
  have hheld2 : s2.thm.heldOff = false := (h1.trans h2).view.trans hheld
  have hstart : s3.ShowsStart 4 0 := s2.controllerReset_shows 0 b
  have horderly : s3.CauseKept (s3.startOrderly mSTANDBY byCondition) := .ite (.refl s3) .of_eq
  have hmode : s3.CauseKept (s3.setMode mSTANDBY byCondition) := State.SetKept.cause (s3.setMode_enters byCondition (by decide)).kept
  refine ⟨_, congrArg Host.Outcome.next ((if_neg (by simp [hctl, hpow])).trans (if_neg (by simp [hheld2]))), ?_⟩
  exact (hstart.keep (.ite (.refl s3) (.ite horderly (.ite (.refl s3) hmode)))).1

/-- Settles O12: each start is a reset of the controller card that writes its kind, and nothing after the reset writes it again. -/
theorem startsSayTheirKind : Obligations.StartsSayTheirKind := by
  unfold Obligations.StartsSayTheirKind
  exact ⟨fun _ b => powerOn_shows b, fun _ b => powerOn_primer b, fun _ b => powerOn_running b, fun _ b => auxReturn_shows b,
    fun _ _ _ _ b => sbWake_shows b, fun _ _ _ _ b => canWake_shows b, fun _ _ b => ethWake_shows b, fun _ b => burstMissing_shows b,
    fun _ b => burstMissing_records b, fun _ d b => watchdog_shows b d, fun _ serial b => ctlInserted_shows serial b, fun _ b => coolExpiry_shows b⟩

/-! ### The mode commands -/

theorem restart_starts {s : State} {h : Hdr} (b : Boot) (hallowed : s.Allowed 0x0103 rMaintainer h) :
    ∃ u, exec (.restart h b) s = .next (u.moduleRestart b) ∧ s.learnNow.Done u 0x0103 h .ok [] ∧
      (u.moduleRestart b).rd F.PWR_RESET_CAUSE_KIND = 3 ∧ (u.moduleRestart b).rd F.PWR_RESET_CAUSE_DETAIL = 0 :=
  ⟨_, congrArg Host.Outcome.next (State.commandThen_done (fun s => s.moduleRestart b) hallowed (by simp) rfl), State.answer_done _ _ _ _ _ _,
    State.moduleRestart_shows _ b⟩

/-- Settles O10: an accepted request runs from the state its answer leaves, in which what it depends on stands. -/
theorem modeRequestsTakeEffect : Obligations.ModeRequestsTakeEffect := by
  unfold Obligations.ModeRequestsTakeEffect
  exact ⟨fun _ _ _ => modeRequest_leads, fun _ _ _ _ => modeRequest_refused, fun _ _ _ => latencyTolerance_sets, fun _ _ => readStatus_tells,
    fun _ _ b => restart_starts b⟩

end Sys2Proof.Machine
end

section
/-! PROOFS. The commands of measurement and of the sense wires (R77, R103, R104, R116, R130, R530): what each finds, and where it leads. -/

namespace Sys2Proof.Machine

-- One proof after another: a thread for each would not fit the memory of the check.
set_option Elab.async false

/-! ### A command whose checks pass -/

/-- An allowed command whose own checks pass answers what its own part gives. -/
theorem State.command_answers {s : State} {op role : Nat} {h : Hdr} {pre : List (Bool × Status)} {body : State → CmdRes} {r : CmdRes}
    (a : s.Allowed op role h) (hp : ∀ x ∈ pre, x.1 = false) (hbody : body s = r) :
    s.command op role h pre body = s.answer op role h r :=
  (s.command_run op role h pre body a hp).trans (congrArg _ hbody)

section
variable {s : State} {h : Hdr} {k : Nat}

/-! ### Averaging and the raw stream (R77, R103, R104) -/

theorem setAveraging_sets {n : Nat} (a : s.Allowed 0x0201 rOperator h) (h1 : 1 ≤ n) (h4096 : n ≤ 4096) :
    ∃ t, exec (.setAveraging h n) s = .next t ∧ (s.wr F.SEG_AVG_CFG_N_M1 (n - 1)).Done t 0x0201 h .ok [] :=
  ⟨_, congrArg Host.Outcome.next (State.command_answers a (by simp; omega) rfl), State.answer_done _ _ _ _ _ _⟩

theorem rawStreamStart_streams {m : Nat} (a : s.Allowed 0x0202 rMaintainer h) (h6 : 6 ≤ k) (h15 : k ≤ 15)
    (hon : s.isOn (F.HRT_RING_CFG_ENABLE k) = true) (hm : m < 2 ^ s.segs) (hraw : s.seg.rawRing = 0) :
    ∃ t, exec (.rawStreamStart h k m) s = .next t ∧
      ({ s.wr (F.HRT_RING_TLM_KIND k) 5 with seg.rawRing := k, seg.rawMask := m } : State).Done t 0x0202 h .ok [] :=
  ⟨_, congrArg Host.Outcome.next (State.command_answers a (by simp [hon]; omega) (if_neg (not_not.2 hraw))), State.answer_done _ _ _ _ _ _⟩

theorem rawStreamStop_stops (a : s.Allowed 0x0203 rMaintainer h) (hraw : s.seg.rawRing ≠ 0) :
    ∃ t, exec (.rawStreamStop h) s = .next t ∧
      ({ s.wr (F.HRT_RING_TLM_KIND s.seg.rawRing) 0 with seg.rawRing := 0, seg.rawMask := 0 } : State).Done t 0x0203 h .ok [] :=
  ⟨_, congrArg Host.Outcome.next (State.command_answers a nofun (if_neg hraw)), State.answer_done _ _ _ _ _ _⟩

theorem rawStreamStop_idle (a : s.Allowed 0x0203 rMaintainer h) (hraw : s.seg.rawRing = 0) :
    ∃ t, exec (.rawStreamStop h) s = .next t ∧ s.Done t 0x0203 h .ok [] :=
  ⟨_, congrArg Host.Outcome.next (State.command_answers a nofun (if_pos hraw)), State.answer_done _ _ _ _ _ _⟩

/-! ### Words of the cards and of the wire test (R103, R130) -/

theorem segStatus_tells (a : s.Allowed 0x0205 rObserver h) (hk : s.segArgBad k = false) :
    ∃ t, exec (.segStatus h k) s = .next t ∧ s.Told t 0x0205 h (s.words ((s.segArg k).map (fun k => 0x40100 + 4 * (k - 1)) ++
      (s.segArg k).map (fun k => 0x40200 + 4 * (k - 1)) ++ [0x40030])) :=
  ⟨_, congrArg Host.Outcome.next (State.command_answers a (by simp [hk]) rfl), State.answer_ret _ _ _ _ _ _⟩

theorem wireStatus_tells (a : s.Allowed 0x0208 rObserver h) (hk : s.segArgBad k = false) :
    ∃ t, exec (.wireStatus h k) s = .next t ∧ s.Told t 0x0208 h ((s.segArg k).flatMap fun k =>
      s.words [0x40300 + 4 * (k - 1), 0x40400 + 4 * (k - 1)] ++ (numbersFrom 0 18).map fun i => (s.segOf k).amps.getD i 0) :=
  ⟨_, congrArg Host.Outcome.next (State.command_answers a (by simp [hk]) rfl), State.answer_ret _ _ _ _ _ _⟩

/-! ### Dwells of the spare that a command starts (R103, R530) -/

section
variable (hk : s.segOk k = true) (hcal : (s.segOf k).cal = none) (hshadow : (s.segOf k).shadow = none)
include hk hcal hshadow

theorem calCheck_starts (a : s.Allowed 0x0204 rMaintainer h) (hlive : s.segLive k = true) (hfree : s.spareFree k = true) :
    ∃ t, exec (.calCheck h k) s = .next t ∧ ((s.setSeg k { s.segOf k with cal := some [] }).turnSpare k 0).Accepted t 0x0204 h k [] :=
  ⟨_, congrArg Host.Outcome.next (State.command_answers a (by simp [hk])
    ((if_neg (by simp [hcal, hshadow])).trans (if_neg (by simp [hlive, hfree])))), State.answer_accept _ _ _ _ _ _ _⟩

theorem calCheck_refused (a : s.Allowed 0x0204 rMaintainer h) (hbad : s.segLive k = false ∨ s.spareFree k = false) :
    exec (.calCheck h k) s = .next (s.refuseCmd 0x0204 rMaintainer h .noResource) :=
  congrArg Host.Outcome.next (State.command_answers (r := .refuse .noResource) a (by simp [hk])
    ((if_neg (by simp [hcal, hshadow])).trans (if_pos (by simpa using hbad))))

theorem spareAssign_starts {j : Nat} (a : s.Allowed 0x0206 rMaintainer h) (h1 : 1 ≤ j) (h16 : j ≤ 16) (hlive : s.segLive k = true)
    (hfree : s.spareFree k = true) (hsum : s.sumFault k = false) :
    ∃ t, exec (.spareAssign h k j) s = .next t ∧
      ((s.setSeg k { s.segOf k with shadow := some (j, true) }).turnSpare k j).Accepted t 0x0206 h k [] :=
  ⟨_, congrArg Host.Outcome.next (State.command_answers a (by simp [hk]; omega)
    ((if_neg (by simp [hcal, hshadow])).trans (if_neg (by simp [hlive, hfree, hsum])))), State.answer_accept _ _ _ _ _ _ _⟩

theorem spareAssign_refused {j : Nat} (a : s.Allowed 0x0206 rMaintainer h) (h1 : 1 ≤ j) (h16 : j ≤ 16)
    (hbad : s.segLive k = false ∨ s.spareFree k = false) :
    exec (.spareAssign h k j) s = .next (s.refuseCmd 0x0206 rMaintainer h .noResource) :=
  congrArg Host.Outcome.next (State.command_answers (r := .refuse .noResource) a (by simp [hk]; omega)
    ((if_neg (by simp [hcal, hshadow])).trans (if_pos (by rcases hbad with hb | hb <;> simp [hb]))))

end

/-! ### WIRE_FAULT_CLEAR (R116) -/

theorem wireFaultClear_clears (a : s.Allowed 0x0209 rMaintainer h) (hk : s.segOk k = true)
    (hclean : s.rd F.SEG_WIRE_PARAM_DETECT_BLOCKS ≤ (s.segOf k).clean) :
    ∃ t, exec (.wireFaultClear h k) s = .next t ∧
      ((s.setSeg k { s.segOf k with ind := if s.isOn (F.SEG_WIRE_SENSE_LOSS k) then (s.segOf k).ind else 0
                                    indSum := s.isOn (F.SEG_WIRE_SENSE_LOSS k) && (s.segOf k).indSum }).wrs
        [(F.SEG_WIRE_WIRE_MAP k, 0), (F.SEG_WIRE_S0 k, 0), (F.SEG_WIRE_S16 k, 0), (F.SEG_WIRE_PAIR_MODE k, 0),
         (F.SEG_WIRE_INTERMITTENT k, 0)]).Done t 0x0209 h .ok [] :=
  ⟨_, congrArg Host.Outcome.next (State.command_answers a (by simp [hk]) (if_neg (Nat.not_lt.2 hclean))), State.answer_done _ _ _ _ _ _⟩

theorem wireFaultClear_refused (a : s.Allowed 0x0209 rMaintainer h) (hk : s.segOk k = true)
    (hclean : (s.segOf k).clean < s.rd F.SEG_WIRE_PARAM_DETECT_BLOCKS) :
    exec (.wireFaultClear h k) s = .next (s.refuseCmd 0x0209 rMaintainer h .safety) :=
  congrArg Host.Outcome.next (State.command_answers (r := .refuse .safety) a (by simp [hk]) (if_pos hclean))

/-! ### SEG_RESET (R58, R103, R116) -/

theorem segReset_refused (a : s.Allowed 0x0207 rMaintainer h) (hk : s.segOk k = true) (hp : (s.segOf k).present = false) :
    exec (.segReset h k) s = .next (s.refuseCmd 0x0207 rMaintainer h .noResource) :=
  congrArg Host.Outcome.next (State.command_answers (r := .refuse .noResource) a (by simp [hk]) (if_neg (by simp [hp])))

end

theorem State.KeptOn.stands {P : Nat → Bool} {s t : State} (h : KeptOn P s t) : State.Stands P (fun _ => ()) s t := ⟨h.regs, rfl⟩

/-- A card that restarts loses its SENSE_LOSS (R114). -/
theorem State.cardReset_senseLoss (s : State) {k : Nat} (hk : k ≤ 26) : (s.cardReset k).rd (F.SEG_WIRE_SENSE_LOSS k) = 0 := by
  unfold State.cardReset
  extract_lets s1 used s2 _ s3
  have h2 : State.Stands ringKey (fun _ => ()) s1 s2 := .ite (.wr _ _) (.refl s1)
  have h3 : State.Stands ringKey (fun _ => ()) s2 s3 := (s2.leaveLive_kept k).stands.trans .of_eq
  have hlater : State.Stands ringKey (fun _ => ()) s3 (((s3.setBal k {}).unlearn k).unspend 0 k) :=
    .trans .of_eq ((State.unlearn_kept _ hk).trans (State.unspend_kept _ _ _)).stands
  refine (((h2.trans h3).trans hlater).regs _ (ringKey_row hk)).trans ((State.rd_wrs_get s 0 rfl ?_).trans (Nat.zero_mod _))
  simp [Field.key, F.SEG_WIRE_SENSE_LOSS, F.SEG_STATE_SPARE_SUBST, F.SEG_STATE_SPARE_FAILED, F.SEG_STATE_SPARE_POS, F.UC_CONV_POSITION,
    F.UC_CONV_FAILED]
  omega

/-- The latches of a card's wires are cleared, and no other word of the ring moves. -/
theorem State.clearWires_spec (s : State) (k : Nat) : (s.clearWires k).rd (F.SEG_WIRE_WIRE_MAP k) = 0 ∧
    (∀ f : Field, f.lo < 32 → f.addr ≠ 0x40300 + 4 * (k - 1) ∨ f.lo = 20 → (s.clearWires k).rd f = s.rd f) := by
  refine ⟨(State.rd_wrs_get s 0 rfl ?_).trans (Nat.zero_mod _), fun f hlo hf => State.rd_wrs_ne s f _ ?_⟩
  · simp [Field.key, F.SEG_WIRE_WIRE_MAP, F.SEG_WIRE_S0, F.SEG_WIRE_S16, F.SEG_WIRE_PAIR_MODE, F.SEG_WIRE_INTERMITTENT]
  · simp only [List.forall_mem_cons, Field.key, F.SEG_WIRE_WIRE_MAP, F.SEG_WIRE_S0, F.SEG_WIRE_S16, F.SEG_WIRE_PAIR_MODE,
      F.SEG_WIRE_INTERMITTENT]
    refine ⟨?_, ?_, ?_, ?_, ?_, nofun⟩ <;> omega

/-- What shows of a card that SEG_RESET has restarted. -/
theorem State.segReset_shows (s : State) {k : Nat} (hk : k ≤ 26) :
    let t := ((s.segReset k).clearWires k).gateTone
    t.segState k = segISOLATED ∧ t.rd F.PWR_RESET_CAUSE_KIND = 5 ∧ t.rd (F.SEG_WIRE_WIRE_MAP k) = 0 ∧ t.rd (F.SEG_WIRE_SENSE_LOSS k) = 0 := by
  have htone := State.gateTone_kept ((s.segReset k).clearWires k)
  obtain ⟨hmap, hother⟩ := (s.segReset k).clearWires_spec k
  have hkept := (s.cardReset k).isolated_kept k
  obtain ⟨hstate, hkind⟩ := State.KeptOn.isolated hk hkept
  have hloss : (s.segReset k).rd (F.SEG_WIRE_SENSE_LOSS k) = 0 := by
    refine (hkept.regs _ (ringKey_row hk)).trans ((State.rd_wr_ne _ _ _ _ ?_).trans ((State.rd_wr_ne _ _ _ _ ?_).trans (s.cardReset_senseLoss hk))) <;>
    · simp only [Field.key, F.PWR_RESET_CAUSE_KIND, F.SEG_STATE_STATE]; omega
  refine ⟨(htone.regs _ (ringKey_segState hk)).trans ((hother _ (by simp [F.SEG_STATE_STATE]) (.inl ?_)).trans hstate),
    (htone.regs _ (by decide)).trans ((hother _ (by decide) (.inl ?_)).trans hkind), (htone.regs _ (ringKey_row hk)).trans hmap,
    (htone.regs _ (ringKey_row hk)).trans ((hother _ (by simp) (.inr rfl)).trans hloss)⟩
  · simp only [F.SEG_STATE_STATE]; omega
  · simp only [F.PWR_RESET_CAUSE_KIND]; omega

/-- An answer moves no register of the ring. -/
theorem State.Done.rd_ring {s t : State} {op : Nat} {h : Hdr} {st : Status} {res : List Int} (d : s.Done t op h st res) {f : Field}
    (hf : ringKey f.key = true) : t.rd f = s.rd f :=
  d.1.regs f fun hm => by
    have hnone : ∀ q ∈ answerKeys, ringKey q = false := by decide
    rw [hnone _ hm] at hf
    cases hf

theorem segReset_restarts {s : State} {h : Hdr} {k : Nat} (a : s.Allowed 0x0207 rMaintainer h) (hk : s.segOk k = true)
    (hp : (s.segOf k).present = true) :
    ∃ t, exec (.segReset h k) s = .next t ∧ ((s.segReset k).clearWires k).gateTone.Done t 0x0207 h .ok [] ∧ t.segState k = segISOLATED ∧
      t.rd F.PWR_RESET_CAUSE_KIND = 5 ∧ t.rd (F.SEG_WIRE_WIRE_MAP k) = 0 ∧ t.rd (F.SEG_WIRE_SENSE_LOSS k) = 0 := by
  obtain ⟨-, h26⟩ := State.segOk_bounds hk
  have hdone := State.answer_done s ((s.segReset k).clearWires k).gateTone 0x0207 rMaintainer h []
  obtain ⟨hstate, hkind, hmap, hloss⟩ := s.segReset_shows h26
  exact ⟨_, congrArg Host.Outcome.next (State.command_answers a (by simp [hk]) (if_pos hp)), hdone,
    (hdone.rd_ring (ringKey_segState h26)).trans hstate, (hdone.rd_ring (by decide)).trans hkind,
    (hdone.rd_ring (ringKey_row h26)).trans hmap, (hdone.rd_ring (ringKey_row h26)).trans hloss⟩

/-- Settles O19: each clause is its command's lemma. -/
theorem measurementCommandsComplete : Obligations.MeasurementCommandsComplete := by
  unfold Obligations.MeasurementCommandsComplete
  exact ⟨fun _ _ _ a h1 h4096 => setAveraging_sets a h1 h4096,
    fun _ _ _ _ a h6 h15 hon hm hraw => rawStreamStart_streams a h6 h15 hon hm hraw,
    fun _ _ a hraw => rawStreamStop_stops a hraw,
    fun _ _ a hraw => rawStreamStop_idle a hraw,
    fun _ _ _ a hk hlive hfree hcal hshadow => calCheck_starts hk hcal hshadow a hlive hfree,
    fun _ _ _ a hk hbad hcal hshadow => calCheck_refused hk hcal hshadow a hbad,
    fun _ _ _ a hk => segStatus_tells a hk,
    fun _ _ _ _ a hk h1 h16 hlive hfree hsum hcal hshadow => spareAssign_starts hk hcal hshadow a h1 h16 hlive hfree hsum,
    fun _ _ _ _ a hk h1 h16 hbad hcal hshadow => spareAssign_refused hk hcal hshadow a h1 h16 hbad,
    fun _ _ _ a hk hp => segReset_restarts a hk hp,
    fun _ _ _ a hk hp => segReset_refused a hk hp,
    fun _ _ _ a hk => wireStatus_tells a hk,
    fun _ _ _ a hk hclean => wireFaultClear_clears a hk hclean,
    fun _ _ _ a hk hclean => wireFaultClear_refused a hk hclean⟩

end Sys2Proof.Machine
end

section
/-! PROOFS. What leaves the sense wires' registers and the fault loop alone: a frame kept by mode transitions and the entry into LOCKOUT. -/

namespace Sys2Proof.Machine

-- One proof after another: a thread for each would not fit the memory of the check.
set_option Elab.async false

/-! ### The frame -/

/-- The registers of the segment cards, the ring, the sense wires and the fault loop. -/
def segArea (q : Nat) : Bool := decide (0x40000 * 32 ≤ q) && decide (q < 0x50000 * 32)

/-- What the ring master and the tone's receiver hold beside the cards. -/
def State.loopView (s : State) : SegState := { s.seg with segs := [] }

/-- `t` comes from `s` by what leaves the sense wires' registers and the fault loop alone. -/
abbrev State.LoopKept (s t : State) : Prop := State.Stands segArea State.loopView s t

theorem segArea_of_addr {f : Field} (h : 0x50000 ≤ f.addr) : segArea f.key = false := by
  unfold segArea
  rw [decide_eq_false (p := f.key < 0x50000 * 32) (by unfold Field.key; omega), Bool.and_false]

namespace State.Stands

/-- Writes to registers beyond those of the segment cards. -/
theorem wr_pastSeg (s : State) {f : Field} (n : Nat) (h : 0x50000 ≤ f.addr) : s.LoopKept (s.wr f n) := .wr s n (segArea_of_addr h)

theorem wrs_pastSeg (s : State) (l : List (Field × Nat)) (h : ∀ p ∈ l, 0x50000 ≤ p.1.addr) : s.LoopKept (s.wrs l) :=
  .wrs s l (List.all_eq_true.2 fun p hp => by rw [segArea_of_addr (h p hp)]; rfl)

end State.Stands

/-! ### Records, flags and completions -/

theorem State.post_loopKept (s : State) (r : Rec) : s.LoopKept (s.post r) := .of_quiet (s.quiet_post r)

theorem State.flag_loopKept (s : State) (fl : Flag) (n : Note) (hb : segArea fl.bit.key = false := by decide)
    (hc : segArea fl.cnt.key = false := by decide) : s.LoopKept (s.flag fl n) :=
  (((State.Stands.wr s 1 hb).trans (.wr _ _ hc)).trans (State.post_loopKept _ _)).trans .of_eq

theorem State.finish_loopKept (s : State) (op key : Nat) (st : Status) (res : List Int) : s.LoopKept (s.finish op key st res) := by
  unfold State.finish
  split
  · exact .refl s
  · exact .trans .of_eq (.of_quiet (State.quiet_complete _ _ _ _ _ _ _))

/-! ### Contactors, insulation monitor and power -/

theorem State.isoRole_loopKept (s : State) : s.LoopKept s.isoRole :=
  .trans (t := if !s.isoMay then _ else _) (.ite .of_eq (.ite (.refl s) .of_eq)) (.wr _ _)

theorem State.isoReport_loopKept (s : State) : s.LoopKept s.isoReport := by
  unfold State.isoReport
  split
  · exact .ite (.wrs s _) (.wrs s _)
  · exact .wrs s _

theorem State.isoString_loopKept (s : State) : s.LoopKept s.isoString := by
  have h : s.LoopKept (({ s with cim.candidate := false } : State).wr F.CIM_ISO_STATUS_ROLE 2) := .trans .of_eq (.wr _ _)
  exact .ite (.trans .of_eq (State.isoRole_loopKept _)) (.trans (.ite h (h.trans (State.isoReport_loopKept _))) (State.isoRole_loopKept _))

theorem State.allOff_loopKept (s : State) : s.LoopKept s.allOff := by
  unfold State.allOff State.mirrorSwitches
  extract_lets _ hs ls op s1
  have h1 : s.LoopKept s1 := (((State.Stands.wr s _).trans (.wrB _ _)).trans (.wrB _ _)).trans (.wrB _ _)
  exact .ite (h1.trans (State.isoString_loopKept _)) h1

theorem State.setX19_loopKept (s : State) : s.LoopKept s.setX19 := .wrB s _

theorem State.setFloor_loopKept (s : State) : s.LoopKept s.setFloor := .wr s _

/-- A power state other than P4 leaves the cards supplied. -/
theorem State.enterPower_loopKept (s : State) {p : Nat} (hp : p ≠ 4) : s.LoopKept (s.enterPower p) := by
  unfold State.enterPower
  extract_lets on off s0 s1
  rw [if_neg hp]
  have h0 : s.LoopKept s0 := .ite (.foldl _ _ (fun _ _ _ => .of_eq) s) (.refl s)
  exact ((h0.trans (.wr _ _)).trans (.wr _ _)).trans (State.isoRole_loopKept _)

/-! ### Balancing -/

theorem State.endCampaign_loopKept (s : State) (st : Status) : s.LoopKept (s.endCampaign st) := by
  have hzero : s.LoopKept s.zeroDuties := .trans .of_eq (.foldl _ _ (fun _ _ _ => .of_eq) _)
  unfold State.endCampaign
  split
  · exact .refl s
  · have h : s.LoopKept { s.zeroDuties with bal.campaign := none } := hzero.trans .of_eq
    exact (((h.trans (.wrs _ _)).trans (State.flag_loopKept _ _ _)).trans (State.finish_loopKept _ _ _ _ _)).trans (State.setFloor_loopKept _)

theorem State.autoCampaign_loopKept (s : State) : s.LoopKept s.autoCampaign :=
  .ite (.trans (.trans .of_eq (.wrs _ _)) (State.setFloor_loopKept _)) (.refl s)

/-! ### Dispatch -/

theorem State.setPend_loopKept (s : State) (c n : Nat) (on : Bool) : s.LoopKept (s.setPend c n on) := by
  refine .trans (.wr_pastSeg s _ ?_) (.wr_pastSeg _ _ ?_)
  · show 0x50000 ≤ 0xc1000 + 32768 * c + 128 * n; omega
  · split
    · show 0x50000 ≤ 0xc0044 + 32768 * c; omega
    · show 0x50000 ≤ 0xc0048 + 32768 * c; omega

theorem State.canTxEnd_loopKept (s : State) (c n : Nat) (st : Status) : s.LoopKept (s.canTxEnd c n st) := by
  refine .trans (.trans ((s.setPend_loopKept c n false).trans (.wrs_pastSeg _ _ ?_)) .of_eq) (State.finish_loopKept _ _ _ _ _)
  simp [F.CAN_MB_CTRL_STATUS, F.CAN_MB_CTRL_REQ, F.CAN_MB_CTRL_CANCEL, F.CAN_MB_CTRL_ATTEMPTS]
  omega

theorem State.canRequest_loopKept (s : State) (c n : Nat) : s.LoopKept (s.canRequest c n) := by
  have hreq : s.LoopKept (s.wrs [(F.CAN_MB_CTRL_REQ c n, 1), (F.CAN_MB_CTRL_CANCEL_LATE c n, 0)]) :=
    .wrs_pastSeg s _ (by simp [F.CAN_MB_CTRL_REQ, F.CAN_MB_CTRL_CANCEL_LATE]; omega)
  have hst : s.LoopKept (s.wr (F.CAN_MB_CTRL_STATUS c n) Status.param.code) :=
    .wr_pastSeg s _ (by show 0x50000 ≤ 0xc1000 + 32768 * c + 128 * n; omega)
  exact .ite (.refl s) (.ite hst (.ite hreq (hreq.trans (.ite (State.setPend_loopKept _ _ _ _) (State.canTxEnd_loopKept _ _ _ _)))))

theorem State.canEnd_loopKept (s : State) (c n : Nat) (st : Status) : s.LoopKept (s.canEnd c n st) :=
  .ite (.trans ((s.canTxEnd_loopKept c n st).trans .of_eq) (State.canRequest_loopKept _ c n)) (s.canTxEnd_loopKept c n st)

theorem State.canData_loopKept (s : State) (c n : Nat) (bs : List Byte) : s.LoopKept (s.canData c n bs) :=
  .foldl _ _ (fun s w _ => .wr_pastSeg s _ (by show 0x50000 ≤ 0xc1014 + 32768 * c + 128 * n + 4 * w; omega)) s

theorem State.canSend_loopKept (s : State) (n id : Nat) (ide fdf : Bool) (bs : List Byte) : s.LoopKept (s.canSend n id ide fdf bs) := by
  refine .ite (.refl s) (.trans (.trans (.wrs_pastSeg _ _ ?_) (State.canData_loopKept _ _ _ _)) (State.canRequest_loopKept _ _ _))
  simp [F.CAN_MB_CTRL_DIR, F.CAN_MB_CTRL_TIMED, F.CAN_MB_ID_ID, F.CAN_MB_ID_IDE, F.CAN_MB_ID_RTR, F.CAN_MB_FMT_DLC, F.CAN_MB_FMT_FDF,
    F.CAN_MB_FMT_BRS, F.CAN_MB_FMT_RETRY]
  omega

theorem State.dspSend_loopKept (s : State) (n : Nat) (bank : Bool) (offset index flags : Nat) (body : List Byte) :
    s.LoopKept (s.dspSend n bank offset index flags body) :=
  .ite (.trans .of_eq (State.canSend_loopKept _ _ _ _ _ _)) (.refl s)

theorem State.setpointLoad_loopKept (s : State) : s.LoopKept s.setpointLoad := by
  unfold State.setpointLoad
  split
  · exact .refl s
  · exact s.dspSend_loopKept _ _ _ _ _ _

theorem State.scheduleEnd_loopKept (s : State) (st : Status) : s.LoopKept (s.scheduleEnd st) := by
  unfold State.scheduleEnd
  split
  · exact .refl s
  · exact .trans (.trans .of_eq (.wr _ _)) (State.finish_loopKept _ _ _ _ _)

theorem State.startingEnd_loopKept (s : State) (st : Status) : s.LoopKept (s.startingEnd st) := by
  unfold State.startingEnd
  split
  · exact .refl s
  · exact .trans (.ite .of_eq (.trans .of_eq (.wr _ _))) (State.finish_loopKept _ _ _ _ _)

theorem State.entriesDrop_loopKept (s : State) : s.LoopKept s.entriesDrop := by
  unfold State.entriesDrop
  extract_lets keep n first s1 _ s2
  have h1 : s.LoopKept s1 := .ite (s.canEnd_loopKept _ _ _) (.refl s)
  have h2 : s.LoopKept s2 := h1.trans (.trans .of_eq (.ite (.refl _) ((State.flag_loopKept _ _ _).trans (.wr _ _))))
  exact .ite (.refl s) (.ite (h2.trans (State.setpointLoad_loopKept _)) h2)

theorem State.scheduleLeave_loopKept (s : State) : s.LoopKept s.scheduleLeave :=
  ((s.scheduleEnd_loopKept _).trans (State.startingEnd_loopKept _ _)).trans (State.entriesDrop_loopKept _)

theorem State.genStop_loopKept (s : State) (st : Status) : s.LoopKept (s.genStop st) :=
  .trans (.trans .of_eq (.wrs _ _)) (State.finish_loopKept _ _ _ _ _)

theorem State.perturbStop_loopKept (s : State) : s.LoopKept s.perturbStop := by
  have habort : ∀ u : State, u.LoopKept u.corrAbort := fun u =>
    .ite (.trans (.trans .of_eq (.wr _ _)) (State.finish_loopKept _ _ _ _ _)) (.refl u)
  unfold State.perturbStop
  split
  · exact .refl s
  · next p _ =>
    extract_lets idx _ s1 s2
    have h1 : s.LoopKept s1 := .trans .of_eq (State.dspSend_loopKept _ _ _ _ _ _ _)
    have h2 : s1.LoopKept s2 := .ite (.trans (.wr _ _) (.ite .of_eq (State.genStop_loopKept _ _))) (.refl s1)
    exact ((h1.trans h2).trans (habort _)).trans (State.finish_loopKept _ _ _ _ _)

/-! ### Motion and thermal management -/

/-- The words of an axis lie beyond those of the segment cards. -/
theorem State.Stands.wr_axis (s : State) (x lo w r n : Nat) : s.LoopKept (s.wr ⟨0xb014c + 256 * x, lo, w, r⟩ n) :=
  .wr_pastSeg s n (by show 0x50000 ≤ 0xb014c + 256 * x; omega)

theorem State.axStop_loopKept (s : State) (x : Nat) (e : Bool) (cause : Nat) : s.LoopKept (s.axStop x e cause) :=
  .ite (.refl s) (.ite (.refl s) (.trans (.wr_axis s x 0 _ _ _) .of_eq))

theorem State.seLoadFw_loopKept (s : State) {k : Nat} (q : SeKernel) (l : List SeInst) (hk : segArea (F.SE_KSTAT_SHADOW k).key = false) :
    s.LoopKept (s.seLoadFw k q l) :=
  .ite (.trans .of_eq (.wr _ _ hk)) (.refl s)

theorem State.loadLoop_loopKept (s : State) : s.LoopKept s.loadLoop := s.seLoadFw_loopKept _ _ (by decide)

theorem State.seDisable_loopKept (s : State) (k : Nat) : s.LoopKept (s.seDisable k) :=
  .ite (.trans .of_eq (State.finish_loopKept _ _ _ _ _)) .of_eq

theorem State.thmMode_loopKept (s : State) : s.LoopKept s.thmMode := by
  unfold State.thmMode
  refine .ite ?_ ?_
  · extract_lets s1
    have h1 : s.LoopKept s1 := .ite (.refl s) (s.seLoadFw_loopKept _ _ (by decide))
    exact .ite h1 (h1.trans (State.loadLoop_loopKept _))
  · extract_lets s1
    have h1 : s.LoopKept s1 := .ite (s.seDisable_loopKept 1) (.refl s)
    exact .ite (h1.trans (State.seDisable_loopKept _ _)) h1

theorem State.tuneEnd_loopKept (s : State) (st : Status) (res : List Int) : s.LoopKept (s.tuneEnd st res) := by
  unfold State.tuneEnd
  split
  · exact .refl s
  · extract_lets _ s1 s2
    have h1 : s.LoopKept s1 := .trans (.trans .of_eq (State.genStop_loopKept _ _)) (.wrs _ _)
    have h2 : s1.LoopKept s2 := .ite (State.loadLoop_loopKept _) (.refl s1)
    exact ((h1.trans h2).trans (State.flag_loopKept _ _ _)).trans (State.finish_loopKept _ _ _ _ _)

theorem State.sendValve_loopKept (s : State) (p db : Nat) : s.LoopKept (s.sendValve p db) :=
  .ite (.refl s) (.trans (.trans (t := s.motSendFrac 0 p) (.ite (.refl s) .of_eq) .of_eq) (.wr _ _))

theorem State.sendDamper_loopKept (s : State) (p : Nat) : s.LoopKept (s.sendDamper p) :=
  .ite (.refl s) (.trans (.trans (t := s.motSendFrac 1 p) (.ite (.refl s) .of_eq) .of_eq) (.wr _ _))

theorem State.thmDrive_loopKept (s0 : State) : s0.LoopKept s0.thmDrive := by
  unfold State.thmDrive
  extract_lets forced s vo dow unavail loop s1 s2 s3 s4 s5
  have h0 : s0.LoopKept s := .ite (s0.tuneEnd_loopKept _ _) (.refl s0)
  have h1 : s.LoopKept s1 := .wrs s _
  have h2 : s1.LoopKept s2 := .ite (State.flag_loopKept _ _ _) (.refl s1)
  have h4 : s2.LoopKept s4 := .trans (.wrB s2 unavail) (.ite (.wr s3 _) (.refl s3))
  have hvalve := s4.sendValve_loopKept
  have h5 : s4.LoopKept s5 :=
    .ite (hvalve _ _) (.ite (.refl s4) (.ite (hvalve _ _) (.ite (hvalve _ _) (.ite (hvalve _ _) (hvalve _ _)))))
  have hdamper := s5.sendDamper_loopKept
  exact (((h0.trans h1).trans h2).trans h4).trans (h5.trans (.ite (hdamper _) (.ite (hdamper _) (.ite (hdamper _) (hdamper _)))))

/-! ### The mode transition (R40, R44) -/

theorem State.stopOp_loopKept (s : State) (o : Op) : s.LoopKept (s.stopOp o) := by
  unfold State.stopOp
  split
  · exact .of_eq
  · exact s.endCampaign_loopKept _
  · exact .of_eq
  · exact .trans (.wr s (f := F.EST_CFG_RATE) _) .of_eq
  · exact .of_eq
  · exact .ite (s.scheduleEnd_loopKept _) (s.startingEnd_loopKept _)
  · exact s.perturbStop_loopKept
  · extract_lets _ s1
    have h1 : s.LoopKept s1 := .of_eq
    exact ((h1.trans (State.axStop_loopKept _ _ _ _)).trans (State.finish_loopKept _ _ _ _ _)).trans .of_eq
  · extract_lets _ s1
    have h1 : s.LoopKept s1 := .of_eq
    exact .trans (.ite ((h1.trans (State.axStop_loopKept _ _ _ _)).trans (.wr_axis _ _ 4 _ _ _)) h1) .of_eq
  · exact .trans .of_eq (.wrs _ _)
  · exact .of_eq
  · exact .of_eq
  · exact s.genStop_loopKept _
  · exact .wr s _
  · exact .wr s _
  · exact .refl s

theorem State.modeFollow_loopKept (s : State) (new : Nat) : s.LoopKept (s.modeFollow new) := by
  unfold State.modeFollow
  extract_lets s1 s2
  have hpaths : ∀ u : State, u.LoopKept u.allPathsOff := fun u => .foldl _ _ (fun _ _ _ => .of_eq) u
  have h1 : s.LoopKept s1 := .ite ((s.endCampaign_loopKept _).trans (hpaths _)) (.ite s.autoCampaign_loopKept (.refl s))
  have h2 : s1.LoopKept s2 := .ite (.refl s1) (s1.scheduleLeave_loopKept.trans (State.perturbStop_loopKept _))
  exact (h1.trans h2).trans (((s2.tuneEnd_loopKept _ _).trans (State.thmMode_loopKept _)).trans (State.thmDrive_loopKept _))

theorem State.setMode_loopKept (s : State) (new cause : Nat) : s.LoopKept (s.setMode new cause) := by
  unfold State.setMode
  extract_lets old s1 s2 _ s3 _ s4 s5 s6
  have h2 : s.LoopKept s2 := (State.Stands.wrs s _).trans (State.post_loopKept _ _)
  have h4 : s2.LoopKept s4 := .trans (t := s3) .of_eq (.ite (.refl s3) .of_eq)
  have habort : s4.LoopKept (s4.abortIllegal new) :=
    .foldl _ _ (fun u o _ => (u.stopOp_loopKept o).trans (State.finish_loopKept _ _ _ _ _)) s4
  have hlimit : ∀ u : State, u.LoopKept u.setServiceLimit := fun u =>
    .ite (.trans (.wrB u (f := F.SAFE_STATUS_SERVICE_LIMIT) _) .of_eq) (.wrB u _)
  have h5 : s4.LoopKept s5 := (habort.trans (State.modeFollow_loopKept _ _)).trans (hlimit _)
  have h6 : s5.LoopKept s6 := .ite (.refl s5) (s5.enterPower_loopKept (by decide))
  exact (((h2.trans h4).trans (h5.trans h6)).trans (State.setFloor_loopKept _)).trans (State.setX19_loopKept _)

/-! ### The entry into LOCKOUT (R41, R268, R296) -/

theorem State.lockMode_loopKept (s : State) : s.LoopKept s.lockMode :=
  .ite (.refl s) (((s.setMode_loopKept _ _).trans (State.finish_loopKept _ _ _ _ _)).trans (.wr _ _))

theorem State.endWindow_loopKept (s : State) (st : Status) : s.LoopKept (s.endWindow st) :=
  .trans (.trans .of_eq (.wrs _ _)) (State.finish_loopKept _ _ _ _ _)

theorem State.reactStart_loopKept (s : State) : s.LoopKept s.reactStart := .ite .of_eq (.refl s)

theorem State.latchCause_loopKept (s : State) (c : Cause) (ch : Nat) : s.LoopKept (s.latchCause c ch) := State.Stands.trans .of_eq (.wrs _ _)

theorem State.endClosing_loopKept (s : State) (r : Nat) : s.LoopKept (s.endClosing r) := .ite (.refl s) (.trans .of_eq (.wrs _ _))

theorem State.lockout_loopKept (s : State) (c : Cause) (ch : Nat) : s.LoopKept (s.lockout c ch) := by
  rw [State.lockout_eq]
  extract_lets s0 s1
  have h0 : s.LoopKept s0 := .trans (.ite (s.endWindow_loopKept _) (.refl s)) (State.reactStart_loopKept _)
  have h1 : s0.LoopKept s1 := (s0.allOff_loopKept.trans (State.latchCause_loopKept _ _ _)).trans (State.endClosing_loopKept _ _)
  have h2 := (State.post_loopKept s1 (s1.lockRecord c ch)).trans (State.lockMode_loopKept _)
  exact ((h0.trans h1).trans h2).trans (.trans (.wr _ _) (State.setX19_loopKept _))

theorem State.raiseCause_loopKept (s : State) (c : Cause) (ch : Nat) : s.LoopKept (s.raiseCause c ch) := by
  unfold State.raiseCause
  split
  · exact .ite (s.lockout_loopKept _ _) (.wr s _)
  · exact .ite (s.lockout_loopKept _ _) (.wr s _)
  · exact s.lockout_loopKept _ _

end Sys2Proof.Machine
end

section
/-! PROOFS. Dwells of the spare converter (R82–R84, R103, R504): the rotation, the shadow dwell and CAL_CHECK. -/

namespace Sys2Proof.Machine

-- One proof after another: a thread for each would not fit the memory of the check.
set_option Elab.async false

/-! ### What leaves the cards -/

theorem State.gateTone_seg (s : State) : s.gateTone.seg = s.seg := by
  unfold State.gateTone
  split <;> rfl

theorem State.finish_seg (s : State) (op key : Nat) (st : Status) (res : List Int) : (s.finish op key st res).seg = s.seg := by
  unfold State.finish
  split
  · rfl
  · next o _ =>
    have hrest := (State.quiet_complete { s with hrt.ops := s.hrt.ops.erase o } o.opcode o.tag 2 st res o.index).rest
    rw [show State.complete _ o.opcode o.tag 2 st res o.index = _ from hrest]

theorem State.segOf_congr {s t : State} (h : t.seg = s.seg) (k : Nat) : t.segOf k = s.segOf k := by
  unfold State.segOf
  rw [h]

theorem State.segOf_wr (s : State) (f : Field) (v k : Nat) : (s.wr f v).segOf k = s.segOf k := rfl

theorem State.segOf_turnSpare (s : State) (k p : Nat) : (s.turnSpare k p).segOf k =
    { s.segOf k with rotPrev := (s.segOf k).rot, rotAt := s.plumbIdx, rot := p, dwSum := 0, dwN := 0, shSum := 0, shN := 0 } :=
  State.segOf_modSeg _ _ _

theorem State.spareFree_iff (s : State) (k : Nat) : s.spareFree k = true ↔ (s.segOf k).subst = 0 ∧ (s.segOf k).spareFailed = false := by
  simp [State.spareFree]

/-! ### A visit to a cell (R82) -/

/-- The card's count of visits with drift at the position of its spare, and UNDERCOAT's count of the card. -/
def State.driftCounted (s : State) (k n : Nat) : State :=
  (s.setSeg k { s.segOf k with drift := Tbl.put (s.segOf k).drift (s.segOf k).rot n }).wr (F.UC_CONV_DRIFT_VISITS k)
    (if n = 0 then s.rd (F.UC_CONV_DRIFT_VISITS k) else min 0xFFFF (s.rd (F.UC_CONV_DRIFT_VISITS k) + 1))

theorem State.segOf_driftCounted (s : State) (k n : Nat) :
    (s.driftCounted k n).segOf k = { s.segOf k with drift := Tbl.put (s.segOf k).drift (s.segOf k).rot n } := State.segOf_setSeg _ _ _

/-- A visit whose mean lies within the limit counts as none with drift, and the rotation goes on. -/
theorem State.dwellCell_within (s : State) {k : Nat} {m : Rat} (hin : |m| ≤ ((10 * s.rd F.SEG_SPARE_CFG_DRIFT_LIMIT : Nat) : Rat))
    (hsubst : (s.segOf k).subst = 0) : s.dwellCell k (some m) = (s.driftCounted k 0).turnSpare k (nextRot (s.segOf k).rot) := by
  have hgo : ((s.driftCounted k 0).segOf k).subst = 0 := by rw [s.segOf_driftCounted k 0]; exact hsubst
  simp only [State.dwellCell, if_neg (not_lt.2 hin)]
  exact if_pos hgo

/-- The second visit running beyond the limit is the converter's failure. -/
theorem State.dwellCell_second (s : State) {k : Nat} {m : Rat} (hout : ((10 * s.rd F.SEG_SPARE_CFG_DRIFT_LIMIT : Nat) : Rat) < |m|)
    (hbefore : Tbl.get 0 (s.segOf k).drift (s.segOf k).rot = 1) {u : State} (hu : (s.driftCounted k 2).converterFails k (s.segOf k).rot = u)
    (hsubst : (u.segOf k).subst ≠ 0) : s.dwellCell k (some m) = u := by
  subst hu
  simp only [State.dwellCell, if_pos hout, hbefore]
  exact if_neg hsubst

/-! ### A substitution (R83, R84) -/

/-- A card whose spare takes position `j` at index `i`. -/
def Seg.substituted (x : Seg) (j i : Nat) : Seg :=
  { x with subst := j, shadow := none, needed := 0, rotPrev := x.rot, rotAt := i, rot := j }

/-- A substitution shows in the card's word with its flag; its records and UNDERCOAT's words leave the ring alone. -/
theorem State.substitute_kept (s : State) (k j : Nat) :
    (((s.modSeg k fun x => x.substituted j s.plumbIdx).wr (F.SEG_STATE_SPARE_SUBST k) 1).wr Fl.SEG_EVENT_SPARE_SUBST.bit 1).RingKept
      (s.substitute k j) := by
  have hconv : ringKey (F.UC_CONV_POSITION k).key = false := ringKey_of_addr (by simp only [F.UC_CONV_POSITION]; omega)
  have huc : ((s.modSeg k fun x => x.substituted j s.plumbIdx).wr (F.SEG_STATE_SPARE_SUBST k) 1).RingKept
      ((s.modSeg k fun x => x.substituted j s.plumbIdx).wrs
        [(F.SEG_STATE_SPARE_SUBST k, 1), (F.UC_CONV_POSITION k, j), (F.UC_STATUS_CONV_USED, s.rd F.UC_STATUS_CONV_USED + 1)]) :=
    (State.wr_kept _ _ _ hconv).trans (State.wr_kept _ _ _)
  have hflag := (huc.wr_congr Fl.SEG_EVENT_SPARE_SUBST.bit 1).trans
    (State.flag_kept_set _ Fl.SEG_EVENT_SPARE_SUBST { system := true, idx := k, detail := [j] })
  exact hflag.trans ((State.spareTook_kept _ 0 (convRes k j) (convRes k 0)).trans (State.exhaust_kept _ 0 k))

theorem State.substitute_shows (s : State) {k : Nat} (j : Nat) (hk : k ≤ 26) :
    ((s.substitute k j).segOf k).subst = j ∧ (s.substitute k j).rd (F.SEG_STATE_SPARE_SUBST k) = 1 := by
  have hkept := s.substitute_kept k j
  have hcore := hkept.cards k
  rw [State.segOf_wr, State.segOf_wr, State.segOf_modSeg] at hcore
  refine ⟨congrArg Seg.subst hcore, ((hkept.regs _ (ringKey_row hk)).trans (State.rd_wr_ne _ _ _ _ ?_)).trans (State.rd_wr_same _ _ _)⟩
  simp only [Field.key, Fl.SEG_EVENT_SPARE_SUBST, F.SEG_EVENT_SPARE_SUBST]
  omega

section
variable {s : State} {k : Nat} (hk : s.segOk k = true) (hlive : s.segLive k = true) (hfree : s.spareFree k = true)
include hk hlive hfree

/-! ### What the end of a dwell leads to -/

theorem exec_spareDwellEnd_shadow {j : Nat} {c : Bool} (fail : Nat) (hshadow : (s.segOf k).shadow = some (j, c)) :
    exec (.spareDwellEnd k fail) s = .next (s.shadowEnd k j c).gateTone := by
  show execSpareDwellEnd k fail s = _
  simp only [execSpareDwellEnd, hk, hlive, hfree, hshadow]
  rfl

theorem exec_spareDwellEnd_cal {l : List Int} {m : Rat} (fail : Nat) (hshadow : (s.segOf k).shadow = none) (hcal : (s.segOf k).cal = some l)
    (hlen : l.length = 16) (hm : meanOf (s.segOf k).dwSum (s.segOf k).dwN = some m) : exec (.spareDwellEnd k fail) s =
      .next (((s.setSeg k { s.segOf k with cal := none }).finish 0x0204 k .ok (l ++ [ratRound m])).turnSpare k 0) := by
  have hfull : (l ++ [ratRound m]).length = 17 := by rw [List.length_append, hlen]; rfl
  show execSpareDwellEnd k fail s = _
  simp only [execSpareDwellEnd, hk, hlive, hfree, hshadow, hcal, hm]
  exact congrArg Host.Outcome.next (if_pos hfull)

/-- A dwell of the rotation with no converter failed: on the reference, or on a cell. -/
theorem exec_spareDwellEnd_rotation {m : Rat} (hshadow : (s.segOf k).shadow = none) (hcal : (s.segOf k).cal = none)
    (hm : meanOf (s.segOf k).dwSum (s.segOf k).dwN = some m) : exec (.spareDwellEnd k 0) s =
      .next (if (s.segOf k).rot = 0 then
        (if ((s.refJudge k m).segOf k).spareFailed then s.refJudge k m else (s.refJudge k m).turnSpare k 1)
      else (s.dwellCell k (some m)).gateTone) := by
  show execSpareDwellEnd k 0 s = _
  simp only [execSpareDwellEnd, hk, hlive, hfree, hshadow, hcal, hm]
  exact congrArg Host.Outcome.next (if_neg (by simp))

/-! ### The rotation (R82) -/

section
variable {m : Rat} (hshadow : (s.segOf k).shadow = none) (hcal : (s.segOf k).cal = none)
  (hm : meanOf (s.segOf k).dwSum (s.segOf k).dwN = some m)
include hshadow hcal hm

theorem spareDwellEnd_refPassed (hrot : (s.segOf k).rot = 0) (hin : |m| ≤ ((10 * s.rd F.SEG_SPARE_CFG_DRIFT_LIMIT : Nat) : Rat)) :
    ∃ t, exec (.spareDwellEnd k 0) s = .next t ∧ (t.segOf k).rot = 1 ∧ (t.segOf k).refSeen = true := by
  obtain ⟨-, hspare⟩ := (s.spareFree_iff k).1 hfree
  have hseg : (s.refJudge k m).segOf k = { s.segOf k with refSeen := true } := by
    rw [s.refJudge_passed k m (not_lt.2 hin), State.segOf_modSeg]
  have hgood : ¬((s.refJudge k m).segOf k).spareFailed = true := by
    rw [hseg]
    simp [hspare]
  refine ⟨_, (exec_spareDwellEnd_rotation hk hlive hfree hshadow hcal hm).trans (congrArg Host.Outcome.next ((if_pos hrot).trans (if_neg hgood))), ?_⟩
  rw [State.segOf_turnSpare, hseg]
  exact ⟨rfl, rfl⟩

theorem spareDwellEnd_refFailed (hrot : (s.segOf k).rot = 0) (hout : ((10 * s.rd F.SEG_SPARE_CFG_DRIFT_LIMIT : Nat) : Rat) < |m|) :
    ∃ t, exec (.spareDwellEnd k 0) s = .next t ∧ (t.segOf k).spareFailed = true ∧ t.rd (F.SEG_STATE_SPARE_FAILED k) = 1 := by
  obtain ⟨-, -, hshown⟩ := s.refJudge_spec m (State.segOk_bounds hk).2
  have hcore := (s.refJudge_failed_kept k m hout).cards k
  rw [show ((s.modSeg k _).wr _ _).segOf k = _ from State.segOf_modSeg s k _] at hcore
  have hbad : ((s.refJudge k m).segOf k).spareFailed = true := (congrArg Seg.spareFailed hcore :)
  exact ⟨_, (exec_spareDwellEnd_rotation hk hlive hfree hshadow hcal hm).trans (congrArg Host.Outcome.next ((if_pos hrot).trans (if_pos hbad))),
    hbad, hshown hout⟩

theorem spareDwellEnd_cellPassed {j : Nat} (hrot : (s.segOf k).rot = j) (h1 : 1 ≤ j)
    (hin : |m| ≤ ((10 * s.rd F.SEG_SPARE_CFG_DRIFT_LIMIT : Nat) : Rat)) :
    ∃ t, exec (.spareDwellEnd k 0) s = .next t ∧ (t.segOf k).rot = (if j = 16 then 0 else j + 1) ∧ Tbl.get 0 (t.segOf k).drift j = 0 := by
  subst hrot
  obtain ⟨hsubst, -⟩ := (s.spareFree_iff k).1 hfree
  refine ⟨_, (exec_spareDwellEnd_rotation hk hlive hfree hshadow hcal hm).trans (congrArg Host.Outcome.next (if_neg (by omega))), ?_⟩
  rw [State.segOf_congr (State.gateTone_seg _), s.dwellCell_within hin hsubst, State.segOf_turnSpare, State.segOf_driftCounted]
  exact ⟨rfl, Tbl.get_put_same _ _ _ _⟩

theorem spareDwellEnd_cellDrifted {j : Nat} (hrot : (s.segOf k).rot = j) (h1 : 1 ≤ j)
    (hout : ((10 * s.rd F.SEG_SPARE_CFG_DRIFT_LIMIT : Nat) : Rat) < |m|) (hbefore : Tbl.get 0 (s.segOf k).drift j = 1)
    (hauto : s.isOn F.UC_CFG_AUTO_CONV = true) :
    ∃ t, exec (.spareDwellEnd k 0) s = .next t ∧ (t.segOf k).subst = j ∧ t.rd (F.SEG_STATE_SPARE_SUBST k) = 1 := by
  subst hrot
  obtain ⟨-, hk26⟩ := State.segOk_bounds hk
  have hfree1 : (s.driftCounted k 2).spareFree k = true := by
    rw [State.spareFree_iff, State.segOf_driftCounted]
    exact (s.spareFree_iff k).1 hfree
  have hauto1 : (s.driftCounted k 2).isOn F.UC_CFG_AUTO_CONV = true := by
    refine (congrArg (· == 1) (State.rd_wr_ne _ _ _ _ ?_)).trans hauto
    simp only [Field.key, F.UC_CFG_AUTO_CONV, F.UC_CONV_DRIFT_VISITS]
    omega
  obtain ⟨hsubst, hshown⟩ := (s.driftCounted k 2).substitute_shows (s.segOf k).rot hk26
  have hcell : s.dwellCell k (some m) = (s.driftCounted k 2).substitute k (s.segOf k).rot :=
    s.dwellCell_second hout hbefore ((if_pos hfree1).trans (if_pos hauto1)) (by omega)
  refine ⟨_, (exec_spareDwellEnd_rotation hk hlive hfree hshadow hcal hm).trans (congrArg Host.Outcome.next (if_neg (by omega))), ?_⟩
  rw [hcell]
  exact ⟨(congrArg Seg.subst (State.segOf_congr (State.gateTone_seg _) k)).trans hsubst,
    ((State.gateTone_kept _).regs _ (ringKey_row hk26)).trans hshown⟩

end

/-! ### The shadow dwell of a command (R83, R103) -/

section
variable {j : Nat} (fail : Nat) (hshadow : (s.segOf k).shadow = some (j, true))
include hshadow

theorem spareDwellEnd_agrees (hagrees : s.shadowAgrees k = true) : exec (.spareDwellEnd k fail) s =
    .next (((s.substitute k j).finish 0x0206 k .ok).finish 0x0B04 k .ok).gateTone := by
  rw [exec_spareDwellEnd_shadow hk hlive hfree fail hshadow, State.shadowEnd, if_pos hagrees]
  rfl

theorem spareDwellEnd_differs (hagrees : s.shadowAgrees k = false) :
    ∃ t, exec (.spareDwellEnd k fail) s = .next t ∧ (t.segOf k).shadow = none ∧ (t.segOf k).subst = 0 ∧
      (t.segOf k).rot = (if j = 16 then 0 else j + 1) := by
  refine ⟨_, exec_spareDwellEnd_shadow hk hlive hfree fail hshadow, ?_⟩
  have hseg : ((((s.modSeg k fun x => { x with shadow := none }).sparing 0 3 (convRes k j) (convRes k 0)).finish 0x0206 k
      .internal).finish 0x0B04 k .internal).segOf k = { s.segOf k with shadow := none } := by
    rw [State.segOf_congr (State.finish_seg _ _ _ _ _), State.segOf_congr (State.finish_seg _ _ _ _ _)]
    exact (State.segOf_congr (State.post_seg _ _) k).trans (State.segOf_modSeg s k _)
  rw [State.segOf_congr (State.gateTone_seg _), State.shadowEnd, if_neg (by simp [hagrees])]
  simp only [if_true, State.segOf_turnSpare, hseg]
  exact ⟨trivial, ((s.spareFree_iff k).1 hfree).1, rfl⟩

end

end

end Sys2Proof.Machine
end

section
/-! PROOFS. Blocks of the wire test (R109–R116): the verdict, a block without one, and a wire that is latched. -/

namespace Sys2Proof.Machine

-- One proof after another: a thread for each would not fit the memory of the check.
set_option Elab.async false

/-! ### The verdict of two neighbours (R110) -/

theorem getD_map_numbersFrom (g : Nat → Int) {n i : Nat} (h1 : 1 ≤ i) (hn : i ≤ n) : ((numbersFrom 1 n).map g).getD (i - 1) 0 = g i := by
  have hget : ∀ n a i, i < n → (numbersFrom a n)[i]? = some (a + i) := by
    intro n
    induction n with
    | zero => exact fun _ _ hi => absurd hi (Nat.not_lt_zero _)
    | succ n ih =>
      intro a i hi
      cases i with
      | zero => rfl
      | succ i => exact (ih (a + 1) i (by omega)).trans (by rw [Nat.add_right_comm]; rfl)
  rw [List.getD_eq_getElem?_getD, List.getElem?_map, hget n 1 (i - 1) (by omega), show 1 + (i - 1) = i by omega]
  rfl

/-- The amplitudes of a block in which position `j` reads `x`, the next one `y`, and no other anything. -/
def pairAmps (j : Nat) (x y : Int) : List Int := (numbersFrom 1 16).map fun i => if i = j then x else if i = j + 1 then y else 0

theorem getD_pairAmps {i : Nat} (j : Nat) (x y : Int) (h1 : 1 ≤ i) (h16 : i ≤ 16) :
    (pairAmps j x y).getD (i - 1) 0 = if i = j then x else if i = j + 1 then y else 0 := getD_map_numbersFrom _ h1 h16

theorem present_pairAmps {th j : Nat} {x y : Int} (hth : 0 < th) (h1 : 1 ≤ j) (h15 : j ≤ 15) (hx : (th : Int) ≤ x) (hy : y ≤ -(th : Int)) :
    present th (pairAmps j x y) = [j, j + 1] := by
  have hpair : ∀ i ∈ numbersFrom 1 16, decide (th ≤ ((pairAmps j x y).getD (i - 1) 0).natAbs) = decide (i = j ∨ i = j + 1) := fun i hi => by
    obtain ⟨hi1, hi16⟩ := (mem_numbersFrom 1 16 i).1 hi
    rw [getD_pairAmps j x y hi1 (by omega), decide_eq_decide]
    split
    · omega
    · split <;> omega
  have hlist : ∀ j ∈ numbersFrom 1 15, (numbersFrom 1 16).filter (fun i => decide (i = j ∨ i = j + 1)) = [j, j + 1] := by decide
  exact (List.filter_congr hpair).trans (hlist j ((mem_numbersFrom 1 15 j).2 (by omega)))

theorem verdictOf_neighbours {th mm j : Nat} {x y d : Int} (hth : 0 < th) (h1 : 1 ≤ j) (h15 : j ≤ 15) (hx : (th : Int) ≤ x)
    (hy : y ≤ -(th : Int)) (hd : d.natAbs ≤ mm) : verdictOf th mm (pairAmps j x y) 0 d = (.wire j, 2 ^ (j - 1) + 2 ^ j) := by
  have hlow := getD_pairAmps j x y h1 (by omega)
  have hhigh := getD_pairAmps (i := j + 1) j x y (by omega) (by omega)
  rw [if_pos rfl] at hlow
  rw [if_neg (by omega), if_pos rfl] at hhigh
  have hxpos : 0 < x := by omega
  have hyneg : y < 0 := by omega
  have hsum : ¬th ≤ 0 := by omega
  simp only [verdictOf, present_pairAmps hth h1 h15 hx hy, hlow, hhigh]
  simp [hd, hxpos, hyneg, hsum]

/-! ### A block is judged -/

section
variable {s : State} {k : Nat} {b : Blk}

theorem wireBlockEnd_partial (e : CmpEcho) (hblk : (s.segOf k).blkDone = none) : exec (.wireBlockEnd k e) s = .next s := by
  show execWireBlockEnd k e s = _
  simp only [execWireBlockEnd, hblk]

theorem exec_wireBlockEnd (e : CmpEcho) (hk : s.segOk k = true) (hlive : s.segLive k = true) (hblk : (s.segOf k).blkDone = some b) :
    exec (.wireBlockEnd k e) s = .next ((s.wireBlock k b).echoCheck k e).gateTone := by
  show execWireBlockEnd k e s = _
  simp only [execWireBlockEnd, hblk]
  exact congrArg Host.Outcome.next (if_neg (by simp [hk, hlive]))

/-- The verdict of a block under the limits in force (R110). -/
def State.blockVerdict (s : State) (b : Blk) : Verdict × Nat :=
  verdictOf (1000 * s.rd F.SEG_WIRE_PARAM_AMP_THRESH) (2000 * s.rd F.SEG_WIRE_PARAM_SUM_MISMATCH) (b.amps.take 16) (b.amps.getD 16 0)
    (b.amps.getD 17 0)

/-- A card after a block that repeats the verdict before it. -/
def Seg.repeated (x : Seg) (b : Blk) (clean : Nat) : Seg :=
  { x with blkDone := none, amps := b.amps, vcount := x.vcount + 1, clean := clean }

/-- A verdict that repeats counts up, and no latched signature has disappeared. -/
theorem State.wireBlock_repeats {v : Verdict} {mk : Nat} (hv : s.blockVerdict b = (v, mk)) (hlast : (s.segOf k).verdict = v) :
    s.wireBlock k b =
      let s1 := s.setSeg k ((s.segOf k).repeated b (if v = .none then (s.segOf k).clean + 1 else 0))
      if s.rd F.SEG_WIRE_PARAM_DETECT_BLOCKS ≤ (s.segOf k).vcount + 1 then s1.wireFault k v mk else s1 := by
  have hstays : s.intermittent k v = false := by simp [State.intermittent, hlast]
  have hv' : verdictOf (1000 * s.rd F.SEG_WIRE_PARAM_AMP_THRESH) (2000 * s.rd F.SEG_WIRE_PARAM_SUM_MISMATCH) (b.amps.take 16) (b.amps.getD 16 0)
    (b.amps.getD 17 0) = (v, mk) := hv
  unfold State.wireBlock
  simp only [hv', hstays, hlast, if_true, Bool.false_eq_true, if_false]
  subst hlast
  rfl

theorem wireBlockEnd_clean {mk : Nat} (hk : s.segOk k = true) (hlive : s.segLive k = true) (hblk : (s.segOf k).blkDone = some b)
    (hv : s.blockVerdict b = (.none, mk)) (hlast : (s.segOf k).verdict = .none) : exec (.wireBlockEnd k (s.cmpConfig k)) s =
      .next (s.setSeg k ((s.segOf k).repeated b ((s.segOf k).clean + 1))).gateTone := by
  have hblock : s.wireBlock k b = s.setSeg k ((s.segOf k).repeated b ((s.segOf k).clean + 1)) :=
    (State.wireBlock_repeats hv hlast).trans (ite_self _)
  rw [exec_wireBlockEnd _ hk hlive hblk, hblock]
  exact congrArg (fun u : State => Host.Outcome.next u.gateTone) (if_pos rfl)

/-! ### A cell wire is latched (R111–R114) -/

/-- The registers in which a latched cell wire shows. -/
def wireKeys (k : Nat) : List Nat :=
  [(F.SEG_WIRE_WIRE_MAP k).key, (F.SEG_WIRE_PAIR_MODE k).key, Fl.SEG_SENSE_EVENT_WIRE_FAULT.bit.key]

/-- `t` comes from `s` with those registers as they were. -/
abbrev State.WireKept (k : Nat) (s t : State) : Prop := State.Stands (wireKeys k).contains (fun _ => ()) s t

theorem segArea_wireKeys (hk : k ≤ 26) : ∀ q ∈ wireKeys k, segArea q = true := by
  simp only [wireKeys, List.forall_mem_cons, segArea, Field.key, F.SEG_WIRE_WIRE_MAP, F.SEG_WIRE_PAIR_MODE, Fl.SEG_SENSE_EVENT_WIRE_FAULT,
    F.SEG_SENSE_EVENT_WIRE_FAULT, Bool.and_eq_true, decide_eq_true_eq]
  refine ⟨?_, ?_, ?_, nofun⟩ <;> omega

theorem State.LoopKept.wire {s t : State} (h : s.LoopKept t) (hk : k ≤ 26) : State.WireKept k s t :=
  h.mono (contains_le (segArea_wireKeys hk)) fun _ => ()

/-- A field elsewhere, or at another bit of the card's wires. -/
theorem not_wireKeys {f : Field} (hk : k ≤ 26) (hlo : f.lo < 32) (hwire : f.addr ≠ 0x40300 + 4 * (k - 1) ∨ f.lo ≠ 0 ∧ f.lo ≠ 19)
    (hevent : f.addr ≠ 0x40050 ∨ f.lo ≠ 0) : (wireKeys k).contains f.key = false := by
  simp only [wireKeys, List.contains_eq_mem, decide_eq_false_iff_not, List.mem_cons, List.not_mem_nil, or_false, not_or, Field.key,
    F.SEG_WIRE_WIRE_MAP, F.SEG_WIRE_PAIR_MODE, Fl.SEG_SENSE_EVENT_WIRE_FAULT, F.SEG_SENSE_EVENT_WIRE_FAULT]
  refine ⟨?_, ?_, ?_⟩ <;> omega

theorem not_wireKeys_of_segArea {q : Nat} (hk : k ≤ 26) (hq : segArea q = false) : (wireKeys k).contains q = false := by
  rw [Bool.eq_false_iff]
  intro hmem
  rw [contains_le (segArea_wireKeys hk) q hmem] at hq
  cases hq

/-- A flag at another bit. -/
theorem State.flag_wireKept (s : State) (fl : Flag) (n : Note) (hk : k ≤ 26) (hb : fl.bit.addr = 0x40050 ∧ 0 < fl.bit.lo ∧ fl.bit.lo < 32)
    (hc : (0x40054 ≤ fl.cnt.addr ∧ fl.cnt.addr ≤ 0x40060) ∧ fl.cnt.lo < 32) : State.WireKept k s (s.flag fl n) := by
  obtain ⟨hbaddr, hblo, hblo32⟩ := hb
  obtain ⟨⟨hcfrom, hcto⟩, hclo⟩ := hc
  have hbit : State.WireKept k s (s.wr fl.bit 1) := .wr s 1 (not_wireKeys hk hblo32 (.inl (by omega)) (.inr (by omega)))
  have hcnt : State.WireKept k (s.wr fl.bit 1) (s.raise fl) := .wr _ _ (not_wireKeys hk hclo (.inl (by omega)) (.inl (by omega)))
  have hanswer : ∀ q ∈ answerKeys, segArea q = false := by decide
  have hpost : ∀ (u : State) (r : Rec), State.WireKept k u (u.post r) := fun u r =>
    .of_quiet (u.quiet_post r) fun q hq => not_wireKeys_of_segArea hk (hanswer q hq)
  exact ((hbit.trans hcnt).trans (hpost _ _)).trans .of_eq

theorem State.senseLoss_wireKept (s : State) (mask : Nat) (hk : k ≤ 26) : State.WireKept k s (s.senseLoss k mask) := by
  unfold State.senseLoss
  extract_lets s1 l _ _ s2
  have h1 : State.WireKept k s s1 := .of_eq
  have h2 : State.WireKept k s1 s2 := .of_eq
  have hloss : State.WireKept k s2 (s2.wr (F.SEG_WIRE_SENSE_LOSS k) 1) :=
    .wr _ _ (not_wireKeys hk (by decide : 20 < 32) (.inr (by decide : 20 ≠ 0 ∧ 20 ≠ 19)) (.inr (by decide : 20 ≠ 0)))
  have hdemand : State.WireKept k (s2.wr (F.SEG_WIRE_SENSE_LOSS k) 1) _ := .wr _ 1 (not_wireKeys_of_segArea hk (by decide : segArea F.SAFE_STATUS_SVW_DEMAND.key = false))
  have hcause := State.LoopKept.wire (State.raiseCause_loopKept ((s2.wr (F.SEG_WIRE_SENSE_LOSS k) 1).wr F.SAFE_STATUS_SVW_DEMAND 1) .senseLoss 3) hk
  have hflag := State.flag_wireKept (((s2.wr (F.SEG_WIRE_SENSE_LOSS k) 1).wr F.SAFE_STATUS_SVW_DEMAND 1).raiseCause .senseLoss 3)
    Fl.SEG_SENSE_EVENT_SENSE_LOSS { system := true, idx := k, stfP := true } hk (by decide) (by decide)
  exact .ite h1 (((h1.trans h2).trans (hloss.trans hdemand)).trans (hcause.trans hflag))

/-- The echo and the tone leave a latched wire as it shows. -/
theorem State.blockEnd_wireKept (s : State) (e : CmpEcho) (hk : k ≤ 26) : State.WireKept k s (s.echoCheck k e).gateTone := by
  have hecho : State.WireKept k s (s.echoCheck k e) := .ite (.refl s) (State.LoopKept.wire (s.raiseCause_loopKept _ _) hk)
  have htone : ∀ u : State, State.WireKept k u u.gateTone := fun u =>
    .ite (.refl u) (.wrB u _ (not_wireKeys hk (by decide) (.inl (by simp only [F.SEG_TONE_TONE_PRESENT]; omega)) (.inl (by decide))))
  exact hecho.trans (htone _)

/-- A wire takes its bit, and its verdict marks its positions (R112). -/
def State.wireMarked (s : State) (k w mask : Nat) : State :=
  (s.wr (F.SEG_WIRE_WIRE_MAP k) (s.rd (F.SEG_WIRE_WIRE_MAP k) + 2 ^ w)).modSeg k fun x => { x with ind := x.ind ||| mask }

/-- The amplitudes of a card in two records, nine in each. -/
def State.ampsRecorded (s : State) (k : Nat) : State :=
  let nine (l : List Int) : List Byte := (l.take 9).flatMap fun a => leBytes 4 (satS 32 a)
  (s.detail true (nine (s.segOf k).amps) .ok true).detail true (nine ((s.segOf k).amps.drop 9)) .ok true

/-- A wire that is latched: marked, with its flag and its records, and the card in pair mode. -/
def State.wireLatched (s : State) (k w mask : Nat) : State :=
  (((s.wireMarked k w mask).flag Fl.SEG_SENSE_EVENT_WIRE_FAULT { system := true, idx := k, stfP := true, detail := [w] }).ampsRecorded k).wr
    (F.SEG_WIRE_PAIR_MODE k) 1

theorem State.wireFault_wire (s : State) {k w : Nat} (mask : Nat) (hclear : s.rd (F.SEG_WIRE_WIRE_MAP k) / 2 ^ w % 2 = 0) :
    s.wireFault k (.wire w) mask = if s.rd (F.SEG_WIRE_WIRE_MAP k) ≠ 0 ∨ ((w = 0 ∨ w = 16) ∧ (s.wireLatched k w mask).sumFault k = true) then
      (s.wireLatched k w mask).senseLoss k mask else s.wireLatched k w mask :=
  if_neg fun h => by rw [hclear] at h; cases h

theorem State.wireLatched_shows (s : State) {w : Nat} (mask : Nat) (hk : k ≤ 26) (hw : w ≤ 16)
    (hclear : s.rd (F.SEG_WIRE_WIRE_MAP k) / 2 ^ w % 2 = 0) :
    (s.wireLatched k w mask).rd (F.SEG_WIRE_WIRE_MAP k) / 2 ^ w % 2 = 1 ∧ (s.wireLatched k w mask).rd (F.SEG_WIRE_PAIR_MODE k) = 1 ∧
      (s.wireLatched k w mask).rd Fl.SEG_SENSE_EVENT_WIRE_FAULT.bit = 1 := by
  have hrecords : ∀ u : State, State.Noted recordKeys u (u.ampsRecorded k) := fun u =>
    (u.detail_noted _ _ _ _ _).trans (State.detail_noted _ _ _ _ _ _)
  have hsame : ∀ f : Field, f.lo < 32 → 0x40000 ≤ f.addr → f.addr < 0x50000 → f.key ≠ (F.SEG_WIRE_PAIR_MODE k).key → (s.wireLatched k w mask).rd f =
      ((s.wireMarked k w mask).flag Fl.SEG_SENSE_EVENT_WIRE_FAULT { system := true, idx := k, stfP := true, detail := [w] }).rd f := fun f hlo hfrom hto hne => by
    refine (State.rd_wr_ne _ _ _ _ hne).trans ((hrecords _).regs f ?_)
    simp only [recordKeys, List.mem_cons, List.not_mem_nil, or_false, not_or, Field.key, F.REC_SEQ_LO_VALUE, F.REC_SEQ_HI_VALUE]
    omega
  refine ⟨?_, State.rd_wr_same _ _ _, ?_⟩
  · have hmap : (s.wireLatched k w mask).rd (F.SEG_WIRE_WIRE_MAP k) = (s.rd (F.SEG_WIRE_WIRE_MAP k) + 2 ^ w) % 2 ^ 17 := by
      refine (hsame _ (by decide : 0 < 32) (by simp only [F.SEG_WIRE_WIRE_MAP]; omega) (by simp only [F.SEG_WIRE_WIRE_MAP]; omega) ?_).trans
        (((State.flag_noted _ _ _).regs _ ?_).trans (State.rd_wr_same s _ _))
      · simp only [Field.key, F.SEG_WIRE_WIRE_MAP, F.SEG_WIRE_PAIR_MODE]; omega
      · simp only [flagKeys, recordKeys, List.cons_append, List.nil_append, List.mem_cons, List.not_mem_nil, or_false, not_or, Field.key,
          F.SEG_WIRE_WIRE_MAP, Fl.SEG_SENSE_EVENT_WIRE_FAULT, F.SEG_SENSE_EVENT_WIRE_FAULT, F.SEG_SENSE_CNT0_COUNT_LO, F.REC_SEQ_LO_VALUE,
          F.REC_SEQ_HI_VALUE]
        omega
    rw [hmap, mod_two_pow_bit (by omega)]
    exact add_two_pow_sets_bit (by omega)
  · refine (hsame _ (by decide) (by decide) (by decide) ?_).trans (State.flag_bit _ _ _)
    simp only [Field.key, Fl.SEG_SENSE_EVENT_WIRE_FAULT, F.SEG_SENSE_EVENT_WIRE_FAULT, F.SEG_WIRE_PAIR_MODE]
    omega

theorem wireBlockEnd_latches {w mk : Nat} (e : CmpEcho) (hk : s.segOk k = true) (hlive : s.segLive k = true) (hblk : (s.segOf k).blkDone = some b)
    (hv : s.blockVerdict b = (.wire w, mk)) (hw : w ≤ 16) (hlast : (s.segOf k).verdict = .wire w)
    (hfull : s.rd F.SEG_WIRE_PARAM_DETECT_BLOCKS ≤ (s.segOf k).vcount + 1) (hclear : s.rd (F.SEG_WIRE_WIRE_MAP k) / 2 ^ w % 2 = 0) :
    ∃ t, exec (.wireBlockEnd k e) s = .next t ∧ t.rd (F.SEG_WIRE_WIRE_MAP k) / 2 ^ w % 2 = 1 ∧ t.rd (F.SEG_WIRE_PAIR_MODE k) = 1 ∧
      t.rd Fl.SEG_SENSE_EVENT_WIRE_FAULT.bit = 1 := by
  obtain ⟨-, h26⟩ := State.segOk_bounds hk
  let s1 : State := s.setSeg k ((s.segOf k).repeated b 0)
  obtain ⟨hmap, hpair, hflag⟩ := State.wireLatched_shows s1 mk h26 hw hclear
  have hblock : s.wireBlock k b = s1.wireFault k (.wire w) mk := (State.wireBlock_repeats hv hlast).trans (if_pos hfull)
  have hloss : State.WireKept k (s1.wireLatched k w mk) (s.wireBlock k b) := by
    rw [hblock, s1.wireFault_wire mk hclear]
    exact .ite (State.senseLoss_wireKept _ mk h26) (.refl _)
  have hkept := hloss.trans (State.blockEnd_wireKept _ e h26)
  have hshown : ∀ f : Field, f.key ∈ wireKeys k → _ = (s1.wireLatched k w mk).rd f := fun f hf => hkept.regs f (List.contains_iff_mem.2 hf)
  refine ⟨_, exec_wireBlockEnd e hk hlive hblk, ?_, ?_, ?_⟩
  · rw [hshown _ (by simp [wireKeys])]; exact hmap
  · rw [hshown _ (by simp [wireKeys])]; exact hpair
  · rw [hshown _ (by simp [wireKeys])]; exact hflag

end

end Sys2Proof.Machine
end

section
/-! PROOFS. Comparators, keep-alive and the fault loop (R118–R129, R297). -/

namespace Sys2Proof.Machine

-- One proof after another: a thread for each would not fit the memory of the check.
set_option Elab.async false

/-! ### The deglitch count (R119) -/

section
variable {s : State} {k j us gap : Nat} {uv : Bool}

theorem comparatorAssert_counts (hworks : s.cmpWorks k j uv = true)
    (hnew : ((s.segOf k).counts.any fun p => p.1 == cmpBit j uv) = false ∨ 50 ≤ gap) :
    exec (.comparatorAssert k j uv us gap) s = .next (s.setSeg k { s.segOf k with
      counts := dropCount (s.segOf k).counts (cmpBit j uv) ++ [(cmpBit j uv, us)] }) := by
  have hstart : ¬((((s.segOf k).counts.any fun p => p.1 == cmpBit j uv) && decide (gap < 50)) = true) := by
    rcases hnew with hnone | hgap
    · simp [hnone]
    · simp [Nat.not_lt.2 hgap]
  exact congrArg Host.Outcome.next ((if_neg (by simp [hworks])).trans (if_neg hstart))

theorem comparatorAssert_goesOn (hworks : s.cmpWorks k j uv = true) (hruns : ((s.segOf k).counts.any fun p => p.1 == cmpBit j uv) = true)
    (hgap : gap < 50) : exec (.comparatorAssert k j uv us gap) s = .next s :=
  congrArg Host.Outcome.next ((if_neg (by simp [hworks])).trans (if_pos (by rw [hruns]; simp [hgap])))

theorem cmpTrip_idle (hnone : ((s.segOf k).counts.any fun p => p.1 == cmpBit j uv) = false) : exec (.cmpTrip k j uv us) s = .next s := by
  have hfind : ((s.segOf k).counts.find? fun p => p.1 == cmpBit j uv) = none :=
    List.find?_eq_none.2 fun p hp h => by
      rw [List.any_eq_true.2 ⟨p, hp, h⟩] at hnone
      cases hnone
  show execCmpTrip k j uv us s = _
  simp only [execCmpTrip, hfind, ite_self]

/-- The latch register of a side. -/
def cmpLatch (k : Nat) (uv : Bool) : Field := if uv then F.SEG_CMP_UV_LATCH k else F.SEG_CMP_OV_LATCH k

section
variable {start : Nat} (hworks : s.cmpWorks k j uv = true)
  (hfind : ((s.segOf k).counts.find? fun p => p.1 == cmpBit j uv) = some (cmpBit j uv, start))
include hworks hfind

theorem exec_cmpTrip : exec (.cmpTrip k j uv us) s = .next (if us < start + 1000 * s.rd F.SEG_CMP_PARAM_DEGLITCH_MS then s else
    ((((s.setSeg k { s.segOf k with counts := dropCount (s.segOf k).counts (cmpBit j uv) }).wr (cmpLatch k uv)
      (s.rd (cmpLatch k uv) ||| 2 ^ (j - 1))).gateTone).flag Fl.SEG_SENSE_EVENT_CMP_TRIP
        { idx := k, stfP := true, detail := [j, if uv then 1 else 0] })) := by
  show execCmpTrip k j uv us s = _
  simp only [execCmpTrip, hworks, hfind, if_true]
  rfl

theorem cmpTrip_waits (hus : us < start + 1000 * s.rd F.SEG_CMP_PARAM_DEGLITCH_MS) : exec (.cmpTrip k j uv us) s = .next s :=
  (exec_cmpTrip hworks hfind).trans (congrArg Host.Outcome.next (if_pos hus))

theorem cmpTrip_latches (hus : start + 1000 * s.rd F.SEG_CMP_PARAM_DEGLITCH_MS ≤ us) : ∃ t, exec (.cmpTrip k j uv us) s = .next t ∧
    t.rd Fl.SEG_SENSE_EVENT_CMP_TRIP.bit = 1 ∧ t.rd (cmpLatch k uv) / 2 ^ (j - 1) % 2 = 1 := by
  obtain ⟨hk, hj⟩ : k ≤ 26 ∧ j ≤ 16 := by
    simp only [State.cmpWorks, posOk, Bool.and_eq_true, decide_eq_true_eq] at hworks
    obtain ⟨⟨⟨⟨hok, -⟩, -⟩, -, hj⟩, -⟩ := hworks
    exact ⟨(State.segOk_bounds hok).2, hj⟩
  refine ⟨_, (exec_cmpTrip hworks hfind).trans (congrArg Host.Outcome.next (if_neg (Nat.not_lt.2 hus))), State.flag_bit _ _ _, ?_⟩
  have hlatchKey : 0x40400 * 32 ≤ (cmpLatch k uv).key ∧ (cmpLatch k uv).key < 0x40500 * 32 := by
    cases uv <;> simp only [cmpLatch, Field.key, F.SEG_CMP_UV_LATCH, F.SEG_CMP_OV_LATCH, if_true, Bool.false_eq_true, if_false] <;> omega
  have hflag : (cmpLatch k uv).key ∉ flagKeys Fl.SEG_SENSE_EVENT_CMP_TRIP := fun hm => by
    have hnone : ∀ q ∈ flagKeys Fl.SEG_SENSE_EVENT_CMP_TRIP, ¬(0x40400 * 32 ≤ q ∧ q < 0x40500 * 32) := by decide
    exact hnone _ hm hlatchKey
  have hring : ringKey (cmpLatch k uv).key = true := by cases uv <;> exact ringKey_row hk
  have hwidth : (cmpLatch k uv).width = 16 := by cases uv <;> rfl
  rw [(State.flag_noted _ _ _).regs _ hflag, (State.gateTone_kept _).regs _ hring, State.rd_wr_same, hwidth]
  exact or_two_pow_mod_sets_bit _ (by omega)

end

end

/-! ### The comparator test (R46, R122) -/

/-- A test of the comparators of the next position fails. -/
def State.testFails (s : State) (k : Nat) (ov uv : Nat × Nat) : Bool :=
  (s.testRuns k (s.segOf k).testPos false && (decide (100 < ov.1) || decide (100 < ov.2))) ||
  (s.testRuns k (s.segOf k).testPos true && (decide (100 < uv.1) || decide (100 < uv.2)))

/-- A card after the test of a position. -/
def Seg.tested (x : Seg) (counts : List (Nat × Nat)) (fails : Bool) : Seg :=
  { x with testPos := if 16 ≤ x.testPos then 1 else x.testPos + 1, counts := counts, selftest := x.selftest || fails }

theorem ite_even {c : Prop} [Decidable c] {v : Nat} (hv : v % 2 = 0) : (if c then v else 0) % 2 = 0 := by
  split
  · exact hv
  · rfl

theorem odd_add_even {a b : Nat} (ha : a % 2 = 1) (hb : b % 2 = 0) : (a + b) % 2 = 1 := by omega

/-- A card's self-test fault blocks READY (R46). -/
theorem State.readyBits_selftest (s : State) {k : Nat} (hk : s.segOk k = true) (hself : (s.segOf k).selftest = true) : s.readyBits % 2 = 1 := by
  have hany : (s.segList.any fun k => (s.segOf k).selftest) = true := List.any_eq_true.2 ⟨k, (s.mem_segList k).2 hk, hself⟩
  unfold State.readyBits
  simp only [hany, Bool.or_true, if_true]
  exact odd_add_even (odd_add_even (odd_add_even (odd_add_even (odd_add_even (odd_add_even (odd_add_even rfl
    (ite_even rfl)) (ite_even rfl)) (ite_even rfl)) (ite_even rfl)) (ite_even rfl)) (ite_even rfl)) (ite_even rfl)

section
variable {s : State} {k : Nat} {ov uv : Nat × Nat} (hk : s.segOk k = true) (hp : (s.segOf k).present = true) (hb : (s.segOf k).blank = false)
  (haux : s.onAux k = true)
include hk hp hb haux

theorem exec_comparatorTest : ∃ c, exec (.comparatorTest k ov uv) s = .next
    (let s1 := s.setSeg k ((s.segOf k).tested c (s.testFails k ov uv))
     if s.testFails k ov uv then
      (s1.gateTone.flag Fl.SEG_SENSE_EVENT_CMP_TEST_FAIL { idx := k, stfP := true, detail := [(s.segOf k).testPos] }).setReady else s1) :=
  ⟨_, congrArg Host.Outcome.next (if_neg (by simp [hk, hp, hb, haux]))⟩

theorem comparatorTest_judges : ∃ t, exec (.comparatorTest k ov uv) s = .next t ∧
    (t.segOf k).testPos = (if 16 ≤ (s.segOf k).testPos then 1 else (s.segOf k).testPos + 1) ∧
    (ov.1 ≤ 100 → ov.2 ≤ 100 → uv.1 ≤ 100 → uv.2 ≤ 100 → (t.segOf k).selftest = (s.segOf k).selftest) ∧
    (s.testRuns k (s.segOf k).testPos false = true → 100 < ov.1 ∨ 100 < ov.2 →
      (t.segOf k).selftest = true ∧ t.rd Fl.SEG_SENSE_EVENT_CMP_TEST_FAIL.bit = 1 ∧ t.rd F.SYS_MODE_READY_BLOCK % 2 = 1) := by
  obtain ⟨c, hexec⟩ := exec_comparatorTest (ov := ov) (uv := uv) hk hp hb haux
  let s1 : State := s.setSeg k ((s.segOf k).tested c (s.testFails k ov uv))
  let s2 : State := s1.gateTone.flag Fl.SEG_SENSE_EVENT_CMP_TEST_FAIL { idx := k, stfP := true, detail := [(s.segOf k).testPos] }
  have hseg2 : s2.segOf k = (s.segOf k).tested c (s.testFails k ov uv) :=
    ((State.segOf_congr (State.flag_seg _ _ _) k).trans (State.segOf_congr s1.gateTone_seg k)).trans (State.segOf_setSeg s k _)
  have hseg : (if s.testFails k ov uv then s2.setReady else s1).segOf k = (s.segOf k).tested c (s.testFails k ov uv) := by
    split
    · exact hseg2
    · exact State.segOf_setSeg s k _
  refine ⟨_, hexec, congrArg Seg.testPos hseg, fun ho1 ho2 hu1 hu2 => (congrArg Seg.selftest hseg).trans ?_, fun hruns hlate => ?_⟩
  · have hpass : s.testFails k ov uv = false := by
      simp [State.testFails, Nat.not_lt.2 ho1, Nat.not_lt.2 ho2, Nat.not_lt.2 hu1, Nat.not_lt.2 hu2]
    show ((s.segOf k).selftest || s.testFails k ov uv) = _
    rw [hpass, Bool.or_false]
  · have hfail : s.testFails k ov uv = true := by
      simp [State.testFails, hruns, hlate]
    have hself : (s2.segOf k).selftest = true := by
      rw [hseg2, hfail]
      exact Bool.or_true _
    have hok : s2.segOk k = true := by
      have hfitted : s2.rd F.SYS_ID_SEG_FITTED = s.rd F.SYS_ID_SEG_FITTED :=
        ((State.flag_noted _ _ _).regs _ (by decide)).trans (s1.gateTone_kept.regs _ (by decide))
      unfold State.segOk State.segs
      rw [hfitted]
      exact hk
    have hready : s2.setReady.rd F.SYS_MODE_READY_BLOCK = s2.readyBits % 2 ^ 8 := State.rd_wr_same _ _ _
    have hodd : s2.setReady.rd F.SYS_MODE_READY_BLOCK % 2 = 1 := by
      rw [hready, Nat.mod_mod_of_dvd _ (by decide)]
      exact s2.readyBits_selftest hok hself
    have hbit : s2.setReady.rd Fl.SEG_SENSE_EVENT_CMP_TEST_FAIL.bit = 1 :=
      (State.rd_wr_ne _ _ _ _ (by decide)).trans (State.flag_bit _ _ _)
    have ht : (if s.testFails k ov uv then s2.setReady else s1) = s2.setReady := if_pos hfail
    exact ht ▸ ⟨hself, hbit, hodd⟩

end

/-! ### Keep-alive (R123, R129) -/

theorem State.gateTone_rd (s : State) {f : Field} (hf : f.key ≠ F.SEG_TONE_TONE_PRESENT.key) : s.gateTone.rd f = s.rd f := by
  unfold State.gateTone
  split
  · rfl
  · exact State.rd_wrB_ne _ _ _ _ hf

theorem keepaliveLow_reports {s : State} {k : Nat} (hk : s.segOk k = true) (haux : s.onAux k = false) (hmode : s.mode ≠ mSHELF)
    (hup : s.pwr.phase = .up) : ∃ t, exec (.keepaliveLow k) s = .next t ∧ (t.segOf k).keepLow = true ∧
      t.rd Fl.SEG_SENSE_EVENT_KEEPALIVE_LOW.bit = 1 := by
  let s0 : State := s.modSeg k fun x => { x with keepLow := true }
  have hmode1 : s0.gateTone.mode = s.mode := s0.gateTone_rd (by decide)
  have hpwr1 : s0.gateTone.pwr = s.pwr := by
    unfold State.gateTone
    split <;> rfl
  have hawake : ¬(s0.gateTone.mode = mSHELF ∨ s0.gateTone.pwr.phase ≠ .up) := by
    rw [hmode1, hpwr1]
    simp [hmode, hup]
  have hseg : (s0.gateTone.flag Fl.SEG_SENSE_EVENT_KEEPALIVE_LOW { idx := k, stfP := true }).segOf k = { s.segOf k with keepLow := true } :=
    ((State.segOf_congr (State.flag_seg _ _ _) k).trans (State.segOf_congr s0.gateTone_seg k)).trans (State.segOf_modSeg s k _)
  exact ⟨_, congrArg Host.Outcome.next ((if_neg (by simp [hk, haux])).trans (if_neg hawake)), congrArg Seg.keepLow hseg, State.flag_bit _ _ _⟩

/-! ### The tone (R124, R125, R297) -/

/-- A tone lost: TONE is latched, TONE_PRESENT reads 0, and the receiver holds what it held. -/
theorem State.toneLost_spec (s : State) :
    s.toneLost.rd F.SEG_TONE_TONE_PRESENT = 0 ∧ s.toneLost.hasCause .tone = true ∧ s.toneLost.loopView = s.loopView := by
  unfold State.toneLost
  extract_lets s2 s3 s4
  have hcause : s2.hasCause .tone = true := ((s.wr F.SEG_TONE_TONE_PRESENT 0).raiseCause_lockedBy (.inl (by decide)) 2).latched.1
  have h2 : (s.wr F.SEG_TONE_TONE_PRESENT 0).LoopKept s2 := State.raiseCause_loopKept _ _ _
  have h3 : s2.LoopKept s3 ∧ s2.RingKept s3 :=
    ⟨.ite (s2.raiseCause_loopKept _ _) (.refl s2), .ite (s2.raiseCause_kept _ _) (.refl s2)⟩
  have h4 : s3.LoopKept s4 ∧ s3.RingKept s4 :=
    ⟨.ite (s3.raiseCause_loopKept _ _) (.refl s3), .ite (s3.raiseCause_kept _ _) (.refl s3)⟩
  have hloop := (h2.trans h3.1).trans h4.1
  have hflag := s4.flag_noted Fl.SEG_SENSE_EVENT_TONE_LOST { system := true, stfP := true }
  refine ⟨(hflag.regs _ (by decide)).trans ((hloop.regs _ (by decide)).trans (State.rd_wr_same _ _ _)),
    (State.flag_kept s4 _ _).causes _ ((h3.2.trans h4.2).causes _ hcause), ?_⟩
  have hseg : (s4.flag Fl.SEG_SENSE_EVENT_TONE_LOST { system := true, stfP := true }).loopView = s4.loopView :=
    congrArg (fun x : SegState => { x with segs := [] }) (State.flag_seg _ _ _)
  exact hseg.trans hloop.view

theorem State.loopOpen_eq_loopView (s : State) : s.seg.loopOpen = s.loopView.loopOpen := rfl

theorem State.deadline_eq_loopView (s : State) : s.seg.deadline = s.loopView.deadline := rfl

theorem State.toneLost_loopOpen (s : State) : s.toneLost.seg.loopOpen = s.seg.loopOpen := by
  rw [s.toneLost.loopOpen_eq_loopView, s.toneLost_spec.2.2, ← s.loopOpen_eq_loopView]

theorem State.toneLost_deadline (s : State) : s.toneLost.seg.deadline = s.seg.deadline := by
  rw [s.toneLost.deadline_eq_loopView, s.toneLost_spec.2.2, ← s.deadline_eq_loopView]

theorem toneArmed_arms (s : State) :
    (s.toneThrough = true → exec .toneArmed s = .next { s.wr F.SEG_TONE_TONE_PRESENT 1 with seg.armed := true, seg.loopOpen := false }) ∧
    (s.toneThrough = false → exec .toneArmed s = .next s) :=
  ⟨fun h => congrArg Host.Outcome.next (if_pos h), fun h => congrArg Host.Outcome.next (if_neg (by simp [h]))⟩

theorem toneLost_declares (s : State) (harmed : s.seg.armed = true) : ∃ t, exec .toneLost s = .next t ∧ t.rd F.SEG_TONE_TONE_PRESENT = 0 ∧
    t.hasCause .tone = true ∧ t.seg.loopOpen = s.toneThrough := by
  obtain ⟨htone, hcause, -⟩ := State.toneLost_spec { s with seg.loopOpen := s.toneThrough }
  exact ⟨_, congrArg Host.Outcome.next (if_pos harmed), htone, hcause, State.toneLost_loopOpen _⟩

theorem toneLost_unarmed (s : State) (harmed : s.seg.armed = false) : exec .toneLost s = .next s :=
  congrArg Host.Outcome.next (if_neg (by simp [harmed]))

theorem toneArmingDeadline_past (s : State) (rel : List (Nat × Nat)) (hpast : s.seg.deadline = true) :
    exec (.toneArmingDeadline rel) s = .next s := congrArg Host.Outcome.next (if_pos hpast)

section
variable {s : State} (rel : List (Nat × Nat)) (hdue : s.seg.deadline = false) (hcheck : s.seg.latchCheck = false)
include hdue hcheck

/-- The deadline without a latch check to make. -/
theorem exec_toneArmingDeadline : exec (.toneArmingDeadline rel) s =
    .next (if s.seg.armed then { s.gateTone with seg.deadline := true } else State.toneLost { s.gateTone with seg.deadline := true }) := by
  have hnone : State.latchCheck { s with seg.deadline := true } rel = { s with seg.deadline := true } := if_pos (by simp [hcheck])
  have htone : State.gateTone { s with seg.deadline := true } = { s.gateTone with seg.deadline := true } := by
    show (if s.isOn F.SEG_TONE_SHELF_BURST then _ else _) = ({ (if s.isOn F.SEG_TONE_SHELF_BURST then _ else _ : State) with seg.deadline := true } : State)
    split <;> rfl
  have harmed : ({ s.gateTone with seg.deadline := true } : State).seg.armed = s.seg.armed := 
    show s.gateTone.seg.armed = s.seg.armed from congrArg SegState.armed s.gateTone_seg
  show execToneArmingDeadline rel s = _
  simp only [execToneArmingDeadline, hdue, hnone, htone, Bool.false_eq_true, if_false]
  rw [← harmed]

theorem toneArmingDeadline_armed (harmed : s.seg.armed = true) :
    exec (.toneArmingDeadline rel) s = .next { s.gateTone with seg.deadline := true } :=
  (exec_toneArmingDeadline rel hdue hcheck).trans (congrArg Host.Outcome.next (if_pos harmed))

theorem toneArmingDeadline_missed (harmed : s.seg.armed = false) : ∃ t, exec (.toneArmingDeadline rel) s = .next t ∧ t.seg.deadline = true ∧
    t.hasCause .tone = true ∧ t.rd F.SEG_TONE_TONE_PRESENT = 0 := by
  obtain ⟨htone, hcause, -⟩ := State.toneLost_spec { s.gateTone with seg.deadline := true }
  exact ⟨_, (exec_toneArmingDeadline rel hdue hcheck).trans (congrArg Host.Outcome.next (if_neg (by simp [harmed]))),
    State.toneLost_deadline _, hcause, htone⟩

end

/-- Settles O23: each clause is its event's lemma. -/
theorem senseWiresComparatorsAndTone : Obligations.SenseWiresComparatorsAndTone := by
  unfold Obligations.SenseWiresComparatorsAndTone
  exact ⟨fun s k m hk hlive hfree hshadow hcal hm =>
      ⟨spareDwellEnd_refPassed hk hlive hfree hshadow hcal hm, spareDwellEnd_refFailed hk hlive hfree hshadow hcal hm,
        fun j hrot h1 _ hin => spareDwellEnd_cellPassed hk hlive hfree hshadow hcal hm hrot h1 hin,
        fun j hrot h1 _ hout hbefore hauto => spareDwellEnd_cellDrifted hk hlive hfree hshadow hcal hm hrot h1 hout hbefore hauto⟩,
    fun s k j fail hk hlive hfree hshadow =>
      ⟨spareDwellEnd_agrees hk hlive hfree fail hshadow, spareDwellEnd_differs hk hlive hfree fail hshadow⟩,
    fun s k l m fail hk hlive hfree hshadow hcal hlen hm => exec_spareDwellEnd_cal hk hlive hfree fail hshadow hcal hlen hm,
    fun s k e hblk => wireBlockEnd_partial e hblk,
    fun s k mk b hk hlive hblk hv hlast => wireBlockEnd_clean hk hlive hblk hv hlast,
    fun s k w mk b e hk hlive hblk hv hw hlast hfull hclear => wireBlockEnd_latches e hk hlive hblk hv hw hlast hfull hclear,
    fun th mm j x y d hth h1 h15 hx hy hd => verdictOf_neighbours hth h1 h15 hx hy hd,
    fun s k j us gap uv hworks => ⟨comparatorAssert_counts hworks, comparatorAssert_goesOn hworks⟩,
    fun s k j us uv hnone => cmpTrip_idle hnone,
    fun s k j us start uv hworks hfind => ⟨cmpTrip_waits hworks hfind, cmpTrip_latches hworks hfind⟩,
    fun s k ov uv hk hp hb haux => comparatorTest_judges hk hp hb haux,
    fun s k hk haux hmode hup => keepaliveLow_reports hk haux hmode hup,
    toneArmed_arms, toneLost_declares, toneLost_unarmed, toneArmingDeadline_past,
    fun s rel hdue hcheck => ⟨toneArmingDeadline_armed rel hdue hcheck, toneArmingDeadline_missed rel hdue hcheck⟩⟩

end Sys2Proof.Machine
end

section
/-! PROOFS. Balancing: what leaves it alone, what the end of a campaign shows, and the commands (R139, R147–R150). -/

namespace Sys2Proof.Machine

-- One proof after another: a thread for each would not fit the memory of the check.
set_option Elab.async false

/-! ### The frame -/

/-- The registers of balancing. -/
def balArea (q : Nat) : Bool := decide (0x50000 * 32 ≤ q) && decide (q < 0x51000 * 32)

/-- `t` comes from `s` by what leaves balancing and its registers alone. -/
abbrev State.BalKept (s t : State) : Prop := State.Stands balArea State.bal s t

theorem State.setFloor_balKept (s : State) : s.BalKept s.setFloor := .wr s _

theorem State.finish_balKept (s : State) (op key : Nat) (st : Status) (res : List Int) : s.BalKept (s.finish op key st res) := by
  unfold State.finish
  split
  · exact .refl s
  · exact .trans .of_eq (.of_quiet (State.quiet_complete _ _ _ _ _ _ _))

/-- A flag with its record moves registers only. -/
theorem State.flag_bal (s : State) (fl : Flag) (n : Note) : (s.flag fl n).bal = s.bal := by rw [(s.flag_noted fl n).same]

theorem State.balCard_congr {s t : State} (h : t.bal = s.bal) (k : Nat) : t.balCard k = s.balCard k :=
  congrArg (fun b : BalState => Tbl.get ({} : BalCard) b.cards k) h

theorem State.flag_balCard (s : State) (fl : Flag) (n : Note) (k : Nat) : (s.flag fl n).balCard k = s.balCard k :=
  State.balCard_congr (s.flag_bal fl n) k

/-! ### Folds over cards and wires -/

/-- What one member of a list brings about and every member keeps holds after the list. -/
theorem State.foldl_establishes {β : Type} {P : State → Prop} {f : State → β → State} {l : List β} {b : β} (hb : b ∈ l)
    (hset : ∀ s, P (f s b)) (hkeep : ∀ s c, P s → P (f s c)) (s : State) : P (l.foldl f s) := by
  obtain ⟨before, after, rfl⟩ := List.append_of_mem hb
  rw [List.foldl_append, List.foldl_cons]
  exact List.foldlRecOn after f (hset _) fun s hs c _ => hkeep s c hs

/-! ### The end of a campaign (R148, R150) -/

theorem State.endCampaign_idle {s : State} (st : Status) (h : s.bal.campaign = none) : s.endCampaign st = s := by
  unfold State.endCampaign
  rw [h]

theorem State.endCampaign_ends {s : State} {c : Campaign} (st : Status) (h : s.bal.campaign = some c) :
    (s.endCampaign st).bal.campaign = none ∧ (s.endCampaign st).rd Fl.BAL_EVENT_CAMPAIGN_END.bit = 1 ∧
      (s.endCampaign st).rd F.BAL_STATUS_CAMPAIGN_ACTIVE = 0 := by
  let s1 : State := ({ s.zeroDuties with bal.campaign := none } : State).wrs [(F.BAL_STATUS_CAMPAIGN_ACTIVE, 0), (F.BAL_STATUS_KIND, 0)]
  let s2 : State := s1.flag Fl.BAL_EVENT_CAMPAIGN_END { status := st }
  have hend : s.endCampaign st = (s2.finish 0x0302 0 st).setFloor := by
    unfold State.endCampaign
    rw [h]
  have hnoted := s1.flag_noted Fl.BAL_EVENT_CAMPAIGN_END { status := st }
  have hkept : s2.BalKept (s.endCampaign st) := hend ▸ (s2.finish_balKept _ _ _ _).trans (State.setFloor_balKept _)
  refine ⟨congrArg BalState.campaign (hkept.view.trans (s1.flag_bal _ _)), (hkept.regs _ (by decide)).trans (s1.flag_bit _ _),
    (hkept.regs _ (by decide)).trans ((hnoted.regs _ (by decide)).trans ?_)⟩
  exact (State.rd_wrs_get (l := [(F.BAL_STATUS_CAMPAIGN_ACTIVE, 0), (F.BAL_STATUS_KIND, 0)]) _ 0).trans (Nat.zero_mod _)

theorem State.endCampaign_campaign (s : State) (st : Status) : (s.endCampaign st).bal.campaign = none := by
  cases h : s.bal.campaign with
  | none => rw [State.endCampaign_idle st h, h]
  | some c => exact (State.endCampaign_ends st h).1

/-! ### Learned wires (R147) -/

/-- One wire of a card counts as unlearned. -/
def State.unlearnWire (s : State) (k w : Nat) : State :=
  let s1 : State := { s with bal.rw := Tbl.mod {} s.bal.rw (32 * k + w) fun r => { r with est := [], count := 0 } }
  if w % 2 = 0 then s1.wr (F.BAL_RW_RW_LO k (w / 2)) 0xFFFF else s1.wr (F.BAL_RW_RW_HI k (w / 2)) 0xFFFF

theorem State.unlearn_eq (s : State) (k : Nat) : s.unlearn k = (numbersFrom 0 17).foldl (fun s w => s.unlearnWire k w) s := rfl

theorem State.unlearnWire_rw (s : State) (k w : Nat) : (s.unlearnWire k w).bal.rw =
    Tbl.put s.bal.rw (32 * k + w) { s.rwLearn k w with est := [], count := 0 } := by
  unfold State.unlearnWire
  extract_lets s1
  split <;> rfl

theorem State.unlearnWire_same (s : State) (k w : Nat) : (s.unlearnWire k w).learned k w = false := by
  unfold State.learned State.rwLearn
  rw [State.unlearnWire_rw, Tbl.get_put_same]
  rfl

/-- No wire becomes learned by it. -/
theorem State.unlearnWire_keeps (s : State) {i v : Nat} (k w : Nat) (h : s.learned i v = false) :
    (s.unlearnWire k w).learned i v = false := by
  unfold State.learned State.rwLearn at *
  rw [State.unlearnWire_rw]
  rcases eq_or_ne (32 * i + v) (32 * k + w) with heq | hne
  · rw [heq, Tbl.get_put_same]; rfl
  · rwa [Tbl.get_put_ne _ _ _ _ _ hne]

theorem State.unlearn_same (s : State) (k : Nat) {w : Nat} (hw : w ≤ 16) : (s.unlearn k).learned k w = false :=
  State.foldl_establishes (P := fun t => t.learned k w = false) (f := fun t w => t.unlearnWire k w) ((mem_numbersFrom 0 17 w).2 (by omega))
    (fun t => t.unlearnWire_same k w) (fun t v ht => t.unlearnWire_keeps k v ht) s

theorem State.unlearn_keeps (s : State) {i v : Nat} (k : Nat) (h : s.learned i v = false) : (s.unlearn k).learned i v = false := by
  rw [State.unlearn_eq]
  exact List.foldlRecOn (motive := fun t : State => t.learned i v = false) (numbersFrom 0 17) _ h fun t ht w _ => t.unlearnWire_keeps k w ht

/-- Every wire of the cards listed is unlearned. -/
theorem State.foldl_unlearn (s : State) {l : List Nat} {k w : Nat} (hk : k ∈ l) (hw : w ≤ 16) :
    (l.foldl (fun s k => s.unlearn k) s).learned k w = false :=
  State.foldl_establishes (P := fun t => t.learned k w = false) hk (fun t => t.unlearn_same k hw) (fun t q ht => t.unlearn_keeps q ht) s

theorem State.rwOf_unlearned {s : State} {k w : Nat} (h : s.learned k w = false) : s.rwOf k w = none :=
  if_neg (by simp [h])

theorem numbersFrom_getElem? (a n i : Nat) (hi : i < n) : (numbersFrom a n)[i]? = some (a + i) := by
  induction n generalizing a i with
  | zero => omega
  | succ n ih =>
    cases i with
    | zero => rfl
    | succ i =>
      rw [numbersFrom, List.getElem?_cons_succ, ih _ _ (by omega)]
      congr 1
      omega

/-! ### Commands (R149) -/

section
variable {s : State} {h : Hdr} {k : Nat}

theorem balSetMode_keeps {m : Nat} (a : s.Allowed 0x0301 rOperator h) (hm : m ≤ 1) :
    ∃ t, exec (.balSetMode h m) s = .next t ∧ (s.wrKeep F.BAL_CFG_MODE m).Done t 0x0301 h .ok [] :=
  ⟨_, congrArg Host.Outcome.next (State.command_answers a (by simpa using hm) rfl), State.answer_done _ _ _ _ _ _⟩

section
variable {kind target db limit : Nat} (h1 : 1 ≤ kind) (h3 : kind ≤ 3) (htarget : kind = 2 → target ≤ 10000) (hlimit : limit ≤ 1000)
include h1 h3 htarget hlimit

/-- The arguments of BAL_CAMPAIGN_START pass its own check. -/
theorem campaignArgs_pass : (decide (kind < 1) || decide (3 < kind) || (kind == 2 && decide (10000 < target)) || decide (1000 < limit)) = false := by
  have hne : kind ≠ 0 := by omega
  simpa [hne, h3, hlimit] using htarget

theorem balCampaignStart_starts (a : s.Allowed 0x0302 (if kind = 3 then rMaintainer else rOperator) h) (hfree : s.bal.campaign = none) :
    ∃ t, exec (.balCampaignStart h kind target db limit) s = .next t ∧
      (s.startCampaign { kind := kind, target := target, deadband := if db = 0 then 50 else db, limit := 3600 * limit }).Accepted t 0x0302 h 0 [] :=
  ⟨_, congrArg Host.Outcome.next (State.command_answers a (by simpa using campaignArgs_pass h1 h3 htarget hlimit) (if_neg (by simp [hfree]))),
    State.answer_accept _ _ _ _ _ _ _⟩

theorem balCampaignStart_busy (a : s.Allowed 0x0302 (if kind = 3 then rMaintainer else rOperator) h) (hruns : s.bal.campaign ≠ none) :
    exec (.balCampaignStart h kind target db limit) s = .next (s.refuseCmd 0x0302 (if kind = 3 then rMaintainer else rOperator) h .busy) :=
  congrArg Host.Outcome.next (State.command_answers (r := .refuse .busy) a (by simpa using campaignArgs_pass h1 h3 htarget hlimit)
    (if_pos (by simpa [Option.isSome_iff_ne_none] using hruns)))

end

theorem balCampaignStop_ends (a : s.Allowed 0x0303 rOperator h) :
    ∃ t, exec (.balCampaignStop h) s = .next t ∧ (s.endCampaign .aborted).Done t 0x0303 h .ok [] ∧ t.bal.campaign = none := by
  have hdone := State.answer_done s (s.endCampaign .aborted) 0x0303 rOperator h []
  have hrest := hdone.1.rest
  refine ⟨_, congrArg Host.Outcome.next (State.command_answers a nofun rfl), hdone, ?_⟩
  rw [hrest]
  exact s.endCampaign_campaign .aborted

theorem balCampaignStop_idle (a : s.Allowed 0x0303 rOperator h) (hnone : s.bal.campaign = none) :
    ∃ t, exec (.balCampaignStop h) s = .next t ∧ s.Done t 0x0303 h .ok [] := by
  obtain ⟨t, hexec, hdone, -⟩ := balCampaignStop_ends a
  exact ⟨t, hexec, State.endCampaign_idle .aborted hnone ▸ hdone⟩

section
variable {cell duty : Nat} (a : s.Allowed 0x0304 rMaintainer h) (hcell : s.cellOk cell = true) (hduty : duty ≤ 64)
include a hcell hduty

theorem balSetDuty_sets {c : Campaign} (hc : s.bal.campaign = some c) (hkind : c.kind = 3) :
    ∃ t, exec (.balSetDuty h cell duty) s = .next t ∧ ({ s with bal.want := Tbl.put s.bal.want cell duty } : State).Done t 0x0304 h .ok [] ∧
      Tbl.get 0 t.bal.want cell = duty := by
  have hdone := State.answer_done s { s with bal.want := Tbl.put s.bal.want cell duty } 0x0304 rMaintainer h []
  have hrest := hdone.1.rest
  refine ⟨_, congrArg Host.Outcome.next (State.command_answers a (by simpa [hcell] using hduty) ?_), hdone, ?_⟩
  · simp only [hc, if_pos hkind]
  · rw [hrest]
    exact Tbl.get_put_same _ _ _ _

/-- Without a manual campaign no duty is set by hand. -/
theorem balSetDuty_refused (hc : ∀ c, s.bal.campaign = some c → c.kind ≠ 3) :
    exec (.balSetDuty h cell duty) s = .next (s.refuseCmd 0x0304 rMaintainer h .state) := by
  refine congrArg Host.Outcome.next (State.command_answers (r := .refuse .state) a (by simpa [hcell] using hduty) ?_)
  cases hcamp : s.bal.campaign with
  | none => rfl
  | some c => exact if_neg (hc c hcamp)

end

theorem balStatus_tells (a : s.Allowed 0x0305 rObserver h) (hk : s.segArgBad k = false) :
    ∃ t, exec (.balStatus h k) s = .next t ∧ s.Told t 0x0305 h (s.words (0x50004 :: (s.segArg k).flatMap fun k =>
      [0x50100 + 16 * (k - 1), 0x50104 + 16 * (k - 1), 0x50108 + 16 * (k - 1), 0x5010C + 16 * (k - 1), 0x50800 + 4 * (k - 1)])) :=
  ⟨_, congrArg Host.Outcome.next (State.command_answers a (by simp [hk]) rfl), State.answer_ret _ _ _ _ _ _⟩

theorem balLearnRw_unlearns (a : s.Allowed 0x0306 rMaintainer h) (hk : s.segArgBad k = false) (hfree : s.opOf 0x0306 k = none) :
    ∃ t, exec (.balLearnRw h k) s = .next t ∧ t.rd F.BAL_STATUS_LEARNING = 1 ∧
      (((s.segArg k).foldl (fun s k => s.unlearn k) s).wr F.BAL_STATUS_LEARNING 1).Accepted t 0x0306 h k [] ∧
      ∀ i ∈ s.segArg k, ∀ w, w ≤ 16 → t.learned i w = false := by
  let s1 : State := (s.segArg k).foldl (fun s k => s.unlearn k) s
  have hacc := State.answer_accept s (s1.wr F.BAL_STATUS_LEARNING 1) 0x0306 rMaintainer h k []
  have hrest := hacc.1.rest
  refine ⟨_, congrArg Host.Outcome.next (State.command_answers a (by simp [hk]) (if_neg (by simp [hfree]))),
    (hacc.1.regs _ (by decide)).trans (State.rd_wr_same _ _ _), hacc, fun i hi w hw => ?_⟩
  rw [hrest]
  exact s.foldl_unlearn hi hw

theorem balLearnRw_busy (a : s.Allowed 0x0306 rMaintainer h) (hk : s.segArgBad k = false) (hopen : s.opOf 0x0306 k ≠ none) :
    exec (.balLearnRw h k) s = .next (s.refuseCmd 0x0306 rMaintainer h .busy) :=
  congrArg Host.Outcome.next (State.command_answers (r := .refuse .busy) a (by simp [hk])
    (if_pos (Option.isSome_iff_ne_none.2 hopen)))

theorem balRwRead_tells (a : s.Allowed 0x0307 rObserver h) (hk : s.segOk k = true) :
    ∃ t ws, exec (.balRwRead h k) s = .next t ∧ s.Told t 0x0307 h ws ∧ ws.length = 17 ∧
      ∀ w, w ≤ 16 → s.learned k w = false → ws[w]? = some 0xFFFFFFFF := by
  refine ⟨_, _, congrArg Host.Outcome.next (State.command_answers a (by simp [hk]) rfl), State.answer_ret _ _ _ _ _ _, by rw [List.length_map]; rfl,
    fun w hw hnot => ?_⟩
  rw [List.getElem?_map, numbersFrom_getElem? 0 17 w (by omega), Nat.zero_add, Option.map_some, State.rwOf_unlearned hnot]

end

/-- Settles O24: each clause is its command's lemma. -/
theorem balancingCommandsComplete : Obligations.BalancingCommandsComplete := by
  unfold Obligations.BalancingCommandsComplete
  exact ⟨fun _ _ _ a hm => balSetMode_keeps a hm,
    fun _ _ _ _ _ _ a h1 h3 htarget hlimit hfree => balCampaignStart_starts h1 h3 htarget hlimit a hfree,
    fun _ _ _ _ _ _ a h1 h3 htarget hlimit hruns => balCampaignStart_busy h1 h3 htarget hlimit a hruns,
    fun _ _ a => balCampaignStop_ends a,
    fun _ _ a hnone => balCampaignStop_idle a hnone,
    fun _ _ _ _ _ a hcell hduty hc => ⟨balSetDuty_sets a hcell hduty hc,
      fun hkind => balSetDuty_refused a hcell hduty fun _ hd => Option.some.inj (hc.symm.trans hd) ▸ hkind⟩,
    fun _ _ _ _ a hcell hduty hnone => balSetDuty_refused a hcell hduty fun _ hd => absurd (hnone.symm.trans hd) nofun,
    fun _ _ _ a hk => balStatus_tells a hk,
    fun _ _ _ a hk hfree => balLearnRw_unlearns a hk hfree,
    fun _ _ _ a hk hopen => balLearnRw_busy a hk hopen,
    fun _ _ _ a hk => balRwRead_tells a hk⟩

end Sys2Proof.Machine
end

section
/-! PROOFS. The layout of a balancing period (R134, R138): no slot holds more paths than MAX_PATHS, and scaled duties fit the period. -/

namespace Sys2Proof.Machine

-- One proof after another: a thread for each would not fit the memory of the check.
set_option Elab.async false

/-! ### Paths in a slot -/

/-- One more path in a slot counts one more at most, also where its bit is taken and carries. -/
theorem popcount_add_two_pow_le (k n i : Nat) : popcount k (n + 2 ^ i) ≤ popcount k n + 1 := by
  induction k generalizing n i with
  | zero => exact Nat.zero_le _
  | succ k ih =>
    unfold popcount
    cases i with
    | zero =>
      have hcarry := ih (n / 2) 0
      rcases Nat.mod_two_eq_zero_or_one n with heven | hodd
      · rw [show (n + 2 ^ 0) / 2 = n / 2 by omega]; omega
      · rw [show (n + 2 ^ 0) / 2 = n / 2 + 2 ^ 0 by omega]; omega
    | succ i =>
      have hbelow := ih (n / 2) i
      rw [show (n + 2 ^ (i + 1)) / 2 = n / 2 + 2 ^ i by omega]
      omega

theorem popcount_zero (k : Nat) : popcount k 0 = 0 := by
  induction k with
  | zero => rfl
  | succ k ih => simpa [popcount] using ih

theorem popcount_two_pow_le (k i : Nat) : popcount k (2 ^ i) ≤ 1 := by
  simpa [popcount_zero] using popcount_add_two_pow_le k 0 i

/-! ### Slots within MAX_PATHS (R134) -/

/-- No slot of a layout holds more than `mp` paths. -/
def slotsFit (mp : Nat) (l : List Nat) : Prop := ∀ m ∈ l, popcount 16 m ≤ mp

theorem slotsFit.getD {mp : Nat} {l : List Nat} (h : slotsFit mp l) (i : Nat) : popcount 16 (l.getD i 0) ≤ mp := by
  rw [List.getD_eq_getElem?_getD]
  cases hi : l[i]? with
  | none => rw [Option.getD_none, popcount_zero]; exact Nat.zero_le _
  | some m => exact h m (List.mem_of_getElem? hi)

/-- A path goes into a slot with room for it. -/
theorem slotsFit.place {mp : Nat} {l : List Nat} (h : slotsFit mp l) {i : Nat} (j : Nat) (hroom : popcount 16 (l.getD i 0) < mp) :
    slotsFit mp (l.set i (l.getD i 0 + 2 ^ j)) := by
  intro m hm
  rcases List.mem_or_eq_of_mem_set hm with hm | rfl
  · exact h m hm
  · exact (popcount_add_two_pow_le _ _ _).trans hroom

theorem placeRun_fits {mp : Nat} {room : Nat → Nat → Bool} (hroom : ∀ i m, room i m = true → popcount 16 m < mp) (j fuel st n : Nat)
    {l : List Nat} (h : slotsFit mp l) : slotsFit mp (placeRun room (2 ^ j) fuel st n l).1 := by
  induction fuel generalizing st n l with
  | zero => exact h
  | succ fuel ih =>
    cases n with
    | zero => exact h
    | succ n =>
      unfold placeRun
      extract_lets i
      split
      · next hi => exact ih _ _ (h.place j (hroom _ _ hi))
      · exact ih _ _ h

/-- A learning pulse at the start of the period is one path. -/
theorem layoutRuns_fits {mp : Nat} (busy pulse : Nat) (d : List Nat) (h1 : 1 ≤ mp) : slotsFit mp (layoutRuns mp busy pulse d).1 := by
  unfold layoutRuns
  extract_lets room start
  have hstart : slotsFit mp start := by
    intro m hm
    obtain ⟨i, -, rfl⟩ := List.mem_map.1 hm
    split
    · exact (popcount_two_pow_le _ _).trans h1
    · rw [popcount_zero]; exact Nat.zero_le _
  have hroom : ∀ i m, room i m = true → popcount 16 m < mp := fun i m hi => of_decide_eq_true (Bool.and_eq_true _ _ ▸ hi).2
  refine List.foldlRecOn (motive := fun acc : List Nat × Bool => slotsFit mp acc.1) (dutyOrder d) _ hstart fun acc hacc j _ => ?_
  extract_lets n
  split
  · exact hacc
  · exact placeRun_fits hroom _ _ _ _ hacc

/-! ### Scaled duties and pause slots (R134, R138) -/

theorem sum_map_mul_div_le (c n : Nat) (d : List Nat) : (d.map fun x => x * 64 * c / n).sum ≤ d.sum * 64 * c / n := by
  induction d with
  | nil => exact Nat.zero_le _
  | cons x d ih =>
    rw [List.map_cons, List.sum_cons, List.sum_cons, Nat.add_mul, Nat.add_mul]
    exact (Nat.add_le_add_left ih _).trans (Nat.div_add_div_le_add_div)

theorem scaleDuties_of_fits {mp : Nat} {d : List Nat} (h : d.sum ≤ 64 * mp) : scaleDuties mp d = (d, false) := if_neg (Nat.not_lt.2 h)

theorem scaleDuties_fits (mp : Nat) (d : List Nat) : (scaleDuties mp d).1.sum ≤ 64 * mp := by
  by_cases h : d.sum ≤ 64 * mp
  · rw [scaleDuties_of_fits h]; exact h
  · have hscaled : scaleDuties mp d = (d.map fun x => x * 64 * mp / d.sum, true) := if_pos (Nat.not_le.1 h)
    rw [hscaled]
    refine (sum_map_mul_div_le mp d.sum d).trans ?_
    rw [Nat.mul_assoc, Nat.mul_div_cancel_left _ (by omega)]

/-- Eight pause slots for each degree above the threshold, and the whole period from eight degrees on. -/
theorem diePauses_spec (die thr : Int) : (die ≤ thr → diePauses die thr = 0) ∧ (thr + 8 ≤ die → diePauses die thr = 64) ∧
    (thr ≤ die → die ≤ thr + 8 → (diePauses die thr : Int) = 8 * (die - thr)) := by
  unfold diePauses
  split <;> omega

/-- Settles O25: the layout by its slots, the scaled duties by their sum. -/
theorem balancingLayoutKeepsItsLimits : Obligations.BalancingLayoutKeepsItsLimits := by
  unfold Obligations.BalancingLayoutKeepsItsLimits
  exact ⟨fun _ busy pulse d i h1 => (layoutRuns_fits busy pulse d h1).getD i, scaleDuties_fits, fun _ _ h => scaleDuties_of_fits h, diePauses_spec⟩

end Sys2Proof.Machine
end

section
/-! PROOFS. Balancing without a command: slots, periods, leases, guards, learning windows and the duty computation (R132–R138, R144, R147,
R148). -/

namespace Sys2Proof.Machine

-- One proof after another: a thread for each would not fit the memory of the check.
set_option Elab.async false

/-! ### One card's turn -/

/-- In a fold over cards, what the other cards' turns keep stands between the start and a card's turn, and from there to the end. -/
theorem State.foldl_turn {R : State → State → Prop} {f : State → Nat → State} {l : List Nat} {k : Nat} (hl : l.Nodup) (hk : k ∈ l)
    (hrefl : ∀ s, R s s) (htrans : ∀ s t u, R s t → R t u → R s u) (hother : ∀ s, ∀ q ∈ l, q ≠ k → R s (f s q)) (s : State) :
    ∃ u, R s u ∧ R (f u k) (l.foldl f s) := by
  obtain ⟨before, after, rfl⟩ := List.append_of_mem hk
  have hrun : ∀ m : List Nat, k ∉ m → (∀ q ∈ m, q ∈ before ++ k :: after) → ∀ s, R s (m.foldl f s) := fun m hm hsub s =>
    List.foldlRecOn m f (hrefl s) fun t ht q hq => htrans _ _ _ ht (hother t q (hsub q hq) fun e => hm (e ▸ hq))
  obtain ⟨-, hafter, hapart⟩ := List.nodup_append.1 hl
  refine ⟨before.foldl f s, hrun before (fun hm => hapart k hm k List.mem_cons_self rfl) (fun q hq => List.mem_append_left _ hq) s, ?_⟩
  rw [List.foldl_append, List.foldl_cons]
  exact hrun after (List.nodup_cons.1 hafter).1 (fun q hq => List.mem_append_right _ (List.mem_cons_of_mem k hq)) _

theorem State.segList_nodup (s : State) : s.segList.Nodup := numbersFrom_nodup _ _

/-! ### The stages of a slot (R132, R133, R136) -/

/-- The paths of a card that read back wrong in this slot. -/
def State.mismatch (s : State) (rb : List (Nat × Nat)) (k : Nat) : Nat := if Tbl.has rb k then (Tbl.get 0 rb k) ^^^ (s.balCard k).on else 0

/-- The paths of a card that read back wrong for the second slot running. -/
def State.freshFaults (s : State) (rb : List (Nat × Nat)) (k : Nat) : Nat :=
  s.mismatch rb k &&& (s.balCard k).mis &&& (0xFFFF - (s.balCard k).fault)

/-- A SWITCH_FAULT for each path listed. -/
def State.flagFaults (s : State) (k fresh : Nat) : State :=
  (numbersFrom 1 16).foldl (fun s j =>
    if fresh / 2 ^ (j - 1) % 2 = 1 then
      s.flag Fl.BAL_EVENT_SWITCH_FAULT { system := true, idx := k, stfP := true, detail := [j] } else s) s

/-- The readback of the slot before. -/
def State.slotReadback (s : State) (rb : List (Nat × Nat)) (k : Nat) : State :=
  (s.setBal k { s.balCard k with mis := s.mismatch rb k, fault := (s.balCard k).fault ||| s.freshFaults rb k }).flagFaults k (s.freshFaults rb k)

/-- The die of a card has reached STOP_C. -/
def State.dieStops (s : State) (k : Nat) : Bool := decide ((s.rd F.BAL_THROTTLE_STOP_C : Int) ≤ s.rdI (F.SEG_STATE_DIE k))

/-- The thermal stop of a card whose die asks for it, as `stop` says. -/
def State.slotThermStop (s : State) (stop : Bool) (k : Nat) : State :=
  if stop && !(s.balCard k).therm then
    (s.setBal k { s.balCard k with therm := true }).flag Fl.BAL_EVENT_THERM_STOP { idx := k, stfP := true } else s

/-- The paths that conduct in a slot. -/
def State.slotOn (s : State) (slot k : Nat) : Nat :=
  (s.balCard k).layout.getD slot 0 - ((s.balCard k).layout.getD slot 0 &&& s.heldMask k)

/-- Holds and conduction. -/
def State.slotConduct (s : State) (slot k : Nat) : State :=
  let on := s.slotOn slot k
  let b := s.balCard k
  let pls := if b.pulsing ∧ slot < 3 then on else 0
  let free := on &&& s.compensated k &&& (0xFFFF - pls)
  (s.setBal k { b with on := on, free := free, pls := pls, seen := b.seen ||| on
                       part := (b.part.1 ||| (on - (on &&& (free ||| pls))), b.part.2.1 ||| free, b.part.2.2 ||| pls) }).wr
    (F.BAL_PATH_HELD k) (s.heldMask k)

theorem State.balSlotCard_eq (s : State) (slot : Nat) (rb : List (Nat × Nat)) (k : Nat) :
    s.balSlotCard slot rb k = ((s.slotReadback rb k).slotThermStop (s.dieStops k) k).slotConduct slot k := rfl

/-! ### What a slot of another card leaves alone -/

/-- SWITCH_FAULT shows. -/
abbrev State.faultShown (s : State) : Prop := s.rd Fl.BAL_EVENT_SWITCH_FAULT.bit = 1

/-- `t` comes from `s` with the balancing of card `k` and its HELD as they were, and with a SWITCH_FAULT that shows still showing. -/
structure State.PathsKept (k : Nat) (s t : State) : Prop where
  card : t.balCard k = s.balCard k
  held : t.rd (F.BAL_PATH_HELD k) = s.rd (F.BAL_PATH_HELD k)
  shown : s.faultShown → t.faultShown

namespace State.PathsKept

variable {k q : Nat} {s t u : State}

theorem refl (s : State) : PathsKept k s s := ⟨rfl, rfl, id⟩

theorem trans (h : PathsKept k s t) (g : PathsKept k t u) : PathsKept k s u :=
  ⟨g.card.trans h.card, g.held.trans h.held, fun hs => g.shown (h.shown hs)⟩

theorem setBal (s : State) (b : BalCard) (h : k ≠ q) : PathsKept k s (s.setBal q b) := ⟨State.balCard_setBal_ne s q k b h, rfl, id⟩

/-- HELD of another card. -/
theorem wrHeld (s : State) (v : Nat) (h : k ≠ q) (hk : 1 ≤ k) (hq : 1 ≤ q) : PathsKept k s (s.wr (F.BAL_PATH_HELD q) v) := by
  refine ⟨rfl, State.rd_wr_ne _ _ _ _ ?_, fun hs => (State.rd_wr_ne _ _ _ _ ?_).trans hs⟩
  · simp only [Field.key, F.BAL_PATH_HELD]; omega
  · simp only [Field.key, F.BAL_PATH_HELD, Fl.BAL_EVENT_SWITCH_FAULT, F.BAL_EVENT_SWITCH_FAULT]; omega

/-- A flag of balancing. -/
theorem flag (s : State) {fl : Flag} (n : Note) (hk : k ≤ 26) (hheld : (flagKeys fl).all (fun q => q < 0x50800 * 32 || 0x50900 * 32 ≤ q) = true)
    (hshown : s.faultShown → (s.flag fl n).faultShown) : PathsKept k s (s.flag fl n) := by
  refine ⟨s.flag_balCard fl n k, (s.flag_noted fl n).regs _ fun hm => ?_, hshown⟩
  have hfar := List.all_eq_true.1 hheld _ hm
  rw [Bool.or_eq_true, decide_eq_true_eq, decide_eq_true_eq] at hfar
  simp only [Field.key, F.BAL_PATH_HELD] at hfar
  omega

theorem flagFaults (s : State) (n fresh : Nat) (hk : k ≤ 26) : PathsKept k s (s.flagFaults n fresh) := by
  refine List.foldlRecOn (motive := PathsKept k s) _ _ (.refl s) fun t ht j _ => ht.trans ?_
  split
  · exact .flag t _ hk (by decide) fun _ => t.flag_bit _ _
  · exact .refl t

theorem slotReadback (s : State) (rb : List (Nat × Nat)) (hk : k ≤ 26) (h : k ≠ q) : PathsKept k s (s.slotReadback rb q) :=
  (setBal s _ h).trans (.flagFaults _ _ _ hk)

theorem thermFlag (s : State) (n : Note) (hk : k ≤ 26) : PathsKept k s (s.flag Fl.BAL_EVENT_THERM_STOP n) :=
  .flag s n hk (by decide) fun hs => ((s.flag_noted _ _).regs _ (by decide)).trans hs

theorem slotThermStop (s : State) (stop : Bool) (hk : k ≤ 26) (h : k ≠ q) : PathsKept k s (s.slotThermStop stop q) := by
  unfold State.slotThermStop
  split
  · exact (setBal s _ h).trans (.thermFlag _ _ hk)
  · exact .refl s

theorem slotConduct (s : State) (slot : Nat) (h : k ≠ q) (hk : 1 ≤ k) (hq : 1 ≤ q) : PathsKept k s (s.slotConduct slot q) :=
  (setBal s _ h).trans (.wrHeld _ _ h hk hq)

theorem balSlotCard (s : State) (slot : Nat) (rb : List (Nat × Nat)) (h : k ≠ q) (hk : 1 ≤ k) (hk26 : k ≤ 26) (hq : 1 ≤ q) :
    PathsKept k s (s.balSlotCard slot rb q) :=
  s.balSlotCard_eq slot rb q ▸ ((slotReadback s rb hk26 h).trans (slotThermStop _ (s.dieStops q) hk26 h)).trans (slotConduct _ slot h hk hq)

end State.PathsKept

/-! ### What a slot does to its card -/

theorem State.flagFaults_shows (s : State) (k : Nat) {fresh j : Nat} (hj : j < 16) (hbit : fresh.testBit j = true) :
    (s.flagFaults k fresh).faultShown := by
  have hmem : j + 1 ∈ numbersFrom 1 16 := (mem_numbersFrom 1 16 (j + 1)).2 (by omega)
  refine State.foldl_establishes (P := State.faultShown) hmem (fun t => ?_) (fun t i ht => ?_) s
  · have hodd : fresh / 2 ^ (j + 1 - 1) % 2 = 1 := by rw [Nat.add_sub_cancel, ← Nat.toNat_testBit, hbit]; rfl
    rw [if_pos hodd]
    exact t.flag_bit _ _
  · split
    · exact t.flag_bit _ _
    · exact ht

theorem State.slotReadback_card (s : State) (rb : List (Nat × Nat)) {k : Nat} (hk : k ≤ 26) : (s.slotReadback rb k).balCard k =
    { s.balCard k with mis := s.mismatch rb k, fault := (s.balCard k).fault ||| s.freshFaults rb k } :=
  (State.PathsKept.flagFaults _ _ _ hk).card.trans (State.balCard_setBal _ _ _)

theorem State.slotThermStop_fault (s : State) (stop : Bool) {k : Nat} (hk : k ≤ 26) :
    ((s.slotThermStop stop k).balCard k).fault = (s.balCard k).fault ∧ (s.faultShown → (s.slotThermStop stop k).faultShown) := by
  unfold State.slotThermStop
  split
  · have hflag := State.PathsKept.thermFlag (s.setBal k { s.balCard k with therm := true }) { idx := k, stfP := true } hk
    exact ⟨by rw [hflag.card, State.balCard_setBal], fun hs => hflag.shown hs⟩
  · exact ⟨rfl, id⟩

theorem State.slotConduct_shows (s : State) (slot k : Nat) : ((s.slotConduct slot k).balCard k).fault = (s.balCard k).fault ∧
    ((s.slotConduct slot k).balCard k).on = s.slotOn slot k ∧ (s.slotConduct slot k).rd (F.BAL_PATH_HELD k) = s.heldMask k % 2 ^ 16 ∧
    (s.faultShown → (s.slotConduct slot k).faultShown) := by
  unfold State.slotConduct
  extract_lets on b pls free
  have hcard := s.balCard_setBal k { b with
    on := on, free := free, pls := pls, seen := b.seen ||| on
    part := (b.part.1 ||| (on - (on &&& (free ||| pls))), b.part.2.1 ||| free, b.part.2.2 ||| pls) }
  refine ⟨(congrArg BalCard.fault hcard :), (congrArg BalCard.on hcard :), State.rd_wr_same _ _ _, fun hs => (State.rd_wr_ne _ _ _ _ ?_).trans hs⟩
  simp only [Field.key, F.BAL_PATH_HELD, Fl.BAL_EVENT_SWITCH_FAULT, F.BAL_EVENT_SWITCH_FAULT]
  omega

/-- No path conducts that HELD shows, nor one beyond its width. -/
theorem State.slotOn_and_held (s : State) (slot k : Nat) : s.slotOn slot k &&& (s.heldMask k % 2 ^ 16) = 0 := by
  refine Nat.eq_of_testBit_eq fun i => ?_
  have hbit : (s.slotOn slot k &&& s.heldMask k).testBit i = false := by
    unfold State.slotOn
    rw [sub_and_and_self, Nat.zero_testBit]
  rw [Nat.testBit_and] at hbit
  rw [Nat.testBit_and, Nat.testBit_mod_two_pow, Bool.and_left_comm, hbit, Bool.and_false, Nat.zero_testBit]

theorem State.balSlotCard_holds (s : State) (slot : Nat) (rb : List (Nat × Nat)) (k : Nat) :
    ((s.balSlotCard slot rb k).balCard k).on &&& (s.balSlotCard slot rb k).rd (F.BAL_PATH_HELD k) = 0 := by
  obtain ⟨-, hon, hheld, -⟩ := ((s.slotReadback rb k).slotThermStop (s.dieStops k) k).slotConduct_shows slot k
  rw [State.balSlotCard_eq, hon, hheld]
  exact State.slotOn_and_held _ _ _

/-- A path that reads back wrong for the second slot running is faulted, and SWITCH_FAULT shows. -/
theorem State.balSlotCard_faults (s : State) (slot : Nat) {rb : List (Nat × Nat)} {k j : Nat} (hk : k ≤ 26) (hj : j < 16)
    (hbit : (s.freshFaults rb k).testBit j = true) :
    ((s.balSlotCard slot rb k).balCard k).fault.testBit j = true ∧ (s.balSlotCard slot rb k).faultShown := by
  obtain ⟨htherm, hstays⟩ := (s.slotReadback rb k).slotThermStop_fault (s.dieStops k) hk
  obtain ⟨hconduct, -, -, hstill⟩ := ((s.slotReadback rb k).slotThermStop (s.dieStops k) k).slotConduct_shows slot k
  rw [State.balSlotCard_eq]
  refine ⟨?_, hstill (hstays (State.flagFaults_shows _ k hj hbit))⟩
  rw [hconduct, htherm, s.slotReadback_card rb hk, Nat.testBit_or, hbit, Bool.or_true]

theorem State.freshFaults_testBit {s : State} {rb : List (Nat × Nat)} {k j : Nat} (hj : j < 16) (hhas : Tbl.has rb k = true)
    (hwrong : ((Tbl.get 0 rb k) ^^^ (s.balCard k).on).testBit j = true) (hbefore : (s.balCard k).mis.testBit j = true)
    (hnone : (s.balCard k).fault = 0) : (s.freshFaults rb k).testBit j = true := by
  have hwidth : (0xFFFF : Nat).testBit j = true := by
    rw [show 0xFFFF = 2 ^ 16 - 1 by decide, Nat.testBit_two_pow_sub_one]
    exact decide_eq_true hj
  have hmis : s.mismatch rb k = (Tbl.get 0 rb k) ^^^ (s.balCard k).on := if_pos hhas
  unfold State.freshFaults
  rw [hmis, hnone, Nat.sub_zero, Nat.testBit_and, Nat.testBit_and, hwrong, hbefore, hwidth]
  rfl

theorem balSlot_holds_and_faults (s : State) (rb : List (Nat × Nat)) : ∃ t, exec (.balSlot rb) s = .next t ∧
    ∀ k, s.segOk k = true → k ≤ 26 →
      (t.balCard k).on &&& t.rd (F.BAL_PATH_HELD k) = 0 ∧
      (Tbl.has rb k = true → ∀ j, j < 16 → ((Tbl.get 0 rb k) ^^^ (s.balCard k).on).testBit j = true → (s.balCard k).mis.testBit j = true →
        (s.balCard k).fault = 0 → (t.balCard k).fault.testBit j = true ∧ t.rd Fl.BAL_EVENT_SWITCH_FAULT.bit = 1) := by
  refine ⟨_, rfl, fun k hk h26 => ?_⟩
  have h1 : ∀ q ∈ s.segList, 1 ≤ q := fun q hq => (State.segOk_bounds ((s.mem_segList q).1 hq)).1
  have hmem := (s.mem_segList k).2 hk
  obtain ⟨u, hbefore, hafter⟩ := State.foldl_turn (R := State.PathsKept k) s.segList_nodup hmem .refl (fun _ _ _ => .trans)
    (f := fun t q => t.balSlotCard (s.plumbIdx / 4 % 64) rb q) (fun t q hq hne => .balSlotCard t _ rb hne.symm (h1 k hmem) h26 (h1 q hq)) s
  refine ⟨?_, fun hhas j hj hwrong hmis hnone => ?_⟩
  · rw [hafter.card, hafter.held]
    exact u.balSlotCard_holds _ rb k
  · rw [← hbefore.card] at hwrong hmis hnone
    obtain ⟨hfault, hshown⟩ := u.balSlotCard_faults (s.plumbIdx / 4 % 64) h26 hj (State.freshFaults_testBit hj hhas hwrong hmis hnone)
    exact ⟨by rw [hafter.card]; exact hfault, hafter.shown hshown⟩

/-! ### Periods (R134, R135, R144) -/

theorem State.wrs_bal (s : State) (l : List (Field × Nat)) : (s.wrs l).bal = s.bal := by
  induction l generalizing s with
  | nil => rfl
  | cons p l ih => exact ih _

theorem State.mirrorDuties_bal (s : State) (k : Nat) (d : List Nat) : (s.mirrorDuties k d).bal = s.bal := by
  simp only [State.mirrorDuties, List.foldl_cons, List.foldl_nil, State.wrs_bal]

theorem State.balPeriodCard_bal (s : State) (k : Nat) : ∃ b : BalCard, (s.balPeriodCard k).bal = (s.setBal k b).bal ∧ b.received = none ∧
    b.duties = (s.balCard k).received.getD (s.balCard k).duties := by
  simp only [State.balPeriodCard, State.wr_bal, State.mirrorDuties_bal]
  exact ⟨_, rfl, rfl, rfl⟩

theorem balPeriod_begins (s : State) : ∃ t, exec .balPeriod s = .next t ∧ t.bal.mode = s.rd F.BAL_CFG_MODE ∧
    ∀ k, s.segOk k = true → (t.balCard k).received = none ∧ (t.balCard k).duties = (s.balCard k).received.getD (s.balCard k).duties := by
  let s0 : State := { s with bal.mode := s.rd F.BAL_CFG_MODE }
  have hmode : (s.segList.foldl State.balPeriodCard s0).bal.mode = s0.bal.mode :=
    State.foldl_keeps (fun s => s.bal.mode) State.balPeriodCard (fun u q => by
      obtain ⟨b, hbal, -⟩ := u.balPeriodCard_bal q
      exact (congrArg BalState.mode hbal :)) s.segList s0
  refine ⟨_, rfl, hmode, fun k hk => ?_⟩
  obtain ⟨u, hbefore, hafter⟩ := State.foldl_turn (R := fun s t => t.balCard k = s.balCard k) s.segList_nodup ((s.mem_segList k).2 hk)
    (f := State.balPeriodCard) (fun _ => rfl) (fun _ _ _ h g => g.trans h) (fun t q _ hne => by
      obtain ⟨b, hbal, -⟩ := t.balPeriodCard_bal q
      exact (State.balCard_congr hbal k).trans (State.balCard_setBal_ne t q k b hne.symm)) s0
  obtain ⟨b, hbal, hreceived, hduties⟩ := u.balPeriodCard_bal k
  have hcard : (s.segList.foldl State.balPeriodCard s0).balCard k = b :=
    hafter.trans ((State.balCard_congr hbal k).trans (u.balCard_setBal k b))
  have hstart : u.balCard k = s.balCard k := hbefore
  rw [hstart] at hduties
  exact ⟨(congrArg BalCard.received hcard).trans hreceived, (congrArg BalCard.duties hcard).trans hduties⟩

/-! ### Duties and their lease (R135) -/

section
variable {s : State} {k : Nat}

theorem balDutiesReceived_takes (hk : s.segOk k = true) (hctl : s.pwr.ctl = true) :
    exec (.balDutiesReceived k) s = .next (s.setBal k { s.balCard k with
      received := some ((numbersFrom 1 16).map fun j => Tbl.get 0 s.bal.want (cellOf k j)), leased := true }) :=
  congrArg Host.Outcome.next (if_neg (by simp [hk, hctl]))

theorem leaseExpired_stops (hk : s.segOk k = true) (hlease : (s.balCard k).leased = true) : ∃ t, exec (.leaseExpired k) s = .next t ∧
    (t.balCard k).duties = List.replicate 16 0 ∧ (t.balCard k).received = none ∧ (t.balCard k).on = 0 ∧ (t.balCard k).leased = false ∧
    t.rd Fl.BAL_EVENT_LEASE_EXPIRED.bit = 1 := by
  let b : BalCard := { s.balCard k with
    received := none, duties := List.replicate 16 0, layout := [], on := 0, free := 0, pls := 0, leased := false }
  let s1 : State := (s.setBal k b).mirrorDuties k (List.replicate 16 0)
  let s2 : State := s1.flag Fl.BAL_EVENT_LEASE_EXPIRED { idx := k, stfP := true }
  have hexec : exec (.leaseExpired k) s = .next s2.setFloor := by
    show execLeaseExpired k s = _
    unfold execLeaseExpired
    rw [if_neg (by simp [hk, hlease])]
  have hbal : s2.bal = (s.setBal k b).bal := (s1.flag_bal _ _).trans (State.mirrorDuties_bal _ _ _)
  have hcard : s2.setFloor.balCard k = b :=
    (State.balCard_congr hbal k).trans (s.balCard_setBal k b)
  refine ⟨_, hexec, ?_⟩
  rw [hcard]
  exact ⟨rfl, rfl, rfl, rfl, (s2.setFloor_balKept.regs _ (by decide)).trans (s1.flag_bit _ _)⟩

theorem leaseExpired_idle (hlease : (s.balCard k).leased = false) : exec (.leaseExpired k) s = .next s :=
  congrArg Host.Outcome.next (if_pos (by simp [hlease]))

/-! ### Guards (R137) -/

section
variable {j : Nat} (hk : s.segOk k = true) (h1 : 1 ≤ j) (h16 : j ≤ 16)
include hk h1 h16

theorem exec_balGuardRelease : exec (.balGuardRelease k j) s = .next (if s.guardHit k j then s.cutoff k j else
    s.setBal k { s.balCard k with guard := (s.balCard k).guard - ((s.balCard k).guard &&& 2 ^ (j - 1)) }) :=
  congrArg Host.Outcome.next (if_neg (by simp [hk]; omega))

theorem balGuardRelease_releases (hfree : s.guardHit k j = false) :
    ∃ t, exec (.balGuardRelease k j) s = .next t ∧ (t.balCard k).guard.testBit (j - 1) = false ∧
      t = s.setBal k { s.balCard k with guard := (t.balCard k).guard } := by
  refine ⟨_, (exec_balGuardRelease hk h1 h16).trans (congrArg Host.Outcome.next (if_neg (by simp [hfree]))), ?_, by rw [State.balCard_setBal]⟩
  rw [State.balCard_setBal, testBit_sub_and, Nat.testBit_two_pow_self, Bool.not_true, Bool.and_false]

theorem balGuardRelease_acts (hhit : s.guardHit k j = true) :
    ∃ t, exec (.balGuardRelease k j) s = .next t ∧ (t.balCard k).guard.testBit (j - 1) = true ∧ t.rd Fl.BAL_EVENT_CUTOFF.bit = 1 := by
  refine ⟨_, (exec_balGuardRelease hk h1 h16).trans (congrArg Host.Outcome.next (if_pos hhit)), ?_, State.flag_bit _ _ _⟩
  unfold State.cutoff
  rw [State.flag_balCard, State.balCard_setBal, Nat.testBit_or, Nat.testBit_two_pow_self, Bool.or_true]

end

/-! ### Learning windows (R147) -/

theorem balLearnWindow_closes (hk : s.segOk k = true) :
    exec (.balLearnWindow k false) s = .next (s.setBal k { s.balCard k with window := false }) :=
  congrArg Host.Outcome.next (if_neg (by simp [hk]))

section
variable (hk : s.segOk k = true)
include hk

theorem balLearnWindow_opens (hmode : s.rd F.BAL_CFG_MODE = 1) (hnone : (s.segList.any fun c => (s.balCard c).window) = false)
    (hturn : k = s.nextTurn) :
    exec (.balLearnWindow k true) s = .next { s.setBal k { s.balCard k with window := true } with bal.turn := k } :=
  congrArg Host.Outcome.next ((if_neg (by simp [hk])).trans ((if_neg (by simp)).trans (if_neg (by simp [hmode, hnone, ← hturn]))))

theorem balLearnWindow_waits (hturn : k ≠ s.nextTurn) : exec (.balLearnWindow k true) s = .next s :=
  congrArg Host.Outcome.next ((if_neg (by simp [hk])).trans ((if_neg (by simp)).trans (if_pos (.inr (.inr hturn)))))

end

/-! ### The duty computation (R148) -/

theorem balDutyRecompute_idle (hnone : s.bal.campaign = none) : exec .balDutyRecompute s = .next s := by
  show execBalDutyRecompute s = _
  unfold execBalDutyRecompute
  rw [hnone]

theorem balDutyRecompute_manual {c : Campaign} (hc : s.bal.campaign = some c) (hkind : c.kind = 3) (hruns : c.limit = 0 ∨ c.age + 1 < c.limit) :
    exec .balDutyRecompute s = .next { s with bal.campaign := some { c with age := c.age + 1 } } := by
  have hon : (decide (0 < c.limit) && decide (c.limit ≤ c.age + 1)) = false := by
    simp only [Bool.and_eq_false_iff, decide_eq_false_iff_not]
    omega
  show execBalDutyRecompute s = _
  unfold execBalDutyRecompute
  simp only [hc, hkind, hon]
  rfl

/-- A campaign whose time is up ends, whatever its kind and its duties. -/
theorem balDutyRecompute_timeUp {c : Campaign} (hc : s.bal.campaign = some c) (hlimit : 0 < c.limit) (hage : c.limit ≤ c.age + 1) :
    ∃ (d : Campaign) (w : List (Nat × Nat)),
      exec .balDutyRecompute s = .next (({ s with bal.campaign := some d, bal.want := w } : State).endCampaign .ok) := by
  have hup : ∀ done : Bool, (done || (decide (0 < c.limit) && decide (c.limit ≤ c.age + 1))) = true := by simp [hlimit, hage]
  show ∃ d w, execBalDutyRecompute s = _
  unfold execBalDutyRecompute
  simp only [hc]
  split
  · exact ⟨_, _, congrArg Host.Outcome.next (if_pos (hup _))⟩
  · split
    · exact ⟨_, _, congrArg Host.Outcome.next (if_pos (hup _))⟩
    · exact ⟨_, _, congrArg Host.Outcome.next (if_pos (hup _))⟩
  · exact ⟨_, _, congrArg Host.Outcome.next (if_pos (hup _))⟩

theorem balDutyRecompute_ends {c : Campaign} (hc : s.bal.campaign = some c) (hlimit : 0 < c.limit) (hage : c.limit ≤ c.age + 1) :
    ∃ t, exec .balDutyRecompute s = .next t ∧ t.bal.campaign = none ∧ t.rd Fl.BAL_EVENT_CAMPAIGN_END.bit = 1 ∧
      t.rd F.BAL_STATUS_CAMPAIGN_ACTIVE = 0 := by
  obtain ⟨d, w, hexec⟩ := balDutyRecompute_timeUp hc hlimit hage
  exact ⟨_, hexec, State.endCampaign_ends .ok rfl⟩

end

/-- Settles O26: each clause is its event's lemma. -/
theorem balancingEventsFollowTheirRules : Obligations.BalancingEventsFollowTheirRules := by
  unfold Obligations.BalancingEventsFollowTheirRules
  exact ⟨balSlot_holds_and_faults, balPeriod_begins,
    fun _ _ hk hctl => balDutiesReceived_takes hk hctl,
    fun _ _ hk hlease => leaseExpired_stops hk hlease,
    fun _ _ hlease => leaseExpired_idle hlease,
    fun _ _ _ hk h1 h16 hfree => balGuardRelease_releases hk h1 h16 hfree,
    fun _ _ _ hk h1 h16 hhit => balGuardRelease_acts hk h1 h16 hhit,
    fun _ _ hk => balLearnWindow_closes hk,
    fun _ _ hk hmode hnone => ⟨balLearnWindow_opens hk hmode hnone, balLearnWindow_waits hk⟩,
    fun _ hnone => balDutyRecompute_idle hnone,
    fun _ _ hc hkind hruns => balDutyRecompute_manual hc hkind hruns,
    fun _ _ hc hlimit hage => balDutyRecompute_ends hc hlimit hage⟩

end Sys2Proof.Machine
end

section
/-! PROOFS. What a result of the insulation monitor does to WARN and ALARM (R46, R167), and what it leaves. -/

namespace Sys2Proof.Machine

-- One proof after another: a thread for each would not fit the memory of the check.
set_option Elab.async false

/-! ### One threshold (R167) -/

/-- A second result below the threshold makes two in a row, and none above. -/
theorem thrStep_below {thr rp below : Nat} (above : Nat) (h : rp < thr) (hb : 1 ≤ below) :
    2 ≤ (thrStep thr rp below above).1 ∧ (thrStep thr rp below above).2 = 0 := by
  have hnot : ¬5 * thr < 4 * rp := by omega
  rw [thrStep, if_pos h, if_neg hnot]
  exact ⟨Nat.succ_le_succ hb, rfl⟩

/-- A second result above the threshold by a quarter makes two in a row, and none below. -/
theorem thrStep_above {thr rp above : Nat} (below : Nat) (h : 5 * thr < 4 * rp) (ha : 1 ≤ above) :
    (thrStep thr rp below above).1 = 0 ∧ 2 ≤ (thrStep thr rp below above).2 := by
  have hnot : ¬rp < thr := by omega
  rw [thrStep, if_pos h, if_neg hnot]
  exact ⟨rfl, Nat.succ_le_succ ha⟩

/-- A note leaves the monitor and every register outside its list. -/
theorem State.Noted.cimStands {P : Nat → Bool} {ks : List Nat} {s t : State} (h : State.Noted ks s t) (hP : ∀ k ∈ ks, P k = false) :
    State.Stands P State.cim s t :=
  ⟨fun f hf => h.regs f fun hm => (by rw [hP _ hm] at hf; cases hf), h.cim⟩

/-- What the results in a row below and above a threshold do to its bit `f`; `act` follows where they set it. -/
def State.judgeThr (s : State) (f : Field) (fl : Flag) (act : State → State) (c : Nat × Nat) : State :=
  if 2 ≤ c.1 ∧ s.isOn f = false then act ((s.wr f 1).flag fl {}) else if 2 ≤ c.2 then s.wr f 0 else s

section
variable {f : Field} {fl : Flag} {act : State → State} {c : Nat × Nat}

theorem State.judgeThr_sets (s : State) (hbelow : 2 ≤ c.1) (habove : c.2 = 0)
    (hact : ∀ u : State, State.Stands (fun _ => true) State.cim u (act u)) (hw : f.width = 1 := by rfl)
    (hf : f.key ∉ flagKeys fl := by decide) : (s.judgeThr f fl act c).rd f = 1 := by
  unfold State.judgeThr
  by_cases hon : s.isOn f = false
  · rw [if_pos ⟨hbelow, hon⟩, (hact _).regs f rfl, (State.flag_noted _ _ _).regs f hf, State.rd_wr_same, hw]
    rfl
  · rw [if_neg fun h => hon h.2, if_neg (by omega)]
    exact beq_iff_eq.1 (Bool.not_eq_false _ ▸ hon)

theorem State.judgeThr_clears (s : State) (hbelow : c.1 = 0) (habove : 2 ≤ c.2) : (s.judgeThr f fl act c).rd f = 0 := by
  unfold State.judgeThr
  rw [if_neg (by omega), if_pos habove, State.rd_wr_same, Nat.zero_mod]

theorem State.judgeThr_stands {P : Nat → Bool} (s : State) (hact : ∀ u : State, State.Stands (fun _ => true) State.cim u (act u))
    (hf : P f.key = false := by decide) (hfl : ∀ k ∈ flagKeys fl, P k = false := by decide) :
    State.Stands P State.cim s (s.judgeThr f fl act c) :=
  .ite (((State.Stands.wr s 1 hf).trans ((State.flag_noted _ _ _).cimStands hfl)).trans ((hact _).mono (fun _ _ => rfl) id))
    (.ite (.wr s 0 hf) (.refl s))

end

/-! ### Both thresholds (R46, R167) -/

/-- In RUN an ALARM begins an orderly open where OPEN_ON_ALARM asks for it. -/
def State.openOnAlarm (s : State) : State :=
  if s.mode = mRUN ∧ s.isOn F.CIM_ISO_CTRL_OPEN_ON_ALARM = true then s.startOrderly mSTANDBY byCondition else s

theorem State.openOnAlarm_stands (s : State) : State.Stands (fun _ => true) State.cim s s.openOnAlarm :=
  .ite (.ite (.refl s) .of_eq) (.refl s)

/-- The counts of WARN after a result. -/
def State.warnStep (s : State) (rp : Nat) : Nat × Nat := thrStep (s.rd F.CIM_ISO_CFG_WARN_KOHM) rp s.cim.belowWarn s.cim.aboveWarn

/-- The counts of ALARM after a result. -/
def State.alarmStep (s : State) (rp : Nat) : Nat × Nat := thrStep (s.rd F.CIM_ISO_CFG_ALARM_KOHM) rp s.cim.belowAlarm s.cim.aboveAlarm

/-- A result is counted, and WARN follows. -/
def State.warnJudged (s : State) (rp : Nat) : State :=
  ({ s with cim.belowWarn := (s.warnStep rp).1, cim.aboveWarn := (s.warnStep rp).2
            cim.belowAlarm := (s.alarmStep rp).1, cim.aboveAlarm := (s.alarmStep rp).2 } : State).judgeThr
    F.CIM_ISO_STATUS_WARN Fl.CIM_EVENT_ISO_WARN id (s.warnStep rp)

/-- Then ALARM follows. -/
def State.alarmJudged (s : State) (rp : Nat) : State :=
  (s.warnJudged rp).judgeThr F.CIM_ISO_STATUS_ALARM Fl.CIM_EVENT_ISO_ALARM State.openOnAlarm (s.alarmStep rp)

theorem State.isoJudge_eq (s : State) (rp : Nat) : s.isoJudge rp = (s.alarmJudged rp).setReady := rfl

theorem State.rd_isoJudge (s : State) (rp : Nat) {f : Field} (hf : f.key ≠ F.SYS_MODE_READY_BLOCK.key) :
    (s.isoJudge rp).rd f = (s.alarmJudged rp).rd f := State.rd_wr_ne _ _ _ _ hf

theorem State.isoJudge_setsAlarm (s : State) (rp : Nat) (hcount : 1 ≤ s.cim.belowAlarm) (hrp : rp < s.rd F.CIM_ISO_CFG_ALARM_KOHM) :
    (s.isoJudge rp).rd F.CIM_ISO_STATUS_ALARM = 1 := by
  obtain ⟨hbelow, habove⟩ := thrStep_below s.cim.aboveAlarm hrp hcount
  exact (s.rd_isoJudge rp (by decide)).trans ((s.warnJudged rp).judgeThr_sets hbelow habove State.openOnAlarm_stands)

theorem State.isoJudge_clearsAlarm (s : State) (rp : Nat) (hcount : 1 ≤ s.cim.aboveAlarm)
    (hrp : 5 * s.rd F.CIM_ISO_CFG_ALARM_KOHM < 4 * rp) : (s.isoJudge rp).rd F.CIM_ISO_STATUS_ALARM = 0 := by
  obtain ⟨hbelow, habove⟩ := thrStep_above s.cim.belowAlarm hrp hcount
  exact (s.rd_isoJudge rp (by decide)).trans ((s.warnJudged rp).judgeThr_clears hbelow habove)

/-- WARN is judged before ALARM, which leaves it. -/
theorem State.isoJudge_setsWarn (s : State) (rp : Nat) (hcount : 1 ≤ s.cim.belowWarn) (hrp : rp < s.rd F.CIM_ISO_CFG_WARN_KOHM) :
    (s.isoJudge rp).rd F.CIM_ISO_STATUS_WARN = 1 := by
  obtain ⟨hbelow, habove⟩ := thrStep_below s.cim.aboveWarn hrp hcount
  have hkept : State.Stands (· == F.CIM_ISO_STATUS_WARN.key) State.cim (s.warnJudged rp) (s.alarmJudged rp) :=
    State.judgeThr_stands _ State.openOnAlarm_stands
  exact (s.rd_isoJudge rp (by decide)).trans ((hkept.regs _ (by decide)).trans (State.judgeThr_sets _ hbelow habove .refl))

/-- The registers that a judgement moves. -/
def judgeKeys : List Nat := [F.CIM_ISO_STATUS_WARN.key, F.CIM_ISO_STATUS_ALARM.key, F.SYS_MODE_READY_BLOCK.key] ++
  flagKeys Fl.CIM_EVENT_ISO_WARN ++ flagKeys Fl.CIM_EVENT_ISO_ALARM

/-- A judgement leaves every other register, and the half period in hand. -/
theorem State.isoJudge_stands (s : State) (rp : Nat) :
    State.Stands (!judgeKeys.contains ·) (fun s => s.cim.firstHalf) s (s.isoJudge rp) := by
  have hwarn : State.Stands (!judgeKeys.contains ·) (fun s => s.cim.firstHalf) s (s.warnJudged rp) :=
    .trans .of_eq ((State.judgeThr_stands _ .refl).mono (fun _ h => h) CimState.firstHalf)
  have halarm : State.Stands (!judgeKeys.contains ·) State.cim (s.warnJudged rp) (s.alarmJudged rp) :=
    State.judgeThr_stands _ State.openOnAlarm_stands
  exact (hwarn.trans (halarm.mono (fun _ h => h) CimState.firstHalf)).trans (.wr _ _)

end Sys2Proof.Machine
end

section
/-! PROOFS. The insulation monitor: roles, half periods, aged results, a silent bank, and the commands (R164–R172). -/

namespace Sys2Proof.Machine

-- One proof after another: a thread for each would not fit the memory of the check.
set_option Elab.async false

/-! ### Roles (R169, R170) -/

theorem State.isoInjects_iff (s : State) : s.isoInjects = true ↔ s.isoMay = true ∧ s.cim.listening = false ∧ s.cim.foreign = false := by
  simp [State.isoInjects, and_assoc]

theorem State.isoMay_on {s : State} (h : s.isoMay = true) : s.isOn F.CIM_ISO_CTRL_ENABLE = true ∧ (s.rd F.PWR_STATE_STATE == 4) = false := by
  simp only [State.isoMay, Bool.and_eq_true] at h
  obtain ⟨⟨hon, hpower⟩, -⟩ := h
  exact ⟨hon, by simpa using hpower⟩

theorem State.rd_isoRole_ne (s : State) {f : Field} (hf : f.key ≠ F.CIM_ISO_STATUS_ROLE.key) : s.isoRole.rd f = s.rd f :=
  s.isoRole_frame.1 f (by simpa using hf)

/-- A monitor that may inject, and does so or hears another, goes on. -/
theorem State.isoListen_stays {s : State} (hmay : s.isoMay = true) (h : s.rd F.CIM_ISO_STATUS_ROLE = 1 ∨ s.cim.foreign = true) :
    s.isoListen = s := by
  unfold State.isoListen
  rw [if_neg (by simp [hmay]), if_pos h]

/-- The number that ROLE shows (R169). -/
def State.roleShown (s : State) : Nat :=
  if !s.isOn F.CIM_ISO_CTRL_ENABLE || s.rd F.PWR_STATE_STATE == 4 then 0
  else if s.isoListen.isoInjects then 1
  else if !s.isoMay && s.bankFresh then 3 else 2

theorem State.isoRole_shows (s : State) : s.isoRole = s.isoListen.wr F.CIM_ISO_STATUS_ROLE s.roleShown := rfl

/-- An injector by its ROLE, with nothing against it, stays one. -/
theorem State.isoRole_injector {s : State} (hin : s.isoInjects = true) (hrole : s.rd F.CIM_ISO_STATUS_ROLE = 1) :
    s.isoRole = s.wr F.CIM_ISO_STATUS_ROLE 1 := by
  obtain ⟨hmay, -, -⟩ := s.isoInjects_iff.1 hin
  obtain ⟨hon, hpower⟩ := State.isoMay_on hmay
  have hstays := State.isoListen_stays hmay (.inl hrole)
  have hshown : s.roleShown = 1 := by
    unfold State.roleShown
    rw [if_neg (by simp [hon, hpower]), hstays, if_pos hin]
  rw [State.isoRole_shows, hstays, hshown]

/-- The role leaves no half period in hand where there was none, and the candidate as it is. -/
theorem State.isoRole_cim (s : State) :
    (s.cim.firstHalf = none → s.isoRole.cim.firstHalf = none) ∧ s.isoRole.cim.candidate = s.cim.candidate := by
  show (_ → s.isoListen.cim.firstHalf = none) ∧ s.isoListen.cim.candidate = _
  unfold State.isoListen
  split
  · exact ⟨id, rfl⟩
  · split
    · exact ⟨id, rfl⟩
    · exact ⟨fun _ => rfl, rfl⟩

/-- A monitor that listens goes on listening where it may inject. -/
theorem State.isoRole_listening {s : State} (h : s.cim.listening = true) : s.isoRole.cim.listening = s.isoMay := by
  show s.isoListen.cim.listening = _
  unfold State.isoListen
  cases hmay : s.isoMay
  · rfl
  · simp only [Bool.not_true, Bool.false_eq_true, if_false]
    split
    · exact h
    · rfl

/-! ### The markers of R6 -/

def isoMarkerKeys : List Nat := [F.CIM_ISO_RP_VALUE.key, F.CIM_ISO_RPOS_VALUE.key, F.CIM_ISO_RNEG_VALUE.key, F.CIM_ISO_CAP_VALUE.key]

theorem State.isoMarker_shows (s : State) : s.isoMarker.rd F.CIM_ISO_RP_VALUE = 0xFFFFFFFF ∧ s.isoMarker.rd F.CIM_ISO_RPOS_VALUE = 0xFFFFFFFF ∧
    s.isoMarker.rd F.CIM_ISO_RNEG_VALUE = 0xFFFFFFFF := by
  unfold State.isoMarker
  exact ⟨(State.rd_wrs_get s 0).trans rfl, (State.rd_wrs_get s 1).trans rfl, (State.rd_wrs_get s 2).trans rfl⟩

theorem State.isoMarker_frame (s : State) : s.SameRegs s.isoMarker isoMarkerKeys := fun f hf => by
  refine State.rd_wrs_ne s f _ ?_
  simpa [isoMarkerKeys, not_or] using hf

/-- The markers leave open whether the monitor may inject. -/
theorem State.isoMarker_isoMay (s : State) : s.isoMarker.isoMay = s.isoMay := s.isoMarker_frame.isoMay rfl

/-! ### The end of a half period (R164–R166) -/

/-- A half period in which the voltage stood still: the count of discards starts anew, and the polarity changes. -/
def State.halfTaken (s : State) : State := { s with cim.discards := 0, cim.positive := !s.cim.positive }

/-- The registers as the second half period of a cycle gives them (R165, R166). -/
def State.isoResult (s : State) (rp ce : Nat) (vp vn : Int) : State :=
  let r := clampN 10 50000 rp
  let d := s.draw
  let split := decide (50000 ≤ vp + vn)
  ({ d.2 with cim.firstHalf := none
              cim.half := clampN 1000 (1000 * max 1 (s.rd F.CIM_ISO_CTRL_MAX_HALF_S)) (max 1000 (5 * r * ce / 1000)) } : State).wrs
    [(F.CIM_ISO_RP_VALUE, r), (F.CIM_ISO_CAP_VALUE, min (markU 32 - 1) ce),
     (F.CIM_ISO_RNEG_VALUE, if split then openShare (poleShare rp (vp + vn) vp) d.1 else markU 32),
     (F.CIM_ISO_RPOS_VALUE, if split then openShare (poleShare rp (vp + vn) vn) d.1 else markU 32),
     (F.CIM_ISO_STATUS_STALE, 0), (F.CIM_ISO_STATUS_AGE_S, 0), (F.CIM_ISO_STATUS_BELOW_RANGE, if rp < 10 then 1 else 0),
     (F.CIM_ISO_STATUS_ABOVE_RANGE, if 50000 < rp then 1 else 0)]

/-- The master of a bank that coordinates its monitors sends its result of `r` kΩ (R169). -/
def State.isoAnnounce (s : State) (r : Nat) : State :=
  if s.bankMaster && s.isoBank then
    s.bankSend (.isoResult r (s.rd F.CIM_ISO_RPOS_VALUE) (s.rd F.CIM_ISO_RNEG_VALUE) (s.rd F.CIM_ISO_CAP_VALUE))
  else s

/-- Sending the result moves no register, and leaves the monitor. -/
theorem State.isoAnnounce_stands (s : State) (r : Nat) : State.Stands (fun _ => true) State.cim s (s.isoAnnounce r) :=
  .ite (.ite .of_eq (.refl s)) (.refl s)

/-- A result of the second half period, from the registers to the bank (R166, R167, R169). -/
def State.isoPublish (s : State) (rp ce : Nat) (vp vn : Int) : State :=
  ((s.isoResult rp ce vp vn).isoJudge (clampN 10 50000 rp)).isoRole.isoAnnounce (clampN 10 50000 rp)

section
variable {s : State} {dv : Int} {rp ce : Nat} {vp vn : Int} {f : Bool}

theorem isoHalfPeriodEnd_off (hoff : s.isOn F.CIM_ISO_CTRL_ENABLE = false) : exec (.isoHalfPeriodEnd dv rp ce vp vn f) s = .next s :=
  congrArg Host.Outcome.next (if_pos (by simp [hoff]))

/-- What the end of a half period does to a monitor that injects. -/
theorem isoHalfPeriodEnd_injecting (hin : s.isoInjects = true) : exec (.isoHalfPeriodEnd dv rp ce vp vn f) s = .next
    (if 5000 < dv.natAbs then ({ s with cim.discards := s.cim.discards + 1 } : State).wrB F.CIM_ISO_STATUS_STALE
      (s.isOn F.CIM_ISO_STATUS_STALE || decide (10 ≤ s.cim.discards + 1))
     else match s.cim.firstHalf with
      | none => { s.halfTaken with cim.firstHalf := some (rp : Int) }
      | some _ => s.halfTaken.isoPublish rp ce vp vn) := by
  obtain ⟨hmay, hlisten, hforeign⟩ := s.isoInjects_iff.1 hin
  obtain ⟨hon, -⟩ := State.isoMay_on hmay
  refine congrArg Host.Outcome.next ((if_neg (by simp [hon])).trans ((if_neg (by simp [hmay])).trans
    ((if_neg (by simp [hlisten, hforeign])).trans ?_)))
  rfl

theorem isoHalfPeriodEnd_discards (hin : s.isoInjects = true) (hdv : 5000 < dv.natAbs) : exec (.isoHalfPeriodEnd dv rp ce vp vn f) s = .next
    (({ s with cim.discards := s.cim.discards + 1 } : State).wrB F.CIM_ISO_STATUS_STALE
      (s.isOn F.CIM_ISO_STATUS_STALE || decide (10 ≤ s.cim.discards + 1))) := by
  rw [isoHalfPeriodEnd_injecting hin, if_pos hdv]

theorem isoHalfPeriodEnd_first (hin : s.isoInjects = true) (hdv : dv.natAbs ≤ 5000) (hfirst : s.cim.firstHalf = none) :
    exec (.isoHalfPeriodEnd dv rp ce vp vn f) s =
      .next { s with cim.discards := 0, cim.positive := !s.cim.positive, cim.firstHalf := some (rp : Int) } := by
  rw [isoHalfPeriodEnd_injecting hin, if_neg (not_lt.2 hdv), hfirst]
  rfl

theorem isoHalfPeriodEnd_second {x : Int} (hin : s.isoInjects = true) (hdv : dv.natAbs ≤ 5000) (hfirst : s.cim.firstHalf = some x) :
    exec (.isoHalfPeriodEnd dv rp ce vp vn f) s = .next (s.halfTaken.isoPublish rp ce vp vn) := by
  rw [isoHalfPeriodEnd_injecting hin, if_neg (not_lt.2 hdv), hfirst]

end

/-! ### What a published result shows (R165, R166) -/

/-- A bit written as a condition reads so. -/
theorem beq_one_of_ite {n : Nat} {c : Prop} [Decidable c] (h : n = (if c then 1 else 0) % 2 ^ 1) : (n == 1) = decide c := by
  by_cases hc : c <;> simp [h, hc]

theorem State.SameRegs.isOn {s t : State} {ks : List Nat} (h : s.SameRegs t ks) (f : Field) (hf : f.key ∉ ks) : t.isOn f = s.isOn f :=
  congrArg (· == 1) (h f hf)

section
variable (s : State) (rp ce : Nat) (vp vn : Int)

theorem State.isoResult_shows :
    (s.isoResult rp ce vp vn).rd F.CIM_ISO_RP_VALUE = max 10 (min rp 50000) ∧
    (s.isoResult rp ce vp vn).isOn F.CIM_ISO_STATUS_BELOW_RANGE = decide (rp < 10) ∧
    (s.isoResult rp ce vp vn).isOn F.CIM_ISO_STATUS_ABOVE_RANGE = decide (50000 < rp) ∧
    (s.isoResult rp ce vp vn).rd F.CIM_ISO_STATUS_STALE = 0 ∧ (s.isoResult rp ce vp vn).rd F.CIM_ISO_STATUS_AGE_S = 0 := by
  unfold State.isoResult
  extract_lets r d split
  refine ⟨(State.rd_wrs_get _ 0).trans ?_, beq_one_of_ite (State.rd_wrs_get _ 6), beq_one_of_ite (State.rd_wrs_get _ 7),
    (State.rd_wrs_get _ 4).trans rfl, (State.rd_wrs_get _ 5).trans rfl⟩
  show max 10 (min 50000 rp) % 2 ^ 32 = _
  omega

/-- Below 50 V the shares show the marker. -/
theorem State.isoResult_marks (hlow : vp + vn < 50000) :
    (s.isoResult rp ce vp vn).rd F.CIM_ISO_RPOS_VALUE = 0xFFFFFFFF ∧ (s.isoResult rp ce vp vn).rd F.CIM_ISO_RNEG_VALUE = 0xFFFFFFFF := by
  unfold State.isoResult
  extract_lets r d split
  have hsplit : ¬split = true := by simpa [split] using hlow
  exact ⟨(State.rd_wrs_get _ 3).trans (by rw [if_neg hsplit]; rfl), (State.rd_wrs_get _ 2).trans (by rw [if_neg hsplit]; rfl)⟩

/-- The registers that follow a published result. -/
def publishKeys : List Nat := F.CIM_ISO_STATUS_ROLE.key :: judgeKeys

/-- Judgement, role and message leave the other registers as the result has given them, and the cycle at its start. -/
theorem State.isoPublish_frame : (s.isoResult rp ce vp vn).SameRegs (s.isoPublish rp ce vp vn) publishKeys ∧
    (s.isoPublish rp ce vp vn).cim.firstHalf = none := by
  unfold State.isoPublish
  have hstart : (s.isoResult rp ce vp vn).cim.firstHalf = none := rfl
  generalize s.isoResult rp ce vp vn = u at hstart ⊢
  have hjudge := u.isoJudge_stands (clampN 10 50000 rp)
  have hsend := (u.isoJudge (clampN 10 50000 rp)).isoRole.isoAnnounce_stands (clampN 10 50000 rp)
  refine ⟨fun f hf => ?_, (congrArg CimState.firstHalf hsend.view).trans ((State.isoRole_cim _).1 (hjudge.view.trans hstart))⟩
  simp only [publishKeys, List.mem_cons, not_or] at hf
  obtain ⟨hrole, hkeys⟩ := hf
  exact (hsend.regs f rfl).trans ((State.rd_isoRole_ne _ hrole).trans (hjudge.regs f (by simpa using hkeys)))

end

theorem isoHalfPeriodEnd_publishes {s : State} {dv x : Int} {rp ce : Nat} {vp vn : Int} {f : Bool} (hin : s.isoInjects = true)
    (hdv : dv.natAbs ≤ 5000) (hfirst : s.cim.firstHalf = some x) :
    ∃ t, exec (.isoHalfPeriodEnd dv rp ce vp vn f) s = .next t ∧ t.cim.firstHalf = none ∧ t.rd F.CIM_ISO_RP_VALUE = max 10 (min rp 50000) ∧
      t.isOn F.CIM_ISO_STATUS_BELOW_RANGE = decide (rp < 10) ∧ t.isOn F.CIM_ISO_STATUS_ABOVE_RANGE = decide (50000 < rp) ∧
      t.rd F.CIM_ISO_STATUS_STALE = 0 ∧ t.rd F.CIM_ISO_STATUS_AGE_S = 0 ∧
      (vp + vn < 50000 → t.rd F.CIM_ISO_RPOS_VALUE = 0xFFFFFFFF ∧ t.rd F.CIM_ISO_RNEG_VALUE = 0xFFFFFFFF) := by
  obtain ⟨hrp, hbelow, habove, hstale, hage⟩ := s.halfTaken.isoResult_shows rp ce vp vn
  obtain ⟨hregs, hnone⟩ := s.halfTaken.isoPublish_frame rp ce vp vn
  refine ⟨_, isoHalfPeriodEnd_second hin hdv hfirst, hnone, (hregs _ (by decide)).trans hrp, (hregs.isOn _ (by decide)).trans hbelow,
    (hregs.isOn _ (by decide)).trans habove, (hregs _ (by decide)).trans hstale, (hregs _ (by decide)).trans hage, fun hlow => ?_⟩
  obtain ⟨hpos, hneg⟩ := s.halfTaken.isoResult_marks rp ce vp vn hlow
  exact ⟨(hregs _ (by decide)).trans hpos, (hregs _ (by decide)).trans hneg⟩

/-! ### Listening (R168, R170) -/

section
variable {s : State} {dv : Int} {rp ce : Nat} {vp vn : Int} (hmay : s.isoMay = true) (hlisten : s.cim.listening = true)
include hmay hlisten

/-- A listener that hears a foreign wave flags it, shows the marker and keeps off. -/
theorem isoHalfPeriodEnd_hears : ∃ t, exec (.isoHalfPeriodEnd dv rp ce vp vn true) s = .next t ∧ t.cim.foreign = true ∧
    t.rd F.CIM_ISO_RP_VALUE = 0xFFFFFFFF ∧ t.rd Fl.CIM_EVENT_FOREIGN_INJ.bit = 1 := by
  obtain ⟨hon, -⟩ := State.isoMay_on hmay
  let s1 : State := { s with cim.foreign := true, cim.listening := false }
  let s2 : State := s1.isoMarker.flag Fl.CIM_EVENT_FOREIGN_INJ {}
  have hnoted := s1.isoMarker.flag_noted Fl.CIM_EVENT_FOREIGN_INJ {}
  have hforeign : s2.cim.foreign = true := congrArg CimState.foreign hnoted.cim
  have hmay2 : s2.isoMay = true := hnoted.isoMay.trans (s1.isoMarker_isoMay.trans hmay)
  refine ⟨s2.isoRole, congrArg Host.Outcome.next ((if_neg (by simp [hon])).trans ((if_neg (by simp [hmay])).trans
    ((if_pos (by simp [hlisten])).trans (if_pos rfl)))), ?_, (s2.rd_isoRole_ne (by decide)).trans ?_, (s2.rd_isoRole_ne (by decide)).trans ?_⟩
  · exact (congrArg (fun u : State => u.cim.foreign) (State.isoListen_stays hmay2 (.inr hforeign))).trans hforeign
  · exact (hnoted.regs _ (by decide)).trans s1.isoMarker_shows.1
  · exact State.flag_bit _ _ _

/-- One that hears none becomes the injector. -/
theorem isoHalfPeriodEnd_alone : ∃ t, exec (.isoHalfPeriodEnd dv rp ce vp vn false) s = .next t ∧ t.cim.foreign = false ∧
    t.cim.listening = false ∧ t.cim.firstHalf = none ∧ t.rd F.CIM_ISO_STATUS_ROLE = 1 := by
  obtain ⟨hon, -⟩ := State.isoMay_on hmay
  let s1 : State := { s with cim.listening := false, cim.foreign := false, cim.positive := true, cim.firstHalf := none }
  let s2 : State := s1.wrB F.CIM_ISO_STATUS_SOURCE_PSU_B (!s.isOn F.PWR_AUX_STATUS_PSU_A_OK)
  let s3 : State := s2.wr F.CIM_ISO_STATUS_ROLE 1
  have hrole : s3.rd F.CIM_ISO_STATUS_ROLE = 1 := State.rd_wr_same _ _ _
  have hnoted : State.Noted [F.CIM_ISO_STATUS_SOURCE_PSU_B.key, F.CIM_ISO_STATUS_ROLE.key] s1 s3 :=
    (State.Noted.wr s1 _ _ (by decide)).trans (.wr s2 _ _ (by decide))
  have hin : s3.isoInjects = true := s3.isoInjects_iff.2 ⟨hnoted.isoMay.trans hmay, rfl, rfl⟩
  refine ⟨s3.isoRole, congrArg Host.Outcome.next ((if_neg (by simp [hon])).trans ((if_neg (by simp [hmay])).trans
    ((if_pos (by simp [hlisten])).trans (if_neg nofun)))), ?_⟩
  rw [State.isoRole_injector hin hrole]
  exact ⟨rfl, rfl, rfl, State.rd_wr_same _ _ _⟩

end

/-! ### Aged results and a silent bank (R165, R167, R169) -/

theorem isoResultAge_marks (s : State) : ∃ t, exec .isoResultAge s = .next t ∧ t.rd F.CIM_ISO_RP_VALUE = 0xFFFFFFFF ∧
    t.rd F.CIM_ISO_RPOS_VALUE = 0xFFFFFFFF ∧ t.rd F.CIM_ISO_RNEG_VALUE = 0xFFFFFFFF ∧
    t.rd F.CIM_ISO_STATUS_ALARM = s.rd F.CIM_ISO_STATUS_ALARM ∧ t.rd F.CIM_ISO_STATUS_WARN = s.rd F.CIM_ISO_STATUS_WARN := by
  obtain ⟨hrp, hpos, hneg⟩ := s.isoMarker_shows
  have hage : ∀ {f : Field}, f.key ≠ F.CIM_ISO_STATUS_AGE_S.key → (s.isoMarker.wr F.CIM_ISO_STATUS_AGE_S 121).rd f = s.isoMarker.rd f :=
    fun hf => State.rd_wr_ne _ _ _ _ hf
  exact ⟨_, rfl, (hage (by decide)).trans hrp, (hage (by decide)).trans hpos, (hage (by decide)).trans hneg,
    (hage (by decide)).trans (s.isoMarker_frame _ (by decide)), (hage (by decide)).trans (s.isoMarker_frame _ (by decide))⟩

theorem bankIsoTimeout_fresh {s : State} (hfresh : s.bankFresh = true) : exec .bankIsoTimeout s = .next s :=
  congrArg Host.Outcome.next (if_neg (by simp [hfresh]))

/-- The lowest closed follower of a silent bank becomes candidate, and listens (R169, R170). -/
def State.asCandidate (s : State) : State :=
  if s.lowestFollower then { s with cim.candidate := true, cim.listening := true, cim.foreign := false } else s

/-- A candidate may inject wherever the monitor is on. -/
theorem State.isoMay_of_candidate {s : State} (h : s.cim.candidate = true) :
    s.isoMay = (s.isOn F.CIM_ISO_CTRL_ENABLE && s.rd F.PWR_STATE_STATE != 4) := by
  simp [State.isoMay, h]

theorem bankIsoTimeout_silent {s : State} (hbank : s.isoBank = true) (hpos : s.bankPos ≠ 0) (hfresh : s.bankFresh = false) :
    ∃ t, exec .bankIsoTimeout s = .next t ∧ t.rd F.CIM_ISO_RP_VALUE = 0xFFFFFFFF ∧
      (s.lowestFollower = true → t.cim.candidate = true ∧ t.cim.listening = (s.isOn F.CIM_ISO_CTRL_ENABLE && s.rd F.PWR_STATE_STATE != 4)) := by
  refine ⟨s.asCandidate.isoMarker.isoRole, congrArg Host.Outcome.next (if_pos (by simp [hbank, hpos, hfresh])),
    (State.rd_isoRole_ne _ (by decide)).trans s.asCandidate.isoMarker_shows.1, fun hlowest => ?_⟩
  have hcand : s.asCandidate = { s with cim.candidate := true, cim.listening := true, cim.foreign := false } := if_pos hlowest
  rw [hcand]
  refine ⟨(State.isoRole_cim _).2, (State.isoRole_listening rfl).trans ?_⟩
  rw [State.isoMarker_isoMay]
  exact State.isoMay_of_candidate rfl

/-! ### Commands (R172) -/

section
variable {s : State} {h : Hdr}

theorem cimStatus_tells (a : s.Allowed 0x020A rObserver h) : ∃ t, exec (.cimStatus h) s = .next t ∧ s.Told t 0x020A h
    (s.words [0x60010, 0x60014, 0x60018, 0x6001C, 0x60020, 0x60030, 0x60034, 0x60040, 0x60044, 0x60048, 0x6004C, 0x60050]) :=
  ⟨_, congrArg Host.Outcome.next (State.command_answers a nofun rfl), State.answer_ret _ _ _ _ _ _⟩

theorem isoMeasureNow_restarts (a : s.Allowed 0x020B rMaintainer h) (hin : s.isoInjects = true) : ∃ t, exec (.isoMeasureNow h) s = .next t ∧
    ({ s with cim.positive := true, cim.firstHalf := none, cim.discards := 0 } : State).Done t 0x020B h .ok [] :=
  ⟨_, congrArg Host.Outcome.next (State.command_answers a nofun (if_pos hin)), State.answer_done _ _ _ _ _ _⟩

theorem isoMeasureNow_busy (a : s.Allowed 0x020B rMaintainer h) (hin : s.isoInjects = false) :
    exec (.isoMeasureNow h) s = .next (s.refuseCmd 0x020B rMaintainer h .busy) :=
  congrArg Host.Outcome.next (State.command_answers (r := .refuse .busy) a nofun (if_neg (by simp [hin])))

theorem isoSetThresh_keeps {warn alarm : Nat} (a : s.Allowed 0x020C rOperator h) (h10 : 10 ≤ alarm) (hle : alarm ≤ warn) (hmax : warn ≤ 50000) :
    ∃ t, exec (.isoSetThresh h warn alarm) s = .next t ∧
      ((s.wrKeep F.CIM_ISO_CFG_WARN_KOHM warn).wrKeep F.CIM_ISO_CFG_ALARM_KOHM alarm).Done t 0x020C h .ok [] := by
  have hbad : (!inR 10 50000 warn || !inR 10 50000 alarm || decide (warn < alarm)) = false := by
    simp [inR, h10, hle, hmax, h10.trans hle, hle.trans hmax]
  exact ⟨_, congrArg Host.Outcome.next (State.command_answers a (by simpa using hbad) rfl), State.answer_done _ _ _ _ _ _⟩

end

/-- Settles O27: each clause is the lemma of its command, event or threshold. -/
theorem insulationCommandsAndResults : Obligations.InsulationCommandsAndResults := by
  unfold Obligations.InsulationCommandsAndResults
  exact ⟨fun _ _ a => cimStatus_tells a,
    fun _ _ a hin => isoMeasureNow_restarts a hin,
    fun _ _ a hin => isoMeasureNow_busy a hin,
    fun _ _ _ _ a h10 hle hmax => isoSetThresh_keeps a h10 hle hmax,
    fun _ _ _ _ _ _ _ hoff => isoHalfPeriodEnd_off hoff,
    fun _ _ _ _ _ _ _ hin hdv => isoHalfPeriodEnd_discards hin hdv,
    fun _ _ _ _ _ _ _ hin hdv hfirst => isoHalfPeriodEnd_first hin hdv hfirst,
    fun _ _ _ _ _ _ _ _ hin hdv hfirst => isoHalfPeriodEnd_publishes hin hdv hfirst,
    fun _ _ _ _ _ _ hmay hlisten => ⟨isoHalfPeriodEnd_hears hmay hlisten, isoHalfPeriodEnd_alone hmay hlisten⟩,
    isoResultAge_marks,
    fun _ hbank hpos => ⟨bankIsoTimeout_fresh, bankIsoTimeout_silent hbank hpos⟩,
    State.isoJudge_setsAlarm, State.isoJudge_setsWarn, State.isoJudge_clearsAlarm⟩

end Sys2Proof.Machine
end

section
/-! PROOFS. The commands of the state engine (R191, R196, R200–R202, R205–R212): what each finds, and where it leads. -/

namespace Sys2Proof.Machine

-- One proof after another: a thread for each would not fit the memory of the check.
set_option Elab.async false

theorem numbersFrom_length (a n : Nat) : (numbersFrom a n).length = n := by
  induction n generalizing a with
  | zero => rfl
  | succ n ih => rw [numbersFrom, List.length_cons, ih]

/-- Ending an operation leaves the state engine alone. -/
theorem State.finish_se (s : State) (op key : Nat) (st : Status) (res : List Int) : (s.finish op key st res).se = s.se :=
  (congrArg State.se (s.finish_frame op key st res).1 :)

@[simp] theorem State.seSlot_setSeSlot (s : State) (k : Nat) (x : SeSlot) : (s.setSeSlot k x).seSlot k = x := Tbl.get_put_same _ _ _ _

theorem State.seSlot_setSeSlot_ne (s : State) {k j : Nat} (x : SeSlot) (h : j ≠ k) : (s.setSeSlot k x).seSlot j = s.seSlot j :=
  Tbl.get_put_ne _ _ _ _ _ h

/-- A slot asked to stop no longer waits for a commit (R202). -/
theorem State.seDisable_slot (s : State) (k : Nat) :
    (s.seDisable k).seSlot k = { s.seSlot k with disabling := true, committing := false } := by
  have hset : ∀ x : SeSlot, (s.setSeSlot k x).seSlot k = x := s.seSlot_setSeSlot k
  unfold State.seDisable
  extract_lets x s1
  split
  · exact (congrArg (fun e : SeState => Tbl.get ({} : SeSlot) e.slots k) (s1.finish_se _ _ _ _)).trans (hset _)
  · exact hset _

/-- Two checks that pass, as the list that `command` takes. -/
theorem checks_pass {b c : Bool} {st st' : Status} (hb : b = false) (hc : c = false) : ∀ x ∈ [(b, st), (c, st')], x.1 = false := by
  simp [hb, hc]

section
variable {s : State} {h : Hdr} {k : Nat}

/-! ### Kernels (R181–R183, R196, R200, R202) -/

theorem seKernelLoad_loads {b : List Byte} (a : s.Allowed 0x0F01 rMaintainer h) (hdesc : descBad b = false)
    (hlen : b.length = 64 + 8 * (parseDesc b).coefs + 128 * (parseDesc b).instances) (hcoef : coefBad b (parseKernel b).1 = false)
    (hinst : instBad b (parseDesc b) = false) (hslot : hostSlot k = true) (hrange : s.descRange k (parseDesc b) = false)
    (hfw : s.fwOwns = false) (hfree : (s.seSlot k).committing = false) (hlane : s.isOn F.SE_STATUS_LANE_FAULT = false)
    (hroom : s.seRoom k (parseDesc b) = true) (hadm : s.admits k (parseDesc b) = true) :
    ∃ t, exec (.seKernelLoad h k b) s = .next t ∧
      ((s.setSeSlot k { s.seSlot k with shadow := some (parseKernel b) }).wr (F.SE_KSTAT_SHADOW k) 1).Done t 0x0F01 h .ok [] := by
  have hkern : (parseKernel b).1.desc = parseDesc b := rfl
  refine ⟨_, congrArg Host.Outcome.next (State.command_answers a (by simp [hkern, hdesc, hlen, hcoef, hinst, hslot, hrange]) ?_),
    State.answer_done _ _ _ _ _ _⟩
  exact (if_neg (by simp [hfw, hfree])).trans ((if_neg (by simp [hlane])).trans (if_neg (by simp [hkern, hroom, hadm])))

section
variable (a : s.Allowed 0x0F02 rMaintainer h) (hslot : hostSlot k = true)
include a hslot

theorem seKernelCommit_noShadow (hnone : (s.seSlot k).shadow = none) :
    exec (.seKernelCommit h k) s = .next (s.refuseCmd 0x0F02 rMaintainer h .state) :=
  congrArg Host.Outcome.next (State.command_answers (r := .refuse .state) a (by simp [hslot]) (by simp only [hnone]))

theorem seKernelCommit_waits {q : SeKernel} {l : List SeInst} (hfw : s.fwOwns = false) (hshadow : (s.seSlot k).shadow = some (q, l))
    (hadm : s.admits k q.desc = true) (hfree : (s.seSlot k).committing = false) :
    ∃ t, exec (.seKernelCommit h k) s = .next t ∧ (s.setSeSlot k { s.seSlot k with committing := true }).Accepted t 0x0F02 h k [] := by
  refine ⟨_, congrArg Host.Outcome.next (State.command_answers a (by simp [hslot]) ?_), State.answer_accept _ _ _ _ _ _ _⟩
  simp [hshadow, hfw, hfree, hadm]

theorem seKernelCommit_busy (hshadow : (s.seSlot k).shadow ≠ none) (hwaits : (s.seSlot k).committing = true) :
    exec (.seKernelCommit h k) s = .next (s.refuseCmd 0x0F02 rMaintainer h .busy) := by
  obtain ⟨⟨q, l⟩, hq⟩ := Option.ne_none_iff_exists'.1 hshadow
  exact congrArg Host.Outcome.next (State.command_answers (r := .refuse .busy) a (by simp [hslot]) (by simp [hq, hwaits]))

end

theorem seKernelDisable_asks (a : s.Allowed 0x0F03 rMaintainer h) (hslot : hostSlot k = true) (hfw : s.fwOwns = false) :
    ∃ t, exec (.seKernelDisable h k) s = .next t ∧ (s.seDisable k).Done t 0x0F03 h .ok [] ∧ (t.seSlot k).disabling = true ∧
      (t.seSlot k).committing = false := by
  have hdone := State.answer_done s (s.seDisable k) 0x0F03 rMaintainer h []
  have hrest := hdone.1.rest
  refine ⟨_, congrArg Host.Outcome.next (State.command_answers a (by simp [hslot]) (if_neg (by simp [hfw]))), hdone, ?_⟩
  rw [hrest]
  show ((s.seDisable k).seSlot k).disabling = true ∧ ((s.seDisable k).seSlot k).committing = false
  rw [State.seDisable_slot]
  exact ⟨rfl, rfl⟩

/-! ### Gain tables (R191, R193) -/

/-- The table `k` with a load that comes into force at the next step (R193). -/
def State.tableWaits (s : State) (k l : Nat) (idx : List Nat) (b1 b2 g : List Int) : State :=
  { s with se.tables := Tbl.put s.se.tables k { Tbl.get ({} : SeTab) s.se.tables k with
      next := some { bp1 := b1, bp2 := b2, s := idx.length, grid := g }, nextList := (l, idx) } }

section
variable {l : Nat} {idx : List Nat} {b1 b2 g : List Int}

/-- The operands of a table load that are in form and in range. -/
structure State.TableFits (s : State) (k l : Nat) (idx : List Nat) (b1 b2 g : List Int) : Prop where
  len1 : b1.length = 32
  len2 : b2.length = 16
  lenG : g.length = 512 * idx.length
  asc1 : ascending b1 = true
  asc2 : ascending b2 = true
  table : 6 ≤ k ∧ k ≤ 7
  list : 6 ≤ l ∧ l ≤ 7
  count : 1 ≤ idx.length ∧ idx.length ≤ 64
  listed : s.listBad l idx = false

theorem State.TableFits.pass (f : s.TableFits k l idx b1 b2 g) : ∀ x ∈
    [(b1.length != 32 || b2.length != 16 || g.length != 512 * idx.length || !ascending b1 || !ascending b2, Status.param),
     (!inR 6 7 k || !inR 6 7 l || !inR 1 64 idx.length || s.listBad l idx, Status.range)], x.1 = false := by
  obtain ⟨hlen1, hlen2, hlenG, hasc1, hasc2, htable, hlist, hcount, hlisted⟩ := f
  exact checks_pass (by simp [hlen1, hlen2, hlenG, hasc1, hasc2]) (by simp [hlisted, inR, htable, hlist, hcount])

variable (a : s.Allowed 0x0F04 rMaintainer h) (f : s.TableFits k l idx b1 b2 g) (hfw : s.fwOwns = false)
include a f hfw

theorem seTableLoad_busy (hnext : (Tbl.get ({} : SeTab) s.se.tables k).next ≠ none) :
    exec (.seTableLoad h k l idx b1 b2 g) s = .next (s.refuseCmd 0x0F04 rMaintainer h .busy) :=
  congrArg Host.Outcome.next (State.command_answers (r := .refuse .busy) a f.pass
    (if_pos (by simpa [hfw, Option.isSome_iff_ne_none] using hnext)))

section
variable (hnext : (Tbl.get ({} : SeTab) s.se.tables k).next = none)
include hnext

theorem seTableLoad_waits (hfit : s.otherTables k + idx.length ≤ 512) : ∃ t, exec (.seTableLoad h k l idx b1 b2 g) s = .next t ∧
    (s.tableWaits k l idx b1 b2 g).Accepted t 0x0F04 h k [] :=
  ⟨_, congrArg Host.Outcome.next (State.command_answers a f.pass ((if_neg (by simp [hfw, hnext])).trans (if_neg (by omega)))),
    State.answer_accept _ _ _ _ _ _ _⟩

theorem seTableLoad_full (hfull : 512 < s.otherTables k + idx.length) :
    exec (.seTableLoad h k l idx b1 b2 g) s = .next (s.refuseCmd 0x0F04 rMaintainer h .noResource) :=
  congrArg Host.Outcome.next (State.command_answers (r := .refuse .noResource) a f.pass ((if_neg (by simp [hfw, hnext])).trans (if_pos hfull)))

end

end

/-! ### Instance records (R190, R201) -/

theorem seInstanceRead_tells {first n : Nat} (a : s.Allowed 0x0F05 rObserver h) (hk : k ≤ 15) (h1 : 1 ≤ n) (h64 : n ≤ 64)
    (hin : first + n ≤ (s.seInsts k).length) : ∃ t, exec (.seInstanceRead h k first n) s = .next t ∧
    s.Told t 0x0F05 h ((s.seBank k : Int) :: (cut (s.seInsts k) first n).flatMap SeInst.words) :=
  ⟨_, congrArg Host.Outcome.next (State.command_answers a (by simp [inR, hk, h1, h64, hin]) rfl), State.answer_ret _ _ _ _ _ _⟩

/-- The words of a kernel's records that are states: all 16 while the slot has no kernel. -/
def State.stateWords (s : State) (k : Nat) : Nat := match (s.seSlot k).kern with
  | some q => q.desc.n
  | none => 16

/-- The record `i` of a slot with the states and parameters that are given. -/
def State.instWritten (s : State) (k i : Nat) (x p : Option (List Int)) : SeInst :=
  { (s.seInsts k).getD i {} with
    x := (x.map (usedWords (s.stateWords k))).getD ((s.seInsts k).getD i {}).x
    par := p.getD ((s.seInsts k).getD i {}).par, frozen := false, corrupt := false }

/-- Words that are given in their full number are in form. -/
theorem any_wrongLength {x : Option (List Int)} {m : Nat} (hx : ∀ l, x = some l → l.length = m) :
    x.any (fun l => l.length != m) = false := by
  cases x with
  | none => rfl
  | some l => simp [hx l rfl]

theorem seInstanceWrite_writes {i : Nat} {x p : Option (List Int)} (a : s.Allowed 0x0F06 rMaintainer h)
    (hgiven : (x.isSome || p.isSome) = true) (hx : ∀ l, x = some l → l.length = 16) (hp : ∀ l, p = some l → l.length = 4)
    (hslot : hostSlot k = true) (hi : i < (s.seInsts k).length) (hfw : s.fwOwns = false) :
    ∃ t, exec (.seInstanceWrite h k i x p) s = .next t ∧
      (s.setSeInsts k ((s.seInsts k).set i (s.instWritten k i x p))).Done t 0x0F06 h .ok [] := by
  have hsome : (x.isNone && p.isNone) = false := by
    rw [← Option.not_isSome, ← Option.not_isSome, ← Bool.not_or, hgiven]
    rfl
  have hform : ((x.isNone && p.isNone) || x.any (fun l => l.length != 16) || p.any (fun l => l.length != 4)) = false := by
    rw [hsome, any_wrongLength hx, any_wrongLength hp]
    rfl
  have hrange : (!hostSlot k || decide ((s.seInsts k).length ≤ i)) = false := by simpa [hslot] using hi
  exact ⟨_, congrArg Host.Outcome.next (State.command_answers a (checks_pass hform hrange) (if_neg (by simp [hfw]))),
    State.answer_done _ _ _ _ _ _⟩

/-! ### Generator (R205, R206) -/

section
variable {w : Nat} {amp : Int} {f1 f2 len chip st : Nat} {ramp : Bool}
variable (a : s.Allowed 0x0F07 rMaintainer h) (hw : w ≤ 4) (hf1 : w = 1 ∨ w = 2 → freqOk f1 = true)
  (hf2 : w = 2 → freqOk f2 = true ∧ 0 < len) (hchip : w = 3 → 1 ≤ chip ∧ chip ≤ 256) (hst : s.plumbIdx + 2 ≤ st)

include hf1 hf2 hchip hst in
/-- A signal whose frequencies, length and chip suit its waveform, with a start far enough ahead, is in range. -/
theorem State.signalInRange : (((w == 1 || w == 2) && !freqOk f1) || (w == 2 && (!freqOk f2 || len == 0)) || (w == 3 && !inR 1 256 chip) ||
    !s.startOk st) = false := by
  have hstart : s.startOk st = true := decide_eq_true hst
  have h1 : ((w == 1 || w == 2) && !freqOk f1) = false := by simpa using hf1
  have h2 : (w == 2 && (!freqOk f2 || len == 0)) = false := by simpa [Nat.pos_iff_ne_zero] using hf2
  have h3 : (w == 3 && !inR 1 256 chip) = false := by simpa [inR] using hchip
  simp [h1, h2, h3, hstart]

include a hw hf1 hf2 hchip hst

theorem seInjectStart_starts (hfw : s.fwOwns = false) (hfree : s.isOn F.SE_STATUS_INJ_RUNNING = false) :
    ∃ t, exec (.seInjectStart h w amp f1 f2 len chip st ramp) s = .next t ∧
      (s.genLoad 3 w amp f1 f2 len (max 1 chip) st ramp).Accepted t 0x0F07 h 0 [] :=
  ⟨_, congrArg Host.Outcome.next (State.command_answers a (by simpa [hw] using State.signalInRange hf1 hf2 hchip hst)
    (if_neg (by simp [hfw, hfree]))), State.answer_accept _ _ _ _ _ _ _⟩

theorem seInjectStart_busy (hruns : s.isOn F.SE_STATUS_INJ_RUNNING = true) :
    exec (.seInjectStart h w amp f1 f2 len chip st ramp) s = .next (s.refuseCmd 0x0F07 rMaintainer h .busy) :=
  congrArg Host.Outcome.next (State.command_answers (r := .refuse .busy) a (by simpa [hw] using State.signalInRange hf1 hf2 hchip hst)
    (if_pos (by simp [hruns])))

end

theorem seInjectStop_stops (a : s.Allowed 0x0F08 rMaintainer h) (hfw : s.fwOwns = false) :
    ∃ t, exec (.seInjectStop h) s = .next t ∧ (if s.isOn F.SE_STATUS_INJ_RUNNING then s.genStopAsk else s).Done t 0x0F08 h .ok [] := by
  refine ⟨_, congrArg Host.Outcome.next (State.command_answers a nofun ((if_neg (by simp [hfw])).trans ?_)), State.answer_done _ _ _ _ _ _⟩
  exact (apply_ite (CmdRes.done · []) _ _ _).symm

/-! ### Capture (R207–R209) -/

theorem seCaptureArm_arms {sel : List Nat} {p tr ti pre : Nat} (a : s.Allowed 0x0F09 rMaintainer h) (hsel : ∀ w ∈ sel, w < 524288)
    (htr : tr ≤ 2) (h1 : 1 ≤ sel.length) (h8 : sel.length ≤ 8) (hp : p ≤ 15) (hpre : pre < capRows sel.length)
    (hti : tr = 1 → s.plumbIdx + 2 ≤ ti) (hfw : s.fwOwns = false) (hfree : s.isOn F.SE_STATUS_CAP_ARMED = false) :
    ∃ t, exec (.seCaptureArm h sel p tr ti pre) s = .next t ∧
      (s.capArm { sel := sel, pace := p, trig := tr, trigIdx := ti, pre := pre }).Accepted t 0x0F09 h 0 [] := by
  have hform : (sel.any (fun w => decide (524288 ≤ w)) || decide (2 < tr)) = false := by simpa using ⟨hsel, htr⟩
  have hrange : (!inR 1 8 sel.length || decide (15 < p) || decide (capRows sel.length ≤ pre) || (tr == 1 && !s.startOk ti)) = false := by
    simpa [inR, State.startOk] using ⟨⟨⟨⟨h1, h8⟩, hp⟩, hpre⟩, hti⟩
  exact ⟨_, congrArg Host.Outcome.next (State.command_answers a (checks_pass hform hrange) (if_neg (by simp [hfw, hfree]))),
    State.answer_accept _ _ _ _ _ _ _⟩

theorem seCaptureRead_sends (a : s.Allowed 0x0F0A rObserver h) (hfree : s.isOn F.SE_STATUS_CAP_ARMED = false) :
    ∃ t, exec (.seCaptureRead h) s = .next t ∧ s.AnsweredBulk t 0x0F0A h (s.se.cap.rows.flatMap (·.2)) :=
  ⟨_, congrArg Host.Outcome.next (State.command_answers a nofun (if_neg (by simp [hfree]))), State.answer_bulk _ _ _ _ _ _ _ _⟩

theorem seCaptureRead_busy (a : s.Allowed 0x0F0A rObserver h) (hruns : s.isOn F.SE_STATUS_CAP_ARMED = true) :
    exec (.seCaptureRead h) s = .next (s.refuseCmd 0x0F0A rObserver h .busy) :=
  congrArg Host.Outcome.next (State.command_answers (r := .refuse .busy) a nofun (if_pos hruns))

/-! ### Correlation (R210, R211) -/

/-- The empty sums of the bins that a mask enables. -/
def State.corrBins (s : State) (m : Nat) (ks : List Nat) (ti : Nat) : List (Nat × CorrBin) :=
  (numbersFrom 0 8).filterMap fun b =>
    if (m / 2 ^ b % 2 == 1) = true then
      some (b, { k := ks.getD b 0, total := corrTotal (ks.getD b 0) ti, cells := List.replicate (16 * s.segs) {} })
    else none

theorem State.corrBins_keys (s : State) (m : Nat) (ks : List Nat) (ti : Nat) :
    (s.corrBins m ks ti).map (·.1) = (numbersFrom 0 8).filter fun b => decide (m / 2 ^ b % 2 = 1) := by
  unfold State.corrBins
  induction numbersFrom 0 8 with
  | nil => rfl
  | cons b l ih =>
    rw [List.filterMap_cons, List.filter_cons]
    by_cases hb : m / 2 ^ b % 2 = 1
    · simp only [hb, beq_self_eq_true, decide_true, if_true, List.map_cons, ih]
    · simpa only [hb, beq_iff_eq, decide_false, if_false, Bool.false_eq_true] using ih

/-- The correlation unit with empty sums, its results discarded (R210). -/
def State.corrEmpty (s : State) (m : Nat) (ks : List Nat) (ti st : Nat) : State :=
  { s with se.corr := s.corrBins m ks ti, se.corrOut := [], se.corrStart := st, se.corrMaps := [] }

/-- The correlation unit set to integrate, with its registers. -/
def State.corrLoad (s : State) (m : Nat) (ks : List Nat) (ti im st : Nat) : State :=
  (numbersFrom 0 8).foldl (fun s b => s.wr (F.SE_CORR_FREQ_K b) (ks.getD b 0)) ((s.corrEmpty m ks ti st).wrs
    [(F.SE_STATUS_CORR_RUNNING, 1), (F.SE_CORR_CFG_BIN_EN, m), (F.SE_CORR_CFG_T_INT, ti), (F.SE_CORR_CFG_IMIN, im)])

/-- The phase increments of the bins lie beyond the unit's settings. -/
theorem State.corrFreqs_stand (s : State) (ks : List Nat) : State.Stands (fun q => decide (q < 0x700A0 * 32)) State.se s
    ((numbersFrom 0 8).foldl (fun s b => s.wr (F.SE_CORR_FREQ_K b) (ks.getD b 0)) s) :=
  .foldl _ _ (fun s b _ => .wr s _ (decide_eq_false (by simp only [Field.key, F.SE_CORR_FREQ_K]; omega))) s

theorem State.corrLoad_shows (s : State) {m ti im : Nat} (ks : List Nat) (st : Nat) (hm : m ≤ 255) (hti : ti ≤ 3600) (him : im ≤ 4095) :
    (s.corrLoad m ks ti im st).rd F.SE_STATUS_CORR_RUNNING = 1 ∧ (s.corrLoad m ks ti im st).rd F.SE_CORR_CFG_BIN_EN = m ∧
    (s.corrLoad m ks ti im st).rd F.SE_CORR_CFG_T_INT = ti ∧ (s.corrLoad m ks ti im st).rd F.SE_CORR_CFG_IMIN = im ∧
    (s.corrLoad m ks ti im st).se = (s.corrEmpty m ks ti st).se := by
  let s1 : State := (s.corrEmpty m ks ti st).wrs
    [(F.SE_STATUS_CORR_RUNNING, 1), (F.SE_CORR_CFG_BIN_EN, m), (F.SE_CORR_CFG_T_INT, ti), (F.SE_CORR_CFG_IMIN, im)]
  have hstand : State.Stands (fun q => decide (q < 0x700A0 * 32)) State.se s1 (s.corrLoad m ks ti im st) := s1.corrFreqs_stand ks
  have hrun : s1.rd F.SE_STATUS_CORR_RUNNING = 1 % 2 ^ 1 := State.rd_wrs_get _ 0
  have hbins : s1.rd F.SE_CORR_CFG_BIN_EN = m % 2 ^ 8 := State.rd_wrs_get _ 1
  have hint : s1.rd F.SE_CORR_CFG_T_INT = ti % 2 ^ 12 := State.rd_wrs_get _ 2
  have himin : s1.rd F.SE_CORR_CFG_IMIN = im % 2 ^ 12 := State.rd_wrs_get _ 3
  rw [hstand.regs _ (by decide), hstand.regs _ (by decide), hstand.regs _ (by decide), hstand.regs _ (by decide), hrun, hbins, hint, himin,
    hstand.view]
  exact ⟨rfl, Nat.mod_eq_of_lt (by omega), Nat.mod_eq_of_lt (by omega), Nat.mod_eq_of_lt (by omega), rfl⟩

theorem seCorrStart_starts {m ti im st : Nat} {ks : List Nat} (a : s.Allowed 0x0F0B rMaintainer h) (h1 : 1 ≤ m) (h255 : m ≤ 255)
    (hbins : ∀ b, b < 8 → m / 2 ^ b % 2 = 1 → freqOk (ks.getD b 0) = true ∧ 4 ≤ corrPeriods (ks.getD b 0) ti) (hti1 : 1 ≤ ti)
    (hti : ti ≤ 3600) (him : im ≤ 4095) (hst : s.plumbIdx + 2 ≤ st) (hfw : s.fwOwns = false)
    (hfree : s.isOn F.SE_STATUS_CORR_RUNNING = false) :
    ∃ t, exec (.seCorrStart h m ks ti im st) s = .next t ∧ (s.corrLoad m ks ti im st).Accepted t 0x0F0B h 0 [] := by
  have hany : ((numbersFrom 0 8).any fun b => m / 2 ^ b % 2 == 1 &&
      (!freqOk (ks.getD b 0) || decide (corrPeriods (ks.getD b 0) ti < 4))) = false := by
    refine List.any_eq_false.2 fun b hb => ?_
    have hb8 : b < 8 := by simpa using ((mem_numbersFrom 0 8 b).1 hb).2
    by_cases hon : m / 2 ^ b % 2 = 1
    · obtain ⟨hfreq, hper⟩ := hbins b hb8 hon
      simp only [hfreq, Bool.not_true, Bool.false_or, Nat.not_lt.2 hper, decide_false, Bool.and_false, Bool.false_eq_true, not_false_eq_true]
    · simp [hon]
  have hrange : (!inR 1 255 m || !inR 1 3600 ti || decide (4095 < im) || !s.startOk st || (numbersFrom 0 8).any fun b =>
      m / 2 ^ b % 2 == 1 && (!freqOk (ks.getD b 0) || decide (corrPeriods (ks.getD b 0) ti < 4))) = false := by
    rw [hany]
    simp [inR, State.startOk, h1, h255, hti1, hti, him, hst]
  exact ⟨_, congrArg Host.Outcome.next (State.command_answers a (List.forall_mem_singleton.2 hrange) (if_neg (by simp [hfw, hfree]))),
    State.answer_accept _ _ _ _ _ _ _⟩

theorem State.corrStarted_shows {t : State} {m ti im st : Nat} {ks : List Nat} (hacc : (s.corrLoad m ks ti im st).Accepted t 0x0F0B h 0 [])
    (hm : m ≤ 255) (hti : ti ≤ 3600) (him : im ≤ 4095) : t.rd F.SE_STATUS_CORR_RUNNING = 1 ∧ t.rd F.SE_CORR_CFG_BIN_EN = m ∧
      t.rd F.SE_CORR_CFG_T_INT = ti ∧ t.rd F.SE_CORR_CFG_IMIN = im ∧
      t.se.corr.map (·.1) = (numbersFrom 0 8).filter (fun b => decide (m / 2 ^ b % 2 = 1)) ∧ t.se.corrOut = [] ∧ t.se.corrStart = st ∧
      ∃ o, o.opcode = 0x0F0B ∧ o.tag = h.tag ∧ t.hrt.ops = s.hrt.ops ++ [o] := by
  obtain ⟨hrun, hbins, hint, himin, hse⟩ := s.corrLoad_shows ks st hm hti him
  have hstand := hacc.stands
  obtain ⟨-, o, hop, htag, -, hops⟩ := hacc
  have hview : t.se = (s.corrEmpty m ks ti st).se := (congrArg State.se hstand.view :).trans hse
  refine ⟨(hstand.regs _ (by decide)).trans hrun, (hstand.regs _ (by decide)).trans hbins, (hstand.regs _ (by decide)).trans hint,
    (hstand.regs _ (by decide)).trans himin, ?_, ?_, ?_, o, hop, htag, hops⟩
  · rw [hview]; exact s.corrBins_keys m ks ti
  · rw [hview]; rfl
  · rw [hview]; rfl

theorem seCorrRead_tells {b c n : Nat} (a : s.Allowed 0x0F0C rObserver h) (hb : b ≤ 7) (hc : s.cellOk c = true) (h1 : 1 ≤ n)
    (hn : c + n - 1 ≤ 16 * s.segs) :
    ∃ t ws, exec (.seCorrRead h b c n) s = .next t ∧ s.Told t 0x0F0C h ws ∧ ws.length = 1 + 3 * n := by
  refine ⟨_, _, congrArg Host.Outcome.next (State.command_answers a (by simp [hc, hb, hn, Nat.ne_of_gt h1]) rfl), State.answer_ret _ _ _ _ _ _, ?_⟩
  simp [numbersFrom_length, Nat.add_comm, Nat.mul_comm]

theorem seStatus_tells (a : s.Allowed 0x0F0D rObserver h) : ∃ t, exec (.seStatus h) s = .next t ∧
    s.Told t 0x0F0D h (s.words ([0x70000, 0x70004, 0x70008] ++ (numbersFrom 0 16).map fun k => 0x70100 + 4 * k)) :=
  ⟨_, congrArg Host.Outcome.next (State.command_answers a nofun rfl), State.answer_ret _ _ _ _ _ _⟩

end

/-- Settles O32: each clause is its command's lemma. -/
theorem stateEngineCommandsComplete : Obligations.StateEngineCommandsComplete := by
  unfold Obligations.StateEngineCommandsComplete
  refine ⟨fun _ _ _ _ a hdesc hlen hcoef hinst hslot hrange hfw hfree hlane hroom hadm =>
      seKernelLoad_loads a hdesc hlen hcoef hinst hslot hrange hfw hfree hlane hroom hadm,
    fun _ _ _ a hslot hnone => seKernelCommit_noShadow a hslot hnone,
    fun _ _ _ _ _ a hslot hfw hshadow hadm hfree => seKernelCommit_waits a hslot hfw hshadow hadm hfree,
    fun _ _ _ a hslot hshadow hwaits => seKernelCommit_busy a hslot hshadow hwaits,
    fun _ _ _ a hslot hfw => seKernelDisable_asks a hslot hfw,
    fun _ _ _ _ _ _ _ _ a hlen1 hlen2 hlenG hasc1 hasc2 ht6 ht7 hl6 hl7 h1 h64 hlisted hfw => ?_,
    fun _ _ _ _ _ a hk h1 h64 hin => seInstanceRead_tells a hk h1 h64 hin,
    fun _ _ _ _ _ _ a hgiven hx hp hslot hi hfw => seInstanceWrite_writes a hgiven hx hp hslot hi hfw,
    fun _ _ _ _ _ _ _ _ _ _ a hw hf1 hf2 hchip hst hfw =>
      ⟨seInjectStart_starts a hw hf1 hf2 hchip hst hfw, seInjectStart_busy a hw hf1 hf2 hchip hst⟩,
    fun _ _ a hfw => seInjectStop_stops a hfw,
    fun _ _ _ _ _ _ _ a hsel htr h1 h8 hp hpre hti hfw hfree => seCaptureArm_arms a hsel htr h1 h8 hp hpre hti hfw hfree,
    fun _ _ a hfree => seCaptureRead_sends a hfree,
    fun _ _ a hruns => seCaptureRead_busy a hruns,
    fun _ _ _ _ _ _ _ a h1 h255 hbins hti1 hti him hst hfw hfree => ?_,
    fun _ _ _ _ _ a hb hc h1 hn => seCorrRead_tells a hb hc h1 hn,
    fun _ _ a => seStatus_tells a⟩
  · have hfits := State.TableFits.mk hlen1 hlen2 hlenG hasc1 hasc2 ⟨ht6, ht7⟩ ⟨hl6, hl7⟩ ⟨h1, h64⟩ hlisted
    exact ⟨seTableLoad_busy a hfits hfw, seTableLoad_waits a hfits hfw, seTableLoad_full a hfits hfw⟩
  · obtain ⟨t, hexec, hacc⟩ := seCorrStart_starts a h1 h255 hbins hti1 hti him hst hfw hfree
    exact ⟨t, hexec, State.corrStarted_shows hacc h255 hti him⟩

end Sys2Proof.Machine
end

section
/-! PROOFS. Steps of the state engine (R175, R190, R194, R197, R198, R202, R204): banks, bounds, the start of a step and the power-up. -/

namespace Sys2Proof.Machine

-- One proof after another: a thread for each would not fit the memory of the check.
set_option Elab.async false

/-! ### The frame -/

/-- The registers that say what the state engine runs: the words SE_STATUS and SE_COMMIT. -/
def engineKey (q : Nat) : Bool := q / 32 == 0x70000 || q / 32 == 0x70008

theorem engineKey_of_addr {f : Field} (h : 0x7000C ≤ f.addr) : engineKey f.key = false := by
  rw [Bool.eq_false_iff]
  intro hk
  simp only [engineKey, Field.key, Bool.or_eq_true, beq_iff_eq] at hk
  omega

/-- `t` comes from `s` with the engine's registers and its slots as they were. -/
abbrev State.EngineKept (s t : State) : Prop := State.Stands engineKey (fun s => s.se.slots) s t

/-- `t` comes from `s` with the engine's registers as they were. -/
abbrev State.EngineRegs (s t : State) : Prop := State.Stands engineKey (fun _ => ()) s t

theorem State.EngineKept.insts {s t : State} (h : s.EngineKept t) (k : Nat) : t.seBank k = s.seBank k ∧ t.seInsts k = s.seInsts k := by
  have hbank : t.seBank k = s.seBank k := by unfold State.seBank; rw [h.regs _ (by decide)]
  have hslot : t.seSlot k = s.seSlot k := congrArg (fun l => Tbl.get ({} : SeSlot) l k) h.view
  unfold State.seInsts
  rw [hbank, hslot]
  exact ⟨rfl, rfl⟩

section
variable {α : Type} {P : Nat → Bool} {v : State → α} {s t : State}

/-- A note outside `P` stands. -/
theorem State.Stands.of_noted {ks : List Nat} (h : State.Noted ks s t) (hP : ∀ k ∈ ks, P k = false := by decide)
    (hv : ∀ (s : State) r e, v { s with regs := r, recorder := e } = v s := by intros; rfl) : State.Stands P v s t := by
  refine ⟨fun f hf => h.regs f fun hm => (by rw [hP _ hm] at hf; cases hf), ?_⟩
  rw [h.same]
  exact hv ..

theorem State.finish_stands (s : State) (op key : Nat) (st : Status) (res : List Int) (hP : ∀ k ∈ answerKeys, P k = false := by decide)
    (hv : ∀ (s : State) r e x, v { s with regs := r, recorder := e, hrt := x } = v s := by intros; rfl) :
    State.Stands P v s (s.finish op key st res) := by
  obtain ⟨hrest, hregs, -⟩ := s.finish_frame op key st res
  refine ⟨fun f hf => hregs f fun hm => (by rw [hP _ hm] at hf; cases hf), ?_⟩
  rw [show s.finish op key st res = _ from hrest]
  exact hv ..

end

theorem State.flagN_noted (s : State) (fl : Flag) (n : Nat) : State.Noted (flagKeys fl) s (s.flagN fl n) :=
  .ite (.refl s) ((s.flag_noted fl {}).trans (.wr _ _ _ (by simp [flagKeys])))

/-! ### Bits of a word of slots -/

theorem testBit_setBit (w k i : Nat) (on : Bool) : (setBit w k on).testBit i = if i = k then on else w.testBit i := by
  by_cases hik : i = k
  · subst hik
    cases on <;> simp [setBit, testBit_sub_and]
  · cases on <;> simp [setBit, testBit_sub_and, Nat.testBit_two_pow_of_ne (Ne.symm hik), hik]

theorem State.seEnabled_eq (s : State) (k : Nat) : s.seEnabled k = (s.rd F.SE_STATUS_ENABLED).testBit k := by
  rw [Nat.testBit_eq_decide_div_mod_eq]
  rfl

theorem State.seBank_eq (s : State) (k : Nat) : s.seBank k = ((s.rd F.SE_COMMIT_BANK).testBit k).toNat := by
  rw [Nat.toNat_testBit]
  rfl

theorem State.seEnabled_setSeEnabled (s : State) {k j : Nat} (on : Bool) (hj : j < 16) :
    (s.setSeEnabled k on).seEnabled j = if j = k then on else s.seEnabled j := by
  have hrd : (s.setSeEnabled k on).rd F.SE_STATUS_ENABLED = Machine.setBit (s.rd F.SE_STATUS_ENABLED) k on % 2 ^ 16 :=
    (State.rd_wr_ne _ _ _ _ (by decide)).trans (State.rd_wr_same _ _ _)
  rw [State.seEnabled_eq, State.seEnabled_eq, hrd, Nat.testBit_mod_two_pow, testBit_setBit]
  simp [hj]

/-! ### One kernel's step (R179, R180, R190, R198) -/

/-- The records of a slot as its kernel computes them on the values of `base`. -/
def State.newInsts (base s : State) (q : SeKernel) (k n : Nat) : List SeInst :=
  ((s.seInsts k).zip (numbersFrom 0 (s.seInsts k).length)).map fun p => base.seRun q p.2 n p.1

theorem State.newInsts_length (base s : State) (q : SeKernel) (k n : Nat) : (base.newInsts s q k n).length = (s.seInsts k).length := by
  simp [State.newInsts, numbersFrom_length]

/-- The slot `k` with new records in its other bank, which becomes the committed one (R190). -/
def State.bankTurned (s : State) (k : Nat) (l : List SeInst) : State :=
  let s1 := s.setSeSlot k (if s.seBank k = 0 then { s.seSlot k with bank1 := l } else { s.seSlot k with bank0 := l })
  s1.wr F.SE_COMMIT_BANK (Machine.setBit (s1.rd F.SE_COMMIT_BANK) k (s.seBank k == 0))

section
variable (s : State) {k : Nat} (l : List SeInst)

theorem State.bankTurned_bank {j : Nat} (hj : j < 16) : (s.bankTurned k l).seBank j = if j = k then 1 - s.seBank k else s.seBank j := by
  have hrd : (s.bankTurned k l).rd F.SE_COMMIT_BANK = Machine.setBit (s.rd F.SE_COMMIT_BANK) k (s.seBank k == 0) % 2 ^ 16 := State.rd_wr_same _ _ _
  rw [State.seBank_eq, hrd, Nat.testBit_mod_two_pow, testBit_setBit, decide_eq_true hj, Bool.true_and]
  split
  · rw [State.seBank_eq]
    cases (s.rd F.SE_COMMIT_BANK).testBit k <;> rfl
  · exact (s.seBank_eq j).symm

theorem State.bankTurned_insts (hk : k < 16) : (s.bankTurned k l).seInsts k = l := by
  have hslot : (s.bankTurned k l).seSlot k = if s.seBank k = 0 then { s.seSlot k with bank1 := l } else { s.seSlot k with bank0 := l } :=
    s.seSlot_setSeSlot k _
  unfold State.seInsts
  rw [s.bankTurned_bank l hk, if_pos rfl, hslot]
  by_cases hb : s.seBank k = 0
  · simp [hb]
  · have h1 : 1 - s.seBank k = 0 := by omega
    simp [hb, h1]

theorem State.bankTurned_others {j : Nat} (hne : j ≠ k) (hj : j < 16) : (s.bankTurned k l).seInsts j = s.seInsts j := by
  have hslot : (s.bankTurned k l).seSlot j = s.seSlot j := s.seSlot_setSeSlot_ne _ hne
  unfold State.seInsts
  rw [s.bankTurned_bank l hj, if_neg hne, hslot]

end

theorem State.ringBit_engineKept (s : State) (target b : Nat) : s.EngineKept (s.ringBit target b) := by
  refine .trans (.wr s _ (engineKey_of_addr ?_)) (.wr _ _ (engineKey_of_addr ?_))
  · show 0x7000C ≤ 0xe1108 + 256 * (target - 1)
    omega
  · split
    · show 0x7000C ≤ 0xe1140 + 256 * (target - 1) + 4 * (b / 2); omega
    · show 0x7000C ≤ 0xe1140 + 256 * (target - 1) + 4 * (b / 2); omega

theorem State.ringDoorbell_engineKept (s : State) (agent target bits : Nat) : s.EngineKept (s.ringDoorbell agent target bits) := by
  refine .ite ?_ (.foldl _ _ (fun u b _ => .ite (u.ringBit_engineKept target b) (.refl u)) s)
  exact (State.Stands.wrs s _).trans (.of_noted (State.flag_noted _ _ _))

theorem State.capRow_engineKept (s : State) (n : Nat) (row : List Int) : s.EngineKept (s.capRow n row) := by
  unfold State.capRow State.wr64
  extract_lets c rows _ _ s1
  have h1 : s.EngineKept s1 := .of_eq
  exact ((h1.trans (.wr s1 _)).trans (.wr _ _)).trans (.wr _ _)

/-- Beyond the new bank, a kernel's step sets flags, rings its agent and fills a row of a capture (R188, R198, R208). -/
theorem State.seKernelStep_engineKept (base s : State) {k n : Nat} {q : SeKernel} (hq : (s.seSlot k).kern = some q) :
    (s.bankTurned k (base.newInsts s q k n)).EngineKept (base.seKernelStep s k n) := by
  unfold State.seKernelStep
  split
  · next hnone => cases hnone.symm.trans hq
  · next q' hq' =>
    obtain rfl : q' = q := Option.some.inj (hq'.symm.trans hq)
    extract_lets old new b x s1 s2 count s3 s4
    have h3 : s2.EngineKept s3 := (((State.Stands.of_noted (s2.flagN_noted _ _)).trans (.of_noted (State.flagN_noted _ _ _))).trans
      (.of_noted (State.flagN_noted _ _ _))).trans (.of_noted (State.flagN_noted _ _ _))
    have h4 : s3.EngineKept s4 := .ite (s3.ringDoorbell_engineKept _ _ _) (.refl s3)
    exact (h3.trans h4).trans (.ite (s4.capRow_engineKept _ _) (.refl s4))

theorem State.seKernelStep_turns (s : State) {k n : Nat} {q : SeKernel} (hk : k < 16) (hq : (s.seSlot k).kern = some q) :
    (s.seKernelStep s k n).seBank k = 1 - s.seBank k ∧ ((s.seKernelStep s k n).seInsts k).length = (s.seInsts k).length ∧
    (∀ j, j ≠ k → j < 16 → (s.seKernelStep s k n).seInsts j = s.seInsts j) := by
  have hkept := s.seKernelStep_engineKept s (n := n) hq
  refine ⟨?_, ?_, fun j hne hj => (hkept.insts j).2.trans (s.bankTurned_others _ hne hj)⟩
  · rw [(hkept.insts k).1, s.bankTurned_bank _ hk, if_pos rfl]
  · rw [(hkept.insts k).2, s.bankTurned_insts _ hk, s.newInsts_length]

theorem State.seRun_skips (s : State) (q : SeKernel) (i n : Nat) {r : SeInst} (h : r.frozen = true ∨ r.corrupt = true) : s.seRun q i n r = r :=
  if_pos (by simpa using h)

/-- A record that is computed without a gain table either freezes or holds states cut to the kernel's bounds (R180, R186). -/
theorem State.seRun_clamps (s : State) {q : SeKernel} (i n : Nat) {r : SeInst} (hfree : r.frozen = false) (hgood : r.corrupt = false)
    (htab : q.desc.tableEn = false) : (s.seRun q i n r).frozen = true ∨ ∃ xp : Nat → Int,
    (s.seRun q i n r).x = (numbersFrom 0 q.desc.n).map fun j =>
      (clampTo (q.coef.getD (q.desc.offLo + j) (0, 0)).1 (q.coef.getD (q.desc.offHi + j) (0, 0)).1 (xp j)).1 := by
  have hskip : ¬(r.frozen || r.corrupt) = true := by simp [hfree, hgood]
  unfold State.seRun
  rw [if_neg hskip]
  extract_lets _ _ _ _ _ tab _ cs _ _ _ _ _ _ _ xp xc _ _ r1
  have htabs : tab = none := if_neg (by simp [htab])
  have hcs : cs = q.coef := if_neg (by simp [htabs])
  split
  · exact .inl rfl
  · exact .inr ⟨fun j => (xp.getD j (0, {})).1, by simp [r1, xc, hcs]⟩

theorem clampTo_within {lo hi : Int} (x : Int) (h : lo ≤ hi) : lo ≤ (clampTo lo hi x).1 ∧ (clampTo lo hi x).1 ≤ hi := by
  unfold clampTo
  split
  · exact ⟨le_refl lo, h⟩
  · split
    · exact ⟨h, le_refl hi⟩
    · exact ⟨by omega, by omega⟩

theorem State.seRun_within (s : State) {q : SeKernel} (i n : Nat) {j : Nat} {r : SeInst} (hfree : r.frozen = false) (hgood : r.corrupt = false)
    (hj : j < q.desc.n) (htab : q.desc.tableEn = false)
    (hle : (q.coef.getD (q.desc.offLo + j) (0, 0)).1 ≤ (q.coef.getD (q.desc.offHi + j) (0, 0)).1) (hruns : (s.seRun q i n r).frozen = false) :
    (q.coef.getD (q.desc.offLo + j) (0, 0)).1 ≤ (s.seRun q i n r).x.getD j 0 ∧
    (s.seRun q i n r).x.getD j 0 ≤ (q.coef.getD (q.desc.offHi + j) (0, 0)).1 := by
  obtain ⟨xp, hx⟩ := (s.seRun_clamps i n hfree hgood htab).resolve_left (by simp [hruns])
  have hget : (s.seRun q i n r).x.getD j 0 =
      (clampTo (q.coef.getD (q.desc.offLo + j) (0, 0)).1 (q.coef.getD (q.desc.offHi + j) (0, 0)).1 (xp j)).1 := by
    rw [hx, List.getD_eq_getElem?_getD, List.getElem?_map, numbersFrom_getElem? 0 _ j hj, Nat.zero_add]
    rfl
  rw [hget]
  exact clampTo_within _ hle

/-! ### The start of a step (R193, R200, R202) -/

/-- One slot at the start of a step: a disable takes effect, then a commit that is due. -/
def State.seSlotStart (n : Nat) (s : State) (k : Nat) : State :=
  let x := s.seSlot k
  let s1 := if x.disabling then ((s.setSeSlot k { x with disabling := false }).setSeEnabled k false).setBudget else s
  let y := s1.seSlot k
  match y.shadow with
  | some (q, _) => if y.committing && s1.seDue { y with slip := s1.se.slip } q.desc n then s1.seCommit k else s1
  | none => s1

/-- A loaded table comes into force (R193). -/
def State.seTableStart (s : State) (k : Nat) : State :=
  let t := Tbl.get ({} : SeTab) s.se.tables k
  match t.next with
  | none => s
  | some v => ({ s with se.tables := Tbl.put s.se.tables k { cur := some v },
                         se.lists := Tbl.put s.se.lists t.nextList.1 t.nextList.2 } : State).finish 0x0F04 k .ok

/-- The tables at the start of a step, with the budget where one of them is new. -/
def State.seTablesStart (s : State) : State :=
  let s0 := (numbersFrom 0 8).foldl State.seTableStart s
  if (numbersFrom 0 8).any fun k => (Tbl.get ({} : SeTab) s.se.tables k).next.isSome then s0.setBudget else s0

theorem State.seStepStart_eq (s : State) (n : Nat) : s.seStepStart n = (numbersFrom 0 16).foldl (State.seSlotStart n) s.seTablesStart := rfl

theorem State.setBudget_engineKept (s : State) : s.EngineKept s.setBudget := by
  have hkernel : ∀ (u : State) (k n : Nat), u.EngineKept (u.wr (F.SE_KSTAT_CYCLES k) n) := fun u k n =>
    .wr u n (engineKey_of_addr (by show 0x7000C ≤ 0x70100 + 4 * k; omega))
  refine .trans (.wrs s _) (.foldl _ _ (fun u k _ => ?_) _)
  split
  · exact hkernel u k _
  · exact hkernel u k _

theorem State.seTablesStart_engineKept (s : State) : s.EngineKept s.seTablesStart := by
  have htab : s.EngineKept ((numbersFrom 0 8).foldl State.seTableStart s) := by
    refine .foldl _ _ (fun u k _ => ?_) s
    unfold State.seTableStart
    extract_lets t
    split
    · exact .refl u
    · exact .trans .of_eq (State.finish_stands _ _ _ _ _)
  exact .ite (htab.trans (State.setBudget_engineKept _)) htab

/-- What the start of a step asks of a slot and what it shows of it. -/
def State.slotShown (k : Nat) (s : State) : SeSlot × Bool := (s.seSlot k, s.seEnabled k)

/-- `t` comes from `s` with the slots and their enables as they were. -/
abbrev State.SlotsKept (s t : State) : Prop := State.Stands (· == F.SE_STATUS_ENABLED.key) (fun s => s.se.slots) s t

theorem State.EngineKept.slots {s t : State} (h : s.EngineKept t) : s.SlotsKept t := h.mono (fun _ hq => eq_of_beq hq ▸ by decide) id

theorem State.SlotsKept.shown {s t : State} (h : s.SlotsKept t) (k : Nat) : t.slotShown k = s.slotShown k := by
  have hslot : t.seSlot k = s.seSlot k := congrArg (fun l => Tbl.get ({} : SeSlot) l k) h.view
  unfold State.slotShown State.seEnabled
  rw [hslot, h.regs _ (by decide)]

/-- Another slot's records and its enable leave a slot alone. -/
theorem State.setSlot_shown (s : State) {k j : Nat} (x : SeSlot) (on : Bool) (hne : k ≠ j) (hk : k < 16) :
    ((s.setSeSlot j x).setSeEnabled j on).slotShown k = s.slotShown k := by
  have hslot : ((s.setSeSlot j x).setSeEnabled j on).seSlot k = s.seSlot k := s.seSlot_setSeSlot_ne x hne
  have hon : ((s.setSeSlot j x).setSeEnabled j on).seEnabled k = s.seEnabled k :=
    (State.seEnabled_setSeEnabled _ on hk).trans (if_neg hne)
  unfold State.slotShown
  rw [hslot, hon]

theorem State.seCommit_others (s : State) {k j : Nat} (hne : k ≠ j) (hk : k < 16) : (s.seCommit j).slotShown k = s.slotShown k := by
  unfold State.seCommit
  split
  · rfl
  · next q l _ =>
    extract_lets s1 s2 stale
    have hkey : ∀ lo w r, (Field.key ⟨0x70100 + 4 * j, lo, w, r⟩ == F.SE_STATUS_ENABLED.key) = false := fun lo w r =>
      beq_false_of_ne (by simp only [Field.key, F.SE_STATUS_ENABLED]; omega)
    have h2 : (s1.setSeEnabled j true).SlotsKept s2 :=
      .wrs _ _ (by simp only [List.all_cons, List.all_nil, F.SE_KSTAT_FORM, F.SE_KSTAT_SHADOW, hkey]; decide)
    have hstart : (s1.setSeEnabled j true).slotShown k = s.slotShown k := s.setSlot_shown _ true hne hk
    refine (State.SlotsKept.shown ?_ k).trans hstart
    exact ((h2.trans (.wrB s2 _)).trans (State.setBudget_engineKept _).slots).trans (State.finish_stands _ _ _ _ _)

/-- The start of a step at one slot leaves every other slot and its enable alone. -/
theorem State.seSlotStart_others (s : State) (n : Nat) {k j : Nat} (hne : k ≠ j) (hk : k < 16) :
    (s.seSlotStart n j).slotShown k = s.slotShown k := by
  unfold State.seSlotStart
  extract_lets x s1 y
  have h1 : s1.slotShown k = s.slotShown k := by
    unfold s1
    split
    · exact ((State.setBudget_engineKept _).slots.shown k).trans (s.setSlot_shown _ false hne hk)
    · rfl
  split
  · split
    · exact (s1.seCommit_others hne hk).trans h1
    · exact h1
  · exact h1

/-- A slot asked to stop, without a kernel to follow, is off. -/
theorem State.seSlotStart_stops {s : State} (n : Nat) {k : Nat} (hk : k < 16) (hstop : (s.seSlot k).disabling = true)
    (hnone : (s.seSlot k).shadow = none) : (s.seSlotStart n k).seEnabled k = false := by
  unfold State.seSlotStart
  extract_lets x s1 y
  have hs1 : s1 = ((s.setSeSlot k { x with disabling := false }).setSeEnabled k false).setBudget := if_pos hstop
  have hkept := (State.setBudget_engineKept ((s.setSeSlot k { x with disabling := false }).setSeEnabled k false)).slots.shown k
  rw [← hs1] at hkept
  have hslot : y = { x with disabling := false } := (congrArg Prod.fst hkept).trans (s.seSlot_setSeSlot k _)
  have hoff : s1.seEnabled k = false := (congrArg Prod.snd hkept).trans ((State.seEnabled_setSeEnabled _ false hk).trans (if_pos rfl))
  have hshadow : y.shadow = none := by rw [hslot]; exact hnone
  split
  · next hq => cases hshadow.symm.trans hq
  · exact hoff

theorem foldl_slots_keep (f : State → Nat → State) {k : Nat} (l : List Nat) (hl : k ∉ l)
    (hf : ∀ (s : State) j, k ≠ j → (f s j).slotShown k = s.slotShown k) (s : State) : (l.foldl f s).slotShown k = s.slotShown k :=
  List.foldlRecOn (motive := fun t : State => t.slotShown k = s.slotShown k) l f rfl
    fun t ht j hj => (hf t j fun e => hl (e ▸ hj)).trans ht

theorem State.seStepStart_stops {s : State} (n : Nat) {k : Nat} (hk : k < 16) (hstop : (s.seSlot k).disabling = true)
    (hnone : (s.seSlot k).shadow = none) : (s.seStepStart n).seEnabled k = false := by
  obtain ⟨before, after, hsplit⟩ := List.append_of_mem ((mem_numbersFrom 0 16 k).2 ⟨Nat.zero_le k, by simpa using hk⟩)
  have hnodup := numbersFrom_nodup 0 16
  rw [hsplit, List.nodup_middle, List.nodup_cons, List.mem_append, not_or] at hnodup
  obtain ⟨⟨hbefore, hafter⟩, -⟩ := hnodup
  have hothers : ∀ (u : State) j, k ≠ j → (u.seSlotStart n j).slotShown k = u.slotShown k := fun u j hne => u.seSlotStart_others n hne hk
  have hfirst : ((before.foldl (State.seSlotStart n) s.seTablesStart)).slotShown k = s.slotShown k :=
    (foldl_slots_keep _ before hbefore hothers _).trans (s.seTablesStart_engineKept.slots.shown k)
  have hslot := congrArg Prod.fst hfirst
  rw [State.seStepStart_eq, hsplit, List.foldl_append, List.foldl_cons]
  refine (congrArg Prod.snd (foldl_slots_keep _ after hafter hothers _) : _ = _).trans (State.seSlotStart_stops n hk ?_ ?_)
  · exact (congrArg SeSlot.disabling hslot).trans hstop
  · exact (congrArg SeSlot.shadow hslot).trans hnone

/-! ### The step of an instant and one that is stopped (R194, R197) -/

section
variable {s : State}

theorem seStep_shows (hon : s.isOn F.SE_STATUS_POWERED = true) (hidx : s.plumbIdx < 2 ^ 64) :
    ∃ t, exec .seStep s = .next t ∧ t.rd64 F.SE_STEP_IDX_LO_IDX F.SE_STEP_IDX_HI_IDX = s.seInstant := by
  have hlt : s.seInstant < 2 ^ 64 := (Nat.sub_le _ _).trans_lt hidx
  exact ⟨_, congrArg Host.Outcome.next (if_neg (by simp [hon])), (State.rd64_wr64 _ _ (by decide) rfl rfl).1.trans (Nat.mod_eq_of_lt hlt)⟩

theorem seStepOverrun_flags (d : Nat) (hon : s.isOn F.SE_STATUS_POWERED = true) :
    ∃ t, exec (.seStepOverrun d) s = .next t ∧ t.rd Fl.SE_EVENT_OVERRUN.bit = 1 :=
  ⟨_, congrArg Host.Outcome.next (if_neg (by simp [hon])), State.flag_bit _ _ _⟩

theorem seStep_off (hoff : s.isOn F.SE_STATUS_POWERED = false) : exec .seStep s = .next s :=
  congrArg Host.Outcome.next (if_pos (by simp [hoff]))

theorem seStepOverrun_off (d : Nat) (hoff : s.isOn F.SE_STATUS_POWERED = false) : exec (.seStepOverrun d) s = .next s :=
  congrArg Host.Outcome.next (if_pos (by simp [hoff]))

end

/-! ### Power-up (R175, R204, R219, R313) -/

theorem State.seLoadFw_engineRegs (s : State) (k : Nat) (q : SeKernel) (l : List SeInst) : s.EngineRegs (s.seLoadFw k q l) :=
  .ite (.trans .of_eq (.wr _ _ (engineKey_of_addr (by show 0x7000C ≤ 0x70100 + 4 * k; omega)))) (.refl s)

theorem State.seDisable_engineRegs (s : State) (k : Nat) : s.EngineRegs (s.seDisable k) :=
  .ite (.trans .of_eq (State.finish_stands _ _ _ _ _)) .of_eq

theorem State.thmMode_engineRegs (s : State) : s.EngineRegs s.thmMode := by
  unfold State.thmMode
  refine .ite ?_ ?_
  · extract_lets s1
    have h1 : s.EngineRegs s1 := .ite (.refl s) (s.seLoadFw_engineRegs _ _ _)
    exact .ite h1 (h1.trans (State.seLoadFw_engineRegs _ _ _ _))
  · extract_lets s1
    have h1 : s.EngineRegs s1 := .ite (s.seDisable_engineRegs 1) (.refl s)
    exact .ite (h1.trans (State.seDisable_engineRegs _ _)) h1

theorem State.estCommit_engineRegs (s : State) (l : List SeInst) : s.EngineRegs (s.estCommit l) :=
  .ite (.trans .of_eq (State.seLoadFw_engineRegs _ _ _ _)) (.refl s)

theorem State.estUnpark_engineRegs (s : State) : s.EngineRegs s.estUnpark := .ite ((s.estCommit_engineRegs _).trans .of_eq) (.refl s)

theorem State.estRestore_engineRegs (s : State) : s.EngineRegs s.estRestore := by
  unfold State.estRestore
  extract_lets std all _ s1 s2 _
  have h1 : s.EngineRegs s1 := .of_eq
  exact .ite (.refl s) ((h1.trans (State.estCommit_engineRegs _ _)).trans .of_eq)

theorem State.seLost_shows (s : State) : s.seLost.rd F.SE_STATUS_POWERED = 0 ∧ s.seLost.rd F.SE_STATUS_ENABLED = 0 := by
  unfold State.seLost
  extract_lets s1
  rw [State.wrs_append]
  have hkernels : ∀ f : Field, engineKey f.key = true → ∀ u : State, (u.wrs ((numbersFrom 0 16).flatMap fun k =>
      [(F.SE_KSTAT_FORM k, 0), (F.SE_KSTAT_SHADOW k, 0), (F.SE_KSTAT_CYCLES k, 0)])).rd f = u.rd f := fun f hf u =>
    (State.Stands.wrs (P := engineKey) (v := fun _ => ()) u _ (by decide)).regs f hf
  rw [hkernels _ (by decide), hkernels _ (by decide)]
  exact ⟨(State.rd_wrs_get _ 1).trans rfl, (State.rd_wrs_get _ 2).trans rfl⟩

/-- The domain is up with its lanes good, and THM has written the NTC map (R311). -/
def State.lanesPassed (s : State) : State :=
  ({ s with se.ntcMap := s.ntcMap } : State).wrs [(F.SE_STATUS_POWERED, 1), (F.SE_STATUS_LANE_FAULT, 0)]

/-- EST and THM load their kernels (R219, R220, R313). -/
def State.kernelsLoaded (s : State) : State :=
  (if !s.est.parked then s.estRestore else if s.closed || s.safe.closing ≠ .idle then s.estUnpark else s).thmMode.setFloor

theorem State.lanesPassed_shows (s : State) : s.lanesPassed.rd F.SE_STATUS_ENABLED = s.rd F.SE_STATUS_ENABLED ∧
    s.lanesPassed.rd F.SE_STATUS_POWERED = 1 ∧ s.lanesPassed.rd F.SE_STATUS_LANE_FAULT = 0 :=
  ⟨State.rd_wrs_ne { s with se.ntcMap := s.ntcMap } _ [(F.SE_STATUS_POWERED, 1), (F.SE_STATUS_LANE_FAULT, 0)] (by decide),
    (State.rd_wrs_get _ 0).trans rfl, (State.rd_wrs_get _ 1).trans rfl⟩

theorem State.kernelsLoaded_engineRegs (s : State) : s.EngineRegs s.kernelsLoaded :=
  State.Stands.trans (.trans (.ite s.estRestore_engineRegs (.ite s.estUnpark_engineRegs (.refl s))) (State.thmMode_engineRegs _)) (.wr _ _)

section
variable (s : State)

theorem sePowerUp_passes : ∃ t, exec (.sePowerUp true) s = .next t ∧ t.rd F.SE_STATUS_ENABLED = 0 ∧ t.rd F.SE_STATUS_POWERED = 1 ∧
    t.rd F.SE_STATUS_LANE_FAULT = 0 := by
  obtain ⟨hen, hpow, hlane⟩ := s.seLost.lanesPassed_shows
  have hend := s.seLost.lanesPassed.kernelsLoaded_engineRegs
  exact ⟨s.seLost.lanesPassed.kernelsLoaded, congrArg Host.Outcome.next (if_pos rfl), (hend.regs _ (by decide)).trans (hen.trans s.seLost_shows.2),
    (hend.regs _ (by decide)).trans hpow, (hend.regs _ (by decide)).trans hlane⟩

theorem sePowerUp_fails : ∃ t, exec (.sePowerUp false) s = .next t ∧ t.rd F.SE_STATUS_ENABLED = 0 ∧ t.rd F.SE_STATUS_POWERED = 0 ∧
    t.rd F.SE_STATUS_LANE_FAULT = 1 := by
  have hend : (s.seLost.wr F.SE_STATUS_LANE_FAULT 1).EngineRegs ((s.seLost.wr F.SE_STATUS_LANE_FAULT 1).detail true [7]).setFloor :=
    (State.Stands.of_noted (State.detail_noted _ _ _ _ _ _)).trans (.wr _ _)
  refine ⟨_, rfl, ?_, ?_, ?_⟩
  · exact (hend.regs _ (by decide)).trans ((State.rd_wr_ne _ _ _ _ (by decide)).trans s.seLost_shows.2)
  · exact (hend.regs _ (by decide)).trans ((State.rd_wr_ne _ _ _ _ (by decide)).trans s.seLost_shows.1)
  · exact (hend.regs _ (by decide)).trans (State.rd_wr_same _ _ _)

theorem sePowerUp_shows (b : Bool) : ∃ t, exec (.sePowerUp b) s = .next t ∧ t.rd F.SE_STATUS_ENABLED = 0 ∧
    t.rd F.SE_STATUS_POWERED = (if b then 1 else 0) ∧ (b = true → t.rd F.SE_STATUS_LANE_FAULT = 0) ∧
    (b = false → t.rd F.SE_STATUS_LANE_FAULT = 1) := by
  cases b with
  | true =>
    obtain ⟨t, hexec, hen, hpow, hlane⟩ := sePowerUp_passes s
    exact ⟨t, hexec, hen, hpow, fun _ => hlane, nofun⟩
  | false =>
    obtain ⟨t, hexec, hen, hpow, hlane⟩ := sePowerUp_fails s
    exact ⟨t, hexec, hen, hpow, nofun, fun _ => hlane⟩

end

end Sys2Proof.Machine
end

section
/-! PROOFS. The generator, the capture and the correlation unit (R205, R208, R211), and the state engine's events as a whole. -/

namespace Sys2Proof.Machine

-- One proof after another: a thread for each would not fit the memory of the check.
set_option Elab.async false

section
variable {s : State}

/-! ### Generator (R205) -/

theorem injectStartIndex_starts (hon : s.isOn F.SE_STATUS_INJ_RUNNING = true) (hidle : s.se.gen.running = false) :
    exec .injectStartIndex s = .next s.genStart :=
  congrArg Host.Outcome.next (if_pos (by simp [hon, hidle]))

theorem State.genStop_stops (s : State) (st : Status) : (s.genStop st).se.gen = {} ∧ (s.genStop st).rd F.SE_STATUS_INJ_RUNNING = 0 ∧
    (s.genStop st).rd F.SE_STATUS_INJ_OWNER = 0 := by
  let s1 : State := (s.setGen {}).wrs [(F.SE_STATUS_INJ_RUNNING, 0), (F.SE_STATUS_INJ_OWNER, 0), (F.SE_INJ_CFG_WAVE, 0)]
  have hend : State.Stands engineKey (fun s => s.se.gen) s1 (s.genStop st) := s1.finish_stands _ _ _ _
  exact ⟨hend.view, (hend.regs _ (by decide)).trans ((State.rd_wrs_get _ 0).trans rfl),
    (hend.regs _ (by decide)).trans ((State.rd_wrs_get _ 1).trans rfl)⟩

theorem chirpEnd_stops (hruns : s.se.gen.running = true) (hwave : s.rd F.SE_INJ_CFG_WAVE = 2) (hlen : s.rd F.SE_INJ_LEN_VALUE ≤ s.se.gen.i) :
    ∃ t, exec .chirpEnd s = .next t ∧ t.se.gen = {} ∧ t.rd F.SE_STATUS_INJ_RUNNING = 0 ∧ t.rd F.SE_STATUS_INJ_OWNER = 0 :=
  ⟨_, congrArg Host.Outcome.next (if_pos (by simp [hruns, hwave, hlen])), s.genStop_stops .ok⟩

/-! ### Capture (R208) -/

theorem captureTrigger_sets (harmed : s.isOn F.SE_STATUS_CAP_ARMED = true) :
    exec .captureTrigger s = .next (s.wr F.SE_CAP_STATUS_TRIGGERED 1) :=
  congrArg Host.Outcome.next (if_pos harmed)

theorem captureTrigger_off (hfree : s.isOn F.SE_STATUS_CAP_ARMED = false) : exec .captureTrigger s = .next s :=
  congrArg Host.Outcome.next (if_neg (by simp [hfree]))

/-- A unit that is done clears its bit of SE_STATUS, sets its flag and ends its command. -/
theorem State.unitDone_shows (s : State) {f : Field} {fl : Flag} (op : Nat) (hf : f.key ∉ flagKeys fl ++ answerKeys := by decide)
    (hbit : fl.bit.key ∉ answerKeys := by decide) (hw : fl.bit.width = 1 := by rfl) (hne : fl.cnt.key ≠ fl.bit.key := by decide)
    (hrec : fl.bit.key ∉ recordKeys := by decide) : let t := ((s.wr f 0).flag fl {}).finish op 0 .ok
    t.rd f = 0 ∧ t.rd fl.bit = 1 ∧ t.se = s.se := by
  rw [List.mem_append, not_or] at hf
  obtain ⟨hflag, hans⟩ := hf
  obtain ⟨-, hend, -⟩ := ((s.wr f 0).flag fl {}).finish_frame op 0 .ok []
  have hnote := (s.wr f 0).flag_noted fl {}
  refine ⟨?_, (hend _ hbit).trans (State.flag_bit _ _ _ hw hne hrec), ?_⟩
  · exact (hend _ hans).trans ((hnote.regs _ hflag).trans ((State.rd_wr_same _ _ _).trans (Nat.zero_mod _)))
  · exact (State.finish_se _ _ _ _ _).trans (by rw [hnote.same]; rfl)

theorem capDone_ends (harmed : s.isOn F.SE_STATUS_CAP_ARMED = true) (htrig : s.isOn F.SE_CAP_STATUS_TRIGGERED = true)
    (hfull : capRows s.se.cap.sel.length ≤ s.se.cap.rows.length) :
    ∃ t, exec .capDone s = .next t ∧ t.rd F.SE_STATUS_CAP_ARMED = 0 ∧ t.rd Fl.SE_EVENT_CAP_DONE.bit = 1 ∧ t.se.cap = s.se.cap := by
  obtain ⟨hoff, hbit, hse⟩ := s.unitDone_shows (f := F.SE_STATUS_CAP_ARMED) (fl := Fl.SE_EVENT_CAP_DONE) 0x0F09
  exact ⟨_, congrArg Host.Outcome.next (if_pos (by simp [harmed, htrig, hfull])), hoff, hbit, congrArg SeState.cap hse⟩

theorem capDone_off (hfree : s.isOn F.SE_STATUS_CAP_ARMED = false) : exec .capDone s = .next s :=
  congrArg Host.Outcome.next (if_neg (by simp [hfree]))

/-! ### Correlation (R210, R211) -/

theorem corrDone_publishes (hruns : s.isOn F.SE_STATUS_CORR_RUNNING = true) (hwhole : ∀ p ∈ s.se.corr, p.2.total ≤ p.2.done) :
    ∃ t, exec .corrDone s = .next t ∧ t.rd F.SE_STATUS_CORR_RUNNING = 0 ∧ t.rd Fl.SE_EVENT_CORR_DONE.bit = 1 ∧
      t.se.corrOut = s.se.corr.map fun p => (p.1, p.2.result (s.rd F.SE_CORR_CFG_IMIN)) := by
  have hall : (s.isOn F.SE_STATUS_CORR_RUNNING && s.se.corr.all fun p => decide (p.2.total ≤ p.2.done)) = true := by
    simpa [hruns] using fun a b hp => hwhole (a, b) hp
  obtain ⟨hoff, hbit, hse⟩ := State.unitDone_shows
    { s with se.corrOut := s.se.corr.map fun p => (p.1, p.2.result (s.rd F.SE_CORR_CFG_IMIN)) }
    (f := F.SE_STATUS_CORR_RUNNING) (fl := Fl.SE_EVENT_CORR_DONE) 0x0F0B
  exact ⟨_, congrArg Host.Outcome.next (if_pos hall), hoff, hbit, congrArg SeState.corrOut hse⟩

theorem corrDone_off (hfree : s.isOn F.SE_STATUS_CORR_RUNNING = false) : exec .corrDone s = .next s :=
  congrArg Host.Outcome.next (if_neg (by simp [hfree]))

end

/-- Settles O33: each clause is its event's lemma. -/
theorem stateEngineStepsAndUnits : Obligations.StateEngineStepsAndUnits := by
  unfold Obligations.StateEngineStepsAndUnits
  exact ⟨sePowerUp_shows,
    fun _ hon hidx => seStep_shows hon hidx,
    fun _ d hon => seStepOverrun_flags d hon,
    fun _ d hoff => ⟨seStep_off hoff, seStepOverrun_off d hoff⟩,
    fun s _ _ _ hk hq => s.seKernelStep_turns hk hq,
    fun s _ i n _ _ hfree hgood hj htab hle hruns => s.seRun_within i n hfree hgood hj htab hle hruns,
    fun s q i n _ h => s.seRun_skips q i n h,
    fun _ _ n hk hstop hnone => State.seStepStart_stops n hk hstop hnone,
    fun _ hon hidle => injectStartIndex_starts hon hidle,
    fun _ hruns hwave hlen => chirpEnd_stops hruns hwave hlen,
    fun _ harmed => captureTrigger_sets harmed,
    fun _ harmed htrig hfull => capDone_ends harmed htrig hfull,
    fun _ hfree => ⟨captureTrigger_off hfree, capDone_off hfree⟩,
    fun _ hruns hwhole => corrDone_publishes hruns hwhole,
    fun _ hfree => corrDone_off hfree⟩

end Sys2Proof.Machine
end

section
/-! PROOFS. What estimation works by (R213–R221): a frame over its registers and cells, and the laws of a cell's record and account. -/

namespace Sys2Proof.Machine

-- One proof after another: a thread for each would not fit the memory of the check.
set_option Elab.async false

/-! ### The frame -/

/-- The registers that estimation works by: the words SYS_ID, SE_STATUS, SE_COMMIT and EST_CFG. -/
def estKey (q : Nat) : Bool := engineKey q || q / 32 == 0 || q / 32 == 0x80000

/-- The state of estimation without the string quantities that EST_SOC_UPDATE forms (R225–R228). -/
def EstState.ofCells (e : EstState) : EstState :=
  { e with rep := none, target := none, prev := 0, iSum := 0, iN := 0, full := false, qStr := 0, raw := 0, rLow := 0 }

/-- What the states of the cells depend on beside registers. -/
def State.estView (s : State) : List (Nat × SeSlot) × CimState × EstState := (s.se.slots, s.cim, s.est.ofCells)

/-- `t` comes from `s` by what leaves the cells, their records and the registers that estimation works by. -/
abbrev State.EstKept (s t : State) : Prop := State.Stands estKey State.estView s t

section
variable {s t : State}

theorem State.EstKept.cells (h : s.EstKept t) : t.est.ofCells = s.est.ofCells := congrArg (·.2.2) h.view

theorem State.EstKept.cim (h : s.EstKept t) : t.cim = s.cim := congrArg (·.2.1) h.view

theorem State.EstKept.engine (h : s.EstKept t) : s.EngineKept t :=
  h.mono (fun q hq => by simp [estKey, hq]) Prod.fst

theorem State.EstKept.seEnabled (h : s.EstKept t) (k : Nat) : t.seEnabled k = s.seEnabled k := by
  unfold State.seEnabled
  rw [h.regs _ (by decide)]

theorem State.EstKept.estCell (h : s.EstKept t) (i : Nat) : t.estCell i = s.estCell i :=
  (congrArg (fun e : EstState => Tbl.get ({} : EstCell) e.cells i) h.cells :)

theorem State.EstKept.estRec (h : s.EstKept t) (i : Nat) : t.estRec i = s.estRec i := by
  have hparked : t.est.parked = s.est.parked := (congrArg EstState.parked h.cells :)
  have hcarried : t.est.carried = s.est.carried := (congrArg EstState.carried h.cells :)
  unfold State.estRec
  rw [hparked, hcarried, h.seEnabled, (h.engine.insts 0).2]

theorem State.EstKept.estWaits (h : s.EstKept t) : t.estWaits = s.estWaits := by
  have hslot : t.seSlot 0 = s.seSlot 0 := congrArg (fun l => Tbl.get ({} : SeSlot) l 0) h.engine.view
  have hparked : t.est.parked = s.est.parked := (congrArg EstState.parked h.cells :)
  have hocv : t.est.ocvNext = s.est.ocvNext := (congrArg EstState.ocvNext h.cells :)
  have hchem : t.est.chemNext = s.est.chemNext := (congrArg EstState.chemNext h.cells :)
  unfold State.estWaits
  rw [hslot, hparked, hocv, hchem, h.regs F.EST_CFG_RATE (by decide), h.regs F.EST_CFG_RATE_ACTIVE (by decide)]

end

theorem State.wr_estKept (s : State) (f : Field) (v : Nat) (hf : estKey f.key = false := by decide) : s.EstKept (s.wr f v) := .wr s v hf

theorem State.flag_estKept (s : State) (fl : Flag) (n : Note) (hfl : ∀ k ∈ flagKeys fl, estKey k = false := by decide) :
    s.EstKept (s.flag fl n) := .of_noted (s.flag_noted fl n) hfl

theorem State.detail_estKept (s : State) (sys : Bool) (d : List Byte) : s.EstKept (s.detail sys d) :=
  .of_noted (s.detail_noted _ _ _ _ _)

theorem State.flag_est (s : State) (fl : Flag) (n : Note) : (s.flag fl n).est = s.est := by rw [(s.flag_noted fl n).same]

theorem State.finish_est (s : State) (op key : Nat) (st : Status) (res : List Int) : (s.finish op key st res).est = s.est :=
  (congrArg State.est (s.finish_frame op key st res).1 :)

/-! ### What is read back of a cell -/

@[simp] theorem State.estCell_setEst (s : State) (i : Nat) (c : EstCell) : (s.setEst i c).estCell i = c := Tbl.get_put_same _ _ _ _

theorem State.estCell_setEst_ne (s : State) {i j : Nat} (c : EstCell) (h : j ≠ i) : (s.setEst i c).estCell j = s.estCell j :=
  Tbl.get_put_ne _ _ _ _ _ h

@[simp] theorem State.estRec_setEst (s : State) (i j : Nat) (c : EstCell) : (s.setEst i c).estRec j = s.estRec j := rfl

@[simp] theorem State.estCell_setRec (s : State) (i j : Nat) (r : SeInst) : (s.setRec i r).estCell j = s.estCell j := by
  unfold State.setRec
  split
  · rfl
  · rfl

@[simp] theorem State.setRec_cim (s : State) (i : Nat) (r : SeInst) : (s.setRec i r).cim = s.cim := by
  unfold State.setRec
  split
  · rfl
  · rfl

theorem State.seInsts_setSeInsts (s : State) (k : Nat) (l : List SeInst) : (s.setSeInsts k l).seInsts k = l := by
  have hslot : ∀ x : SeSlot, (s.setSeSlot k x).seInsts k = if s.seBank k = 0 then x.bank0 else x.bank1 := fun x =>
    congrArg (fun y : SeSlot => if s.seBank k = 0 then y.bank0 else y.bank1) (s.seSlot_setSeSlot k x)
  unfold State.setSeInsts
  rw [hslot]
  split
  · rfl
  · rfl

/-- The record of a cell with states reads what was written back. -/
theorem State.estRec_setRec {s : State} {i : Nat} {q : SeInst} (h : s.estRec i = some q) (r : SeInst) : (s.setRec i r).estRec i = some r := by
  have hset : ∀ l : List SeInst, l[i - 1]? = some q → (l.set (i - 1) r)[i - 1]? = some r := fun l hl =>
    List.getElem?_set_self (List.getElem?_eq_some_iff.1 hl).1
  unfold State.estRec at h
  unfold State.setRec
  by_cases hparked : s.est.parked = true
  · rw [if_pos hparked] at h ⊢
    exact (if_pos hparked).trans (hset _ h)
  · rw [if_neg hparked] at h ⊢
    by_cases hon : s.seEnabled 0 = true
    · rw [if_pos hon] at h
      refine (if_neg hparked).trans ((if_pos hon).trans ?_)
      rw [State.seInsts_setSeInsts]
      exact hset _ h
    · rw [if_neg hon] at h
      cases h

/-! ### What a refresh leaves of a cell -/

/-- The fast states va, vb and u, and the parameters, are as before. -/
def SeInst.SameFast (r q : SeInst) : Prop := (∀ j ∈ [1, 2, 6], q.x[j]? = r.x[j]?) ∧ q.par = r.par

theorem SeInst.SameFast.refl (r : SeInst) : r.SameFast r := ⟨fun _ _ => rfl, rfl⟩

theorem SeInst.SameFast.trans {r q p : SeInst} (h : r.SameFast q) (k : q.SameFast p) : r.SameFast p :=
  ⟨fun j hj => (k.1 j hj).trans (h.1 j hj), k.2.trans h.2⟩

/-- Writing another state leaves the fast ones. -/
theorem SeInst.SameFast.set {r q : SeInst} (h : r.SameFast q) (n : Nat) (v : Int) (hn : n ∉ [1, 2, 6] := by decide) :
    r.SameFast { q with x := q.x.set n v } :=
  h.trans ⟨fun j hj => List.getElem?_set_ne fun e : n = j => hn (e ▸ hj), rfl⟩

/-- The charge counter, the charge bled and the heat of a cell since its last refresh, and all charge bled (R217, R239). -/
def EstCell.account (c : EstCell) : Int × Rat × Rat × Int × Nat := (c.counter, c.bled, c.bledAll, c.pSum, c.pN)

/-- `t` comes from `s` with cell `i`'s fast states and account, and the current measurement, as they were. -/
structure State.CellKept (i : Nat) (s t : State) : Prop where
  fast : ∀ r, s.estRec i = some r → ∃ q, t.estRec i = some q ∧ r.SameFast q
  account : (t.estCell i).account = (s.estCell i).account
  cim : t.cim = s.cim

section
variable {i : Nat} {s t u : State}

theorem State.CellKept.refl (s : State) : State.CellKept i s s := ⟨fun r hr => ⟨r, hr, .refl r⟩, rfl, rfl⟩

theorem State.CellKept.trans (h : State.CellKept i s t) (k : State.CellKept i t u) : State.CellKept i s u := by
  refine ⟨fun r hr => ?_, k.account.trans h.account, k.cim.trans h.cim⟩
  obtain ⟨q, hq, hrq⟩ := h.fast r hr
  obtain ⟨p, hp, hqp⟩ := k.fast q hq
  exact ⟨p, hp, hrq.trans hqp⟩

theorem State.EstKept.cellKept (h : s.EstKept t) : State.CellKept i s t :=
  ⟨fun r hr => ⟨r, (h.estRec i).trans hr, .refl r⟩, congrArg EstCell.account (h.estCell i), h.cim⟩

theorem State.setEst_cellKept {c : EstCell} (h : c.account = (s.estCell i).account) : State.CellKept i s (s.setEst i c) :=
  ⟨fun r hr => ⟨r, hr, .refl r⟩, by rw [State.estCell_setEst, h], rfl⟩

theorem State.setRec_cellKept {r q : SeInst} (hr : s.estRec i = some r) (hq : r.SameFast q) : State.CellKept i s (s.setRec i q) := by
  refine ⟨fun p hp => ⟨q, State.estRec_setRec hr q, ?_⟩, by rw [State.estCell_setRec], s.setRec_cim i q⟩
  rwa [← Option.some.inj (hr.symm.trans hp)]

end

theorem kneeRun_account (c : EstCell) (qr soc v : Rat) (a : Option Nat) : (kneeRun c qr soc v a).account = c.account := by
  unfold kneeRun
  split
  · rfl
  · split
    · rfl
    · split
      · rfl
      · dsimp only
        split
        · rfl
        · split
          · rfl
          · rfl

theorem State.watchCell_cellKept (s : State) (top : Bool) (i : Nat) : State.CellKept i s (s.watchCell top i).1 := by
  unfold State.watchCell
  split
  · exact .refl s
  · extract_lets c a below cv rest c1 knee full s1
    have hc1 : c1.account = c.account := by
      show (match (s.cellAvg i).mean with | some v => _ | none => _ : EstCell).account = _
      split
      · exact kneeRun_account _ _ _ _ _
      · rfl
    have h1 : State.CellKept i s s1 := State.setEst_cellKept hc1
    clear_value knee s1
    split
    · exact h1
    · split
      · exact h1
      · split
        · exact h1
        · exact h1

/-- A reference event on a gated cell is not applied (R221). -/
theorem State.refCell_gated {s : State} (ev : Nat) {i : Nat} (knee : Rat) {r : SeInst} (hr : s.estRec i = some r)
    (hgated : s.cellGated i r = true) : s.refCell ev i knee = (s, false) := by
  unfold State.refCell
  rw [hr]
  cases (s.cellAvg i).mean with
  | none => rfl
  | some u =>
    dsimp only
    cases s.refValue ev knee u r with
    | none => rfl
    | some v => exact if_pos (by rw [hgated]; rfl)

theorem State.refCell_cellKept (s : State) (ev i : Nat) (knee : Rat) : State.CellKept i s (s.refCell ev i knee).1 := by
  unfold State.refCell
  split
  · next r u hr _ =>
    extract_lets c
    split
    · exact .refl s
    · next v _ =>
      split
      · exact .refl s
      · extract_lets soc sample kap s1 s2
        have h1 : State.CellKept i s s1 := State.setRec_cellKept hr (((SeInst.SameFast.refl r).set 0 _).set 7 _)
        have h2 : State.CellKept i s s2 :=
          h1.trans (State.setEst_cellKept (congrArg EstCell.account (s.estCell_setRec i i _)).symm)
        refine h2.trans ?_
        clear_value sample s2
        show State.CellKept i s2 (match sample with | some (_, true) => _ | some (_, false) => _ | none => _)
        split
        · exact (State.flag_estKept _ _ _).cellKept
        · exact (State.flag_estKept _ _ _).cellKept
        · exact .refl s2
  · exact .refl s

end Sys2Proof.Machine
end

section
/-! PROOFS. The commands of estimation (R223–R243): what each finds, and where it leads. -/

namespace Sys2Proof.Machine

-- One proof after another: a thread for each would not fit the memory of the check.
set_option Elab.async false

/-- What every command is judged by before its own checks passes for an allowed one. -/
theorem State.Allowed.shared_pass {s : State} {op role : Nat} {h : Hdr} (a : s.Allowed op role h) :
    firstRefusal [(s.isOn F.SEC_STATUS_TAMPER_LATCHED && (role == rSafety || role == rUpdate), .auth),
      (!hasRole (s.cmdRoles op h) role, .role)] = none := by
  have hnone := s.refusal_none op role h [] a nofun
  unfold State.refusal at hnone
  rw [firstRefusal_none] at hnone ⊢
  refine fun x hx => hnone x ?_
  simp only [List.mem_append]
  exact .inl (.inl (.inl (.inl hx)))

/-- An allowed command with a check for PARAM and one for RANGE is refused by the first that fails. -/
theorem State.command_paramRange (s : State) (op role : Nat) (h : Hdr) {p r : Bool} (body : State → CmdRes) (a : s.Allowed op role h) :
    s.command op role h [(p, .param), (r, .range)] body =
      if p then s.refuseCmd op role h .param else if r then s.refuseCmd op role h .range else s.answer op role h (body s) := by
  have hsplit : s.refusal op role h [(p, .param), (r, .range)] =
      firstRefusal [(p, .param), (r, .range), (!legal op (s.cmdMode op h) s.closed, .state)] := by
    unfold State.refusal
    simp only [List.append_assoc]
    exact firstRefusal_append_of_none _ a.shared_pass
  cases p with
  | true =>
    unfold State.command
    rw [hsplit]
    rfl
  | false =>
    cases r with
    | true =>
      unfold State.command
      rw [hsplit]
      rfl
    | false => exact s.command_run op role h _ body a (checks_pass rfl rfl)

section
variable {s : State} {h : Hdr}

/-! ### Words (R231, R242) -/

theorem State.words_length (s : State) (l : List Nat) : (s.words l).length = l.length := List.length_map _

theorem estStatus_tells (a : s.Allowed 0x0401 rObserver h) :
    ∃ t ws, exec (.estStatus h) s = .next t ∧ s.Told t 0x0401 h ws ∧ ws.length = 29 ∧
      ws.take 22 = s.words ([0x80010, 0x80040, 0x80044, 0x80048] ++ (numbersFrom 0 16).map (fun i => 0x80060 + 4 * i) ++ [0x800A0, 0x800A4]) := by
  refine ⟨_, _, congrArg Host.Outcome.next (State.command_answers a nofun rfl), State.answer_ret _ _ _ _ _ _, ?_, ?_⟩
  · rw [List.length_append, List.length_append, State.words_length]
    rfl
  · rw [List.append_assoc]
    refine List.take_left' ?_
    exact State.words_length _ _

/-- The words that EST_CELL_READ answers for one cell. -/
def State.cellWords (s : State) (i : Nat) : List Int :=
  match s.estRec i with
  | none => [0xFFFF, 0xFFFF, -32768, -32768, 0xFFFF] ++ words64 (-9223372036854775808) ++ [0xFFFF, 0xFFFF, -2147483648, 3]
  | some r =>
    let q := s.qr * (1 + r.kappa)
    [(satU 16 (ratRound (10000 * r.soc)) : Int), satU 16 (ratRound (100 * s.sigma i)), r.tc, r.ts,
     satU 16 (roundDiv (r.y.getD 1 0) 100)] ++ words64 (ratRound (q * 3600000000)) ++ [(satU 16 (ratRound (10000 * (1 + r.kappa))) : Int),
     satU 16 (ratRound (10000 * s.growth i)), clampI (-2147483647) 2147483647 (ratRound (s.estCell i).dR), s.estQuality i]

theorem State.cellWords_length (s : State) (i : Nat) : (s.cellWords i).length = 11 := by
  unfold State.cellWords
  split
  · rfl
  · rfl

theorem State.cellWords_none {s : State} {i : Nat} (hnone : s.estRec i = none) :
    s.cellWords i = [0xFFFF, 0xFFFF, -32768, -32768, 0xFFFF, 0, 0x80000000, 0xFFFF, 0xFFFF, -2147483648, 3] := by
  unfold State.cellWords
  rw [hnone]
  rfl

theorem State.flatMap_cellWords_length (s : State) (l : List Nat) : (l.flatMap s.cellWords).length = 11 * l.length := by
  induction l with
  | nil => rfl
  | cons i l ih => rw [List.flatMap_cons, List.length_append, ih, State.cellWords_length, List.length_cons, Nat.mul_succ, Nat.add_comm]

theorem estCellRead_tells {c n : Nat} (a : s.Allowed 0x0402 rObserver h) (hc : 1 ≤ c) (hn : 1 ≤ n) (h64 : n ≤ 64)
    (hin : c + n - 1 ≤ 16 * s.segs) :
    ∃ t ws, exec (.estCellRead h c n) s = .next t ∧ s.Told t 0x0402 h ws ∧ ws.length = 11 * n ∧
      (s.estRec c = none → ws.take 11 = [0xFFFF, 0xFFFF, -32768, -32768, 0xFFFF, 0, 0x80000000, 0xFFFF, 0xFFFF, -2147483648, 3]) := by
  have hcell : s.cellOk c = true := by
    simp only [State.cellOk, Bool.and_eq_true, decide_eq_true_eq]
    omega
  refine ⟨_, (numbersFrom c n).flatMap s.cellWords, congrArg Host.Outcome.next (State.command_answers a ?_ rfl), State.answer_ret _ _ _ _ _ _,
    by rw [State.flatMap_cellWords_length, numbersFrom_length], fun hnone => ?_⟩
  · have hlast : decide (s.cells < c + n - 1) = false := decide_eq_false (Nat.not_lt.2 hin)
    simp [hcell, inR, hn, h64, hlast]
  · obtain ⟨m, rfl⟩ := Nat.exists_eq_succ_of_ne_zero (Nat.ne_of_gt hn)
    rw [numbersFrom, List.flatMap_cons, List.take_left' (s.cellWords_length c), State.cellWords_none hnone]

/-! ### Tables, reserve, rate and limits (R218, R223, R224, R226, R241) -/

/-- A table that is loaded is refused, or waits for the reload with the command open (R218, R223, R224). -/
theorem State.command_tableLoad {op : Nat} (p r : Bool) (hold : State → State) (a : s.Allowed op rMaintainer h) :
    let t := s.command op rMaintainer h [(p, .param), (r, .range)] fun u =>
      if (u.opOf op 0).isSome then .refuse .busy else .accept (hold u) 0 []
    if p then t = s.refuseCmd op rMaintainer h .param
    else if r then t = s.refuseCmd op rMaintainer h .range
    else if (s.opOf op 0).isSome then t = s.refuseCmd op rMaintainer h .busy
    else (hold s).Accepted t op h 0 [] := by
  intro t
  have ht : t = _ := s.command_paramRange op rMaintainer h _ a
  rw [ht]
  split
  · rfl
  · split
    · rfl
    · split
      · rfl
      · exact State.answer_accept _ _ _ _ _ _ _

theorem estOcvLoad_answers (b : List Byte) (a : s.Allowed 0x0403 rMaintainer h) : ∃ t, exec (.estOcvLoad h b) s = .next t ∧
    (if ocvParamBad b then t = s.refuseCmd 0x0403 rMaintainer h .param
     else if ocvRangeBad b then t = s.refuseCmd 0x0403 rMaintainer h .range
     else if (s.opOf 0x0403 0).isSome then t = s.refuseCmd 0x0403 rMaintainer h .busy
     else ({ s with est.ocvNext := b } : State).Accepted t 0x0403 h 0 []) :=
  ⟨_, rfl, State.command_tableLoad _ _ (fun u => { u with est.ocvNext := b }) a⟩

theorem estChemLoad_answers (b : List Byte) (a : s.Allowed 0x0409 rMaintainer h) : ∃ t, exec (.estChemLoad h b) s = .next t ∧
    (if chemParamBad b then t = s.refuseCmd 0x0409 rMaintainer h .param
     else if chemRangeBad b then t = s.refuseCmd 0x0409 rMaintainer h .range
     else if (s.opOf 0x0409 0).isSome then t = s.refuseCmd 0x0409 rMaintainer h .busy
     else ({ s with est.chemNext := b } : State).Accepted t 0x0409 h 0 []) :=
  ⟨_, rfl, State.command_tableLoad _ _ (fun u => { u with est.chemNext := b }) a⟩

theorem estSetReserve_writes {b k r : Nat} (a : s.Allowed 0x0404 rOperator h) (hb : b ≤ 1000) (hk : k ≤ 255) (hr : r ≤ 1000) :
    ∃ t, exec (.estSetReserve h b k r) s = .next t ∧
      (s.wrs [(F.EST_RESERVE_BASE, b), (F.EST_RESERVE_K, k), (F.EST_RESERVE_R_HIGH, r)]).Done t 0x0404 h .ok [] :=
  ⟨_, congrArg Host.Outcome.next (State.command_answers a (by simp [hb, hk, hr]) rfl), State.answer_done _ _ _ _ _ _⟩

section
variable {r : Nat} (a : s.Allowed 0x0405 rMaintainer h) (hr : r ≤ 1)
include a hr

theorem estSetRate_keeps (hfree : s.opOf 0x0405 0 = none) :
    ∃ t, exec (.estSetRate h r) s = .next t ∧ (s.wrKeep F.EST_CFG_RATE r).Accepted t 0x0405 h 0 [] :=
  ⟨_, congrArg Host.Outcome.next (State.command_answers a (by simpa using hr) (if_neg (by simp [hfree]))), State.answer_accept _ _ _ _ _ _ _⟩

theorem estSetRate_busy (hopen : s.opOf 0x0405 0 ≠ none) :
    exec (.estSetRate h r) s = .next (s.refuseCmd 0x0405 rMaintainer h .busy) :=
  congrArg Host.Outcome.next (State.command_answers (r := .refuse .busy) a (by simpa using hr) (if_pos (Option.isSome_iff_ne_none.2 hopen)))

end

section
variable {lo hi pk ct : Nat} {tm tc : Int}

/-- The limits with which EST_SET_LIMITS is done, kept (R241). -/
def State.limitsSet (s : State) (lo hi pk ct : Nat) (tm tc : Int) : State :=
  (((((s.wrKeep F.EST_VLIM_V_LO lo).wrKeep F.EST_VLIM_V_HI hi).wrKeep F.EST_ILIM_PEAK_A pk).wrKeep F.EST_ILIM_CONT_A ct).wrKeep
    F.EST_TLIM_TMAX (ofSigned 8 tm)).wrKeep F.EST_TLIM_TMIN_CHG (ofSigned 8 tc)

variable (a : s.Allowed 0x0406 rMaintainer h)
include a

theorem estSetLimits_keeps (hhi : hi ≤ 0xFFFF) (hlo : lo < hi) (hpk : pk ≤ 0xFFFF) (hct : ct ≤ 0xFFFF) (htm : -128 ≤ tm ∧ tm ≤ 127)
    (htc : -128 ≤ tc ∧ tc ≤ 127) (hgood : s.limitsBad lo hi pk ct = false) :
    ∃ t, exec (.estSetLimits h lo hi pk ct tm tc) s = .next t ∧ (s.limitsSet lo hi pk ct tm tc).Done t 0x0406 h .ok [] := by
  refine ⟨_, congrArg Host.Outcome.next (State.command_answers a ?_ rfl), State.answer_done _ _ _ _ _ _⟩
  simp [hgood, hhi, hpk, hct, htm, htc]
  omega

theorem estSetLimits_range (hbad : s.limitsBad lo hi pk ct = true) :
    exec (.estSetLimits h lo hi pk ct tm tc) s = .next (s.refuseCmd 0x0406 rMaintainer h .range) :=
  congrArg Host.Outcome.next (s.command_refused _ _ h _ a (by rw [hbad, Bool.or_true]) (.inr rfl))

end

/-! ### A cell's states and the learned state (R236, R243) -/

/-- A record with h and κ at 0. -/
def SeInst.cleared (r : SeInst) : SeInst := { r with x := (r.x.set 3 0).set 7 0 }

/-- The cell `c` reset: what EST keeps of it anew, h and κ at 0 in a reload under way and in its record. -/
def State.cellReset (s : State) (c : Nat) : State :=
  let s1 := (s.setEst c { counter := s.cim.charge, fresh := false }).setLoaded c SeInst.cleared
  match s1.estRec c with
  | none => s1
  | some r => s1.setRec c r.cleared

/-- A reload under way changes no committed record. -/
theorem State.setLoaded_shows (s : State) (i : Nat) (f : SeInst → SeInst) (j : Nat) :
    (s.setLoaded i f).estCell j = s.estCell j ∧ (s.setLoaded i f).estRec j = s.estRec j := by
  unfold State.setLoaded
  extract_lets x
  split
  · next q l _ =>
    have hslot : ∀ y : SeSlot, y.bank0 = x.bank0 → y.bank1 = x.bank1 → (s.setSeSlot 0 y).seInsts 0 = s.seInsts 0 := fun y h0 h1 => by
      unfold State.seInsts
      rw [State.seSlot_setSeSlot, h0, h1]
      rfl
    refine ⟨rfl, ?_⟩
    unfold State.estRec
    rw [hslot]
    · rfl
    · rfl
    · rfl
  · exact ⟨rfl, rfl⟩

theorem State.cellReset_shows (s : State) (c : Nat) : (s.cellReset c).estCell c = { counter := s.cim.charge, fresh := false } ∧
    ∀ r, s.estRec c = some r → (s.cellReset c).estRec c = some r.cleared := by
  obtain ⟨hcell, hrec⟩ := (s.setEst c { counter := s.cim.charge, fresh := false }).setLoaded_shows c SeInst.cleared c
  rw [State.estCell_setEst] at hcell
  rw [State.estRec_setEst] at hrec
  unfold State.cellReset
  extract_lets s1
  rw [hrec]
  cases hr : s.estRec c with
  | none => exact ⟨hcell, nofun⟩
  | some r =>
    refine ⟨(s1.estCell_setRec c c _).trans hcell, fun q hq => ?_⟩
    obtain rfl := Option.some.inj hq
    exact State.estRec_setRec (hrec.trans hr) _

theorem estCellReset_resets {c : Nat} (a : s.Allowed 0x0407 rMaintainer h) (hc : s.cellOk c = true) :
    ∃ t u : State, exec (.estCellReset h c) s = .next t ∧ u.Done t 0x0407 h .ok [] ∧
      u.estCell c = { counter := s.cim.charge, fresh := false } ∧
      ∀ r, s.estRec c = some r → u.estRec c = some { r with x := (r.x.set 3 0).set 7 0 } := by
  have hkept := (s.cellReset c).detail_estKept true (leBytes 2 c)
  obtain ⟨hcell, hrec⟩ := s.cellReset_shows c
  exact ⟨_, (s.cellReset c).detail true (leBytes 2 c), congrArg Host.Outcome.next (State.command_answers a (by simp [hc]) rfl),
    State.answer_done _ _ _ _ _ _, (hkept.estCell c).trans hcell, fun r hr => (hkept.estRec c).trans (hrec r hr)⟩

section
variable (a : s.Allowed 0x0408 rMaintainer h)
include a

theorem estLearnWrite_triggers (hfree : s.est.pending = false) (hdue : s.isOn F.EST_STATUS_WRITE_DEFERRED = false) :
    ∃ t, exec (.estLearnWrite h) s = .next t ∧ s.learnTrigger.Accepted t 0x0408 h (if s.est.writing.isSome then 1 else 0) [] :=
  ⟨_, congrArg Host.Outcome.next (State.command_answers a nofun (if_neg (by simp [hfree, hdue]))), State.answer_accept _ _ _ _ _ _ _⟩

theorem estLearnWrite_busy (hheld : s.est.pending = true ∨ s.isOn F.EST_STATUS_WRITE_DEFERRED = true) :
    exec (.estLearnWrite h) s = .next (s.refuseCmd 0x0408 rMaintainer h .busy) :=
  congrArg Host.Outcome.next (State.command_answers (r := .refuse .busy) a nofun (if_pos (by simpa using hheld)))

end

end

/-- Settles O29: each clause is its command's lemma. -/
theorem estimationCommandsComplete : Obligations.EstimationCommandsComplete := by
  unfold Obligations.EstimationCommandsComplete
  exact ⟨fun _ _ a => estStatus_tells a,
    fun _ _ _ _ a hc hn h64 hin => estCellRead_tells a hc hn h64 hin,
    fun _ _ b a => estOcvLoad_answers b a,
    fun _ _ b a => estChemLoad_answers b a,
    fun _ _ _ _ _ a hb hk hr => estSetReserve_writes a hb hk hr,
    fun _ _ _ a hr hfree => estSetRate_keeps a hr hfree,
    fun _ _ _ a hr hopen => estSetRate_busy a hr hopen,
    fun _ _ _ _ _ _ _ _ a hlo hhi hpk hct htm1 htm2 htc1 htc2 =>
      ⟨estSetLimits_keeps a hhi hlo hpk hct ⟨htm1, htm2⟩ ⟨htc1, htc2⟩, estSetLimits_range a⟩,
    fun _ _ _ a hc => estCellReset_resets a hc,
    fun _ _ a hfree hdue => estLearnWrite_triggers a hfree hdue,
    fun _ _ a hheld => estLearnWrite_busy a hheld⟩

end Sys2Proof.Machine
end

section
/-! PROOFS. Refresh, regression and the reported SOC (R216–R234): what each leaves and forms. -/

namespace Sys2Proof.Machine

-- One proof after another: a thread for each would not fit the memory of the check.
set_option Elab.async false

/-! ### The refresh of a cell (R216–R218) -/

section
variable {s : State} {i : Nat} {r : SeInst}

/-- The slow states take the charge counter's value, and count bled charge and heat anew. -/
theorem State.slowStates_shows (hr : s.estRec i = some r) : (∃ q, (s.slowStates i r).estRec i = some q ∧ r.SameFast q) ∧
    ((s.slowStates i r).estCell i).account = (s.cim.charge, 0, (s.estCell i).bledAll, 0, 0) ∧ (s.slowStates i r).cim = s.cim := by
  unfold State.slowStates
  extract_lets c qr dq own soc0 soc1 qh sgn h1 p th tc ts x gated g f cur learn u c1 s1
  have hx : r.SameFast { r with x := x } := (((SeInst.SameFast.refl r).set 0 _).set 3 _ |>.set 4 _).set 5 _
  have hcell : s1.estCell i = c1 := State.estCell_setEst _ _ _
  refine ⟨⟨{ r with x := x }, State.estRec_setRec hr _, hx⟩, ?_, s.setRec_cim i _⟩
  exact congrArg EstCell.account hcell

/-- A cell that runs is refreshed: its slow states, then the events that fall due, which leave its fast states and its account. -/
theorem State.refreshCell_runs (top : Bool) (hr : s.estRec i = some r) (hfree : (s.seSlot 0).committing = false) (hfrozen : r.frozen = false)
    (hcorrupt : r.corrupt = false) : State.CellKept i (s.slowStates i r) (s.refreshCell top i).1 := by
  have hwatch := (s.slowStates i r).watchCell_cellKept top i
  have hrun : s.refreshCell top i = let w := (s.slowStates i r).watchCell top i
      if w.2.1 = 0 then (w.1, 0)
      else let e := w.1.refCell w.2.1 i w.2.2; (e.1, if e.2 then w.2.1 else 0) := by
    unfold State.refreshCell
    rw [hr]
    exact (if_neg (by simp [hfree])).trans (if_neg (by simp [hfrozen, hcorrupt]))
  rw [hrun]
  extract_lets w
  split
  · exact hwatch
  · exact hwatch.trans (State.refCell_cellKept _ _ _ _)

theorem State.refreshCell_restores (top : Bool) (hr : s.estRec i = some r) (hfree : (s.seSlot 0).committing = false)
    (hbad : r.frozen = true ∨ r.corrupt = true) : (s.refreshCell top i).1 = s.restoreInst i := by
  unfold State.refreshCell
  rw [hr]
  exact congrArg Prod.fst ((if_neg (by simp [hfree])).trans (if_pos (by simpa using hbad)))

theorem State.refreshCell_waits (top : Bool) (i : Nat) (hwaits : (s.seSlot 0).committing = true) : (s.refreshCell top i).1 = s := by
  unfold State.refreshCell
  split
  · rfl
  · exact congrArg Prod.fst (if_pos hwaits)

end

/-- The record of the reference events of one kind that a refresh applied, `kinds` being those of all cells (R230). -/
def State.noteReference (kinds : List Nat) (s : State) (ev : Nat) : State :=
  let n := (kinds.filter fun k => k == ev).length
  if n = 0 then s
  else ({ s with est.full := s.est.full || ev == 1 } : State).flag Fl.EST_EVENT_REFERENCE { system := true, detail := ev :: leBytes 2 n }

theorem State.noteReference_estKept (kinds : List Nat) (s : State) (ev : Nat) : s.EstKept (s.noteReference kinds ev) :=
  .ite (.refl s) (.trans .of_eq (State.flag_estKept _ _ _))

/-- One cell's turn in a refresh: the state, and the kinds of the events applied so far. -/
def State.refreshNext (top : Bool) (a : State × List Nat) (i : Nat) : State × List Nat :=
  if a.1.cellOk i then let x := a.1.refreshCell top i; (x.1, if x.2 = 0 then a.2 else a.2 ++ [x.2]) else a

/-- What follows the cells' turns: flags with their records, and the count of gated cells. -/
def State.refreshEnd (a : State × List Nat) : State :=
  let s1 := [1, 2, 3].foldl (State.noteReference a.2) a.1
  s1.wr F.EST_STATUS_GATED (s1.cellList.filter fun i => (s1.estCell i).openLoop).length

theorem exec_estRefresh (l : List Nat) (s : State) :
    exec (.estRefresh l) s = .next (State.refreshEnd (l.foldl (State.refreshNext s.atTop) (s, []))) := rfl

theorem State.refreshEnd_estKept (a : State × List Nat) : a.1.EstKept (State.refreshEnd a) :=
  (State.Stands.foldl _ _ (fun u ev _ => u.noteReference_estKept a.2 ev) a.1).trans (State.wr_estKept _ _ _)

theorem estRefresh_single (s : State) (i : Nat) : ∃ t, exec (.estRefresh [i]) s = .next t ∧
    State.EstKept (if s.cellOk i then (s.refreshCell s.atTop i).1 else s) t := by
  have hturn : (State.refreshNext s.atTop (s, []) i).1 = if s.cellOk i then (s.refreshCell s.atTop i).1 else s := by
    unfold State.refreshNext
    split
    · rfl
    · rfl
  exact ⟨_, exec_estRefresh [i] s, hturn ▸ State.refreshEnd_estKept (State.refreshNext s.atTop (s, []) i)⟩

theorem estRefresh_runs {s : State} {i : Nat} {r : SeInst} (hok : s.cellOk i = true) (hr : s.estRec i = some r)
    (hfree : (s.seSlot 0).committing = false) (hfrozen : r.frozen = false) (hcorrupt : r.corrupt = false) :
    ∃ t q, exec (.estRefresh [i]) s = .next t ∧ t.estRec i = some q ∧ (∀ j ∈ [1, 2, 6], q.x[j]? = r.x[j]?) ∧ q.par = r.par ∧
      (t.estCell i).counter = s.cim.charge ∧ (t.estCell i).bled = 0 ∧ (t.estCell i).pSum = 0 ∧ (t.estCell i).pN = 0 ∧
      (t.estCell i).bledAll = (s.estCell i).bledAll ∧ t.cim = s.cim := by
  obtain ⟨t, hexec, hend⟩ := estRefresh_single s i
  rw [if_pos hok] at hend
  obtain ⟨⟨p, hp, hrp⟩, haccount, hcim⟩ := State.slowStates_shows hr
  have hkept := (State.refreshCell_runs s.atTop hr hfree hfrozen hcorrupt).trans hend.cellKept
  obtain ⟨q, hq, hpq⟩ := hkept.fast p hp
  obtain ⟨hfast, hpar⟩ := hrp.trans hpq
  have ht : (t.estCell i).account = (s.cim.charge, 0, (s.estCell i).bledAll, 0, 0) := hkept.account.trans haccount
  simp only [EstCell.account, Prod.mk.injEq] at ht
  obtain ⟨hcounter, hbled, hall, hsum, hn⟩ := ht
  exact ⟨t, q, hexec, hq, hfast, hpar, hcounter, hbled, hsum, hn, hall, hkept.cim.trans hcim⟩

theorem estRefresh_restores {s : State} {i : Nat} {r : SeInst} (hok : s.cellOk i = true) (hr : s.estRec i = some r)
    (hfree : (s.seSlot 0).committing = false) (hbad : r.frozen = true ∨ r.corrupt = true) :
    ∃ t, exec (.estRefresh [i]) s = .next t ∧ t.estRec i = some (s.restoreCell s.newestRec i).1 ∧
      t.estCell i = (s.restoreCell s.newestRec i).2 := by
  obtain ⟨t, hexec, hend⟩ := estRefresh_single s i
  rw [if_pos hok, State.refreshCell_restores _ hr hfree hbad] at hend
  exact ⟨t, hexec, (hend.estRec i).trans (State.estRec_setRec hr _), (hend.estCell i).trans (State.estCell_setEst _ _ _)⟩

theorem estRefresh_waits {s : State} (i : Nat) (hwaits : (s.seSlot 0).committing = true) :
    ∃ t, exec (.estRefresh [i]) s = .next t ∧ t.estRec i = s.estRec i ∧ t.estCell i = s.estCell i := by
  obtain ⟨t, hexec, hend⟩ := estRefresh_single s i
  rw [State.refreshCell_waits _ i hwaits, ite_self] at hend
  exact ⟨t, hexec, hend.estRec i, hend.estCell i⟩

/-! ### The hourly regression (R233) -/

/-- A cell after the regression of an hour. -/
def EstCell.regressed (c : EstCell) : EstCell :=
  let c1 : EstCell := { c with uI := 0, ii := 0, secs := 0 }
  if c.secs < 600 ∨ c.ii = 0 then c1 else { c1 with dR := c.dR + (1000000 * c.uI / c.ii - c.dR) / 5 }

def State.regressCell (s : State) (i : Nat) : State := s.setEst i (s.estCell i).regressed

theorem exec_estResistanceRegression (s : State) :
    exec .estResistanceRegression s = .next (s.cellList.foldl State.regressCell s) := by
  have hone : (fun (s : State) (i : Nat) =>
      let c := s.estCell i
      let c1 : EstCell := { c with uI := 0, ii := 0, secs := 0 }
      if c.secs < 600 ∨ c.ii = 0 then s.setEst i c1
      else s.setEst i { c1 with dR := c.dR + (1000000 * c.uI / c.ii - c.dR) / 5 }) = State.regressCell :=
    funext₂ fun s i => (apply_ite (s.setEst i) _ _ _).symm
  exact congrArg (fun f => Host.Outcome.next (s.cellList.foldl f s)) hone

theorem EstCell.regressed_shows (c : EstCell) : c.regressed.secs = 0 ∧ c.regressed.uI = 0 ∧ c.regressed.ii = 0 ∧
    (c.secs < 600 → c.regressed.dR = c.dR) ∧
    (600 ≤ c.secs → c.ii ≠ 0 → c.regressed.dR = c.dR + (1000000 * c.uI / c.ii - c.dR) / 5) := by
  unfold EstCell.regressed
  dsimp only
  split
  · next hfew => exact ⟨rfl, rfl, rfl, fun _ => rfl, fun hsecs hii => (hfew.elim (fun hlt => by omega) hii).elim⟩
  · next hmany => exact ⟨rfl, rfl, rfl, fun hlt => absurd (.inl hlt) hmany, fun _ _ => rfl⟩

theorem State.regressCells_each (s : State) {i : Nat} (hi : i ∈ s.cellList) :
    (s.cellList.foldl State.regressCell s).estCell i = (s.estCell i).regressed := by
  obtain ⟨u, hbefore, hafter⟩ := State.foldl_turn (R := fun s t => t.estCell i = s.estCell i) (f := State.regressCell)
    (numbersFrom_nodup _ _) hi (fun _ => rfl) (fun _ _ _ h k => k.trans h) (fun u j _ hne => u.estCell_setEst_ne _ hne.symm) s
  exact hafter.trans ((u.estCell_setEst i _).trans (congrArg EstCell.regressed hbefore))

theorem estResistanceRegression_moves (s : State) : ∃ t, exec .estResistanceRegression s = .next t ∧
    ∀ i ∈ s.cellList, (t.estCell i).secs = 0 ∧ (t.estCell i).uI = 0 ∧ (t.estCell i).ii = 0 ∧
      ((s.estCell i).secs < 600 → (t.estCell i).dR = (s.estCell i).dR) ∧
      (600 ≤ (s.estCell i).secs → (s.estCell i).ii ≠ 0 → (t.estCell i).dR =
        (s.estCell i).dR + (1000000 * (s.estCell i).uI / (s.estCell i).ii - (s.estCell i).dR) / 5) := by
  refine ⟨_, exec_estResistanceRegression s, fun i hi => ?_⟩
  rw [s.regressCells_each hi]
  exact EstCell.regressed_shows _

/-! ### The reported SOC (R225–R228) -/

theorem socStep_range (rep t dq span im c200 act rest : Rat) :
    0 ≤ socStep rep t dq span im c200 act rest ∧ socStep rep t dq span im c200 act rest ≤ 100 :=
  ⟨le_max_left _ _, max_le (by norm_num) (min_le_left _ _)⟩

/-- While the string discharges, a step never ends above where it began. -/
theorem socStep_discharging (rep t dq span im c200 act rest : Rat) (hrep : 0 ≤ rep) (hdis : im < -c200) :
    socStep rep t dq span im c200 act rest ≤ rep := by
  unfold socStep
  extract_lets rp e cl rp1 rp2
  have hrp2 : rp2 ≤ rep := by
    show (if im < -c200 ∧ rep < rp1 then rep else rp1) ≤ rep
    split
    · exact le_rfl
    · next hnot => exact not_lt.1 fun hlt => hnot ⟨hdis, hlt⟩
  exact max_le hrep ((min_le_right _ _).trans hrp2)

theorem State.estList_nil {s : State} (hnone : ∀ i ∈ s.cellList, s.estRec i = none) : s.estList = [] :=
  List.filterMap_eq_nil_iff.2 fun i hi => by rw [hnone i hi]; rfl

theorem State.estList_ne_nil {s : State} {i : Nat} (hi : i ∈ s.cellList) (hrec : s.estRec i ≠ none) : s.estList ≠ [] := by
  obtain ⟨r, hr⟩ := Option.ne_none_iff_exists'.1 hrec
  exact List.ne_nil_of_mem (List.mem_filterMap.2 ⟨i, hi, by rw [hr]; rfl⟩ : (i, r) ∈ s.estList)

/-- Nothing waits for a reload, so that the 100 ms update is the forming of the string quantities. -/
theorem exec_estSocUpdate {s : State} (hkept : s.EstKept s.socUpdate) (hidle : s.estWaits = false) :
    exec .estSocUpdate s = .next s.socUpdate :=
  congrArg Host.Outcome.next (if_neg (by rw [hkept.estWaits, hidle]; decide))

/-- The string quantities without records: sums anew, and markers. -/
def State.socMarked (s : State) : State :=
  ({ s with est.prev := s.cim.charge, est.iSum := 0, est.iN := 0, est.qStr := 0, est.raw := 0, est.rLow := 0 } : State).wrs
    [(F.EST_SOC_REPORTED, 0xFFFF), (F.EST_SOC_RAW, 0xFFFF), (F.EST_SIGMA_NOW_SIGMA, 0xFFFF), (F.EST_SIGMA_NOW_R_LOW, 0xFFFF),
     (F.EST_SOH_SOH, 0xFFFF), (F.EST_SOH_RG, 0xFFFF)]

theorem estSocUpdate_marks {s : State} (hnone : ∀ i ∈ s.cellList, s.estRec i = none) (hidle : s.estWaits = false) :
    exec .estSocUpdate s = .next s.socMarked := by
  have hform : s.socUpdate = s.socMarked := if_pos (by rw [State.estList_nil hnone]; rfl)
  have hkept : s.EstKept s.socMarked := .trans .of_eq (.wrs _ _)
  exact (exec_estSocUpdate (hform.symm ▸ hkept) hidle).trans (congrArg _ hform)

theorem State.wrs_est (s : State) (l : List (Field × Nat)) : (s.wrs l).est = s.est := by
  induction l generalizing s with
  | nil => rfl
  | cons p l ih => exact ih _

/-- The flags of a jump and of uncertainty leave estimation and the register of the reported SOC. -/
theorem State.socFlags_stand (s : State) (jump unsure : Bool) :
    let s1 := if jump then s.flag Fl.EST_EVENT_SOC_JUMP {} else s
    State.Stands (fun q => estKey q || q == F.EST_SOC_REPORTED.key) (fun s => (s.estView, s.est)) s
      (if unsure then s1.flag Fl.EST_EVENT_SOC_UNCERTAIN {} else s1) := by
  intro s1
  have h1 : State.Stands (fun q => estKey q || q == F.EST_SOC_REPORTED.key) (fun s => (s.estView, s.est)) s s1 :=
    .ite (.of_noted (s.flag_noted _ _)) (.refl s)
  exact .ite (h1.trans (.of_noted (s1.flag_noted _ _))) h1

/-- After a full charge the string quantities report 100 %. -/
theorem State.socUpdate_full {s : State} (hrecs : s.estList ≠ []) (hfull : s.est.full = true) : s.EstKept s.socUpdate ∧
    s.socUpdate.rd F.EST_SOC_REPORTED = 10000 ∧ s.socUpdate.est.full = false ∧ s.socUpdate.est.prev = s.cim.charge := by
  unfold State.socUpdate
  extract_lets l _ qr lim q dd cc qs d raw s0 sig base k lo hi t dq im act rest span old stepped new jump un up un1 _ s1 s2 s3
  rw [if_neg (by simpa [l] using hrecs)]
  have hformed : s.EstKept s2 := ((State.Stands.ite .of_eq (.refl s) : s.EstKept s0).trans (u := s1) .of_eq).trans (.wrs _ _)
  have hnew : new = 100 := if_pos hfull
  have hshown : s2.rd F.EST_SOC_REPORTED = 10000 := by
    refine (State.rd_wrs_get s1 0).trans ?_
    rw [hnew]
    decide +kernel
  have hest : s2.est = s1.est := s1.wrs_est _
  have hflags := s2.socFlags_stand jump (un1 && !un)
  have hend := congrArg Prod.snd hflags.view
  refine ⟨hformed.trans (hflags.mono (fun _ hq => by simp [hq]) Prod.fst), (hflags.regs _ (by decide)).trans hshown, ?_, ?_⟩
  · exact congrArg EstState.full (hend.trans hest)
  · exact congrArg EstState.prev (hend.trans hest)

theorem estSocUpdate_full {s : State} {i : Nat} (hi : i ∈ s.cellList) (hrec : s.estRec i ≠ none) (hidle : s.estWaits = false)
    (hfull : s.est.full = true) :
    ∃ t, exec .estSocUpdate s = .next t ∧ t.rd F.EST_SOC_REPORTED = 10000 ∧ t.est.full = false ∧ t.est.prev = s.cim.charge := by
  obtain ⟨hkept, hshown⟩ := State.socUpdate_full (State.estList_ne_nil hi hrec) hfull
  exact ⟨_, exec_estSocUpdate hkept hidle, hshown⟩

/-! ### Capacity samples (R232) -/

theorem abs_max_min_le {c x : Rat} (hc : 0 ≤ c) : |max (-c) (min c x)| ≤ c :=
  abs_le.2 ⟨le_max_left _ _, max_le (by linarith) (min_le_left _ _)⟩

theorem capSample_moves {qr qi k : Rat} {a : RefPoint} {b sb dq bl k1 : Rat} {u : Bool} (h : capSample qr qi k a b sb dq bl = some (k1, u)) :
    |k1 - k| ≤ 1 / 200 := by
  unfold capSample at h
  split at h
  · cases h
  · dsimp only at h
    split at h
    · cases h
      norm_num
    · cases h
      rw [add_sub_cancel_left, neg_div]
      exact abs_max_min_le (by norm_num)

/-- Settles O30: each clause is its event's lemma. -/
theorem estimatesFollowTheCharge : Obligations.EstimatesFollowTheCharge := by
  unfold Obligations.EstimatesFollowTheCharge
  exact ⟨fun _ _ _ hok hr hfree hfrozen hcorrupt => estRefresh_runs hok hr hfree hfrozen hcorrupt,
    fun _ _ _ hok hr hfree hbad => estRefresh_restores hok hr hfree hbad,
    fun _ i hwaits => estRefresh_waits i hwaits,
    fun _ ev _ knee _ hr hgated => State.refCell_gated ev knee hr hgated,
    estResistanceRegression_moves,
    socStep_range,
    socStep_discharging,
    fun _ hnone hidle => estSocUpdate_marks hnone hidle,
    fun _ _ hi hrec hidle hfull => estSocUpdate_full hi hrec hidle hfull,
    fun _ _ _ _ _ _ _ _ _ _ h => capSample_moves h⟩

end Sys2Proof.Machine
end

section
/-! PROOFS. Limits, slot 0 at rest, and the learned state (R220, R236–R240). -/

namespace Sys2Proof.Machine

-- One proof after another: a thread for each would not fit the memory of the check.
set_option Elab.async false

/-! ### The signs of the limits (R240) -/

/-- The register of a horizon's charge or discharge current limit. -/
def currentField (chg : Bool) (h : Nat) : Field := if chg then F.EST_ICHG_MA h else F.EST_IDIS_MA h

/-- The registers of the current limits of every horizon. -/
def currentKey (q : Nat) : Bool := decide (0x80060 * 32 ≤ q) && decide (q < 0x80080 * 32)

theorem currentField_key (chg : Bool) (h : Nat) : (currentField chg h).key = (0x80060 + 4 * h + if chg then 0 else 0x10) * 32 := by
  cases chg
  · simp only [currentField, Field.key, F.EST_IDIS_MA, Bool.false_eq_true, if_false]
    omega
  · rfl

theorem currentKey_currentField (chg : Bool) {i : Nat} (hi : i < 4) : currentKey (currentField chg i).key = true := by
  simp only [currentKey, currentField_key, Bool.and_eq_true, decide_eq_true_eq]
  split
  · omega
  · omega

/-- The eight current limits lie in registers of their own. -/
theorem currentField_injective {d chg : Bool} {i h : Nat} (hi : i < 4) (hh : h < 4) (hkey : (currentField d i).key = (currentField chg h).key) :
    d = chg ∧ i = h := by
  rw [currentField_key, currentField_key] at hkey
  rcases Bool.eq_or_eq_not d chg with rfl | rfl
  · exact ⟨rfl, by omega⟩
  · cases chg
    · simp only [Bool.not_false, if_true, Bool.false_eq_true, if_false] at hkey
      omega
    · simp only [Bool.not_true, if_true, Bool.false_eq_true, if_false] at hkey
      omega

/-- A number has the sign of a charge or of a discharge current. -/
def signOk (chg : Bool) (x : Int) : Prop := if chg then 0 ≤ x else x ≤ 0

/-- The current limit of a horizon has its sign. -/
def State.Signed (s : State) (chg : Bool) (i : Nat) : Prop := signOk chg (s.rdI (currentField chg i))

theorem signOk_saturated {chg : Bool} {m : Int} (h : signOk chg m) : signOk chg (toSigned 32 (satS 32 m)) := by
  rw [toSigned_satS m (by decide)]
  cases chg
  · exact max_le (by decide) ((min_le_right _ _).trans h)
  · exact (le_min (by decide) h).trans (le_max_right _ _)

/-- Of the current limits, a limit that is stored moves its own only. -/
theorem State.putLimit_stands (s : State) (l : List (Nat × SeInst)) (chg : Bool) (h th : Nat) : ∃ m : Int, signOk chg m ∧
    State.Stands currentKey (fun _ => ()) (s.wr (currentField chg h) (satS 32 m)) (s.putLimit l chg h th) := by
  have hpower : currentKey (if chg then F.EST_PCHG_W h else F.EST_PDIS_W h).key = false := by
    cases chg
    · simp only [currentKey, Field.key, F.EST_PDIS_W, Bool.false_eq_true, if_false, Bool.and_eq_false_iff, decide_eq_false_iff_not]
      omega
    · simp only [currentKey, Field.key, F.EST_PCHG_W, if_true, Bool.and_eq_false_iff, decide_eq_false_iff_not]
      omega
  have hwhy : currentKey (if chg then F.EST_LIMIT_WHY_CHG else F.EST_LIMIT_WHY_DIS).key = false := by
    cases chg
    · decide
    · decide
  have hcell : currentKey (if chg then F.EST_LIMIT_CELL_CHG_CELL else F.EST_LIMIT_CELL_DIS_CELL).key = false := by
    cases chg
    · decide
    · decide
  unfold State.putLimit
  extract_lets r ma v w why old s1
  have h1 : State.Stands currentKey (fun _ => ()) (s.wr (currentField chg h) (satS 32 ma)) s1 :=
    (State.Stands.wr _ _ hpower).trans (.wr _ _ hwhy)
  refine ⟨ma, ?_, .ite (h1.trans (.wr _ _ hcell)) h1⟩
  cases chg
  · exact Int.neg_nonpos_of_nonneg (Int.natCast_nonneg r.1)
  · exact Int.natCast_nonneg r.1

/-- A limit that is stored has its sign, and leaves the signs of the others. -/
theorem State.putLimit_signed {s : State} (l : List (Nat × SeInst)) {chg d : Bool} {h i : Nat} (th : Nat) (hh : h < 4) (hi : i < 4)
    (hs : (d = chg ∧ i = h) ∨ s.Signed d i) : (s.putLimit l chg h th).Signed d i := by
  obtain ⟨m, hm, hstand⟩ := s.putLimit_stands l chg h th
  unfold State.Signed State.rdI
  rw [hstand.regs _ (currentKey_currentField d hi)]
  by_cases hsame : d = chg ∧ i = h
  · obtain ⟨rfl, rfl⟩ := hsame
    have hwidth : (currentField d i).width = 32 := by cases d <;> rfl
    rw [State.rd_wr_same, hwidth, Nat.mod_eq_of_lt (show satS 32 m < 2 ^ 32 from ofSigned_lt 32 _)]
    exact signOk_saturated hm
  · rw [State.rd_wr_ne _ _ _ _ fun e => hsame (currentField_injective hi hh e)]
    exact hs.resolve_left hsame

/-- Both limits of one horizon. -/
def State.putLimits (l : List (Nat × SeInst)) (s : State) (h : Nat × Nat) : State := (s.putLimit l true h.1 h.2).putLimit l false h.1 h.2

theorem State.putLimits_signed {s : State} (l : List (Nat × SeInst)) {h : Nat × Nat} (d : Bool) {i : Nat} (hh : h.1 < 4) (hi : i < 4)
    (hs : i = h.1 ∨ s.Signed d i) : (State.putLimits l s h).Signed d i := by
  cases d with
  | false => exact State.putLimit_signed l h.2 hh hi (hs.imp (fun e => ⟨rfl, e⟩) fun hold => State.putLimit_signed l h.2 hh hi (.inr hold))
  | true => exact State.putLimit_signed l h.2 hh hi (.inr (State.putLimit_signed l h.2 hh hi (hs.imp_left fun e => ⟨rfl, e⟩)))

theorem State.horizons_signed (l : List (Nat × SeInst)) (d : Bool) {i : Nat} (hi : i < 4) {hs : List (Nat × Nat)} (hhs : ∀ h ∈ hs, h.1 < 4)
    {s : State} (h : i ∈ hs.map Prod.fst ∨ s.Signed d i) : (hs.foldl (State.putLimits l) s).Signed d i := by
  induction hs generalizing s with
  | nil => exact h.resolve_left List.not_mem_nil
  | cons p hs ih =>
    obtain ⟨hp, hrest⟩ := List.forall_mem_cons.1 hhs
    rw [List.map_cons, List.mem_cons] at h
    refine ih hrest ?_
    rcases h with (he | hm) | hold
    · exact .inr (State.putLimits_signed l d hp hi (.inl he))
    · exact .inl hm
    · exact .inr (State.putLimits_signed l d hp hi (.inr hold))

theorem estLimits_signed {s : State} (hfresh : s.estFresh = true) : ∃ t, exec .estLimits s = .next t ∧
    ∀ i, i < 4 → 0 ≤ t.rdI (F.EST_ICHG_MA i) ∧ t.rdI (F.EST_IDIS_MA i) ≤ 0 := by
  refine ⟨horizons.foldl (State.putLimits s.estList) s, congrArg Host.Outcome.next (if_pos hfresh), fun i hi => ?_⟩
  have hmem : i ∈ horizons.map Prod.fst := by
    have hall : ∀ j, j < 4 → j ∈ horizons.map Prod.fst := by decide
    exact hall i hi
  have hsigned := fun d => State.horizons_signed s.estList d hi (hs := horizons) (s := s) (by decide) (.inl hmem)
  exact ⟨hsigned true, hsigned false⟩

/-! ### Limits without fresh states (R240) -/

/-- A field reads what the last of several writes to it stored; where all store one value, that value. -/
theorem State.rd_wrs_agreeing (s : State) {l : List (Field × Nat)} {f : Field} {v : Nat} (hmem : ∃ p ∈ l, p.1.key = f.key)
    (hv : ∀ p ∈ l, p.1.key = f.key → p.2 % 2 ^ p.1.width = v) : (s.wrs l).rd f = v := by
  induction l generalizing s with
  | nil => obtain ⟨p, hp, -⟩ := hmem; cases hp
  | cons p l ih =>
    obtain ⟨hp, hl⟩ := List.forall_mem_cons.1 hv
    by_cases hlater : ∃ q ∈ l, q.1.key = f.key
    · exact ih _ hlater hl
    · have hkey : p.1.key = f.key := by
        obtain ⟨q, hq, hk⟩ := hmem
        rcases List.mem_cons.1 hq with rfl | hq
        · exact hk
        · exact absurd ⟨q, hq, hk⟩ hlater
      refine (State.rd_wrs_ne (s.wr p.1 p.2) f l fun q hq e => hlater ⟨q, hq, e.symm⟩).trans ?_
      refine Eq.trans ?_ (hp hkey)
      show Tbl.get f.reset (Tbl.put s.regs p.1.key (p.2 % 2 ^ p.1.width)) f.key = _
      rw [← hkey, Tbl.get_put_same]

/-- The registers of R240 without fresh states: code 8, no cell, and 0 for every limit. -/
def staleLimits : List (Field × Nat) :=
  [(F.EST_LIMIT_WHY_CHG, 0x8888), (F.EST_LIMIT_WHY_DIS, 0x8888), (F.EST_LIMIT_CELL_CHG_CELL, 0), (F.EST_LIMIT_CELL_DIS_CELL, 0)] ++
    horizons.flatMap fun h => [(F.EST_ICHG_MA h.1, 0), (F.EST_IDIS_MA h.1, 0), (F.EST_PCHG_W h.1, 0), (F.EST_PDIS_W h.1, 0)]

/-- Every write of `staleLimits` to the field `f` stores `v`, and one does. -/
abbrev staleReads (f : Field) (v : Nat) : Prop :=
  (∃ p ∈ staleLimits, p.1.key = f.key) ∧ ∀ p ∈ staleLimits, p.1.key = f.key → p.2 % 2 ^ p.1.width = v

theorem State.rd_stale (s : State) {f : Field} {v : Nat} (h : staleReads f v) : (s.wrs staleLimits).rd f = v := s.rd_wrs_agreeing h.1 h.2

theorem estLimits_stale {s : State} (hstale : s.estFresh = false) : ∃ t, exec .estLimits s = .next t ∧ t.rd F.EST_LIMIT_WHY_CHG = 0x8888 ∧
    t.rd F.EST_LIMIT_WHY_DIS = 0x8888 ∧
    ∀ i, i < 4 → t.rd (F.EST_ICHG_MA i) = 0 ∧ t.rd (F.EST_IDIS_MA i) = 0 ∧ t.rd (F.EST_PCHG_W i) = 0 ∧ t.rd (F.EST_PDIS_W i) = 0 := by
  have hzero : ∀ i, i < 4 → staleReads (F.EST_ICHG_MA i) 0 ∧ staleReads (F.EST_IDIS_MA i) 0 ∧ staleReads (F.EST_PCHG_W i) 0 ∧
      staleReads (F.EST_PDIS_W i) 0 := by decide
  refine ⟨s.wrs staleLimits, congrArg Host.Outcome.next (if_neg (by simp [hstale])), s.rd_stale (by decide), s.rd_stale (by decide),
    fun i hi => ?_⟩
  obtain ⟨hichg, hidis, hpchg, hpdis⟩ := hzero i hi
  exact ⟨s.rd_stale hichg, s.rd_stale hidis, s.rd_stale hpchg, s.rd_stale hpdis⟩

/-! ### Slot 0 at rest (R220) -/

theorem State.seDisable_est (s : State) (k : Nat) : (s.seDisable k).est = s.est := by
  unfold State.seDisable
  extract_lets x s1
  split
  · exact s1.finish_est _ _ _ _
  · rfl

theorem estSlot0Park_parks {s : State} (hopen : s.closed = false) (hidle : s.safe.closing = .idle) (hon : s.seEnabled 0 = true)
    (hrun : s.est.parked = false) (hdeep : 2 ≤ powerFloor s.mode (s.rd F.PWR_LAT_TOL_TOL_US))
    (hrest : ∀ i ∈ s.cellList, 60 ≤ (s.estCell i).restS) :
    ∃ t, exec .estSlot0Park s = .next t ∧ t.est.parked = true ∧ t.est.carried = s.seInsts 0 ∧ (t.seSlot 0).disabling = true := by
  let s1 : State := { s with est.parked := true, est.carried := s.seInsts 0, est.load := none, est.readAt := none }
  have hawake : (s.cellList.any fun i => decide ((s.estCell i).restS < 60)) = false := by simpa using hrest
  have hfloor : ¬powerFloor s.mode (s.rd F.PWR_LAT_TOL_TOL_US) ≤ 1 := by omega
  refine ⟨s1.seDisable 0, congrArg Host.Outcome.next (if_neg (by simp [hopen, hidle, hon, hrun, hawake, hfloor])), ?_, ?_, ?_⟩
  · rw [s1.seDisable_est]
  · rw [s1.seDisable_est]
  · rw [s1.seDisable_slot]

theorem estSlot0Park_stays {s : State} (h : s.closed = true ∨ s.safe.closing ≠ .idle ∨ (∃ i ∈ s.cellList, (s.estCell i).restS < 60) ∨
    powerFloor s.mode (s.rd F.PWR_LAT_TOL_TOL_US) ≤ 1) : exec .estSlot0Park s = .next s := by
  refine congrArg Host.Outcome.next (if_pos ?_)
  rcases h with h | h | h | h
  · simp [h]
  · simp [h]
  · have hany : (s.cellList.any fun i => decide ((s.estCell i).restS < 60)) = true := by simpa using h
    rw [hany, Bool.or_true]
  · simp [h]

/-! ### The hourly judgement (R236) -/

theorem learnWriteHourly_first {s : State} (hnone : s.newest = none) : exec .learnWriteHourly s = .next s.learnTrigger := by
  show execLearnWriteHourly s = _
  unfold execLearnWriteHourly
  rw [hnone]

theorem learnWriteHourly_early {s : State} (hsome : s.newest ≠ none) (hage : s.time.count - s.est.lastWrite < 15000000000) :
    exec .learnWriteHourly s = .next s := by
  obtain ⟨⟨k, old⟩, hold⟩ := Option.ne_none_iff_exists'.1 hsome
  show execLearnWriteHourly s = _
  unfold execLearnWriteHourly
  rw [hold]
  exact congrArg Host.Outcome.next (if_neg (by omega))

/-! ### The end of a write (R237) -/

/-- The target of a write that read back whole takes its record with its mark, and no write is in progress. -/
def State.slotMarked (s : State) (k : Nat) (r : LearnRec) : State :=
  if k = 0 then { s with est.writing := none, est.slotA := { r with valid := true } }
  else { s with est.writing := none, est.slotB := { r with valid := true } }

/-- The mirror takes the record too unless it is held. -/
def State.learnMarked (s : State) (k : Nat) (r : LearnRec) : State :=
  if (s.slotMarked k r).recorder.mirrorHeld then s.slotMarked k r else { s.slotMarked k r with est.mirror := { r with valid := true } }

/-- The registers and the flag of a write that read back whole. -/
def State.learnShown (s : State) (k : Nat) (r : LearnRec) : State :=
  (s.wrs [(F.EST_STATUS_WRITE_DEFERRED, 0), (F.EST_STATUS_SLOT, k), (F.EST_LEARN_GEN_GENERATION, r.gen)]).flag Fl.EST_EVENT_WRITE_DONE {}

theorem State.slotMarked_shows (s : State) (k : Nat) (r : LearnRec) : (s.slotMarked k r).est.writing = none ∧
    (s.slotMarked k r).est.pending = s.est.pending ∧
    (if k = 0 then (s.slotMarked k r).est.slotA else (s.slotMarked k r).est.slotB) = { r with valid := true } := by
  by_cases hk : k = 0
  · rw [show s.slotMarked k r = _ from if_pos hk, if_pos hk]
    exact ⟨rfl, rfl, rfl⟩
  · rw [show s.slotMarked k r = _ from if_neg hk, if_neg hk]
    exact ⟨rfl, rfl, rfl⟩

theorem State.learnMarked_shows (s : State) (k : Nat) (r : LearnRec) : (s.learnMarked k r).est.writing = none ∧
    (s.learnMarked k r).est.pending = s.est.pending ∧
    (if k = 0 then (s.learnMarked k r).est.slotA else (s.learnMarked k r).est.slotB) = { r with valid := true } := by
  unfold State.learnMarked
  split
  · exact s.slotMarked_shows k r
  · exact s.slotMarked_shows k r

theorem State.learnShown_est (s : State) (k : Nat) (r : LearnRec) : (s.learnShown k r).est = s.est := (State.flag_est _ _ _).trans (s.wrs_est _)

theorem State.learnShown_reads (s : State) {k : Nat} (r : LearnRec) (hk : k ≤ 1) : (s.learnShown k r).rd F.EST_STATUS_SLOT = k ∧
    (s.learnShown k r).rd F.EST_LEARN_GEN_GENERATION = r.gen % 2 ^ 32 ∧ (s.learnShown k r).rd F.EST_STATUS_WRITE_DEFERRED = 0 ∧
    (s.learnShown k r).rd Fl.EST_EVENT_WRITE_DONE.bit = 1 := by
  have hflag := State.flag_noted (s.wrs [(F.EST_STATUS_WRITE_DEFERRED, 0), (F.EST_STATUS_SLOT, k), (F.EST_LEARN_GEN_GENERATION, r.gen)])
    Fl.EST_EVENT_WRITE_DONE {}
  exact ⟨(hflag.regs _ (by decide)).trans ((State.rd_wrs_get s 1).trans (Nat.mod_eq_of_lt (Nat.lt_succ_of_le hk))),
    (hflag.regs _ (by decide)).trans (State.rd_wrs_get s 2), (hflag.regs _ (by decide)).trans ((State.rd_wrs_get s 0).trans (Nat.zero_mod _)),
    State.flag_bit _ _ _⟩

section
variable {s : State} {k : Nat} {r : LearnRec} (hwriting : s.est.writing = some (k, r)) (hfree : s.est.pending = false)
include hwriting hfree

theorem State.learnEnd_whole : s.learnEnd true = ((s.learnMarked k r).learnShown k r).finish 0x0408 0 .ok := by
  have hpending : (((s.learnMarked k r).learnShown k r).finish 0x0408 0 .ok).est.pending = false := by
    rw [State.finish_est, State.learnShown_est, (s.learnMarked_shows k r).2.1, hfree]
  unfold State.learnEnd
  rw [hwriting]
  exact if_neg (ne_true_of_eq_false hpending)

theorem writeDone_marks (hk : k ≤ 1) : ∃ t, exec (.writeDone true) s = .next t ∧
    (if k = 0 then t.est.slotA else t.est.slotB) = { r with valid := true } ∧ t.est.writing = none ∧ t.rd F.EST_STATUS_SLOT = k ∧
    t.rd F.EST_LEARN_GEN_GENERATION = r.gen % 2 ^ 32 ∧ t.rd F.EST_STATUS_WRITE_DEFERRED = 0 ∧ t.rd Fl.EST_EVENT_WRITE_DONE.bit = 1 := by
  let s1 := (s.learnMarked k r).learnShown k r
  have hest : (s1.finish 0x0408 0 .ok).est = (s.learnMarked k r).est := (s1.finish_est _ _ _ _).trans (State.learnShown_est _ k r)
  obtain ⟨-, hans, -⟩ := s1.finish_frame 0x0408 0 .ok []
  obtain ⟨hwritten, -, hmark⟩ := s.learnMarked_shows k r
  obtain ⟨hslot, hgen, hdeferred, hbit⟩ := (s.learnMarked k r).learnShown_reads r hk
  refine ⟨s1.finish 0x0408 0 .ok, congrArg Host.Outcome.next (State.learnEnd_whole hwriting hfree), ?_, ?_, (hans _ (by decide)).trans hslot,
    (hans _ (by decide)).trans hgen, (hans _ (by decide)).trans hdeferred, (hans _ (by decide)).trans hbit⟩
  · rw [hest, hmark]
  · rw [hest, hwritten]

theorem writeDone_fails : ∃ t, exec (.writeDone false) s = .next t ∧ t.est.slotA = s.est.slotA ∧ t.est.slotB = s.est.slotB ∧
    t.est.writing = none ∧ t.rd Fl.EST_EVENT_WRITE_FAIL.bit = 1 := by
  let s1 : State := { s with est.writing := none }
  let s2 : State := s1.flag Fl.EST_EVENT_WRITE_FAIL { system := true, status := .internal }
  have hest : (s2.finish 0x0408 0 .internal).est = s1.est := (s2.finish_est _ _ _ _).trans (s1.flag_est _ _)
  have hpending : (s2.finish 0x0408 0 .internal).est.pending = false := (congrArg EstState.pending hest).trans hfree
  have hend : s.learnEnd false = s2.finish 0x0408 0 .internal := by
    unfold State.learnEnd
    rw [hwriting]
    exact if_neg (ne_true_of_eq_false hpending)
  obtain ⟨-, hans, -⟩ := s2.finish_frame 0x0408 0 .internal []
  refine ⟨_, congrArg Host.Outcome.next hend, ?_, ?_, ?_, (hans _ (by decide)).trans (s1.flag_bit _ _)⟩
  · rw [hest]
  · rw [hest]
  · rw [hest]

end

theorem writeDone_idle {s : State} (b : Bool) (hnone : s.est.writing = none) : exec (.writeDone b) s = .next s := by
  show Host.Outcome.next (s.learnEnd b) = _
  unfold State.learnEnd
  rw [hnone]

/-- Settles O31: each clause is its event's lemma. -/
theorem limitsParkingAndLearnedState : Obligations.LimitsParkingAndLearnedState := by
  unfold Obligations.LimitsParkingAndLearnedState
  exact ⟨fun _ hfresh => estLimits_signed hfresh,
    fun _ hstale => estLimits_stale hstale,
    fun _ hopen hidle hon hrun hdeep hrest => estSlot0Park_parks hopen hidle hon hrun hdeep hrest,
    fun _ h => estSlot0Park_stays h,
    fun _ hnone => learnWriteHourly_first hnone,
    fun _ hsome hage => learnWriteHourly_early hsome hage,
    fun _ _ _ hwriting hk hfree => writeDone_marks hwriting hfree hk,
    fun _ _ _ hwriting hfree => writeDone_fails hwriting hfree,
    fun _ b hnone => writeDone_idle b hnone⟩

end Sys2Proof.Machine
end
